-- ==== Sys2Proof/Word.lean ====
section
/-! DEFINITION. The word of the register space (64 bits, R5) and the octet. -/

namespace Sys2Proof

/-- A register value: 64 bits (Registers and access codes). -/
abbrev Word := BitVec 64

/-- One octet of a frame or of a memory. -/
abbrev Byte := BitVec 8

end Sys2Proof
end

