-- ==== Sys2Proof/Syntax.lean ====
section
/-! DEFINITION. The commands of the module: one constructor per row of the opcode table, with the row's operands. -/

namespace Sys2Proof

/-- The access paths (R358), with the path numbers of R380: the physical function, the virtual function of a Hedge, DMP,
the supervisor, microcode of a cluster, and JTAG. -/
inductive Path where
  | pf
  | vf (hedge : Fin 16)
  | dmp
  | sup
  | cluster (c : Fin 4)
  | jtag
  deriving DecidableEq, Repr

/-- A hardware thread by its cluster, logical engine and number (R250). -/
structure ThreadRef where
  cluster : Fin 4
  engine : Fin 16
  thread : Fin 48
  deriving DecidableEq, Repr

/-- The two ALUs of a microword (R253). -/
inductive AluUnit where
  | a
  | b
  deriving DecidableEq, Repr

/-- The ALU part of a microword (R253): the thread, the unit, the two source codes (R254), the destination, IMM, and the
condition CND that SEL tests (R258); bad tells that a header-buffer word it names fails its check (R440). -/
structure AluArgs where
  t : ThreadRef
  unit : AluUnit
  srcA : Fin 64
  srcB : Fin 64
  dest : Fin 32
  imm : BitVec 16
  cnd : Fin 32
  bad : Bool
  deriving DecidableEq, Repr

/-- The sequencing part of a microword (R259, R260): the thread, TGT, CND, the ASA source with IMM (for DISPATCH), and FEN. -/
structure SeqArgs where
  t : ThreadRef
  tgt : Fin 32768
  cnd : Fin 32
  srcA : Fin 64
  imm : BitVec 16
  fen : Fin 4
  deriving DecidableEq, Repr

/-- The memory part of a microword (R263): the thread, the MAD source with IMM, and MSP; bad tells that a LOCAL
word it reads fails its check (R440). -/
structure MemArgs where
  t : ThreadRef
  mad : Fin 64
  imm : BitVec 16
  msp : Fin 8
  bad : Bool
  deriving DecidableEq, Repr

/-- What the egress read of a copy meets (R153 to R156): nothing; a stored octet that reads changed by a mask; an uncorrectable
SECDED error; or a parity error at the input of the FCS generator. -/
inductive ReadFault where
  | clean
  | changed (pos : Nat) (mask : BitVec 8)
  | uncorrectable (bank : Fin 52)
  | parity
  deriving DecidableEq, Repr

/-- A frame an internal source injects (R18): from host DMA of a Hedge or from the supervisor, with the VID its descriptor names and
its octets without the FCS; or the oldest frame that an engine cluster's queue operations wait to inject. -/
inductive Injected where
  | host (hedge : Fin 16) (vid : BitVec 12) (octets : List (BitVec 8))
  | sup (hedge : Fin 16) (vid : BitVec 12) (octets : List (BitVec 8))
  | cluster (c : Fin 4)
  deriving DecidableEq, Repr

/-- A unit that sleeps, drains and wakes (R57 to R61). -/
inductive PortOrTile where
  | port (p : Fin 128)
  | tile (t : Fin 8)
  deriving DecidableEq, Repr

/-- Which up condition a port lost (R46, R68): signal, or the lock of one of its lanes, named by its place in the port. -/
inductive LinkLoss where
  | signal
  | lock (lane : Fin 16)
  deriving DecidableEq, Repr

/-- What the reference monitor's counters found in a 1 s window (R214), each as its difference from nominal in units of 10⁻¹⁵: the TIME
clock, and OCXO-A, OCXO-B and REF10_IN where they gave edges. -/
structure MonMeas where
  clk : Int
  ocxoA : Option Int
  ocxoB : Option Int
  ref10 : Option Int
  deriving DecidableEq, Repr


/-- How an SDRAM burst ends (R310): with its CRCs good; one device's part rebuilt; read once more; uncorrectable; or, for a write, after
repeats. -/
inductive BurstEnd where
  | good
  | corrected (device : Fin 5)
  | retried
  | uncorrectable
  | writeRetries (n : Fin 5)
  deriving DecidableEq, Repr


/-- What a scrub read finds (R435, R437): a corrected word; data lost; a classifier rule whose shadow alone fails, or whose match array
is rewritten from its shadow; one copy of a side slot's link or reference count, or both. -/
inductive FindKind where
  | corrected
  | lost
  | shadow
  | rewritten
  | oneCopy
  | bothCopies
  deriving DecidableEq, Repr

/-- What a port's line tells of a frame: a symbol error in it, the FEC codewords or blocks with corrected errors up to its end since the frame
before, and for each uncorrectable one among them the lane at fault (R51, R61, R441). -/
structure LineErrs where
  symbol : Bool := false
  corrected : Nat := 0
  uncorrectable : List (Fin 128) := []
  deriving DecidableEq, Repr

/-- One finding of a scrub slice: the memory m of R434, what was found, the part of the memory (a bank, table, cluster or tile; for
memory 9 the table code of R461), the location, and for a list of copies the place in it. -/
structure ScrubFind where
  mem : Fin 18
  kind : FindKind
  part : Nat
  index : Nat
  place : Nat
  deriving DecidableEq, Repr

/-- What a scrub slice finds, oldest first, and whether the tick's ending boundary cuts it short (R34). -/
structure ScrubRun where
  finds : List ScrubFind
  cut : Bool
  deriving DecidableEq, Repr

/-- What a feed self-test cycle measures of one path (R473): the mean voltage (10 mV); the ripple (mV); the load pulse's current (mA) and
droop (mV); the reverse current (mA); the comparator's response; the forward drop (mV); and the present current (mA). -/
structure FeedTest where
  volts : Nat
  rippleMv : Nat
  pulseMa : Nat
  droopMv : Nat
  reverseMa : Nat
  responds : Bool
  dropMv : Nat
  loadMa : Nat := 0
  deriving DecidableEq, Repr

/-- Why a PMBus transaction is invalid (R479). -/
inductive BadCommand where
  | undefined
  | readOnly
  | badPec
  deriving DecidableEq, Repr

/-- A PCI Express configuration write (R344, R348): NumVFs; bus mastering of a function, 0 the physical one and n virtual function n; or the
mask of a function's MSI-X vector. -/
inductive PcieWrite where
  | numVfs (n : Fin 17)
  | busMaster (fn : Fin 17) (on : Bool)
  | mask (fn : Fin 17) (v : Fin 32) (on : Bool)
  deriving DecidableEq, Repr

/-- A window set of indirect access (R371): the block, and the path or the cluster whose set it is. -/
inductive Window where
  | par
  | cls (p : Path)
  | fdb (p : Path)
  | tbl (p : Path)
  | lpm (p : Path)
  | voq
  | edit
  | gate (p : Path)
  | shp (p : Path)
  | pol (p : Path)
  | cs (c : Fin 4)
  | sample (c : Fin 4)
  | dram (p : Path)
  | grf
  deriving DecidableEq, Repr

/-- The core-fatal fault (R483): a CORE, LKP or TIME PLL out of lock, a die core rail out of regulation, or buffer state that cannot be
repaired. -/
inductive ResetCause where
  | pll
  | rail
  | bufferState
  deriving DecidableEq, Repr

/-- What a start-up finds by measurement (R383, R385, R389, R390): milliseconds after die power-on reset at which steps 4, 6, 8 and 9 end;
the levels of BOOT_SEL and SLOT_ID; spares that fail their self-test, units in use that fail theirs (class and LOCATION), and SDRAM
channels that do not train. -/
structure StartFound where
  verifyMs : Nat
  trainMs : Nat
  topiaryMs : Nat
  serviceMs : Nat
  bootSel : Fin 4
  slotId : Fin 16
  spareFails : List Nat
  unitFails : List (Nat × Nat)
  trainFails : List (Fin 2)
  deriving DecidableEq, Repr


/-- The commands (spec/opcode_table.json): each is one whole, indivisible step of the module. -/
inductive Instr where
  /-- REGISTER_WRITE (R5): A write to a register that has no row of its own takes effect according to the access code of each field. -/
  | registerWrite (p : Path) (off : Nat) (len : Nat) (v : Word)
  /-- SEQUENCE_CLEAR (R369): A clear write to an SQC register clears the marked fields only when it carries the current SEQ. -/
  | sequenceClear (p : Path) (off : Nat) (v : Word)
  /-- UNLOCK (R367): A write to GLB_UNLOCK arms the writing path for one key-guarded group, or disarms it. -/
  | unlock (p : Path) (group : BitVec 4) (key : BitVec 16)
  /-- LOCK (R363): A write of 1 to a GLB_LOCK bit locks that reset-locked group until a power-on or device reset. -/
  | lock (p : Path) (bits : BitVec 5)
  /-- JTAG_LOW_WRITE (R361): A JTAG low-half write is held in the path's holding word. -/
  | jtagLowWrite (v : BitVec 32)
  /-- JTAG_HIGH_WRITE (R361): A JTAG high-half write applies all 64 bits together with the held low half. -/
  | jtagHighWrite (off : Nat) (v : BitVec 32)
  /-- JTAG_INSTRUCTION (R504): The TAP loads an instruction; a pin-controlling instruction is accepted only while RESET_N is low. -/
  | jtagInstruction (pinControl resetLow : Bool) (code : BitVec 8)
  /-- TICK_COMMIT (R29): At each tick boundary the staged writes of the tick commit together, and the tick number advances. -/
  | tickCommit
  /-- TICK_PERIOD_WRITE (R26): A write to GLB_TICK_CFG.PERIOD is held pending for the next whole second, or is refused while schedules run. -/
  | tickPeriodWrite (p : Path) (period : BitVec 4)
  /-- PERIOD_CHANGE (R26): A pending tick period takes effect at the next whole-second boundary of network time. -/
  | periodChange
  /-- TICK_JOB_DUE (R276): At a commit, every due tick-job entry enqueues one job to TT, unless the entry is shed or skipped. -/
  | tickJobDue
  /-- FENCE (R37): A non-zero token written to GLB_FENCE inserts markers into every ring and job queue. -/
  | fence (p : Path) (token : BitVec 32)
  /-- FENCE_DONE (R37): Once every earlier accepted write has taken effect, the token is placed in GLB_FENCE_DONE. -/
  | fenceDone
  /-- TICK_FENCE (R39): A token written to GLB_TICK_FENCE sets BUSY until the next commit. -/
  | tickFence (p : Path) (token : BitVec 32)
  /-- FRAME_RECEIVED (R12): A whole frame received on a front port is checked, parsed, classified, looked up, policed and, in store-and-forward, admitted. -/
  | frameReceived (p : Fin 128) (octets : List Byte) (line : LineErrs) (ago : Nat)
  /-- CT_INGRESS_DECISION (R150): The ingress decision on a header window sends a candidate cut-through, or makes it fall back to store-and-forward. -/
  | ctIngressDecision (p : Fin 128) (octets : List Byte) (line : LineErrs) (ago : Nat)
  /-- CT_FRAME_END (R151): The end of a cut-through frame arrives; a bad frame has its outgoing FCS stamped invalid. -/
  | ctFrameEnd (p : Fin 128) (fault : ReadFault)
  /-- INTERNAL_INJECT (R18): A frame from host DMA, the supervisor or an engine cluster enters an ingress pipeline in a free slot. -/
  | internalInject (w : Injected)
  /-- EGRESS_SELECT (R182): When a port's transmitter can start a frame, the scheduler chooses the class, the source and the frame, subject to gates, shapers and launch times. -/
  | egressSelect (d : Fin 134) (fault : ReadFault)
  /-- COPY_DEPARTED (R228): A copy finishes leaving its port; a transmit-stamp job is enqueued when TS_JOB is set. -/
  | copyDeparted (d : Fin 134)
  /-- PFC_SEND (R50): A PFC frame leaves at the next frame boundary, within the PFC gate class window. -/
  | pfcSend (p : Fin 128)
  /-- PFC_REFRESH (R49): While XOFF persists, the refresh interval expires and the PFC frame is resent. -/
  | pfcRefresh (p : Fin 128)
  /-- PAUSE_RECEIVED (R47): A received MAC control frame pauses obeyed classes, or is counted and discarded. -/
  | pauseReceived (p : Fin 128) (octets : List Byte)
  /-- PAUSE_EXPIRY (R48): The pause timer of a class runs out, and the class is unpaused. -/
  | pauseExpiry (p : Fin 128) (c : Fin 8)
  /-- LPI_ENTRY (R55): No frame has been eligible for IDLE_US, so the transmitter enters low-power idle. -/
  | lpiEntry (p : Fin 128)
  /-- RX_LPI_ENTRY (R56): The receiver sees a low-power indication and enters low-power idle; no class is paused. -/
  | rxLpiEntry (p : Fin 128)
  /-- PORT_CFG_WRITE (R42): A write to PRT_PORT_CFG changing type, FEC, negotiation or loopback is accepted only when the port and lane map allow it. -/
  | portCfgWrite (path : Path) (p : Fin 128) (v : Word)
  /-- AN_RESTART (R43): A failed negotiation is restarted every 1 s, with AN_FAIL held. -/
  | anRestart (p : Fin 128)
  /-- TRAINING_FAIL (R45): A lane fails to train within the clause's wait time; negotiation restarts and a link-down is counted. -/
  | trainingFail (p lane : Fin 128)
  /-- LINK_UP (R46): Every up condition holds, and the port enters the up state. -/
  | linkUp (p : Fin 128)
  /-- LINK_DOWN (R46): A loss of an up condition lasting 10 µs takes the port down and flushes its queues and FDB entries as configured. -/
  | linkDown (p : Fin 128) (why : LinkLoss)
  /-- PORT_SLEEP (R57): ADMIN = 2 puts a port to sleep after its drain or flush policy; it is refused during a wake. -/
  | portSleep (path : Path) (p : Fin 128)
  /-- TILE_STATE_REQUEST (R57): A write to PRT_TILE_CTL.STATE_REQ asks for ON, SLEEP or DOWN, and is refused during a wake. -/
  | tileStateRequest (path : Path) (t : Fin 8) (v : Word)
  /-- HOST_WAKE (R58): ADMIN = 1 to a sleeping port, or STATE_REQ = 0 to a sleeping tile, requests or joins a wake. -/
  | hostWake (path : Path) (u : PortOrTile)
  /-- REMOTE_WAKE (R58): Signal detected for 10 µs on an eligible lane requests or joins a wake. -/
  | remoteWake (lane : Fin 128)
  /-- WAKE_DONE (R58): A port or tile wake completes, and every request in it is reported satisfied. -/
  | wakeDone (u : PortOrTile)
  /-- DRAIN_DONE (R161): The queued copies to a draining tile or port are gone, and the drain ends. -/
  | drainDone (u : PortOrTile)
  /-- DRAIN_LIMIT (R161): DRAIN_LIMIT_US passes, and the remaining copies are discarded with EGRESS_DOWN. -/
  | drainLimit (u : PortOrTile)
  /-- LANE_THRESHOLD (R65): A lane's bucket crosses its threshold, the port goes down and a loopback test starts. -/
  | laneThreshold (lane : Fin 128)
  /-- LANE_TEST_DONE (R65): The loopback test ends; a failing lane retires, otherwise LINK_FAULT is set and links resume. -/
  | laneTestDone (p : Fin 128) (failing : List (Fin 128))
  /-- PARSE_WRITE (R74): A parse-graph window write stages a node or transition for the tick's commit. -/
  | parseWrite (path : Path) (v : Word)
  /-- PARSE_READ (R32): A parse-graph window read returns the staged entry if one is pending, otherwise the committed entry. -/
  | parseRead (path : Path) (v : Word)
  /-- RULE_WRITE (R88): A classifier WRITE applies a rule in one act, and is refused on a valid entry unless FORCE is 1. -/
  | ruleWrite (path : Path) (v : Word)
  /-- RULE_READ (R88): A classifier read copies a rule into the path's staging set. -/
  | ruleRead (path : Path) (v : Word)
  /-- RULE_INVALIDATE (R88): A classifier INVALIDATE removes a rule in one LKP cycle. -/
  | ruleInvalidate (path : Path) (v : Word)
  /-- SLICE_CFG_WRITE (R92): A CLS_SLICE_CFG write is checked for owner, format and pair, and an accepted owner change invalidates the slice's rules. -/
  | sliceCfgWrite (path : Path) (slice : Fin 24) (v : Word)
  /-- WINDOW_COMMAND_DONE (R372): A window command completes; BUSY clears and the path's held writes are accepted in order. -/
  | windowCommandDone (w : Window)
  /-- LEARN_INSERT (R106): A queued learn request is inserted under the insertion and quota rules. -/
  | learnInsert
  /-- FDB_INSERT (R107): An FDB INSERT command adds or updates an entry, subject to quota. -/
  | fdbInsert (path : Path) (v : Word)
  /-- FDB_DELETE (R110): An FDB DELETE by key removes an entry. -/
  | fdbDelete (path : Path) (v : Word)
  /-- FDB_SEARCH (R110): An FDB SEARCH by key returns the entry and its location. -/
  | fdbSearch (path : Path) (v : Word)
  /-- FDB_READ (R110): An FDB READ by location returns the entry. -/
  | fdbRead (path : Path) (v : Word)
  /-- FDB_WRITE (R110): An FDB WRITE by location writes an entry, and is refused if it would duplicate a key. -/
  | fdbWrite (path : Path) (v : Word)
  /-- FLUSH (R111): An FDB FLUSH walks every location and removes entries that match its selectors. -/
  | flush (path : Path) (v : Word)
  /-- BUCKET_READ (R107): A BUCKET read returns a bucket's FAIL_COUNT. -/
  | bucketRead (path : Path) (v : Word)
  /-- BUCKET_READ_CLEAR (R107): A BUCKET read-and-clear returns and clears a bucket's FAIL_COUNT. -/
  | bucketReadClear (path : Path) (v : Word)
  /-- TABLE_WRITE (R137): An FDB_TBL_CMD write applies all words of a direct-indexed table entry in one act. -/
  | tableWrite (path : Path) (v : Word)
  /-- TABLE_READ (R137): An FDB_TBL_CMD read returns a direct-indexed table entry. -/
  | tableRead (path : Path) (v : Word)
  /-- PRUNER_STEP (R116): The Pruner sweeps buckets and Thicket entries, ages or removes dynamic entries, and promotes Thicket entries. -/
  | prunerStep
  /-- FRER_RESET (R122): When no frame has passed for RESET_MS, microcode sets TAKE_ANY in the FRER entry. -/
  | frerReset (f : Fin 16384)
  /-- LPM_WRITE (R132): An LPM window write sets a trie or associative entry atomically and starts the grace period. -/
  | lpmWrite (path : Path) (v : Word)
  /-- LPM_READ (R132): An LPM window read returns an entry. -/
  | lpmRead (path : Path) (v : Word)
  /-- CLEAR_NODE (R132): CLEAR_NODE clears a trie node over 256 LKP cycles. -/
  | clearNode (path : Path) (v : Word)
  /-- GRACE_END (R132): One microsecond after a CHILD or root change, GRACE clears. -/
  | graceEnd
  /-- VOQ_READ_OCCUPANCY (R141): A QUE_VOQ_CMD read returns the occupancy of a VOQ. -/
  | voqReadOccupancy (path : Path) (v : Word)
  /-- VOQ_READ_HEAD (R140): A QUE_VOQ_CMD read returns the descriptor fields of a VOQ's head copy. -/
  | voqReadHead (path : Path) (v : Word)
  /-- TEMPLATE_WRITE (R158): An edit template is written in one act. -/
  | templateWrite (path : Path) (v : Word)
  /-- TEMPLATE_READ (R158): An edit template is read. -/
  | templateRead (path : Path) (v : Word)
  /-- HEDGE_WALK_DONE (R163): The buffer walk of a Hedge reset completes, RESETTING clears and HEDGE_FLUSHED is raised. -/
  | hedgeWalkDone (h : Fin 16)
  /-- POLICER_WRITE (R175): A policer WRITE is staged and resets its buckets at its commit. -/
  | policerWrite (path : Path) (v : Word)
  /-- POLICER_READ (R32): A policer entry read returns the staged entry if one is pending, otherwise the committed entry. -/
  | policerRead (path : Path) (v : Word)
  /-- POLICER_READ_BUCKETS (R32): A policer bucket read returns the live bucket levels. -/
  | policerReadBuckets (path : Path) (v : Word)
  /-- STREAM_SHAPER_WRITE (R181): A stream shaper WRITE is staged and resets its tokens at its commit. -/
  | streamShaperWrite (path : Path) (v : Word)
  /-- STREAM_SHAPER_READ (R32): A stream shaper entry read returns the staged or committed entry. -/
  | streamShaperRead (path : Path) (v : Word)
  /-- SHAPER_READ_TOKENS (R32): A stream shaper token read returns the live tokens. -/
  | shaperReadTokens (path : Path) (v : Word)
  /-- GATE_ENTRY_WRITE (R189): A gate-list entry write is refused in an operational bank or a bank that is the target of a pending switch. -/
  | gateEntryWrite (path : Path) (v : Word)
  /-- GATE_ENTRY_READ (R185): A gate-list entry is read. -/
  | gateEntryRead (path : Path) (v : Word)
  /-- CYCLE_START (R185): A tick boundary meets the cycle condition of a bank, and a new gate cycle starts. -/
  | cycleStart (p : Fin 128)
  /-- GATE_ENTRY_BEGIN (R186): A gate entry begins at its grain boundary, and the gates change. -/
  | gateEntryBegin (p : Fin 128)
  /-- LAUNCH_QUEUE_ENTRY (R193): A copy with a launch time at its VOQ head moves into the launch queue when there is room. -/
  | launchQueueEntry (source : Fin 134) (p : Fin 128) (c : Fin 8)
  /-- LAUNCH_DUE (R194): A launch-queue head's time T arrives and it becomes a candidate. -/
  | launchDue (p : Fin 128) (c : Fin 8)
  /-- ADJ_AUTO (R204): TIM_ADJ MODE 0 slews or steps by OFFSET according to STEP_US. -/
  | adjAuto (path : Path) (v : Word)
  /-- ADJ_STEP (R206): TIM_ADJ MODE 1 requests a step, applied at the next commit. -/
  | adjStep (path : Path) (v : Word)
  /-- ADJ_SLEW (R205): TIM_ADJ MODE 2 replaces any slew in progress with a slew by OFFSET. -/
  | adjSlew (path : Path) (v : Word)
  /-- ADJ_SET (R204): TIM_ADJ MODE 3 captures the set registers and sets the counter at the next commit. -/
  | adjSet (path : Path) (v : Word)
  /-- SLEW_DONE (R205): The slew remainder reaches zero, and the counter returns to 1 ns per cycle. -/
  | slewDone
  /-- FREQ_WRITE (R203): A TIM_FREQ write moves the reference PLL output within 10 µs, or is kept during holdover. -/
  | freqWrite (path : Path) (v : Word)
  /-- REF_PRIO_WRITE (R213): A TIM_REF_PRIO write reorders or enables references, and may force a reselection. -/
  | refPrioWrite (path : Path) (v : Word)
  /-- PTP_MEAS_WRITE (R214): The servo writes the PTP frequency and phase measurement for the monitor. -/
  | ptpMeasWrite (path : Path) (v : Word)
  /-- MONITOR_WINDOW (R214): A 1 s REF window ends: deviations are measured and reference states, selection and time state are updated. -/
  | monitorWindow (x : MonMeas)
  /-- REFERENCE_LOSS (R215): A reference's edges or measurement writes stop for their limit, and it becomes ABSENT. -/
  | referenceLoss (r : Fin 4)
  /-- OVEN_READY (R215): An OCXO's oven becomes ready and the OCXO starts qualifying. -/
  | ovenReady (b : Bool)
  /-- SERVO_TIMEOUT (R210): No TIM_ADJ write arrives for SERVO_TO_S seconds, and time enters HOLDOVER. -/
  | servoTimeout
  /-- HOLDOVER_EXPIRY (R210): HOLD_MAX_MIN minutes pass in holdover, and the time state becomes EXPIRED. -/
  | holdoverExpiry
  /-- PPS_EDGE (R229): A PPS_IN edge is stamped and TIM_PPS_ERR is updated; a label may set or be checked against the counter. -/
  | ppsEdge (ago cycles : Nat) (ref10 : Bool)
  /-- PPS_TOD_WRITE (R230): A TIM_PPS_TOD write arms a seconds label for the next edge. -/
  | ppsTodWrite (path : Path) (v : Word)
  /-- PPS_OUT_PULSE (R231): The counter crosses a whole second plus the offset, and PPS_OUT rises. -/
  | ppsOutPulse
  /-- PPS_OUT_END (R231): OUT_WIDTH_US passes, and PPS_OUT falls. -/
  | ppsOutEnd
  /-- ISLAND (R234): A write to TIM_ISLAND that changes its bits raises ISLAND. -/
  | island (path : Path) (v : Word)
  /-- RECORD_WRITE (R241): A writer stores a Clippings record in its ring in SDRAM and advances PROD, or drops it under FULL_MODE. -/
  | recordWrite (c : Fin 2)
  /-- RING_CFG_WRITE (R240): A CLP_RING_CFG write is refused on overlap, or resets the ring's geometry and indices. -/
  | ringCfgWrite (path : Path) (h : Fin 16) (v : Word)
  /-- CONS_WRITE (R241): A Clippings CONS write is accepted only when it moves forward and not past PROD. -/
  | consWrite (path : Path) (h : Fin 16) (cons : BitVec 32)
  /-- HOST_BASE_WRITE (R245): A CLP_HOST_BASE write places the host ring and sets both host indices to 0. -/
  | hostBaseWrite (path : Path) (h : Fin 16) (v : Word)
  /-- CLIPPINGS_FLUSH (R245): The flush tick-job delivers ring records to the host, DMP or export frames. -/
  | clippingsFlush (h : Fin 16) (c : Fin 4) (n : Nat)
  /-- JOB_START (R273): A thread comes free and the cluster starts the first eligible job from its sources. -/
  | jobStart (c : Fin 4)
  /-- NOP (R256): The ALU writes nothing and keeps its flags. -/
  | aluNop (x : AluArgs)
  /-- PASS (R256): The ALU result is the first source a. -/
  | aluPass (x : AluArgs)
  /-- ADD (R256): The ALU computes a + b. -/
  | aluAdd (x : AluArgs)
  /-- SUB (R256): The ALU computes a − b. -/
  | aluSub (x : AluArgs)
  /-- AND (R256): The ALU computes a AND b. -/
  | aluAnd (x : AluArgs)
  /-- OR (R256): The ALU computes a OR b. -/
  | aluOr (x : AluArgs)
  /-- XOR (R256): The ALU computes a XOR b. -/
  | aluXor (x : AluArgs)
  /-- ANDN (R256): The ALU computes a AND NOT b. -/
  | aluAndn (x : AluArgs)
  /-- SHL (R256): The ALU shifts a left by b[5:0]. -/
  | aluShl (x : AluArgs)
  /-- SHR (R256): The ALU shifts a right logically by b[5:0]. -/
  | aluShr (x : AluArgs)
  /-- SAR (R256): The ALU shifts a right arithmetically by b[5:0]. -/
  | aluSar (x : AluArgs)
  /-- ROR (R256): The ALU rotates a right by b[5:0]. -/
  | aluRor (x : AluArgs)
  /-- EXT (R256): The ALU extracts a bit field of a. -/
  | aluExt (x : AluArgs)
  /-- MIN (R256): The ALU computes the unsigned minimum of a and b. -/
  | aluMin (x : AluArgs)
  /-- MAX (R256): The ALU computes the unsigned maximum of a and b. -/
  | aluMax (x : AluArgs)
  /-- CMP (R256): The ALU sets the flags of a − b without writing a result. -/
  | aluCmp (x : AluArgs)
  /-- TEST (R256): The ALU sets the flags of a AND b without writing a result. -/
  | aluTest (x : AluArgs)
  /-- ADDC (R256): The ALU adds a, b and its own carry flag. -/
  | aluAddc (x : AluArgs)
  /-- BSWAP (R256): The ALU reverses the octets of a. -/
  | aluBswap (x : AluArgs)
  /-- POPCNT (R256): The ALU counts the ones in a. -/
  | aluPopcnt (x : AluArgs)
  /-- CLZ (R256): The ALU counts the leading zeros of a. -/
  | aluClz (x : AluArgs)
  /-- MUL (R256): The ALU multiplies the low 32 bits of a and b, unsigned. -/
  | aluMul (x : AluArgs)
  /-- CSUM (R256): The ALU computes a folded ones'-complement sum. -/
  | aluCsum (x : AluArgs)
  /-- CRC32 (R256): The ALU continues the CRC-32 over the octets of a. -/
  | aluCrc32 (x : AluArgs)
  /-- SEL (R256): The ALU selects a when the condition holds, otherwise b. -/
  | aluSel (x : AluArgs)
  /-- NEXT (R259): The thread continues at the next microaddress. -/
  | seqNext (x : SeqArgs)
  /-- JUMP (R259): The thread continues at TGT. -/
  | seqJump (x : SeqArgs)
  /-- BRANCH (R259): The thread continues at TGT when CND holds, otherwise at the next microaddress. -/
  | seqBranch (x : SeqArgs)
  /-- DISPATCH (R259): The thread continues at the dispatch entry named by a source. -/
  | seqDispatch (x : SeqArgs)
  /-- CALL (R259): The thread pushes its return address and jumps to TGT. -/
  | seqCall (x : SeqArgs)
  /-- RETURN (R259): The thread continues at the address popped from its return stack. -/
  | seqReturn (x : SeqArgs)
  /-- YIELD (R277): The thread yields behind the other ready threads; a tick job over budget stops here. -/
  | seqYield (x : SeqArgs)
  /-- END (R261): The job ends, its commit buffer is released, and any frame it still holds is orphaned. -/
  | seqEnd (x : SeqArgs)
  /-- FENCE_NEXT (R260): The thread continues once the fence that FEN names is satisfied. -/
  | seqFenceNext (x : SeqArgs)
  /-- MEMORY_FENCE (R260): The fence waits for the thread's earlier stores and atomics to complete. -/
  | memoryFence (t : ThreadRef)
  /-- QUEUE_FENCE (R260): The fence waits for the thread's earlier queue operations and pushes to be accepted. -/
  | queueFence (t : ThreadRef)
  /-- GLOBAL_FENCE (R260): The fence waits for memory, queue operations and register writes to take effect. -/
  | globalFence (t : ThreadRef)
  /-- RD8 (R263): Reads 8 bits from a memory space. -/
  | rd8 (x : MemArgs)
  /-- RD16 (R263): Reads 16 bits from a memory space. -/
  | rd16 (x : MemArgs)
  /-- RD32 (R263): Reads 32 bits from a memory space. -/
  | rd32 (x : MemArgs)
  /-- RD64 (R263): Reads 64 bits from a memory space. -/
  | rd64 (x : MemArgs)
  /-- RD128 (R263): Reads 128 bits from a memory space. -/
  | rd128 (x : MemArgs)
  /-- WR8 (R263): Stores 8 bits to a memory space. -/
  | wr8 (x : MemArgs)
  /-- WR16 (R263): Stores 16 bits to a memory space. -/
  | wr16 (x : MemArgs)
  /-- WR32 (R263): Stores 32 bits to a memory space. -/
  | wr32 (x : MemArgs)
  /-- WR64 (R263): Stores 64 bits to a memory space or a register. -/
  | wr64 (x : MemArgs)
  /-- WR128 (R263): Stores 128 bits to a memory space. -/
  | wr128 (x : MemArgs)
  /-- AADD64 (R263): An atomic add that returns the old value. -/
  | aadd64 (x : MemArgs)
  /-- AOR64 (R263): An atomic OR that returns the old value. -/
  | aor64 (x : MemArgs)
  /-- CAS64 (R263): An atomic compare-and-swap that returns the old value. -/
  | cas64 (x : MemArgs)
  /-- SWAP64 (R263): An atomic swap that returns the old value. -/
  | swap64 (x : MemArgs)
  /-- READ_RETURN (R265): A read's data arrive in RD0 and RD1, and RD_READY is set. -/
  | readReturn (t : ThreadRef)
  /-- HDR_VIEW (R268): The header window is moved to the lower or upper 128 octets. -/
  | hdrView (t : ThreadRef) (upper : Bool)
  /-- HDR_WRITE_A (R268): The ALU A result is written into a word of the header window. -/
  | hdrWriteA (t : ThreadRef) (word : Fin 16)
  /-- HDR_WRITE_B (R268): The ALU B result is written into a word of the header window. -/
  | hdrWriteB (t : ThreadRef) (word : Fin 16)
  /-- ENQUEUE (R269): The held frame re-enters with a named destination and is released. -/
  | qopEnqueue (t : ThreadRef) (mad : Fin 64) (imm : BitVec 16)
  /-- REINJECT (R270): The held frame re-enters for full classification and lookup and is released. -/
  | qopReinject (t : ThreadRef) (mad : Fin 64) (imm : BitVec 16)
  /-- DISCARD (R269): The held frame is freed and counted in ENG_DISCARD. -/
  | qopDiscard (t : ThreadRef) (mad : Fin 64) (imm : BitVec 16)
  /-- EXCEPTION (R269): The held frame goes to the exception path with a reason and is released. -/
  | qopException (t : ThreadRef) (mad : Fin 64) (imm : BitVec 16)
  /-- CLIP (R269): The frame's next re-entry is marked to write a CLASSIFIER Clipping. -/
  | qopClip (t : ThreadRef) (mad : Fin 64) (imm : BitVec 16)
  /-- COPY (R269): A copy of the frame re-enters with a named destination, and the job keeps the frame. -/
  | qopCopy (t : ThreadRef) (mad : Fin 64) (imm : BitVec 16)
  /-- ALLOC (R278): A timer is taken from the Hedge's reservation or from the shared pool. -/
  | tmrAlloc (t : ThreadRef)
  /-- ARM (R280): A timer is armed or re-armed with an expiry, an opcode and an ARG. -/
  | tmrArm (t : ThreadRef)
  /-- TIMER_CANCEL (R280): A timer is disarmed. -/
  | timerCancel (t : ThreadRef)
  /-- TIMER_READ (R280): A timer's remaining commits and armed state are read. -/
  | timerRead (t : ThreadRef)
  /-- FREE (R280): A timer is cancelled and returned. -/
  | tmrFree (t : ThreadRef)
  /-- WAIT (R261): The thread is not ready until its outstanding read returns. -/
  | wait (t : ThreadRef)
  /-- BEGIN_COMMIT (R261): The job's later effects are held in a commit buffer until END. -/
  | beginCommit (t : ThreadRef)
  /-- START0 (R301): Counting window 0 of the thread opens. -/
  | start0 (t : ThreadRef)
  /-- STOP0 (R301): Counting window 0 closes, or INVERTED is set when it was already closed. -/
  | stop0 (t : ThreadRef)
  /-- START1 (R301): Counting window 1 of the thread opens. -/
  | start1 (t : ThreadRef)
  /-- STOP1 (R301): Counting window 1 closes, or INVERTED is set when it was already closed. -/
  | stop1 (t : ThreadRef)
  /-- COUNT (R301): A COUNT marker adds one to COUNT_MARKS. -/
  | count (t : ThreadRef)
  /-- WATCHDOG (R262): A job runs MAX_CYCLES ENG cycles and is ended with fault kind 5. -/
  | watchdog (t : ThreadRef)
  /-- TIMER_EXPIRY (R279): A timer reaches its expiry commit and its job is enqueued to TT, or is deferred when TT is full. -/
  | timerExpiry (c : Fin 4)
  /-- DOORBELL (R282): A write to ENG_DOORBELL makes a job in DB, or is refused. -/
  | doorbell (path : Path) (c : Fin 4) (v : Word)
  /-- EXCHANGE_REQUEST (R289): A staged REQ with IMG_BASE starts a cluster's microcode exchange at its commit. -/
  | exchangeRequest (path : Path) (c : Fin 4) (v : Word)
  /-- EXCHANGE_LOAD_DONE (R289): The control store load ends, its checks pass or fail, and the cluster is released at the next commit. -/
  | exchangeLoadDone (c : Fin 4) (fault : Option (Fin 4))
  /-- CLUSTER_OFFLINE (R291): STATE_REQ = 1 quiesces a cluster and re-homes its jobs and service queues. -/
  | clusterOffline (path : Path) (c : Fin 4) (rehome : Fin 4)
  /-- CLUSTER_RUN (R291): STATE_REQ = 0 returns an OFFLINE cluster to RUN with empty queues. -/
  | clusterRun (path : Path) (c : Fin 4)
  /-- CLUSTER_LOST (R291): A cluster's ENG domain fails; its running jobs restart in REHOME and its timers are lost. -/
  | clusterLost (c : Fin 4)
  /-- CONTROL_STORE_READ (R287): A control-store window read returns a microword and its check bits. -/
  | controlStoreRead (path : Path) (c : Fin 4) (v : Word)
  /-- CONTROL_STORE_WRITE (R287): A control-store window write, allowed only in an OFFLINE cluster, stores a microword with its check bits. -/
  | controlStoreWrite (path : Path) (c : Fin 4) (v : Word)
  /-- EPC_CTR_WRITE (R297): A write sets a programmable performance counter. -/
  | epcCtrWrite (path : Path) (c : Fin 4) (phys : Fin 17) (n : Fin 8) (v : Word)
  /-- EPC_SEL_WRITE (R297): A selector write takes effect within 64 ENG cycles. -/
  | epcSelWrite (path : Path) (c : Fin 4) (phys : Fin 17) (n : Fin 8) (v : Word)
  /-- FREEZE (R305): A FREEZE write freezes or thaws a cluster's counters and copies EPC_CYCLE. -/
  | freeze (path : Path) (c : Fin 4) (on : Bool)
  /-- SAMPLE_RECORD (R303): A tagged microword completes, and its sample record is written to the cluster's buffer. -/
  | sampleRecord (t : ThreadRef)
  /-- SAMPLE_READ (R304): An EPC_SAMPLE_CMD write reads one sample record into the data registers. -/
  | sampleRead (path : Path) (c : Fin 4) (index : Fin 1024)
  /-- SAMPLE_CONS_WRITE (R304): A write to the sample CONS index is accepted under the rule of R241. -/
  | sampleConsWrite (path : Path) (c : Fin 4) (v : Word)
  /-- SDRAM_READ (R314): A DRM window command reads a 64-octet granule, within the path's rights. -/
  | sdramRead (path : Path) (v : Word)
  /-- SDRAM_WRITE (R314): A DRM window command writes a 64-octet granule, within the path's rights. -/
  | sdramWrite (path : Path) (v : Word)
  /-- SDRAM_REQUEST_DONE (R323): An SDRAM request completes, with correction, retry or an uncorrectable result. -/
  | sdramRequestDone (id : Nat) (how : BurstEnd) (hit : Bool)
  /-- REQUEST_PROMOTED (R317): An SDRAM request has waited 4 µs in its slot and is promoted. -/
  | requestPromoted (id : Nat)
  /-- REFRESH (R325): A same-bank refresh falls due in a subchannel. -/
  | refresh (s : Fin 4)
  /-- REFRESH_2X (R325): A device reports a temperature above 85 °C, and the refresh interval halves. -/
  | refresh2x (s : Fin 4) (hot : Bool)
  /-- DQS_TRACK (R326): Every 10 ms the DQS oscillator is tracked, with no hold. -/
  | dqsTrack (c : Fin 2)
  /-- MARGIN_SWEEP (R326): A margin sweep runs one subchannel step at a time, and MARGIN is raised below the floor. -/
  | marginSweep (s : Fin 4) (margin : Nat)
  /-- ROW_RETIRE (R327): A retired SDRAM row is held, corrected and soft-repaired, or its device is marked erased. -/
  | rowRetire (repaired : Bool)
  /-- CHANNEL_LOST (R328): A channel fails training three times or exhausts its write retries, and the interleaved regions fold. -/
  | channelLost (c : Fin 2) (writes : Bool)
  /-- CHANNEL_OFFLINE (R328): STATE_REQ = 1 takes a channel offline when the other runs, and the regions fold. -/
  | channelOffline (path : Path) (c : Fin 2)
  /-- CHANNEL_RETURN (R329): STATE_REQ = 0 retrains an offline channel and copies the mirrored regions back. -/
  | channelReturn (path : Path) (c : Fin 2) (trained : Bool)
  /-- CHANNEL_RETURN_DONE (R329): The mirror copy completes and the interleaved regions unfold at a commit. -/
  | channelReturnDone (c : Fin 2)
  /-- PORT_OWNER_WRITE (R335): A port owner change is accepted only for a disabled, empty port, and flushes the old Hedge's entries. -/
  | portOwnerWrite (path : Path) (p : Fin 128) (h : Fin 16)
  /-- ROOT_FLOOR_WRITE (R338): A write to HDG_ROOT_FLOOR sets floors for Hedge 0, and is refused above Hedge 0's current values. -/
  | rootFloorWrite (path : Path) (v : Word)
  /-- GAP_WRITE (R340): A Gap definition write is refused when it would make an invalid Gap valid. -/
  | gapWrite (path : Path) (g : Fin 64) (second : Bool) (v : Word)
  /-- FUNCTION_LEVEL_RESET (R345): An FLR stops the function's DMA, clears its window state, and starts a SOFT reset when configured. -/
  | functionLevelReset (fn : Fin 17)
  /-- EVT_CFG_WRITE (R346): An accepted event-ring placement write resets the ring indices, or is refused on overlap. -/
  | evtCfgWrite (path : Path) (h : Fin 16) (v : Word)
  /-- SWINT (R347): A write to HDG_SWINT raises interrupt sources 4 to 7 of a Hedge. -/
  | swint (path : Path) (h : Fin 16) (raise : BitVec 4)
  /-- VECTOR_MESSAGE (R348): A vector with a pending, unmasked cause sends a message once its moderation gap has passed. -/
  | vectorMessage (fn : Fin 17) (v : Fin 32)
  /-- SOFT_RESET (R349): A SOFT reset of a Hedge empties its running state and keeps its configuration. -/
  | softReset (path : Path) (h : Fin 16)
  /-- RELOAD_RESET (R349): A RELOAD reset empties a Hedge and re-applies its Topiary section across ticks. -/
  | reloadReset (path : Path) (h : Fin 16)
  /-- EVENT_CONS_WRITE (R375): A write to EVT_RING_CONS is accepted under the rule of R241, and a ring freed of overflow writes its OVERFLOW record. -/
  | eventConsWrite (path : Path) (h : Fin 16) (cons : BitVec 32)
  /-- PF_SWINT (R377): A write to EVT_PF_SWINT raises physical-function vectors 24 to 31. -/
  | pfSwint (path : Path) (raise : BitVec 8)
  /-- DMP_READ (R379): A DMP READ message reads up to 64 registers and is answered with READ_RESP. -/
  | dmpRead (frame : List Byte)
  /-- DMP_WRITE (R379): A DMP WRITE message applies up to 32 register writes in order and is answered with WRITE_RESP. -/
  | dmpWrite (frame : List Byte)
  /-- DMP_ACK (R379): A DMP ACK advances CONS of an event or Clippings ring. -/
  | dmpAck (frame : List Byte)
  /-- DMP_EVENTS (R379): The module sends event records from CONS onwards in EVENTS messages. -/
  | dmpEvents (h : Fin 16)
  /-- DMP_CLIPPINGS (R379): The module sends Clippings records from CONS onwards in CLIPPINGS messages. -/
  | dmpClippings (h : Fin 16)
  /-- DMP_RESEND (R379): No ACK advances CONS for 100 ms, so the module resends from CONS. -/
  | dmpResend (clippings : Bool) (h : Fin 16)
  /-- HELLO (R406): When DMP starts, and every 10 s until a message is accepted, the module sends HELLO. -/
  | hello
  /-- ATTEST_REQ (R487): An ATTEST_REQ is answered with a report signed by the identity key. -/
  | attestReq (frame : List Byte)
  /-- UPD_BEGIN (R421): A DMP UPD_BEGIN starts receiving a bundle of the stated length. -/
  | updBegin (frame : List Byte)
  /-- UPD_DATA (R421): A DMP UPD_DATA places bundle octets at their offset in staging. -/
  | updData (frame : List Byte)
  /-- UPD_END (R421): A DMP UPD_END ends the transfer and runs CHECK, or CHECK and START. -/
  | updEnd (frame : List Byte)
  /-- UPD_OP (R421): A DMP UPD_OP issues an update operation as UPD_CTL does. -/
  | updOp (frame : List Byte)
  /-- POWER_ON (R383): A feed becomes good after loss of both, and the module runs start-up steps 1 to 10. -/
  | powerOn (f : Fin 2) (vin : Nat) (x : StartFound)
  /-- PORST (R512): PORST_N held low for 10 µs causes a power-on start from step 3. -/
  | porst (x : StartFound)
  /-- DEVICE_RESET (R512): RESET_N held low for 500 ns causes a device reset and start-up steps 3 to 10. -/
  | deviceReset (x : StartFound)
  /-- PERST (R499): PERST_N low gives a PCI Express conventional reset of the endpoint alone. -/
  | perst (low : Bool)
  /-- LOCKSTEP_DIVERGENCE (R382): The supervisor cores diverge; the supervisor restarts and the module runs headless. -/
  | lockstepDivergence
  /-- SUPERVISOR_RESTART (R382): The supervisor restarts from step 4 for the SV component, and resumes. -/
  | supervisorRestart
  /-- DEGRADED (R23): The supervisor has been absent for 10 minutes, and the module declares itself degraded. -/
  | degraded
  /-- SUPERVISOR_WATCHDOG (R388): The supervisor misses its start-up deadline, and the AON watchdog restarts it from the other SV slot. -/
  | supervisorWatchdog
  /-- NVM_RETRY (R387): With SV absent, the boot ROM reads NVM again every 60 s. -/
  | nvmRetry
  /-- CHECK (R420): OP CHECK verifies the staged bundle whole without writing NVM. -/
  | check (path : Path)
  /-- START (R422): OP START begins the update steps in bundle order. -/
  | start (path : Path)
  /-- SLOT_WRITE_DONE (R422): A component has been written and read back; the boot record is written and the component exchanged. -/
  | slotWriteDone (good : Bool)
  /-- CONFIRM (R425): OP CONFIRM confirms the current component when its health criteria hold. -/
  | confirm (path : Path)
  /-- ABORT (R425): OP ABORT makes the current component fall back to its previous slot. -/
  | abort (path : Path)
  /-- CANCEL (R427): OP CANCEL lets the current step finish and runs no later step. -/
  | cancel (path : Path)
  /-- CLEAR_STAGING (R421): OP CLEAR discards the staged bundle. -/
  | clearStaging (path : Path)
  /-- SETTLE_DONE (R425): The health criteria have held for SETTLE_S, and the component is confirmed. -/
  | settleDone
  /-- CONFIRM_TIMEOUT (R425): The confirm window closes unconfirmed, and the component falls back. -/
  | confirmTimeout
  /-- REVOKE (R416): A write to UPD_REVOKE.STAGE blows the revocation fuses of the named key slots. -/
  | revoke (path : Path) (stage : BitVec 4)
  /-- GASP_TRIGGER (R477): Both feeds have been lost for 100 µs; the gasp record is written and the rails shut down. -/
  | gaspTrigger
  /-- NVM_WALK (R440): Every NVM_WALK_H hours every NVM slot and record is verified. -/
  | nvmWalk (failing : List Nat)
  /-- SCRUB_SLICE (R434): The scrubber reads a slice of each enabled memory and corrects or handles the errors it finds. -/
  | scrubSlice (run : ScrubRun)
  /-- CONTROL_STORE_RELOAD_DONE (R437): A reloaded control-store row group is restored, and its waiting threads issue. -/
  | controlStoreReloadDone (c : Fin 4) (group : Fin 132)
  /-- TABLE_RESTORE (R438): The supervisor restores an invalidated entry, or reports TABLE_LOST. -/
  | tableRestore (code index : Nat) (entry : Option (List Word))
  /-- BUCKET_DECAY (R441): Every DECAY_TICKS ticks an error bucket falls by one. -/
  | bucketDecay (cls : Fin 6)
  /-- GRAFT_START (R445): The supervisor begins the next queued graft onto a spare. -/
  | graftStart
  /-- GRAFT_DONE (R447): The last piece moves, the spare takes the unit's place, and the record entry is appended. -/
  | graftDone
  /-- GRAFT_PARTIAL (R447): The source fails mid-copy, and the pieces not moved are poisoned, restarted or restored. -/
  | graftPartial (left : List (Nat × Nat))
  /-- GRF_RETIRE (R454): GRF_CMD OP RETIRE grafts or retires a named unit as if its bucket had crossed. -/
  | grfRetire (path : Path) (cls : Fin 8) (loc : BitVec 32)
  /-- GRF_RETURN (R454): GRF_CMD OP RETURN tests a retired lane and returns it to service if it passes. -/
  | grfReturn (path : Path) (loc : BitVec 32) (passed : Bool)
  /-- SPARE_TEST_NOW (R444): GRF_CMD OP TEST runs the spares' self-test at once. -/
  | spareTestNow (path : Path) (failing : List Nat)
  /-- SPARE_TEST (R444): Every SPARE_TEST_H hours the unused spares self-test and engines are rotated through test. -/
  | spareTest (failing bad : List Nat)
  /-- AVS_STEP (R456): A domain rail is raised or lowered by 5 mV according to replica slack. -/
  | avsStep (domain : Fin 25) (slack : Int)
  /-- FORECAST (R457): Once a day the margin forecasts are refitted, and warnings are raised. -/
  | forecast (month : Nat) (eyes : List (Fin 128 × BitVec 8))
  /-- LIFE_UPDATE (R459): Each second the die and module life budgets are charged by temperature. -/
  | lifeUpdate (tj tcp : Int)
  /-- LIFE_RECORD (R459): Every 6 h a LIFE entry for each budget is appended to the graft record. -/
  | lifeRecord
  /-- CORE_FATAL (R483): A core PLL, rail or buffer-state fault writes a gasp record and performs a device reset, or locks out. -/
  | coreFatal (why : ResetCause) (x : StartFound)
  /-- FEED_STATE (R464): A feed's voltage moves it to another state. -/
  | feedState (f : Fin 2) (state : Fin 5) (vin : Nat)
  /-- TRANSFER_ON_LOSS (R469): The active feed is lost or enters OVER, and the load moves to a GOOD standby feed. -/
  | transferOnLoss (vin : Nat)
  /-- TRANSFER_COMMAND (R470): PWR_CMD OP 1 requests a commanded transfer, or it is refused. -/
  | transferCommand (path : Path)
  /-- REVERT (R466): The preferred feed has been GOOD for WTR_S, so a commanded transfer back to it is made. -/
  | revert
  /-- HOLD_END (R471): 20 ms after a transfer completes, the held status outputs take their live values. -/
  | holdEnd
  /-- SELF_TEST (R473): Every PERIOD_S both feed paths are tested and the results published. -/
  | selfTest (a b : FeedTest)
  /-- SELF_TEST_NOW (R473): PWR_CMD OP 2 runs the feed self-test at once. -/
  | selfTestNow (path : Path) (a b : FeedTest)
  /-- HOLDUP_MEASURE (R476): Every 24 h and at start the hold-up bank's capacitance and ESR are measured. -/
  | holdupMeasure (cap esr hold vbank : Nat)
  /-- DIP (R477): Both feeds dip below 36.0 V for less than 100 µs, and the bank carries the module. -/
  | dip
  /-- PC_RESTART (R423): The power controller restarts from its other bank, with its outputs held. -/
  | pcRestart
  /-- PAGE (R479): A PMBus PAGE command selects or reports feed A, feed B or the whole module. -/
  | page (write : Option (BitVec 8))
  /-- CLEAR_FAULTS (R479): A PMBus CLEAR_FAULTS command clears latched status bits whose cause has ended. -/
  | clearFaults
  /-- CAPABILITY (R479): A PMBus CAPABILITY command returns 0xA0. -/
  | capability
  /-- STATUS_BYTE (R479): A PMBus STATUS_BYTE command returns the page summary. -/
  | statusByte
  /-- STATUS_WORD (R479): A PMBus STATUS_WORD command returns the page summary. -/
  | statusWord
  /-- STATUS_INPUT (R479): A PMBus STATUS_INPUT command returns the feed status bits. -/
  | statusInput
  /-- STATUS_TEMPERATURE (R479): A PMBus STATUS_TEMPERATURE command returns the over-temperature bit. -/
  | statusTemperature
  /-- STATUS_CML (R479): A PMBus STATUS_CML command returns the communication fault bits. -/
  | statusCml
  /-- STATUS_MFR_SPECIFIC (R479): A PMBus STATUS_MFR_SPECIFIC command returns the self-test, hold-up, hold and single-feed bits. -/
  | statusMfrSpecific
  /-- READ_VIN (R479): A PMBus READ_VIN command returns the feed voltage. -/
  | readVin
  /-- READ_IIN (R479): A PMBus READ_IIN command returns the feed current. -/
  | readIin
  /-- READ_TEMPERATURE_1 (R479): A PMBus READ_TEMPERATURE_1 command returns the cold-plate temperature. -/
  | readTemperature1
  /-- READ_TEMPERATURE_2 (R479): A PMBus READ_TEMPERATURE_2 command returns the hottest die sensor. -/
  | readTemperature2
  /-- READ_PIN (R479): A PMBus READ_PIN command returns the input power. -/
  | readPin
  /-- PMBUS_REVISION (R479): A PMBus PMBUS_REVISION command returns 0x33. -/
  | pmbusRevision
  /-- MFR_ID (R479): A PMBus MFR_ID command returns DUNQUEL. -/
  | mfrId
  /-- MFR_MODEL (R479): A PMBus MFR_MODEL command returns the ordering code. -/
  | mfrModel
  /-- MFR_REVISION (R479): A PMBus MFR_REVISION command returns the PC component version. -/
  | mfrRevision
  /-- MFR_SERIAL (R479): A PMBus MFR_SERIAL command returns the serial number. -/
  | mfrSerial
  /-- MFR_FEED_ACTIVE (R470): A read returns the active feed; a write requests a transfer when I2C_CMD_EN is 1. -/
  | mfrFeedActive (write : Option (BitVec 8))
  /-- MFR_FEED_HEALTH (R479): A PMBus MFR_FEED_HEALTH command returns the feed self-test report. -/
  | mfrFeedHealth
  /-- MFR_HOLDUP_US (R479): A PMBus MFR_HOLDUP_US command returns the computed hold-up time. -/
  | mfrHoldupUs
  /-- INVALID_COMMAND (R479): An undefined command, or a transaction with a bad PEC, is ignored and flagged in STATUS_CML. -/
  | invalidCommand (why : BadCommand)
  /-- TRIG_EDGE (R505): An accepted TRIG_IN edge is stamped and pushed into its FIFO, or dropped when the FIFO is full. -/
  | trigEdge (pin : Fin 4) (rising : Bool) (ago : Nat)
  /-- TRIG_POP (R506): A write to TRG_IN_POP removes the head record only when its INDEX matches. -/
  | trigPop (path : Path) (pin : Fin 4) (index : BitVec 16)
  /-- TRG_OUT_CFG_WRITE (R510): A TRG_OUT_CFG write assigns, keeps or releases a pin's function, or is refused. -/
  | trgOutCfgWrite (path : Path) (pin : Fin 4) (v : Word)
  /-- TRG_OUT_LEVEL_WRITE (R510): A TRG_OUT_LEVEL write sets an ENGINE pin's level, or is refused. -/
  | trgOutLevelWrite (path : Path) (pin : Fin 4) (level : Bool)
  /-- THERMAL_STATE (R522): A temperature crossing moves the module between NORMAL, WARM and HOT. -/
  | thermalState (tj tcp : Int)
  /-- THERMAL_TRIP (R523): Tj or Tcp reaches its trip limit; a gasp record is written and the die rails shut down. -/
  | thermalTrip (tj tcp : Int)
  /-- TRIP_RECOVERY (R523): Tcp has stayed at or below 45 °C for 60 s, and the die starts again from step 2. -/
  | tripRecovery (tcp : Int) (x : StartFound)
  /-- AN_DONE (R43): A port's negotiation completes: AN_DONE sets, AN_FAIL clears and link training begins where enabled. -/
  | anDone (p : Fin 128)
  /-- RX_LPI_EXIT (R55): The link partner leaves low-power idle and the receiver clears LPI_RX. -/
  | rxLpiExit (p : Fin 128)
  /-- DOMAIN_FAILURE (R16): A TILE, PCIE, MGMT, NVM, AON, REF or PWRC clock domain or its PLL fails, and the function it clocks is lost as R11 and R482 state. -/
  | domainFailure (domain : Fin 25)
  /-- DOMAIN_RETURN (R16): A domain that was out of service, such as REF, AON or PWRC, returns and its monitoring resumes. -/
  | domainReturn (domain : Fin 25)
  /-- DEVICE_LOST (R431): An NVM device stops answering and is marked lost, with DEVICE_LOST raised and its slots unavailable. -/
  | deviceLost (device : Fin 2)
  /-- WRITE_PROTECT_CHANGE (R427): NVM_WP_N changes level; a fall during step 1 of an update fails the step with reason 8. -/
  | writeProtectChange (high : Bool)
  /-- UNIT_EXCHANGE (R423): During an SF or EM update step, after SF_WAIT_S or EM_GAP_S, the next tile's firmware reload or the next cluster's exchange begins. -/
  | unitExchange
  /-- PCIE_CONFIG_WRITE (R344): A PCI Express configuration write changes NumVFs or a function's bus mastering, which makes virtual functions exist or not and gives or takes away a Hedge's host path. -/
  | pcieConfigWrite (w : PcieWrite)
  deriving DecidableEq, Repr

end Sys2Proof
end

