-- ==== Sys2Proof/Decode.lean ====
section
/-! DEFINITION. Decode: the command a word spells by the opcode table's bits. -/

namespace Sys2Proof

/-- No row of the opcode table gives bits: a command comes from outside as what it is, not as a word, and no word spells one. -/
def decodeTableWord (_nbits _w : Nat) : Option Instr := none

end Sys2Proof
end

