-- ==== Sys2Proof/Config.lean ====
section
/-! DEFINITION. What an implementation fixes and the values the spec leaves open. Each is a constant with no body, so that
no proof can see what it is (log entries name each one). -/

namespace Sys2Proof.Config

/-- A fresh word wherever the spec leaves a 64-bit value open: working registers when a job starts (R254), the
pseudo-random special S14 (R255), the result of an ALU that computes none (R263). Applied to a counter of the state. -/
opaque freeWord : Nat → BitVec 64

/-- A fresh number wherever the spec leaves a draw open: sampling one in N (R235), the countdown of precise sampling
(R303), which of the two whole entries an overlapping lookup sees (R88). Applied to a counter of the state. -/
opaque freeNat : Nat → Nat

/-- The 16 check bits of a microword (R287): the code is not given. -/
opaque checkBits : BitVec 128 → BitVec 16


/-- The measured part of the part identity (GLB_ID): die stepping and build level. -/
opaque dieStep : BitVec 8
/-- See dieStep. -/
opaque buildLevel : BitVec 8

/-- SHA-384 of octets, as a number (the algorithm's standard lies outside the spec). -/
opaque sha384 : List (BitVec 8) → BitVec 384

/-- Whether an ECDSA signature over octets verifies under a public key (R395, R415). -/
opaque ecdsaVerifies : (key message signature : List (BitVec 8)) → Bool

/-- The signature of octets by the module's identity key (R487). -/
opaque identitySign : List (BitVec 8) → List (BitVec 8)

/-- The fused public keys of slots 0 to 3 (R414), the fused identity key (R395, R488: 0x04, then X and Y) and the generations of the
slots. -/
opaque publicKey : Nat → List (BitVec 8)
/-- See publicKey. -/
opaque identityKey : List (BitVec 8)
/-- See publicKey. -/
opaque keyGeneration : Nat → BitVec 8

/-- The fused serial number: 16 octets of ASCII, zero-padded (R394, R400). -/
opaque serial : List (BitVec 8)

/-- The variant (R1): -L, liquid-cooled, or -C, cooled by conduction. -/
opaque liquidCooled : Bool

/-- What the size of NVM-A (0) or NVM-B (1) has above 64 MiB, as a power of two: R417 gives the least size alone. -/
opaque nvmSize : Nat → Nat

/-- Word 5 of the fuse shadow (R364): the entries of the factory graft record and its CRC. -/
opaque fuseWord : Nat → BitVec 64

/-- HMAC-SHA-256 of octets under a key (R404). -/
opaque hmacSha256 : (key message : List (BitVec 8)) → BitVec 256

/-- The translation of a Topiary image into the newest format (R399): a fixed function of the source octets, none where a section
cannot be translated. -/
opaque migrate : List (BitVec 8) → Option (List (BitVec 8))

/-- The newest and the oldest Topiary format that an SV component's firmware accepts (R399), by the octets of the component. -/
opaque svFormats : List (BitVec 8) → BitVec 16 × BitVec 16

/-- The microword at a microaddress, and the dispatch entry of an opcode (ENG_DISPATCH), that an EM component gives (R287, R289): the format
of its body is not stated. -/
opaque emWord : List (BitVec 8) → Nat → BitVec 128
/-- See emWord. -/
opaque emDispatch : List (BitVec 8) → Nat → BitVec 64
/-- The check bits that an EM component's body gives the microword at a microaddress are those of its code (R287, R289). -/
opaque emChecks : List (BitVec 8) → Nat → Bool

/-- The grafts of the factory graft record (R452), in fuses: class, spare and LOCATION of each. -/
opaque factoryGrafts : List (Nat × Nat × Nat)

/-- What a READ, a WRITE and an ACK payload of DMP name (R379): the offsets; the pairs of offset and value; ring kind, Hedge and CONS; none
for a payload of another form. The widths of their fields are not stated. -/
opaque dmpReadOf : List (BitVec 8) → Option (List Nat)
/-- See dmpReadOf. -/
opaque dmpWriteOf : List (BitVec 8) → Option (List (Nat × BitVec 64))
/-- See dmpReadOf. -/
opaque dmpAckOf : List (BitVec 8) → Option (Nat × Nat × Nat)

end Sys2Proof.Config
end

