-- ==== Sys2Proof/Machine/Bits.lean ====
section
/-! DEFINITION. Bit-field, sign and byte-order helpers, and the sparse tables the state is made of. -/

namespace Sys2Proof.Machine

/-- Bits [hi:lo] of a number (R3). -/
def bits (w hi lo : Nat) : Nat := w / 2 ^ lo % 2 ^ (hi + 1 - lo)

/-- Bit i of a number. -/
def bit (w i : Nat) : Bool := w / 2 ^ i % 2 == 1

/-- The value of a w-bit two's complement field. -/
def signed (w v : Nat) : Int := if v < 2 ^ (w - 1) then (v : Int) else (v : Int) - (2 ^ w : Nat)

/-- The w-bit field that holds an integer, taken modulo 2^w. -/
def unsigned (w : Nat) (i : Int) : Nat := (i % (2 ^ w : Nat)).toNat

/-- An integer held within the range of a w-bit two's complement field. -/
def clampSigned (w : Nat) (i : Int) : Int :=
  let top : Int := (2 ^ (w - 1) : Nat)
  if i ≥ top then top - 1 else if i < -top then -top else i

/-- 1 for true. -/
def b01 (b : Bool) : Nat := if b then 1 else 0

/-- The number that n octets spell, the most significant first (R3). -/
def beNat (l : List Byte) : Nat := l.foldl (fun a b => a * 256 + b.toNat) 0

/-- A number as n octets, the most significant first. -/
def toBytes : Nat → Nat → List Byte
  | 0, _ => []
  | n + 1, v => BitVec.ofNat 8 (v / 256 ^ n) :: toBytes n v

/-- n octets from offset o of a list, zero past its end. -/
def sliceBytes (l : List Byte) (o n : Nat) : List Byte :=
  let s := (l.drop o).take n
  s ++ List.replicate (n - s.length) 0

/-- The number at octet offset o, n octets long. -/
def fieldAt (l : List Byte) (o n : Nat) : Nat := beNat (sliceBytes l o n)

/-- ⌈a / b⌉. -/
def ceilDiv (a b : Nat) : Nat := (a + b - 1) / b

/-! ### Sparse tables: lists of key and value in rising key order -/

/-- The value listed at a key. -/
def lookup {α : Type} : List (Nat × α) → Nat → Option α
  | [], _ => none
  | (k, v) :: t, x => if k = x then some v else lookup t x

/-- The table without a key. -/
def remove {α : Type} : List (Nat × α) → Nat → List (Nat × α)
  | [], _ => []
  | (k, v) :: t, x => if k = x then remove t x else (k, v) :: remove t x

/-- A key and value placed in key order, into a table that does not list the key. -/
def place {α : Type} : List (Nat × α) → Nat → α → List (Nat × α)
  | [], x, a => [(x, a)]
  | (k, v) :: t, x, a => if x < k then (x, a) :: (k, v) :: t else (k, v) :: place t x a

/-- The table with a value at a key. -/
def store {α : Type} (l : List (Nat × α)) (x : Nat) (a : α) : List (Nat × α) := place (remove l x) x a

/-- The table with a value at a key, or without the key when the value is what an unlisted key reads as. -/
def storeUnless {α : Type} [DecidableEq α] (dflt : α) (l : List (Nat × α)) (x : Nat) (a : α) : List (Nat × α) :=
  if a = dflt then remove l x else store l x a

/-- The value at a key, a default when it is not listed. -/
def lookupD {α : Type} (l : List (Nat × α)) (x : Nat) (dflt : α) : α := (lookup l x).getD dflt

/-- A set of numbers kept in rising order: with and without one of them. -/
def insertNat : List Nat → Nat → List Nat
  | [], x => [x]
  | y :: t, x => if x < y then x :: y :: t else if x = y then y :: t else y :: insertNat t x

/-- See insertNat. -/
def eraseNat (l : List Nat) (x : Nat) : List Nat := l.filter (· != x)

/-- Entry i of a list replaced. -/
def setAt {α : Type} (l : List α) (i : Nat) (a : α) : List α := l.set i a

/-! ### Octet memories -/

/-- Octet at an address of a memory whose unlisted octets read 0. -/
def memByte (l : List (Nat × Byte)) (a : Nat) : Byte := lookupD l a 0

/-- n octets from an address. -/
def memRead (l : List (Nat × Byte)) (a : Nat) : Nat → List Byte
  | 0 => []
  | n + 1 => memByte l a :: memRead l (a + 1) n

/-- Octets written from an address on; an octet 0 is not listed. -/
def memWrite (l : List (Nat × Byte)) (a : Nat) : List Byte → List (Nat × Byte)
  | [] => l
  | b :: t => memWrite (storeUnless 0 l a b) (a + 1) t

/-- The canonical form of a sparse table: keys strictly rising. -/
def risingFrom {α : Type} : Nat → List (Nat × α) → Bool
  | _, [] => true
  | lo, (k, _) :: t => decide (lo ≤ k) && risingFrom (k + 1) t

/-- The canonical form of the SDRAM (R308), an octet memory: addresses strictly rising and no octet 0 listed. -/
def Memory.wf (l : List (Nat × Byte)) : Bool := risingFrom 0 l && l.all (fun c => c.2 != 0)

/-- Bits of numbers below n that satisfy a test. -/
def bitsOf (n : Nat) (f : Nat → Bool) : Nat := (List.range n).foldl (fun a k => a + b01 (f k) * 2 ^ k) 0

end Sys2Proof.Machine
end

