-- ==== Sys2Proof/Machine/Regs.lean ====
section
/-! DEFINITION. The register map of the module (R5, R357, R358, R371): every register of every block by its name,
with its base offset, the index ranges and strides of its array, and every field that is not reserved with its bits,
its access code, its encodings that are not reserved and its value after a power-on or device reset (R7, R8).
An index of a register is ONE number, the mixed-radix number of its array indices, outermost first: port 16 t + k of a
tile's slot k, 8 p + c of port p and class c. A window that has one set per access path (R371) has the path as its
outermost index, at a stride of 32 MiB, so that path 0 stands at the offsets of the map. -/

namespace Sys2Proof.Machine

/-- The access codes of R5. -/
inductive Acc where
  | ro | rw | rwt | rwl | rwk | sqc | wo
  deriving DecidableEq, Repr

/-- One field of a register: bits [hi:lo], its access code, the ranges of its encodings that are not reserved (none
listed: every encoding is defined), and its reset or boot value. -/
structure FieldSpec where
  hi : Nat
  lo : Nat
  acc : Acc
  legal : List (Nat × Nat)
  boot : Nat
  deriving DecidableEq, Repr

/-- One register array: its base offset, the size and stride of each index (outermost first) and its fields. -/
structure RegSpec where
  base : Nat
  dims : List (Nat × Nat)
  fields : List FieldSpec
  deriving DecidableEq, Repr

/-- The registers of the register space, block by block (R357). -/
inductive Reg where
  | GLB_TICK_CFG
  | GLB_TICK_NUM
  | GLB_COMMIT_SEQ
  | GLB_TICK_STATUS
  | GLB_FENCE
  | GLB_FENCE_DONE
  | GLB_TICK_FENCE
  | PRT_PORT_CFG
  | PRT_PORT_STATUS
  | PRT_PORT_EVENT
  | PRT_FC_CFG
  | PRT_EEE_CFG
  | PRT_WAKE_STATUS
  | PRT_WAKE_TIME
  | PRT_MAC_ADDR
  | PRT_LANE_CFG
  | PRT_LANE_STATUS
  | PRT_TILE_CTL
  | PRT_TILE_STATUS
  | PRT_TILE_EVENT
  | PRT_TILE_WAKE
  | PRT_TILE_WAKE_TIME
  | PAR_WIN_CMD
  | PAR_WIN_W0
  | PAR_WIN_W1
  | PAR_EVENT
  | PAR_HEDGE_CFG
  | PAR_TPID
  | PAR_UDP_PORTS
  | CLS_SLICE_CFG
  | CLS_RULE_CMD
  | CLS_RULE_ACT
  | CLS_RULE_KEY
  | CLS_RULE_MASK
  | CLS_HEDGE_CFG
  | CLS_EVENT
  | CLS_DSCP_MAP
  | CLS_PCP_MAP
  | CLS_EXC_TB
  | FDB_CFG
  | FDB_PRUNE_CFG
  | FDB_WIN_CMD
  | FDB_WIN_DATA0
  | FDB_WIN_DATA1
  | FDB_EVENT
  | FDB_LEARN_STATUS
  | FDB_HEDGE_CFG
  | FDB_HEDGE_AGE
  | FDB_HEDGE_STATUS
  | FDB_PORT_CFG
  | FDB_TBL_CMD
  | FDB_TBL_DATA
  | LPM_CFG
  | LPM_STATUS
  | LPM_WIN_CMD
  | LPM_WIN_DATA
  | LPM_EVENT
  | LPM_ROOT
  | BUF_CFG
  | BUF_STATUS
  | BUF_CAPACITY
  | BUF_EVENT
  | BUF_HEDGE_CFG
  | BUF_HEDGE_CLASS
  | BUF_HEDGE_STATUS
  | BUF_PORT_CFG
  | BUF_PORT_PFC
  | BUF_PORT_STATUS
  | BUF_TILE_CFG
  | BUF_TILE_STATUS
  | QUE_VOQ_CMD
  | QUE_VOQ_DATA0
  | QUE_VOQ_DATA1
  | QUE_EVENT
  | QUE_EDIT_CMD
  | QUE_EDIT_DATA
  | SCH_EVENT
  | SCH_PORT_CFG
  | SCH_PORT_LAUNCH
  | SCH_PORT_STATUS
  | SCH_CLASS_CFG
  | SCH_GATE_CTL
  | SCH_GATE_SWITCH
  | SCH_GATE_BANK
  | SCH_GATE_WIN_CMD
  | SCH_GATE_WIN_DATA
  | SHP_CLASS
  | SHP_PORT
  | SHP_WIN_CMD
  | SHP_WIN_DATA
  | SHP_EVENT
  | SHP_CLASS_TOKENS
  | SHP_PORT_TOKENS
  | POL_MAP
  | POL_WIN_CMD
  | POL_WIN_DATA0
  | POL_WIN_DATA1
  | POL_EVENT
  | TIM_NOW_HI
  | TIM_NOW_LO
  | TIM_STATUS
  | TIM_EVENT
  | TIM_SERVO_CFG
  | TIM_HOLD_CFG
  | TIM_ADJ
  | TIM_SET_SEC
  | TIM_SET_NS
  | TIM_FREQ
  | TIM_HOLD_FREQ
  | TIM_REF_PRIO
  | TIM_MON_CFG
  | TIM_PTP_MEAS
  | TIM_PPS_CFG
  | TIM_PPS_TOD
  | TIM_PPS_ERR
  | TIM_ISLAND
  | TIM_REF_STATUS
  | TIM_INST_CFG
  | TIM_PORT_CFG
  | TIM_PORT_EXT
  | TIM_PORT_ASYM
  | TIM_PORT_FACT
  | CLP_CFG
  | CLP_STATUS
  | CLP_EVENT
  | CLP_HEDGE_CFG
  | CLP_HEDGE_SEL
  | CLP_RING_CFG
  | CLP_RING_PROD
  | CLP_RING_CONS
  | CLP_HOST_BASE
  | CLP_HOST_IDX
  | CLP_EXPORT
  | CLP_PORT_SAMPLE
  | ENG_CLUSTER_CTL
  | ENG_CLUSTER_STATUS
  | ENG_EVENT
  | ENG_XCHG_CTL
  | ENG_XCHG_STATUS
  | ENG_CS_WIN_CMD
  | ENG_CS_WIN_DATA0
  | ENG_CS_WIN_DATA1
  | ENG_CS_WIN_DATA2
  | ENG_TMR_CFG
  | ENG_TMR_STATUS
  | ENG_JQ_STATUS
  | ENG_DOORBELL
  | ENG_JOB_LIMIT
  | ENG_HEDGE_THR
  | ENG_SQ_CFG
  | ENG_EVT_ROUTE
  | ENG_DISPATCH
  | ENG_TICKJOB0
  | ENG_TICKJOB1
  | EPC_CYCLE
  | EPC_FREEZE_CYCLE
  | EPC_STATUS
  | EPC_SEL
  | EPC_CTR
  | EPC_CTL
  | EPC_EVENT
  | EPC_SAMPLE_CFG
  | EPC_SAMPLE_IDX
  | EPC_SAMPLE_CMD
  | EPC_SAMPLE_DATA0
  | EPC_SAMPLE_DATA1
  | EPC_GLB_CTL
  | DRM_CFG
  | DRM_STATUS
  | DRM_EVENT
  | DRM_ERR_LOG
  | DRM_TRAIN_CFG
  | DRM_CH_CTL
  | DRM_CH_STATUS
  | DRM_HEDGE_WIN
  | DRM_HEDGE_BW
  | DRM_WIN_CMD
  | DRM_WIN_DATA
  | HDG_CFG
  | HDG_STATUS
  | HDG_EVENT
  | HDG_RESET
  | HDG_EVT_CFG
  | HDG_VEC_MAP
  | HDG_SWINT
  | HDG_VEC_MOD
  | HDG_PORT_OWNER
  | HDG_GAP_CFG0
  | HDG_GAP_CFG1
  | HDG_GAP_STATUS
  | HDG_ROOT_FLOOR
  | GLB_ID
  | GLB_EVENT
  | GLB_LOCK
  | GLB_UNLOCK
  | GLB_GUARD_ARMED
  | GLB_GUARD_STATUS
  | GLB_STATUS
  | GLB_FUSE_SHADOW
  | GLB_CFG_DIGEST
  | EVT_EVENT
  | EVT_IRQ_STATUS
  | EVT_IRQ_EN
  | EVT_DMP_SEL
  | EVT_PF_SWINT
  | EVT_PF_MOD
  | EVT_RING_PROD
  | EVT_RING_CONS
  | EVT_RING_STATUS
  | BOOT_STATUS
  | BOOT_TIMES
  | TOP_INFO
  | TOP_ORIGIN
  | TOP_DIGEST
  | CFG_DRIFT
  | DMP_CFG
  | DMP_ADDR
  | DMP_STATION
  | DMP_GATEWAY
  | DMP_KEYS
  | DMP_RX_HIGH
  | DMP_TX_NEXT
  | DMP_REJECTS
  | DMP_EVENT
  | LLDP_CFG
  | UPD_CTL
  | UPD_CFG
  | UPD_STATUS
  | UPD_EVENT
  | UPD_KEYS
  | UPD_REVOKE
  | UPD_COMP
  | NVM_STATUS
  | NVM_JOURNAL
  | NVM_GASP
  | NVM_EVENT
  | NVM_WEAR
  | INT_SCRUB_CFG
  | INT_EVENT
  | INT_UNC_LOG
  | INT_BUCKET_CFG
  | INT_BUCKET_MAX
  | INT_SCRUB_PASS
  | GRF_CMD
  | GRF_CFG
  | GRF_STATUS
  | GRF_EVENT
  | GRF_SPARES
  | GRF_RECORD
  | GRF_MAP_BANK
  | GRF_MAP_CLS
  | AGE_CFG
  | AGE_STATUS
  | AGE_EVENT
  | AGE_LIFE_DIE
  | AGE_LIFE_MOD
  | AGE_TEMP
  | AGE_MON
  | AGE_FORECAST
  | PWR_STATUS
  | PWR_EVENT
  | PWR_POLICY
  | PWR_CMD
  | PWR_TEST_CFG
  | PWR_FEED
  | PWR_HEALTH
  | PWR_HOLDUP
  | PWR_COUNTS
  | GLB_PINS
  | GLB_RESET_CAUSE
  | TRG_EVENT
  | TRG_STATUS
  | TRG_IN_CFG
  | TRG_IN_HEAD0
  | TRG_IN_HEAD1
  | TRG_IN_POP
  | TRG_OUT_CFG
  | TRG_OUT_LEVEL
  deriving DecidableEq, Repr

/-- The table of the register map: the rules that own it stand beside each block. -/
def Reg.spec : Reg → RegSpec
  -- 02_tick_and_ordering.md, R39
  | .GLB_TICK_CFG => ⟨0x100, [],
      [⟨8, 8, .ro, [], 0⟩, ⟨7, 4, .ro, [], 0⟩, ⟨3, 0, .rw, [(0, 10)], 3⟩]⟩
  | .GLB_TICK_NUM => ⟨0x108, [],
      [⟨63, 0, .ro, [], 0⟩]⟩
  | .GLB_COMMIT_SEQ => ⟨0x110, [],
      [⟨63, 0, .ro, [], 0⟩]⟩
  | .GLB_TICK_STATUS => ⟨0x118, [],
      [⟨63, 48, .ro, [], 0⟩, ⟨47, 32, .ro, [], 0⟩, ⟨31, 16, .ro, [], 0⟩,
       ⟨4, 4, .sqc, [], 0⟩, ⟨3, 3, .sqc, [], 0⟩, ⟨2, 2, .sqc, [], 0⟩,
       ⟨1, 1, .sqc, [], 0⟩, ⟨0, 0, .sqc, [], 0⟩]⟩
  | .GLB_FENCE => ⟨0x120, [],
      [⟨31, 0, .wo, [], 0⟩]⟩
  | .GLB_FENCE_DONE => ⟨0x128, [],
      [⟨36, 32, .ro, [], 0⟩, ⟨31, 0, .ro, [], 0⟩]⟩
  | .GLB_TICK_FENCE => ⟨0x130, [],
      [⟨32, 32, .ro, [], 0⟩, ⟨31, 0, .rw, [], 0⟩]⟩
  -- 03_ports_and_mac.md, R68
  | .PRT_PORT_CFG => ⟨0x40000, [(8, 0x4000), (16, 0x400)],
      [⟨29, 16, .rw, [(64, 16000)], 1522⟩, ⟨14, 14, .rw, [], 0⟩, ⟨13, 13, .rw, [], 0⟩,
       ⟨12, 11, .rw, [(0, 2)], 0⟩, ⟨10, 9, .rw, [(0, 2)], 0⟩, ⟨8, 8, .rw, [], 0⟩,
       ⟨7, 7, .rw, [], 0⟩, ⟨6, 4, .rw, [(0, 3)], 0⟩, ⟨3, 0, .rw, [(0, 9)], 0⟩]⟩
  | .PRT_PORT_STATUS => ⟨0x40008, [(8, 0x4000), (16, 0x400)],
      [⟨31, 24, .ro, [], 0⟩, ⟨23, 16, .ro, [], 0⟩, ⟨11, 11, .ro, [], 0⟩,
       ⟨10, 10, .ro, [], 0⟩, ⟨9, 9, .ro, [], 0⟩, ⟨8, 8, .ro, [], 0⟩,
       ⟨7, 7, .ro, [], 0⟩, ⟨6, 6, .ro, [], 0⟩, ⟨5, 5, .ro, [], 0⟩,
       ⟨4, 4, .ro, [], 0⟩, ⟨3, 3, .ro, [], 0⟩, ⟨2, 0, .ro, [], 0⟩]⟩
  | .PRT_PORT_EVENT => ⟨0x40010, [(8, 0x4000), (16, 0x400)],
      [⟨63, 48, .ro, [], 0⟩, ⟨6, 6, .sqc, [], 0⟩, ⟨5, 5, .sqc, [], 0⟩,
       ⟨4, 4, .sqc, [], 0⟩, ⟨3, 3, .sqc, [], 0⟩, ⟨2, 2, .sqc, [], 0⟩,
       ⟨1, 1, .sqc, [], 0⟩, ⟨0, 0, .sqc, [], 0⟩]⟩
  | .PRT_FC_CFG => ⟨0x40018, [(8, 0x4000), (16, 0x400)],
      [⟨63, 48, .rwt, [], 0⟩, ⟨47, 32, .rwt, [(1, 65535)], 65535⟩, ⟨26, 24, .rwt, [], 0⟩,
       ⟨23, 16, .rwt, [], 0⟩, ⟨15, 8, .rwt, [], 0⟩, ⟨1, 0, .rwt, [(0, 2)], 0⟩]⟩
  | .PRT_EEE_CFG => ⟨0x40020, [(8, 0x4000), (16, 0x400)],
      [⟨15, 0, .rw, [(1, 65535)], 100⟩]⟩
  | .PRT_WAKE_STATUS => ⟨0x40028, [(8, 0x4000), (16, 0x400)],
      [⟨63, 48, .ro, [], 0⟩, ⟨3, 3, .sqc, [], 0⟩, ⟨2, 2, .sqc, [], 0⟩,
       ⟨1, 1, .sqc, [], 0⟩, ⟨0, 0, .sqc, [], 0⟩]⟩
  | .PRT_WAKE_TIME => ⟨0x40030, [(8, 0x4000), (16, 0x400)],
      [⟨47, 32, .ro, [], 0⟩, ⟨31, 0, .ro, [], 0⟩]⟩
  | .PRT_MAC_ADDR => ⟨0x40038, [(8, 0x4000), (16, 0x400)],
      [⟨47, 0, .rw, [], 0⟩]⟩
  | .PRT_LANE_CFG => ⟨0x40200, [(8, 0x4000), (16, 0x400)],
      [⟨5, 2, .rw, [(0, 11)], 0⟩, ⟨1, 1, .rw, [], 0⟩, ⟨0, 0, .rw, [], 0⟩]⟩
  | .PRT_LANE_STATUS => ⟨0x40208, [(8, 0x4000), (16, 0x400)],
      [⟨47, 32, .ro, [], 0⟩, ⟨23, 16, .ro, [], 0⟩, ⟨3, 3, .ro, [], 0⟩,
       ⟨2, 2, .ro, [], 0⟩, ⟨1, 1, .ro, [], 0⟩, ⟨0, 0, .ro, [], 0⟩]⟩
  | .PRT_TILE_CTL => ⟨0x40380, [(8, 0x4000)],
      [⟨2, 2, .rw, [], 0⟩, ⟨1, 0, .rw, [(0, 2)], 0⟩]⟩
  | .PRT_TILE_STATUS => ⟨0x40388, [(8, 0x4000)],
      [⟨31, 16, .ro, [], 0⟩, ⟨2, 0, .ro, [], 0⟩]⟩
  | .PRT_TILE_EVENT => ⟨0x40390, [(8, 0x4000)],
      [⟨63, 48, .ro, [], 0⟩, ⟨3, 3, .sqc, [], 0⟩, ⟨2, 2, .sqc, [], 0⟩,
       ⟨1, 1, .sqc, [], 0⟩, ⟨0, 0, .sqc, [], 0⟩]⟩
  | .PRT_TILE_WAKE => ⟨0x40398, [(8, 0x4000)],
      [⟨63, 48, .ro, [], 0⟩, ⟨3, 3, .sqc, [], 0⟩, ⟨2, 2, .sqc, [], 0⟩,
       ⟨1, 1, .sqc, [], 0⟩, ⟨0, 0, .sqc, [], 0⟩]⟩
  | .PRT_TILE_WAKE_TIME => ⟨0x403A0, [(8, 0x4000)],
      [⟨47, 32, .ro, [], 0⟩, ⟨31, 0, .ro, [], 0⟩]⟩
  -- 04_parsing_and_classification.md, R97
  | .PAR_WIN_CMD => ⟨0x80000, [],
      [⟨13, 12, .ro, [], 0⟩, ⟨11, 11, .ro, [], 0⟩, ⟨10, 3, .rw, [], 0⟩,
       ⟨2, 2, .rw, [], 0⟩, ⟨1, 0, .rw, [], 0⟩]⟩
  | .PAR_WIN_W0 => ⟨0x80008, [],
      [⟨63, 0, .rw, [], 0⟩]⟩
  | .PAR_WIN_W1 => ⟨0x80010, [],
      [⟨63, 0, .rw, [], 0⟩]⟩
  | .PAR_EVENT => ⟨0x80018, [],
      [⟨63, 48, .ro, [], 0⟩, ⟨1, 1, .sqc, [], 0⟩, ⟨0, 0, .sqc, [], 0⟩]⟩
  | .PAR_HEDGE_CFG => ⟨0x80100, [(16, 0x8)],
      [⟨13, 12, .rwt, [(0, 2)], 0⟩, ⟨11, 11, .rwt, [], 0⟩, ⟨10, 5, .rwt, [], 0⟩,
       ⟨4, 0, .rwt, [(4, 16)], 8⟩]⟩
  | .PAR_TPID => ⟨0x80200, [],
      [⟨15, 0, .rwt, [], 33024⟩, ⟨31, 16, .rwt, [], 34984⟩, ⟨47, 32, .rwt, [], 37120⟩,
       ⟨63, 48, .rwt, [], 0⟩]⟩
  | .PAR_UDP_PORTS => ⟨0x80208, [],
      [⟨31, 16, .rwt, [], 6635⟩, ⟨15, 0, .rwt, [], 4789⟩]⟩
  | .CLS_SLICE_CFG => ⟨0x90000, [(24, 0x8)],
      [⟨15, 12, .rwk, [], 0⟩, ⟨11, 7, .rwt, [], 0⟩, ⟨6, 4, .rwt, [(0, 5)], 0⟩,
       ⟨3, 3, .rwt, [], 0⟩, ⟨0, 0, .rwt, [], 0⟩]⟩
  | .CLS_RULE_CMD => ⟨0x90100, [(24, 0x2000000)],
      [⟨23, 21, .ro, [], 0⟩, ⟨20, 20, .ro, [], 0⟩, ⟨19, 9, .rw, [], 0⟩,
       ⟨8, 4, .rw, [], 0⟩, ⟨3, 3, .rw, [], 0⟩, ⟨2, 0, .rw, [], 0⟩]⟩
  | .CLS_RULE_ACT => ⟨0x90108, [(24, 0x2000000)],
      [⟨63, 63, .ro, [], 0⟩, ⟨15, 8, .rw, [], 0⟩, ⟨7, 7, .rw, [], 0⟩,
       ⟨6, 5, .rw, [], 0⟩, ⟨4, 4, .rw, [], 0⟩, ⟨3, 1, .rw, [], 0⟩,
       ⟨0, 0, .rw, [], 0⟩]⟩
  | .CLS_RULE_KEY => ⟨0x90120, [(24, 0x2000000), (10, 0x8)],
      [⟨63, 0, .rw, [], 0⟩]⟩
  | .CLS_RULE_MASK => ⟨0x90180, [(24, 0x2000000), (10, 0x8)],
      [⟨63, 0, .rw, [], 0⟩]⟩
  | .CLS_HEDGE_CFG => ⟨0x90200, [(16, 0x8)],
      [⟨7, 7, .rwt, [], 0⟩, ⟨6, 5, .rwt, [(0, 2)], 0⟩, ⟨4, 2, .rwt, [], 0⟩,
       ⟨1, 0, .rwt, [(0, 2)], 0⟩]⟩
  | .CLS_EVENT => ⟨0x90300, [],
      [⟨63, 48, .ro, [], 0⟩, ⟨3, 3, .sqc, [], 0⟩, ⟨2, 2, .sqc, [], 0⟩,
       ⟨1, 1, .sqc, [], 0⟩, ⟨0, 0, .sqc, [], 0⟩]⟩
  | .CLS_DSCP_MAP => ⟨0x91000, [(16, 0x80), (8, 0x8)],
      [⟨2, 0, .rwt, [], 0⟩, ⟨4, 3, .rwt, [(0, 2)], 0⟩, ⟨10, 8, .rwt, [], 0⟩,
       ⟨12, 11, .rwt, [(0, 2)], 0⟩, ⟨18, 16, .rwt, [], 0⟩, ⟨20, 19, .rwt, [(0, 2)], 0⟩,
       ⟨26, 24, .rwt, [], 0⟩, ⟨28, 27, .rwt, [(0, 2)], 0⟩, ⟨34, 32, .rwt, [], 0⟩,
       ⟨36, 35, .rwt, [(0, 2)], 0⟩, ⟨42, 40, .rwt, [], 0⟩, ⟨44, 43, .rwt, [(0, 2)], 0⟩,
       ⟨50, 48, .rwt, [], 0⟩, ⟨52, 51, .rwt, [(0, 2)], 0⟩, ⟨58, 56, .rwt, [], 0⟩,
       ⟨60, 59, .rwt, [(0, 2)], 0⟩]⟩
  | .CLS_PCP_MAP => ⟨0x91800, [(16, 0x10), (2, 0x8)],
      [⟨2, 0, .rwt, [], 0⟩, ⟨4, 3, .rwt, [(0, 2)], 0⟩, ⟨10, 8, .rwt, [], 0⟩,
       ⟨12, 11, .rwt, [(0, 2)], 0⟩, ⟨18, 16, .rwt, [], 0⟩, ⟨20, 19, .rwt, [(0, 2)], 0⟩,
       ⟨26, 24, .rwt, [], 0⟩, ⟨28, 27, .rwt, [(0, 2)], 0⟩, ⟨34, 32, .rwt, [], 0⟩,
       ⟨36, 35, .rwt, [(0, 2)], 0⟩, ⟨42, 40, .rwt, [], 0⟩, ⟨44, 43, .rwt, [(0, 2)], 0⟩,
       ⟨50, 48, .rwt, [], 0⟩, ⟨52, 51, .rwt, [(0, 2)], 0⟩, ⟨58, 56, .rwt, [], 0⟩,
       ⟨60, 59, .rwt, [(0, 2)], 0⟩]⟩
  | .CLS_EXC_TB => ⟨0x92000, [(16, 0x100), (32, 0x8)],
      [⟨38, 36, .rwt, [], 0⟩, ⟨35, 20, .rwt, [], 0⟩, ⟨19, 0, .rwt, [], 0⟩]⟩
  -- 05_forwarding_tables.md, R137
  | .FDB_CFG => ⟨0xA0000, [],
      [⟨63, 32, .ro, [], 0⟩, ⟨31, 1, .rw, [], 0⟩, ⟨0, 0, .rw, [], 0⟩]⟩
  | .FDB_PRUNE_CFG => ⟨0xA0008, [],
      [⟨31, 16, .rwt, [(1, 65535)], 1⟩, ⟨12, 0, .rwt, [(0, 4096)], 0⟩]⟩
  | .FDB_WIN_CMD => ⟨0xA0010, [(24, 0x2000000)],
      [⟨34, 31, .ro, [], 0⟩, ⟨30, 30, .ro, [], 0⟩, ⟨29, 29, .rw, [], 0⟩,
       ⟨28, 28, .rw, [], 0⟩, ⟨27, 27, .rw, [], 0⟩, ⟨26, 26, .rw, [], 0⟩,
       ⟨22, 4, .rw, [], 0⟩, ⟨3, 0, .rw, [], 0⟩]⟩
  | .FDB_WIN_DATA0 => ⟨0xA0018, [(24, 0x2000000)],
      [⟨63, 0, .rw, [], 0⟩]⟩
  | .FDB_WIN_DATA1 => ⟨0xA0020, [(24, 0x2000000)],
      [⟨63, 0, .rw, [], 0⟩]⟩
  | .FDB_EVENT => ⟨0xA0028, [],
      [⟨63, 48, .ro, [], 0⟩, ⟨5, 5, .sqc, [], 0⟩, ⟨4, 4, .sqc, [], 0⟩,
       ⟨3, 3, .sqc, [], 0⟩, ⟨2, 2, .sqc, [], 0⟩, ⟨1, 1, .sqc, [], 0⟩,
       ⟨0, 0, .sqc, [], 0⟩]⟩
  | .FDB_LEARN_STATUS => ⟨0xA0030, [],
      [⟨12, 0, .ro, [], 0⟩]⟩
  | .FDB_HEDGE_CFG => ⟨0xA0100, [(16, 0x8)],
      [⟨39, 38, .rwk, [(0, 2)], 0⟩, ⟨37, 33, .rwk, [], 0⟩, ⟨18, 0, .rwk, [(0, 266240)], 0⟩]⟩
  | .FDB_HEDGE_AGE => ⟨0xA0180, [(16, 0x8)],
      [⟨17, 17, .rwt, [], 0⟩, ⟨16, 0, .rwt, [(1, 86400)], 300⟩]⟩
  | .FDB_HEDGE_STATUS => ⟨0xA0200, [(16, 0x8)],
      [⟨37, 19, .ro, [], 0⟩, ⟨18, 0, .ro, [], 0⟩]⟩
  | .FDB_PORT_CFG => ⟨0xA0400, [(128, 0x8)],
      [⟨23, 23, .rwt, [], 0⟩, ⟨22, 16, .rwt, [], 0⟩, ⟨15, 15, .rwt, [], 0⟩,
       ⟨14, 14, .rwt, [], 0⟩, ⟨13, 13, .rwt, [], 0⟩, ⟨11, 0, .rwt, [(1, 4094)], 1⟩]⟩
  | .FDB_TBL_CMD => ⟨0xA1000, [(24, 0x2000000)],
      [⟨31, 31, .ro, [], 0⟩, ⟨30, 28, .ro, [], 0⟩, ⟨25, 8, .rw, [], 0⟩,
       ⟨7, 4, .rw, [], 0⟩, ⟨3, 0, .rw, [], 0⟩]⟩
  | .FDB_TBL_DATA => ⟨0xA1008, [(24, 0x2000000), (5, 0x8)],
      [⟨63, 0, .rw, [], 0⟩]⟩
  | .LPM_CFG => ⟨0xB0000, [],
      [⟨1, 1, .ro, [], 0⟩, ⟨0, 0, .ro, [], 0⟩]⟩
  | .LPM_STATUS => ⟨0xB0008, [],
      [⟨0, 0, .ro, [], 0⟩]⟩
  | .LPM_WIN_CMD => ⟨0xB0010, [(24, 0x2000000)],
      [⟨40, 40, .ro, [], 0⟩, ⟨39, 37, .ro, [], 0⟩, ⟨36, 36, .rw, [], 0⟩,
       ⟨35, 20, .rw, [], 0⟩, ⟨19, 4, .rw, [], 0⟩, ⟨3, 2, .rw, [], 0⟩,
       ⟨1, 0, .rw, [], 0⟩]⟩
  | .LPM_WIN_DATA => ⟨0xB0018, [(24, 0x2000000), (3, 0x8)],
      [⟨63, 0, .rw, [], 0⟩]⟩
  | .LPM_EVENT => ⟨0xB0030, [],
      [⟨63, 48, .ro, [], 0⟩, ⟨1, 1, .sqc, [], 0⟩, ⟨0, 0, .sqc, [], 0⟩]⟩
  | .LPM_ROOT => ⟨0xB0100, [(16, 0x10), (2, 0x8)],
      [⟨6, 6, .rw, [], 0⟩, ⟨5, 0, .rw, [(0, 39)], 0⟩]⟩
  -- 06_buffer_and_queues.md, R168
  | .BUF_CFG => ⟨0xC0000, [],
      [⟨18, 0, .rwt, [], 0⟩]⟩
  | .BUF_STATUS => ⟨0xC0008, [],
      [⟨56, 38, .ro, [], 0⟩, ⟨37, 19, .ro, [], 0⟩, ⟨18, 0, .ro, [], 0⟩]⟩
  | .BUF_CAPACITY => ⟨0xC0010, [],
      [⟨25, 22, .ro, [], 0⟩, ⟨21, 19, .ro, [], 0⟩, ⟨18, 0, .ro, [], 0⟩]⟩
  | .BUF_EVENT => ⟨0xC0018, [],
      [⟨63, 48, .ro, [], 0⟩, ⟨5, 5, .sqc, [], 0⟩, ⟨4, 4, .sqc, [], 0⟩,
       ⟨3, 3, .sqc, [], 0⟩, ⟨2, 2, .sqc, [], 0⟩, ⟨1, 1, .sqc, [], 0⟩,
       ⟨0, 0, .sqc, [], 0⟩]⟩
  | .BUF_HEDGE_CFG => ⟨0xC0100, [(16, 0x8)],
      [⟨41, 23, .rwk, [(0, 262144)], 0⟩, ⟨22, 19, .rwk, [(0, 9)], 0⟩, ⟨18, 0, .rwk, [], 0⟩]⟩
  | .BUF_HEDGE_CLASS => ⟨0xC0180, [(16, 0x8)],
      [⟨53, 51, .rwt, [], 0⟩, ⟨50, 48, .rwt, [], 0⟩, ⟨47, 40, .rwt, [], 0⟩,
       ⟨39, 32, .rwt, [], 0⟩, ⟨3, 0, .rwt, [(0, 9)], 0⟩, ⟨7, 4, .rwt, [(0, 9)], 0⟩,
       ⟨11, 8, .rwt, [(0, 9)], 0⟩, ⟨15, 12, .rwt, [(0, 9)], 0⟩, ⟨19, 16, .rwt, [(0, 9)], 0⟩,
       ⟨23, 20, .rwt, [(0, 9)], 0⟩, ⟨27, 24, .rwt, [(0, 9)], 0⟩, ⟨31, 28, .rwt, [(0, 9)], 0⟩]⟩
  | .BUF_HEDGE_STATUS => ⟨0xC0200, [(16, 0x8)],
      [⟨59, 59, .ro, [], 0⟩, ⟨58, 57, .ro, [], 0⟩, ⟨56, 38, .ro, [], 0⟩,
       ⟨37, 19, .ro, [], 0⟩, ⟨18, 0, .ro, [], 0⟩]⟩
  | .BUF_PORT_CFG => ⟨0xC0400, [(134, 0x8)],
      [⟨37, 19, .rwt, [], 0⟩, ⟨18, 0, .rwt, [], 0⟩]⟩
  | .BUF_PORT_PFC => ⟨0xC0C00, [(128, 0x8)],
      [⟨43, 32, .rwt, [], 0⟩, ⟨31, 16, .rwt, [], 0⟩, ⟨15, 0, .rwt, [], 0⟩]⟩
  | .BUF_PORT_STATUS => ⟨0xC1000, [(134, 0x8)],
      [⟨49, 38, .ro, [], 0⟩, ⟨37, 19, .ro, [], 0⟩, ⟨18, 0, .ro, [], 0⟩]⟩
  | .BUF_TILE_CFG => ⟨0xC2000, [(8, 0x8)],
      [⟨31, 16, .rwt, [(1, 65535)], 1000⟩, ⟨0, 0, .rwt, [], 0⟩]⟩
  | .BUF_TILE_STATUS => ⟨0xC2040, [(8, 0x8)],
      [⟨19, 19, .ro, [], 0⟩, ⟨18, 0, .ro, [], 0⟩]⟩
  | .QUE_VOQ_CMD => ⟨0xD0000, [],
      [⟨25, 23, .ro, [], 0⟩, ⟨22, 22, .ro, [], 0⟩, ⟨21, 19, .rw, [], 0⟩,
       ⟨18, 11, .rw, [], 0⟩, ⟨10, 3, .rw, [], 0⟩, ⟨2, 0, .rw, [], 0⟩]⟩
  | .QUE_VOQ_DATA0 => ⟨0xD0008, [],
      [⟨37, 19, .ro, [], 0⟩, ⟨18, 0, .ro, [], 0⟩]⟩
  | .QUE_VOQ_DATA1 => ⟨0xD0010, [],
      [⟨63, 32, .ro, [], 0⟩, ⟨23, 23, .ro, [], 0⟩, ⟨22, 22, .ro, [], 0⟩,
       ⟨21, 21, .ro, [], 0⟩, ⟨20, 20, .ro, [], 0⟩, ⟨19, 18, .ro, [], 0⟩,
       ⟨17, 14, .ro, [], 0⟩, ⟨13, 0, .ro, [], 0⟩]⟩
  | .QUE_EVENT => ⟨0xD0018, [],
      [⟨63, 48, .ro, [], 0⟩, ⟨4, 4, .sqc, [], 0⟩, ⟨3, 3, .sqc, [], 0⟩,
       ⟨2, 2, .sqc, [], 0⟩, ⟨1, 1, .sqc, [], 0⟩, ⟨0, 0, .sqc, [], 0⟩]⟩
  | .QUE_EDIT_CMD => ⟨0xD0100, [],
      [⟨22, 20, .ro, [], 0⟩, ⟨19, 19, .ro, [], 0⟩, ⟨15, 4, .rw, [], 0⟩,
       ⟨3, 0, .rw, [], 0⟩]⟩
  | .QUE_EDIT_DATA => ⟨0xD0108, [(13, 0x8)],
      [⟨63, 0, .rw, [], 0⟩]⟩
  -- 07_policing_shaping_scheduling.md, R199
  | .SCH_EVENT => ⟨0xE0000, [],
      [⟨63, 48, .ro, [], 0⟩, ⟨5, 5, .sqc, [], 0⟩, ⟨4, 4, .sqc, [], 0⟩,
       ⟨3, 3, .sqc, [], 0⟩, ⟨2, 2, .sqc, [], 0⟩, ⟨1, 1, .sqc, [], 0⟩,
       ⟨0, 0, .sqc, [], 0⟩]⟩
  | .SCH_PORT_CFG => ⟨0xE0100, [(128, 0x8)],
      [⟨39, 32, .rwt, [], 0⟩, ⟨15, 8, .rwt, [], 0⟩, ⟨3, 3, .rwt, [], 0⟩,
       ⟨2, 2, .rwt, [], 0⟩, ⟨1, 1, .rwt, [], 0⟩, ⟨0, 0, .rwt, [], 0⟩]⟩
  | .SCH_PORT_LAUNCH => ⟨0xE0500, [(128, 0x8)],
      [⟨31, 16, .rwt, [], 0⟩, ⟨15, 0, .rwt, [], 0⟩]⟩
  | .SCH_PORT_STATUS => ⟨0xE0900, [(128, 0x8)],
      [⟨44, 32, .ro, [], 0⟩, ⟨31, 31, .ro, [], 0⟩, ⟨30, 30, .ro, [], 0⟩,
       ⟨23, 16, .ro, [], 0⟩, ⟨10, 10, .ro, [], 0⟩, ⟨9, 0, .ro, [], 0⟩]⟩
  | .SCH_CLASS_CFG => ⟨0xE1000, [(128, 0x40), (8, 0x8)],
      [⟨23, 8, .rwt, [(1, 65535)], 16000⟩, ⟨2, 0, .rwt, [], 0⟩]⟩
  | .SCH_GATE_CTL => ⟨0xE3000, [(128, 0x8)],
      [⟨0, 0, .rwt, [], 0⟩]⟩
  | .SCH_GATE_SWITCH => ⟨0xE3400, [(128, 0x8)],
      [⟨63, 0, .rwt, [], 0⟩]⟩
  | .SCH_GATE_BANK => ⟨0xE3800, [(128, 0x10), (2, 0x8)],
      [⟨42, 32, .rw, [(1, 1024)], 1⟩, ⟨31, 16, .rw, [(1, 65535)], 1⟩, ⟨15, 0, .rw, [], 0⟩]⟩
  | .SCH_GATE_WIN_CMD => ⟨0xE4000, [(24, 0x2000000)],
      [⟨23, 21, .ro, [], 0⟩, ⟨20, 20, .ro, [], 0⟩, ⟨19, 10, .rw, [], 0⟩,
       ⟨9, 9, .rw, [], 0⟩, ⟨8, 2, .rw, [], 0⟩, ⟨1, 0, .rw, [], 0⟩]⟩
  | .SCH_GATE_WIN_DATA => ⟨0xE4008, [(24, 0x2000000)],
      [⟨63, 0, .rw, [], 0⟩]⟩
  | .SHP_CLASS => ⟨0xF0000, [(128, 0x40), (8, 0x8)],
      [⟨63, 62, .rwt, [(0, 2)], 0⟩, ⟨61, 61, .rwt, [], 0⟩, ⟨60, 54, .rwt, [(0, 63), (96, 127)], 20⟩,
       ⟨53, 30, .rwt, [], 0⟩, ⟨29, 0, .rwt, [], 0⟩]⟩
  | .SHP_PORT => ⟨0xF2000, [(128, 0x8)],
      [⟨63, 62, .rwt, [(0, 1)], 0⟩, ⟨61, 61, .rwt, [], 0⟩, ⟨60, 54, .rwt, [(0, 63), (96, 127)], 20⟩,
       ⟨53, 30, .rwt, [], 0⟩, ⟨29, 0, .rwt, [], 0⟩]⟩
  | .SHP_WIN_CMD => ⟨0xF3000, [(24, 0x2000000)],
      [⟨23, 21, .ro, [], 0⟩, ⟨20, 20, .ro, [], 0⟩, ⟨17, 4, .rw, [], 0⟩,
       ⟨1, 0, .rw, [], 0⟩]⟩
  | .SHP_WIN_DATA => ⟨0xF3008, [(24, 0x2000000)],
      [⟨63, 0, .rw, [], 0⟩]⟩
  | .SHP_EVENT => ⟨0xF3010, [],
      [⟨63, 48, .ro, [], 0⟩, ⟨1, 1, .sqc, [], 0⟩, ⟨0, 0, .sqc, [], 0⟩]⟩
  | .SHP_CLASS_TOKENS => ⟨0xF4000, [(128, 0x40), (8, 0x8)],
      [⟨31, 0, .ro, [], 0⟩]⟩
  | .SHP_PORT_TOKENS => ⟨0xF6000, [(128, 0x8)],
      [⟨31, 0, .ro, [], 0⟩]⟩
  | .POL_MAP => ⟨0xF8000, [(128, 0x40), (8, 0x8)],
      [⟨16, 16, .rwt, [], 0⟩, ⟨15, 0, .rwt, [], 0⟩]⟩
  | .POL_WIN_CMD => ⟨0xFA000, [(24, 0x2000000)],
      [⟨23, 21, .ro, [], 0⟩, ⟨20, 20, .ro, [], 0⟩, ⟨19, 4, .rw, [], 0⟩,
       ⟨1, 0, .rw, [], 0⟩]⟩
  | .POL_WIN_DATA0 => ⟨0xFA008, [(24, 0x2000000)],
      [⟨63, 0, .rw, [], 0⟩]⟩
  | .POL_WIN_DATA1 => ⟨0xFA010, [(24, 0x2000000)],
      [⟨63, 0, .rw, [], 0⟩]⟩
  | .POL_EVENT => ⟨0xFA018, [],
      [⟨63, 48, .ro, [], 0⟩, ⟨3, 3, .sqc, [], 0⟩, ⟨1, 1, .sqc, [], 0⟩,
       ⟨0, 0, .sqc, [], 0⟩]⟩
  -- 08_network_time.md, R234
  | .TIM_NOW_HI => ⟨0x30000, [],
      [⟨47, 0, .ro, [], 0⟩]⟩
  | .TIM_NOW_LO => ⟨0x30008, [],
      [⟨47, 16, .ro, [], 0⟩, ⟨15, 0, .ro, [], 0⟩]⟩
  | .TIM_STATUS => ⟨0x30010, [],
      [⟨63, 32, .ro, [], 0⟩, ⟨31, 16, .ro, [], 0⟩, ⟨9, 9, .ro, [], 0⟩,
       ⟨8, 7, .ro, [], 0⟩, ⟨6, 6, .ro, [], 0⟩, ⟨5, 4, .ro, [], 0⟩,
       ⟨3, 3, .ro, [], 0⟩, ⟨2, 0, .ro, [], 0⟩]⟩
  | .TIM_EVENT => ⟨0x30018, [],
      [⟨63, 48, .ro, [], 0⟩, ⟨7, 7, .sqc, [], 0⟩, ⟨6, 6, .sqc, [], 0⟩,
       ⟨5, 5, .sqc, [], 0⟩, ⟨4, 4, .sqc, [], 0⟩, ⟨3, 3, .sqc, [], 0⟩,
       ⟨2, 2, .sqc, [], 0⟩, ⟨1, 1, .sqc, [], 0⟩, ⟨0, 0, .sqc, [], 0⟩]⟩
  | .TIM_SERVO_CFG => ⟨0x30020, [],
      [⟨63, 56, .rw, [(1, 255)], 4⟩, ⟨55, 48, .rw, [(1, 255)], 10⟩, ⟨47, 32, .rw, [(1, 65535)], 100⟩,
       ⟨31, 16, .rw, [(1, 65535)], 1000⟩, ⟨15, 15, .rw, [], 0⟩, ⟨13, 0, .rw, [(1, 10000)], 1000⟩]⟩
  | .TIM_HOLD_CFG => ⟨0x30028, [],
      [⟨63, 48, .rw, [], 1000⟩, ⟨47, 40, .rw, [], 187⟩, ⟨39, 32, .rw, [], 128⟩,
       ⟨31, 31, .rw, [], 0⟩, ⟨16, 16, .rw, [], 0⟩, ⟨15, 0, .rw, [(1, 65535)], 240⟩]⟩
  | .TIM_ADJ => ⟨0x30030, [],
      [⟨63, 62, .wo, [], 0⟩, ⟨61, 0, .wo, [], 0⟩]⟩
  | .TIM_SET_SEC => ⟨0x30038, [],
      [⟨47, 0, .rw, [], 0⟩]⟩
  | .TIM_SET_NS => ⟨0x30040, [],
      [⟨47, 16, .rw, [], 0⟩, ⟨15, 0, .rw, [], 0⟩]⟩
  | .TIM_FREQ => ⟨0x30048, [],
      [⟨39, 0, .rw, [(0, 200000000000), (899511627776, 1099511627775)], 0⟩]⟩
  | .TIM_HOLD_FREQ => ⟨0x30050, [],
      [⟨39, 0, .ro, [], 0⟩]⟩
  | .TIM_REF_PRIO => ⟨0x30058, [],
      [⟨11, 8, .rwk, [], 15⟩, ⟨7, 0, .rwk, [], 228⟩]⟩
  | .TIM_MON_CFG => ⟨0x30060, [],
      [⟨63, 63, .rw, [], 0⟩, ⟨62, 52, .rw, [(1, 2047)], 300⟩, ⟨51, 40, .rw, [(1, 4095)], 100⟩,
       ⟨39, 32, .rw, [(1, 255)], 60⟩, ⟨31, 16, .rw, [], 200⟩, ⟨15, 0, .rw, [], 50⟩]⟩
  | .TIM_PTP_MEAS => ⟨0x30068, [],
      [⟨62, 40, .rw, [], 0⟩, ⟨39, 0, .rw, [], 0⟩]⟩
  | .TIM_PPS_CFG => ⟨0x30070, [],
      [⟨63, 62, .rw, [(0, 2)], 0⟩, ⟨61, 42, .rw, [(1, 999999)], 100000⟩, ⟨41, 26, .rw, [], 0⟩,
       ⟨25, 10, .rw, [], 0⟩]⟩
  | .TIM_PPS_TOD => ⟨0x30078, [],
      [⟨48, 48, .rw, [], 0⟩, ⟨47, 0, .rw, [], 0⟩]⟩
  | .TIM_PPS_ERR => ⟨0x30080, [],
      [⟨32, 32, .ro, [], 0⟩, ⟨31, 0, .ro, [], 0⟩]⟩
  | .TIM_ISLAND => ⟨0x30088, [],
      [⟨2, 2, .rw, [], 0⟩, ⟨1, 1, .rw, [], 0⟩, ⟨0, 0, .rw, [], 0⟩]⟩
  | .TIM_REF_STATUS => ⟨0x30100, [(4, 0x8)],
      [⟨63, 48, .ro, [], 0⟩, ⟨47, 16, .ro, [], 0⟩, ⟨3, 3, .ro, [], 0⟩,
       ⟨2, 0, .ro, [], 0⟩]⟩
  | .TIM_INST_CFG => ⟨0x30200, [(16, 0x8)],
      [⟨17, 17, .rw, [], 0⟩, ⟨16, 16, .rw, [], 0⟩, ⟨15, 8, .rw, [], 0⟩,
       ⟨6, 4, .rw, [], 0⟩, ⟨3, 1, .rw, [(0, 4)], 0⟩, ⟨0, 0, .rw, [], 0⟩]⟩
  | .TIM_PORT_CFG => ⟨0x31000, [(128, 0x20)],
      [⟨1, 1, .rw, [], 0⟩, ⟨0, 0, .rw, [], 0⟩]⟩
  | .TIM_PORT_EXT => ⟨0x31008, [(128, 0x20)],
      [⟨63, 32, .rw, [], 0⟩, ⟨31, 0, .rw, [], 0⟩]⟩
  | .TIM_PORT_ASYM => ⟨0x31010, [(128, 0x20)],
      [⟨63, 32, .rw, [], 0⟩, ⟨31, 0, .rw, [], 0⟩]⟩
  | .TIM_PORT_FACT => ⟨0x31018, [(128, 0x20)],
      [⟨63, 32, .ro, [], 0⟩, ⟨31, 0, .ro, [], 0⟩]⟩
  -- 09_clippings.md, R249
  | .CLP_CFG => ⟨0x100000, [],
      [⟨63, 48, .rw, [], 0⟩, ⟨21, 11, .rw, [(1, 1024)], 768⟩, ⟨10, 0, .rw, [], 256⟩]⟩
  | .CLP_STATUS => ⟨0x100008, [],
      [⟨35, 35, .ro, [], 0⟩, ⟨34, 34, .ro, [], 0⟩, ⟨33, 33, .ro, [], 0⟩,
       ⟨32, 32, .ro, [], 0⟩, ⟨26, 16, .ro, [], 0⟩, ⟨10, 0, .ro, [], 0⟩]⟩
  | .CLP_EVENT => ⟨0x100010, [],
      [⟨63, 48, .ro, [], 0⟩, ⟨4, 4, .sqc, [], 0⟩, ⟨3, 3, .sqc, [], 0⟩,
       ⟨1, 1, .sqc, [], 0⟩, ⟨0, 0, .sqc, [], 0⟩]⟩
  | .CLP_HEDGE_CFG => ⟨0x100100, [(16, 0x40)],
      [⟨63, 48, .rwt, [], 0⟩, ⟨47, 33, .rwt, [(0, 20000)], 0⟩, ⟨23, 16, .rwt, [(0, 0), (16, 16), (32, 32), (48, 48), (64, 64), (80, 80), (96, 96), (112, 112), (128, 128), (144, 144), (160, 160), (176, 176), (192, 192)], 0⟩,
       ⟨3, 2, .rwt, [], 0⟩, ⟨1, 1, .rwt, [], 0⟩, ⟨0, 0, .rwt, [], 0⟩]⟩
  | .CLP_HEDGE_SEL => ⟨0x100108, [(16, 0x40)],
      [⟨23, 1, .rwt, [], 0⟩]⟩
  | .CLP_RING_CFG => ⟨0x100110, [(16, 0x40)],
      [⟨45, 32, .rwk, [(0, 8192)], 0⟩, ⟨12, 0, .rwk, [], 0⟩]⟩
  | .CLP_RING_PROD => ⟨0x100118, [(16, 0x40)],
      [⟨31, 0, .ro, [], 0⟩]⟩
  | .CLP_RING_CONS => ⟨0x100120, [(16, 0x40)],
      [⟨31, 0, .rw, [], 0⟩]⟩
  | .CLP_HOST_BASE => ⟨0x100128, [(16, 0x40)],
      [⟨63, 12, .rw, [], 0⟩, ⟨4, 0, .rw, [(4, 20)], 0⟩]⟩
  | .CLP_HOST_IDX => ⟨0x100130, [(16, 0x40)],
      [⟨63, 32, .rw, [], 0⟩, ⟨31, 0, .ro, [], 0⟩]⟩
  | .CLP_EXPORT => ⟨0x100138, [(16, 0x40)],
      [⟨62, 56, .rwt, [], 0⟩, ⟨55, 53, .rwt, [], 0⟩, ⟨47, 0, .rwt, [], 0⟩]⟩
  | .CLP_PORT_SAMPLE => ⟨0x101000, [(128, 0x8)],
      [⟨55, 32, .rwt, [], 0⟩, ⟨23, 0, .rwt, [], 0⟩]⟩
  -- 10_packet_engines.md, R295
  | .ENG_CLUSTER_CTL => ⟨0x110000, [(4, 0x4000)],
      [⟨3, 2, .rw, [], 0⟩, ⟨1, 0, .rw, [(0, 1)], 0⟩]⟩
  | .ENG_CLUSTER_STATUS => ⟨0x110008, [(4, 0x4000)],
      [⟨41, 32, .ro, [], 0⟩, ⟨26, 22, .ro, [], 0⟩, ⟨21, 5, .ro, [], 0⟩,
       ⟨2, 0, .ro, [], 0⟩]⟩
  | .ENG_EVENT => ⟨0x110010, [(4, 0x4000)],
      [⟨63, 48, .ro, [], 0⟩, ⟨5, 5, .sqc, [], 0⟩, ⟨4, 4, .sqc, [], 0⟩,
       ⟨3, 3, .sqc, [], 0⟩, ⟨2, 2, .sqc, [], 0⟩, ⟨1, 1, .sqc, [], 0⟩,
       ⟨0, 0, .sqc, [], 0⟩]⟩
  | .ENG_XCHG_CTL => ⟨0x110018, [(4, 0x4000)],
      [⟨63, 28, .rwt, [], 0⟩, ⟨0, 0, .rwt, [], 0⟩]⟩
  | .ENG_XCHG_STATUS => ⟨0x110020, [(4, 0x4000)],
      [⟨63, 28, .ro, [], 0⟩, ⟨27, 16, .ro, [], 0⟩, ⟨15, 8, .ro, [], 0⟩,
       ⟨1, 0, .ro, [], 0⟩]⟩
  | .ENG_CS_WIN_CMD => ⟨0x110028, [(4, 0x4000)],
      [⟨23, 21, .ro, [], 0⟩, ⟨20, 20, .ro, [], 0⟩, ⟨19, 5, .rw, [], 0⟩,
       ⟨1, 0, .rw, [], 0⟩]⟩
  | .ENG_CS_WIN_DATA0 => ⟨0x110030, [(4, 0x4000)],
      [⟨63, 0, .rw, [], 0⟩]⟩
  | .ENG_CS_WIN_DATA1 => ⟨0x110038, [(4, 0x4000)],
      [⟨63, 0, .rw, [], 0⟩]⟩
  | .ENG_CS_WIN_DATA2 => ⟨0x110040, [(4, 0x4000)],
      [⟨15, 0, .ro, [], 0⟩]⟩
  | .ENG_TMR_CFG => ⟨0x110048, [(4, 0x4000)],
      [⟨8, 0, .rw, [(0, 256)], 0⟩]⟩
  | .ENG_TMR_STATUS => ⟨0x110050, [(4, 0x4000)],
      [⟨28, 16, .ro, [], 0⟩, ⟨12, 0, .ro, [], 0⟩]⟩
  | .ENG_JQ_STATUS => ⟨0x110058, [(4, 0x4000)],
      [⟨56, 48, .ro, [], 0⟩, ⟨42, 32, .ro, [], 0⟩, ⟨26, 16, .ro, [], 0⟩,
       ⟨9, 0, .ro, [], 0⟩]⟩
  | .ENG_DOORBELL => ⟨0x110060, [(4, 0x4000)],
      [⟨63, 8, .wo, [], 0⟩, ⟨7, 0, .wo, [(1, 255)], 0⟩]⟩
  | .ENG_JOB_LIMIT => ⟨0x110068, [(4, 0x4000)],
      [⟨31, 0, .rw, [], 0⟩]⟩
  | .ENG_HEDGE_THR => ⟨0x110100, [(4, 0x4000), (16, 0x8)],
      [⟨43, 32, .rwk, [(0, 4095)], 0⟩, ⟨25, 16, .rwk, [(1, 768)], 768⟩, ⟨9, 0, .rwk, [(0, 768)], 0⟩]⟩
  | .ENG_SQ_CFG => ⟨0x110200, [(1, 0x4000), (32, 0x8)],
      [⟨19, 19, .rwt, [], 0⟩, ⟨18, 18, .rwt, [], 0⟩, ⟨17, 16, .rwt, [], 0⟩,
       ⟨15, 8, .rwt, [(1, 255)], 0⟩]⟩
  | .ENG_EVT_ROUTE => ⟨0x110300, [(1, 0x4000), (64, 0x8)],
      [⟨63, 63, .rw, [], 0⟩, ⟨57, 56, .rw, [], 0⟩, ⟨55, 48, .rw, [], 0⟩,
       ⟨47, 40, .rw, [], 0⟩, ⟨39, 32, .rw, [], 0⟩, ⟨7, 0, .rw, [(1, 255)], 0⟩]⟩
  | .ENG_DISPATCH => ⟨0x110800, [(4, 0x4000), (256, 0x8)],
      [⟨63, 63, .ro, [], 0⟩, ⟨14, 0, .ro, [], 0⟩]⟩
  | .ENG_TICKJOB0 => ⟨0x111000, [(4, 0x4000), (256, 0x10)],
      [⟨63, 63, .rwt, [], 0⟩, ⟨62, 60, .rwt, [(0, 5)], 0⟩, ⟨59, 56, .rwt, [], 0⟩,
       ⟨55, 40, .rwt, [(1, 65535)], 0⟩, ⟨39, 24, .rwt, [], 0⟩, ⟨23, 8, .rwt, [(1, 65535)], 0⟩,
       ⟨7, 0, .rwt, [(1, 255)], 0⟩]⟩
  | .ENG_TICKJOB1 => ⟨0x111008, [(4, 0x4000), (256, 0x10)],
      [⟨63, 63, .ro, [], 0⟩, ⟨62, 48, .ro, [], 0⟩, ⟨47, 0, .rwt, [], 0⟩]⟩
  -- 11_engine_performance_counters.md, R308
  | .EPC_CYCLE => ⟨0x120000, [(4, 0x4000), (17, 0x200)],
      [⟨63, 0, .ro, [], 0⟩]⟩
  | .EPC_FREEZE_CYCLE => ⟨0x120008, [(4, 0x4000), (17, 0x200)],
      [⟨63, 0, .ro, [], 0⟩]⟩
  | .EPC_STATUS => ⟨0x120010, [(4, 0x4000), (17, 0x200)],
      [⟨63, 48, .ro, [], 0⟩, ⟨9, 8, .sqc, [], 0⟩, ⟨7, 0, .sqc, [], 0⟩]⟩
  | .EPC_SEL => ⟨0x120040, [(4, 0x4000), (17, 0x200), (8, 0x8)],
      [⟨22, 21, .rw, [(0, 2)], 0⟩, ⟨20, 20, .rw, [], 0⟩, ⟨19, 8, .rw, [], 0⟩,
       ⟨7, 0, .rw, [(0, 13), (16, 28), (32, 36), (40, 42)], 0⟩]⟩
  | .EPC_CTR => ⟨0x120080, [(4, 0x4000), (17, 0x200), (8, 0x8)],
      [⟨47, 0, .rw, [], 0⟩]⟩
  | .EPC_CTL => ⟨0x123000, [(4, 0x4000)],
      [⟨1, 1, .ro, [], 0⟩, ⟨0, 0, .rw, [], 0⟩]⟩
  | .EPC_EVENT => ⟨0x123008, [(4, 0x4000)],
      [⟨63, 48, .ro, [], 0⟩, ⟨4, 0, .sqc, [], 0⟩]⟩
  | .EPC_SAMPLE_CFG => ⟨0x123010, [(4, 0x4000)],
      [⟨19, 4, .rw, [(2, 65535)], 0⟩, ⟨2, 2, .rw, [], 0⟩, ⟨1, 1, .rw, [], 0⟩,
       ⟨0, 0, .rw, [], 0⟩]⟩
  | .EPC_SAMPLE_IDX => ⟨0x123018, [(4, 0x4000)],
      [⟨63, 48, .ro, [], 0⟩, ⟨31, 16, .rw, [], 0⟩, ⟨15, 0, .ro, [], 0⟩]⟩
  | .EPC_SAMPLE_CMD => ⟨0x123020, [(4, 0x4000)],
      [⟨13, 13, .ro, [], 0⟩, ⟨9, 0, .rw, [], 0⟩]⟩
  | .EPC_SAMPLE_DATA0 => ⟨0x123028, [(4, 0x4000)],
      [⟨63, 0, .ro, [], 0⟩]⟩
  | .EPC_SAMPLE_DATA1 => ⟨0x123030, [(4, 0x4000)],
      [⟨63, 0, .ro, [], 0⟩]⟩
  | .EPC_GLB_CTL => ⟨0x123F00, [(1, 0x4000)],
      [⟨0, 0, .rwt, [], 0⟩]⟩
  -- 12_dram_controller.md, R332
  | .DRM_CFG => ⟨0x130000, [],
      [⟨16, 16, .rw, [], 0⟩, ⟨15, 0, .rw, [], 64⟩]⟩
  | .DRM_STATUS => ⟨0x130008, [],
      [⟨2, 2, .ro, [], 0⟩, ⟨1, 1, .ro, [], 0⟩, ⟨0, 0, .ro, [], 0⟩]⟩
  | .DRM_EVENT => ⟨0x130010, [],
      [⟨63, 48, .ro, [], 0⟩, ⟨8, 0, .sqc, [], 0⟩]⟩
  | .DRM_ERR_LOG => ⟨0x130018, [],
      [⟨63, 62, .ro, [], 0⟩, ⟨61, 61, .ro, [], 0⟩, ⟨60, 60, .ro, [], 0⟩,
       ⟨59, 57, .ro, [], 0⟩, ⟨34, 6, .ro, [], 0⟩]⟩
  | .DRM_TRAIN_CFG => ⟨0x130020, [],
      [⟨23, 16, .rw, [(10, 100)], 100⟩, ⟨15, 0, .rw, [(1, 65535)], 168⟩]⟩
  | .DRM_CH_CTL => ⟨0x130100, [(2, 0x8)],
      [⟨0, 0, .rw, [], 0⟩]⟩
  | .DRM_CH_STATUS => ⟨0x130120, [(2, 0x8)],
      [⟨63, 48, .ro, [], 0⟩, ⟨17, 8, .ro, [], 0⟩, ⟨5, 4, .ro, [], 0⟩,
       ⟨2, 0, .ro, [], 0⟩]⟩
  | .DRM_HEDGE_WIN => ⟨0x130200, [(16, 0x8)],
      [⟨40, 32, .rwk, [(0, 304)], 0⟩, ⟨8, 0, .rwk, [(0, 303)], 0⟩]⟩
  | .DRM_HEDGE_BW => ⟨0x130280, [(16, 0x8)],
      [⟨23, 16, .rwk, [(1, 128)], 128⟩, ⟨9, 0, .rwk, [(1, 1023)], 256⟩]⟩
  | .DRM_WIN_CMD => ⟨0x131000, [(24, 0x2000000)],
      [⟨43, 41, .ro, [], 0⟩, ⟨40, 40, .ro, [], 0⟩, ⟨34, 6, .rw, [], 0⟩,
       ⟨1, 0, .rw, [], 0⟩]⟩
  | .DRM_WIN_DATA => ⟨0x131008, [(24, 0x2000000), (8, 0x8)],
      [⟨63, 0, .rw, [], 0⟩]⟩
  -- 13_hedges.md, R356
  | .HDG_CFG => ⟨0x140000, [(16, 0x1000)],
      [⟨1, 1, .rw, [], 0⟩, ⟨0, 0, .rw, [], 0⟩]⟩
  | .HDG_STATUS => ⟨0x140008, [(16, 0x1000)],
      [⟨63, 48, .ro, [], 0⟩, ⟨47, 32, .ro, [], 0⟩, ⟨3, 2, .ro, [], 0⟩,
       ⟨1, 0, .ro, [], 0⟩]⟩
  | .HDG_EVENT => ⟨0x140010, [(16, 0x1000)],
      [⟨63, 48, .ro, [], 0⟩, ⟨4, 4, .sqc, [], 0⟩, ⟨3, 3, .sqc, [], 0⟩,
       ⟨2, 2, .sqc, [], 0⟩, ⟨1, 1, .sqc, [], 0⟩, ⟨0, 0, .sqc, [], 0⟩]⟩
  | .HDG_RESET => ⟨0x140018, [(16, 0x1000)],
      [⟨1, 0, .wo, [(0, 2)], 0⟩]⟩
  | .HDG_EVT_CFG => ⟨0x140020, [(16, 0x1000)],
      [⟨63, 12, .rwk, [], 0⟩, ⟨11, 10, .rwk, [(0, 2)], 0⟩, ⟨4, 0, .rwk, [(4, 16)], 4⟩]⟩
  | .HDG_VEC_MAP => ⟨0x140028, [(16, 0x1000)],
      [⟨2, 0, .rwk, [], 0⟩, ⟨5, 3, .rwk, [], 0⟩, ⟨8, 6, .rwk, [], 0⟩,
       ⟨11, 9, .rwk, [], 0⟩, ⟨14, 12, .rwk, [], 0⟩, ⟨17, 15, .rwk, [], 0⟩,
       ⟨20, 18, .rwk, [], 0⟩, ⟨23, 21, .rwk, [], 0⟩]⟩
  | .HDG_SWINT => ⟨0x140030, [(16, 0x1000)],
      [⟨7, 4, .wo, [], 0⟩]⟩
  | .HDG_VEC_MOD => ⟨0x140040, [(16, 0x1000), (8, 0x8)],
      [⟨15, 0, .rw, [], 0⟩]⟩
  | .HDG_PORT_OWNER => ⟨0x150000, [(128, 0x8)],
      [⟨3, 0, .rwl, [], 0⟩]⟩
  | .HDG_GAP_CFG0 => ⟨0x150800, [(64, 0x10)],
      [⟨63, 63, .rwk, [], 0⟩, ⟨62, 59, .rwk, [], 0⟩, ⟨58, 55, .rwk, [], 0⟩,
       ⟨54, 54, .rwk, [], 0⟩, ⟨53, 52, .rwk, [(0, 2)], 0⟩, ⟨51, 40, .rwk, [], 0⟩,
       ⟨39, 26, .rwk, [], 0⟩, ⟨25, 10, .rwk, [], 0⟩, ⟨9, 9, .rwk, [], 0⟩,
       ⟨8, 8, .rwk, [], 0⟩, ⟨7, 5, .rwk, [], 0⟩]⟩
  | .HDG_GAP_CFG1 => ⟨0x150808, [(64, 0x10)],
      [⟨18, 0, .rwk, [], 0⟩]⟩
  | .HDG_GAP_STATUS => ⟨0x150C00, [(64, 0x8)],
      [⟨18, 0, .ro, [], 0⟩]⟩
  | .HDG_ROOT_FLOOR => ⟨0x150F00, [],
      [⟨57, 48, .rwl, [(0, 1023)], 0⟩, ⟨43, 32, .rwl, [], 0⟩, ⟨29, 20, .rwl, [(0, 768)], 0⟩,
       ⟨18, 0, .rwl, [], 0⟩]⟩
  -- 14_register_interface.md, R381
  | .GLB_ID => ⟨0x0, [],
      [⟨63, 48, .ro, [], 53445⟩, ⟨47, 32, .ro, [], 25618⟩, ⟨15, 8, .ro, [], 0⟩,
       ⟨7, 0, .ro, [], 0⟩]⟩
  | .GLB_EVENT => ⟨0x8, [],
      [⟨63, 48, .ro, [], 0⟩, ⟨4, 4, .sqc, [], 0⟩, ⟨3, 3, .sqc, [], 0⟩,
       ⟨2, 2, .sqc, [], 0⟩, ⟨1, 1, .sqc, [], 0⟩]⟩
  | .GLB_LOCK => ⟨0x10, [],
      [⟨4, 0, .rw, [], 0⟩]⟩
  | .GLB_UNLOCK => ⟨0x18, [],
      [⟨19, 16, .wo, [], 0⟩, ⟨15, 0, .wo, [], 0⟩]⟩
  | .GLB_GUARD_ARMED => ⟨0x20, [],
      [⟨3, 0, .ro, [], 0⟩]⟩
  | .GLB_GUARD_STATUS => ⟨0x28, [],
      [⟨63, 48, .ro, [], 0⟩, ⟨47, 32, .ro, [], 0⟩, ⟨31, 16, .ro, [], 0⟩,
       ⟨15, 0, .ro, [], 0⟩]⟩
  | .GLB_STATUS => ⟨0x30, [],
      [⟨15, 2, .ro, [], 0⟩, ⟨1, 1, .ro, [], 0⟩, ⟨0, 0, .ro, [], 0⟩]⟩
  | .GLB_FUSE_SHADOW => ⟨0x40, [(8, 0x8)],
      [⟨63, 0, .rwl, [], 0⟩]⟩
  | .GLB_CFG_DIGEST => ⟨0x200, [(17, 0x8)],
      [⟨63, 0, .ro, [], 0⟩]⟩
  | .EVT_EVENT => ⟨0x20000, [],
      [⟨63, 48, .ro, [], 0⟩, ⟨1, 1, .sqc, [], 0⟩]⟩
  | .EVT_IRQ_STATUS => ⟨0x20008, [],
      [⟨63, 48, .ro, [], 0⟩, ⟨31, 0, .sqc, [], 0⟩]⟩
  | .EVT_IRQ_EN => ⟨0x20010, [],
      [⟨31, 0, .rw, [], 0⟩]⟩
  | .EVT_DMP_SEL => ⟨0x20018, [],
      [⟨15, 0, .rw, [], 0⟩]⟩
  | .EVT_PF_SWINT => ⟨0x20020, [],
      [⟨7, 0, .wo, [], 0⟩]⟩
  | .EVT_PF_MOD => ⟨0x20100, [(32, 0x8)],
      [⟨15, 0, .rw, [], 0⟩]⟩
  | .EVT_RING_PROD => ⟨0x21000, [(16, 0x10)],
      [⟨31, 0, .ro, [], 0⟩]⟩
  | .EVT_RING_CONS => ⟨0x21008, [(16, 0x10)],
      [⟨31, 0, .rw, [], 0⟩]⟩
  | .EVT_RING_STATUS => ⟨0x21100, [(16, 0x8)],
      [⟨32, 32, .ro, [], 0⟩, ⟨31, 0, .ro, [], 0⟩]⟩
  -- 15_start_up_and_topiary.md, R410
  | .BOOT_STATUS => ⟨0x180000, [],
      [⟨55, 48, .ro, [], 0⟩, ⟨36, 32, .ro, [], 0⟩, ⟨28, 24, .ro, [], 0⟩,
       ⟨20, 16, .ro, [], 0⟩, ⟨12, 12, .ro, [], 0⟩, ⟨11, 11, .ro, [], 0⟩,
       ⟨10, 10, .ro, [], 0⟩, ⟨9, 8, .ro, [], 0⟩, ⟨3, 0, .ro, [], 0⟩]⟩
  | .BOOT_TIMES => ⟨0x180008, [],
      [⟨63, 48, .ro, [], 0⟩, ⟨47, 32, .ro, [], 0⟩, ⟨31, 16, .ro, [], 0⟩,
       ⟨15, 0, .ro, [], 0⟩]⟩
  | .TOP_INFO => ⟨0x180010, [],
      [⟨63, 48, .ro, [], 0⟩, ⟨47, 32, .ro, [], 0⟩, ⟨31, 16, .ro, [], 0⟩,
       ⟨15, 0, .ro, [], 0⟩]⟩
  | .TOP_ORIGIN => ⟨0x180018, [],
      [⟨41, 41, .ro, [], 0⟩, ⟨40, 40, .ro, [], 0⟩, ⟨39, 32, .ro, [], 0⟩,
       ⟨31, 0, .ro, [], 0⟩]⟩
  | .TOP_DIGEST => ⟨0x180020, [],
      [⟨63, 0, .ro, [], 0⟩]⟩
  | .CFG_DRIFT => ⟨0x180028, [],
      [⟨16, 0, .ro, [], 0⟩]⟩
  | .DMP_CFG => ⟨0x180030, [],
      [⟨31, 16, .rw, [(1, 65535)], 48410⟩, ⟨1, 1, .rw, [], 0⟩, ⟨0, 0, .rw, [], 0⟩]⟩
  | .DMP_ADDR => ⟨0x180038, [],
      [⟨51, 40, .rw, [(0, 4094)], 0⟩, ⟨39, 32, .rw, [(0, 32)], 0⟩, ⟨31, 0, .rw, [], 0⟩]⟩
  | .DMP_STATION => ⟨0x180040, [],
      [⟨47, 32, .rw, [], 0⟩, ⟨31, 0, .rw, [], 0⟩]⟩
  | .DMP_GATEWAY => ⟨0x180048, [],
      [⟨31, 0, .rw, [], 0⟩]⟩
  | .DMP_KEYS => ⟨0x180050, [],
      [⟨33, 33, .ro, [], 0⟩, ⟨32, 32, .ro, [], 0⟩, ⟨31, 16, .ro, [], 0⟩,
       ⟨15, 0, .ro, [], 0⟩]⟩
  | .DMP_RX_HIGH => ⟨0x180058, [],
      [⟨63, 0, .ro, [], 0⟩]⟩
  | .DMP_TX_NEXT => ⟨0x180060, [],
      [⟨63, 0, .ro, [], 0⟩]⟩
  | .DMP_REJECTS => ⟨0x180068, [],
      [⟨63, 48, .ro, [], 0⟩, ⟨47, 32, .ro, [], 0⟩, ⟨31, 16, .ro, [], 0⟩,
       ⟨15, 0, .ro, [], 0⟩]⟩
  | .DMP_EVENT => ⟨0x180070, [],
      [⟨63, 48, .ro, [], 0⟩, ⟨5, 5, .sqc, [], 0⟩, ⟨4, 4, .sqc, [], 0⟩,
       ⟨3, 3, .sqc, [], 0⟩, ⟨2, 2, .sqc, [], 0⟩, ⟨1, 1, .sqc, [], 0⟩,
       ⟨0, 0, .sqc, [], 0⟩]⟩
  | .LLDP_CFG => ⟨0x180078, [],
      [⟨24, 24, .rw, [], 0⟩, ⟨23, 0, .rw, [], 0⟩]⟩
  -- 16_update.md, R433
  | .UPD_CTL => ⟨0x170000, [],
      [⟨63, 32, .rw, [], 0⟩, ⟨3, 0, .rw, [(0, 6)], 0⟩]⟩
  | .UPD_CFG => ⟨0x170008, [],
      [⟨47, 40, .rw, [(1, 255)], 10⟩, ⟨39, 32, .rw, [(1, 255)], 30⟩, ⟨31, 16, .rw, [(10, 3600)], 120⟩,
       ⟨11, 0, .rw, [(60, 3600)], 600⟩]⟩
  | .UPD_STATUS => ⟨0x170010, [],
      [⟨44, 40, .ro, [], 0⟩, ⟨39, 24, .ro, [], 0⟩, ⟨23, 16, .ro, [], 0⟩,
       ⟨11, 8, .ro, [], 0⟩, ⟨6, 4, .ro, [], 0⟩, ⟨3, 0, .ro, [], 0⟩]⟩
  | .UPD_EVENT => ⟨0x170018, [],
      [⟨63, 48, .ro, [], 0⟩, ⟨7, 0, .sqc, [], 0⟩]⟩
  | .UPD_KEYS => ⟨0x170020, [],
      [⟨39, 36, .ro, [], 0⟩, ⟨35, 32, .ro, [], 0⟩, ⟨31, 0, .ro, [], 0⟩]⟩
  | .UPD_REVOKE => ⟨0x170028, [],
      [⟨3, 0, .rwl, [], 0⟩]⟩
  | .UPD_COMP => ⟨0x170100, [(5, 0x8)],
      [⟨63, 48, .ro, [], 0⟩, ⟨47, 32, .ro, [], 0⟩, ⟨31, 16, .ro, [], 0⟩,
       ⟨9, 8, .ro, [], 0⟩, ⟨0, 0, .ro, [], 0⟩]⟩
  | .NVM_STATUS => ⟨0x178000, [],
      [⟨31, 24, .ro, [], 0⟩, ⟨23, 16, .ro, [], 0⟩, ⟨3, 3, .ro, [], 0⟩,
       ⟨2, 2, .ro, [], 0⟩, ⟨1, 1, .ro, [], 0⟩, ⟨0, 0, .ro, [], 0⟩]⟩
  | .NVM_JOURNAL => ⟨0x178008, [],
      [⟨47, 40, .ro, [], 0⟩, ⟨33, 33, .ro, [], 0⟩, ⟨32, 32, .ro, [], 0⟩,
       ⟨31, 0, .ro, [], 0⟩]⟩
  | .NVM_GASP => ⟨0x178010, [],
      [⟨63, 32, .ro, [], 0⟩, ⟨2, 2, .ro, [], 0⟩, ⟨1, 1, .ro, [], 0⟩,
       ⟨0, 0, .ro, [], 0⟩]⟩
  | .NVM_EVENT => ⟨0x178018, [],
      [⟨63, 48, .ro, [], 0⟩, ⟨4, 0, .sqc, [], 0⟩]⟩
  | .NVM_WEAR => ⟨0x178020, [(2, 0x8)],
      [⟨63, 32, .ro, [], 0⟩, ⟨31, 0, .ro, [], 0⟩]⟩
  -- 17_integrity_repair_ageing.md, R462
  | .INT_SCRUB_CFG => ⟨0x160000, [],
      [⟨63, 56, .rw, [(1, 168)], 24⟩, ⟨55, 48, .rw, [(4, 64)], 16⟩, ⟨17, 0, .rw, (List.range 16).map fun k => (8192 * k, 8192 * k + 4095), 126975⟩]⟩
  | .INT_EVENT => ⟨0x160008, [],
      [⟨63, 48, .ro, [], 0⟩, ⟨11, 0, .sqc, [], 0⟩]⟩
  | .INT_UNC_LOG => ⟨0x160010, [],
      [⟨63, 59, .ro, [], 0⟩, ⟨58, 58, .ro, [], 0⟩, ⟨47, 16, .ro, [], 0⟩,
       ⟨15, 0, .ro, [], 0⟩]⟩
  | .INT_BUCKET_CFG => ⟨0x160100, [(7, 0x8)],
      [⟨63, 32, .rw, [(1, 4294967295)], 0⟩, ⟨31, 16, .rw, [(1, 65535)], 0⟩, ⟨15, 8, .rw, [(1, 255)], 0⟩,
       ⟨7, 0, .rw, [], 0⟩]⟩
  | .INT_BUCKET_MAX => ⟨0x160180, [(7, 0x8)],
      [⟨63, 48, .ro, [], 0⟩, ⟨31, 0, .ro, [], 0⟩]⟩
  | .INT_SCRUB_PASS => ⟨0x160200, [(18, 0x8)],
      [⟨63, 32, .ro, [], 0⟩, ⟨31, 0, .ro, [], 0⟩]⟩
  | .GRF_CMD => ⟨0x164000, [],
      [⟨42, 40, .ro, [], 0⟩, ⟨39, 39, .ro, [], 0⟩, ⟨38, 36, .rwl, [], 0⟩,
       ⟨35, 4, .rwl, [], 0⟩, ⟨3, 0, .rwl, [], 0⟩]⟩
  | .GRF_CFG => ⟨0x164008, [],
      [⟨15, 0, .rwl, [(1, 65535)], 24⟩]⟩
  | .GRF_STATUS => ⟨0x164010, [],
      [⟨63, 63, .ro, [], 0⟩, ⟨62, 60, .ro, [], 0⟩, ⟨59, 55, .ro, [], 0⟩,
       ⟨54, 54, .ro, [], 0⟩, ⟨41, 32, .ro, [], 0⟩, ⟨31, 0, .ro, [], 0⟩]⟩
  | .GRF_EVENT => ⟨0x164018, [],
      [⟨63, 48, .ro, [], 0⟩, ⟨11, 0, .sqc, [], 0⟩]⟩
  | .GRF_SPARES => ⟨0x164020, [],
      [⟨18, 16, .ro, [], 0⟩, ⟨14, 12, .ro, [], 0⟩, ⟨9, 8, .ro, [], 0⟩,
       ⟨7, 4, .ro, [], 0⟩, ⟨2, 0, .ro, [], 0⟩]⟩
  | .GRF_RECORD => ⟨0x164028, [],
      [⟨63, 32, .ro, [], 0⟩, ⟨27, 27, .ro, [], 0⟩, ⟨26, 26, .ro, [], 0⟩,
       ⟨11, 0, .ro, [], 0⟩]⟩
  | .GRF_MAP_BANK => ⟨0x164030, [],
      [⟨7, 7, .rwl, [], 0⟩, ⟨6, 6, .rwl, [], 0⟩, ⟨5, 0, .rwl, [], 0⟩,
       ⟨15, 15, .rwl, [], 0⟩, ⟨14, 14, .rwl, [], 0⟩, ⟨13, 8, .rwl, [], 0⟩,
       ⟨23, 23, .rwl, [], 0⟩, ⟨22, 22, .rwl, [], 0⟩, ⟨21, 16, .rwl, [], 0⟩,
       ⟨31, 31, .rwl, [], 0⟩, ⟨30, 30, .rwl, [], 0⟩, ⟨29, 24, .rwl, [], 0⟩]⟩
  | .GRF_MAP_CLS => ⟨0x164038, [],
      [⟨7, 7, .rwl, [], 0⟩, ⟨6, 6, .rwl, [], 0⟩, ⟨4, 0, .rwl, [], 0⟩,
       ⟨15, 15, .rwl, [], 0⟩, ⟨14, 14, .rwl, [], 0⟩, ⟨12, 8, .rwl, [], 0⟩]⟩
  | .AGE_CFG => ⟨0x168000, [],
      [⟨23, 16, .rw, [(50, 99)], 90⟩, ⟨15, 8, .rw, [(1, 40)], 5⟩, ⟨0, 0, .rw, [], 1⟩]⟩
  | .AGE_STATUS => ⟨0x168008, [],
      [⟨37, 0, .ro, [], 0⟩]⟩
  | .AGE_EVENT => ⟨0x168010, [],
      [⟨63, 48, .ro, [], 0⟩, ⟨11, 0, .sqc, [], 0⟩]⟩
  | .AGE_LIFE_DIE => ⟨0x168018, [],
      [⟨63, 32, .ro, [], 0⟩, ⟨31, 0, .ro, [], 0⟩]⟩
  | .AGE_LIFE_MOD => ⟨0x168020, [],
      [⟨63, 32, .ro, [], 0⟩, ⟨31, 0, .ro, [], 0⟩]⟩
  | .AGE_TEMP => ⟨0x168028, [],
      [⟨31, 16, .ro, [], 0⟩, ⟨15, 0, .ro, [], 0⟩]⟩
  | .AGE_MON => ⟨0x168100, [(38, 0x8)],
      [⟨63, 48, .ro, [], 0⟩, ⟨47, 32, .ro, [], 0⟩, ⟨7, 0, .ro, [], 0⟩]⟩
  | .AGE_FORECAST => ⟨0x168300, [(38, 0x8)],
      [⟨32, 32, .ro, [], 0⟩, ⟨31, 16, .ro, [], 0⟩, ⟨15, 0, .ro, [], 0⟩]⟩
  -- 18_power_feeds.md, R481
  | .PWR_STATUS => ⟨0x10000, [],
      [⟨47, 32, .ro, [], 0⟩, ⟨15, 15, .ro, [], 0⟩, ⟨14, 14, .ro, [], 0⟩,
       ⟨13, 13, .ro, [], 0⟩, ⟨7, 6, .ro, [], 0⟩, ⟨0, 0, .ro, [], 0⟩]⟩
  | .PWR_EVENT => ⟨0x10008, [],
      [⟨63, 48, .ro, [], 0⟩, ⟨8, 0, .sqc, [], 0⟩]⟩
  | .PWR_POLICY => ⟨0x10010, [],
      [⟨31, 16, .rwl, [], 300⟩, ⟨3, 3, .rwl, [], 0⟩, ⟨2, 2, .rwl, [], 1⟩,
       ⟨1, 0, .rwl, [(0, 2)], 0⟩]⟩
  | .PWR_CMD => ⟨0x10018, [],
      [⟨1, 0, .wo, [(0, 2)], 0⟩]⟩
  | .PWR_TEST_CFG => ⟨0x10020, [],
      [⟨31, 16, .rw, [(50, 2000)], 500⟩, ⟨15, 8, .rw, [(1, 255)], 10⟩]⟩
  | .PWR_FEED => ⟨0x10028, [(2, 0x8)],
      [⟨63, 48, .ro, [], 0⟩, ⟨47, 32, .ro, [], 0⟩, ⟨31, 16, .ro, [], 0⟩,
       ⟨5, 5, .ro, [], 0⟩, ⟨4, 4, .ro, [], 0⟩, ⟨2, 0, .ro, [], 0⟩]⟩
  | .PWR_HEALTH => ⟨0x10038, [(2, 0x8)],
      [⟨63, 32, .ro, [], 0⟩, ⟨31, 24, .ro, [], 0⟩, ⟨5, 5, .ro, [], 0⟩,
       ⟨4, 0, .ro, [], 0⟩]⟩
  | .PWR_HOLDUP => ⟨0x10048, [],
      [⟨63, 48, .ro, [], 0⟩, ⟨47, 32, .ro, [], 0⟩, ⟨31, 16, .ro, [], 0⟩,
       ⟨15, 0, .ro, [], 0⟩]⟩
  | .PWR_COUNTS => ⟨0x10050, [],
      [⟨63, 48, .ro, [], 0⟩, ⟨47, 32, .ro, [], 0⟩, ⟨31, 16, .ro, [], 0⟩,
       ⟨15, 0, .ro, [], 0⟩]⟩
  -- 20_connector_and_signals.md, R515
  | .GLB_PINS => ⟨0x300, [],
      [⟨13, 13, .ro, [], 0⟩, ⟨12, 12, .ro, [], 0⟩, ⟨11, 11, .ro, [], 0⟩,
       ⟨10, 10, .ro, [], 0⟩, ⟨9, 9, .ro, [], 0⟩, ⟨8, 8, .ro, [], 0⟩,
       ⟨7, 4, .ro, [], 0⟩, ⟨2, 1, .ro, [], 0⟩, ⟨0, 0, .ro, [], 0⟩]⟩
  | .GLB_RESET_CAUSE => ⟨0x308, [],
      [⟨15, 8, .ro, [], 0⟩, ⟨2, 0, .ro, [], 0⟩]⟩
  | .TRG_EVENT => ⟨0x32000, [],
      [⟨63, 48, .ro, [], 0⟩, ⟨2, 0, .sqc, [], 0⟩]⟩
  | .TRG_STATUS => ⟨0x32008, [],
      [⟨63, 32, .ro, [], 0⟩, ⟨31, 16, .ro, [], 0⟩, ⟨15, 8, .ro, [], 0⟩,
       ⟨7, 4, .ro, [], 0⟩, ⟨3, 0, .ro, [], 0⟩]⟩
  | .TRG_IN_CFG => ⟨0x32100, [(4, 0x20)],
      [⟨31, 16, .rw, [], 0⟩, ⟨15, 8, .rw, [(1, 255)], 1⟩, ⟨3, 3, .rw, [], 0⟩,
       ⟨1, 0, .rw, [], 0⟩]⟩
  | .TRG_IN_HEAD0 => ⟨0x32108, [(4, 0x20)],
      [⟨63, 63, .ro, [], 0⟩, ⟨62, 62, .ro, [], 0⟩, ⟨61, 61, .ro, [], 0⟩,
       ⟨60, 56, .ro, [], 0⟩, ⟨47, 0, .ro, [], 0⟩]⟩
  | .TRG_IN_HEAD1 => ⟨0x32110, [(4, 0x20)],
      [⟨63, 48, .ro, [], 0⟩, ⟨47, 16, .ro, [], 0⟩, ⟨15, 0, .ro, [], 0⟩]⟩
  | .TRG_IN_POP => ⟨0x32118, [(4, 0x20)],
      [⟨15, 0, .wo, [], 0⟩]⟩
  | .TRG_OUT_CFG => ⟨0x32200, [(4, 0x10)],
      [⟨47, 32, .rw, [], 1⟩, ⟨31, 16, .rw, [], 1⟩, ⟨14, 12, .rw, [], 0⟩,
       ⟨11, 5, .rw, [], 0⟩, ⟨4, 4, .rw, [], 0⟩, ⟨3, 0, .rw, [(0, 5)], 0⟩]⟩
  | .TRG_OUT_LEVEL => ⟨0x32208, [(4, 0x10)],
      [⟨0, 0, .rw, [], 0⟩]⟩

/-- The registers of each 64 KiB page of the register space, by page number. -/
def regsOfPage (page : Nat) : List Reg :=
  match page with
  | 0x0 => [.GLB_TICK_CFG, .GLB_TICK_NUM, .GLB_COMMIT_SEQ, .GLB_TICK_STATUS, .GLB_FENCE, .GLB_FENCE_DONE, .GLB_TICK_FENCE, .GLB_ID] ++
      [.GLB_EVENT, .GLB_LOCK, .GLB_UNLOCK, .GLB_GUARD_ARMED, .GLB_GUARD_STATUS, .GLB_STATUS, .GLB_FUSE_SHADOW, .GLB_CFG_DIGEST] ++
      [.GLB_PINS, .GLB_RESET_CAUSE]
  | 0x1 => [.PWR_STATUS, .PWR_EVENT, .PWR_POLICY, .PWR_CMD, .PWR_TEST_CFG, .PWR_FEED, .PWR_HEALTH, .PWR_HOLDUP] ++
      [.PWR_COUNTS]
  | 0x2 => [.EVT_EVENT, .EVT_IRQ_STATUS, .EVT_IRQ_EN, .EVT_DMP_SEL, .EVT_PF_SWINT, .EVT_PF_MOD, .EVT_RING_PROD, .EVT_RING_CONS] ++
      [.EVT_RING_STATUS]
  | 0x3 => [.TIM_NOW_HI, .TIM_NOW_LO, .TIM_STATUS, .TIM_EVENT, .TIM_SERVO_CFG, .TIM_HOLD_CFG, .TIM_ADJ, .TIM_SET_SEC] ++
      [.TIM_SET_NS, .TIM_FREQ, .TIM_HOLD_FREQ, .TIM_REF_PRIO, .TIM_MON_CFG, .TIM_PTP_MEAS, .TIM_PPS_CFG, .TIM_PPS_TOD] ++
      [.TIM_PPS_ERR, .TIM_ISLAND, .TIM_REF_STATUS, .TIM_INST_CFG, .TIM_PORT_CFG, .TIM_PORT_EXT, .TIM_PORT_ASYM, .TIM_PORT_FACT] ++
      [.TRG_EVENT, .TRG_STATUS, .TRG_IN_CFG, .TRG_IN_HEAD0, .TRG_IN_HEAD1, .TRG_IN_POP, .TRG_OUT_CFG, .TRG_OUT_LEVEL]
  | 0x4 => [.PRT_PORT_CFG, .PRT_PORT_STATUS, .PRT_PORT_EVENT, .PRT_FC_CFG, .PRT_EEE_CFG, .PRT_WAKE_STATUS, .PRT_WAKE_TIME, .PRT_MAC_ADDR] ++
      [.PRT_LANE_CFG, .PRT_LANE_STATUS, .PRT_TILE_CTL, .PRT_TILE_STATUS, .PRT_TILE_EVENT, .PRT_TILE_WAKE, .PRT_TILE_WAKE_TIME]
  | 0x5 => [.PRT_PORT_CFG, .PRT_PORT_STATUS, .PRT_PORT_EVENT, .PRT_FC_CFG, .PRT_EEE_CFG, .PRT_WAKE_STATUS, .PRT_WAKE_TIME, .PRT_MAC_ADDR] ++
      [.PRT_LANE_CFG, .PRT_LANE_STATUS, .PRT_TILE_CTL, .PRT_TILE_STATUS, .PRT_TILE_EVENT, .PRT_TILE_WAKE, .PRT_TILE_WAKE_TIME]
  | 0x8 => [.PAR_WIN_CMD, .PAR_WIN_W0, .PAR_WIN_W1, .PAR_EVENT, .PAR_HEDGE_CFG, .PAR_TPID, .PAR_UDP_PORTS]
  | 0x9 => [.CLS_SLICE_CFG, .CLS_RULE_CMD, .CLS_RULE_ACT, .CLS_RULE_KEY, .CLS_RULE_MASK, .CLS_HEDGE_CFG, .CLS_EVENT, .CLS_DSCP_MAP] ++
      [.CLS_PCP_MAP, .CLS_EXC_TB]
  | 0xA => [.FDB_CFG, .FDB_PRUNE_CFG, .FDB_WIN_CMD, .FDB_WIN_DATA0, .FDB_WIN_DATA1, .FDB_EVENT, .FDB_LEARN_STATUS, .FDB_HEDGE_CFG] ++
      [.FDB_HEDGE_AGE, .FDB_HEDGE_STATUS, .FDB_PORT_CFG, .FDB_TBL_CMD, .FDB_TBL_DATA]
  | 0xB => [.LPM_CFG, .LPM_STATUS, .LPM_WIN_CMD, .LPM_WIN_DATA, .LPM_EVENT, .LPM_ROOT]
  | 0xC => [.BUF_CFG, .BUF_STATUS, .BUF_CAPACITY, .BUF_EVENT, .BUF_HEDGE_CFG, .BUF_HEDGE_CLASS, .BUF_HEDGE_STATUS, .BUF_PORT_CFG] ++
      [.BUF_PORT_PFC, .BUF_PORT_STATUS, .BUF_TILE_CFG, .BUF_TILE_STATUS]
  | 0xD => [.QUE_VOQ_CMD, .QUE_VOQ_DATA0, .QUE_VOQ_DATA1, .QUE_EVENT, .QUE_EDIT_CMD, .QUE_EDIT_DATA]
  | 0xE => [.SCH_EVENT, .SCH_PORT_CFG, .SCH_PORT_LAUNCH, .SCH_PORT_STATUS, .SCH_CLASS_CFG, .SCH_GATE_CTL, .SCH_GATE_SWITCH, .SCH_GATE_BANK] ++
      [.SCH_GATE_WIN_CMD, .SCH_GATE_WIN_DATA]
  | 0xF => [.SHP_CLASS, .SHP_PORT, .SHP_WIN_CMD, .SHP_WIN_DATA, .SHP_EVENT, .SHP_CLASS_TOKENS, .SHP_PORT_TOKENS, .POL_MAP] ++
      [.POL_WIN_CMD, .POL_WIN_DATA0, .POL_WIN_DATA1, .POL_EVENT]
  | 0x10 => [.CLP_CFG, .CLP_STATUS, .CLP_EVENT, .CLP_HEDGE_CFG, .CLP_HEDGE_SEL, .CLP_RING_CFG, .CLP_RING_PROD, .CLP_RING_CONS] ++
      [.CLP_HOST_BASE, .CLP_HOST_IDX, .CLP_EXPORT, .CLP_PORT_SAMPLE]
  | 0x11 => [.ENG_CLUSTER_CTL, .ENG_CLUSTER_STATUS, .ENG_EVENT, .ENG_XCHG_CTL, .ENG_XCHG_STATUS, .ENG_CS_WIN_CMD, .ENG_CS_WIN_DATA0, .ENG_CS_WIN_DATA1] ++
      [.ENG_CS_WIN_DATA2, .ENG_TMR_CFG, .ENG_TMR_STATUS, .ENG_JQ_STATUS, .ENG_DOORBELL, .ENG_JOB_LIMIT, .ENG_HEDGE_THR, .ENG_SQ_CFG] ++
      [.ENG_EVT_ROUTE, .ENG_DISPATCH, .ENG_TICKJOB0, .ENG_TICKJOB1]
  | 0x12 => [.EPC_CYCLE, .EPC_FREEZE_CYCLE, .EPC_STATUS, .EPC_SEL, .EPC_CTR, .EPC_CTL, .EPC_EVENT, .EPC_SAMPLE_CFG] ++
      [.EPC_SAMPLE_IDX, .EPC_SAMPLE_CMD, .EPC_SAMPLE_DATA0, .EPC_SAMPLE_DATA1, .EPC_GLB_CTL]
  | 0x13 => [.DRM_CFG, .DRM_STATUS, .DRM_EVENT, .DRM_ERR_LOG, .DRM_TRAIN_CFG, .DRM_CH_CTL, .DRM_CH_STATUS, .DRM_HEDGE_WIN] ++
      [.DRM_HEDGE_BW, .DRM_WIN_CMD, .DRM_WIN_DATA]
  | 0x14 => [.HDG_CFG, .HDG_STATUS, .HDG_EVENT, .HDG_RESET, .HDG_EVT_CFG, .HDG_VEC_MAP, .HDG_SWINT, .HDG_VEC_MOD]
  | 0x15 => [.HDG_PORT_OWNER, .HDG_GAP_CFG0, .HDG_GAP_CFG1, .HDG_GAP_STATUS, .HDG_ROOT_FLOOR]
  | 0x16 => [.INT_SCRUB_CFG, .INT_EVENT, .INT_UNC_LOG, .INT_BUCKET_CFG, .INT_BUCKET_MAX, .INT_SCRUB_PASS, .GRF_CMD, .GRF_CFG] ++
      [.GRF_STATUS, .GRF_EVENT, .GRF_SPARES, .GRF_RECORD, .GRF_MAP_BANK, .GRF_MAP_CLS, .AGE_CFG, .AGE_STATUS] ++
      [.AGE_EVENT, .AGE_LIFE_DIE, .AGE_LIFE_MOD, .AGE_TEMP, .AGE_MON, .AGE_FORECAST]
  | 0x17 => [.UPD_CTL, .UPD_CFG, .UPD_STATUS, .UPD_EVENT, .UPD_KEYS, .UPD_REVOKE, .UPD_COMP, .NVM_STATUS] ++
      [.NVM_JOURNAL, .NVM_GASP, .NVM_EVENT, .NVM_WEAR]
  | 0x18 => [.BOOT_STATUS, .BOOT_TIMES, .TOP_INFO, .TOP_ORIGIN, .TOP_DIGEST, .CFG_DRIFT, .DMP_CFG, .DMP_ADDR] ++
      [.DMP_STATION, .DMP_GATEWAY, .DMP_KEYS, .DMP_RX_HIGH, .DMP_TX_NEXT, .DMP_REJECTS, .DMP_EVENT, .LLDP_CFG]
  | _ => []

end Sys2Proof.Machine
end

