-- ==== Sys2Proof/Machine/Fields.lean ====
section
/-! DEFINITION. The fields of the register map by name: REGISTER_FIELD is the register and the bits of its field, as the
field tables of the spec's chapters give them. -/

namespace Sys2Proof.Machine

/-- A named field: its register, its lowest bit and its width. -/
structure Fld where
  reg : Reg
  lo : Nat
  width : Nat
  deriving DecidableEq, Repr

def GLB_TICK_CFG_PERIOD_PEND : Fld := ⟨.GLB_TICK_CFG, 8, 1⟩
def GLB_TICK_CFG_SHED_LEVEL : Fld := ⟨.GLB_TICK_CFG, 4, 4⟩
def GLB_TICK_CFG_PERIOD : Fld := ⟨.GLB_TICK_CFG, 0, 4⟩
def GLB_TICK_NUM_TICK : Fld := ⟨.GLB_TICK_NUM, 0, 64⟩
def GLB_COMMIT_SEQ_SEQ : Fld := ⟨.GLB_COMMIT_SEQ, 0, 64⟩
def GLB_TICK_STATUS_SEQ : Fld := ⟨.GLB_TICK_STATUS, 48, 16⟩
def GLB_TICK_STATUS_OVR_COUNT : Fld := ⟨.GLB_TICK_STATUS, 32, 16⟩
def GLB_TICK_STATUS_STAGE_DROP_COUNT : Fld := ⟨.GLB_TICK_STATUS, 16, 16⟩
def GLB_TICK_STATUS_STEP_TICK : Fld := ⟨.GLB_TICK_STATUS, 4, 1⟩
def GLB_TICK_STATUS_FENCE_REFUSED : Fld := ⟨.GLB_TICK_STATUS, 3, 1⟩
def GLB_TICK_STATUS_PERIOD_REFUSED : Fld := ⟨.GLB_TICK_STATUS, 2, 1⟩
def GLB_TICK_STATUS_STAGE_OVERFLOW : Fld := ⟨.GLB_TICK_STATUS, 1, 1⟩
def GLB_TICK_STATUS_OVERRUN : Fld := ⟨.GLB_TICK_STATUS, 0, 1⟩
def GLB_FENCE_TOKEN : Fld := ⟨.GLB_FENCE, 0, 32⟩
def GLB_FENCE_DONE_PENDING : Fld := ⟨.GLB_FENCE_DONE, 32, 5⟩
def GLB_FENCE_DONE_TOKEN : Fld := ⟨.GLB_FENCE_DONE, 0, 32⟩
def GLB_TICK_FENCE_BUSY : Fld := ⟨.GLB_TICK_FENCE, 32, 1⟩
def GLB_TICK_FENCE_TOKEN : Fld := ⟨.GLB_TICK_FENCE, 0, 32⟩
def PRT_PORT_CFG_MAX_FRAME : Fld := ⟨.PRT_PORT_CFG, 16, 14⟩
def PRT_PORT_CFG_TRUNC_POLICY : Fld := ⟨.PRT_PORT_CFG, 14, 1⟩
def PRT_PORT_CFG_EEE_EN : Fld := ⟨.PRT_PORT_CFG, 13, 1⟩
def PRT_PORT_CFG_LOOPBACK : Fld := ⟨.PRT_PORT_CFG, 11, 2⟩
def PRT_PORT_CFG_ADMIN : Fld := ⟨.PRT_PORT_CFG, 9, 2⟩
def PRT_PORT_CFG_LT_EN : Fld := ⟨.PRT_PORT_CFG, 8, 1⟩
def PRT_PORT_CFG_AN_EN : Fld := ⟨.PRT_PORT_CFG, 7, 1⟩
def PRT_PORT_CFG_FEC : Fld := ⟨.PRT_PORT_CFG, 4, 3⟩
def PRT_PORT_CFG_TYPE : Fld := ⟨.PRT_PORT_CFG, 0, 4⟩
def PRT_PORT_STATUS_XOFF : Fld := ⟨.PRT_PORT_STATUS, 24, 8⟩
def PRT_PORT_STATUS_PAUSED : Fld := ⟨.PRT_PORT_STATUS, 16, 8⟩
def PRT_PORT_STATUS_LINK_FAULT : Fld := ⟨.PRT_PORT_STATUS, 11, 1⟩
def PRT_PORT_STATUS_LPI_RX : Fld := ⟨.PRT_PORT_STATUS, 10, 1⟩
def PRT_PORT_STATUS_LPI_TX : Fld := ⟨.PRT_PORT_STATUS, 9, 1⟩
def PRT_PORT_STATUS_LT_DONE : Fld := ⟨.PRT_PORT_STATUS, 8, 1⟩
def PRT_PORT_STATUS_AN_FAIL : Fld := ⟨.PRT_PORT_STATUS, 7, 1⟩
def PRT_PORT_STATUS_AN_DONE : Fld := ⟨.PRT_PORT_STATUS, 6, 1⟩
def PRT_PORT_STATUS_FEC_LOCK : Fld := ⟨.PRT_PORT_STATUS, 5, 1⟩
def PRT_PORT_STATUS_PCS_LOCK : Fld := ⟨.PRT_PORT_STATUS, 4, 1⟩
def PRT_PORT_STATUS_SIGNAL : Fld := ⟨.PRT_PORT_STATUS, 3, 1⟩
def PRT_PORT_STATUS_STATE : Fld := ⟨.PRT_PORT_STATUS, 0, 3⟩
def PRT_PORT_EVENT_SEQ : Fld := ⟨.PRT_PORT_EVENT, 48, 16⟩
def PRT_PORT_EVENT_RESERVED_WRITE : Fld := ⟨.PRT_PORT_EVENT, 6, 1⟩
def PRT_PORT_EVENT_CFG_REFUSED : Fld := ⟨.PRT_PORT_EVENT, 5, 1⟩
def PRT_PORT_EVENT_LINK_FAULT : Fld := ⟨.PRT_PORT_EVENT, 4, 1⟩
def PRT_PORT_EVENT_RETIRED : Fld := ⟨.PRT_PORT_EVENT, 3, 1⟩
def PRT_PORT_EVENT_WAKE_DONE : Fld := ⟨.PRT_PORT_EVENT, 2, 1⟩
def PRT_PORT_EVENT_LINK_DOWN : Fld := ⟨.PRT_PORT_EVENT, 1, 1⟩
def PRT_PORT_EVENT_LINK_UP : Fld := ⟨.PRT_PORT_EVENT, 0, 1⟩
def PRT_FC_CFG_REFRESH : Fld := ⟨.PRT_FC_CFG, 48, 16⟩
def PRT_FC_CFG_QUANTA : Fld := ⟨.PRT_FC_CFG, 32, 16⟩
def PRT_FC_CFG_PFC_GATE_CLASS : Fld := ⟨.PRT_FC_CFG, 24, 3⟩
def PRT_FC_CFG_GEN : Fld := ⟨.PRT_FC_CFG, 16, 8⟩
def PRT_FC_CFG_OBEY : Fld := ⟨.PRT_FC_CFG, 8, 8⟩
def PRT_FC_CFG_MODE : Fld := ⟨.PRT_FC_CFG, 0, 2⟩
def PRT_EEE_CFG_IDLE_US : Fld := ⟨.PRT_EEE_CFG, 0, 16⟩
def PRT_WAKE_STATUS_SEQ : Fld := ⟨.PRT_WAKE_STATUS, 48, 16⟩
def PRT_WAKE_STATUS_SLEEP_REFUSED : Fld := ⟨.PRT_WAKE_STATUS, 3, 1⟩
def PRT_WAKE_STATUS_DONE : Fld := ⟨.PRT_WAKE_STATUS, 2, 1⟩
def PRT_WAKE_STATUS_REMOTE_REQ : Fld := ⟨.PRT_WAKE_STATUS, 1, 1⟩
def PRT_WAKE_STATUS_HOST_REQ : Fld := ⟨.PRT_WAKE_STATUS, 0, 1⟩
def PRT_WAKE_TIME_SEC : Fld := ⟨.PRT_WAKE_TIME, 32, 16⟩
def PRT_WAKE_TIME_NS : Fld := ⟨.PRT_WAKE_TIME, 0, 32⟩
def PRT_MAC_ADDR_ADDR : Fld := ⟨.PRT_MAC_ADDR, 0, 48⟩
def PRT_LANE_CFG_TX_PRESET : Fld := ⟨.PRT_LANE_CFG, 2, 4⟩
def PRT_LANE_CFG_RX_INV : Fld := ⟨.PRT_LANE_CFG, 1, 1⟩
def PRT_LANE_CFG_TX_INV : Fld := ⟨.PRT_LANE_CFG, 0, 1⟩
def PRT_LANE_STATUS_BUCKET : Fld := ⟨.PRT_LANE_STATUS, 32, 16⟩
def PRT_LANE_STATUS_EYE_MARGIN : Fld := ⟨.PRT_LANE_STATUS, 16, 8⟩
def PRT_LANE_STATUS_TESTING : Fld := ⟨.PRT_LANE_STATUS, 3, 1⟩
def PRT_LANE_STATUS_RETIRED : Fld := ⟨.PRT_LANE_STATUS, 2, 1⟩
def PRT_LANE_STATUS_CDR_LOCK : Fld := ⟨.PRT_LANE_STATUS, 1, 1⟩
def PRT_LANE_STATUS_SIGNAL : Fld := ⟨.PRT_LANE_STATUS, 0, 1⟩
def PRT_TILE_CTL_WAKE_ON_SIGNAL : Fld := ⟨.PRT_TILE_CTL, 2, 1⟩
def PRT_TILE_CTL_STATE_REQ : Fld := ⟨.PRT_TILE_CTL, 0, 2⟩
def PRT_TILE_STATUS_RETIRED_LANES : Fld := ⟨.PRT_TILE_STATUS, 16, 16⟩
def PRT_TILE_STATUS_STATE : Fld := ⟨.PRT_TILE_STATUS, 0, 3⟩
def PRT_TILE_EVENT_SEQ : Fld := ⟨.PRT_TILE_EVENT, 48, 16⟩
def PRT_TILE_EVENT_RESERVED_WRITE : Fld := ⟨.PRT_TILE_EVENT, 3, 1⟩
def PRT_TILE_EVENT_REQ_REFUSED : Fld := ⟨.PRT_TILE_EVENT, 2, 1⟩
def PRT_TILE_EVENT_WAKE_DONE : Fld := ⟨.PRT_TILE_EVENT, 1, 1⟩
def PRT_TILE_EVENT_STATE_CHANGE : Fld := ⟨.PRT_TILE_EVENT, 0, 1⟩
def PRT_TILE_WAKE_SEQ : Fld := ⟨.PRT_TILE_WAKE, 48, 16⟩
def PRT_TILE_WAKE_SLEEP_REFUSED : Fld := ⟨.PRT_TILE_WAKE, 3, 1⟩
def PRT_TILE_WAKE_DONE : Fld := ⟨.PRT_TILE_WAKE, 2, 1⟩
def PRT_TILE_WAKE_REMOTE_REQ : Fld := ⟨.PRT_TILE_WAKE, 1, 1⟩
def PRT_TILE_WAKE_HOST_REQ : Fld := ⟨.PRT_TILE_WAKE, 0, 1⟩
def PRT_TILE_WAKE_TIME_SEC : Fld := ⟨.PRT_TILE_WAKE_TIME, 32, 16⟩
def PRT_TILE_WAKE_TIME_NS : Fld := ⟨.PRT_TILE_WAKE_TIME, 0, 32⟩
def PAR_WIN_CMD_STATUS : Fld := ⟨.PAR_WIN_CMD, 12, 2⟩
def PAR_WIN_CMD_BUSY : Fld := ⟨.PAR_WIN_CMD, 11, 1⟩
def PAR_WIN_CMD_INDEX : Fld := ⟨.PAR_WIN_CMD, 3, 8⟩
def PAR_WIN_CMD_TABLE : Fld := ⟨.PAR_WIN_CMD, 2, 1⟩
def PAR_WIN_CMD_OP : Fld := ⟨.PAR_WIN_CMD, 0, 2⟩
def PAR_WIN_W0_WORD : Fld := ⟨.PAR_WIN_W0, 0, 64⟩
def PAR_WIN_W1_WORD : Fld := ⟨.PAR_WIN_W1, 0, 64⟩
def PAR_EVENT_SEQ : Fld := ⟨.PAR_EVENT, 48, 16⟩
def PAR_EVENT_RESERVED_WRITE : Fld := ⟨.PAR_EVENT, 1, 1⟩
def PAR_EVENT_REFUSED : Fld := ⟨.PAR_EVENT, 0, 1⟩
def PAR_HEDGE_CFG_FAIL_ACTION : Fld := ⟨.PAR_HEDGE_CFG, 12, 2⟩
def PAR_HEDGE_CFG_IPV4_CSUM : Fld := ⟨.PAR_HEDGE_CFG, 11, 1⟩
def PAR_HEDGE_CFG_ROOT_NODE : Fld := ⟨.PAR_HEDGE_CFG, 5, 6⟩
def PAR_HEDGE_CFG_DEPTH : Fld := ⟨.PAR_HEDGE_CFG, 0, 5⟩
def PAR_TPID_TPID0 : Fld := ⟨.PAR_TPID, 0, 16⟩
def PAR_TPID_TPID1 : Fld := ⟨.PAR_TPID, 16, 16⟩
def PAR_TPID_TPID2 : Fld := ⟨.PAR_TPID, 32, 16⟩
def PAR_TPID_TPID3 : Fld := ⟨.PAR_TPID, 48, 16⟩
def PAR_UDP_PORTS_MPLS_UDP : Fld := ⟨.PAR_UDP_PORTS, 16, 16⟩
def PAR_UDP_PORTS_VXLAN : Fld := ⟨.PAR_UDP_PORTS, 0, 16⟩
def CLS_SLICE_CFG_OWNER : Fld := ⟨.CLS_SLICE_CFG, 12, 4⟩
def CLS_SLICE_CFG_PRIO : Fld := ⟨.CLS_SLICE_CFG, 7, 5⟩
def CLS_SLICE_CFG_FMT : Fld := ⟨.CLS_SLICE_CFG, 4, 3⟩
def CLS_SLICE_CFG_PAIR : Fld := ⟨.CLS_SLICE_CFG, 3, 1⟩
def CLS_SLICE_CFG_EN : Fld := ⟨.CLS_SLICE_CFG, 0, 1⟩
def CLS_RULE_CMD_STATUS : Fld := ⟨.CLS_RULE_CMD, 21, 3⟩
def CLS_RULE_CMD_BUSY : Fld := ⟨.CLS_RULE_CMD, 20, 1⟩
def CLS_RULE_CMD_INDEX : Fld := ⟨.CLS_RULE_CMD, 9, 11⟩
def CLS_RULE_CMD_SLICE : Fld := ⟨.CLS_RULE_CMD, 4, 5⟩
def CLS_RULE_CMD_FORCE : Fld := ⟨.CLS_RULE_CMD, 3, 1⟩
def CLS_RULE_CMD_OP : Fld := ⟨.CLS_RULE_CMD, 0, 3⟩
def CLS_RULE_ACT_VALID : Fld := ⟨.CLS_RULE_ACT, 63, 1⟩
def CLS_RULE_ACT_QSEL : Fld := ⟨.CLS_RULE_ACT, 8, 8⟩
def CLS_RULE_ACT_QSEL_EN : Fld := ⟨.CLS_RULE_ACT, 7, 1⟩
def CLS_RULE_ACT_COLOUR : Fld := ⟨.CLS_RULE_ACT, 5, 2⟩
def CLS_RULE_ACT_COLOUR_EN : Fld := ⟨.CLS_RULE_ACT, 4, 1⟩
def CLS_RULE_ACT_CLASS : Fld := ⟨.CLS_RULE_ACT, 1, 3⟩
def CLS_RULE_ACT_CLASS_EN : Fld := ⟨.CLS_RULE_ACT, 0, 1⟩
def CLS_RULE_KEY_BITS : Fld := ⟨.CLS_RULE_KEY, 0, 64⟩
def CLS_RULE_MASK_BITS : Fld := ⟨.CLS_RULE_MASK, 0, 64⟩
def CLS_HEDGE_CFG_EXC_DEST : Fld := ⟨.CLS_HEDGE_CFG, 7, 1⟩
def CLS_HEDGE_CFG_DEF_COLOUR : Fld := ⟨.CLS_HEDGE_CFG, 5, 2⟩
def CLS_HEDGE_CFG_DEF_CLASS : Fld := ⟨.CLS_HEDGE_CFG, 2, 3⟩
def CLS_HEDGE_CFG_DEF_MODE : Fld := ⟨.CLS_HEDGE_CFG, 0, 2⟩
def CLS_EVENT_SEQ : Fld := ⟨.CLS_EVENT, 48, 16⟩
def CLS_EVENT_SLICE_REFUSED : Fld := ⟨.CLS_EVENT, 3, 1⟩
def CLS_EVENT_EXC_LIMIT : Fld := ⟨.CLS_EVENT, 2, 1⟩
def CLS_EVENT_RESERVED_WRITE : Fld := ⟨.CLS_EVENT, 1, 1⟩
def CLS_EVENT_REFUSED : Fld := ⟨.CLS_EVENT, 0, 1⟩
def CLS_DSCP_MAP_CLASS0 : Fld := ⟨.CLS_DSCP_MAP, 0, 3⟩
def CLS_DSCP_MAP_COLOUR0 : Fld := ⟨.CLS_DSCP_MAP, 3, 2⟩
def CLS_DSCP_MAP_CLASS1 : Fld := ⟨.CLS_DSCP_MAP, 8, 3⟩
def CLS_DSCP_MAP_COLOUR1 : Fld := ⟨.CLS_DSCP_MAP, 11, 2⟩
def CLS_DSCP_MAP_CLASS2 : Fld := ⟨.CLS_DSCP_MAP, 16, 3⟩
def CLS_DSCP_MAP_COLOUR2 : Fld := ⟨.CLS_DSCP_MAP, 19, 2⟩
def CLS_DSCP_MAP_CLASS3 : Fld := ⟨.CLS_DSCP_MAP, 24, 3⟩
def CLS_DSCP_MAP_COLOUR3 : Fld := ⟨.CLS_DSCP_MAP, 27, 2⟩
def CLS_DSCP_MAP_CLASS4 : Fld := ⟨.CLS_DSCP_MAP, 32, 3⟩
def CLS_DSCP_MAP_COLOUR4 : Fld := ⟨.CLS_DSCP_MAP, 35, 2⟩
def CLS_DSCP_MAP_CLASS5 : Fld := ⟨.CLS_DSCP_MAP, 40, 3⟩
def CLS_DSCP_MAP_COLOUR5 : Fld := ⟨.CLS_DSCP_MAP, 43, 2⟩
def CLS_DSCP_MAP_CLASS6 : Fld := ⟨.CLS_DSCP_MAP, 48, 3⟩
def CLS_DSCP_MAP_COLOUR6 : Fld := ⟨.CLS_DSCP_MAP, 51, 2⟩
def CLS_DSCP_MAP_CLASS7 : Fld := ⟨.CLS_DSCP_MAP, 56, 3⟩
def CLS_DSCP_MAP_COLOUR7 : Fld := ⟨.CLS_DSCP_MAP, 59, 2⟩
def CLS_PCP_MAP_CLASS0 : Fld := ⟨.CLS_PCP_MAP, 0, 3⟩
def CLS_PCP_MAP_COLOUR0 : Fld := ⟨.CLS_PCP_MAP, 3, 2⟩
def CLS_PCP_MAP_CLASS1 : Fld := ⟨.CLS_PCP_MAP, 8, 3⟩
def CLS_PCP_MAP_COLOUR1 : Fld := ⟨.CLS_PCP_MAP, 11, 2⟩
def CLS_PCP_MAP_CLASS2 : Fld := ⟨.CLS_PCP_MAP, 16, 3⟩
def CLS_PCP_MAP_COLOUR2 : Fld := ⟨.CLS_PCP_MAP, 19, 2⟩
def CLS_PCP_MAP_CLASS3 : Fld := ⟨.CLS_PCP_MAP, 24, 3⟩
def CLS_PCP_MAP_COLOUR3 : Fld := ⟨.CLS_PCP_MAP, 27, 2⟩
def CLS_PCP_MAP_CLASS4 : Fld := ⟨.CLS_PCP_MAP, 32, 3⟩
def CLS_PCP_MAP_COLOUR4 : Fld := ⟨.CLS_PCP_MAP, 35, 2⟩
def CLS_PCP_MAP_CLASS5 : Fld := ⟨.CLS_PCP_MAP, 40, 3⟩
def CLS_PCP_MAP_COLOUR5 : Fld := ⟨.CLS_PCP_MAP, 43, 2⟩
def CLS_PCP_MAP_CLASS6 : Fld := ⟨.CLS_PCP_MAP, 48, 3⟩
def CLS_PCP_MAP_COLOUR6 : Fld := ⟨.CLS_PCP_MAP, 51, 2⟩
def CLS_PCP_MAP_CLASS7 : Fld := ⟨.CLS_PCP_MAP, 56, 3⟩
def CLS_PCP_MAP_COLOUR7 : Fld := ⟨.CLS_PCP_MAP, 59, 2⟩
def CLS_EXC_TB_EXC_CLASS : Fld := ⟨.CLS_EXC_TB, 36, 3⟩
def CLS_EXC_TB_BURST : Fld := ⟨.CLS_EXC_TB, 20, 16⟩
def CLS_EXC_TB_RATE : Fld := ⟨.CLS_EXC_TB, 0, 20⟩
def FDB_CFG_FDB_SEED : Fld := ⟨.FDB_CFG, 32, 32⟩
def FDB_CFG_LB_SEED : Fld := ⟨.FDB_CFG, 1, 31⟩
def FDB_CFG_LB_INNER : Fld := ⟨.FDB_CFG, 0, 1⟩
def FDB_PRUNE_CFG_STEP_TICKS : Fld := ⟨.FDB_PRUNE_CFG, 16, 16⟩
def FDB_PRUNE_CFG_BUCKETS : Fld := ⟨.FDB_PRUNE_CFG, 0, 13⟩
def FDB_WIN_CMD_STATUS : Fld := ⟨.FDB_WIN_CMD, 31, 4⟩
def FDB_WIN_CMD_BUSY : Fld := ⟨.FDB_WIN_CMD, 30, 1⟩
def FDB_WIN_CMD_FL_DYNAMIC : Fld := ⟨.FDB_WIN_CMD, 29, 1⟩
def FDB_WIN_CMD_FL_DEST : Fld := ⟨.FDB_WIN_CMD, 28, 1⟩
def FDB_WIN_CMD_FL_HEDGE : Fld := ⟨.FDB_WIN_CMD, 27, 1⟩
def FDB_WIN_CMD_FL_FID : Fld := ⟨.FDB_WIN_CMD, 26, 1⟩
def FDB_WIN_CMD_LOC : Fld := ⟨.FDB_WIN_CMD, 4, 19⟩
def FDB_WIN_CMD_OP : Fld := ⟨.FDB_WIN_CMD, 0, 4⟩
def FDB_WIN_DATA0_WORD : Fld := ⟨.FDB_WIN_DATA0, 0, 64⟩
def FDB_WIN_DATA1_WORD : Fld := ⟨.FDB_WIN_DATA1, 0, 64⟩
def FDB_EVENT_SEQ : Fld := ⟨.FDB_EVENT, 48, 16⟩
def FDB_EVENT_QUOTA_FULL : Fld := ⟨.FDB_EVENT, 5, 1⟩
def FDB_EVENT_MOVE_BLOCKED : Fld := ⟨.FDB_EVENT, 4, 1⟩
def FDB_EVENT_THICKET_DUP : Fld := ⟨.FDB_EVENT, 3, 1⟩
def FDB_EVENT_LEARN_FAIL : Fld := ⟨.FDB_EVENT, 2, 1⟩
def FDB_EVENT_RESERVED_WRITE : Fld := ⟨.FDB_EVENT, 1, 1⟩
def FDB_EVENT_REFUSED : Fld := ⟨.FDB_EVENT, 0, 1⟩
def FDB_LEARN_STATUS_QUEUE_FILL : Fld := ⟨.FDB_LEARN_STATUS, 0, 13⟩
def FDB_HEDGE_CFG_LEARN_MODE : Fld := ⟨.FDB_HEDGE_CFG, 38, 2⟩
def FDB_HEDGE_CFG_ASSIST_QUEUE : Fld := ⟨.FDB_HEDGE_CFG, 33, 5⟩
def FDB_HEDGE_CFG_QUOTA : Fld := ⟨.FDB_HEDGE_CFG, 0, 19⟩
def FDB_HEDGE_AGE_AGE_EN : Fld := ⟨.FDB_HEDGE_AGE, 17, 1⟩
def FDB_HEDGE_AGE_PERIOD_S : Fld := ⟨.FDB_HEDGE_AGE, 0, 17⟩
def FDB_HEDGE_STATUS_STATIC : Fld := ⟨.FDB_HEDGE_STATUS, 19, 19⟩
def FDB_HEDGE_STATUS_ENTRIES : Fld := ⟨.FDB_HEDGE_STATUS, 0, 19⟩
def FDB_PORT_CFG_LAG_MEMBER : Fld := ⟨.FDB_PORT_CFG, 23, 1⟩
def FDB_PORT_CFG_LAG : Fld := ⟨.FDB_PORT_CFG, 16, 7⟩
def FDB_PORT_CFG_MOVE_DISCARD : Fld := ⟨.FDB_PORT_CFG, 15, 1⟩
def FDB_PORT_CFG_FLUSH_ON_DOWN : Fld := ⟨.FDB_PORT_CFG, 14, 1⟩
def FDB_PORT_CFG_LEARN_EN : Fld := ⟨.FDB_PORT_CFG, 13, 1⟩
def FDB_PORT_CFG_PVID : Fld := ⟨.FDB_PORT_CFG, 0, 12⟩
def FDB_TBL_CMD_BUSY : Fld := ⟨.FDB_TBL_CMD, 31, 1⟩
def FDB_TBL_CMD_STATUS : Fld := ⟨.FDB_TBL_CMD, 28, 3⟩
def FDB_TBL_CMD_INDEX : Fld := ⟨.FDB_TBL_CMD, 8, 18⟩
def FDB_TBL_CMD_TABLE : Fld := ⟨.FDB_TBL_CMD, 4, 4⟩
def FDB_TBL_CMD_OP : Fld := ⟨.FDB_TBL_CMD, 0, 4⟩
def FDB_TBL_DATA_WORD : Fld := ⟨.FDB_TBL_DATA, 0, 64⟩
def LPM_CFG_V6_MODE : Fld := ⟨.LPM_CFG, 1, 1⟩
def LPM_CFG_V4_MODE : Fld := ⟨.LPM_CFG, 0, 1⟩
def LPM_STATUS_GRACE : Fld := ⟨.LPM_STATUS, 0, 1⟩
def LPM_WIN_CMD_BUSY : Fld := ⟨.LPM_WIN_CMD, 40, 1⟩
def LPM_WIN_CMD_STATUS : Fld := ⟨.LPM_WIN_CMD, 37, 3⟩
def LPM_WIN_CMD_AUTO_INC : Fld := ⟨.LPM_WIN_CMD, 36, 1⟩
def LPM_WIN_CMD_NODE : Fld := ⟨.LPM_WIN_CMD, 20, 16⟩
def LPM_WIN_CMD_ENTRY : Fld := ⟨.LPM_WIN_CMD, 4, 16⟩
def LPM_WIN_CMD_SPACE : Fld := ⟨.LPM_WIN_CMD, 2, 2⟩
def LPM_WIN_CMD_OP : Fld := ⟨.LPM_WIN_CMD, 0, 2⟩
def LPM_WIN_DATA_WORD : Fld := ⟨.LPM_WIN_DATA, 0, 64⟩
def LPM_EVENT_SEQ : Fld := ⟨.LPM_EVENT, 48, 16⟩
def LPM_EVENT_RESERVED_WRITE : Fld := ⟨.LPM_EVENT, 1, 1⟩
def LPM_EVENT_REFUSED : Fld := ⟨.LPM_EVENT, 0, 1⟩
def LPM_ROOT_VALID : Fld := ⟨.LPM_ROOT, 6, 1⟩
def LPM_ROOT_ROOT : Fld := ⟨.LPM_ROOT, 0, 6⟩
def BUF_CFG_XOFF_FREE : Fld := ⟨.BUF_CFG, 0, 19⟩
def BUF_STATUS_SHARED_SIZE : Fld := ⟨.BUF_STATUS, 38, 19⟩
def BUF_STATUS_SHARED_FREE : Fld := ⟨.BUF_STATUS, 19, 19⟩
def BUF_STATUS_FREE : Fld := ⟨.BUF_STATUS, 0, 19⟩
def BUF_CAPACITY_UNGRAFTED : Fld := ⟨.BUF_CAPACITY, 22, 4⟩
def BUF_CAPACITY_SPARES_LEFT : Fld := ⟨.BUF_CAPACITY, 19, 3⟩
def BUF_CAPACITY_USABLE : Fld := ⟨.BUF_CAPACITY, 0, 19⟩
def BUF_EVENT_SEQ : Fld := ⟨.BUF_EVENT, 48, 16⟩
def BUF_EVENT_CAPACITY : Fld := ⟨.BUF_EVENT, 5, 1⟩
def BUF_EVENT_DRAIN : Fld := ⟨.BUF_EVENT, 4, 1⟩
def BUF_EVENT_FLUSHED : Fld := ⟨.BUF_EVENT, 3, 1⟩
def BUF_EVENT_LIMIT : Fld := ⟨.BUF_EVENT, 2, 1⟩
def BUF_EVENT_RESERVED_WRITE : Fld := ⟨.BUF_EVENT, 1, 1⟩
def BUF_EVENT_REFUSED : Fld := ⟨.BUF_EVENT, 0, 1⟩
def BUF_HEDGE_CFG_COPY_CAP : Fld := ⟨.BUF_HEDGE_CFG, 23, 19⟩
def BUF_HEDGE_CFG_HWEIGHT : Fld := ⟨.BUF_HEDGE_CFG, 19, 4⟩
def BUF_HEDGE_CFG_GUAR : Fld := ⟨.BUF_HEDGE_CFG, 0, 19⟩
def BUF_HEDGE_CLASS_RED_SHIFT : Fld := ⟨.BUF_HEDGE_CLASS, 51, 3⟩
def BUF_HEDGE_CLASS_YEL_SHIFT : Fld := ⟨.BUF_HEDGE_CLASS, 48, 3⟩
def BUF_HEDGE_CLASS_CT_EN : Fld := ⟨.BUF_HEDGE_CLASS, 40, 8⟩
def BUF_HEDGE_CLASS_LOSSLESS : Fld := ⟨.BUF_HEDGE_CLASS, 32, 8⟩
def BUF_HEDGE_CLASS_ALPHA0 : Fld := ⟨.BUF_HEDGE_CLASS, 0, 4⟩
def BUF_HEDGE_CLASS_ALPHA1 : Fld := ⟨.BUF_HEDGE_CLASS, 4, 4⟩
def BUF_HEDGE_CLASS_ALPHA2 : Fld := ⟨.BUF_HEDGE_CLASS, 8, 4⟩
def BUF_HEDGE_CLASS_ALPHA3 : Fld := ⟨.BUF_HEDGE_CLASS, 12, 4⟩
def BUF_HEDGE_CLASS_ALPHA4 : Fld := ⟨.BUF_HEDGE_CLASS, 16, 4⟩
def BUF_HEDGE_CLASS_ALPHA5 : Fld := ⟨.BUF_HEDGE_CLASS, 20, 4⟩
def BUF_HEDGE_CLASS_ALPHA6 : Fld := ⟨.BUF_HEDGE_CLASS, 24, 4⟩
def BUF_HEDGE_CLASS_ALPHA7 : Fld := ⟨.BUF_HEDGE_CLASS, 28, 4⟩
def BUF_HEDGE_STATUS_RESETTING : Fld := ⟨.BUF_HEDGE_STATUS, 59, 1⟩
def BUF_HEDGE_STATUS_EPOCH : Fld := ⟨.BUF_HEDGE_STATUS, 57, 2⟩
def BUF_HEDGE_STATUS_COPIES : Fld := ⟨.BUF_HEDGE_STATUS, 38, 19⟩
def BUF_HEDGE_STATUS_SHARED_USED : Fld := ⟨.BUF_HEDGE_STATUS, 19, 19⟩
def BUF_HEDGE_STATUS_GUAR_USED : Fld := ⟨.BUF_HEDGE_STATUS, 0, 19⟩
def BUF_PORT_CFG_IN_CAP : Fld := ⟨.BUF_PORT_CFG, 19, 19⟩
def BUF_PORT_CFG_OUT_CAP : Fld := ⟨.BUF_PORT_CFG, 0, 19⟩
def BUF_PORT_PFC_HDRM : Fld := ⟨.BUF_PORT_PFC, 32, 12⟩
def BUF_PORT_PFC_XON_TH : Fld := ⟨.BUF_PORT_PFC, 16, 16⟩
def BUF_PORT_PFC_XOFF_TH : Fld := ⟨.BUF_PORT_PFC, 0, 16⟩
def BUF_PORT_STATUS_HDRM_USED : Fld := ⟨.BUF_PORT_STATUS, 38, 12⟩
def BUF_PORT_STATUS_IN_USED : Fld := ⟨.BUF_PORT_STATUS, 19, 19⟩
def BUF_PORT_STATUS_OUT_USED : Fld := ⟨.BUF_PORT_STATUS, 0, 19⟩
def BUF_TILE_CFG_DRAIN_LIMIT_US : Fld := ⟨.BUF_TILE_CFG, 16, 16⟩
def BUF_TILE_CFG_DOWN_POLICY : Fld := ⟨.BUF_TILE_CFG, 0, 1⟩
def BUF_TILE_STATUS_DRAINING : Fld := ⟨.BUF_TILE_STATUS, 19, 1⟩
def BUF_TILE_STATUS_CELLS_QUEUED : Fld := ⟨.BUF_TILE_STATUS, 0, 19⟩
def QUE_VOQ_CMD_STATUS : Fld := ⟨.QUE_VOQ_CMD, 23, 3⟩
def QUE_VOQ_CMD_BUSY : Fld := ⟨.QUE_VOQ_CMD, 22, 1⟩
def QUE_VOQ_CMD_CLASS : Fld := ⟨.QUE_VOQ_CMD, 19, 3⟩
def QUE_VOQ_CMD_DEST : Fld := ⟨.QUE_VOQ_CMD, 11, 8⟩
def QUE_VOQ_CMD_SRC : Fld := ⟨.QUE_VOQ_CMD, 3, 8⟩
def QUE_VOQ_CMD_OP : Fld := ⟨.QUE_VOQ_CMD, 0, 3⟩
def QUE_VOQ_DATA0_COPIES : Fld := ⟨.QUE_VOQ_DATA0, 19, 19⟩
def QUE_VOQ_DATA0_CELLS : Fld := ⟨.QUE_VOQ_DATA0, 0, 19⟩
def QUE_VOQ_DATA1_RX_NS : Fld := ⟨.QUE_VOQ_DATA1, 32, 32⟩
def QUE_VOQ_DATA1_EMPTY : Fld := ⟨.QUE_VOQ_DATA1, 23, 1⟩
def QUE_VOQ_DATA1_POISON : Fld := ⟨.QUE_VOQ_DATA1, 22, 1⟩
def QUE_VOQ_DATA1_CT : Fld := ⟨.QUE_VOQ_DATA1, 21, 1⟩
def QUE_VOQ_DATA1_TRUNC : Fld := ⟨.QUE_VOQ_DATA1, 20, 1⟩
def QUE_VOQ_DATA1_COLOUR : Fld := ⟨.QUE_VOQ_DATA1, 18, 2⟩
def QUE_VOQ_DATA1_HEDGE : Fld := ⟨.QUE_VOQ_DATA1, 14, 4⟩
def QUE_VOQ_DATA1_LEN : Fld := ⟨.QUE_VOQ_DATA1, 0, 14⟩
def QUE_EVENT_SEQ : Fld := ⟨.QUE_EVENT, 48, 16⟩
def QUE_EVENT_DRAIN : Fld := ⟨.QUE_EVENT, 4, 1⟩
def QUE_EVENT_FLUSHED : Fld := ⟨.QUE_EVENT, 3, 1⟩
def QUE_EVENT_LIMIT : Fld := ⟨.QUE_EVENT, 2, 1⟩
def QUE_EVENT_RESERVED_WRITE : Fld := ⟨.QUE_EVENT, 1, 1⟩
def QUE_EVENT_REFUSED : Fld := ⟨.QUE_EVENT, 0, 1⟩
def QUE_EDIT_CMD_STATUS : Fld := ⟨.QUE_EDIT_CMD, 20, 3⟩
def QUE_EDIT_CMD_BUSY : Fld := ⟨.QUE_EDIT_CMD, 19, 1⟩
def QUE_EDIT_CMD_INDEX : Fld := ⟨.QUE_EDIT_CMD, 4, 12⟩
def QUE_EDIT_CMD_OP : Fld := ⟨.QUE_EDIT_CMD, 0, 4⟩
def QUE_EDIT_DATA_WORD : Fld := ⟨.QUE_EDIT_DATA, 0, 64⟩
def SCH_EVENT_SEQ : Fld := ⟨.SCH_EVENT, 48, 16⟩
def SCH_EVENT_TIME_HOLD : Fld := ⟨.SCH_EVENT, 5, 1⟩
def SCH_EVENT_LAUNCH_FAR : Fld := ⟨.SCH_EVENT, 4, 1⟩
def SCH_EVENT_WINDOW : Fld := ⟨.SCH_EVENT, 3, 1⟩
def SCH_EVENT_SWITCHED : Fld := ⟨.SCH_EVENT, 2, 1⟩
def SCH_EVENT_RESERVED_WRITE : Fld := ⟨.SCH_EVENT, 1, 1⟩
def SCH_EVENT_REFUSED : Fld := ⟨.SCH_EVENT, 0, 1⟩
def SCH_PORT_CFG_SCHED_MASK : Fld := ⟨.SCH_PORT_CFG, 32, 8⟩
def SCH_PORT_CFG_GUARD_GRAINS : Fld := ⟨.SCH_PORT_CFG, 8, 8⟩
def SCH_PORT_CFG_LAUNCH_GUARD : Fld := ⟨.SCH_PORT_CFG, 3, 1⟩
def SCH_PORT_CFG_LEN_AWARE : Fld := ⟨.SCH_PORT_CFG, 2, 1⟩
def SCH_PORT_CFG_LAUNCH_EN : Fld := ⟨.SCH_PORT_CFG, 1, 1⟩
def SCH_PORT_CFG_GATE_EN : Fld := ⟨.SCH_PORT_CFG, 0, 1⟩
def SCH_PORT_LAUNCH_LATE_TOL : Fld := ⟨.SCH_PORT_LAUNCH, 16, 16⟩
def SCH_PORT_LAUNCH_LEAD : Fld := ⟨.SCH_PORT_LAUNCH, 0, 16⟩
def SCH_PORT_STATUS_LQ_FILL : Fld := ⟨.SCH_PORT_STATUS, 32, 13⟩
def SCH_PORT_STATUS_TIME_HOLD : Fld := ⟨.SCH_PORT_STATUS, 31, 1⟩
def SCH_PORT_STATUS_SWITCH_PEND : Fld := ⟨.SCH_PORT_STATUS, 30, 1⟩
def SCH_PORT_STATUS_GATES : Fld := ⟨.SCH_PORT_STATUS, 16, 8⟩
def SCH_PORT_STATUS_CUR_BANK : Fld := ⟨.SCH_PORT_STATUS, 10, 1⟩
def SCH_PORT_STATUS_CUR_ENTRY : Fld := ⟨.SCH_PORT_STATUS, 0, 10⟩
def SCH_CLASS_CFG_QUANTUM : Fld := ⟨.SCH_CLASS_CFG, 8, 16⟩
def SCH_CLASS_CFG_LEVEL : Fld := ⟨.SCH_CLASS_CFG, 0, 3⟩
def SCH_GATE_CTL_REQ_BANK : Fld := ⟨.SCH_GATE_CTL, 0, 1⟩
def SCH_GATE_SWITCH_SWITCH_TICK : Fld := ⟨.SCH_GATE_SWITCH, 0, 64⟩
def SCH_GATE_BANK_LEN : Fld := ⟨.SCH_GATE_BANK, 32, 11⟩
def SCH_GATE_BANK_CYCLE_TICKS : Fld := ⟨.SCH_GATE_BANK, 16, 16⟩
def SCH_GATE_BANK_PHASE : Fld := ⟨.SCH_GATE_BANK, 0, 16⟩
def SCH_GATE_WIN_CMD_STATUS : Fld := ⟨.SCH_GATE_WIN_CMD, 21, 3⟩
def SCH_GATE_WIN_CMD_BUSY : Fld := ⟨.SCH_GATE_WIN_CMD, 20, 1⟩
def SCH_GATE_WIN_CMD_ENTRY : Fld := ⟨.SCH_GATE_WIN_CMD, 10, 10⟩
def SCH_GATE_WIN_CMD_BANK : Fld := ⟨.SCH_GATE_WIN_CMD, 9, 1⟩
def SCH_GATE_WIN_CMD_PORT : Fld := ⟨.SCH_GATE_WIN_CMD, 2, 7⟩
def SCH_GATE_WIN_CMD_OP : Fld := ⟨.SCH_GATE_WIN_CMD, 0, 2⟩
def SCH_GATE_WIN_DATA_WORD : Fld := ⟨.SCH_GATE_WIN_DATA, 0, 64⟩
def SHP_CLASS_KIND : Fld := ⟨.SHP_CLASS, 62, 2⟩
def SHP_CLASS_RESET_MODE : Fld := ⟨.SHP_CLASS, 61, 1⟩
def SHP_CLASS_OVERHEAD : Fld := ⟨.SHP_CLASS, 54, 7⟩
def SHP_CLASS_LIMIT : Fld := ⟨.SHP_CLASS, 30, 24⟩
def SHP_CLASS_RATE : Fld := ⟨.SHP_CLASS, 0, 30⟩
def SHP_PORT_KIND : Fld := ⟨.SHP_PORT, 62, 2⟩
def SHP_PORT_RESET_MODE : Fld := ⟨.SHP_PORT, 61, 1⟩
def SHP_PORT_OVERHEAD : Fld := ⟨.SHP_PORT, 54, 7⟩
def SHP_PORT_LIMIT : Fld := ⟨.SHP_PORT, 30, 24⟩
def SHP_PORT_RATE : Fld := ⟨.SHP_PORT, 0, 30⟩
def SHP_WIN_CMD_STATUS : Fld := ⟨.SHP_WIN_CMD, 21, 3⟩
def SHP_WIN_CMD_BUSY : Fld := ⟨.SHP_WIN_CMD, 20, 1⟩
def SHP_WIN_CMD_INDEX : Fld := ⟨.SHP_WIN_CMD, 4, 14⟩
def SHP_WIN_CMD_OP : Fld := ⟨.SHP_WIN_CMD, 0, 2⟩
def SHP_WIN_DATA_WORD : Fld := ⟨.SHP_WIN_DATA, 0, 64⟩
def SHP_EVENT_SEQ : Fld := ⟨.SHP_EVENT, 48, 16⟩
def SHP_EVENT_RESERVED_WRITE : Fld := ⟨.SHP_EVENT, 1, 1⟩
def SHP_EVENT_REFUSED : Fld := ⟨.SHP_EVENT, 0, 1⟩
def SHP_CLASS_TOKENS_TOKENS : Fld := ⟨.SHP_CLASS_TOKENS, 0, 32⟩
def SHP_PORT_TOKENS_TOKENS : Fld := ⟨.SHP_PORT_TOKENS, 0, 32⟩
def POL_MAP_EN : Fld := ⟨.POL_MAP, 16, 1⟩
def POL_MAP_POLICER : Fld := ⟨.POL_MAP, 0, 16⟩
def POL_WIN_CMD_STATUS : Fld := ⟨.POL_WIN_CMD, 21, 3⟩
def POL_WIN_CMD_BUSY : Fld := ⟨.POL_WIN_CMD, 20, 1⟩
def POL_WIN_CMD_INDEX : Fld := ⟨.POL_WIN_CMD, 4, 16⟩
def POL_WIN_CMD_OP : Fld := ⟨.POL_WIN_CMD, 0, 2⟩
def POL_WIN_DATA0_WORD : Fld := ⟨.POL_WIN_DATA0, 0, 64⟩
def POL_WIN_DATA1_WORD : Fld := ⟨.POL_WIN_DATA1, 0, 64⟩
def POL_EVENT_SEQ : Fld := ⟨.POL_EVENT, 48, 16⟩
def POL_EVENT_WINDOW : Fld := ⟨.POL_EVENT, 3, 1⟩
def POL_EVENT_RESERVED_WRITE : Fld := ⟨.POL_EVENT, 1, 1⟩
def POL_EVENT_REFUSED : Fld := ⟨.POL_EVENT, 0, 1⟩
def TIM_NOW_HI_SEC : Fld := ⟨.TIM_NOW_HI, 0, 48⟩
def TIM_NOW_LO_NS : Fld := ⟨.TIM_NOW_LO, 16, 32⟩
def TIM_NOW_LO_FRAC : Fld := ⟨.TIM_NOW_LO, 0, 16⟩
def TIM_STATUS_SLEW_REMAIN : Fld := ⟨.TIM_STATUS, 32, 32⟩
def TIM_STATUS_HOLD_MIN : Fld := ⟨.TIM_STATUS, 16, 16⟩
def TIM_STATUS_STEP_PEND : Fld := ⟨.TIM_STATUS, 9, 1⟩
def TIM_STATUS_PLL_INPUT : Fld := ⟨.TIM_STATUS, 7, 2⟩
def TIM_STATUS_SEL_VALID : Fld := ⟨.TIM_STATUS, 6, 1⟩
def TIM_STATUS_SELECTED : Fld := ⟨.TIM_STATUS, 4, 2⟩
def TIM_STATUS_USABLE : Fld := ⟨.TIM_STATUS, 3, 1⟩
def TIM_STATUS_TSTATE : Fld := ⟨.TIM_STATUS, 0, 3⟩
def TIM_EVENT_SEQ : Fld := ⟨.TIM_EVENT, 48, 16⟩
def TIM_EVENT_ISLAND : Fld := ⟨.TIM_EVENT, 7, 1⟩
def TIM_EVENT_PPS_TOD : Fld := ⟨.TIM_EVENT, 6, 1⟩
def TIM_EVENT_STAMP_DROP : Fld := ⟨.TIM_EVENT, 5, 1⟩
def TIM_EVENT_STEP : Fld := ⟨.TIM_EVENT, 4, 1⟩
def TIM_EVENT_REF : Fld := ⟨.TIM_EVENT, 3, 1⟩
def TIM_EVENT_TSTATE : Fld := ⟨.TIM_EVENT, 2, 1⟩
def TIM_EVENT_RESERVED_WRITE : Fld := ⟨.TIM_EVENT, 1, 1⟩
def TIM_EVENT_REFUSED : Fld := ⟨.TIM_EVENT, 0, 1⟩
def TIM_SERVO_CFG_SERVO_TO_S : Fld := ⟨.TIM_SERVO_CFG, 56, 8⟩
def TIM_SERVO_CFG_LOCK_S : Fld := ⟨.TIM_SERVO_CFG, 48, 8⟩
def TIM_SERVO_CFG_LOCK_NS : Fld := ⟨.TIM_SERVO_CFG, 32, 16⟩
def TIM_SERVO_CFG_STEP_US : Fld := ⟨.TIM_SERVO_CFG, 16, 16⟩
def TIM_SERVO_CFG_STEP_EN : Fld := ⟨.TIM_SERVO_CFG, 15, 1⟩
def TIM_SERVO_CFG_SLEW_10PPB : Fld := ⟨.TIM_SERVO_CFG, 0, 14⟩
def TIM_HOLD_CFG_REJOIN_MAX_MS : Fld := ⟨.TIM_HOLD_CFG, 48, 16⟩
def TIM_HOLD_CFG_ISLAND_CLASS : Fld := ⟨.TIM_HOLD_CFG, 40, 8⟩
def TIM_HOLD_CFG_ISLAND_PRIO : Fld := ⟨.TIM_HOLD_CFG, 32, 8⟩
def TIM_HOLD_CFG_ISLAND_CAND : Fld := ⟨.TIM_HOLD_CFG, 31, 1⟩
def TIM_HOLD_CFG_HOLD_PERMIT : Fld := ⟨.TIM_HOLD_CFG, 16, 1⟩
def TIM_HOLD_CFG_HOLD_MAX_MIN : Fld := ⟨.TIM_HOLD_CFG, 0, 16⟩
def TIM_ADJ_MODE : Fld := ⟨.TIM_ADJ, 62, 2⟩
def TIM_ADJ_OFFSET : Fld := ⟨.TIM_ADJ, 0, 62⟩
def TIM_SET_SEC_SEC : Fld := ⟨.TIM_SET_SEC, 0, 48⟩
def TIM_SET_NS_NS : Fld := ⟨.TIM_SET_NS, 16, 32⟩
def TIM_SET_NS_FRAC : Fld := ⟨.TIM_SET_NS, 0, 16⟩
def TIM_FREQ_FREQ : Fld := ⟨.TIM_FREQ, 0, 40⟩
def TIM_HOLD_FREQ_FREQ : Fld := ⟨.TIM_HOLD_FREQ, 0, 40⟩
def TIM_REF_PRIO_EN : Fld := ⟨.TIM_REF_PRIO, 8, 4⟩
def TIM_REF_PRIO_ORDER : Fld := ⟨.TIM_REF_PRIO, 0, 8⟩
def TIM_MON_CFG_REVERT : Fld := ⟨.TIM_MON_CFG, 63, 1⟩
def TIM_MON_CFG_WTR_S : Fld := ⟨.TIM_MON_CFG, 52, 11⟩
def TIM_MON_CFG_PHASE_NS : Fld := ⟨.TIM_MON_CFG, 40, 12⟩
def TIM_MON_CFG_PERSIST_S : Fld := ⟨.TIM_MON_CFG, 32, 8⟩
def TIM_MON_CFG_HARD_PPB : Fld := ⟨.TIM_MON_CFG, 16, 16⟩
def TIM_MON_CFG_SOFT_PPB : Fld := ⟨.TIM_MON_CFG, 0, 16⟩
def TIM_PTP_MEAS_PHASE_NS : Fld := ⟨.TIM_PTP_MEAS, 40, 23⟩
def TIM_PTP_MEAS_FREQ : Fld := ⟨.TIM_PTP_MEAS, 0, 40⟩
def TIM_PPS_CFG_OUT_MODE : Fld := ⟨.TIM_PPS_CFG, 62, 2⟩
def TIM_PPS_CFG_OUT_WIDTH_US : Fld := ⟨.TIM_PPS_CFG, 42, 20⟩
def TIM_PPS_CFG_OUT_OFFSET_NS : Fld := ⟨.TIM_PPS_CFG, 26, 16⟩
def TIM_PPS_CFG_IN_DELAY_NS : Fld := ⟨.TIM_PPS_CFG, 10, 16⟩
def TIM_PPS_TOD_VALID : Fld := ⟨.TIM_PPS_TOD, 48, 1⟩
def TIM_PPS_TOD_SEC : Fld := ⟨.TIM_PPS_TOD, 0, 48⟩
def TIM_PPS_ERR_VALID : Fld := ⟨.TIM_PPS_ERR, 32, 1⟩
def TIM_PPS_ERR_ERR : Fld := ⟨.TIM_PPS_ERR, 0, 32⟩
def TIM_ISLAND_REJOINING : Fld := ⟨.TIM_ISLAND, 2, 1⟩
def TIM_ISLAND_MASTER : Fld := ⟨.TIM_ISLAND, 1, 1⟩
def TIM_ISLAND_ISLAND : Fld := ⟨.TIM_ISLAND, 0, 1⟩
def TIM_REF_STATUS_STATE_S : Fld := ⟨.TIM_REF_STATUS, 48, 16⟩
def TIM_REF_STATUS_DEV : Fld := ⟨.TIM_REF_STATUS, 16, 32⟩
def TIM_REF_STATUS_PHASE_STEP : Fld := ⟨.TIM_REF_STATUS, 3, 1⟩
def TIM_REF_STATUS_STATE : Fld := ⟨.TIM_REF_STATUS, 0, 3⟩
def TIM_INST_CFG_ONE_STEP : Fld := ⟨.TIM_INST_CFG, 17, 1⟩
def TIM_INST_CFG_REF_CAND : Fld := ⟨.TIM_INST_CFG, 16, 1⟩
def TIM_INST_CFG_DOMAIN : Fld := ⟨.TIM_INST_CFG, 8, 8⟩
def TIM_INST_CFG_TRANSPORT : Fld := ⟨.TIM_INST_CFG, 4, 3⟩
def TIM_INST_CFG_ROLE : Fld := ⟨.TIM_INST_CFG, 1, 3⟩
def TIM_INST_CFG_EN : Fld := ⟨.TIM_INST_CFG, 0, 1⟩
def TIM_PORT_CFG_TC_EN : Fld := ⟨.TIM_PORT_CFG, 1, 1⟩
def TIM_PORT_CFG_PTP_EN : Fld := ⟨.TIM_PORT_CFG, 0, 1⟩
def TIM_PORT_EXT_TX_EXT : Fld := ⟨.TIM_PORT_EXT, 32, 32⟩
def TIM_PORT_EXT_RX_EXT : Fld := ⟨.TIM_PORT_EXT, 0, 32⟩
def TIM_PORT_ASYM_LINK_DELAY : Fld := ⟨.TIM_PORT_ASYM, 32, 32⟩
def TIM_PORT_ASYM_ASYM : Fld := ⟨.TIM_PORT_ASYM, 0, 32⟩
def TIM_PORT_FACT_TX_FACT : Fld := ⟨.TIM_PORT_FACT, 32, 32⟩
def TIM_PORT_FACT_RX_FACT : Fld := ⟨.TIM_PORT_FACT, 0, 32⟩
def CLP_CFG_EXP_ETYPE : Fld := ⟨.CLP_CFG, 48, 16⟩
def CLP_CFG_PANIC_LVL : Fld := ⟨.CLP_CFG, 11, 11⟩
def CLP_CFG_RELEASE_LVL : Fld := ⟨.CLP_CFG, 0, 11⟩
def CLP_STATUS_PANIC1 : Fld := ⟨.CLP_STATUS, 35, 1⟩
def CLP_STATUS_PANIC0 : Fld := ⟨.CLP_STATUS, 34, 1⟩
def CLP_STATUS_CH1_OK : Fld := ⟨.CLP_STATUS, 33, 1⟩
def CLP_STATUS_CH0_OK : Fld := ⟨.CLP_STATUS, 32, 1⟩
def CLP_STATUS_FILL1 : Fld := ⟨.CLP_STATUS, 16, 11⟩
def CLP_STATUS_FILL0 : Fld := ⟨.CLP_STATUS, 0, 11⟩
def CLP_EVENT_SEQ : Fld := ⟨.CLP_EVENT, 48, 16⟩
def CLP_EVENT_RESIZED : Fld := ⟨.CLP_EVENT, 4, 1⟩
def CLP_EVENT_DROP : Fld := ⟨.CLP_EVENT, 3, 1⟩
def CLP_EVENT_RESERVED_WRITE : Fld := ⟨.CLP_EVENT, 1, 1⟩
def CLP_EVENT_REFUSED : Fld := ⟨.CLP_EVENT, 0, 1⟩
def CLP_HEDGE_CFG_BURST : Fld := ⟨.CLP_HEDGE_CFG, 48, 16⟩
def CLP_HEDGE_CFG_RATE_K : Fld := ⟨.CLP_HEDGE_CFG, 33, 15⟩
def CLP_HEDGE_CFG_SNAP : Fld := ⟨.CLP_HEDGE_CFG, 16, 8⟩
def CLP_HEDGE_CFG_DELIVER : Fld := ⟨.CLP_HEDGE_CFG, 2, 2⟩
def CLP_HEDGE_CFG_FULL_MODE : Fld := ⟨.CLP_HEDGE_CFG, 1, 1⟩
def CLP_HEDGE_CFG_EN : Fld := ⟨.CLP_HEDGE_CFG, 0, 1⟩
def CLP_HEDGE_SEL_SEL : Fld := ⟨.CLP_HEDGE_SEL, 1, 23⟩
def CLP_RING_CFG_SIZE : Fld := ⟨.CLP_RING_CFG, 32, 14⟩
def CLP_RING_CFG_BASE : Fld := ⟨.CLP_RING_CFG, 0, 13⟩
def CLP_RING_PROD_PROD : Fld := ⟨.CLP_RING_PROD, 0, 32⟩
def CLP_RING_CONS_CONS : Fld := ⟨.CLP_RING_CONS, 0, 32⟩
def CLP_HOST_BASE_ADDR : Fld := ⟨.CLP_HOST_BASE, 12, 52⟩
def CLP_HOST_BASE_LOG2_SIZE : Fld := ⟨.CLP_HOST_BASE, 0, 5⟩
def CLP_HOST_IDX_CONS : Fld := ⟨.CLP_HOST_IDX, 32, 32⟩
def CLP_HOST_IDX_PROD : Fld := ⟨.CLP_HOST_IDX, 0, 32⟩
def CLP_EXPORT_PORT : Fld := ⟨.CLP_EXPORT, 56, 7⟩
def CLP_EXPORT_CLASS : Fld := ⟨.CLP_EXPORT, 53, 3⟩
def CLP_EXPORT_DMAC : Fld := ⟨.CLP_EXPORT, 0, 48⟩
def CLP_PORT_SAMPLE_OUT_N : Fld := ⟨.CLP_PORT_SAMPLE, 32, 24⟩
def CLP_PORT_SAMPLE_IN_N : Fld := ⟨.CLP_PORT_SAMPLE, 0, 24⟩
def ENG_CLUSTER_CTL_REHOME : Fld := ⟨.ENG_CLUSTER_CTL, 2, 2⟩
def ENG_CLUSTER_CTL_STATE_REQ : Fld := ⟨.ENG_CLUSTER_CTL, 0, 2⟩
def ENG_CLUSTER_STATUS_BUSY_THREADS : Fld := ⟨.ENG_CLUSTER_STATUS, 32, 10⟩
def ENG_CLUSTER_STATUS_SPARE_FOR : Fld := ⟨.ENG_CLUSTER_STATUS, 22, 5⟩
def ENG_CLUSTER_STATUS_RETIRED : Fld := ⟨.ENG_CLUSTER_STATUS, 5, 17⟩
def ENG_CLUSTER_STATUS_STATE : Fld := ⟨.ENG_CLUSTER_STATUS, 0, 3⟩
def ENG_EVENT_SEQ : Fld := ⟨.ENG_EVENT, 48, 16⟩
def ENG_EVENT_XCHG : Fld := ⟨.ENG_EVENT, 5, 1⟩
def ENG_EVENT_STATE : Fld := ⟨.ENG_EVENT, 4, 1⟩
def ENG_EVENT_FAULT : Fld := ⟨.ENG_EVENT, 3, 1⟩
def ENG_EVENT_QUEUE : Fld := ⟨.ENG_EVENT, 2, 1⟩
def ENG_EVENT_RESERVED_WRITE : Fld := ⟨.ENG_EVENT, 1, 1⟩
def ENG_EVENT_REFUSED : Fld := ⟨.ENG_EVENT, 0, 1⟩
def ENG_XCHG_CTL_IMG_BASE : Fld := ⟨.ENG_XCHG_CTL, 28, 36⟩
def ENG_XCHG_CTL_REQ : Fld := ⟨.ENG_XCHG_CTL, 0, 1⟩
def ENG_XCHG_STATUS_CUR_BASE : Fld := ⟨.ENG_XCHG_STATUS, 28, 36⟩
def ENG_XCHG_STATUS_ABORTED : Fld := ⟨.ENG_XCHG_STATUS, 16, 12⟩
def ENG_XCHG_STATUS_RESULT : Fld := ⟨.ENG_XCHG_STATUS, 8, 8⟩
def ENG_XCHG_STATUS_PHASE : Fld := ⟨.ENG_XCHG_STATUS, 0, 2⟩
def ENG_CS_WIN_CMD_STATUS : Fld := ⟨.ENG_CS_WIN_CMD, 21, 3⟩
def ENG_CS_WIN_CMD_BUSY : Fld := ⟨.ENG_CS_WIN_CMD, 20, 1⟩
def ENG_CS_WIN_CMD_ADDR : Fld := ⟨.ENG_CS_WIN_CMD, 5, 15⟩
def ENG_CS_WIN_CMD_OP : Fld := ⟨.ENG_CS_WIN_CMD, 0, 2⟩
def ENG_CS_WIN_DATA0_WORD : Fld := ⟨.ENG_CS_WIN_DATA0, 0, 64⟩
def ENG_CS_WIN_DATA1_WORD : Fld := ⟨.ENG_CS_WIN_DATA1, 0, 64⟩
def ENG_CS_WIN_DATA2_CHECK : Fld := ⟨.ENG_CS_WIN_DATA2, 0, 16⟩
def ENG_TMR_CFG_TICK_RES : Fld := ⟨.ENG_TMR_CFG, 0, 9⟩
def ENG_TMR_STATUS_POOL_FREE : Fld := ⟨.ENG_TMR_STATUS, 16, 13⟩
def ENG_TMR_STATUS_ARMED : Fld := ⟨.ENG_TMR_STATUS, 0, 13⟩
def ENG_JQ_STATUS_DB : Fld := ⟨.ENG_JQ_STATUS, 48, 9⟩
def ENG_JQ_STATUS_IJ : Fld := ⟨.ENG_JQ_STATUS, 32, 11⟩
def ENG_JQ_STATUS_EV : Fld := ⟨.ENG_JQ_STATUS, 16, 11⟩
def ENG_JQ_STATUS_TT : Fld := ⟨.ENG_JQ_STATUS, 0, 10⟩
def ENG_DOORBELL_ARG : Fld := ⟨.ENG_DOORBELL, 8, 56⟩
def ENG_DOORBELL_OPCODE : Fld := ⟨.ENG_DOORBELL, 0, 8⟩
def ENG_JOB_LIMIT_MAX_CYCLES : Fld := ⟨.ENG_JOB_LIMIT, 0, 32⟩
def ENG_HEDGE_THR_TMR_RES : Fld := ⟨.ENG_HEDGE_THR, 32, 12⟩
def ENG_HEDGE_THR_MAX : Fld := ⟨.ENG_HEDGE_THR, 16, 10⟩
def ENG_HEDGE_THR_RES : Fld := ⟨.ENG_HEDGE_THR, 0, 10⟩
def ENG_SQ_CFG_EN : Fld := ⟨.ENG_SQ_CFG, 19, 1⟩
def ENG_SQ_CFG_HEADER : Fld := ⟨.ENG_SQ_CFG, 18, 1⟩
def ENG_SQ_CFG_CLUSTER : Fld := ⟨.ENG_SQ_CFG, 16, 2⟩
def ENG_SQ_CFG_OPCODE : Fld := ⟨.ENG_SQ_CFG, 8, 8⟩
def ENG_EVT_ROUTE_VALID : Fld := ⟨.ENG_EVT_ROUTE, 63, 1⟩
def ENG_EVT_ROUTE_CLUSTER : Fld := ⟨.ENG_EVT_ROUTE, 56, 2⟩
def ENG_EVT_ROUTE_BLOCK : Fld := ⟨.ENG_EVT_ROUTE, 48, 8⟩
def ENG_EVT_ROUTE_CODE : Fld := ⟨.ENG_EVT_ROUTE, 40, 8⟩
def ENG_EVT_ROUTE_CODE_MASK : Fld := ⟨.ENG_EVT_ROUTE, 32, 8⟩
def ENG_EVT_ROUTE_OPCODE : Fld := ⟨.ENG_EVT_ROUTE, 0, 8⟩
def ENG_DISPATCH_VALID : Fld := ⟨.ENG_DISPATCH, 63, 1⟩
def ENG_DISPATCH_ADDR : Fld := ⟨.ENG_DISPATCH, 0, 15⟩
def ENG_TICKJOB0_VALID : Fld := ⟨.ENG_TICKJOB0, 63, 1⟩
def ENG_TICKJOB0_SHED : Fld := ⟨.ENG_TICKJOB0, 60, 3⟩
def ENG_TICKJOB0_HEDGE : Fld := ⟨.ENG_TICKJOB0, 56, 4⟩
def ENG_TICKJOB0_PERIOD : Fld := ⟨.ENG_TICKJOB0, 40, 16⟩
def ENG_TICKJOB0_PHASE : Fld := ⟨.ENG_TICKJOB0, 24, 16⟩
def ENG_TICKJOB0_BUDGET : Fld := ⟨.ENG_TICKJOB0, 8, 16⟩
def ENG_TICKJOB0_OPCODE : Fld := ⟨.ENG_TICKJOB0, 0, 8⟩
def ENG_TICKJOB1_RESUME_VALID : Fld := ⟨.ENG_TICKJOB1, 63, 1⟩
def ENG_TICKJOB1_RESUME : Fld := ⟨.ENG_TICKJOB1, 48, 15⟩
def ENG_TICKJOB1_ARG : Fld := ⟨.ENG_TICKJOB1, 0, 48⟩
def EPC_CYCLE_CYCLE : Fld := ⟨.EPC_CYCLE, 0, 64⟩
def EPC_FREEZE_CYCLE_CYCLE : Fld := ⟨.EPC_FREEZE_CYCLE, 0, 64⟩
def EPC_STATUS_SEQ : Fld := ⟨.EPC_STATUS, 48, 16⟩
def EPC_STATUS_INVERTED : Fld := ⟨.EPC_STATUS, 8, 2⟩
def EPC_STATUS_SAT : Fld := ⟨.EPC_STATUS, 0, 8⟩
def EPC_SEL_WIN : Fld := ⟨.EPC_SEL, 21, 2⟩
def EPC_SEL_THR_EN : Fld := ⟨.EPC_SEL, 20, 1⟩
def EPC_SEL_THRESH : Fld := ⟨.EPC_SEL, 8, 12⟩
def EPC_SEL_EVENT : Fld := ⟨.EPC_SEL, 0, 8⟩
def EPC_CTR_COUNT : Fld := ⟨.EPC_CTR, 0, 48⟩
def EPC_CTL_FROZEN : Fld := ⟨.EPC_CTL, 1, 1⟩
def EPC_CTL_FREEZE : Fld := ⟨.EPC_CTL, 0, 1⟩
def EPC_EVENT_SEQ : Fld := ⟨.EPC_EVENT, 48, 16⟩
def EPC_EVENT_EVENTS : Fld := ⟨.EPC_EVENT, 0, 5⟩
def EPC_SAMPLE_CFG_PERIOD : Fld := ⟨.EPC_SAMPLE_CFG, 4, 16⟩
def EPC_SAMPLE_CFG_STOP_FULL : Fld := ⟨.EPC_SAMPLE_CFG, 2, 1⟩
def EPC_SAMPLE_CFG_MEM_ONLY : Fld := ⟨.EPC_SAMPLE_CFG, 1, 1⟩
def EPC_SAMPLE_CFG_EN : Fld := ⟨.EPC_SAMPLE_CFG, 0, 1⟩
def EPC_SAMPLE_IDX_LOST : Fld := ⟨.EPC_SAMPLE_IDX, 48, 16⟩
def EPC_SAMPLE_IDX_CONS : Fld := ⟨.EPC_SAMPLE_IDX, 16, 16⟩
def EPC_SAMPLE_IDX_PROD : Fld := ⟨.EPC_SAMPLE_IDX, 0, 16⟩
def EPC_SAMPLE_CMD_BUSY : Fld := ⟨.EPC_SAMPLE_CMD, 13, 1⟩
def EPC_SAMPLE_CMD_INDEX : Fld := ⟨.EPC_SAMPLE_CMD, 0, 10⟩
def EPC_SAMPLE_DATA0_RECORD : Fld := ⟨.EPC_SAMPLE_DATA0, 0, 64⟩
def EPC_SAMPLE_DATA1_RECORD : Fld := ⟨.EPC_SAMPLE_DATA1, 0, 64⟩
def EPC_GLB_CTL_FREEZE_ALL : Fld := ⟨.EPC_GLB_CTL, 0, 1⟩
def DRM_CFG_FORCE_2X : Fld := ⟨.DRM_CFG, 16, 1⟩
def DRM_CFG_SLACK : Fld := ⟨.DRM_CFG, 0, 16⟩
def DRM_STATUS_FOLDED : Fld := ⟨.DRM_STATUS, 2, 1⟩
def DRM_STATUS_CH1_UP : Fld := ⟨.DRM_STATUS, 1, 1⟩
def DRM_STATUS_CH0_UP : Fld := ⟨.DRM_STATUS, 0, 1⟩
def DRM_EVENT_SEQ : Fld := ⟨.DRM_EVENT, 48, 16⟩
def DRM_EVENT_EVENTS : Fld := ⟨.DRM_EVENT, 0, 9⟩
def DRM_ERR_LOG_KIND : Fld := ⟨.DRM_ERR_LOG, 62, 2⟩
def DRM_ERR_LOG_CH : Fld := ⟨.DRM_ERR_LOG, 61, 1⟩
def DRM_ERR_LOG_SUB : Fld := ⟨.DRM_ERR_LOG, 60, 1⟩
def DRM_ERR_LOG_DEVICE : Fld := ⟨.DRM_ERR_LOG, 57, 3⟩
def DRM_ERR_LOG_ADDR : Fld := ⟨.DRM_ERR_LOG, 6, 29⟩
def DRM_TRAIN_CFG_STEP_US : Fld := ⟨.DRM_TRAIN_CFG, 16, 8⟩
def DRM_TRAIN_CFG_PERIOD_H : Fld := ⟨.DRM_TRAIN_CFG, 0, 16⟩
def DRM_CH_CTL_STATE_REQ : Fld := ⟨.DRM_CH_CTL, 0, 1⟩
def DRM_CH_STATUS_MARGIN_PS : Fld := ⟨.DRM_CH_STATUS, 48, 16⟩
def DRM_CH_STATUS_ERASED : Fld := ⟨.DRM_CH_STATUS, 8, 10⟩
def DRM_CH_STATUS_REFRESH_2X : Fld := ⟨.DRM_CH_STATUS, 4, 2⟩
def DRM_CH_STATUS_STATE : Fld := ⟨.DRM_CH_STATUS, 0, 3⟩
def DRM_HEDGE_WIN_SIZE : Fld := ⟨.DRM_HEDGE_WIN, 32, 9⟩
def DRM_HEDGE_WIN_BASE : Fld := ⟨.DRM_HEDGE_WIN, 0, 9⟩
def DRM_HEDGE_BW_MAX_SLOTS : Fld := ⟨.DRM_HEDGE_BW, 16, 8⟩
def DRM_HEDGE_BW_WEIGHT : Fld := ⟨.DRM_HEDGE_BW, 0, 10⟩
def DRM_WIN_CMD_STATUS : Fld := ⟨.DRM_WIN_CMD, 41, 3⟩
def DRM_WIN_CMD_BUSY : Fld := ⟨.DRM_WIN_CMD, 40, 1⟩
def DRM_WIN_CMD_ADDR : Fld := ⟨.DRM_WIN_CMD, 6, 29⟩
def DRM_WIN_CMD_OP : Fld := ⟨.DRM_WIN_CMD, 0, 2⟩
def DRM_WIN_DATA_WORD : Fld := ⟨.DRM_WIN_DATA, 0, 64⟩
def HDG_CFG_VF_RESET : Fld := ⟨.HDG_CFG, 1, 1⟩
def HDG_CFG_FLR_RESETS : Fld := ⟨.HDG_CFG, 0, 1⟩
def HDG_STATUS_RESETS : Fld := ⟨.HDG_STATUS, 48, 16⟩
def HDG_STATUS_FLRS : Fld := ⟨.HDG_STATUS, 32, 16⟩
def HDG_STATUS_LAST_KIND : Fld := ⟨.HDG_STATUS, 2, 2⟩
def HDG_STATUS_STATE : Fld := ⟨.HDG_STATUS, 0, 2⟩
def HDG_EVENT_SEQ : Fld := ⟨.HDG_EVENT, 48, 16⟩
def HDG_EVENT_GAP : Fld := ⟨.HDG_EVENT, 4, 1⟩
def HDG_EVENT_FLR : Fld := ⟨.HDG_EVENT, 3, 1⟩
def HDG_EVENT_RESET_DONE : Fld := ⟨.HDG_EVENT, 2, 1⟩
def HDG_EVENT_RESERVED_WRITE : Fld := ⟨.HDG_EVENT, 1, 1⟩
def HDG_EVENT_REFUSED : Fld := ⟨.HDG_EVENT, 0, 1⟩
def HDG_RESET_KIND : Fld := ⟨.HDG_RESET, 0, 2⟩
def HDG_EVT_CFG_ADDR : Fld := ⟨.HDG_EVT_CFG, 12, 52⟩
def HDG_EVT_CFG_PLACE : Fld := ⟨.HDG_EVT_CFG, 10, 2⟩
def HDG_EVT_CFG_LOG2_SIZE : Fld := ⟨.HDG_EVT_CFG, 0, 5⟩
def HDG_VEC_MAP_VEC0 : Fld := ⟨.HDG_VEC_MAP, 0, 3⟩
def HDG_VEC_MAP_VEC1 : Fld := ⟨.HDG_VEC_MAP, 3, 3⟩
def HDG_VEC_MAP_VEC2 : Fld := ⟨.HDG_VEC_MAP, 6, 3⟩
def HDG_VEC_MAP_VEC3 : Fld := ⟨.HDG_VEC_MAP, 9, 3⟩
def HDG_VEC_MAP_VEC4 : Fld := ⟨.HDG_VEC_MAP, 12, 3⟩
def HDG_VEC_MAP_VEC5 : Fld := ⟨.HDG_VEC_MAP, 15, 3⟩
def HDG_VEC_MAP_VEC6 : Fld := ⟨.HDG_VEC_MAP, 18, 3⟩
def HDG_VEC_MAP_VEC7 : Fld := ⟨.HDG_VEC_MAP, 21, 3⟩
def HDG_SWINT_RAISE : Fld := ⟨.HDG_SWINT, 4, 4⟩
def HDG_VEC_MOD_MIN_GAP_US : Fld := ⟨.HDG_VEC_MOD, 0, 16⟩
def HDG_PORT_OWNER_HEDGE : Fld := ⟨.HDG_PORT_OWNER, 0, 4⟩
def HDG_GAP_CFG0_VALID : Fld := ⟨.HDG_GAP_CFG0, 63, 1⟩
def HDG_GAP_CFG0_FROM : Fld := ⟨.HDG_GAP_CFG0, 59, 4⟩
def HDG_GAP_CFG0_TO : Fld := ⟨.HDG_GAP_CFG0, 55, 4⟩
def HDG_GAP_CFG0_MODE : Fld := ⟨.HDG_GAP_CFG0, 54, 1⟩
def HDG_GAP_CFG0_DEST_KIND : Fld := ⟨.HDG_GAP_CFG0, 52, 2⟩
def HDG_GAP_CFG0_DEST : Fld := ⟨.HDG_GAP_CFG0, 40, 12⟩
def HDG_GAP_CFG0_FID : Fld := ⟨.HDG_GAP_CFG0, 26, 14⟩
def HDG_GAP_CFG0_POLICER : Fld := ⟨.HDG_GAP_CFG0, 10, 16⟩
def HDG_GAP_CFG0_POLICE_EN : Fld := ⟨.HDG_GAP_CFG0, 9, 1⟩
def HDG_GAP_CFG0_CLASS_EN : Fld := ⟨.HDG_GAP_CFG0, 8, 1⟩
def HDG_GAP_CFG0_CLASS : Fld := ⟨.HDG_GAP_CFG0, 5, 3⟩
def HDG_GAP_CFG1_CELL_LIMIT : Fld := ⟨.HDG_GAP_CFG1, 0, 19⟩
def HDG_GAP_STATUS_GAP_USED : Fld := ⟨.HDG_GAP_STATUS, 0, 19⟩
def HDG_ROOT_FLOOR_WEIGHT_MIN : Fld := ⟨.HDG_ROOT_FLOOR, 48, 10⟩
def HDG_ROOT_FLOOR_TMR_MIN : Fld := ⟨.HDG_ROOT_FLOOR, 32, 12⟩
def HDG_ROOT_FLOOR_RES_MIN : Fld := ⟨.HDG_ROOT_FLOOR, 20, 10⟩
def HDG_ROOT_FLOOR_GUAR_MIN : Fld := ⟨.HDG_ROOT_FLOOR, 0, 19⟩
def GLB_ID_VENDOR : Fld := ⟨.GLB_ID, 48, 16⟩
def GLB_ID_PART : Fld := ⟨.GLB_ID, 32, 16⟩
def GLB_ID_DIE_STEP : Fld := ⟨.GLB_ID, 8, 8⟩
def GLB_ID_BUILD : Fld := ⟨.GLB_ID, 0, 8⟩
def GLB_EVENT_SEQ : Fld := ⟨.GLB_EVENT, 48, 16⟩
def GLB_EVENT_DEGRADED : Fld := ⟨.GLB_EVENT, 4, 1⟩
def GLB_EVENT_ACCESS : Fld := ⟨.GLB_EVENT, 3, 1⟩
def GLB_EVENT_GUARD : Fld := ⟨.GLB_EVENT, 2, 1⟩
def GLB_EVENT_RESERVED_WRITE : Fld := ⟨.GLB_EVENT, 1, 1⟩
def GLB_LOCK_LOCK : Fld := ⟨.GLB_LOCK, 0, 5⟩
def GLB_UNLOCK_GROUP : Fld := ⟨.GLB_UNLOCK, 16, 4⟩
def GLB_UNLOCK_KEY : Fld := ⟨.GLB_UNLOCK, 0, 16⟩
def GLB_GUARD_ARMED_ARMED : Fld := ⟨.GLB_GUARD_ARMED, 0, 4⟩
def GLB_GUARD_STATUS_GUARD_MISSES : Fld := ⟨.GLB_GUARD_STATUS, 48, 16⟩
def GLB_GUARD_STATUS_LOCKED_WRITES : Fld := ⟨.GLB_GUARD_STATUS, 32, 16⟩
def GLB_GUARD_STATUS_STALE_CLEARS : Fld := ⟨.GLB_GUARD_STATUS, 16, 16⟩
def GLB_GUARD_STATUS_BAD_ACCESSES : Fld := ⟨.GLB_GUARD_STATUS, 0, 16⟩
def GLB_STATUS_ABSENT_S : Fld := ⟨.GLB_STATUS, 2, 14⟩
def GLB_STATUS_DEGRADED : Fld := ⟨.GLB_STATUS, 1, 1⟩
def GLB_STATUS_HEADLESS : Fld := ⟨.GLB_STATUS, 0, 1⟩
def GLB_FUSE_SHADOW_WORD : Fld := ⟨.GLB_FUSE_SHADOW, 0, 64⟩
def GLB_CFG_DIGEST_DIGEST : Fld := ⟨.GLB_CFG_DIGEST, 0, 64⟩
def EVT_EVENT_SEQ : Fld := ⟨.EVT_EVENT, 48, 16⟩
def EVT_EVENT_RESERVED_WRITE : Fld := ⟨.EVT_EVENT, 1, 1⟩
def EVT_IRQ_STATUS_SEQ : Fld := ⟨.EVT_IRQ_STATUS, 48, 16⟩
def EVT_IRQ_STATUS_PEND : Fld := ⟨.EVT_IRQ_STATUS, 0, 32⟩
def EVT_IRQ_EN_EN : Fld := ⟨.EVT_IRQ_EN, 0, 32⟩
def EVT_DMP_SEL_SEL : Fld := ⟨.EVT_DMP_SEL, 0, 16⟩
def EVT_PF_SWINT_RAISE : Fld := ⟨.EVT_PF_SWINT, 0, 8⟩
def EVT_PF_MOD_MIN_GAP_US : Fld := ⟨.EVT_PF_MOD, 0, 16⟩
def EVT_RING_PROD_PROD : Fld := ⟨.EVT_RING_PROD, 0, 32⟩
def EVT_RING_CONS_CONS : Fld := ⟨.EVT_RING_CONS, 0, 32⟩
def EVT_RING_STATUS_FULL : Fld := ⟨.EVT_RING_STATUS, 32, 1⟩
def EVT_RING_STATUS_DROPPED : Fld := ⟨.EVT_RING_STATUS, 0, 32⟩
def BOOT_STATUS_TC_REASON : Fld := ⟨.BOOT_STATUS, 48, 8⟩
def BOOT_STATUS_ABSENT : Fld := ⟨.BOOT_STATUS, 32, 5⟩
def BOOT_STATUS_FALLBACK : Fld := ⟨.BOOT_STATUS, 24, 5⟩
def BOOT_STATUS_SLOT : Fld := ⟨.BOOT_STATUS, 16, 5⟩
def BOOT_STATUS_MIGRATED_NOW : Fld := ⟨.BOOT_STATUS, 12, 1⟩
def BOOT_STATUS_WATCHDOG : Fld := ⟨.BOOT_STATUS, 11, 1⟩
def BOOT_STATUS_OVERRIDE_FAILED : Fld := ⟨.BOOT_STATUS, 10, 1⟩
def BOOT_STATUS_BOOT_SEL : Fld := ⟨.BOOT_STATUS, 8, 2⟩
def BOOT_STATUS_STAGE : Fld := ⟨.BOOT_STATUS, 0, 4⟩
def BOOT_TIMES_SERVICE_MS : Fld := ⟨.BOOT_TIMES, 48, 16⟩
def BOOT_TIMES_TOPIARY_MS : Fld := ⟨.BOOT_TIMES, 32, 16⟩
def BOOT_TIMES_TRAIN_MS : Fld := ⟨.BOOT_TIMES, 16, 16⟩
def BOOT_TIMES_VERIFY_MS : Fld := ⟨.BOOT_TIMES, 0, 16⟩
def TOP_INFO_SV_CUR : Fld := ⟨.TOP_INFO, 48, 16⟩
def TOP_INFO_SV_MIN : Fld := ⟨.TOP_INFO, 32, 16⟩
def TOP_INFO_SRC_FORMAT : Fld := ⟨.TOP_INFO, 16, 16⟩
def TOP_INFO_FORMAT : Fld := ⟨.TOP_INFO, 0, 16⟩
def TOP_ORIGIN_MIGRATED : Fld := ⟨.TOP_ORIGIN, 41, 1⟩
def TOP_ORIGIN_BOUND : Fld := ⟨.TOP_ORIGIN, 40, 1⟩
def TOP_ORIGIN_KEY_SLOT : Fld := ⟨.TOP_ORIGIN, 32, 8⟩
def TOP_ORIGIN_SANAROV : Fld := ⟨.TOP_ORIGIN, 0, 32⟩
def TOP_DIGEST_DIGEST : Fld := ⟨.TOP_DIGEST, 0, 64⟩
def CFG_DRIFT_DRIFT : Fld := ⟨.CFG_DRIFT, 0, 17⟩
def DMP_CFG_UDP_PORT : Fld := ⟨.DMP_CFG, 16, 16⟩
def DMP_CFG_PCS : Fld := ⟨.DMP_CFG, 1, 1⟩
def DMP_CFG_EN : Fld := ⟨.DMP_CFG, 0, 1⟩
def DMP_ADDR_VID : Fld := ⟨.DMP_ADDR, 40, 12⟩
def DMP_ADDR_PREFIX : Fld := ⟨.DMP_ADDR, 32, 8⟩
def DMP_ADDR_IPV4 : Fld := ⟨.DMP_ADDR, 0, 32⟩
def DMP_STATION_PORT : Fld := ⟨.DMP_STATION, 32, 16⟩
def DMP_STATION_IPV4 : Fld := ⟨.DMP_STATION, 0, 32⟩
def DMP_GATEWAY_IPV4 : Fld := ⟨.DMP_GATEWAY, 0, 32⟩
def DMP_KEYS_VALID1 : Fld := ⟨.DMP_KEYS, 33, 1⟩
def DMP_KEYS_VALID0 : Fld := ⟨.DMP_KEYS, 32, 1⟩
def DMP_KEYS_KEY_ID1 : Fld := ⟨.DMP_KEYS, 16, 16⟩
def DMP_KEYS_KEY_ID0 : Fld := ⟨.DMP_KEYS, 0, 16⟩
def DMP_RX_HIGH_COUNTER : Fld := ⟨.DMP_RX_HIGH, 0, 64⟩
def DMP_TX_NEXT_COUNTER : Fld := ⟨.DMP_TX_NEXT, 0, 64⟩
def DMP_REJECTS_MALFORMED : Fld := ⟨.DMP_REJECTS, 48, 16⟩
def DMP_REJECTS_BAD_KEY : Fld := ⟨.DMP_REJECTS, 32, 16⟩
def DMP_REJECTS_BAD_TAG : Fld := ⟨.DMP_REJECTS, 16, 16⟩
def DMP_REJECTS_REPLAY : Fld := ⟨.DMP_REJECTS, 0, 16⟩
def DMP_EVENT_SEQ : Fld := ⟨.DMP_EVENT, 48, 16⟩
def DMP_EVENT_DRIFT : Fld := ⟨.DMP_EVENT, 5, 1⟩
def DMP_EVENT_AUTH : Fld := ⟨.DMP_EVENT, 4, 1⟩
def DMP_EVENT_BOOT : Fld := ⟨.DMP_EVENT, 3, 1⟩
def DMP_EVENT_SERVICE : Fld := ⟨.DMP_EVENT, 2, 1⟩
def DMP_EVENT_RESERVED_WRITE : Fld := ⟨.DMP_EVENT, 1, 1⟩
def DMP_EVENT_REFUSED : Fld := ⟨.DMP_EVENT, 0, 1⟩
def LLDP_CFG_TLV_EN : Fld := ⟨.LLDP_CFG, 24, 1⟩
def LLDP_CFG_OUI : Fld := ⟨.LLDP_CFG, 0, 24⟩
def UPD_CTL_LEN : Fld := ⟨.UPD_CTL, 32, 32⟩
def UPD_CTL_OP : Fld := ⟨.UPD_CTL, 0, 4⟩
def UPD_CFG_SF_WAIT_S : Fld := ⟨.UPD_CFG, 40, 8⟩
def UPD_CFG_EM_GAP_S : Fld := ⟨.UPD_CFG, 32, 8⟩
def UPD_CFG_SETTLE_S : Fld := ⟨.UPD_CFG, 16, 16⟩
def UPD_CFG_CONFIRM_S : Fld := ⟨.UPD_CFG, 0, 12⟩
def UPD_STATUS_DONE_MASK : Fld := ⟨.UPD_STATUS, 40, 5⟩
def UPD_STATUS_REMAIN_S : Fld := ⟨.UPD_STATUS, 24, 16⟩
def UPD_STATUS_RESULT : Fld := ⟨.UPD_STATUS, 16, 8⟩
def UPD_STATUS_UNIT : Fld := ⟨.UPD_STATUS, 8, 4⟩
def UPD_STATUS_COMP : Fld := ⟨.UPD_STATUS, 4, 3⟩
def UPD_STATUS_STATE : Fld := ⟨.UPD_STATUS, 0, 4⟩
def UPD_EVENT_SEQ : Fld := ⟨.UPD_EVENT, 48, 16⟩
def UPD_EVENT_EVENTS : Fld := ⟨.UPD_EVENT, 0, 8⟩
def UPD_KEYS_PENDING : Fld := ⟨.UPD_KEYS, 36, 4⟩
def UPD_KEYS_REVOKED : Fld := ⟨.UPD_KEYS, 32, 4⟩
def UPD_KEYS_GEN : Fld := ⟨.UPD_KEYS, 0, 32⟩
def UPD_REVOKE_STAGE : Fld := ⟨.UPD_REVOKE, 0, 4⟩
def UPD_COMP_VER_B : Fld := ⟨.UPD_COMP, 48, 16⟩
def UPD_COMP_VER_A : Fld := ⟨.UPD_COMP, 32, 16⟩
def UPD_COMP_PROV : Fld := ⟨.UPD_COMP, 16, 16⟩
def UPD_COMP_STATE : Fld := ⟨.UPD_COMP, 8, 2⟩
def UPD_COMP_ACTIVE : Fld := ⟨.UPD_COMP, 0, 1⟩
def NVM_STATUS_B_SIZE : Fld := ⟨.NVM_STATUS, 24, 8⟩
def NVM_STATUS_A_SIZE : Fld := ⟨.NVM_STATUS, 16, 8⟩
def NVM_STATUS_BUSY : Fld := ⟨.NVM_STATUS, 3, 1⟩
def NVM_STATUS_WP : Fld := ⟨.NVM_STATUS, 2, 1⟩
def NVM_STATUS_B_OK : Fld := ⟨.NVM_STATUS, 1, 1⟩
def NVM_STATUS_A_OK : Fld := ⟨.NVM_STATUS, 0, 1⟩
def NVM_JOURNAL_HALF_ERASED : Fld := ⟨.NVM_JOURNAL, 40, 8⟩
def NVM_JOURNAL_B_SECT : Fld := ⟨.NVM_JOURNAL, 33, 1⟩
def NVM_JOURNAL_A_SECT : Fld := ⟨.NVM_JOURNAL, 32, 1⟩
def NVM_JOURNAL_SEQ : Fld := ⟨.NVM_JOURNAL, 0, 32⟩
def NVM_GASP_LAST_TICK : Fld := ⟨.NVM_GASP, 32, 32⟩
def NVM_GASP_FOUND : Fld := ⟨.NVM_GASP, 2, 1⟩
def NVM_GASP_B_BLANK : Fld := ⟨.NVM_GASP, 1, 1⟩
def NVM_GASP_A_BLANK : Fld := ⟨.NVM_GASP, 0, 1⟩
def NVM_EVENT_SEQ : Fld := ⟨.NVM_EVENT, 48, 16⟩
def NVM_EVENT_EVENTS : Fld := ⟨.NVM_EVENT, 0, 5⟩
def NVM_WEAR_TOTAL : Fld := ⟨.NVM_WEAR, 32, 32⟩
def NVM_WEAR_MAX : Fld := ⟨.NVM_WEAR, 0, 32⟩
def INT_SCRUB_CFG_NVM_WALK_H : Fld := ⟨.INT_SCRUB_CFG, 56, 8⟩
def INT_SCRUB_CFG_SDRAM_SLICE_KIB : Fld := ⟨.INT_SCRUB_CFG, 48, 8⟩
def INT_SCRUB_CFG_EN : Fld := ⟨.INT_SCRUB_CFG, 0, 18⟩
def INT_EVENT_SEQ : Fld := ⟨.INT_EVENT, 48, 16⟩
def INT_EVENT_EVENTS : Fld := ⟨.INT_EVENT, 0, 12⟩
def INT_UNC_LOG_MEM : Fld := ⟨.INT_UNC_LOG, 59, 5⟩
def INT_UNC_LOG_SCRUB : Fld := ⟨.INT_UNC_LOG, 58, 1⟩
def INT_UNC_LOG_INDEX : Fld := ⟨.INT_UNC_LOG, 16, 32⟩
def INT_UNC_LOG_TICK : Fld := ⟨.INT_UNC_LOG, 0, 16⟩
def INT_BUCKET_CFG_DECAY_TICKS : Fld := ⟨.INT_BUCKET_CFG, 32, 32⟩
def INT_BUCKET_CFG_THRESH : Fld := ⟨.INT_BUCKET_CFG, 16, 16⟩
def INT_BUCKET_CFG_INC_MAJOR : Fld := ⟨.INT_BUCKET_CFG, 8, 8⟩
def INT_BUCKET_CFG_INC_MINOR : Fld := ⟨.INT_BUCKET_CFG, 0, 8⟩
def INT_BUCKET_MAX_VALUE : Fld := ⟨.INT_BUCKET_MAX, 48, 16⟩
def INT_BUCKET_MAX_LOCATION : Fld := ⟨.INT_BUCKET_MAX, 0, 32⟩
def INT_SCRUB_PASS_LAST_MS : Fld := ⟨.INT_SCRUB_PASS, 32, 32⟩
def INT_SCRUB_PASS_PASSES : Fld := ⟨.INT_SCRUB_PASS, 0, 32⟩
def GRF_CMD_STATUS : Fld := ⟨.GRF_CMD, 40, 3⟩
def GRF_CMD_BUSY : Fld := ⟨.GRF_CMD, 39, 1⟩
def GRF_CMD_CLASS : Fld := ⟨.GRF_CMD, 36, 3⟩
def GRF_CMD_LOCATION : Fld := ⟨.GRF_CMD, 4, 32⟩
def GRF_CMD_OP : Fld := ⟨.GRF_CMD, 0, 4⟩
def GRF_CFG_SPARE_TEST_H : Fld := ⟨.GRF_CFG, 0, 16⟩
def GRF_STATUS_ACTIVE : Fld := ⟨.GRF_STATUS, 63, 1⟩
def GRF_STATUS_CLASS : Fld := ⟨.GRF_STATUS, 60, 3⟩
def GRF_STATUS_QUEUED : Fld := ⟨.GRF_STATUS, 55, 5⟩
def GRF_STATUS_RECORD_PENDING : Fld := ⟨.GRF_STATUS, 54, 1⟩
def GRF_STATUS_PROGRESS : Fld := ⟨.GRF_STATUS, 32, 10⟩
def GRF_STATUS_LOCATION : Fld := ⟨.GRF_STATUS, 0, 32⟩
def GRF_EVENT_SEQ : Fld := ⟨.GRF_EVENT, 48, 16⟩
def GRF_EVENT_EVENTS : Fld := ⟨.GRF_EVENT, 0, 12⟩
def GRF_SPARES_CS_MIN : Fld := ⟨.GRF_SPARES, 16, 3⟩
def GRF_SPARES_LKP_MIN : Fld := ⟨.GRF_SPARES, 12, 3⟩
def GRF_SPARES_CLS : Fld := ⟨.GRF_SPARES, 8, 2⟩
def GRF_SPARES_ENGINES : Fld := ⟨.GRF_SPARES, 4, 4⟩
def GRF_SPARES_BANKS : Fld := ⟨.GRF_SPARES, 0, 3⟩
def GRF_RECORD_SEQ : Fld := ⟨.GRF_RECORD, 32, 32⟩
def GRF_RECORD_B_OK : Fld := ⟨.GRF_RECORD, 27, 1⟩
def GRF_RECORD_A_OK : Fld := ⟨.GRF_RECORD, 26, 1⟩
def GRF_RECORD_ENTRIES : Fld := ⟨.GRF_RECORD, 0, 12⟩
def GRF_MAP_BANK_VALID0 : Fld := ⟨.GRF_MAP_BANK, 7, 1⟩
def GRF_MAP_BANK_BAD0 : Fld := ⟨.GRF_MAP_BANK, 6, 1⟩
def GRF_MAP_BANK_UNIT0 : Fld := ⟨.GRF_MAP_BANK, 0, 6⟩
def GRF_MAP_BANK_VALID1 : Fld := ⟨.GRF_MAP_BANK, 15, 1⟩
def GRF_MAP_BANK_BAD1 : Fld := ⟨.GRF_MAP_BANK, 14, 1⟩
def GRF_MAP_BANK_UNIT1 : Fld := ⟨.GRF_MAP_BANK, 8, 6⟩
def GRF_MAP_BANK_VALID2 : Fld := ⟨.GRF_MAP_BANK, 23, 1⟩
def GRF_MAP_BANK_BAD2 : Fld := ⟨.GRF_MAP_BANK, 22, 1⟩
def GRF_MAP_BANK_UNIT2 : Fld := ⟨.GRF_MAP_BANK, 16, 6⟩
def GRF_MAP_BANK_VALID3 : Fld := ⟨.GRF_MAP_BANK, 31, 1⟩
def GRF_MAP_BANK_BAD3 : Fld := ⟨.GRF_MAP_BANK, 30, 1⟩
def GRF_MAP_BANK_UNIT3 : Fld := ⟨.GRF_MAP_BANK, 24, 6⟩
def GRF_MAP_CLS_VALID0 : Fld := ⟨.GRF_MAP_CLS, 7, 1⟩
def GRF_MAP_CLS_BAD0 : Fld := ⟨.GRF_MAP_CLS, 6, 1⟩
def GRF_MAP_CLS_UNIT0 : Fld := ⟨.GRF_MAP_CLS, 0, 5⟩
def GRF_MAP_CLS_VALID1 : Fld := ⟨.GRF_MAP_CLS, 15, 1⟩
def GRF_MAP_CLS_BAD1 : Fld := ⟨.GRF_MAP_CLS, 14, 1⟩
def GRF_MAP_CLS_UNIT1 : Fld := ⟨.GRF_MAP_CLS, 8, 5⟩
def AGE_CFG_LIFE_WARN : Fld := ⟨.AGE_CFG, 16, 8⟩
def AGE_CFG_WARN_Y : Fld := ⟨.AGE_CFG, 8, 8⟩
def AGE_CFG_AVS_EN : Fld := ⟨.AGE_CFG, 0, 1⟩
def AGE_STATUS_FLOOR : Fld := ⟨.AGE_STATUS, 0, 38⟩
def AGE_EVENT_SEQ : Fld := ⟨.AGE_EVENT, 48, 16⟩
def AGE_EVENT_EVENTS : Fld := ⟨.AGE_EVENT, 0, 12⟩
def AGE_LIFE_DIE_CONSUMED_H : Fld := ⟨.AGE_LIFE_DIE, 32, 32⟩
def AGE_LIFE_DIE_REMAIN_H : Fld := ⟨.AGE_LIFE_DIE, 0, 32⟩
def AGE_LIFE_MOD_CONSUMED_H : Fld := ⟨.AGE_LIFE_MOD, 32, 32⟩
def AGE_LIFE_MOD_REMAIN_H : Fld := ⟨.AGE_LIFE_MOD, 0, 32⟩
def AGE_TEMP_TJ_MAX : Fld := ⟨.AGE_TEMP, 16, 16⟩
def AGE_TEMP_COLD_PLATE : Fld := ⟨.AGE_TEMP, 0, 16⟩
def AGE_MON_MARGIN : Fld := ⟨.AGE_MON, 48, 16⟩
def AGE_MON_FLOOR : Fld := ⟨.AGE_MON, 32, 16⟩
def AGE_MON_AVS_STEPS : Fld := ⟨.AGE_MON, 0, 8⟩
def AGE_FORECAST_VALID : Fld := ⟨.AGE_FORECAST, 32, 1⟩
def AGE_FORECAST_MONTHS : Fld := ⟨.AGE_FORECAST, 16, 16⟩
def AGE_FORECAST_YEARS : Fld := ⟨.AGE_FORECAST, 0, 16⟩
def PWR_STATUS_PC_GEN : Fld := ⟨.PWR_STATUS, 32, 16⟩
def PWR_STATUS_HOLD : Fld := ⟨.PWR_STATUS, 15, 1⟩
def PWR_STATUS_PC_RESTARTING : Fld := ⟨.PWR_STATUS, 14, 1⟩
def PWR_STATUS_SINGLE : Fld := ⟨.PWR_STATUS, 13, 1⟩
def PWR_STATUS_TRANSFER : Fld := ⟨.PWR_STATUS, 6, 2⟩
def PWR_STATUS_ACTIVE : Fld := ⟨.PWR_STATUS, 0, 1⟩
def PWR_EVENT_SEQ : Fld := ⟨.PWR_EVENT, 48, 16⟩
def PWR_EVENT_EVENTS : Fld := ⟨.PWR_EVENT, 0, 9⟩
def PWR_POLICY_WTR_S : Fld := ⟨.PWR_POLICY, 16, 16⟩
def PWR_POLICY_I2C_CMD_EN : Fld := ⟨.PWR_POLICY, 3, 1⟩
def PWR_POLICY_ALARM_SINGLE : Fld := ⟨.PWR_POLICY, 2, 1⟩
def PWR_POLICY_PREFER : Fld := ⟨.PWR_POLICY, 0, 2⟩
def PWR_CMD_OP : Fld := ⟨.PWR_CMD, 0, 2⟩
def PWR_TEST_CFG_RIPPLE_MAX_MV : Fld := ⟨.PWR_TEST_CFG, 16, 16⟩
def PWR_TEST_CFG_PERIOD_S : Fld := ⟨.PWR_TEST_CFG, 8, 8⟩
def PWR_FEED_VIN : Fld := ⟨.PWR_FEED, 48, 16⟩
def PWR_FEED_IIN : Fld := ⟨.PWR_FEED, 32, 16⟩
def PWR_FEED_RIPPLE : Fld := ⟨.PWR_FEED, 16, 16⟩
def PWR_FEED_OUT_ON : Fld := ⟨.PWR_FEED, 5, 1⟩
def PWR_FEED_IN_ON : Fld := ⟨.PWR_FEED, 4, 1⟩
def PWR_FEED_STATE : Fld := ⟨.PWR_FEED, 0, 3⟩
def PWR_HEALTH_TICK : Fld := ⟨.PWR_HEALTH, 32, 32⟩
def PWR_HEALTH_IMPED : Fld := ⟨.PWR_HEALTH, 24, 8⟩
def PWR_HEALTH_STALE : Fld := ⟨.PWR_HEALTH, 5, 1⟩
def PWR_HEALTH_FAILS : Fld := ⟨.PWR_HEALTH, 0, 5⟩
def PWR_HOLDUP_CAP_UF : Fld := ⟨.PWR_HOLDUP, 48, 16⟩
def PWR_HOLDUP_ESR_MOHM : Fld := ⟨.PWR_HOLDUP, 32, 16⟩
def PWR_HOLDUP_HOLD_US : Fld := ⟨.PWR_HOLDUP, 16, 16⟩
def PWR_HOLDUP_VBANK : Fld := ⟨.PWR_HOLDUP, 0, 16⟩
def PWR_COUNTS_TRANSFERS_CMD : Fld := ⟨.PWR_COUNTS, 48, 16⟩
def PWR_COUNTS_TRANSFERS_LOSS : Fld := ⟨.PWR_COUNTS, 32, 16⟩
def PWR_COUNTS_DIPS : Fld := ⟨.PWR_COUNTS, 16, 16⟩
def PWR_COUNTS_TEST_FAILS : Fld := ⟨.PWR_COUNTS, 0, 16⟩
def GLB_PINS_FEED_B_OK : Fld := ⟨.GLB_PINS, 13, 1⟩
def GLB_PINS_FEED_A_OK : Fld := ⟨.GLB_PINS, 12, 1⟩
def GLB_PINS_FAULT : Fld := ⟨.GLB_PINS, 11, 1⟩
def GLB_PINS_ALARM : Fld := ⟨.GLB_PINS, 10, 1⟩
def GLB_PINS_IRQ : Fld := ⟨.GLB_PINS, 9, 1⟩
def GLB_PINS_PERST_N : Fld := ⟨.GLB_PINS, 8, 1⟩
def GLB_PINS_SLOT_ID : Fld := ⟨.GLB_PINS, 4, 4⟩
def GLB_PINS_BOOT_SEL : Fld := ⟨.GLB_PINS, 1, 2⟩
def GLB_PINS_NVM_WP_N : Fld := ⟨.GLB_PINS, 0, 1⟩
def GLB_RESET_CAUSE_FATAL_24H : Fld := ⟨.GLB_RESET_CAUSE, 8, 8⟩
def GLB_RESET_CAUSE_CAUSE : Fld := ⟨.GLB_RESET_CAUSE, 0, 3⟩
def TRG_EVENT_SEQ : Fld := ⟨.TRG_EVENT, 48, 16⟩
def TRG_EVENT_EVENTS : Fld := ⟨.TRG_EVENT, 0, 3⟩
def TRG_STATUS_DROPPED : Fld := ⟨.TRG_STATUS, 32, 32⟩
def TRG_STATUS_STALE_POPS : Fld := ⟨.TRG_STATUS, 16, 16⟩
def TRG_STATUS_REFUSED_OUT : Fld := ⟨.TRG_STATUS, 8, 8⟩
def TRG_STATUS_OUT : Fld := ⟨.TRG_STATUS, 4, 4⟩
def TRG_STATUS_IN : Fld := ⟨.TRG_STATUS, 0, 4⟩
def TRG_IN_CFG_DELAY_NS : Fld := ⟨.TRG_IN_CFG, 16, 16⟩
def TRG_IN_CFG_FILTER : Fld := ⟨.TRG_IN_CFG, 8, 8⟩
def TRG_IN_CFG_EVT_EN : Fld := ⟨.TRG_IN_CFG, 3, 1⟩
def TRG_IN_CFG_EDGE : Fld := ⟨.TRG_IN_CFG, 0, 2⟩
def TRG_IN_HEAD0_VALID : Fld := ⟨.TRG_IN_HEAD0, 63, 1⟩
def TRG_IN_HEAD0_RISING : Fld := ⟨.TRG_IN_HEAD0, 62, 1⟩
def TRG_IN_HEAD0_USABLE : Fld := ⟨.TRG_IN_HEAD0, 61, 1⟩
def TRG_IN_HEAD0_FILL : Fld := ⟨.TRG_IN_HEAD0, 56, 5⟩
def TRG_IN_HEAD0_SEC : Fld := ⟨.TRG_IN_HEAD0, 0, 48⟩
def TRG_IN_HEAD1_INDEX : Fld := ⟨.TRG_IN_HEAD1, 48, 16⟩
def TRG_IN_HEAD1_NS : Fld := ⟨.TRG_IN_HEAD1, 16, 32⟩
def TRG_IN_HEAD1_FRAC : Fld := ⟨.TRG_IN_HEAD1, 0, 16⟩
def TRG_IN_POP_INDEX : Fld := ⟨.TRG_IN_POP, 0, 16⟩
def TRG_OUT_CFG_PULSE : Fld := ⟨.TRG_OUT_CFG, 32, 16⟩
def TRG_OUT_CFG_DIV : Fld := ⟨.TRG_OUT_CFG, 16, 16⟩
def TRG_OUT_CFG_CLASS : Fld := ⟨.TRG_OUT_CFG, 12, 3⟩
def TRG_OUT_CFG_PORT : Fld := ⟨.TRG_OUT_CFG, 5, 7⟩
def TRG_OUT_CFG_INVERT : Fld := ⟨.TRG_OUT_CFG, 4, 1⟩
def TRG_OUT_CFG_FUNC : Fld := ⟨.TRG_OUT_CFG, 0, 4⟩
def TRG_OUT_LEVEL_LEVEL : Fld := ⟨.TRG_OUT_LEVEL, 0, 1⟩

end Sys2Proof.Machine
end

