-- ==== Sys2Proof/Machine/State.lean ====
section
/-! DEFINITION. The state of the module: plain data, every register, queue, buffer, table, mode and pin the spec gives it,
and the queue of commands that wait. Sparse tables are lists of key and value in rising key order. -/

namespace Sys2Proof.Machine

/-! ### Reasons a step stops -/

/-- A stop the module itself reports. No command of this model raises one: every command of the table has an effect, so
this type is kept with the one reason the interface of a block can give. Safe: a fault stops the model where the module
goes on. -/
inductive Fault where
  /-- The command's operands break the well-formedness the table's row states (raised by no meaning; kept for callers
  that check first). Safe. -/
  | illFormed
  deriving DecidableEq, Repr

/-- A command the model gives no meaning. -/
inductive Refusal where
  /-- Raised by the arms of Dispatch.lean that have no meaning yet, with the row's mnemonic. Safe. -/
  | notModelled (mnemonic : String)
  deriving DecidableEq, Repr

/-! ### The tick and the staging buffer (The Tick, Staged Commits and Fences) -/

/-- What one entry of the staging buffer holds a value for (R28, R31): a field of a register, or an entry of one of the
three tick-staged tables (R74, R175, R181), or the request word of a cluster exchange. -/
inductive StageKey where
  | field (reg : Reg) (idx lo width : Nat)
  | node (i : Nat)
  | transition (i : Nat)
  | policer (i : Nat)
  | streamShaper (i : Nat)
  deriving DecidableEq, Repr

/-- One staged write: what it writes and the value. -/
structure Staged where
  key : StageKey
  value : Nat
  deriving DecidableEq, Repr

/-- One window of indirect access (R371): the block, and the path whose set it is (0 for a window all paths share). -/
inductive WinId where
  | par
  | cls (path : Nat)
  | fdb (path : Nat)
  | tbl (path : Nat)
  | lpm (path : Nat)
  | voq
  | edit
  | gate (path : Nat)
  | shp (path : Nat)
  | pol (path : Nat)
  | cs (cluster : Nat)
  | sample (cluster : Nat)
  | dram (path : Nat)
  | grf
  deriving DecidableEq, Repr

/-- A classifier entry (R82): key and mask of 320 bits, the action word of CLS_RULE_ACT, and its valid bit. -/
structure Rule where
  /-- Key, mask, action and VALID. -/
  key : Nat
  mask : Nat
  act : Word
  valid : Bool
  deriving DecidableEq, Repr

/-- A window command in progress (R372): its place in the order of acceptance, and the register values that stand when it
completes (results and STATUS). -/
structure WinCmd where
  /-- The window set the command holds. -/
  win : WinId
  /-- Its place in the order of acceptance. -/
  seq : Nat
  /-- The command register, its index and the bit of its BUSY. -/
  cmd : Reg
  idx : Nat
  busyBit : Nat
  /-- Register, index and value of every register the completion writes. -/
  result : List (Reg × Nat × Word)
  /-- A FLUSH or CLEAR_NODE, whose effect is spread over the command, and its progress. -/
  walk : Nat := 0
  /-- Slice, index and rule of a WRITE with FORCE to a valid entry, which stands when the command completes (R89). -/
  rule : Option (Nat × Nat × Rule) := none
  deriving DecidableEq, Repr

/-- A write held because its window set is busy (R372), oldest first. -/
structure HeldWrite where
  /-- The path, the offset and the word of the write, and the window set it waits for. -/
  path : Path
  off : Nat
  value : Word
  win : WinId
  /-- The engine thread that issued it. -/
  thread : Option Nat := none
  deriving DecidableEq, Repr

/-- An outstanding fence (R37, R38): its token, the last window command it waits for and the commit it waits for. -/
structure FenceWait where
  /-- The token, the last window command before it, the commit that applies what was staged before it, and the PERIOD writes before it. -/
  token : Nat
  winSeq : Nat
  commit : Nat
  period : Nat := 0
  deriving DecidableEq, Repr

/-- The tick and its housekeeping. -/
structure TickSt where
  /-- The ending boundary of the current tick, as a value of the time counter in time units; first that of the default period of
  8 µs (R24). -/
  boundary : Nat := 52428800000000000
  /-- Writes staged in the current tick and in the following one (R28), oldest first. -/
  now : List Staged := []
  next : List Staged := []
  /-- The set of that tick has overflowed and is discarded whole (R30). -/
  nowLost : Bool := false
  nextLost : Bool := false
  /-- A PERIOD waiting for the whole second (R26), and that second's instant. -/
  periodPend : Option (Nat × Nat) := none
  /-- PERIOD writes accepted, and those that no longer wait (R26, R37). -/
  periodSeq : Nat := 0
  periodDone : Nat := 0
  /-- Consecutive ticks without an overrun, 0 to 16 (R35), and whether the current tick contains one. -/
  clean : Nat := 0
  overrun : Bool := false
  /-- The tick in progress was shortened or lengthened by a step (R27). -/
  stepTick : Bool := false
  /-- Tick numbers a forward step skipped: their first number and the number after the last (R27, R276). -/
  skipped : Option (Nat × Nat) := none
  /-- Clusters whose due tick jobs, and whose timers, of the latest commit are still to be enqueued (R276, R279). -/
  jobsDue : List Nat := []
  timersDue : List Nat := []
  /-- Outstanding fences, oldest first (R38). -/
  fences : List FenceWait := []
  /-- The token of a tick fence that is busy (R39). -/
  fenceTok : Nat := 0
  deriving DecidableEq, Repr

/-- Window commands in progress and the writes they hold (R372). -/
structure WinSt where
  /-- Window commands accepted so far. -/
  seq : Nat := 0
  /-- Commands in progress, in order of acceptance. -/
  busy : List WinCmd := []
  /-- Writes they hold, oldest first. -/
  held : List HeldWrite := []
  deriving DecidableEq, Repr

/-! ### Network time (Network Time, Timestamps and References) -/

/-- A phase correction that waits for its commit (R206): a step, or a set with the instant of its acceptance. -/
inductive AdjPend where
  | step (offset : Int)
  | set (value accepted : Nat)
  deriving DecidableEq, Repr

/-- What the module has learned of one OCXO: the PLL words of its holdover mean (R211, at most 1,000, newest first) and
its differences from the selected reference (R214, at most 86,400, newest first), both in units of 10⁻¹⁵. -/
structure OcxoSt where
  /-- The PLL words of its holdover mean, and its differences from the selected reference. -/
  words : List Int := []
  diffs : List Int := []
  /-- Its OVEN_READY is high (R213). -/
  ovenReady : Bool := false
  deriving DecidableEq, Repr

/-- The reference monitor's record of one reference (R214, R215). -/
structure RefSt where
  /-- Consecutive windows within and beyond SOFT_PPB without a phase step. -/
  within : Nat := 0
  beyond : Nat := 0
  /-- Seconds it has been GOOD, for the wait to restore (R216). -/
  goodS : Nat := 0
  /-- The phase of the last window, ns or quarter ns as measured, and whether there was one. -/
  lastPhase : Option Int := none
  /-- TIME cycle of the last edge or measurement write. -/
  lastSeen : Nat := 0
  deriving DecidableEq, Repr

/-- The time counter and its steering. Time units: 1 ns is 65,536 × 10⁸ units, so that a fraction of 2⁻¹⁶ ns and a slew
of 10⁻⁸ per cycle are both whole numbers of units (R200, R205). -/
structure TimeSt where
  /-- TIME cycles since power-on or device reset. -/
  cycles : Nat := 0
  /-- The time counter, in time units. -/
  net : Nat := 0
  /-- Slew still to be applied, signed, in time units (R205). -/
  slew : Int := 0
  /-- A step or a set that waits for its commit (R206). -/
  adj : Option AdjPend := none
  /-- The control word the PLL applies, in units of 10⁻¹⁵ (R203). -/
  pllWord : Int := 0
  /-- What the module has learned of OCXO-A and of OCXO-B. -/
  ocxoA : OcxoSt := {}
  ocxoB : OcxoSt := {}
  /-- The monitor's record of each of the four references. -/
  ref0 : RefSt := {}
  ref1 : RefSt := {}
  ref2 : RefSt := {}
  ref3 : RefSt := {}
  /-- TIME cycle of the last TIM_ADJ write, of the last reference switch or rejoin, and of the entry to HOLDOVER. -/
  adjAt : Nat := 0
  switchAt : Nat := 0
  holdAt : Nat := 0
  /-- TIM_ADJ writes in the current monitor window, and whether every OFFSET was within LOCK_NS (R210). -/
  adjWrites : Nat := 0
  adjWithin : Bool := true
  /-- Consecutive windows that meet R210's condition for LOCKED. -/
  lockRun : Nat := 0
  /-- PPS_IN: TIME cycle of the last edge (R229). -/
  ppsAt : Option Nat := none
  /-- The difference REF10_IN, OCXO-A, OCXO-B last measured against the monitor's clock, in units of 10⁻¹⁵ (R203). -/
  measA : Int := 0
  measB : Int := 0
  meas10 : Int := 0
  /-- PPS_OUT is high, until this TIME cycle (R231). -/
  ppsOutEnd : Option Nat := none
  /-- The last step applied, for frames stamped before it (R208): the TIME cycle and the size in time units. -/
  lastStep : Option (Nat × Int) := none
  /-- Transmit-stamp jobs enqueued in the second that began at a TIME cycle (R228). -/
  stampSec : Nat := 0
  stampJobs : Nat := 0
  /-- The REF domain monitors (R16). -/
  monitorUp : Bool := true
  /-- A time-bearing reference has been selected since time came to run at its holdover rate (R211). -/
  holdSel : Bool := false
  deriving DecidableEq, Repr

/-! ### Events, rings and interrupts (Register Interface and Events; Hedges and Gaps) -/

/-- What the module has put on one of its outward interfaces. -/
inductive Output where
  /-- A frame on front port p, its octets from the destination address through the FCS. -/
  | frame (port : Nat) (octets : List Byte)
  /-- An interrupt message of a function: 0 the physical function, h + 1 a virtual one. -/
  | message (function vector : Nat)
  /-- A DMP message: its TYPE, KEY_ID and COUNTER, and the values of its payload in order. -/
  | dmp (type key counter : Nat) (values : List Nat)
  /-- A PMBus reply. -/
  | pmbus (octets : List Byte)
  /-- A completed frame delivered to a host function's receive queue, or to the supervisor (129). -/
  | deliver (dest : Nat) (hedge : Nat) (octets : List Byte)
  /-- A posted write of the module into a function's host memory. -/
  | hostWrite (function addr : Nat) (octets : List Byte)
  /-- A link-layer signal of a front port: low-power idle on or off. -/
  | lpi (port : Nat) (on : Bool)
  /-- The REFCLK outputs start or stop (R495). -/
  | refclk (on : Bool)
  deriving DecidableEq, Repr

/-- Event rings, rate limits and interrupts. -/
structure EvtSt where
  /-- Per event kind that is raised at most once per second: its key and the TIME cycle of the last one raised. -/
  lastRaised : List (Nat × Nat) := []
  /-- Records dropped by ring h since the last record written to it other than a fence marker (R375). -/
  lost : List (Nat × Nat) := []
  /-- Fence markers waiting for room in ring h (R375): ring and token, oldest first. -/
  markers : List (Nat × Nat) := []
  /-- Pending and masked virtual-function vectors, by 8 h + v, and the TIME cycle of the last message (R348). -/
  vecPend : List Nat := []
  vecMask : List Nat := []
  vecLast : List (Nat × Nat) := []
  /-- Physical-function vectors pending for a message, masked ones, and last message times. -/
  pfPend : List Nat := []
  pfMask : List Nat := []
  pfLast : List (Nat × Nat) := []
  /-- What has left the module, newest first. -/
  out : List Output := []
  deriving DecidableEq, Repr

/-- Progress of a Hedge reset (R350). -/
inductive ResetPhase where
  /-- Steps 1 to 3: the buffer walk is waiting or running. -/
  | walk
  /-- Step 3 is done; step 4 comes at the next commit. -/
  | reset
  /-- A RELOAD whose section is being staged, until its last part commits. -/
  | reload
  deriving DecidableEq, Repr

/-- A Hedge reset under way. -/
structure HedgeReset where
  hedge : Nat
  reload : Bool
  phase : ResetPhase
  /-- Items of its section that have been staged. -/
  doneItems : Nat := 0
  deriving DecidableEq, Repr

/-- Hedges, host functions and Gaps. -/
structure HdgSt where
  /-- Resets under way, in order of acceptance (R351). -/
  resets : List HedgeReset := []
  /-- NumVFs, and the functions whose bus mastering is enabled: 0 physical, h + 1 virtual (R344). -/
  numVfs : Nat := 0
  busMaster : List Nat := []
  deriving DecidableEq, Repr

/-! ### SDRAM (SDRAM Controller) -/

/-- Who waits for an SDRAM request. -/
inductive Requester where
  | window (path : Nat)
  | thread (key : Nat)
  | supervisor
  | clippings
  | hardware
  deriving DecidableEq, Repr

/-- A request of a channel (R316): a read, with the octets it will return, or a write-queue entry of a granule. -/
structure DrmReq where
  /-- Its number in the order of acceptance, its channel, whether it writes, its address and octets. -/
  id : Nat
  channel : Nat
  write : Bool
  addr : Nat
  len : Nat
  data : List Byte := []
  /-- A write-queue entry that was not stored whole, so that the granule is read and merged (R321). -/
  partly : Bool := false
  /-- The Hedge it is charged to, and who waits for it. -/
  hedge : Nat
  who : Requester
  /-- It holds a slot, the TIME cycle it took it, and whether it is promoted (R317). -/
  slot : Bool := true
  since : Nat
  promoted : Bool := false
  deriving DecidableEq, Repr

/-- The SDRAM controller. -/
structure DrmSt where
  /-- The SDRAM's octets by module address; an address not listed reads 0. -/
  mem : List (Nat × Byte) := []
  /-- Requests that wait, oldest first, with the write queue's entries (R316). -/
  reqs : List DrmReq := []
  /-- The number of the next request. -/
  nextId : Nat := 0
  /-- Virtual times V_h of R318, by 16 × channel + h, in 2⁻²⁰ of V's unit. -/
  vtime : List (Nat × Nat) := []
  /-- Subchannels in write mode (R319). -/
  wmode : List Nat := []
  /-- Devices that have rows marked erased: subchannel, device, row (R327). -/
  erased : List (Nat × Nat × Nat) := []
  /-- Rows that soft repair has mended and that wait for their permanent repair at the next start (R327). -/
  softRepaired : List (Nat × Nat) := []
  /-- Subchannels s = 2 × channel + subchannel in which a device reports a temperature above 85 °C (R325). -/
  hot : List Nat := []
  /-- What remains below a microsecond of a channel's panic (R322, R330). -/
  panicRem : List (Nat × Nat) := []
  /-- Failed trainings of each channel in a row (R328). -/
  trainFails : List (Nat × Nat) := []
  /-- The least margin that the last sweep of each subchannel found, in ps (R326). -/
  margins : List (Nat × Nat) := []
  /-- Window commands' stores that wait for room in a write queue (R316), oldest first: path, Hedge, address and octets. -/
  stores : List (Nat × Nat × Nat × List Byte) := []
  deriving DecidableEq, Repr

/-! ### Packet engines (Packet Engines and Microcode; Engine Performance Counters) -/

/-- Where a job came from (R252, R273). -/
inductive JobKind where
  | tick (entry : Nat)
  | timer (index : Nat)
  | event
  | push
  | doorbell
  | fence
  | service (queue : Nat)
  deriving DecidableEq, Repr

/-- A job: its descriptor, the Hedge it is charged to, and the buffered frame it holds (R267, R272). -/
structure Job where
  /-- Its descriptor, Hedge and origin. -/
  desc : BitVec 128
  hedge : Nat
  kind : JobKind
  /-- The buffered frame it holds (R267). -/
  frame : Option Nat := none
  /-- A restart of a job that ran before (R285). -/
  restart : Bool := false
  /-- A tick job that has used its budget or met its ending boundary before it was done (R34). -/
  spent : Bool := false
  deriving DecidableEq, Repr

/-- An operation held in a commit section (R261), or issued: a store or an atomic, a register write, a job push, or a queue
operation. -/
inductive HeldOp where
  | store (space addr len : Nat) (data : Nat)
  | atomic (space addr : Nat) (op : Nat) (a b : Word)
  | regWrite (off : Nat) (value : Word)
  | push (cluster : Nat) (desc : BitVec 128)
  | qop (op : Nat) (param : Word)
  deriving DecidableEq, Repr

/-- An ALU's result in the microword in progress: the value, whether it is written and where, and its new flags. -/
structure AluRes where
  /-- The value, whether it is written, the register it goes to, and Z, N, C and V. -/
  value : Word
  write : Bool
  dest : Nat
  flags : BitVec 4
  deriving DecidableEq, Repr

/-- A read a thread waits for (R265): its data once they are known, and the TIME cycle it was issued. -/
structure ReadOut where
  /-- Octets read, the data when they are known, whether the read failed, and the TIME cycle of its issue. -/
  width : Nat
  data : Option Nat
  failed : Bool
  since : Nat
  deriving DecidableEq, Repr

/-- The parts of a thread's microword that have been given since its last microword completed (R253, R257): what they read, and
what the completion writes. -/
structure Micro where
  /-- S11 FLAGS as it stood before the microword: sources and CND are read from it (R257, R258). -/
  flags : Option Nat := none
  /-- The results of ALU A and ALU B. -/
  resA : Option AluRes := none
  resB : Option AluRes := none
  /-- A header-window write: from ALU B rather than A, and the word (R268). -/
  hdrWrite : Option (Bool × Nat) := none
  /-- The header window's half that it selects (R268). -/
  view : Option Bool := none
  /-- The MEM code and the space of a memory operation (R263). -/
  mem : Option (Nat × Nat) := none
  /-- The memory operation failed (R264). -/
  memErr : Option Bool := none
  /-- The microword has a queue operation, a THR operation, a timer operation. -/
  qop : Bool := false
  /-- QOK, QSTAT, TMR_OK and TMRV as its operations leave them. -/
  qOk : Option Bool := none
  qstat : Option Word := none
  tmrOk : Option Bool := none
  tmrv : Option Word := none
  /-- A read or atomic that returns data. -/
  reads : Bool := false
  waits : Bool := false
  /-- It has THR BEGIN_COMMIT. -/
  commits : Bool := false
  /-- CNT and FEN codes. -/
  cnt : Nat := 0
  fen : Nat := 0
  deriving DecidableEq, Repr

/-- A thread that holds a job. -/
structure Thread where
  /-- The job it holds. -/
  job : Job
  /-- W0 to W31 (R254). -/
  w : List Word
  /-- Microaddress of the microword in progress, and the return stack, newest first (R259). -/
  pc : Nat
  stack : List Nat := []
  /-- LOCAL memory: octets the job has stored, and the number of the free words that stand for the others. -/
  mem : List (Nat × Byte) := []
  localSeed : Nat := 0
  /-- The header buffer, and whether the window shows its upper half (R268). -/
  hdr : List Byte := []
  upper : Bool := false
  /-- Z, N, C, V of each ALU, Z in bit 0 (R255). -/
  flagsA : BitVec 4 := 0
  flagsB : BitVec 4 := 0
  /-- RD0 and RD1, and whether they hold the last read (R265). -/
  rd0 : Word := 0
  rd1 : Word := 0
  rdReady : Bool := false
  /-- MEM_ERR, QOK, TMR_OK, QSTAT and TMRV (R254). -/
  memErr : Bool := false
  qOk : Bool := false
  tmrOk : Bool := false
  qstat : Word := 0
  tmrv : Word := 0
  /-- A commit section is open, and the operations it holds, oldest first (R261). -/
  inCommit : Bool := false
  held : List HeldOp := []
  /-- The read that is outstanding. -/
  read : Option ReadOut := none
  /-- THR WAIT keeps it from being ready until its read returns (R261). -/
  waiting : Bool := false
  /-- The fence of its last FENCE_NEXT (R260). -/
  fence : Nat := 0
  /-- Its END has issued and waits for this fence. -/
  ending : Option Nat := none
  /-- The parts of the microword in progress. -/
  mw : Micro := {}
  /-- Counting windows 0 and 1 (R301). -/
  win0 : Bool := false
  win1 : Bool := false
  /-- The frame's next re-entry carries queue selector kind 1 (R269 CLIP). -/
  clip : Bool := false
  /-- Its place in the order in which the threads of the module became ready (R251). -/
  turn : Nat := 0
  /-- Microwords issued, and the TIME cycle the job started at. -/
  issued : Nat := 0
  since : Nat := 0
  /-- A tagged microword whose read is outstanding: microaddress, ENG cycle of issue, MEM and MSP (R303). -/
  tagged : Option (Nat × Nat × Nat × Nat) := none
  deriving DecidableEq, Repr

/-- A timer that has been allocated (R278). -/
structure Timer where
  /-- The Hedge that owns it, and whether it came from the shared pool. -/
  hedge : Nat
  fromPool : Bool
  /-- Commit of expiry, opcode and ARG while armed. -/
  armed : Option (Nat × Nat × Nat) := none
  /-- Commits its expiry has been deferred because TT is full, while it is due (R279). -/
  late : Option Nat := none
  deriving DecidableEq, Repr

/-- Why a cluster does not start jobs (R289, R291). -/
inductive Quiesce where
  | exchange (base : Nat)
  | offline
  deriving DecidableEq, Repr

/-- One engine cluster. -/
structure Cluster where
  /-- The job queues TT, EV, IJ and DB, oldest first (R273), and jobs that start again before them (R285). -/
  tt : List Job := []
  ev : List Job := []
  ij : List Job := []
  db : List Job := []
  restarts : List Job := []
  /-- Fence markers that wait for a free place: queue k of R273 and token, oldest first (R284). -/
  markers : List (Nat × Nat) := []
  /-- Timers allocated, by index (R278). -/
  timers : List (Nat × Timer) := []
  /-- SHARED memory: octets that are not 0 (R263). -/
  shared : List (Nat × Byte) := []
  /-- Control store: microaddress and the 128-bit microword; an address not listed holds 0. -/
  store : List (Nat × Nat) := []
  /-- SHARED words poisoned (R437), and control-store row groups being reloaded. -/
  poisoned : List Nat := []
  reloading : List Nat := []
  /-- Why it starts no jobs. -/
  quiesce : Option Quiesce := none
  /-- Commits since the cluster stopped starting jobs, and a finished load that waits for its commit (R289). -/
  quiesceCommits : Nat := 0
  loaded : Option Bool := none
  /-- The dispatch table of that load (R289). -/
  table : List Nat := []
  /-- Sample buffer by index, full producer and consumer counts, and SAMPLE_FULL raised (R304). -/
  samples : List (Nat × Nat) := []
  prod : Nat := 0
  cons : Nat := 0
  fullRaised : Bool := false
  /-- Microwords left to the next sample, by physical engine; and a tag that waits for a memory operation (R303). -/
  countdown : List (Nat × Nat) := []
  tagWaits : List Nat := []
  /-- ENG cycles a stopped engine does not count: physical engine and its value when it stopped (R296). -/
  stopped : List (Nat × Nat) := []
  /-- The ENG domain has failed (R291). -/
  lost : Bool := false
  /-- The supervisor has copied the tick-job entries into REHOME since the cluster went out (R291). -/
  entriesMoved : Bool := false
  /-- Microwords retired that have not yet been charged to issue slots, by physical engine (R298). -/
  slots : List (Nat × Nat) := []
  deriving DecidableEq, Repr

/-- The engines. -/
structure EngSt where
  /-- The four clusters. -/
  cl0 : Cluster := {}
  cl1 : Cluster := {}
  cl2 : Cluster := {}
  cl3 : Cluster := {}
  /-- Threads that hold a job, by 768 × cluster + 48 × logical engine + thread. -/
  threads : List (Nat × Thread) := []
  /-- The next place in that order. -/
  turn : Nat := 0
  deriving DecidableEq, Repr

/-! ### Lanes and ports (Lanes, Ports and the Frame MAC) -/

/-- A wake in progress (R58): its first request's TIME cycle and the kinds of requests in it. -/
structure Wake where
  /-- TIME cycle of the first request, and whether the host or a link partner asked. -/
  since : Nat
  host : Bool
  remote : Bool
  deriving DecidableEq, Repr

/-- A drain in progress (R161): its TIME-cycle limit and the state the unit takes at its end. -/
structure Drain where
  /-- The TIME cycle at which it is cut short, and the state at its end. -/
  limit : Nat
  target : Nat
  deriving DecidableEq, Repr

/-- Ports and tiles. Keys: p a front port, 8 p + c a port and class, t a tile. Times are TIME cycles. -/
structure PrtSt where
  /-- End of the pause of 8 p + c (R48). -/
  pauseEnd : List (Nat × Nat) := []
  /-- Nanoseconds below a whole microsecond in TX_PAUSED of 8 p + c and in TX_LPI_USEC of port p (R61). -/
  pauseRem : List (Nat × Nat) := []
  lpiRem : List (Nat × Nat) := []
  /-- Next refresh of port p's PFC frame while XOFF persists (R49). -/
  refreshAt : List (Nat × Nat) := []
  /-- PFC frames port p owes: the classes whose release it must announce (R49). -/
  pfcOwed : List (Nat × Nat) := []
  /-- Since when port p has had no eligible frame (R55). -/
  idleSince : List (Nat × Nat) := []
  /-- Wakes in progress of port p and of tile t (R58). -/
  portWake : List (Nat × Wake) := []
  tileWake : List (Nat × Wake) := []
  /-- Drains in progress of port p and of tile t (R161). -/
  portDrain : List (Nat × Drain) := []
  tileDrain : List (Nat × Drain) := []
  /-- Next restart of port p's failed negotiation (R43). -/
  anRetry : List (Nat × Nat) := []
  /-- Ports whose lanes are in the loopback test of R65, with its limit. -/
  testing : List (Nat × Nat) := []
  /-- TIME cycle at which port p's transmitter ends the PFC frame it is sending (R50). -/
  ctrlEnds : List (Nat × Nat) := []
  deriving DecidableEq, Repr

/-! ### Parsing and classification -/

/-- Parse graph, rules and exception buckets. -/
structure ClsSt where
  /-- Committed nodes (their two words) and transitions by index; one not listed is zero, so not valid. -/
  nodes : List (Nat × (Word × Word)) := []
  trans : List (Nat × Word) := []
  /-- Rules by 2,048 × slice + index. -/
  rules : List (Nat × Rule) := []
  /-- Tokens of Hedge h, reason r by 32 h + r, in 10⁻⁹ of a frame, and the TIME cycle of the last discard (R94). -/
  excTokens : List (Nat × Nat) := []
  excLast : List (Nat × Nat) := []
  deriving DecidableEq, Repr

/-! ### Forwarding tables and learning -/

/-- A learn request (R106): FID, source address, and the destination form of R105: kind and destination. -/
structure LearnReq where
  /-- FID, source address, and the destination's kind and number. -/
  fid : Nat
  mac : Nat
  kind : Nat
  dest : Nat
  deriving DecidableEq, Repr

/-- The forwarding tables. -/
structure FwdSt where
  /-- Valid FDB entries (128 bits) by location (R103). -/
  fdb : List (Nat × Nat) := []
  /-- FAIL_COUNT by bucket (R107). -/
  fails : List (Nat × Nat) := []
  /-- The learn queue, oldest first (R106). -/
  learn : List LearnReq := []
  /-- The direct-indexed tables: TABLE × 2¹⁸ + INDEX, an entry not listed is zero (R137). -/
  tbl : List (Nat × Nat) := []
  /-- Trie entries: root node r entry e at 65,536 r + e; pool node n entry e at 4,194,304 + 256 n + e (R130). -/
  trie : List (Nat × Word) := []
  /-- Associative slots: their three words (R133). -/
  assoc : List (Nat × (Word × Word × Word)) := []
  /-- TIME cycle at which GRACE clears (R132). -/
  graceEnd : Nat := 0
  /-- The Pruner: its pass number, buckets swept in this pass, the bucket it sweeps next, and N_h of this pass (R116, R117). -/
  pass : Nat := 0
  swept : Nat := 0
  sweepAt : Nat := 0
  passN : List (Nat × Nat) := []
  /-- TIME cycle of the last frame that FRER entry f passed (R122). -/
  frerLast : List (Nat × Nat) := []
  /-- The commit at which the Pruner last stepped (R116). -/
  prunedAt : Option Nat := none
  deriving DecidableEq, Repr

/-! ### Shared buffer and virtual output queues -/

/-- What the ingress finds of PTP in a frame (R224): offset of its PTP header, messageType, and the offset of the UDP header
when it is carried by UDP (0: Ethernet). -/
structure PtpInfo where
  /-- The offset of the PTP header, its messageType, and the offset of the UDP header. -/
  off : Nat
  msg : Nat
  udp : Nat
  deriving DecidableEq, Repr

/-- A frame and its descriptor (R140). -/
structure Frame where
  /-- The stored octets. -/
  octets : List Byte
  /-- Source and Hedge. -/
  source : Nat
  hedge : Nat
  /-- The Hedge of the frame before a Gap, and the Gap it crossed (R341). -/
  sender : Nat
  gap : Option Nat := none
  /-- The buffer epoch of its Hedge at admission (R350), class, colour and queue selector. -/
  epoch : Nat := 0
  cls : Nat := 0
  colour : Nat := 0
  qsel : Nat := 0
  /-- Truncated; cut-through; received with an error. -/
  trunc : Bool := false
  ct : Bool := false
  rxErr : Bool := false
  /-- Passes through an engine so far, and CLIP of its last one (R269). -/
  passes : Nat := 0
  clip : Bool := false
  /-- Raw receive stamp in time units (R220), and t_rx − raw of a PTP event message (R221). -/
  stamp : Nat := 0
  corr : Int := 0
  /-- Received length under R51. -/
  recvLen : Nat := 0
  /-- The carry check (R152). -/
  carry : Nat := 0
  /-- VID, and what its forwarding result says of its tag and next hop. -/
  vid : Nat := 0
  untag : Option Nat := none
  nh : Option Nat := none
  /-- DEST_KIND and destination of the forwarding result, for microcode (R83). -/
  result : Option (Nat × Nat) := none
  /-- The stream it matched, the sequence number of R122, and R-TAG push and pop. -/
  stream : Option Nat := none
  frerSeq : Option Nat := none
  rtagPush : Bool := false
  rtagPop : Bool := false
  /-- Outer tags, the octet offset after them (and after an R-TAG), and the outer IP version (0 for none) with its offset. -/
  tags : Nat := 0
  rtag : Bool := false
  ip : Nat := 0
  ipOff : Nat := 0
  /-- PTP found in it, the stamp action and the stamp job it asks for (R224, R228). -/
  ptp : Option PtpInfo := none
  tsAct : Nat := 0
  tsJob : Option Nat := none
  /-- The exception reason and the byte where parsing stopped (R95). -/
  exc : Option (Nat × Nat) := none
  /-- An engine service queue's number (R83). -/
  service : Option Nat := none
  /-- What the ingress sampler drew at a cut-through decision (R150), and whether the frame's end has still to come (R238). -/
  sampled : Option Bool := none
  early : Bool := false
  /-- It ended bad, and is no candidate of the ingress sampler (R237). -/
  unsampled : Bool := false
  /-- An export frame, of which no Clipping is made (R246). -/
  exported : Bool := false
  /-- Cells charged to the guarantee, the shared pool and headroom, and whether one of them is poisoned. -/
  guar : Nat := 0
  shared : Nat := 0
  hdrm : Nat := 0
  poison : Bool := false
  /-- Reference count and copy records held (R143). -/
  refs : Nat := 0
  records : Nat := 0
  deriving DecidableEq, Repr

/-- A copy: its frame, the VOQ's source and class, its launch time, and whether LQ_FULL has counted it. -/
structure Copy where
  /-- The frame's number, its source and class. -/
  frame : Nat
  source : Nat
  cls : Nat
  /-- Its launch time (R193), and whether LQ_FULL has counted it. -/
  launch : Option Nat := none
  waited : Bool := false
  deriving DecidableEq, Repr

/-- A copy in transmission at a destination: the octets it sends with their FCS, when it departs, and what its departure
counts. -/
structure Tx where
  /-- The copy, its octets with their FCS, and the TIME cycle of its departure. -/
  copy : Copy
  octets : List Byte
  ends : Nat
  /-- t_tx in time units (R226). -/
  start : Nat
  /-- It leaves tagged, and the record that its departure makes. -/
  tagged : Bool
  clip : Option (Nat × Nat) := none
  /-- The carry check's outcome for a record: 1 matched, 2 mismatched. -/
  carry : Nat := 1
  /-- The frame as it was read into the staging buffer, which has released its reference (R144). -/
  read : Option Frame := none
  /-- It left a launch queue; it is sent cut-through. -/
  launched : Bool := false
  ct : Bool := false
  deriving DecidableEq, Repr

/-- A frame arriving after its ingress decision (R150): discarded there, sent cut-through, or to be admitted at its end; with
its octets as received. -/
structure Arriving where
  /-- The frame, whether it goes to a group, its targets with the next hop of each, and its octets. -/
  frame : Frame
  group : Bool
  targets : List (Nat × Option Nat)
  received : List Byte
  /-- A symbol error was seen; it was discarded; it is sent cut-through. -/
  symErr : Bool
  gone : Bool
  ct : Bool
  /-- The cut-through frame's number in the buffer. -/
  id : Nat := 0
  /-- MAX_FRAME as its first octet crossed the medium boundary (R51), and the TIME cycle at which it did. -/
  maxFrame : Nat := 0
  since : Nat := 0
  /-- The discard code of the cell that found no source of charge, after which no more is written (R145, R148). -/
  fail : Nat := 0
  deriving DecidableEq, Repr

/-- A frame of an internal source that waits to enter an ingress pipeline (R18, R270): the destination its descriptor names, and
whether it brings its class and colour. -/
structure Inject where
  /-- The frame. -/
  frame : Frame
  /-- The destination its descriptor names, and whether it brings class and colour. -/
  named : Option Nat := none
  classed : Bool := false
  /-- The engine thread that sent it (R260). -/
  thread : Nat := 0
  deriving DecidableEq, Repr

/-- The shared buffer. -/
structure BufSt where
  /-- Frames held, by number, and the number of the next. -/
  frames : List (Nat × Frame) := []
  nextId : Nat := 0
  /-- VOQs by (134 s + d) × 8 + c, head first (R141). -/
  voqs : List (Nat × List Copy) := []
  /-- Frames between a cut-through decision and their end, by port. -/
  arriving : List (Nat × Arriving) := []
  /-- Copies in transmission, by destination. -/
  tx : List (Nat × Tx) := []
  /-- Shared cells and headroom cells of (p, n) at 8 p + n; shared cells queued to (d, c) at 8 d + c (R147, R148). -/
  inShared : List (Nat × Nat) := []
  inHdrm : List (Nat × Nat) := []
  qShared : List (Nat × Nat) := []
  /-- The (p, n), as 8 p + n, for which the buffer signals XOFF (R148). -/
  xoff : List Nat := []
  /-- Copy records of the whole store in use (R143). -/
  records : Nat := 0
  /-- Edit templates: 13 words (R158). -/
  templates : List (Nat × List Word) := []
  /-- Banks retired (R139). -/
  banksLost : List Nat := []
  /-- Frames that wait to enter an ingress pipeline, by internal source, oldest first (R18). -/
  inject : List (Nat × Inject) := []
  deriving DecidableEq, Repr

/-! ### Policing, shaping, gates and launch time -/

/-- A policer's buckets in 1/256 octet, and the TIME cycle of their last refill (R170). The fraction of a refill below 1/256
octet is kept in units of 1/10⁶. -/
structure Buckets where
  /-- The bucket C and the bucket P or E, with their fractions, and the last refill. -/
  c : Nat
  pe : Nat
  fracC : Nat := 0
  fracP : Nat := 0
  at_ : Nat := 0
  deriving DecidableEq, Repr

/-- A shaper's tokens or credit, signed, in units of 10⁻⁹ octet, and the TIME cycle of its last refill. -/
structure Tokens where
  /-- Tokens or credit, and the last refill. -/
  v : Int
  at_ : Nat := 0
  deriving DecidableEq, Repr

/-- The gates of one front port. -/
structure GateSt where
  /-- Time-counter instant at which the current cycle started, when one has (R185). -/
  cycle : Option Nat := none
  /-- Ends of the current cycle. -/
  cycleEnd : Nat := 0
  /-- Index of the next entry to begin. -/
  next : Nat := 0
  /-- Open gates: bit c for class c. -/
  gates : Nat := 0xFF
  deriving DecidableEq, Repr

/-- Policers, shapers and schedulers. -/
structure SchSt where
  /-- Committed policer entries (128 bits) and their buckets. -/
  policers : List (Nat × Nat) := []
  buckets : List (Nat × Buckets) := []
  /-- Committed stream shapers and their tokens. -/
  shapers : List (Nat × Word) := []
  stok : List (Nat × Tokens) := []
  /-- Tokens of class shapers, 8 p + c, and of port shapers. -/
  ctok : List (Nat × Tokens) := []
  ptok : List (Nat × Tokens) := []
  /-- The frame of class 8 p + c that a credit-based shaper is charged for: the TIME cycle at which its charge ends and the
  slope it runs at, kb/s (R179, R181). -/
  csend : List (Nat × (Nat × Int)) := []
  /-- Deficit of 8 p + c, class visited last in level l of port p at 8 p + l, and source served last in 8 d + c (R182, R183). -/
  deficit : List (Nat × Nat) := []
  visited : List (Nat × Nat) := []
  served : List (Nat × Nat) := []
  /-- Gate entries: (2 p + b) × 1,024 + i. -/
  gateEntries : List (Nat × Word) := []
  /-- The gates of port p (R184 to R187). -/
  gates : List (Nat × GateSt) := []
  /-- Launch queues by 8 p + c, in order of T (R193). -/
  launch : List (Nat × List Copy) := []
  /-- Ports on which the scheduling hold is in force (R190), with nanoseconds below a microsecond of TIME_HOLD_US. -/
  holdRem : List (Nat × Nat) := []
  /-- Copies that GUARD_HOLD has counted already, by port. -/
  guarded : List (Nat × Nat) := []
  deriving DecidableEq, Repr

/-! ### Clippings -/

/-- A record in a writer's buffer (R242): its Hedge, and its 256 octets as a number; DROPPED is filled in as it is written.
A fence marker is written whatever the ring's fill allows later records. -/
structure ClipRec where
  /-- The Hedge whose ring takes it. -/
  hedge : Nat
  /-- The writer: the channel of its expected ring index (R240). -/
  ch : Nat
  /-- Its 256 octets, and whether it is a fence marker. -/
  word : Nat
  fence : Bool := false
  deriving DecidableEq, Repr

/-- The Clippings writers. -/
structure ClpSt where
  /-- Records in the two writers' buffers, oldest first. -/
  recs : List ClipRec := []
  /-- Tokens of Hedge h in 10⁻⁹ record, and the TIME cycle of the last refill. -/
  tokens : List (Nat × (Nat × Nat)) := []
  /-- Records of the ring dropped since the last one written (R242). -/
  dropped : List (Nat × Nat) := []
  /-- Fence markers that wait for room: ring and FENCE record (R244). -/
  markers : List (Nat × Nat) := []
  /-- Ingress records that wait for the end of a frame discarded before it (R238): ingress port; Hedge, frame and destination. -/
  later : List (Nat × (Nat × (Frame × Nat))) := []
  /-- The tick, told by its commit, in which cluster c last flushed, and the records it then moved (R33). -/
  flushed : List (Nat × (Nat × Nat)) := []
  /-- Channels lost: rings are halved when one is (R243). -/
  lost : List Nat := []
  deriving DecidableEq, Repr



/-! ### Pins and triggers (Connectors and Signals) -/

/-- A record of a TRIG_IN pin's FIFO (R505, R506): its INDEX, its stamp in time units, its edge, and whether time was usable. -/
structure TrigRec where
  /-- INDEX, stamp, whether the edge rose, and whether time was usable. -/
  index : Nat
  stamp : Nat
  rising : Bool
  usable : Bool
  deriving DecidableEq, Repr

/-- Pins, by pin number. -/
structure PinSt where
  /-- Records held, oldest first, and the INDEX of the next record. -/
  trig : List (Nat × List TrigRec) := []
  index : List (Nat × Nat) := []
  /-- TIME cycle at which the last record's edge was accepted. -/
  lastEdge : List (Nat × Nat) := []
  /-- Levels of TRIG_IN 3 to 0. -/
  trigIn : Nat := 0
  /-- End of the pulse a TRIG_OUT pin gives (FUNC 3 and 5). -/
  pulse : List (Nat × Nat) := []
  /-- Levels of PERST_N and NVM_WP_N, BOOT_SEL and SLOT_ID; open pins read their pull (R498). -/
  perstN : Bool := true
  nvmWpN : Bool := true
  bootSel : Nat := 3
  slotId : Nat := 15
  /-- The REFCLK outputs run (R495). -/
  refclk : Bool := true
  /-- The instruction the TAP holds; none is BYPASS (R504). -/
  tap : Option (BitVec 8) := none
  deriving DecidableEq, Repr


/-! ### Integrity, repair and ageing -/

/-- An entry of the field graft record (R452). -/
structure RecEntry where
  /-- KIND, class, spare, LOCATION and the tick number's low half. -/
  kind : Nat
  cls : Nat
  spare : Nat
  loc : Nat
  tick : Nat
  deriving DecidableEq, Repr

/-- A graft in progress (R447): the unit and the spare it moves to, counted within its class and group. -/
structure Graft where
  /-- Class, LOCATION and spare. -/
  cls : Nat
  loc : Nat
  spare : Nat
  deriving DecidableEq, Repr

/-- The scrubber, the error buckets, spares and grafts, margins and life. -/
structure IntSt where
  /-- Buckets of classes 0 to 5, by 2³² × class + LOCATION, and the table of 1,024 SDRAM row buckets: LOCATION and value (R442). -/
  buckets : List (Nat × Nat) := []
  rows : List (Nat × (Nat × Nat)) := []
  /-- Commit of the last decay of a class (R441). -/
  decayAt : List (Nat × Nat) := []
  /-- Slices of the current pass done, and the TIME cycle it began at, by memory (R434). -/
  slices : List (Nat × Nat) := []
  passStart : List (Nat × Nat) := []
  /-- The commit after which the scrubber last ran (R33). -/
  scrubAt : Option Nat := none
  /-- Entries invalidated and not yet restored: the table code of R461 and the index (R437, R438). -/
  invalid : List (Nat × Nat) := []
  /-- The Hedge of each of them, by 2³² × code + index (R438). -/
  invalidHedge : List (Nat × Nat) := []
  /-- SDRAM granules that fail every read until they are written (R437). -/
  badGranules : List Nat := []
  /-- Units waiting for a graft, oldest first, and the graft in progress (R445). -/
  queue : List (Nat × Nat) := []
  graft : Option Graft := none
  /-- Units whose SPARE_EXHAUSTED has been raised, as bucket keys (R446). -/
  exhausted : List Nat := []
  /-- Spares in use with the LOCATION they serve, and spares marked BAD, by 2²⁰ × class + 16 × group + spare (R444). -/
  used : List (Nat × Nat) := []
  bad : List Nat := []
  /-- The field graft record of NVM-A and of NVM-B: entries, oldest first, and SEQ (R452, R453). -/
  recA : List RecEntry := []
  recB : List RecEntry := []
  seqA : Nat := 0
  seqB : Nat := 0
  /-- NVM devices that do not answer (R431): 0 NVM-A, 1 NVM-B. -/
  nvmLost : List Nat := []
  /-- Least margins of past months by forecast index, newest first, at most 24, and of the month so far (R457). -/
  months : List (Nat × List Int) := []
  /-- The month of monthMin, and the least margins so far in it. -/
  month : Nat := 0
  monthMin : List (Nat × Int) := []
  /-- TIME cycle of a domain's last voltage step, and since when its slack has exceeded four times the floor (R456). -/
  avsAt : List (Nat × Nat) := []
  ample : List (Nat × Nat) := []
  /-- Since when a margin whose FLOOR bit is set has stayed above its floor (R458). -/
  above : List (Nat × Nat) := []
  /-- TIME cycle of the last MARGIN_LOW by index (R458), of the last forecast, of the last LIFE entries, and of the last spare test. -/
  lowAt : List (Nat × Nat) := []
  forecastAt : Nat := 0
  lifeRecAt : Nat := 0
  spareTestAt : Nat := 0
  /-- TIME cycle of the last health walk (R440). -/
  nvmWalkAt : Nat := 0
  /-- Die and module budgets consumed, in 2⁻³² equivalent seconds, and the percentages LIFE has announced (R459). -/
  lifeDie : Nat := 0
  lifeMod : Nat := 0
  lifeSaid : List (Nat × Nat) := []
  /-- TIME cycle of the last charge of the budgets. -/
  lifeAt : Nat := 0
  /-- The logical engine the next spare test rotates out, by cluster (R485). -/
  rotate : List (Nat × Nat) := []
  deriving DecidableEq, Repr


/-! ### Power and temperature (Dual Power Feeds; Electrical, Thermal and Mechanical Data) -/

/-- Why the die does not run: it runs; both feeds were lost and its rails are off; a temperature tripped; a third core-fatal reset
within 24 h. -/
inductive Down where
  | no
  | rails
  | trip
  | locked
  deriving DecidableEq, Repr

/-- The power controller, the front end and the sensors. Instants are nanoseconds since the model's beginning. -/
structure PwrSt where
  /-- Why the die does not run. -/
  down : Down := .no
  /-- Nanoseconds before the TIME counter's last start. -/
  base : Nat := 0
  /-- PMBus PAGE, and the I2C address taken at the controller's last start (R503). -/
  page : Nat := 2
  i2c : Nat := 0x5B
  /-- Latched STATUS_INPUT of each feed, STATUS_TEMPERATURE, STATUS_MFR_SPECIFIC of each page and STATUS_CML (R479). -/
  inputA : Nat := 0
  inputB : Nat := 0
  temp : Nat := 0
  mfrA : Nat := 0
  mfrB : Nat := 0
  mfrM : Nat := 0
  cml : Nat := 0
  /-- STATUS_CML, FEED_A_OK, FEED_B_OK and ALARM_N (high) as held while a transfer settles (R471), or while the firmware restarts. -/
  cmlHeld : Nat := 0
  okHeldA : Bool := false
  okHeldB : Bool := false
  alarmHeld : Bool := true
  /-- Whether the controller drove ALARM_N low as its firmware's restart began (R11). -/
  pcAlarmHeld : Bool := false
  /-- End of the settling window, and of a restart of the controller's firmware. -/
  holdEnd : Option Nat := none
  restartEnd : Option Nat := none
  /-- Instants at which a feed began to qualify and became GOOD, and at which the active feed became active. -/
  qualA : Nat := 0
  qualB : Nat := 0
  goodA : Nat := 0
  goodB : Nat := 0
  activeAt : Nat := 0
  /-- The feed policy in the controller's own memory (R465). -/
  policy : Word := 0
  /-- The last self-test cycle, the latest report of each feed, and whether its alarm stands (R474, R475). -/
  testAt : Nat := 0
  reportA : Nat := 0
  reportB : Nat := 0
  testAlarm : Bool := false
  /-- The last hold-up measurement, and whether the hold-up time is below 3.0 ms (R476). -/
  holdupAt : Option Nat := none
  holdLow : Bool := false
  /-- Thresholds a sensor is beyond, with their hysteresis (R522): warm and hot, die and cold plate. -/
  warmTj : Bool := false
  warmTcp : Bool := false
  hotTj : Bool := false
  hotTcp : Bool := false
  /-- Instants of core-fatal resets since power-on, newest first (R483). -/
  fatals : List Nat := []
  deriving DecidableEq, Repr


/-! ### NVM, updates, start-up and DMP -/

/-- A good copy of the boot record (R418): SEQ, bit n for component n active in slot B, the STATE of each component, and
REVOKE_PENDING. -/
structure BootRec where
  /-- SEQ, the active slots, the STATE of each component, and REVOKE_PENDING. -/
  seq : Nat := 0
  active : Nat := 0
  states : List Nat := [0, 0, 0, 0, 0]
  revoke : Nat := 0
  deriving DecidableEq, Repr

/-- NVM-A and NVM-B (R417, R418, R428 to R430), and the fuses. Components: 0 PC, 1 SF, 2 EM, 3 SV, 4 TC. -/
structure NvmSt where
  /-- The boot record's copies that are good. -/
  recA : Option BootRec := none
  recB : Option BootRec := none
  /-- What slot A or B of component n holds, by 2 n + (1 for slot B); a slot not listed is blank. -/
  slots : List (Nat × List Byte) := []
  /-- Half-erased ranges, by 16 × device + PURPOSE, and whether the journal (1), the header (2) or both (3) show it. -/
  half : List (Nat × Nat) := []
  /-- Slots that failed a health walk (R440). -/
  badSlots : List Nat := []
  /-- Records in the current journal sector of each device. -/
  journalA : Nat := 0
  journalB : Nat := 0
  /-- The highest SEQ in each device's journal (R428). -/
  seqA : Nat := 0
  seqB : Nat := 0
  /-- What the gasp sectors hold (R430). -/
  gaspA : Option (List Byte) := none
  gaspB : Option (List Byte) := none
  /-- Erases of each sector, by 2²⁰ × device + sector. -/
  erases : List (Nat × Nat) := []
  /-- Floors of the DMP counters (R406). -/
  floorRx : Nat := 0
  floorTx : Nat := 0
  /-- Power-ons since manufacture. -/
  powerOns : Nat := 0
  /-- Revocation fuses that are blown (R416). -/
  revoked : Nat := 0
  deriving DecidableEq, Repr

/-- A TC step's work: the parts still to be committed (0 GLOBAL, 1 + h Hedge h), and the image they come from. -/
structure TcWork where
  /-- The parts, and the image. -/
  parts : List Nat
  image : List Byte
  deriving DecidableEq, Repr

/-- The update machine (R420 to R427). Instants are nanoseconds since the model's beginning. -/
structure UpdSt where
  /-- What runs: the header and body of each component. -/
  running : List (Nat × List Byte) := []
  /-- DMP transfer: the bundle's length, and the octets received as rising ranges [from, to); DATA messages taken (R421). -/
  dmpLen : Nat := 0
  got : List (Nat × Nat) := []
  dataCount : Nat := 0
  /-- A START follows the CHECK in progress. -/
  thenStart : Bool := false
  /-- Steps to come, and the bundle's settings. -/
  order : List Nat := []
  atRestart : Bool := false
  confirmS : Nat := 600
  revokeBelow : Nat := 0
  /-- The step: its component as it is written, the slot the component ran from and what it ran, since when it is exchanged, and the
  window's end. -/
  stepRun : List Byte := []
  prevSlot : Nat := 0
  prevRun : List Byte := []
  exchangedAt : Nat := 0
  deadline : Option Nat := none
  /-- When the unit in exchange began. -/
  unitAt : Nat := 0
  /-- A fallback's reason. -/
  reason : Nat := 0
  /-- CANCEL was accepted (R427). -/
  cancel : Bool := false
  /-- Front ports UP when the step began (R424). -/
  portsUp : List Nat := []
  /-- A job fault in standard microcode has happened since the exchange (R424). -/
  jobFault : Bool := false
  /-- Tick-job entries that have run since the exchange (R424). -/
  ticksRun : List Nat := []
  /-- A section was refused as it was applied; a health walk has ended; the supervisor has restarted (R424). -/
  applyBad : Bool := false
  walked : Bool := false
  restarted : Bool := false
  /-- A TC step's work. -/
  tc : Option TcWork := none
  deriving DecidableEq, Repr

/-- Start-up, supervisor and clock domains. -/
structure BootSt where
  /-- Since when the supervisor is absent (R22), and whether the watchdog has acted in this start (R388). -/
  absentAt : Option Nat := none
  watchdogUsed : Bool := false
  /-- NVM was read last, while SV is absent (R387). -/
  nvmReadAt : Nat := 0
  /-- Octets of the Topiary copy in SDRAM, 0 for none (R392). -/
  topLen : Nat := 0
  /-- Clock domains out of service, by their place in the table of R14 (R16). -/
  domOut : List Nat := []
  deriving DecidableEq, Repr

/-- DMP (R404 to R408). -/
structure DmpSt where
  /-- The keys, first key first: KEY_ID and the 32 octets (R407). -/
  keys : List (Nat × List Byte) := []
  /-- Counters above H − 64 accepted (R406). -/
  seen : List Nat := []
  /-- A message has been accepted since DMP started; when HELLO was sent last; when ATTEST_REQ was accepted last. -/
  heard : Bool := false
  helloAt : Option Nat := none
  attestAt : Option Nat := none
  /-- Of each ring DMP carries, by 16 × kind + Hedge: the index sent up to, and when CONS last advanced or records were sent. -/
  sent : List (Nat × (Nat × Nat)) := []
  deriving DecidableEq, Repr


/-- The key guards and the JTAG path (R361, R366): the groups each path is armed for, by path number and group, and the JTAG holding
word. -/
structure ArmSt where
  /-- Armed pairs of path number and group. -/
  armed : List (Nat × Nat) := []
  /-- The low half of a JTAG write that waits for its high half. -/
  jtag : Option (BitVec 32) := none
  deriving DecidableEq, Repr

/-- Everything of the module but its command queue and the LOCK bits. -/
structure Mod where
  /-- Registers, by offset (a per-path window's set of path n at n × 32 MiB): value of each register that does not hold
  its reset value (R7, R8). -/
  regs : List (Nat × Word) := []
  /-- The statistics counter array, by (offset − 0x0100_0000) / 8; a counter not listed reads 0 (R61, R62). -/
  ctrs : List (Nat × Nat) := []
  /-- The model's own counter of free values drawn (Config.freeWord, Config.freeNat). -/
  free : Nat := 0
  /-- The parts of the module's hidden state, one or more for each chapter. -/
  tick : TickSt := {}
  win : WinSt := {}
  time : TimeSt := {}
  evt : EvtSt := {}
  hdg : HdgSt := {}
  drm : DrmSt := {}
  eng : EngSt := {}
  prt : PrtSt := {}
  cls : ClsSt := {}
  fwd : FwdSt := {}
  buf : BufSt := {}
  sch : SchSt := {}
  clp : ClpSt := {}
  pin : PinSt := {}
  int : IntSt := {}
  pwr : PwrSt := {}
  nvm : NvmSt := {}
  upd : UpdSt := {}
  boot : BootSt := {}
  dmp : DmpSt := {}
  arm : ArmSt := {}
  deriving DecidableEq, Repr

/-- The machine: the commands waiting, first in first out, the LOCK bits of GLB_LOCK (R363), and the module. -/
structure State where
  /-- Commands that wait, first in first out. -/
  pending : List Instr := []
  /-- The LOCK bits (R363). -/
  locks : BitVec 5 := 0
  /-- The module. -/
  m : Mod := {}
  deriving DecidableEq, Repr

/-- Right after a power-on or device reset, at the end of step 3 of start-up (R7, R364): every register at the value the register map
gives it, every table empty, the fuse shadow loaded and locked. -/
def State.reset : State := { locks := 2 }

end Sys2Proof.Machine
end

