-- ==== Sys2Proof/Machine/Ops.lean ====
section
/-! DEFINITION. The named operations over the state: registers and fields, sequence-clear status, statistics counters,
event records and rings, interrupt causes, engine job queues, outputs and free values. -/

namespace Sys2Proof.Machine

/-! ### Parts of the module replaced -/

/-- The module with its part tick replaced. -/
def Mod.withTick (m : Mod) (x : TickSt) : Mod := { m with tick := x }

/-- The module with its part win replaced. -/
def Mod.withWin (m : Mod) (x : WinSt) : Mod := { m with win := x }

/-- The module with its part time replaced. -/
def Mod.withTime (m : Mod) (x : TimeSt) : Mod := { m with time := x }

/-- The module with its part evt replaced. -/
def Mod.withEvt (m : Mod) (x : EvtSt) : Mod := { m with evt := x }

/-- The module with its part hdg replaced. -/
def Mod.withHdg (m : Mod) (x : HdgSt) : Mod := { m with hdg := x }

/-- The module with its part drm replaced. -/
def Mod.withDrm (m : Mod) (x : DrmSt) : Mod := { m with drm := x }

/-- The module with its part eng replaced. -/
def Mod.withEng (m : Mod) (x : EngSt) : Mod := { m with eng := x }

/-- The module with its part prt replaced. -/
def Mod.withPrt (m : Mod) (x : PrtSt) : Mod := { m with prt := x }

/-- The module with its part cls replaced. -/
def Mod.withCls (m : Mod) (x : ClsSt) : Mod := { m with cls := x }

/-- The module with its part fwd replaced. -/
def Mod.withFwd (m : Mod) (x : FwdSt) : Mod := { m with fwd := x }

/-- The module with its part buf replaced. -/
def Mod.withBuf (m : Mod) (x : BufSt) : Mod := { m with buf := x }

/-- The module with its part sch replaced. -/
def Mod.withSch (m : Mod) (x : SchSt) : Mod := { m with sch := x }

/-- The module with its part clp replaced. -/
def Mod.withClp (m : Mod) (x : ClpSt) : Mod := { m with clp := x }

/-- The module with its part pin replaced. -/
def Mod.withPin (m : Mod) (x : PinSt) : Mod := { m with pin := x }

/-- The module with its part int replaced. -/
def Mod.withInt (m : Mod) (x : IntSt) : Mod := { m with int := x }

/-- The module with its part pwr replaced. -/
def Mod.withPwr (m : Mod) (x : PwrSt) : Mod := { m with pwr := x }

/-- The module with its part nvm replaced. -/
def Mod.withNvm (m : Mod) (x : NvmSt) : Mod := { m with nvm := x }

/-- The module with its part upd replaced. -/
def Mod.withUpd (m : Mod) (x : UpdSt) : Mod := { m with upd := x }

/-- The module with its part boot replaced. -/
def Mod.withBoot (m : Mod) (x : BootSt) : Mod := { m with boot := x }

/-- The module with its part dmp replaced. -/
def Mod.withDmp (m : Mod) (x : DmpSt) : Mod := { m with dmp := x }

/-- The module with its part arm replaced. -/
def Mod.withArm (m : Mod) (x : ArmSt) : Mod := { m with arm := x }

/-! ### Paths -/

/-- The path numbers of R380. -/
def pathNum : Path → Nat
  | .pf => 0
  | .vf h => 1 + h
  | .dmp => 17
  | .sup => 18
  | .cluster c => 19 + c
  | .jtag => 23

/-- Paths with module-wide rights (R358): every path but a virtual function. -/
def moduleWide : Path → Bool
  | .vf _ => false
  | _ => true

/-- The microcode of a cluster. -/
def isCluster : Path → Bool
  | .cluster _ => true
  | _ => false

/-- The Hedge of a virtual function, 0 for any other path (R252, R316). -/
def pathHedge : Path → Nat
  | .vf h => h
  | _ => 0

/-- The ring of a refused window command (R372): the Hedge of a virtual function, otherwise the root Hedge. -/
def refusalRing (p : Path) : Nat := pathHedge p

/-! ### Registers -/

/-- The offset of a register's linear index: its digits over the array's dimensions times their strides. -/
def dimsOffset : List (Nat × Nat) → Nat → Nat × Nat
  | [], i => (0, i)
  | (n, stride) :: t, i =>
    let r := dimsOffset t i
    (r.1 + r.2 % n * stride, r.2 / n)

/-- The offset of register r at linear index i (R357, and the summary table of the chapter). -/
def Reg.addr (r : Reg) (i : Nat := 0) : Nat := r.spec.base + (dimsOffset r.spec.dims i).1

/-- The linear index of an offset within an array, when the offset names an element of it. -/
def dimsIndex : List (Nat × Nat) → Nat → Nat → Option Nat
  | [], acc, rest => if rest = 0 then some acc else none
  | (n, stride) :: t, acc, rest =>
    if rest / stride < n then dimsIndex t (acc * n + rest / stride) (rest % stride) else none

/-- The register and linear index of an offset of the 32 MiB space, as path number n sees it. -/
def regAt (n off : Nat) : Option (Reg × Nat) :=
  (regsOfPage (off / 0x10000)).findSome? fun r =>
    let s := r.spec
    if off < s.base then none
    else
      let perPath := match s.dims with
        | (24, 0x2000000) :: _ => true
        | _ => false
      (dimsIndex s.dims 0 (off - s.base + if perPath then n * 0x2000000 else 0)).map fun i => (r, i)

/-- Boot values that depend on the index: the priority level of a class (R8) and the bucket classes of R441. -/
def Reg.bootOverride (r : Reg) (i : Nat) : Option Nat :=
  match r with
  | .SCH_CLASS_CFG => some (16000 * 2 ^ 8 + (7 - i % 8))
  | .INT_BUCKET_CFG =>
    let cfg (minor major thresh decay : Nat) := decay * 2 ^ 32 + thresh * 2 ^ 16 + major * 2 ^ 8 + minor
    match i with
    | 0 => some (cfg 1 16 256 12500)
    | 6 => some (cfg 1 32 128 125000)
    | _ => some (cfg 1 64 256 125000)
  | .ENG_CLUSTER_STATUS => some (31 * 2 ^ 22)
  | .GLB_FUSE_SHADOW =>
    some (match i with
      | 0 => beNat (Config.serial.take 8)
      | 1 => beNat ((Config.serial.drop 8).take 8)
      | 2 => ((List.range 4).map fun k => (Config.keyGeneration k).toNat * 2 ^ (8 * k)).sum
      | 3 => (Config.sha384 Config.identityKey).toNat / 2 ^ 320
      | 4 => (Config.sha384 Config.identityKey).toNat / 2 ^ 256 % 2 ^ 64
      | 5 => (Config.fuseWord 5).toNat
      | _ => 0)
  | .GLB_ID => some (0xD0C56412 * 2 ^ 32 + Config.dieStep.toNat * 2 ^ 8 + Config.buildLevel.toNat)
  | _ => none

/-- The value of a register after a power-on or device reset (R7, R8). -/
def Reg.boot (r : Reg) (i : Nat := 0) : Word :=
  BitVec.ofNat 64 ((r.bootOverride i).getD (r.spec.fields.foldl (fun a f => a + f.boot * 2 ^ f.lo) 0))

/-- The register's value. -/
def Mod.rd (m : Mod) (r : Reg) (i : Nat := 0) : Word := lookupD m.regs (r.addr i) (r.boot i)

/-- The register's value replaced. -/
def Mod.wr (m : Mod) (r : Reg) (i : Nat) (w : Word) : Mod :=
  { m with regs := storeUnless (r.boot i) m.regs (r.addr i) w }

/-- A field of a word. -/
def Fld.of (f : Fld) (w : Word) : Nat := w.toNat / 2 ^ f.lo % 2 ^ f.width

/-- A word with a field replaced, modulo the field's width. -/
def Fld.put (f : Fld) (w : Word) (v : Nat) : Word :=
  BitVec.ofNat 64 (w.toNat - f.of w * 2 ^ f.lo + v % 2 ^ f.width * 2 ^ f.lo)

/-- A field of a register. -/
def Mod.get (m : Mod) (f : Fld) (i : Nat := 0) : Nat := f.of (m.rd f.reg i)

/-- A field of a register replaced. -/
def Mod.set (m : Mod) (f : Fld) (i : Nat) (v : Nat) : Mod := m.wr f.reg i (f.put (m.rd f.reg i) v)

/-- A one-bit field of a register. -/
def Mod.flag (m : Mod) (f : Fld) (i : Nat := 0) : Bool := m.get f i == 1

/-- A saturating count in a field raised by n. -/
def Mod.satAdd (m : Mod) (f : Fld) (i : Nat) (n : Nat := 1) : Mod :=
  m.set f i (Nat.min (m.get f i + n) (2 ^ f.width - 1))

/-- The SEQ of a sequence-clear register, bits [63:48] (R369). -/
def seqField (r : Reg) : Fld := ⟨r, 48, 16⟩

/-- The module sets bit k of an SQC field: SEQ rises by one, also when the bit is already set (R369). -/
def Mod.sqcBit (m : Mod) (f : Fld) (k i : Nat) : Mod :=
  let one : Fld := ⟨f.reg, f.lo + k, 1⟩
  let w := one.put (m.rd f.reg i) 1
  m.wr f.reg i ((seqField f.reg).put w ((seqField f.reg).of w + 1))

/-- The module sets a one-bit SQC field. -/
def Mod.sqc (m : Mod) (f : Fld) (i : Nat := 0) : Mod := m.sqcBit f 0 i

/-! ### Outputs, free values, time -/

/-- Something put on an outward interface. -/
def Mod.emit (m : Mod) (o : Output) : Mod := { m with evt := { m.evt with out := o :: m.evt.out } }

/-- A fresh free word, and the counter stepped. -/
def Mod.fresh (m : Mod) : Word × Mod := (Config.freeWord m.free, { m with free := m.free + 1 })

/-- A fresh free number, and the counter stepped. -/
def Mod.freshNat (m : Mod) : Nat × Mod := (Config.freeNat m.free, { m with free := m.free + 1 })

/-- Time units in a nanosecond: 2⁻¹⁶ ns and 10⁻⁸ of it are whole (R200, R205). -/
def unitsPerNs : Nat := 6553600000000

/-- Time units in a second. -/
def unitsPerS : Nat := 1000000000 * unitsPerNs

/-- The fields of the time counter (R200): seconds, nanoseconds, fraction in 2⁻¹⁶ ns. -/
def timeSec (net : Nat) : Nat := net / unitsPerS % 2 ^ 48
/-- See timeSec. -/
def timeNs (net : Nat) : Nat := net % unitsPerS / unitsPerNs
/-- See timeSec. -/
def timeFrac (net : Nat) : Nat := net % unitsPerNs / 100000000

/-- TIME cycles since reset, nominal nanoseconds. -/
def Mod.now (m : Mod) : Nat := m.time.cycles

/-- A raw stamp's 0.25 ns resolution (R202): FRAC[13:0] zero. -/
def stampNet (net : Nat) : Nat := net / (unitsPerNs / 4) * (unitsPerNs / 4)

/-- Tick periods by PERIOD code, in nanoseconds (R24). -/
def periodNs (code : Nat) : Nat := [2000, 4000, 5000, 8000, 10000, 20000, 25000, 40000, 50000, 100000, 125000].getD code 8000

/-- The tick period in force, in nanoseconds. -/
def Mod.period (m : Mod) : Nat := periodNs (m.get GLB_TICK_CFG_PERIOD)

/-- The tick number. -/
def Mod.tickNum (m : Mod) : Nat := (m.rd .GLB_TICK_NUM).toNat

/-- Commits since power-on or device reset. -/
def Mod.commits (m : Mod) : Nat := (m.rd .GLB_COMMIT_SEQ).toNat

/-! ### Engine clusters and job queues -/

/-- Cluster c. -/
def EngSt.cl (e : EngSt) (c : Nat) : Cluster :=
  match c with
  | 0 => e.cl0
  | 1 => e.cl1
  | 2 => e.cl2
  | _ => e.cl3

/-- Cluster c replaced. -/
def EngSt.setCl (e : EngSt) (c : Nat) (k : Cluster) : EngSt :=
  match c with
  | 0 => { e with cl0 := k }
  | 1 => { e with cl1 := k }
  | 2 => { e with cl2 := k }
  | _ => { e with cl3 := k }

/-- Cluster c of the module. -/
def Mod.cl (m : Mod) (c : Nat) : Cluster := m.eng.cl c

/-- Cluster c of the module replaced. -/
def Mod.setCl (m : Mod) (c : Nat) (k : Cluster) : Mod := { m with eng := m.eng.setCl c k }

/-- Job queue k of a cluster: 0 TT, 1 EV, 2 IJ, 3 DB (R273). -/
def Cluster.queue (k : Cluster) : Nat → List Job
  | 0 => k.tt
  | 1 => k.ev
  | 2 => k.ij
  | _ => k.db

/-- Job queue k of a cluster replaced. -/
def Cluster.setQueue (c : Cluster) (k : Nat) (q : List Job) : Cluster :=
  match k with
  | 0 => { c with tt := q }
  | 1 => { c with ev := q }
  | 2 => { c with ij := q }
  | _ => { c with db := q }

/-- Depth of job queue k (R273). -/
def queueDepth : Nat → Nat
  | 0 => 512
  | 1 => 1024
  | 2 => 1024
  | _ => 256

/-- A queue takes no job: it is full, or a fence marker waits for a place in it (R284). -/
def Cluster.queueFull (c : Cluster) (k : Nat) : Bool :=
  decide (queueDepth k ≤ (c.queue k).length) || c.markers.any (·.1 == k)

/-- A job appended to a queue; the caller has seen that there is room. -/
def Cluster.push (c : Cluster) (k : Nat) (j : Job) : Cluster := c.setQueue k (c.queue k ++ [j])

/-- A fence job for queue k (R284). -/
def fenceJob (k token : Nat) : Job :=
  { desc := BitVec.ofNat 128 (0x01 + token * 2 ^ 8 + k * 2 ^ 40), hedge := 0, kind := .fence }

/-- The first place of a queue that came free goes to the oldest marker that waits for it (R284). -/
def Cluster.settleMarkers (c : Cluster) (k : Nat) : Cluster :=
  match c.markers.find? (·.1 == k) with
  | some (_, token) =>
    if (c.queue k).length < queueDepth k then
      { c.push k (fenceJob k token) with markers := c.markers.erase (k, token) }
    else c
  | none => c

/-! ### Counters -/

/-- What a counter's HALF_RANGE event carries (R63, R529): the block and its code, DETAIL [7:0] and [15:8], the Hedge it
concerns and the rings it goes to. -/
structure HalfRange where
  blk : Nat
  code : Nat
  low : Nat
  high : Nat := 0
  hedge : Nat := 0
  rings : List Nat := [0]
  deriving DecidableEq, Repr

/-- One statistics counter: its offset from 0x0100_0000 and its HALF_RANGE event. -/
structure Ctr where
  off : Nat
  half : HalfRange
  deriving DecidableEq, Repr

/-- The value of the counter at an offset from 0x0100_0000. -/
def Mod.ctr (m : Mod) (off : Nat) : Nat := lookupD m.ctrs (off / 8) 0

/-- The counter at an offset replaced, modulo 2⁴⁸. -/
def Mod.setCtr (m : Mod) (off v : Nat) : Mod := { m with ctrs := storeUnless 0 m.ctrs (off / 8) (v % 2 ^ 48) }

/-! ### Event records, rings and interrupts -/

/-- An event: block and code, the Hedge it concerns, DETAIL, and the rings it is written to (R373). -/
structure Ev where
  blk : Nat
  code : Nat
  hedge : Nat := 0
  detail : Nat := 0
  rings : List Nat := [0]
  deriving DecidableEq, Repr

/-- The record of an event, with the SEQ of its ring (R373). -/
def Ev.record (e : Ev) (tick seq : Nat) : BitVec 128 :=
  BitVec.ofNat 128 (tick % 2 ^ 32 * 2 ^ 96 + seq % 2 ^ 16 * 2 ^ 80 + e.blk % 256 * 2 ^ 72 + e.code % 256 * 2 ^ 64 +
    e.hedge % 16 * 2 ^ 60 + e.detail % 2 ^ 60)

/-- A cause of vector v of the physical function (R377): its bit of EVT_IRQ_STATUS, and a message to send. -/
def Mod.pfCause (m : Mod) (v : Nat) : Mod :=
  let m := m.sqcBit EVT_IRQ_STATUS_PEND v 0
  { m with evt := { m.evt with pfPend := insertNat m.evt.pfPend v } }

/-- A cause of interrupt source n of Hedge h (R347). -/
def Mod.hedgeCause (m : Mod) (h n : Nat) : Mod :=
  if n = 0 ∧ m.get HDG_EVT_CFG_PLACE h = 2 then m.pfCause h
  else
    let v := (m.rd .HDG_VEC_MAP h).toNat / 2 ^ (3 * n) % 8
    { m with evt := { m.evt with vecPend := insertNat m.evt.vecPend (8 * h + v) } }

/-- Records ring h holds. -/
def Mod.ringSize (m : Mod) (h : Nat) : Nat := 2 ^ m.get HDG_EVT_CFG_LOG2_SIZE h

/-- Records of ring h not yet consumed. -/
def Mod.ringFill (m : Mod) (h : Nat) : Nat :=
  (m.get EVT_RING_PROD_PROD h + 2 ^ 32 - m.get EVT_RING_CONS_CONS h) % 2 ^ 32

/-- Ring h has no room (R375). -/
def Mod.ringFull (m : Mod) (h : Nat) : Bool := decide (m.ringSize h ≤ m.ringFill h)

/-- The regions whose granules alternate between the channels (R311). -/
def interleaved (addr : Nat) : Bool :=
  decide (addr < 0x200000000) || (decide (0x260000000 ≤ addr) && decide (addr < 0x7A0000000))

/-- Channels that serve an address (R311, R328): one of the two by address bit 8, both for a mirrored region, the remaining one when the
regions are folded. -/
def Mod.channelsOf (m : Mod) (addr : Nat) : List Nat :=
  let up := [0, 1].filter fun c => m.get DRM_CH_STATUS_STATE c == 0 ||
    (m.get DRM_CH_STATUS_STATE c == 4 && !(interleaved addr) && (lookup m.drm.trainFails c).isNone)
  if interleaved addr && !(m.flag DRM_STATUS_FOLDED) then up.filter (· == addr / 256 % 2) else up

/-- The subchannel of an address in channel ch (R312). -/
def subOf (ch addr : Nat) : Nat := 2 * ch + addr / 64 % 2

/-- Requests of channel ch. -/
def Mod.channelReqs (m : Mod) (ch : Nat) (write : Bool) : List DrmReq :=
  m.drm.reqs.filter fun r => r.channel == ch && r.write == write

/-- The virtual time of Hedge h in channel ch (R318). -/
def Mod.vtime (m : Mod) (ch h : Nat) : Nat := lookupD m.drm.vtime (16 * ch + h) 0

/-- The request is not a Hedge's: the supervisor's bulk traffic and the module's own hardware, which stage 5 serves (R317). -/
def Requester.bulk (who : Requester) : Bool := who == .supervisor || who == .hardware

/-- Hedges with a request waiting in channel ch, apart from those served behind stage 4. -/
def Mod.waitingHedges (m : Mod) (ch : Nat) : List Nat :=
  (List.range 16).filter fun h => m.drm.reqs.any fun r => r.channel == ch && r.hedge == h && !r.who.bulk && r.slot

/-- The least virtual time among them (R318). -/
def Mod.vmin (m : Mod) (ch : Nat) : Nat :=
  match (m.waitingHedges ch).map (m.vtime ch) with
  | [] => 0
  | v :: l => l.foldl Nat.min v

/-- A Hedge with no waiting request gains one (R318). -/
def Mod.vjoin (m : Mod) (ch h : Nat) : Mod :=
  if (m.waitingHedges ch).contains h then m
  else m.withDrm { m.drm with vtime := store m.drm.vtime (16 * ch + h) (Nat.max (m.vtime ch h) (m.vmin ch)) }

/-- Write mode of a channel's subchannels brought up to its queue (R319). -/
def Mod.writeModes (m : Mod) (ch : Nat) : Mod :=
  [2 * ch, 2 * ch + 1].foldl (fun m s =>
    let reads := m.drm.reqs.any fun r => r.channel == ch && !r.write && r.slot && subOf ch r.addr == s
    let n := (m.channelReqs ch true).length
    let on := m.drm.wmode.contains s
    let next := if on then !(decide (n ≤ 32) && reads) && !(reads && n == 0) else decide (96 ≤ n) || !reads
    if next = on then m
    else m.withDrm { m.drm with wmode := if next then insertNat m.drm.wmode s else eraseNat m.drm.wmode s }) m

/-- A store entered in the write queue of a channel (R319, R321): merged into the entry of its granule, or a new entry, charged to its Hedge
(R316). -/
def Mod.drmQueue (m : Mod) (who : Requester) (hedge addr : Nat) (whole : Bool) (ch : Nat) : Mod :=
  let g := addr / 64 * 64
  if m.drm.reqs.any fun r => r.write && r.channel == ch && r.addr == g then m
  else
    let r : DrmReq := { id := m.drm.nextId, channel := ch, write := true, addr := g, len := 64, partly := !whole, hedge := hedge,
                        who := who, since := m.time.cycles }
    let m := if who.bulk then m else m.vjoin ch hedge
    (m.withDrm { m.drm with reqs := m.drm.reqs ++ [r], nextId := m.drm.nextId + 1 }).writeModes ch

/-- Octets stored in SDRAM: every later read sees them (R320), and a write-queue entry of each granule stands in each channel that holds
it. A granule that failed every read is mended by a write (R437). -/
def Mod.drmPost (m : Mod) (who : Requester) (hedge addr : Nat) (octets : List Byte) : Mod :=
  let first := addr / 64
  let last := (addr + octets.length - 1) / 64
  let m := m.withDrm { m.drm with mem := memWrite m.drm.mem addr octets }
  let m := m.withInt { m.int with badGranules := m.int.badGranules.filter fun g => g < first ∨ last < g }
  (List.range (last + 1 - first)).foldl (fun m k =>
    let g := 64 * (first + k)
    let whole := decide (addr ≤ g) && decide (g + 64 ≤ addr + octets.length)
    (m.channelsOf g).foldl (fun m ch => m.drmQueue who hedge g whole ch) m) m

/-- The SDRAM region of the event rings (R311). -/
def eventRegion : Nat := 0x250000000

/-- Octets of an event ring placed where the ring lies: SDRAM, or a function's host memory while that function has bus
mastering (R346, R344). -/
def Mod.ringStore (m : Mod) (h off : Nat) (octets : List Byte) : Mod :=
  let base := m.get HDG_EVT_CFG_ADDR h * 4096
  match m.get HDG_EVT_CFG_PLACE h with
  | 0 => m.drmPost .hardware 0 (eventRegion + base + off) octets
  | 1 => if m.hdg.busMaster.contains (h + 1) then m.emit (.hostWrite (h + 1) (base + off) octets) else m
  | _ => if m.hdg.busMaster.contains 0 then m.emit (.hostWrite 0 (base + off) octets) else m

/-- A record written into ring h, which has room (R374). -/
def Mod.ringWrite (m : Mod) (h : Nat) (e : Ev) : Mod :=
  let prod := m.get EVT_RING_PROD_PROD h
  let rec128 := e.record m.tickNum prod
  let m := m.ringStore h (16 * (prod % m.ringSize h)) (toBytes 16 rec128.toNat)
  let m := m.set EVT_RING_PROD_PROD h (prod + 1)
  let m := if m.get HDG_EVT_CFG_PLACE h = 0 then m
    else m.ringStore h (16 * m.ringSize h) (toBytes 8 (m.get EVT_RING_PROD_PROD h))
  let m := m.set EVT_RING_STATUS_FULL h (b01 (m.ringFull h))
  m.hedgeCause h 0

/-- A record offered to ring h: written, or dropped and counted when the ring is full or a fence marker waits (R375). -/
def Mod.ringOffer (m : Mod) (h : Nat) (e : Ev) : Mod :=
  if m.ringFull h || m.evt.markers.any (·.1 == h) then
    let m := m.satAdd EVT_RING_STATUS_DROPPED h
    { m with evt := { m.evt with lost := store m.evt.lost h (Nat.min (lookupD m.evt.lost h 0 + 1) (2 ^ 32 - 1)) } }
  else
    let m := m.ringWrite h e
    { m with evt := { m.evt with lost := remove m.evt.lost h } }

/-- The OVERFLOW record of ring h (R375). -/
def overflowEvent (n : Nat) : Ev := { blk := 0x03, code := 0x01, detail := n % 2 ^ 32 }

/-- Room has come in ring h: markers that wait go first, then the OVERFLOW record of what was dropped (R375). -/
def Mod.ringSettle (m : Mod) (h : Nat) : Mod :=
  let step (m : Mod) (mk : Nat × Nat) : Mod :=
    if mk.1 = h ∧ ¬ m.ringFull h then
      let m := m.ringWrite h { blk := 0x01, code := 0x01, detail := mk.2 }
      { m with evt := { m.evt with markers := m.evt.markers.erase mk } }
    else m
  let m := m.evt.markers.foldl step m
  match lookup m.evt.lost h with
  | some n =>
    if m.ringFull h || m.evt.markers.any (·.1 == h) then m
    else
      let m := m.ringWrite h { overflowEvent n with hedge := h }
      { m with evt := { m.evt with lost := remove m.evt.lost h } }
  | none => m.set EVT_RING_STATUS_FULL h (b01 (m.ringFull h))

/-- The physical-function vector of a module-wide cause (R377): fences on 16 are raised where they complete. -/
def causeVector (blk code : Nat) : Option Nat :=
  match blk with
  | 0x01 => if code = 0x02 ∨ code = 0x03 ∨ code = 0x04 ∨ code = 0x05 then some 17
      else if code = 0x0B ∨ code = 0x0C then some 22 else none
  | 0x04 => if code = 0x01 ∨ code = 0x03 then some 18 else none
  | 0x02 => some 19
  | 0x14 => some 20
  | 0x15 => some 20
  | 0x16 => some 20
  | 0x17 => some 21
  | 0x18 => some 21
  | 0x19 => some 23
  | _ => none

/-- The lowest event route that an event matches (R281). -/
def Mod.routeOf (m : Mod) (e : Ev) : Option Nat :=
  (List.range 64).find? fun i =>
    m.flag ENG_EVT_ROUTE_VALID i && m.get ENG_EVT_ROUTE_BLOCK i == e.blk &&
      ((e.code ^^^ m.get ENG_EVT_ROUTE_CODE i) &&& m.get ENG_EVT_ROUTE_CODE_MASK i) == 0

/-- The job of a routed event (R281). -/
def eventJob (m : Mod) (e : Ev) (opcode : Nat) : Job :=
  { desc := BitVec.ofNat 128 (opcode + e.detail % 2 ^ 60 * 2 ^ 8 + e.hedge % 16 * 2 ^ 76 + e.code % 256 * 2 ^ 80 +
      e.blk % 256 * 2 ^ 88 + m.tickNum % 2 ^ 32 * 2 ^ 96), hedge := e.hedge, kind := .event }

/-- An event written to its rings and signalled, without its route to the engines. -/
def Mod.eventRings (m : Mod) (e : Ev) : Mod :=
  let m := e.rings.eraseDups.foldl (fun m h => m.ringOffer h e) m
  match causeVector e.blk e.code with
  | some v => m.pfCause v
  | none => m

/-- Counter i of cluster c (R293). -/
def engCtr (c i : Nat) : Ctr := ⟨0x630000 + c * 0x100 + i * 8, { blk := 0x10, code := 0x08, low := i, high := c }⟩

/-- EV_DROP of a cluster raised (R281); say raises its HALF_RANGE event. -/
def Mod.evDrop (m : Mod) (c : Nat) (say : Mod → Ev → Mod) : Mod :=
  let k := engCtr c 7
  let v := m.ctr k.off
  let m' := m.setCtr k.off (v + 1)
  if v < 2 ^ 47 ∧ 2 ^ 47 ≤ m'.ctr k.off then
    say m' { blk := k.half.blk, code := k.half.code, rings := k.half.rings, detail := k.off / 8 * 2 ^ 16 + k.half.high % 256 * 2 ^ 8 + k.half.low % 256 }
  else m'

/-- An event delivered as a job when it matches a route (R281). The HALF_RANGE event of an EV_DROP is delivered in its turn: n bounds how many
follow from one event, and each of the four clusters has one such counter. -/
def Mod.eventVia : Nat → Mod → Ev → Mod
  | 0, m, _ => m
  | n + 1, m, e =>
    match m.routeOf e with
    | none => m
    | some i =>
      let c := m.get ENG_EVT_ROUTE_CLUSTER i
      if (m.cl c).queueFull 1 then m.evDrop c fun m e => Mod.eventVia n (m.eventRings e) e
      else m.setCl c ((m.cl c).push 1 (eventJob m e (m.get ENG_EVT_ROUTE_OPCODE i)))

/-- An event delivered as a job when it matches a route (R281). -/
def Mod.eventRoute (m : Mod) (e : Ev) : Mod := Mod.eventVia 5 m e

/-- An event raised (R281, R373 to R377). -/
def Mod.event (m : Mod) (e : Ev) : Mod := (m.eventRings e).eventRoute e

/-- The events register of DRM, INT or GRF shows its bit of the counter's HALF_RANGE event. -/
def Mod.halfBit (m : Mod) (c : Ctr) : Mod :=
  if c.half.blk = 0x12 then m.sqcBit DRM_EVENT_EVENTS (c.half.code - 1) 0
  else if c.half.blk = 0x14 then m.sqcBit INT_EVENT_EVENTS (c.half.code - 1) 0
  else if c.half.blk = 0x15 then m.sqcBit GRF_EVENT_EVENTS (c.half.code - 1) 0
  else m

/-- A statistics counter raised by n, with its HALF_RANGE event (R61 to R63). -/
def Mod.bump (m : Mod) (c : Ctr) (n : Nat := 1) : Mod :=
  let v := m.ctr c.off
  let m' := m.setCtr c.off (v + n)
  if v < 2 ^ 47 ∧ 2 ^ 47 ≤ m'.ctr c.off then
    (m'.halfBit c).event
      { blk := c.half.blk, code := c.half.code, hedge := c.half.hedge, rings := c.half.rings,
        detail := c.off / 8 * 2 ^ 16 + c.half.high % 256 * 2 ^ 8 + c.half.low % 256 }
  else m'

/-- A second in TIME cycles. -/
def oneSecond : Nat := 1000000000

/-- Whether an event of a kind that is raised at most once per second may be raised now, and the note that it was. -/
def Mod.rateGate (m : Mod) (key : Nat) : Bool × Mod :=
  match lookup m.evt.lastRaised key with
  | some t => if m.now < t + oneSecond then (false, m)
      else (true, { m with evt := { m.evt with lastRaised := store m.evt.lastRaised key m.now } })
  | none => (true, { m with evt := { m.evt with lastRaised := store m.evt.lastRaised key m.now } })

/-- An event raised at most once per second per key. -/
def Mod.eventRated (m : Mod) (key : Nat) (e : Ev) : Mod :=
  let g := m.rateGate key
  if g.1 then g.2.event e else m

/-! ### A path's own state -/

/-- The window set of path number n, when a path has sets of its own. -/
def WinId.ofPath (w : WinId) (n : Nat) : Bool :=
  match w with
  | .cls k => k == n
  | .fdb k => k == n
  | .tbl k => k == n
  | .lpm k => k == n
  | .gate k => k == n
  | .shp k => k == n
  | .pol k => k == n
  | .dram k => k == n
  | _ => false

/-- The registers of the window sets that a path has to itself (R87, R137, R199, R332). -/
def perPathRegs : List Reg :=
  [.CLS_RULE_CMD, .CLS_RULE_ACT, .CLS_RULE_KEY, .CLS_RULE_MASK, .FDB_WIN_CMD, .FDB_WIN_DATA0, .FDB_WIN_DATA1, .FDB_TBL_CMD, .FDB_TBL_DATA, .LPM_WIN_CMD,
   .LPM_WIN_DATA, .SCH_GATE_WIN_CMD, .SCH_GATE_WIN_DATA, .SHP_WIN_CMD, .SHP_WIN_DATA, .POL_WIN_CMD, .POL_WIN_DATA0, .POL_WIN_DATA1, .DRM_WIN_CMD, .DRM_WIN_DATA]

/-- Elements of an array. -/
def dimsCount : List (Nat × Nat) → Nat
  | [] => 1
  | (n, _) :: t => n * dimsCount t

/-- A path's own window sets cleared, the commands pending in them abandoned, and the path disarmed (R345, R365). -/
def Mod.pathCleared (m : Mod) (n : Nat) : Mod :=
  let own (a : Nat) : Bool := perPathRegs.any fun r =>
    decide (r.spec.base + n * 0x2000000 ≤ a) &&
      (match dimsIndex r.spec.dims 0 (a - r.spec.base) with
        | some i => i / dimsCount (r.spec.dims.drop 1) == n
        | none => false)
  let m := { m with regs := m.regs.filter fun e => !(own e.1) }
  let m := m.withArm { m.arm with armed := m.arm.armed.filter fun a => a.1 != n }
  m.withWin { m.win with busy := m.win.busy.filter fun c => !(c.win.ofPath n), held := m.win.held.filter fun x => !(x.win.ofPath n) }

/-! ### The blocks -/

/-- The block identifier of an offset of the register space (R357). -/
def blockId (off : Nat) : Nat :=
  if off < 0x10000 then 0x01 else if off < 0x20000 then 0x02 else if off < 0x30000 then 0x03
  else if off < 0x40000 then 0x04 else if off < 0x60000 then 0x05 else if off < 0x80000 then 0
  else if off < 0x90000 then 0x06 else if off < 0xA0000 then 0x07 else if off < 0xB0000 then 0x08
  else if off < 0xC0000 then 0x09 else if off < 0xD0000 then 0x0A else if off < 0xE0000 then 0x0B
  else if off < 0xF0000 then 0x0C else if off < 0xF8000 then 0x0D else if off < 0x100000 then 0x0E
  else if off < 0x110000 then 0x0F else if off < 0x120000 then 0x10 else if off < 0x130000 then 0x11
  else if off < 0x140000 then 0x12 else if off < 0x160000 then 0x13 else if off < 0x164000 then 0x14
  else if off < 0x168000 then 0x15 else if off < 0x170000 then 0x16 else if off < 0x178000 then 0x17
  else if off < 0x180000 then 0x18 else if off < 0x190000 then 0x19 else 0

/-! ### Staged values -/

/-- The value staged for a key, the one accepted last. -/
def Mod.stagedValue (m : Mod) (key : StageKey) : Option Nat :=
  ((m.tick.next ++ m.tick.now).find? fun x => x.key == key).map (·.value)

/-- The fields of a register that a write stages: lowest bit and width. An entry of a DSCP or PCP map is one field. -/
def rwtFields (r : Reg) : List (Nat × Nat) :=
  match r with
  | .CLS_DSCP_MAP => (List.range 8).map fun e => (8 * e, 5)
  | .CLS_PCP_MAP => (List.range 8).map fun e => (8 * e, 5)
  | _ => (r.spec.fields.filter (·.acc == .rwt)).map fun f => (f.lo, f.hi + 1 - f.lo)

/-- A register as a read returns it: a staged value where one is pending (R5). -/
def Mod.rdStaged (m : Mod) (r : Reg) (i : Nat) : Word :=
  (rwtFields r).foldl (fun w f =>
    match m.stagedValue (.field r i f.1 f.2) with
    | some v => (Fld.mk r f.1 f.2).put w v
    | none => w) (m.rd r i)

end Sys2Proof.Machine
end

