-- ==== Sys2Proof/Machine/Counters.lean ====
section
/-! DEFINITION. The statistics counters by name: where each lies in the array, and the HALF_RANGE event it raises. -/

namespace Sys2Proof.Machine

/-- The Hedge that owns front port p (R335). -/
def Mod.owner (m : Mod) (p : Nat) : Nat := m.get HDG_PORT_OWNER_HEDGE p

/-- Counter i of front port p (R61, R63). -/
def Mod.prtCtr (m : Mod) (p i : Nat) : Ctr :=
  ⟨p * 0x400 + i * 8, { blk := 0x05, code := 0x05, low := i, high := p, hedge := m.owner p, rings := [m.owner p] }⟩

/-- PAR and CLS counter i of Hedge h (R96). -/
def clsCtr (h i : Nat) : Ctr := ⟨0x80000 + h * 0x400 + i * 8, { blk := 0x07, code := 0x03, low := i, hedge := h, rings := [h] }⟩

/-- The hit counter of slice s (R96). -/
def Mod.sliceCtr (m : Mod) (s : Nat) : Ctr :=
  let h := m.get CLS_SLICE_CFG_OWNER s
  ⟨0x84000 + s * 8, { blk := 0x07, code := 0x03, low := 128 + s, high := s, hedge := h, rings := [h] }⟩

/-- FDB counter i of Hedge h (R135). -/
def fdbCtr (h i : Nat) : Ctr :=
  ⟨0xA0000 + h * 0x400 + i * 8, { blk := 0x08, code := 0x06, low := i, high := h, hedge := h, rings := [h] }⟩

/-- Stream counter i of handle s: MATCHED, PASSED, SDU_DISCARD, LATE (R135, R197). The table code of a stream is that of
FDB_TBL_CMD. -/
def streamCtr (s i : Nat) : Ctr := ⟨0x100000 + s * 0x20 + i * 8, { blk := 0x08, code := 0x06, low := 64 + i, high := 8 }⟩

/-- FRER counter i of entry f (R135). -/
def frerCtr (f i : Nat) : Ctr := ⟨0x300000 + f * 0x40 + i * 8, { blk := 0x08, code := 0x06, low := 128 + i, high := 9 }⟩

/-- BUF counter i of Hedge h (R166). -/
def bufCtr (h i : Nat) : Ctr :=
  ⟨0xC0000 + h * 0x400 + i * 8, { blk := 0x0A, code := 0x08, low := i, high := h, hedge := h, rings := [h] }⟩

/-- BUF counter i of destination d (R166). -/
def Mod.destCtr (m : Mod) (d i : Nat) : Ctr :=
  let h := if d < 128 then m.owner d else 0
  ⟨0xC8000 + d * 0x100 + i * 8, { blk := 0x0A, code := 0x08, low := 64 + i, high := d, hedge := h, rings := [h] }⟩

/-- Counter k of policer i, which Hedge h owns (R197, R198). -/
def polCtr (i k h : Nat) : Ctr := ⟨0x400000 + i * 0x20 + k * 8, { blk := 0x0E, code := 0x03, low := k, high := h, hedge := h }⟩

/-- SCH counter k of port p (R197). -/
def Mod.schCtr (m : Mod) (p k : Nat) : Ctr :=
  ⟨0x600000 + p * 0x100 + k * 8, { blk := 0x0C, code := 0x07, low := k, high := p, hedge := m.owner p, rings := [m.owner p] }⟩

/-- POL counter k of Hedge h (R197). -/
def polHedgeCtr (h k : Nat) : Ctr :=
  ⟨0x608000 + h * 0x400 + k * 8, { blk := 0x0E, code := 0x03, low := 64 + k, high := h, hedge := h }⟩

/-- CLP counter i of Hedge h (R247). -/
def clpCtr (h i : Nat) : Ctr :=
  ⟨0x620000 + h * 0x100 + i * 8, { blk := 0x0F, code := 0x05, low := i, high := h, hedge := h, rings := [h] }⟩

/-- CLP counter k of front port p (R247). -/
def Mod.clpPortCtr (m : Mod) (p k : Nat) : Ctr :=
  ⟨0x621000 + p * 0x20 + k * 8, { blk := 0x0F, code := 0x05, low := 64 + k, high := p, hedge := m.owner p, rings := [m.owner p] }⟩

/-- Counter i of Gap g (R354). -/
def Mod.gapCtr (m : Mod) (g i : Nat) : Ctr :=
  let h := m.get HDG_GAP_CFG0_TO g
  ⟨0x650000 + g * 0x40 + i * 8, { blk := 0x13, code := 0x07, low := i, high := g, hedge := h, rings := [h] }⟩

/-- TIM port counter k of front port p (R232). -/
def timPortCtr (p k : Nat) : Ctr := ⟨0x610000 + p * 0x40 + k * 8, { blk := 0x04, code := 0x05, low := k, high := p }⟩

/-- TIM module counter k (R232). -/
def timCtr (k : Nat) : Ctr := ⟨0x612000 + k * 8, { blk := 0x04, code := 0x05, low := 64 + k }⟩

/-- ENG_DISCARD of Hedge h (R293). -/
def engDiscardCtr (h : Nat) : Ctr := ⟨0x631000 + h * 8, { blk := 0x10, code := 0x08, low := 64 + h }⟩

/-- Counter i of subchannel s (R330). -/
def drmCtr (s i : Nat) : Ctr := ⟨0x640000 + s * 0x100 + i * 8, { blk := 0x12, code := 0x08, low := i, high := s / 2 }⟩

end Sys2Proof.Machine
end

