-- ==== Sys2Proof/Machine/Buckets.lean ====
section
/-! DEFINITION. Error buckets (Integrity, Scrubbing, Repair and Ageing): what an error of a repairable unit does. -/

namespace Sys2Proof.Machine

/-- INT counter i (R460). -/
def intCtr (i : Nat) : Ctr := ⟨0x660000 + i * 8, { blk := 0x14, code := 0x06, low := i }⟩

/-- GRF counter i (R460). -/
def grfCtr (i : Nat) : Ctr := ⟨0x661000 + i * 8, { blk := 0x15, code := 0x0B, low := i }⟩

/-- The detail of an INT, GRF or AGE event (R461): index or LOCATION, unit, spare or device, and qualifier. -/
def intDetail (loc unit q : Nat) : Nat := loc % 2 ^ 32 * 2 ^ 16 + unit % 256 * 2 ^ 8 + q

/-- An INT event raised. -/
def Mod.intEvent (m : Mod) (code loc unit q : Nat) (rings : List Nat := [0]) : Mod :=
  (m.sqcBit INT_EVENT_EVENTS (code - 1) 0).event
    { blk := 0x14, code := code, hedge := rings.getD 1 0, detail := intDetail loc unit q, rings := rings }

/-- A GRF event raised. -/
def Mod.grfEvent (m : Mod) (code loc unit q : Nat) : Mod :=
  (m.sqcBit GRF_EVENT_EVENTS (code - 1) 0).event { blk := 0x15, code := code, detail := intDetail loc unit q }

/-- An AGE event raised. -/
def Mod.ageEvent (m : Mod) (code unit q : Nat) : Mod :=
  (m.sqcBit AGE_EVENT_EVENTS (code - 1) 0).event { blk := 0x16, code := code, detail := intDetail 0 unit q }

/-- The key of a unit's bucket. -/
def bucketKey (cls loc : Nat) : Nat := 2 ^ 32 * cls + loc

/-- The bucket of an SDRAM row, when the table holds it (R442): its index and value. -/
def Mod.rowBucket (m : Mod) (loc : Nat) : Option (Nat × Nat) :=
  (m.int.rows.find? fun e => e.2.1 == loc).map fun e => (e.1, e.2.2)

/-- The value of a unit's bucket. -/
def Mod.bucket (m : Mod) (cls loc : Nat) : Nat :=
  if cls = 6 then ((m.rowBucket loc).map (·.2)).getD 0 else lookupD m.int.buckets (bucketKey cls loc) 0

/-- The index of the row table an error of a row takes (R442): its own, else the lowest free or lowest-valued one. -/
def Mod.rowSlot (m : Mod) (loc : Nat) : Nat :=
  match m.rowBucket loc with
  | some (i, _) => i
  | none =>
    match (List.range 1024).find? fun i => (lookup m.int.rows i).isNone with
    | some i => i
    | none => (m.int.rows.foldl (fun (b : Nat × Nat) e => if e.2.2 < b.2 then (e.1, e.2.2) else b) (0, 65536)).1

/-- A unit's bucket set to a value; a lane's also shows in PRT_LANE_STATUS. -/
def Mod.setBucket (m : Mod) (cls loc v : Nat) : Mod :=
  if cls = 6 then m.withInt { m.int with rows := store m.int.rows (m.rowSlot loc) (loc, v) }
  else
    let m := m.withInt { m.int with buckets := storeUnless 0 m.int.buckets (bucketKey cls loc) v }
    if cls = 0 then m.set PRT_LANE_STATUS_BUCKET loc v else m

/-- GRF_STATUS shows the graft and the queue (R445). -/
def Mod.graftStatus (m : Mod) : Mod :=
  let m := (m.set GRF_STATUS_ACTIVE 0 (b01 m.int.graft.isSome)).set GRF_STATUS_QUEUED 0 m.int.queue.length
  match m.int.graft with
  | some g => (m.set GRF_STATUS_CLASS 0 g.cls).set GRF_STATUS_LOCATION 0 g.loc
  | none => m

/-- A unit is queued for a graft, or its graft runs. -/
def Mod.graftQueued (m : Mod) (cls loc : Nat) : Bool :=
  m.int.queue.contains (cls, loc) || (m.int.graft.any fun g => g.cls == cls && g.loc == loc)

/-- The unit is out of service (R446, R449, R450): retired, or its place taken by a spare. -/
def Mod.unitGone (m : Mod) (cls loc : Nat) : Bool :=
  (m.int.used.any fun e => e.1 / 2 ^ 20 == cls && e.2 == loc) || (match cls with
    | 0 => m.flag PRT_LANE_STATUS_RETIRED loc
    | 1 => m.buf.banksLost.contains loc
    | 2 => (m.get ENG_CLUSTER_STATUS_RETIRED (loc / 64)).testBit (loc % 64)
    | _ => false)

/-- A unit asks for its retirement (R445): it joins the queue of 16, or the queue is full. -/
def Mod.graftAsk (m : Mod) (cls loc : Nat) : Mod :=
  if m.graftQueued cls loc then m
  else if 16 ≤ m.int.queue.length then (m.bump (grfCtr 33)).grfEvent 0x08 loc loc cls
  else (m.withInt { m.int with queue := m.int.queue ++ [(cls, loc)] }).graftStatus

/-- The unit's fault is permanent (R443): counted and raised, and the unit is queued; for a lane R65 decides. -/
def Mod.thresholdReached (m : Mod) (cls loc : Nat) : Mod :=
  let m := (m.bump (grfCtr cls)).grfEvent 0x01 loc loc cls
  if cls = 0 then m else m.graftAsk cls loc

/-- The AON domain is out of service: its sensors, error buckets, watchdog and gasp trigger are suspended (R14, R16). -/
def Mod.aonOut (m : Mod) : Bool := m.boot.domOut.contains 21

/-- An error of a unit fills its bucket (R441, R443); a queued unit's bucket stops filling, and a unit out of service has none. -/
def Mod.unitError (m : Mod) (cls loc : Nat) (major : Bool) : Mod :=
  if m.graftQueued cls loc || m.unitGone cls loc || m.aonOut then m
  else
    let inc := if major then m.get INT_BUCKET_CFG_INC_MAJOR cls else m.get INT_BUCKET_CFG_INC_MINOR cls
    let thresh := m.get INT_BUCKET_CFG_THRESH cls
    let old := m.bucket cls loc
    let v := Nat.min (old + inc) 65535
    let m := m.setBucket cls loc v
    if old < thresh ∧ thresh ≤ v then m.thresholdReached cls loc
    else if thresh ≤ v ∧ cls ≠ 0 then m.graftAsk cls loc
    else m

/-- BUCKET_DECAY (R441): every DECAY_TICKS ticks the buckets of a class fall by one. -/
def Mod.bucketDecay (m : Mod) (cls : Nat) : Mod :=
  if m.aonOut || m.commits < lookupD m.int.decayAt cls 0 + Nat.max 1 (m.get INT_BUCKET_CFG_DECAY_TICKS cls) then m
  else
    let m := m.withInt { m.int with decayAt := store m.int.decayAt cls m.commits }
    if cls = 6 then m.withInt { m.int with rows := m.int.rows.map fun e => (e.1, (e.2.1, e.2.2 - 1)) }
    else
      (((m.int.buckets.map (·.1)).eraseDups.filter fun k => k / 2 ^ 32 == cls).map (· % 2 ^ 32)).foldl
        (fun m loc => m.setBucket cls loc (m.bucket cls loc - 1)) m

/-- The fullest bucket of a class: its value and unit (INT_BUCKET_MAX). -/
def Mod.bucketMax (m : Mod) (cls : Nat) : Nat × Nat :=
  let l := if cls = 6 then m.int.rows.map fun e => (e.2.2, e.2.1)
    else (m.int.buckets.filter fun e => e.1 / 2 ^ 32 == cls).map fun e => (e.2, e.1 % 2 ^ 32)
  l.foldl (fun b e => if b.1 < e.1 then e else b) (0, 0)

/-- An uncorrectable error that a requester or the scrubber finds in memory mem (R437, R440): counted and logged. -/
def Mod.memLost (m : Mod) (mem index : Nat) (scrub : Bool) : Mod :=
  (m.bump (intCtr (32 + mem))).wr .INT_UNC_LOG 0 (BitVec.ofNat 64
    (mem * 2 ^ 59 + b01 scrub * 2 ^ 58 + index % 2 ^ 32 * 2 ^ 16 + m.tickNum % 2 ^ 16))

/-- What an egress read that meets an uncorrectable word does beside its copy (R440, R441). -/
def Mod.cellFault (m : Mod) (index : Nat) (fault : ReadFault) : Mod :=
  match fault with
  | .uncorrectable bank => (m.memLost 0 index false).unitError 1 bank.val true
  | _ => m

/-- The fault is an uncorrectable word. -/
def lostWord (fault : ReadFault) : Bool :=
  match fault with
  | .uncorrectable _ => true
  | _ => false

end Sys2Proof.Machine
end

