-- ==== Sys2Proof/Machine/Microword.lean ====
section
/-! DEFINITION. The microword (Packet Engines and Microcode, R253): its 128 bits split into fields, the commands they spell, and its
reserved encodings. -/

namespace Sys2Proof.Machine

/-- What a command of a microword is to its thread's microword: the thread, whether the word spells it with these operands, and whether
the microword in progress can take it now: it has not had it, and what it needs has been given. -/
structure Part where
  ref : ThreadRef
  spelt : Nat → Bool
  takes : Nat → Micro → Bool := fun _ _ => true

/-- NXT, FEN and THR of a word. -/
def mwNxt (w : Nat) : Nat := bits w 127 124
/-- See mwNxt. -/
def mwFen (w : Nat) : Nat := bits w 11 10
/-- See mwNxt. -/
def mwThr (w : Nat) : Nat := bits w 9 8

/-- The operation code of ALU A or ALU B. -/
def mwAlu (w : Nat) : AluUnit → Nat
  | .a => bits w 103 98
  | .b => bits w 80 75

/-- The codes of MEM, HDR [27:26] and [25:22], QOP, TMR and CNT. -/
def mwMem (w : Nat) : Nat := bits w 41 37
/-- See mwMem. -/
def mwHdr (w : Nat) : Nat := bits w 27 26
/-- See mwMem. -/
def mwHdrN (w : Nat) : Nat := bits w 25 22
/-- See mwMem. -/
def mwQop (w : Nat) : Nat := bits w 21 18
/-- See mwMem. -/
def mwTmr (w : Nat) : Nat := bits w 17 15
/-- See mwMem. -/
def mwCnt (w : Nat) : Nat := bits w 14 12

/-- Every part that the word spells, but its sequencing part, has been given: what the completion needs of the microword in progress. -/
def mwGiven (w : Nat) (x : Micro) : Bool :=
  (mwAlu w .a == 0 || x.resA.isSome) && (mwAlu w .b == 0 || x.resB.isSome) && (mwMem w == 0 || x.mem.isSome) &&
    (mwHdr w == 0 || x.view.isSome || x.hdrWrite.isSome) && (mwQop w == 0 || x.qop) && (mwTmr w == 0 || x.tmrOk.isSome) &&
    x.cnt == mwCnt w && (mwThr w != 1 || x.waits) && (mwThr w != 2 || x.commits)

/-- Both ALU results that a part takes are known, where the word's ALUs compute (R257). -/
def mwResults (w : Nat) (x : Micro) : Bool := (mwAlu w .a == 0 || x.resA.isSome) && (mwAlu w .b == 0 || x.resB.isSome)

/-- An ALU part with operation code op, as the word has it. -/
def aluSpelt (op : Nat) (x : AluArgs) (w : Nat) : Bool :=
  let own := match x.unit with
    | .a => [bits w 97 92, bits w 91 86, bits w 85 81]
    | .b => [bits w 74 69, bits w 68 63, bits w 62 58]
  mwAlu w x.unit == op && own == [x.srcA.val, x.srcB.val, x.dest.val] && bits w 57 42 == x.imm.toNat && bits w 108 104 == x.cnd.val

/-- An ALU command and its operation code (R256). -/
def aluPart (op : Nat) (x : AluArgs) : Option Part := some { ref := x.t, spelt := aluSpelt op x }

/-- A sequencing command and its NXT code (R259). -/
def seqSpelt (nxt : Nat) (x : SeqArgs) (w : Nat) : Bool :=
  [mwNxt w, bits w 123 109, bits w 108 104, bits w 97 92, bits w 57 42, mwFen w] ==
    [nxt, x.tgt.val, x.cnd.val, x.srcA.val, x.imm.toNat, x.fen.val]

/-- See seqSpelt. -/
def seqRow (nxt : Nat) (x : SeqArgs) : Option Part := some { ref := x.t, spelt := seqSpelt nxt x, takes := mwGiven }

/-- A memory command and its MEM code (R263). -/
def memSpelt (op : Nat) (x : MemArgs) (w : Nat) : Bool :=
  [mwMem w, bits w 36 31, bits w 30 28, bits w 57 42] == [op, x.mad.val, x.msp.val, x.imm.toNat]

/-- See memSpelt. -/
def memRow (op : Nat) (x : MemArgs) : Option Part :=
  some { ref := x.t, spelt := memSpelt op x, takes := fun w y => y.mem.isNone && (decide (op < 6) || mwResults w y) }

/-- A queue command and its QOP code (R269): its parameter is the MAD source. -/
def qopSpelt (op : Nat) (mad : Fin 64) (imm : BitVec 16) (w : Nat) : Bool := [mwQop w, bits w 36 31, bits w 57 42] == [op, mad.val, imm.toNat]

/-- See qopSpelt. -/
def qopRow (op : Nat) (t : ThreadRef) (mad : Fin 64) (imm : BitVec 16) : Option Part :=
  some { ref := t, spelt := qopSpelt op mad imm, takes := fun _ y => !y.qop }

/-- A timer command and its TMR code (R280). -/
def tmrRow (op : Nat) (t : ThreadRef) : Option Part :=
  some { ref := t, spelt := fun w => mwTmr w == op, takes := fun w y => y.tmrOk.isNone && mwResults w y }

/-- A command with a code of its own field. -/
def codeRow (field : Nat → Nat) (code : Nat) (t : ThreadRef) : Option Part := some { ref := t, spelt := fun w => field w == code }

/-- The part of a microword that a command is; none for a command that is no part of one. -/
def partOf (c : Instr) : Option Part :=
  match c with
  | .aluNop x => aluPart 0 x
  | .aluPass x => aluPart 1 x
  | .aluAdd x => aluPart 2 x
  | .aluSub x => aluPart 3 x
  | .aluAnd x => aluPart 4 x
  | .aluOr x => aluPart 5 x
  | .aluXor x => aluPart 6 x
  | .aluAndn x => aluPart 7 x
  | .aluShl x => aluPart 8 x
  | .aluShr x => aluPart 9 x
  | .aluSar x => aluPart 10 x
  | .aluRor x => aluPart 11 x
  | .aluExt x => aluPart 12 x
  | .aluMin x => aluPart 13 x
  | .aluMax x => aluPart 14 x
  | .aluCmp x => aluPart 15 x
  | .aluTest x => aluPart 16 x
  | .aluAddc x => aluPart 17 x
  | .aluBswap x => aluPart 18 x
  | .aluPopcnt x => aluPart 19 x
  | .aluClz x => aluPart 20 x
  | .aluMul x => aluPart 21 x
  | .aluCsum x => aluPart 22 x
  | .aluCrc32 x => aluPart 23 x
  | .aluSel x => aluPart 24 x
  | .seqNext x => seqRow 0 x
  | .seqJump x => seqRow 1 x
  | .seqBranch x => seqRow 2 x
  | .seqDispatch x => seqRow 3 x
  | .seqCall x => seqRow 4 x
  | .seqReturn x => seqRow 5 x
  | .seqYield x => seqRow 6 x
  | .seqEnd x => seqRow 7 x
  | .seqFenceNext x => seqRow 8 x
  | .memoryFence t => codeRow mwFen 1 t
  | .queueFence t => codeRow mwFen 2 t
  | .globalFence t => codeRow mwFen 3 t
  | .rd8 x => memRow 1 x
  | .rd16 x => memRow 2 x
  | .rd32 x => memRow 3 x
  | .rd64 x => memRow 4 x
  | .rd128 x => memRow 5 x
  | .wr8 x => memRow 6 x
  | .wr16 x => memRow 7 x
  | .wr32 x => memRow 8 x
  | .wr64 x => memRow 9 x
  | .wr128 x => memRow 10 x
  | .aadd64 x => memRow 11 x
  | .aor64 x => memRow 12 x
  | .cas64 x => memRow 13 x
  | .swap64 x => memRow 14 x
  | .hdrView t upper => some { ref := t, spelt := fun w => mwHdr w == 1 && bit w 22 == upper }
  | .hdrWriteA t n => some { ref := t, spelt := fun w => mwHdr w == 2 && mwHdrN w == n.val }
  | .hdrWriteB t n => some { ref := t, spelt := fun w => mwHdr w == 3 && mwHdrN w == n.val }
  | .qopEnqueue t mad imm => qopRow 1 t mad imm
  | .qopReinject t mad imm => qopRow 2 t mad imm
  | .qopDiscard t mad imm => qopRow 3 t mad imm
  | .qopException t mad imm => qopRow 4 t mad imm
  | .qopClip t mad imm => qopRow 5 t mad imm
  | .qopCopy t mad imm => qopRow 6 t mad imm
  | .tmrAlloc t => tmrRow 1 t
  | .tmrArm t => tmrRow 2 t
  | .timerCancel t => tmrRow 3 t
  | .timerRead t => tmrRow 4 t
  | .tmrFree t => tmrRow 5 t
  | .wait t => codeRow mwThr 1 t
  | .beginCommit t => codeRow mwThr 2 t
  | .start0 t => codeRow mwCnt 1 t
  | .stop0 t => codeRow mwCnt 2 t
  | .start1 t => codeRow mwCnt 3 t
  | .stop1 t => codeRow mwCnt 4 t
  | .count t => codeRow mwCnt 5 t
  | _ => none

/-- A reserved encoding, or bits [7:0] that are not zero (R253, R256, R258 to R264, R268, R269, R280): a code that its field's table marks
reserved, FEN where NXT is neither END nor FENCE_NEXT, FENCE_NEXT without FEN, MEM together with QOP, and HDR [25:22] without an operation. -/
def mwReserved (w : Nat) : Bool :=
  decide (8 < mwNxt w) || decide (24 < mwAlu w .a) || decide (24 < mwAlu w .b) || decide (24 ≤ bits w 108 104) || decide (14 < mwMem w) ||
    decide (6 ≤ bits w 30 28) || (mwHdr w == 0 && mwHdrN w != 0) || decide (6 < mwQop w) || decide (5 < mwTmr w) || decide (5 < mwCnt w) ||
    mwThr w == 3 || (mwMem w != 0 && mwQop w != 0) || (mwFen w != 0 && decide (mwNxt w < 7)) || (mwNxt w == 8 && mwFen w == 0) || w % 256 != 0

/-- Source codes that wait for an outstanding read (R265): RD0, RD1 and FLAGS. -/
def namesRead (code : Nat) : Bool := code == 57 || code == 58 || code == 59

/-- The word carries a memory operation, or names RD0, RD1 or FLAGS as a source of something it does (R265). -/
def mwNeedsRead (w : Nat) : Bool :=
  mwMem w != 0 || ((mwAlu w .a != 0 || mwNxt w == 3) && namesRead (bits w 97 92)) || (mwAlu w .a != 0 && namesRead (bits w 91 86)) ||
    (mwAlu w .b != 0 && (namesRead (bits w 74 69) || namesRead (bits w 68 63))) || (mwQop w != 0 && namesRead (bits w 36 31))

end Sys2Proof.Machine
end

