-- ==== Sys2Proof/Machine/Epc.lean ====
section
/-! DEFINITION. Engine performance counters (Engine Performance Counters), and what they observe of threads. -/

namespace Sys2Proof.Machine

/-! ### Threads and engines -/

/-- ENG cycles in n TIME cycles (R250): 1.5 for each. -/
def engCycles (n : Nat) : Nat := 3 * n / 2

/-- The key of a thread among the module's threads. -/
def threadKey (t : ThreadRef) : Nat := 768 * t.cluster.val + 48 * t.engine.val + t.thread.val

/-- The thread of a key, while it holds a job. -/
def Mod.thread (m : Mod) (key : Nat) : Option Thread := lookup m.eng.threads key

/-- A thread replaced. -/
def Mod.setThread (m : Mod) (key : Nat) (t : Thread) : Mod := m.withEng { m.eng with threads := store m.eng.threads key t }

/-- A thread free again. -/
def Mod.freeThread (m : Mod) (key : Nat) : Mod :=
  let m := m.withDrm { m.drm with reqs := m.drm.reqs.map fun r => if r.who = .thread key then { r with who := .hardware } else r }
  m.withEng { m.eng with threads := remove m.eng.threads key }

/-- Threads of cluster c that hold a job. -/
def Mod.clusterThreads (m : Mod) (c : Nat) : List (Nat × Thread) := m.eng.threads.filter fun e => e.1 / 768 == c

/-- The physical engine that serves logical engine e (R250). -/
def Mod.physOf (m : Mod) (c e : Nat) : Nat := if m.get ENG_CLUSTER_STATUS_SPARE_FOR c = e then 16 else e

/-- The logical engine that a physical engine serves, when it serves one. -/
def Mod.logicalOf (m : Mod) (c phys : Nat) : Option Nat :=
  let spare := m.get ENG_CLUSTER_STATUS_SPARE_FOR c
  if phys = 16 then (if spare < 16 then some spare else none) else if spare = phys then none else some phys

/-- A physical engine is retired. -/
def Mod.retired (m : Mod) (c phys : Nat) : Bool := (m.get ENG_CLUSTER_STATUS_RETIRED c).testBit phys

/-- A logical engine works. -/
def Mod.works (m : Mod) (c e : Nat) : Bool := !(m.retired c (m.physOf c e))

/-- Threads of a physical engine that hold a job. -/
def Mod.engineThreads (m : Mod) (c phys : Nat) : List (Nat × Thread) :=
  match m.logicalOf c phys with
  | some e => m.eng.threads.filter fun x => x.1 / 48 == 16 * c + e
  | none => []

/-- The fence of kind k is satisfied for the thread of a key (R260). Stores and atomics are complete as they are accepted (R320), and
job pushes are accepted as they are issued: re-entries wait for their ingress pipeline, register writes for a window. A fence in a commit
section that holds operations waits for the section's release. -/
def Mod.fenceMet (m : Mod) (key k : Nat) : Bool :=
  (k == 0 || !((m.thread key).any fun t => t.inCommit && !t.held.isEmpty)) && (decide (k < 2) || !(m.buf.inject.any fun e => decide (130 ≤ e.1) && e.2.thread == key)) &&
    (decide (k < 3) || !(m.win.held.any fun h => h.thread == some key))

/-- The thread can issue (R251), apart from the spacing of three cycles and from what a microword itself makes it wait for. -/
def Mod.threadReady (m : Mod) (key : Nat) (t : Thread) : Bool :=
  !t.waiting && t.ending.isNone && m.fenceMet key t.fence

/-- The microword that a thread issues next (R287); an address not listed holds 0. -/
def Mod.microword (m : Mod) (key : Nat) (t : Thread) : Nat := lookupD (m.cl (key / 768)).store t.pc 0

/-- The thread is ready (R251): it waits for nothing, neither its control-store row nor a dispatch table that it reads is being reloaded
(R437), and no outstanding read keeps its next
microword back (R265). -/
def Mod.ready (m : Mod) (key : Nat) (t : Thread) : Bool :=
  m.threadReady key t && !((m.cl (key / 768)).reloading.contains (t.pc / 256)) &&
    !(mwNxt (m.microword key t) == 3 && (m.cl (key / 768)).reloading.contains 128) &&
    !(t.read.isSome && !t.mw.reads && mwNeedsRead (m.microword key t))

/-- No other thread of its engine issues before a ready one (R251): the one in the middle of its microword, and otherwise the one that has been
ready longest, the lower number in a tie. -/
def Mod.issuesFirst (m : Mod) (key : Nat) (t : Thread) : Bool :=
  t.mw.flags.isSome || m.eng.threads.all fun e =>
    e.1 / 48 != key / 48 || e.1 == key || !(m.ready e.1 e.2) ||
      (e.2.mw.flags.isNone && (decide (t.turn < e.2.turn) || (t.turn == e.2.turn && decide (key < e.1))))

/-- The thread of a key when its engine issues from it now (R251). -/
def Mod.issuer (m : Mod) (key : Nat) : Option Thread := (m.thread key).filter fun t => m.ready key t && m.issuesFirst key t

/-- A thread has become ready: behind those of its engine that were ready before. -/
def Mod.joinReady (m : Mod) (key : Nat) (t : Thread) : Mod :=
  m.withEng { m.eng with threads := store m.eng.threads key { t with turn := m.eng.turn }, turn := m.eng.turn + 1 }

/-- The engine's fixed cycle counter (R296): it stops while its engine is retired or its ENG domain has failed. -/
def Mod.engineCycle (m : Mod) (c phys : Nat) : Nat :=
  match lookup (m.cl c).stopped phys with
  | some v => v
  | none => engCycles m.now

/-! ### Counting -/

/-- The index of engine registers. -/
def engineIdx (c phys : Nat) : Nat := 17 * c + phys

/-- An EPC event (R307), to the root Hedge, with its bit of EPC_EVENT. -/
def epcEv (c phys code q : Nat) : Ev := { blk := 0x11, code := code, detail := c * 2 ^ 16 + phys * 2 ^ 8 + q }

/-- An EPC event raised at most once per second per cluster. -/
def Mod.epcRaise (m : Mod) (c phys code q : Nat) : Mod :=
  (m.sqcBit EPC_EVENT_EVENTS (code - 1) c).eventRated (0x11 * 2 ^ 24 + code * 2 ^ 16 + c) (epcEv c phys code q)

/-- The cluster's counters are frozen (R305). -/
def Mod.frozen (m : Mod) (c : Nat) : Bool := m.flag EPC_CTL_FROZEN c

/-- Counter n of a physical engine raised by k, saturating (R297). -/
def Mod.epcAdd (m : Mod) (c phys n k : Nat) : Mod :=
  let i := 8 * engineIdx c phys + n
  let v := m.get EPC_CTR_COUNT i + k
  if v < 2 ^ 48 then m.set EPC_CTR_COUNT i v
  else
    let m := m.set EPC_CTR_COUNT i (2 ^ 48 - 1)
    if (m.get EPC_STATUS_SAT (engineIdx c phys)).testBit n then m
    else (m.sqcBit EPC_STATUS_SAT n (engineIdx c phys)).epcRaise c phys 0x01 n

/-- The counters of an engine that select an event, and are inside their window (R302), raised by k. -/
def Mod.epcCount (m : Mod) (c phys ev k : Nat) (w0 w1 : Bool) : Mod :=
  if m.frozen c ∨ k = 0 then m
  else
    (List.range 8).foldl (fun m n =>
      let i := 8 * engineIdx c phys + n
      let win := m.get EPC_SEL_WIN i
      if m.get EPC_SEL_EVENT i = ev ∧ (win = 0 ∨ (win = 1 ∧ w0) ∨ (win = 2 ∧ w1)) then m.epcAdd c phys n k else m) m

/-- An event that belongs to the thread of a key, with its open windows. -/
def Mod.epcThread (m : Mod) (key : Nat) (t : Thread) (ev : Nat) (k : Nat := 1) : Mod :=
  m.epcCount (key / 768) (m.physOf (key / 768) (key / 48 % 16)) ev k t.win0 t.win1

/-! ### Cycles that pass -/

/-- The sub-cause of a back-starved slot (R298): 6 memory, 7 fence, 8 spacing. -/
def Mod.backCause (m : Mod) (ts : List (Nat × Thread)) : Nat :=
  if ts.any fun e => e.2.waiting || (e.2.read.isSome && !e.2.mw.reads && mwNeedsRead (m.microword e.1 e.2)) then 6
  else if ts.any fun e => !(m.fenceMet e.1 e.2.fence) || e.2.ending.isSome then 7
  else 8

/-- The occupancy that an event measures (R299, R300). -/
def Mod.epcOccupancy (m : Mod) (c phys ev : Nat) : Nat :=
  let ts := m.engineThreads c phys
  match ev with
  | 32 => (ts.filter fun e => m.ready e.1 e.2).length
  | 33 => (ts.filter fun e => e.2.read.isSome).length
  | 34 => (m.cl c).tt.length + (m.cl c).ev.length + (m.cl c).ij.length + (m.cl c).db.length
  | 36 => ts.length
  | _ => 0

/-- What a counter's event adds in k cycles of which r retired microwords (R298, R299). -/
def Mod.epcPerCycles (m : Mod) (c phys sel k r : Nat) : Nat :=
  let ev := sel % 256
  let ts := m.engineThreads c phys
  let front := ts.isEmpty || m.get ENG_CLUSTER_STATUS_STATE c != 0
  let rest := k - r
  match ev with
  | 1 => k
  | 4 => if front then rest else 0
  | 5 => if front then 0 else rest
  | 40 => if ts.any (·.2.win0) then k else 0
  | 41 => if ts.any (·.2.win1) then k else 0
  | 6 | 7 | 8 => if !front && m.backCause ts == ev then rest else 0
  | 32 | 33 | 34 | 35 | 36 =>
    let o := m.epcOccupancy c phys ev
    if sel / 2 ^ 20 % 2 = 0 then o * k else if sel / 2 ^ 8 % 2 ^ 12 < o then k else 0
  | _ => 0

/-- One counter over k cycles. -/
def Mod.epcRunOne (m : Mod) (k i : Nat) : Mod :=
  let c := i / 136
  let phys := i / 8 % 17
  if m.frozen c || m.retired c phys || (m.cl c).lost then m
  else
    let sel := (m.rd .EPC_SEL i).toNat
    let win := sel / 2 ^ 21 % 4
    let ts := m.engineThreads c phys
    if (win = 1 ∧ ¬ ts.any (·.2.win0)) ∨ (win = 2 ∧ ¬ ts.any (·.2.win1)) then m
    else
      let n := m.epcPerCycles c phys sel k (Nat.min k (lookupD (m.cl c).slots phys 0))
      if n = 0 then m else m.epcAdd c phys (i % 8) n

/-- The counters of a cluster's engines whose selector is not at its reset value. -/
def Mod.epcSelected (m : Mod) : List Nat :=
  m.regs.filterMap fun e =>
    match if 0x120000 ≤ e.1 ∧ e.1 < 0x130000 then regAt 0 e.1 else none with
    | some (.EPC_SEL, i) => some i
    | _ => none

/-- n TIME cycles pass for the performance counters, and use up the issue slots of the microwords that have completed. -/
def Mod.runEpc (m : Mod) (n : Nat) : Mod :=
  let k := engCycles (m.now + n) - engCycles m.now
  let m := m.epcSelected.foldl (fun m i => m.epcRunOne k i) m
  (List.range 4).foldl (fun m c =>
    if (m.cl c).slots = [] then m
    else m.setCl c { m.cl c with slots := ((m.cl c).slots.map fun e => (e.1, e.2 - k)).filter fun e => decide (0 < e.2) }) m

/-! ### Markers -/

/-- What a CNT code does to a thread's windows as its microword completes (R301). -/
def Mod.marker (m : Mod) (key : Nat) (t : Thread) (cnt : Nat) : Thread × Mod :=
  let c := key / 768
  let phys := m.physOf c (key / 48 % 16)
  let inverted (n : Nat) : Mod := (m.sqcBit EPC_STATUS_INVERTED n (engineIdx c phys)).epcRaise c phys 0x03 n
  match cnt with
  | 1 => ({ t with win0 := true }, m)
  | 2 => ({ t with win0 := false }, if t.win0 then m else inverted 0)
  | 3 => ({ t with win1 := true }, m)
  | 4 => ({ t with win1 := false }, if t.win1 then m else inverted 1)
  | 5 => (t, m.epcThread key t 42)
  | _ => (t, m)

/-! ### Samples -/

/-- What a sample record holds of a microword (R303). -/
structure Sample where
  uaddr : Nat
  opcode : Nat
  hedge : Nat
  mem : Nat
  msp : Nat
  latency : Nat
  cycle : Nat
  deriving DecidableEq, Repr

/-- The sample's record: bank conflicts being timing, a microword is never replayed in this model. -/
def Sample.record (x : Sample) (thread phys : Nat) : Nat :=
  x.uaddr * 2 ^ 113 + thread * 2 ^ 107 + phys * 2 ^ 102 + x.opcode * 2 ^ 94 + x.hedge * 2 ^ 90 + x.mem * 2 ^ 85 +
    x.msp * 2 ^ 82 + Nat.min x.latency (2 ^ 20 - 1) * 2 ^ 44 + x.cycle % 2 ^ 44

/-- The sample indices as the register shows them. -/
def Mod.sampleIdx (m : Mod) (c : Nat) : Mod :=
  (m.set EPC_SAMPLE_IDX_PROD c (m.cl c).prod).set EPC_SAMPLE_IDX_CONS c (m.cl c).cons

/-- SAMPLE_RECORD (R303, R304): a tagged microword has completed. -/
def Mod.sampleStore (m : Mod) (key : Nat) (x : Sample) : Mod :=
  let c := key / 768
  let k := m.cl c
  let phys := m.physOf c (key / 48 % 16)
  let fill := (k.prod + 2 ^ 32 - k.cons) % 2 ^ 32
  if m.flag EPC_SAMPLE_CFG_STOP_FULL c ∧ 1024 ≤ fill then
    let m := m.satAdd EPC_SAMPLE_IDX_LOST c
    if k.fullRaised then m
    else (((m.setCl c { m.cl c with fullRaised := true }).sqcBit EPC_EVENT_EVENTS 1 c)).event (epcEv c phys 0x02 0)
  else
    (m.setCl c { k with samples := store k.samples (k.prod % 1024) (x.record (key % 48) phys), prod := (k.prod + 1) % 2 ^ 32 }).sampleIdx c

/-- The draw of the next sample's countdown (R303): uniform between N / 2 and 3 N / 2 − 1, so a free value in that range. -/
def Mod.sampleDrawn (m : Mod) (c phys : Nat) : Mod :=
  let n := m.get EPC_SAMPLE_CFG_PERIOD c
  let r := m.freshNat
  r.2.setCl c { r.2.cl c with countdown := store (r.2.cl c).countdown phys (n / 2 + r.1 % Nat.max 1 n) }

/-- A microword of a thread is issued, with or without a memory operation: whether it is tagged (R303). -/
def Mod.sampleIssue (m : Mod) (key : Nat) (memory : Bool) : Bool × Mod :=
  let c := key / 768
  let phys := m.physOf c (key / 48 % 16)
  if m.flag EPC_SAMPLE_CFG_EN c = false ∨ m.frozen c then (false, m)
  else
    let m := if (lookup (m.cl c).countdown phys).isSome then m else m.sampleDrawn c phys
    let left := lookupD (m.cl c).countdown phys 0
    let waits := (m.cl c).tagWaits.contains phys
    let due := waits || left ≤ 1
    let m := if left ≤ 1 then m.sampleDrawn c phys
      else m.setCl c { m.cl c with countdown := store (m.cl c).countdown phys (left - 1) }
    if due = false then (false, m)
    else if m.flag EPC_SAMPLE_CFG_MEM_ONLY c ∧ ¬ memory then
      (false, m.setCl c { m.cl c with tagWaits := insertNat (m.cl c).tagWaits phys })
    else (true, m.setCl c { m.cl c with tagWaits := eraseNat (m.cl c).tagWaits phys })

/-! ### Writes -/

/-- A cluster's freeze brought up to FREEZE and FREEZE_ALL (R305): each engine copies its cycle counter as it freezes. -/
def Mod.freezeUpdate (m : Mod) (c : Nat) : Mod :=
  let want := m.flag EPC_CTL_FREEZE c || m.flag EPC_GLB_CTL_FREEZE_ALL 0
  if want = m.frozen c then m
  else
    let m := m.set EPC_CTL_FROZEN c (b01 want)
    if want then (List.range 17).foldl (fun m e => m.set EPC_FREEZE_CYCLE_CYCLE (engineIdx c e) (m.engineCycle c e)) m else m

/-- A write to the sample CONS index (R304, R241): accepted when it moves forward and not past PROD. -/
def Mod.sampleCons (m : Mod) (c v : Nat) : Mod :=
  let k := m.cl c
  let step := (v + 2 ^ 16 - k.cons % 2 ^ 16) % 2 ^ 16
  if step ≤ (k.prod + 2 ^ 32 - k.cons) % 2 ^ 32 then
    (m.setCl c { k with cons := (k.cons + step) % 2 ^ 32, fullRaised := k.fullRaised && step == 0 }).sampleIdx c
  else m.sampleIdx c

/-- The data registers after a sample read (R304). -/
def Mod.sampleData (m : Mod) (c index : Nat) : List (Reg × Nat × Word) :=
  let v := lookupD (m.cl c).samples index 0
  [(.EPC_SAMPLE_DATA0, c, BitVec.ofNat 64 v), (.EPC_SAMPLE_DATA1, c, BitVec.ofNat 64 (v / 2 ^ 64))]

end Sys2Proof.Machine
end

