-- ==== Sys2Proof/Machine/Crc.lean ====
section
/-! DEFINITION. The cyclic checks: the CRC-32 of table hashes (R102), the carry check (R152) and the frame check sequence. -/

namespace Sys2Proof.Machine

/-- One bit of a w-bit CRC taken most significant bit first. -/
def crcBit (w poly c : Nat) (b : Bool) : Nat :=
  let s := c * 2 % 2 ^ w
  if (bit c (w - 1)) != b then s ^^^ poly else s

/-- One octet, most significant bit first. -/
def crcByte (w poly c : Nat) (x : Byte) : Nat :=
  [7, 6, 5, 4, 3, 2, 1, 0].foldl (fun c i => crcBit w poly c (bit x.toNat i)) c

/-- The CRC of octets from an initial value, with no reflection and no final inversion. -/
def crcMsb (w poly init : Nat) (l : List Byte) : Nat := l.foldl (crcByte w poly) init

/-- The CRC-32 of R102 and R127. -/
def crc32Hash (init : Nat) (l : List Byte) : Nat := crcMsb 32 0x04C11DB7 init l

/-- The carry check of R152: CRC-64 of ECMA-182. -/
def carryCheck (l : List Byte) : Nat := crcMsb 64 0x42F0E1EBA9EA3693 0 l

/-- One octet of the CRC-32 of IEEE 802.3, least significant bit first. -/
def fcsByte (c : Nat) (x : Byte) : Nat :=
  (List.range 8).foldl (fun c _ => if c % 2 = 1 then (c / 2) ^^^ 0xEDB88320 else c / 2) (c ^^^ x.toNat)

/-- The CRC-32 of IEEE 802.3 continued over octets from an uncomplemented remainder. -/
def fcsRun (c : Nat) (l : List Byte) : Nat := l.foldl fcsByte c

/-- The frame check sequence of octets. -/
def fcs (l : List Byte) : Nat := fcsRun 0xFFFFFFFF l ^^^ 0xFFFFFFFF

/-- The four octets of a frame check sequence as they are sent: least significant octet first. -/
def fcsOctets (c : Nat) : List Byte :=
  [BitVec.ofNat 8 c, BitVec.ofNat 8 (c / 256), BitVec.ofNat 8 (c / 65536), BitVec.ofNat 8 (c / 16777216)]

/-- A frame whose last four octets are the check sequence of the others. -/
def fcsGood (l : List Byte) : Bool :=
  decide (4 ≤ l.length) && (l.drop (l.length - 4) == fcsOctets (fcs (l.take (l.length - 4))))

/-- A frame with its check sequence appended, or with the bitwise complement of it as a stamp (R54). -/
def sealFrame (stamped : Bool) (l : List Byte) : List Byte :=
  l ++ fcsOctets (if stamped then fcs l ^^^ 0xFFFFFFFF else fcs l)

/-- The ones'-complement sum of 16-bit words, folded to 16 bits; a last odd octet is padded with zero. -/
def onesSum : List Byte → Nat
  | [] => 0
  | [a] => a.toNat * 256
  | a :: b :: t =>
    let s := a.toNat * 256 + b.toNat + onesSum t
    if s < 65536 then s else s - 65535

end Sys2Proof.Machine
end

