-- ==== Sys2Proof/Machine/Parser.lean ====
section
/-! DEFINITION. The parser: the walk of the parse graph (R70 to R77), the fields it extracts, and the keys built of them
(R79 to R81). -/

namespace Sys2Proof.Machine

/-- The fields of one layer: outer, inner, or of a tunnel within the tunnel, which fill no field of a key (R71, R80). -/
structure Layer where
  dmac : Nat := 0
  smac : Nat := 0
  etype : Nat := 0
  tcis : List Nat := []
  tpidSel : List Nat := []
  ip : Nat := 0
  sip : Nat := 0
  dip : Nat := 0
  proto : Nat := 0
  dscp : Nat := 0
  ecn : Nat := 0
  ttl : Nat := 0
  ipLen : Nat := 0
  flow : Nat := 0
  ext : Nat := 0
  sport : Nat := 0
  dport : Nat := 0
  tcpFlags : Nat := 0
  deriving DecidableEq, Repr

/-- The flags of the common part of a key (R79). -/
structure ParseFlags where
  frag : Bool := false
  fragFirst : Bool := false
  depthReached : Bool := false
  tunnel : Bool := false
  mpls : Bool := false
  l4 : Bool := false
  ipv6Ext : Bool := false
  options : Bool := false
  deriving DecidableEq, Repr

/-- The parser's walk: what it reads, where it stands, and what it has extracted. -/
structure Walk where
  data : List Byte
  depth : Nat
  tpids : Nat
  udpPorts : Nat
  csum : Bool
  trunc : Bool
  off : Nat := 0
  layer : Nat := 0
  openNext : Nat := 0
  ips : Nat := 0
  fromType : Nat := 0
  fromSel : Nat := 0
  /-- Tags of the current Ethernet layer; labels of every stack, and of the first one. -/
  tags : Nat := 0
  labels : Nat := 0
  labelStacks : Nat := 0
  first : List Nat := []
  udpMpls : Bool := false
  outer : Layer := {}
  inner : Layer := {}
  third : Layer := {}
  flags : ParseFlags := {}
  udf0 : Option Nat := none
  udf1 : Option Nat := none
  /-- Offsets after the octets of the two user-defined fields. -/
  udfEnd0 : Nat := 0
  udfEnd1 : Nat := 0
  tunType : Nat := 0
  tunId : Nat := 0
  /-- Offset after the outer Ethernet header and tags, and of the outer UDP header (0: none). -/
  l3 : Nat := 0
  /-- Offset of the outer IP header. -/
  ipAt : Nat := 0
  udp : Nat := 0
  /-- Failure code of R77, 0 for none. -/
  code : Nat := 0
  deriving DecidableEq, Repr

/-- End of the frame as the parser sees it (R73). -/
def Walk.fin (w : Walk) : Nat := w.data.length

/-- n octets at an offset as a number. -/
def Walk.at_ (w : Walk) (o n : Nat) : Nat := fieldAt w.data o n

/-- The layer being filled. -/
def Walk.cur (w : Walk) : Layer := if w.layer = 0 then w.outer else if w.layer = 1 then w.inner else w.third

/-- The layer being filled replaced. -/
def Walk.fill (w : Walk) (l : Layer) : Walk :=
  if w.layer = 0 then { w with outer := l } else if w.layer = 1 then { w with inner := l } else { w with third := l }

/-- A tunnel is met: the first one names TUN_TYPE and TUN_ID and opens the inner layer, one inside it opens a layer that
fills no field (R71, R80). -/
def Walk.tunnel (w : Walk) (kind ident : Nat) : Walk × Nat :=
  let w := { w with flags := { w.flags with tunnel := true } }
  if w.tunType = 0 then ({ w with tunType := kind, tunId := ident }, 1) else (w, 2)

/-- How a header's handler ends: the walk goes on, the parse ends, or it fails with a code. -/
inductive Visit where
  | go (w : Walk)
  | done (w : Walk)
  | fail (w : Walk) (code : Nat)
  deriving DecidableEq, Repr

/-- The index of the PAR_TPID entry that a TPID matches (R70, R80). -/
def tpidIndex (tpids v : Nat) : Option Nat :=
  (List.range 4).find? fun n => bits tpids (16 * n + 15) (16 * n) == v && v != 0

/-- The tags at the front of octets: each a non-zero entry of PAR_TPID and two octets more. -/
def tagRun (tpids : Nat) : List Byte → Nat
  | a :: b :: _ :: _ :: rest => if (tpidIndex tpids (a.toNat * 256 + b.toNat)).isSome then tagRun tpids rest + 1 else 0
  | _ => 0

/-- The VLAN tags of a frame's outer Ethernet layer, which every parse graph leaves as they are (R122). -/
def outerTags (tpids : Nat) (octets : List Byte) : Nat := tagRun tpids (octets.drop 12)

/-- EXT_SEEN bit of a next-header value (R76, R81). -/
def extBit (nh : Nat) : Option Nat :=
  if nh = 0 then some 0 else if nh = 43 then some 1 else if nh = 44 then some 2 else if nh = 60 then some 3
  else if nh = 51 then some 4 else if nh = 50 then some 5 else none

/-- An IPv6 extension header is seen. -/
def Walk.sawExt (w : Walk) (nh : Nat) : Walk :=
  match extBit nh with
  | some b => { w.fill { w.cur with ext := w.cur.ext ||| 2 ^ b } with flags := { w.flags with ipv6Ext := true } }
  | none => w

/-- The second IP header of a frame, and an IP header inside an IP tunnel, open a layer (R71). DESIGN CHOICE (log 66): TUNNEL and TUN_TYPE
stand although that header then fails a test of R76. -/
def Walk.enterIp (w : Walk) (version : Nat) : Walk :=
  let w := { w with ips := w.ips + 1 }
  if (w.ips = 2 ∧ w.layer = 0) ∨ (w.layer = 1 ∧ w.inner.ip ≠ 0) then
    let r := w.tunnel (if version = 4 then 3 else 4) 0
    { r.1 with layer := r.2 }
  else w

/-- A fragment ends the keying after its IP header (R75). -/
def Walk.fragment (w : Walk) (offset : Nat) : Visit :=
  .done { w with flags := { w.flags with frag := true, fragFirst := w.flags.fragFirst || decide (offset = 0) } }

/-- Ethernet (TYPE 1). -/
def Walk.ethernet (w : Walk) (o len : Nat) : Visit :=
  let w := w.fill { w.cur with dmac := w.at_ o 6, smac := w.at_ (o + 6) 6, etype := w.at_ (o + 12) 2, tcis := [], tpidSel := [] }
  .go { w with tags := 0, l3 := if w.layer = 0 then o + len else w.l3 }

/-- A VLAN tag (TYPE 2): TCI and the EtherType that follows; the tag before it was chosen by its TPID. -/
def Walk.vlan (w : Walk) (o len : Nat) : Visit :=
  if 4 ≤ w.tags then .fail w 5
  else
    let l := w.cur
    let w := w.fill { l with tcis := l.tcis ++ [w.at_ o 2], etype := w.at_ (o + 2) 2,
                             tpidSel := l.tpidSel ++ [(tpidIndex w.tpids w.fromSel).getD 0] }
    .go { w with tags := w.tags + 1, l3 := if w.layer = 0 then o + len else w.l3 }

/-- An MPLS label (TYPE 3). -/
def Walk.mplsLabel (w : Walk) (o : Nat) : Visit :=
  if 6 ≤ w.labels then .fail w 6
  else
    let v := w.at_ o 4
    let labelStacks := if w.fromType = 3 then w.labelStacks else w.labelStacks + 1
    let w := { w with labels := w.labels + 1, labelStacks := labelStacks, flags := { w.flags with mpls := true },
                      first := if labelStacks = 1 then w.first ++ [v] else w.first }
    if w.fromType = 8 ∧ w.udpMpls = false then
      let r := { w with udpMpls := true }.tunnel 5 (v / 4096)
      .go { r.1 with openNext := r.2 }
    else .go w

/-- IPv4 (TYPE 4); its version and IHL have been tested (R76, R77). -/
def Walk.ipv4 (w : Walk) (o len : Nat) : Visit :=
  let w := w.enterIp 4
  let total := w.at_ (o + 2) 2
  if w.csum ∧ onesSum (sliceBytes w.data o len) ≠ 0xFFFF then .fail w 3
  else if w.trunc = false ∧ w.fin < o + total then .fail w 4
  else
    let w := if w.layer = 0 then { w with ipAt := o } else w
    let w := w.fill { w.cur with ip := 4, dscp := w.at_ (o + 1) 1 / 4, ecn := w.at_ (o + 1) 1 % 4, ipLen := total,
                                 ttl := w.at_ (o + 8) 1, proto := w.at_ (o + 9) 1, sip := w.at_ (o + 12) 4,
                                 dip := w.at_ (o + 16) 4 }
    let w := if 5 < w.at_ o 1 % 16 then { w with flags := { w.flags with options := true } } else w
    let ff := w.at_ (o + 6) 2
    if ff % 16384 ≠ 0 then w.fragment (ff % 8192) else .go w

/-- IPv6 (TYPE 5). -/
def Walk.ipv6 (w : Walk) (o : Nat) : Visit :=
  let w := w.enterIp 6
  let len := w.at_ (o + 4) 2
  if len = 0 ∨ (w.trunc = false ∧ w.fin < o + 40 + len) then .fail w 4
  else
    let v := w.at_ o 4
    let w := if w.layer = 0 then { w with ipAt := o } else w
    .go (w.fill { w.cur with ip := 6, dscp := bits v 27 22, ecn := bits v 21 20, flow := bits v 19 0, ipLen := len,
                             proto := w.at_ (o + 6) 1, ttl := w.at_ (o + 7) 1, sip := w.at_ (o + 8) 16,
                             dip := w.at_ (o + 24) 16 })

/-- A layer-4 header's ports. DESIGN CHOICE (log 66): a layer-4 header sets L4_VALID in whichever layer it stands, as options and extension
headers set their flags of R79. -/
def Walk.ports (w : Walk) (o sport dport flags : Nat) : Walk :=
  let udp := if w.layer = 0 then o else w.udp
  { w.fill { w.cur with sport := sport, dport := dport, tcpFlags := flags } with
    flags := { w.flags with l4 := true }, udp := udp }

/-- VXLAN (TYPE 11): the I flag must be 1 for the parse to go on (R70). -/
def Walk.vxlan (w : Walk) (o : Nat) : Visit :=
  let r := w.tunnel 1 (w.at_ (o + 4) 3)
  if bit (w.at_ o 1) 3 then .go { r.1 with openNext := r.2 } else .done r.1

/-- GRE (TYPE 12). -/
def Walk.gre (w : Walk) (o : Nat) : Visit :=
  let h := w.at_ o 2
  let key := if bit h 13 then w.at_ (o + 4 + 4 * b01 (bit h 15)) 4 else 0
  let r := w.tunnel 2 key
  if h % 8 ≠ 0 ∨ bit h 14 then .done r.1 else .go { r.1 with openNext := r.2 }

/-- What a header of a type puts into the key, and the checks of R75 and R76. DESIGN CHOICE (log 66): of a fragmented IPv6 chain NH holds the
fragment header's own next-header value. -/
def Walk.header (w : Walk) (type o len : Nat) : Visit :=
  match type with
  | 1 => w.ethernet o len
  | 2 => w.vlan o len
  | 3 => w.mplsLabel o
  | 4 => w.ipv4 o len
  | 5 => w.ipv6 o
  | 6 => let w := w.sawExt w.fromSel; .go (w.fill { w.cur with proto := w.at_ o 1 })
  | 7 => let w := w.sawExt 44
         let w := w.fill { w.cur with proto := w.at_ o 1 }
         w.fragment (w.at_ (o + 2) 2 / 8)
  | 8 => .go (w.ports o (w.at_ o 2) (w.at_ (o + 2) 2) 0)
  | 9 => .go (w.ports 0 (w.at_ o 2) (w.at_ (o + 2) 2) (w.at_ (o + 13) 1))
  | 10 => .go (w.ports 0 (w.at_ o 2) 0 0)
  | 11 => w.vxlan o
  | 12 => w.gre o
  | _ => .go w

/-- Fields of a node's words (PAR_WIN_W0, PAR_WIN_W1). -/
structure Node where
  w0 : Nat
  w1 : Nat
  deriving DecidableEq, Repr

def Node.valid (n : Node) : Bool := bit n.w0 0
def Node.type (n : Node) : Nat := bits n.w0 19 16
def Node.lenFixed (n : Node) : Nat := bits n.w0 37 30
def Node.lenOff (n : Node) : Nat := bits n.w0 29 24
def Node.lenField (n : Node) : Nat := bits n.w0 23 22
def Node.lenScale (n : Node) : Nat := bits n.w0 21 20
def Node.selOff (n : Node) : Nat := bits n.w0 45 40
def Node.selWidth (n : Node) : Nat := bits n.w0 39 38

/-- The length of a header (R70 step 1; for GRE by its own C, K and S bits). -/
def Walk.length (w : Walk) (n : Node) (o : Nat) : Nat :=
  if n.type = 12 then
    let h := w.at_ o 1
    4 + 4 * (b01 (bit h 7) + b01 (bit h 5) + b01 (bit h 4))
  else
    let v := w.at_ (o + n.lenOff) 1
    let f := match n.lenField with
      | 0 => 0
      | 1 => v % 16
      | 2 => v / 16
      | _ => v
    n.lenFixed + f * 2 ^ n.lenScale

/-- The user-defined fields of a node's first visit (R71). -/
def Walk.udfs (w : Walk) (n : Node) (o : Nat) : Walk :=
  let pick (off : Nat) : Nat := if o + off + 2 ≤ Nat.min w.depth w.fin then w.at_ (o + off) 2 else 0
  let w0 := if bit n.w1 57 ∧ w.udf0 = none then some (pick (bits n.w1 63 58)) else w.udf0
  let w1 := if bit n.w1 50 ∧ w.udf1 = none then some (pick (bits n.w1 56 51)) else w.udf1
  { w with udf0 := w0, udf1 := w1,
           udfEnd0 := if w.udf0 = none then o + bits n.w1 63 58 + 2 else w.udfEnd0,
           udfEnd1 := if w.udf1 = none then o + bits n.w1 56 51 + 2 else w.udfEnd1 }

/-- What a header that ends the parse leaves of the user-defined fields: of a fragment, none that reaches beyond the fragmented IP header,
after which the fragment header of IPv6 stands (R75). -/
def Walk.ends (w : Walk) (n : Node) (o len : Nat) : Walk :=
  let w := { w.udfs n o with off := o + len }
  let stop := if n.type = 7 then o else o + len
  if w.flags.frag = false then w
  else { w with udf0 := if stop < w.udfEnd0 then some 0 else w.udf0, udf1 := if stop < w.udfEnd1 then some 0 else w.udf1 }

/-- A selector read (R70 step 3). -/
inductive Selector where
  | beyondDepth
  | beyondEnd
  | value (v : Nat)
  deriving DecidableEq, Repr

/-- The selector of a node at its header. A node with SEL_WIDTH 0 reads a selector of 0. -/
def Walk.selector (w : Walk) (n : Node) (o : Nat) : Selector :=
  let last := if n.type = 3 then some (o + 4)
    else if n.selWidth = 1 then some (o + n.selOff)
    else if n.selWidth = 2 then some (o + n.selOff + 1)
    else none
  match last with
  | none => .value 0
  | some e =>
    if w.depth ≤ e then .beyondDepth
    else if w.fin ≤ e then .beyondEnd
    else if n.type = 3 then .value (w.at_ (o + 2) 1 % 2 * 256 + w.at_ (o + 4) 1)
    else .value (w.at_ (o + n.selOff) (if n.selWidth = 1 then 1 else 2))

/-- Whether a transition entry leaves a node on a selector (R70 step 4); an 8-bit selector is compared with bits [48:41] alone. -/
def Walk.transition (w : Walk) (node sel : Nat) (n : Node) (e : Nat) : Bool :=
  bit e 63 && bits e 62 57 == node &&
    match bits e 17 16 with
    | 0 => ((sel ^^^ bits e 56 41) &&& bits e 40 25 &&& (if n.selWidth = 1 ∧ n.type ≠ 3 then 0xFF else 0xFFFF)) == 0
    | 1 => n.selWidth == 2 && (tpidIndex w.tpids sel).isSome
    | 2 => sel == bits w.udpPorts 15 0
    | _ => sel == bits w.udpPorts 31 16

/-- The visits of the walk, at most fuel of them (R70, R72). -/
def walkFrom (nodes : Nat → Node) (trans : List (Nat × Word)) : Nat → Nat → Walk → Walk
  | 0, _, w => { w with code := 7 }
  | fuel + 1, i, w =>
    let n := nodes i
    if n.valid = false ∨ n.type = 0 then { w with code := 8 }
    else
      let w := { w with layer := Nat.max w.layer w.openNext, openNext := 0 }
      let o := w.off
      let lenAt := if n.type = 12 then some o else if n.lenField = 0 then none else some (o + n.lenOff)
      let beyondDepth := { w with flags := { w.flags with depthReached := true } }
      if lenAt.any (w.depth ≤ ·) then beyondDepth
      else if lenAt.any (w.fin ≤ ·) then { w with code := 1 }
      else if n.type = 4 ∧ o < Nat.min w.depth w.fin ∧ (w.at_ o 1 / 16 ≠ 4 ∨ w.at_ o 1 % 16 < 5) then { w with code := 2 }
      else
        let len := w.length n o
        if w.depth < o + len then beyondDepth
        else if w.fin < o + len then { w with code := 1 }
        else
          match w.header n.type o len with
          | .fail w c => { w with code := c }
          | .done w => w.ends n o len
          | .go w =>
            let w := w.udfs n o
            let after := { w with off := o + len }
            let miss (w : Walk) (sel : Nat) : Walk :=
              if bit n.w0 48 then { w with code := 8 }
              else if bit n.w0 49 then w
              else walkFrom nodes trans fuel (bits n.w0 55 50) { w with fromType := n.type, fromSel := sel }
            match w.selector n o with
            | .beyondDepth => { after with flags := { after.flags with depthReached := true } }
            | .beyondEnd => miss after 0
            | .value sel =>
              let after := if (n.type = 5 ∨ n.type = 6) ∧ sel = 50 then after.sawExt 50 else after
              match trans.find? fun e => after.transition i sel n e.2.toNat with
              | none => miss after sel
              | some (_, e) =>
                walkFrom nodes trans fuel (bits e.toNat 24 19)
                  { after with fromType := n.type, fromSel := sel,
                               openNext := if bit e.toNat 18 then Nat.max after.openNext 1 else after.openNext }

/-- The parse of a frame's stored octets for a Hedge (R70 to R77). The parser sees the octets before the FCS, or all stored
octets of a truncated frame (R73). -/
def Mod.parse (m : Mod) (hedge : Nat) (octets : List Byte) (trunc : Bool) : Walk :=
  let nodes (i : Nat) : Node := let p := lookupD m.cls.nodes i (0, 0); ⟨p.1.toNat, p.2.toNat⟩
  walkFrom nodes m.cls.trans 32 (m.get PAR_HEDGE_CFG_ROOT_NODE hedge)
    { data := if trunc then octets else octets.take (octets.length - 4), depth := 16 * m.get PAR_HEDGE_CFG_DEPTH hedge,
      tpids := (m.rd .PAR_TPID).toNat, udpPorts := (m.rd .PAR_UDP_PORTS).toNat,
      csum := m.flag PAR_HEDGE_CFG_IPV4_CSUM hedge, trunc := trunc }

/-! ### Keys -/

/-- Group bit of a MAC address. -/
def macGroup (mac : Nat) : Bool := bit mac 40

/-- The FLAGS of a key (R79). -/
def Walk.flagBits (w : Walk) (err internal : Bool) : Nat :=
  let f := w.flags
  [f.frag, f.fragFirst, f.depthReached, f.tunnel, w.outer.ip == 4, w.outer.ip == 6, f.mpls, f.l4, w.inner.ip == 4,
    w.inner.ip == 6, f.ipv6Ext, f.options, macGroup w.outer.dmac, err, w.trunc, internal].zipIdx.foldl
      (fun a b => a + b01 b.1 * 2 ^ b.2) 0

/-- Fields packed from the most significant end: value and width. -/
def packBits (l : List (Nat × Nat)) : Nat := l.foldl (fun a f => a * 2 ^ f.2 + f.1 % 2 ^ f.2) 0

/-- The common part of every key, 64 bits (R79). -/
def Walk.common (w : Walk) (hedge src : Nat) (err : Bool) : Nat :=
  packBits [(hedge, 4), (src, 8), (w.flagBits err (decide (128 ≤ src)), 16), (w.udf0.getD 0, 16), (w.udf1.getD 0, 16), (0, 4)]

/-- VID, PCP and DEI of tag 0. -/
def Layer.tci0 (l : Layer) : Nat := l.tcis.headD 0

/-- FMT 0, bits [255:0] (R80). -/
def Walk.keyL2 (w : Walk) : Nat :=
  let l := w.outer
  let tci (k : Nat) := (l.tcis.getD k 0, 16)
  let lab (k : Nat) := w.first.getD k 0
  let bos := (w.first.find? fun v => bit v 8).getD 0
  packBits ([(l.dmac, 48), (l.smac, 48), (l.etype, 16), tci 0, tci 1, tci 2, tci 3, (l.tcis.length, 3)] ++
    [(l.tpidSel.getD 0 0, 2), (l.tpidSel.getD 1 0, 2), (l.tpidSel.getD 2 0, 2), (l.tpidSel.getD 3 0, 2)] ++
    [(w.first.length, 3), (lab 0 / 4096, 20), (lab 0 / 512, 3), (lab 1 / 4096, 20), (lab 1 / 512, 3), (bos / 4096, 20)])

/-- A field of the outer IP header of one version, else zero (R80). -/
def Walk.ifIp (w : Walk) (version : Nat) (v : Nat) : Nat := if w.outer.ip = version then v else 0

/-- FMT 1, bits [255:0]. -/
def Walk.keyV4 (w : Walk) : Nat :=
  let l := w.outer
  let f := w.ifIp 4
  packBits [(f l.sip, 32), (f l.dip, 32), (f l.proto, 8), (f l.dscp, 6), (f l.ecn, 2), (f l.ttl, 8), (l.sport, 16), (l.dport, 16),
    (l.tcpFlags, 8), (f l.ipLen, 16), (l.tci0, 12), (l.tci0 / 8192, 3), (l.tci0 / 4096, 1), (l.etype, 16), (l.dmac, 48), (0, 32)]

/-- FMT 2, bits [255:0]. -/
def Walk.keyV6 (w : Walk) : Nat :=
  let l := w.outer
  let f := w.ifIp 6
  packBits [(f l.dip, 128), (f l.sip / 2 ^ 64, 64), (f l.proto, 8), (f l.dscp, 6), (f l.ecn, 2), (f l.ttl, 8), (l.sport, 16),
    (l.dport, 16), (l.tcpFlags, 8)]

/-- FMT 3, bits [255:0]. -/
def Walk.keyTunnel (w : Walk) : Nat :=
  let o := w.outer
  let l := w.inner
  let odip := if w.tunType = 0 then 0 else o.dip
  packBits [(w.tunType, 4), (w.tunId, 32), (odip, 32), (l.dmac, 48), (l.etype, 16), (l.sip, 32), (l.dip, 32), (l.proto, 8),
    (l.sport, 16), (l.dport, 16), (l.dscp, 6), (0, 14)]

/-- FMT 4, bits [575:0] (R81). -/
def Walk.keyV6Full (w : Walk) : Nat :=
  let l := w.outer
  let f := w.ifIp 6
  packBits ([(f l.sip, 128), (f l.dip, 128), (f l.proto, 8), (f l.dscp, 6), (f l.ecn, 2), (f l.ttl, 8), (f l.flow, 20)] ++
    [(l.sport, 16), (l.dport, 16), (l.tcpFlags, 8), (f l.ext, 8), (f l.ipLen, 16), (l.tci0, 12), (l.tci0 / 8192, 3)] ++
    [(l.tci0 / 4096, 1), (l.etype, 16), (l.dmac, 48), (l.smac, 48), (0, 84)])

/-- The key of a format: 320 bits, or 640 for the paired formats 4 and 5. -/
def Walk.key (w : Walk) (fmt hedge src : Nat) (err : Bool) : Nat :=
  let c := w.common hedge src err
  match fmt with
  | 0 => packBits [(c, 64), (w.keyL2, 256)]
  | 1 => packBits [(c, 64), (w.keyV4, 256)]
  | 2 => packBits [(c, 64), (w.keyV6, 256)]
  | 3 => packBits [(c, 64), (w.keyTunnel, 256)]
  | 4 => packBits [(c, 64), (w.keyV6Full, 576)]
  | _ => packBits [(c, 64), (w.keyL2, 256), (w.keyV4, 256), (0, 64)]

end Sys2Proof.Machine
end

