-- ==== Sys2Proof/Machine/Clip.lean ====
section
/-! DEFINITION. Clippings: the record (R238, R239), selection (R235, R236), the Hedge's bucket and the writers (R242). -/

namespace Sys2Proof.Machine

/-- What a record holds beside its frame's own fields (R239). -/
structure Clipping where
  reason : Nat
  port : Nat
  egress : Bool
  hedge : Nat
  flags : Nat
  carry : Nat
  other : Nat
  octets : List Byte
  stamp : Nat
  deriving DecidableEq, Repr

/-- The 256 octets of a record as a number, DROPPED zero (R239): it captures min(SNAP, stored length) octets, or all that the copy
has where that is fewer (R238). -/
def Clipping.word (c : Clipping) (f : Frame) (tick snap : Nat) : Nat :=
  let cap := Nat.min (Nat.min snap f.octets.length) c.octets.length
  packBits ([(0, 16), (timeSec c.stamp, 48), (timeNs c.stamp, 32), (timeFrac c.stamp, 16), (0, 16), (tick, 64)] ++
    [(c.reason, 8), (c.port, 8), (b01 c.egress, 1), (c.hedge, 4), (f.cls, 3), (f.colour, 2), (f.qsel, 8)] ++
    [(Nat.min f.recvLen 16383, 14), (cap, 8), (c.flags, 8), (c.carry, 2), (c.other, 8), (f.stream.getD 0, 16)] ++
    [(b01 f.stream.isSome, 1), (0, 37), (f.carry, 64), (0, 64), (0, 64), (beNat (sliceBytes c.octets 0 cap), 8 * cap)] ++
    [(0, 1536 - 8 * cap)])

/-- A FENCE record (R239, R244). -/
def fenceRecord (h tick token : Nat) : Nat :=
  packBits [(0, 128), (tick, 64), (0, 8), (0, 9), (h, 4), (0, 43), (0, 64), (0, 64), (token, 32), (0, 32), (0, 64), (0, 1536)]

/-- A record with DROPPED filled in: word 6 bits [15:0]. -/
def withDropped (w n : Nat) : Nat := w + Nat.min n 65535 * 2 ^ 1600

/-- Records a ring holds, halved when a channel is lost (R240, R243). -/
def Mod.clipCapacity (m : Mod) (h : Nat) : Nat :=
  m.get CLP_RING_CFG_SIZE h * (if m.clp.lost = [] then 4096 else 2048)

/-- Records written and not consumed. -/
def Mod.clipFill (m : Mod) (h : Nat) : Nat := (m.get CLP_RING_PROD_PROD h + 2 ^ 32 - m.get CLP_RING_CONS_CONS h) % 2 ^ 32

/-- Module address of record i of ring h: its place in the region, or in the remaining channel's part of it (R240, R243). -/
def Mod.clipAddr (m : Mod) (h i : Nat) : Nat :=
  let pos := i % Nat.max 1 (m.clipCapacity h)
  let base := m.get CLP_RING_CFG_BASE h
  match m.clp.lost with
  | [] => base * 0x100000 + pos * 256
  | c :: _ => let o := base * 0x80000 + pos * 256
              o / 256 * 512 + (1 - c) * 256

/-- Records in the buffer of channel c's writer. -/
def Mod.writerFill (m : Mod) (c : Nat) : Nat := (m.clp.recs.filter (·.ch == c)).length

/-- The writers' fills, and panic asserted at PANIC_LVL and released at RELEASE_LVL (R242). -/
def Mod.writerLevels (m : Mod) : Mod :=
  let level (m : Mod) (fill panic : Fld) (c : Nat) : Mod :=
    let n := m.writerFill c
    let m := m.set fill 0 n
    if m.get CLP_CFG_PANIC_LVL ≤ n then m.set panic 0 1
    else if n ≤ m.get CLP_CFG_RELEASE_LVL then m.set panic 0 0 else m
  level (level m CLP_STATUS_FILL0 CLP_STATUS_PANIC0 0) CLP_STATUS_FILL1 CLP_STATUS_PANIC1 1

/-- A record of ring h is dropped: its counter, and DROPPED of the next record (R242). -/
def Mod.clipDrop (m : Mod) (h ctr : Nat) : Mod :=
  let m := m.bump (clpCtr h ctr)
  { m with clp := { m.clp with dropped := store m.clp.dropped h (lookupD m.clp.dropped h 0 + 1) } }

/-- Tokens of Hedge h's bucket now, in 10⁻⁹ record (R242): RATE_K thousand records a second up to BURST. -/
def Mod.clipTokens (m : Mod) (h : Nat) : Nat :=
  let cap := m.get CLP_HEDGE_CFG_BURST h * 1000000000
  match lookup m.clp.tokens h with
  | some (v, t) => Nat.min cap (v + (m.now - t) * m.get CLP_HEDGE_CFG_RATE_K h * 1000)
  | none => cap

/-- The writer a new record of ring h enters: the channel of its expected index, or the one channel left (R240, R243). -/
def Mod.clipChannel (m : Mod) (h : Nat) : Nat :=
  match m.clp.lost with
  | [] => (m.get CLP_RING_PROD_PROD h + (m.clp.recs.filter (·.hedge == h)).length) % 2
  | c :: _ => 1 - c

/-- The writers' buffer depth (R242). -/
def writerDepth : Nat := 1024

/-- A record offered to the ring of Hedge h: its bucket, then its writer (R235, R242 to R244). -/
def Mod.clipOffer (m : Mod) (h : Nat) (w : Nat) : Mod :=
  if m.flag CLP_HEDGE_CFG_EN h = false ∨ m.get CLP_RING_CFG_SIZE h = 0 then m
  else if 2 ≤ m.clp.lost.length then m.clipDrop h 5
  else if m.clp.markers.any (·.1 == h) then m.clipDrop h 2
  else
    let t := m.clipTokens h
    if t < 1000000000 then m.clipDrop h 1
    else
      let m := { m with clp := { m.clp with tokens := store m.clp.tokens h (t - 1000000000, m.now) } }
      let c := m.clipChannel h
      if writerDepth ≤ m.writerFill c then
        ((m.clipDrop h 2).sqc CLP_EVENT_DROP).eventRated 0xF020000
          { blk := 0x0F, code := 0x02, hedge := h, detail := h * 256 + c, rings := [h] }
      else (m.withClp { m.clp with recs := m.clp.recs ++ [{ hedge := h, ch := c, word := w }] }).writerLevels

/-- A fence marker, its record made as the fence was accepted (R239), enters its writer. -/
def Mod.fenceEnter (m : Mod) (h word : Nat) : Mod :=
  let r : ClipRec := { hedge := h, ch := m.clipChannel h, word := word, fence := true }
  (m.withClp { m.clp with recs := m.clp.recs ++ [r] }).writerLevels

/-- A fence marker bypasses selection and the bucket; it waits when its writer has no room (R244). -/
def Mod.clipFence (m : Mod) (h token : Nat) : Mod :=
  if m.flag CLP_HEDGE_CFG_EN h = false ∨ m.get CLP_RING_CFG_SIZE h = 0 then m
  else if 2 ≤ m.clp.lost.length then m.clipDrop h 5
  else
    let word := fenceRecord h m.tickNum token
    if writerDepth ≤ m.writerFill (m.clipChannel h) ∨ m.clp.markers.any (·.1 == h) then
      { m with clp := { m.clp with markers := m.clp.markers ++ [(h, word)] } }
    else m.fenceEnter h word

/-- Whether Hedge h selects a cause (R236). -/
def Mod.clipSelects (m : Mod) (h bitNo : Nat) : Bool := (m.get CLP_HEDGE_SEL_SEL h).testBit (bitNo - 1)

/-- One draw of a sampler that takes one frame in N; 0 is off (R237). -/
def Mod.sampleDraw (m : Mod) (n : Nat) : Bool × Mod :=
  if n = 0 then (false, m) else let r := m.freshNat; (r.1 % n == 0, r.2)

/-- A draw of the ingress sampler of front port p. -/
def Mod.drawIn (m : Mod) (p : Nat) : Bool × Mod := if 128 ≤ p then (false, m) else m.sampleDraw (m.get CLP_PORT_SAMPLE_IN_N p)

/-- The counters of an ingress sampler that has considered a frame of port p. -/
def Mod.countIn (m : Mod) (p : Nat) (taken : Bool) : Mod :=
  if 128 ≤ p then m
  else
    let m := m.bump (m.clpPortCtr p 0)
    if taken then m.bump (m.clpPortCtr p 1) else m

/-- An ingress sampler considers a good or oversize frame of front port p (R237); what it drew at a cut-through decision stands. -/
def Mod.sampleIn (m : Mod) (p : Nat) (drawn : Option Bool) : Bool × Mod :=
  match drawn with
  | some b => (b, m.countIn p b)
  | none =>
    let r := m.drawIn p
    (r.1, r.2.countIn p r.1)

/-- The egress sampler considers a copy that leaves front port p (R237). -/
def Mod.sampleOut (m : Mod) (p : Nat) : Bool × Mod :=
  if 128 ≤ p then (false, m)
  else
    let m := m.bump (m.clpPortCtr p 2)
    let r := m.sampleDraw (m.get CLP_PORT_SAMPLE_OUT_N p)
    (r.1, if r.1 then r.2.bump (r.2.clpPortCtr p 3) else r.2)

/-- The FLAGS a frame gives a record (R239). -/
def clipFlags (f : Frame) (classifier sampled txTs : Bool) : Nat :=
  b01 f.trunc + 2 * b01 f.ct + 4 * b01 classifier + 8 * b01 sampled + 32 * b01 f.poison + 64 * b01 f.rxErr + 128 * b01 txTs

/-- The cause of the highest precedence at the ingress point (R235). -/
def ingressCause (disc : Option Nat) (trunc classifier sampled : Bool) : Option Nat :=
  match disc with
  | some r => some r
  | none => if trunc then some 0x04 else if classifier then some 0x01 else if sampled then some 0x02 else none

/-- The ingress record of a frame, for its Hedge h: disc is REASON and CLP_HEDGE_SEL bit of a frame-level discard, dest its one
destination or 255 (R235, R238, R239). A frame discarded before its end has come writes its discard at once; every other ingress
record needs the whole frame, and waits for its end (R238). -/
def Mod.clipIngress (m : Mod) (h : Nat) (f : Frame) (disc : Option (Nat × Nat)) (dest : Nat) : Mod :=
  let disc := disc.bind fun d => if m.clipSelects h d.2 then some d.1 else none
  if f.exported then m
  else if f.early && disc.isNone then m.withClp { m.clp with later := store m.clp.later f.source (h, f, dest) }
  else
    let s := if f.early || f.unsampled then (false, m) else m.sampleIn f.source f.sampled
    let m := s.2
    let trunc := f.trunc && m.clipSelects h 22
    let classifier := f.qsel / 32 == 1
    match ingressCause disc trunc classifier s.1 with
    | none => m
    | some reason =>
      let c : Clipping := { reason := reason, port := f.source, egress := false, hedge := h,
                            flags := clipFlags f classifier s.1 false, carry := 0, other := dest, octets := f.octets,
                            stamp := f.stamp }
      m.clipOffer h (c.word f m.tickNum (m.get CLP_HEDGE_CFG_SNAP h))

/-- The egress record of a copy discarded before it left (R235, R238): reason 0x40 + n, carry the CARRY field. -/
def Mod.clipCopyDiscard (m : Mod) (f : Frame) (d n carry : Nat) : Mod :=
  if f.exported || !(m.clipSelects f.hedge n) then m
  else
    let c : Clipping := { reason := 0x40 + n, port := d, egress := true, hedge := f.hedge,
                          flags := clipFlags f (f.qsel / 32 == 1) false false, carry := carry, other := f.source,
                          octets := f.octets, stamp := f.stamp }
    m.clipOffer f.hedge (c.word f m.tickNum (m.get CLP_HEDGE_CFG_SNAP f.hedge))

/-- The egress record of a copy that left (R235, R238): a stamp's cause and its select bit, or a sample. -/
def Mod.clipCopyLeft (m : Mod) (f : Frame) (d : Nat) (stamp : Option (Nat × Nat)) (carry : Nat) (octets : List Byte)
    (ttx : Nat) : Mod :=
  if f.exported then m
  else
    let s := m.sampleOut d
    let m := s.2
    let stamp := stamp.bind fun x => if m.clipSelects f.hedge x.2 then some x.1 else none
    match stamp.orElse fun _ => if s.1 then some 0x03 else none with
    | none => m
    | some reason =>
      let c : Clipping := { reason := reason, port := d, egress := true, hedge := f.hedge,
                            flags := clipFlags f (f.qsel / 32 == 1) s.1 true, carry := carry, other := f.source,
                            octets := octets, stamp := stampNet ttx }
      m.clipOffer f.hedge (c.word f m.tickNum (m.get CLP_HEDGE_CFG_SNAP f.hedge))

/-- A writer stores the oldest record of its buffer that no earlier record of the same ring precedes, or drops it under
FULL_MODE; a fence marker waits for room (R241, R244). -/
def Mod.recordStored (m : Mod) (r : ClipRec) : Mod :=
  let i := m.get CLP_RING_PROD_PROD r.hedge
  let w := if r.fence then r.word else withDropped r.word (lookupD m.clp.dropped r.hedge 0)
  let m := m.drmPost .clippings r.hedge (m.clipAddr r.hedge i) (toBytes 256 w)
  let m := m.set CLP_RING_PROD_PROD r.hedge (i + 1)
  let m := if r.fence then m else { m with clp := { m.clp with dropped := remove m.clp.dropped r.hedge } }
  m.bump (clpCtr r.hedge 0)

/-- The ring is full. -/
def Mod.clipFull (m : Mod) (h : Nat) : Bool := decide (m.clipCapacity h ≤ m.clipFill h)

/-- RING_FULL, at most once per second per Hedge (R241). -/
def Mod.ringFullEvent (m : Mod) (h : Nat) : Mod :=
  (m.sqc CLP_EVENT_DROP).eventRated (0xF010000 + h) { blk := 0x0F, code := 0x01, hedge := h, detail := h * 256, rings := [h] }

/-- The record a writer takes. -/
def Mod.nextRecord (m : Mod) (c : Nat) : Option ClipRec :=
  (m.clp.recs.zipIdx.find? fun e => e.1.ch == c && !((m.clp.recs.take e.2).any (·.hedge == e.1.hedge))).map (·.1)

/-- A fence marker finds a full stop-mode ring: it waits, before the ring's later markers, and the ring's later records are dropped
until it is written (R244). -/
def Mod.fenceBlocked (m : Mod) (r : ClipRec) : Mod :=
  let later := m.clp.recs.filter (·.hedge == r.hedge)
  let waits := (r :: later.filter (·.fence)).map fun x => (x.hedge, x.word)
  let m := m.withClp { m.clp with recs := m.clp.recs.filter (·.hedge != r.hedge), markers := waits ++ m.clp.markers }
  ((later.filter fun x => !x.fence).foldl (fun m _ => m.clipDrop r.hedge 3) m).writerLevels

/-- The write queue of a writer's channel has no room for a record's four granules (R316). -/
def Mod.writerBlocked (m : Mod) (c : Nat) : Bool :=
  decide (124 < (m.drm.reqs.filter fun r => r.write && r.channel == c).length)

/-- Room has come in a ring or a writer: fence markers that wait enter (R244), unless no channel is left (R243). -/
def Mod.clipSettle (m : Mod) : Mod :=
  m.clp.markers.foldl (fun m mk =>
    if 2 ≤ m.clp.lost.length ∨ m.clp.markers.find? (·.1 == mk.1) ≠ some mk ∨
        writerDepth ≤ m.writerFill (m.clipChannel mk.1) ∨
        (m.clipFull mk.1 ∧ m.get CLP_HEDGE_CFG_FULL_MODE mk.1 = 0) then m
    else (m.withClp { m.clp with markers := m.clp.markers.erase mk }).fenceEnter mk.1 mk.2) m

/-- What becomes of a writer's next record: it is stored, waits as a fence, or meets FULL_MODE (R241, R244). -/
def Mod.recordTaken (m : Mod) (r : ClipRec) : Mod :=
  let overwrite := m.flag CLP_HEDGE_CFG_FULL_MODE r.hedge
  if m.clipFull r.hedge = false then m.recordStored r
  else if overwrite then
    let m := m.set CLP_RING_CONS_CONS r.hedge (m.get CLP_RING_CONS_CONS r.hedge + 1)
    ((m.bump (clpCtr r.hedge 4)).recordStored r).ringFullEvent r.hedge
  else if r.fence then m.fenceBlocked r
  else (m.clipDrop r.hedge 3).ringFullEvent r.hedge

/-- RECORD_WRITE: the writer of channel c stores its next record (R241), and has room for a marker that waits (R244). With no channel
left nothing is written (R243). -/
def Mod.recordWrite (m : Mod) (c : Nat) : Mod :=
  match if m.writerBlocked c || decide (2 ≤ m.clp.lost.length) then none else m.nextRecord c with
  | none => m
  | some r => ((m.withClp { m.clp with recs := m.clp.recs.erase r }).writerLevels.recordTaken r).clipSettle

/-- The Clippings writer of channel ch is in panic (R322). -/
def Mod.writerPanics (m : Mod) (ch : Nat) : Bool := m.flag (if ch = 0 then CLP_STATUS_PANIC0 else CLP_STATUS_PANIC1)

end Sys2Proof.Machine
end

