-- ==== Sys2Proof/Machine/Classify.lean ====
section
/-! DEFINITION. The classifier: counting rules, the merge of slices, the default maps (R82 to R85) and the exception
buckets (R94). -/

namespace Sys2Proof.Machine

/-- A rule matches a key of 320 bits (R82). -/
def Rule.hits (r : Rule) (key : Nat) : Bool := r.valid && ((key ^^^ r.key) &&& r.mask) == 0

/-- The counting rule of a slice or pair for a frame (R84): its action word. A pair matches when both halves do (R81, R82). DESIGN CHOICE (log
66): a slice of FMT 4 or 5 without PAIR compares the low half of the key. -/
def Mod.countingRule (m : Mod) (s hedge src : Nat) (w : Walk) (err : Bool) : Option Word :=
  if m.flag CLS_SLICE_CFG_EN s && m.get CLS_SLICE_CFG_OWNER s == hedge then
    let key := w.key (m.get CLS_SLICE_CFG_FMT s) hedge src err
    if m.flag CLS_SLICE_CFG_PAIR s then
      (m.cls.rules.find? fun e => e.1 / 2048 == s && e.2.hits (key / 2 ^ 320) &&
        (lookup m.cls.rules (e.1 + 2048)).any (·.hits (key % 2 ^ 320))).map (·.2.act)
    else (m.cls.rules.find? fun e => e.1 / 2048 == s && e.2.hits (key % 2 ^ 320)).map (·.2.act)
  else none

/-- A slice that is the odd half of a pair (R81). -/
def Mod.pairedOdd (m : Mod) (s : Nat) : Bool := s % 2 == 1 && m.flag CLS_SLICE_CFG_PAIR (s - 1)

/-- The slices with their counting rules, in priority order (R84). -/
def Mod.counting (m : Mod) (hedge src : Nat) (w : Walk) (err : Bool) : List (Nat × Word) :=
  let hits := (List.range 24).filterMap fun s =>
    if m.pairedOdd s then none else (m.countingRule s hedge src w err).map fun a => (s, a)
  hits.mergeSort fun a b => decide (m.get CLS_SLICE_CFG_PRIO a.1 * 32 + a.1 ≤ m.get CLS_SLICE_CFG_PRIO b.1 * 32 + b.1)

/-- What the classifier decides (R83). -/
structure Verdict where
  cls : Nat
  colour : Nat
  qsel : Nat
  deriving DecidableEq, Repr

/-- The default class and colour of a frame (R85). -/
def Mod.defaults (m : Mod) (hedge : Nat) (w : Walk) : Nat × Nat :=
  let fixed := (m.get CLS_HEDGE_CFG_DEF_CLASS hedge, m.get CLS_HEDGE_CFG_DEF_COLOUR hedge)
  let entry (r : Reg) (per e : Nat) : Nat × Nat :=
    let v := (m.rd r (per * hedge + e / 8)).toNat / 2 ^ (8 * (e % 8))
    (v % 8, v / 8 % 4)
  let pcp := match w.outer.tcis with
    | [] => fixed
    | t :: _ => entry .CLS_PCP_MAP 2 (t / 4096 % 16)
  match m.get CLS_HEDGE_CFG_DEF_MODE hedge with
  | 0 => pcp
  | 1 => if w.outer.ip ≠ 0 then entry .CLS_DSCP_MAP 8 w.outer.dscp else pcp
  | _ => fixed

/-- The classification of a frame, with its counters (R82 to R85, R96). -/
def Mod.classify (m : Mod) (hedge src : Nat) (w : Walk) (err : Bool) : Verdict × Mod :=
  let hits := m.counting hedge src w err
  let pick (en lo width : Nat) : Option Nat :=
    (hits.find? fun e => e.2.toNat.testBit en).map fun e => e.2.toNat / 2 ^ lo % 2 ^ width
  let d := m.defaults hedge w
  let m := hits.foldl (fun m e => m.bump (m.sliceCtr e.1)) m
  let m := if hits = [] then m.bump (clsCtr hedge 66) else m
  ({ cls := (pick 0 1 3).getD d.1, colour := (pick 4 5 2).getD d.2, qsel := (pick 7 8 8).getD 0 }, m)

/-- One frame's worth of exception tokens. -/
def excFrame : Nat := 1000000000

/-- A full exception bucket (R94). -/
def Mod.excBurst (m : Mod) (h r : Nat) : Nat := m.get CLS_EXC_TB_BURST (32 * h + r) * excFrame

/-- A frame takes a token of its exception bucket, or is discarded and counted (R94). A bucket never charged holds BURST. -/
def Mod.excTake (m : Mod) (h r : Nat) : Bool × Mod :=
  let k := 32 * h + r
  let have_ := lookupD m.cls.excTokens k (m.excBurst h r)
  if excFrame ≤ have_ then (true, { m with cls := { m.cls with excTokens := store m.cls.excTokens k (have_ - excFrame) } })
  else
    let m := m.bump (clsCtr h (32 + r))
    let quiet := match lookup m.cls.excLast k with
      | some t => decide (t + oneSecond ≤ m.now)
      | none => true
    let m := { m with cls := { m.cls with excLast := store m.cls.excLast k m.now } }
    (false, if quiet then (m.sqc CLS_EVENT_EXC_LIMIT).event { blk := 0x07, code := 0x02, hedge := h, detail := r * 256, rings := [h] }
      else m)

/-- At a commit, every exception bucket that is below BURST gains RATE × tick period (R94). -/
def Mod.excRefill (m : Mod) : Mod :=
  let fill (e : Nat × Nat) : Nat × Nat :=
    (e.1, Nat.min (e.2 + m.get CLS_EXC_TB_RATE e.1 * m.period) (m.excBurst (e.1 / 32) (e.1 % 32)))
  { m with cls := { m.cls with excTokens := m.cls.excTokens.map fill } }

/-- An exception bucket reset to BURST, as its register commits or its Hedge is reset (R94, R350). -/
def Mod.excReset (m : Mod) (k : Nat) : Mod :=
  { m with cls := { m.cls with excTokens := store m.cls.excTokens k (m.excBurst (k / 32) (k % 32)) } }

end Sys2Proof.Machine
end

