-- ==== Sys2Proof/Machine/Forward.lean ====
section
/-! DEFINITION. Forwarding: VLAN resolution, the FDB and learning, destinations, stream identification and FRER, load
balancing and longest-prefix match (R98 to R136). -/

namespace Sys2Proof.Machine

/-- A number with bits [hi:lo] replaced. -/
def putBits (v hi lo x : Nat) : Nat := v - bits v hi lo * 2 ^ lo + x % 2 ^ (hi + 1 - lo) * 2 ^ lo

/-! ### Tables -/

/-- Key of entry i of direct-indexed table t (FDB_TBL_CMD). -/
def tblKey (t i : Nat) : Nat := t * 262144 + i

/-- Entry i of table t; zero, and so not valid, when it has not been written. -/
def Mod.tbl (m : Mod) (t i : Nat) : Nat := lookupD m.fwd.tbl (tblKey t i) 0

/-- Entry i of table t replaced. -/
def Mod.setTbl (m : Mod) (t i v : Nat) : Mod :=
  m.withFwd { m.fwd with tbl := storeUnless 0 m.fwd.tbl (tblKey t i) v }

/-- An event of the FDB block (R136). -/
def fdbEvent (code hedge qual : Nat) (rings : List Nat) : Ev :=
  { blk := 0x08, code := code, hedge := hedge, detail := hedge * 256 + qual % 256, rings := rings }

/-! ### The FDB -/

def feValid (e : Nat) : Bool := bit e 127
def feFid (e : Nat) : Nat := bits e 126 113
def feMac (e : Nat) : Nat := bits e 112 65
def feStatic (e : Nat) : Bool := bit e 64
def feSticky (e : Nat) : Bool := bit e 63
def feHit (e : Nat) : Bool := bit e 62
def feAge (e : Nat) : Nat := bits e 61 59
def feSrcDiscard (e : Nat) : Bool := bit e 58
def feKind (e : Nat) : Nat := bits e 57 55
def feDest (e : Nat) : Nat := bits e 54 43
def feIdx (e : Nat) : Nat := bits e 42 27
def feUseStream (e : Nat) : Bool := bit e 26
def feUseNh (e : Nat) : Bool := bit e 25

/-- The Hedge of a FID (R101). -/
def fidHedge (fid : Nat) : Nat := bits fid 13 10

/-- The bucket of a key (R102). -/
def Mod.fdbBucket (m : Mod) (fid mac : Nat) : Nat :=
  let c := crc32Hash (m.get FDB_CFG_FDB_SEED) (toBytes 2 fid ++ toBytes 6 mac)
  (c / 65536) ^^^ (c % 65536)

/-- First location of the Thicket, and the number after the last location. -/
def thicket : Nat := 262144
/-- See thicket. -/
def fdbLocations : Nat := 266240

/-- The location of a key within its bucket (R103). -/
def Mod.fdbHome (m : Mod) (fid mac : Nat) : Option (Nat × Nat) :=
  let b := m.fdbBucket fid mac
  m.fwd.fdb.find? fun e => e.1 / 4 == b && decide (e.1 < thicket) && feFid e.2 == fid && feMac e.2 == mac

/-- The location of a key within the Thicket. -/
def Mod.fdbThick (m : Mod) (fid mac : Nat) : Option (Nat × Nat) :=
  m.fwd.fdb.find? fun e => decide (thicket ≤ e.1) && feFid e.2 == fid && feMac e.2 == mac

/-- The location and entry of a key: the bucket's before the Thicket's (R104). -/
def Mod.fdbFind (m : Mod) (fid mac : Nat) : Option (Nat × Nat) := (m.fdbHome fid mac).orElse fun _ => m.fdbThick fid mac

/-- An entry stored at a location; one that is not valid is removed. -/
def Mod.fdbSet (m : Mod) (loc e : Nat) : Mod :=
  m.withFwd { m.fwd with fdb := if feValid e then store m.fwd.fdb loc e else remove m.fwd.fdb loc }

/-- A lookup (R104): a key that stands in both places loses its Thicket entry, which is counted and raised. -/
def Mod.fdbLookup (m : Mod) (fid mac : Nat) : Option (Nat × Nat) × Mod :=
  match m.fdbHome fid mac, m.fdbThick fid mac with
  | some a, some b =>
    let h := fidHedge fid
    let m := (m.fdbSet b.1 0).bump (fdbCtr h 7)
    (some a, (m.sqc FDB_EVENT_THICKET_DUP).event (fdbEvent 0x02 h 0 [h]))
  | some a, none => (some a, m)
  | none, b => (b, m)

/-- Valid entries of Hedge h, and its STATIC ones (R108). -/
def Mod.fdbCount (m : Mod) (h : Nat) : Nat := (m.fwd.fdb.filter fun e => fidHedge (feFid e.2) == h).length
/-- See fdbCount. -/
def Mod.fdbStatics (m : Mod) (h : Nat) : Nat :=
  (m.fwd.fdb.filter fun e => fidHedge (feFid e.2) == h && feStatic e.2).length

/-- The lowest free way of a bucket, then the lowest free Thicket entry (R107). -/
def Mod.fdbFree (m : Mod) (b : Nat) : Option Nat :=
  ((List.range 4).map (b * 4 + ·)).find? (fun l => (lookup m.fwd.fdb l).isNone) |>.orElse fun _ =>
    let used := (m.fwd.fdb.filter fun e => decide (thicket ≤ e.1)).map (·.1)
    if 4096 ≤ used.length then none
    else ((List.range (used.length + 1)).map (thicket + ·)).find? fun l => !(used.contains l)

/-- How an insertion ends (R107, R108): FDB_WIN_CMD's status values. -/
def insDone : Nat := 0
/-- See insDone. -/
def insFull : Nat := 2
/-- See insDone. -/
def insQuota : Nat := 3

/-- QUOTA_FULL, at most once per second (R136). -/
def Mod.quotaFull (m : Mod) (h : Nat) : Mod :=
  (m.sqc FDB_EVENT_QUOTA_FULL).eventRated 0x8040000 (fdbEvent 0x04 h 0 [h])

/-- No room for a key: FAIL_COUNT of its bucket, and LEARN_FAIL at most once per second (R107). -/
def Mod.fdbNoRoom (m : Mod) (h b : Nat) : Mod :=
  let m := m.withFwd { m.fwd with fails := store m.fwd.fails b (Nat.min 255 (lookupD m.fwd.fails b 0 + 1)) }
  ((m.bump (fdbCtr h 1)).sqc FDB_EVENT_LEARN_FAIL).eventRated 0x8010000 (fdbEvent 0x01 h 0 [h])

/-- An insertion of an entry whose key is in it (R107, R108): its location and status. -/
def Mod.fdbInsert (m : Mod) (e : Nat) : (Nat × Nat) × Mod :=
  let fid := feFid e
  let h := fidHedge fid
  match m.fdbFind fid (feMac e) with
  | some (loc, _) => ((loc, insDone), m.fdbSet loc e)
  | none =>
    if m.get FDB_HEDGE_CFG_QUOTA h ≤ m.fdbCount h then ((0, insQuota), m.quotaFull h)
    else
      let b := m.fdbBucket fid (feMac e)
      match m.fdbFree b with
      | some loc => ((loc, insDone), m.fdbSet loc e)
      | none => ((0, insFull), m.fdbNoRoom h b)

/-- The entry a learn request makes (R105). -/
def LearnReq.entry (r : LearnReq) : Nat := 2 ^ 127 + r.fid * 2 ^ 113 + r.mac * 2 ^ 65 + r.kind * 2 ^ 55 + r.dest * 2 ^ 43

/-- A Hedge is resetting: it admits and learns nothing (R350). -/
def Mod.resetting (m : Mod) (h : Nat) : Bool := m.flag BUF_HEDGE_STATUS_RESETTING h || m.hdg.resets.any (·.hedge == h)

/-- LEARN_INSERT: the oldest learn request is inserted (R106 to R108, R110); a STATIC entry is never altered by one. -/
def Mod.learnInsert (m : Mod) : Mod :=
  match m.fwd.learn with
  | [] => m
  | r :: rest =>
    let m := m.withFwd { m.fwd with learn := rest }
    let h := fidHedge r.fid
    match m.fdbFind r.fid r.mac with
    | some (loc, e) => if feStatic e || feSticky e then m else m.fdbSet loc (putBits (putBits e 57 55 r.kind) 54 43 r.dest)
    | none =>
      if m.get FDB_HEDGE_CFG_QUOTA h ≤ m.fdbCount h then (m.bump (fdbCtr h 2)).quotaFull h
      else
        let ins := m.fdbInsert r.entry
        if ins.1.2 = insDone then ins.2.bump (fdbCtr h 0) else ins.2

/-- The cluster that serves an engine service queue, with re-homing (R274). -/
def Mod.queueCluster (m : Mod) (q : Nat) : Nat :=
  let c := m.get ENG_SQ_CFG_CLUSTER q
  if m.get ENG_CLUSTER_STATUS_STATE c = 3 ∨ m.get ENG_CLUSTER_STATUS_STATE c = 4 then m.get ENG_CLUSTER_CTL_REHOME c else c

/-- A learn request under LEARN_MODE 2 becomes a job on a service queue (R106). The spec gives the descriptor no content
beside the opcode and the queue: the other bits are a free value. -/
def Mod.assistJob (m : Mod) (h : Nat) : Mod :=
  let q := m.get FDB_HEDGE_CFG_ASSIST_QUEUE h
  let c := m.queueCluster q
  if m.flag ENG_SQ_CFG_EN q = false ∨ (m.cl c).queueFull 2 then m.bump (fdbCtr h 3)
  else
    let f := m.fresh
    let d := BitVec.ofNat 128 (f.1.toNat * 2 ^ 64 + h * 2 ^ 32 + q * 2 ^ 24 + m.get ENG_SQ_CFG_OPCODE q)
    f.2.setCl c ((f.2.cl c).push 2 { desc := d, hedge := 0, kind := .push })

/-- A source lookup asks for its address to be learned (R105, R106). -/
def Mod.learnAsk (m : Mod) (r : LearnReq) : Mod :=
  let h := fidHedge r.fid
  if m.resetting h then m
  else if m.get FDB_HEDGE_CFG_LEARN_MODE h = 2 then m.assistJob h
  else if m.fwd.learn.any fun q => q.fid == r.fid && q.mac == r.mac then m
  else if 4096 ≤ m.fwd.learn.length then m.bump (fdbCtr h 3)
  else m.withFwd { m.fwd with learn := m.fwd.learn ++ [r] }

/-- The destination form of R105 for a front port. -/
def Mod.learnForm (m : Mod) (p : Nat) : Nat × Nat :=
  if m.flag FDB_PORT_CFG_LAG_MEMBER p then (1, m.get FDB_PORT_CFG_LAG p) else (0, p)

/-- MOVE_BLOCKED, at most once per second (R109). -/
def Mod.moveBlocked (m : Mod) (h : Nat) : Mod :=
  ((m.bump (fdbCtr h 5)).sqc FDB_EVENT_MOVE_BLOCKED).eventRated 0x8030000 (fdbEvent 0x03 h 0 [h])

/-- The source lookup of a frame from port p (R98, R105, R109, R116): the entry it hit, whether the frame is discarded, and the counter that counts
the discard. A frame from an internal source (128 on) is never learned, and having no ingress port it is no station move. -/
def Mod.sourceLookup (m : Mod) (p vlan fid mac : Nat) : Option Nat × Option Nat × Mod :=
  let h := fidHedge fid
  let form := m.learnForm p
  let r := m.fdbLookup fid mac
  let m := r.2
  match r.1 with
  | none =>
    if decide (p < 128) && bit vlan 24 && m.flag FDB_PORT_CFG_LEARN_EN p && m.get FDB_HEDGE_CFG_LEARN_MODE h != 0 && !(macGroup mac) then
      (none, none, m.learnAsk { fid := fid, mac := mac, kind := form.1, dest := form.2 })
    else (none, none, m)
  | some (loc, e) =>
    let moved := p < 128 ∧ form ≠ (feKind e, feDest e)
    let blocked := moved ∧ (feStatic e = true ∨ feSticky e = true)
    let e' := if blocked then e else putBits e 62 62 1
    let e' := if moved ∧ ¬ blocked then putBits (putBits e' 57 55 form.1) 54 43 form.2 else e'
    let m := m.fdbSet loc e'
    let m := if blocked then m.moveBlocked h else if moved then m.bump (fdbCtr h 4) else m
    if feSrcDiscard e then (some e', some 10, m.bump (fdbCtr h 10))
    else if blocked ∧ m.flag FDB_PORT_CFG_MOVE_DISCARD p then (some e', some 5, m)
    else (some e', none, m)

/-! ### Groups, load balancing, LAGs -/

/-- A front port is up (R46). -/
def Mod.portUp (m : Mod) (p : Nat) : Bool := m.get PRT_PORT_STATUS_STATE p == 2

/-- The load-balance hash (R127). -/
def Mod.lbHash (m : Mod) (w : Walk) : Nat :=
  let useInner := m.flag FDB_CFG_LB_INNER && w.flags.tunnel && w.inner.ip != 0
  let l := if useInner then w.inner else w.outer
  let octets :=
    if l.ip = 4 then toBytes 4 l.sip ++ toBytes 4 l.dip ++ toBytes 1 l.proto ++ toBytes 2 l.sport ++ toBytes 2 l.dport
    else if l.ip = 6 then toBytes 16 l.sip ++ toBytes 16 l.dip ++ toBytes 1 l.proto ++ toBytes 2 l.sport ++ toBytes 2 l.dport
    else toBytes 6 l.dmac ++ toBytes 6 l.smac ++ toBytes 2 l.etype ++ toBytes 2 (l.tci0 % 4096)
  crc32Hash (m.get FDB_CFG_LB_SEED * 2) octets

/-- The slots of LAG n that are in use (R128). -/
def Mod.lagSlots (m : Mod) (n : Nat) : Nat :=
  let e := m.tbl 5 n
  if bit e 63 ∧ 1 ≤ bits e 6 0 ∧ bits e 6 0 ≤ 64 then bits e 6 0 else 0

/-- The port in slot k of LAG n. -/
def Mod.lagMember (m : Mod) (n k : Nat) : Nat := bits (m.tbl 6 (n * 64 + k)) 6 0

/-- The member of LAG n that carries a flow (R128): from slot C' mod SLOTS on, the first whose port is up. -/
def Mod.lagPick (m : Mod) (n hash : Nat) : Option Nat :=
  let slots := m.lagSlots n
  let c := hash / 65536 + hash % 65536 * 65536
  (((List.range slots).map fun j => m.lagMember n ((c % slots + j) % slots)).find? m.portUp)

/-- What a lookup resolves to before expansion (R103, R113, R125). -/
inductive Res where
  | port (d : Nat)
  | lag (n : Nat)
  | group (g : Nat)
  | gap (g : Nat)
  /-- No destination, with the counter of R135 that counts it. -/
  | drop (ctr : Nat)
  /-- The exception path with reason 16 (R129). -/
  | miss
  deriving DecidableEq, Repr

/-- A destination kind of R103 and its number. -/
def Res.ofKind (kind dest : Nat) : Res :=
  match kind with
  | 0 => .port dest
  | 1 => .lag dest
  | 2 => .group dest
  | 3 => .gap dest
  | _ => .drop 14

/-- A next hop names a retired port directly (R66). -/
def Mod.hopRetired (m : Mod) (i : Nat) : Bool :=
  let e := m.tbl 2 i
  bit e 127 && bits e 126 124 == 0 && decide (bits e 123 112 < 128) && m.get PRT_PORT_STATUS_STATE (bits e 123 112) == 5

/-- The next hop that an ECMP group of count slots uses (R126): slot C mod COUNT. DESIGN CHOICE (log 69): where that next hop names a retired
port directly, the next slot in increasing order, wrapping, whose next hop does not (R66). -/
def Mod.ecmpMember (m : Mod) (g count hash : Nat) : Nat :=
  let slot (j : Nat) : Nat := bits (m.tbl 4 (g * 64 + (hash + j) % count)) 15 0
  (((List.range count).map slot).find? fun i => !(m.hopRetired i)).getD (slot 0)

/-- A next hop's result (R125): its index and destination; ECMP resolves once (R126). -/
def Mod.nextHopDest (m : Mod) (i : Nat) (viaEcmp : Bool) (hash : Nat) : Option Nat × Res :=
  let e := m.tbl 2 i
  if bit e 127 = false then (none, .drop 14)
  else
    match bits e 126 124 with
    | 0 => (some i, .port (bits e 123 112))
    | 1 => (some i, .lag (bits e 123 112))
    | 2 =>
      if viaEcmp then (none, .drop 16)
      else
        let g := bits e 123 112
        let ge := m.tbl 3 g
        let count := bits ge 6 0
        if bit ge 63 = false ∨ count = 0 ∨ 64 < count then (none, .drop 16)
        else
          let j := m.ecmpMember g count hash
          let f := m.tbl 2 j
          if bit f 127 = false then (none, .drop 14)
          else
            match bits f 126 124 with
            | 0 => (some j, .port (bits f 123 112))
            | 1 => (some j, .lag (bits f 123 112))
            | 2 => (none, .drop 16)
            | _ => (none, .drop 14)
    | _ => (none, .drop 14)

/-- An ECMP group's result (R126). -/
def Mod.ecmpDest (m : Mod) (g hash : Nat) : Option Nat × Res :=
  let ge := m.tbl 3 g
  let count := bits ge 6 0
  if bit ge 63 = false ∨ count = 0 ∨ 64 < count then (none, .drop 16)
  else m.nextHopDest (m.ecmpMember g count hash) true hash

/-! ### Longest-prefix match -/

/-- One walk of a trie from a node's entry on (R130): the deepest result. base is the node's first entry in the trie table. -/
def trieWalk (trie : List (Nat × Word)) : List Nat → Nat → Option Nat → Option Nat
  | [], _, best => best
  | i :: rest, base, best =>
    let e := (lookupD trie (base + i) 0).toNat
    let best := if bit e 62 then some e else best
    if bit e 63 then trieWalk trie rest (4194304 + 256 * bits e 61 47) best else best

/-- The trie lookup of an address of Hedge h (R130): kind and index of the result. -/
def Mod.trieLookup (m : Mod) (h version addr : Nat) : Option (Nat × Nat) :=
  let f := if version = 4 then 0 else 1
  if m.flag LPM_ROOT_VALID (2 * h + f) then
    let width := if version = 4 then 32 else 128
    let steps := addr / 2 ^ (width - 16) ::
      (List.range ((width - 16) / 8)).map fun k => addr / 2 ^ (width - 24 - 8 * k) % 256
    (trieWalk m.fwd.trie steps (65536 * m.get LPM_ROOT_ROOT (2 * h + f)) none).map fun e => (bits e 46 45, bits e 44 29)
  else none

/-- The associative lookup (R133): the matching entry with the lowest index. -/
def Mod.assocLookup (m : Mod) (h version addr : Nat) : Option (Nat × Nat) :=
  let width := if version = 4 then 32 else 128
  let hit := m.fwd.assoc.find? fun e =>
    let d0 := e.2.1.toNat
    let a := if version = 4 then e.2.2.2.toNat % 2 ^ 32 else e.2.2.1.toNat * 2 ^ 64 + e.2.2.2.toNat
    let len := bits d0 57 50
    bit d0 63 && bits d0 62 59 == h && bit d0 58 == (version == 6) && decide (len ≤ width) &&
      a / 2 ^ (width - len) == addr / 2 ^ (width - len)
  hit.map fun e => (bits e.2.1.toNat 49 48, bits e.2.1.toNat 47 32)

/-- The LPM path of a routed frame (R129, R131): the next hop and the destination, and whether the result is to discard. -/
def Mod.lpmDest (m : Mod) (h version addr hash : Nat) : (Option Nat × Res) × Bool :=
  let assoc := if version = 4 then m.flag LPM_CFG_V4_MODE else m.flag LPM_CFG_V6_MODE
  match (if assoc then m.assocLookup h version addr else m.trieLookup h version addr) with
  | none => ((none, .miss), false)
  | some (0, i) => (m.nextHopDest i false hash, false)
  | some (1, g) => (m.ecmpDest g hash, false)
  | some _ => ((none, .drop 14), true)

/-- A router MAC of Hedge h (R124). -/
def Mod.routerMac (m : Mod) (h mac : Nat) : Bool :=
  (List.range 64).any fun i => let e := m.tbl 7 i
    bit e 63 && bits e 51 48 == h && bits e 47 0 == mac

/-! ### Streams -/

/-- The key of the stream identification table (R120). -/
def Walk.streamKey (w : Walk) (hedge vid : Nat) : Nat :=
  let l := w.outer
  packBits [(hedge, 4), (vid, 12), (b01 (l.ip == 6), 1), (l.dscp, 6), (l.proto, 8), (l.sport, 16), (l.dport, 16), (l.sip, 128),
    (l.dip, 128), (0, 1)]

/-- The handle of IP stream identification (R120). -/
def Mod.ipStream (m : Mod) (key : Nat) : Option Nat :=
  ((List.range 1024).find? fun i =>
    bit (m.tbl 12 i) 63 && ((key ^^^ m.tbl 10 i) &&& m.tbl 11 i) == 0).map fun i => bits (m.tbl 12 i) 15 0

/-- The handle of a frame (R119): IP identification before source before null; a routed frame uses only IP. -/
def Mod.streamHandle (m : Mod) (vlan hedge vid : Nat) (w : Walk) (routed : Bool) (src dst : Option Nat) : Option Nat :=
  let ids := bits vlan 19 17
  let pick (e : Option Nat) : Option Nat := e.bind fun e => if feUseStream e then some (feIdx e) else none
  let ip := if bit ids 2 ∧ w.outer.ip ≠ 0 then m.ipStream (w.streamKey hedge vid) else none
  let s := if bit ids 1 ∧ ¬ routed then pick src else none
  let n := if bit ids 0 ∧ ¬ routed then pick dst else none
  (ip.orElse fun _ => s).orElse fun _ => n

/-- The R-TAG of a frame (R122): it follows the last VLAN tag of the outer Ethernet layer, whatever the parse graph. Its sequence number. -/
def rtagOf (octets : List Byte) (tags : Nat) : Option Nat :=
  if fieldAt octets (12 + 4 * tags) 2 = 0xF1C1 then some (fieldAt octets (16 + 4 * tags) 2) else none

/-- Numbers lost as the window moves delta places: zero bits that leave a history of hl bits. -/
def frerLost (hist hl delta : Nat) : Nat :=
  ((List.range (Nat.min delta hl)).filter fun j => !(hist.testBit (hl - 1 - j))).length + (delta - hl)

/-- A recovery entry takes a number (R122): the entry afterwards, whether the frame passes, and the counters it raises. HISTORY
bit k stands for REC_SEQ − k. -/
def frerRecover (e seq : Nat) : Nat × Bool × List (Nat × Nat) :=
  let rec_ := bits e 83 68
  let hist := bits e 67 36
  let hl := bits e 125 120
  let set (takeAny r h : Nat) := putBits (putBits (putBits e 100 100 takeAny) 83 68 r) 67 36 h
  if bit e 100 then (set 0 seq 1, true, [(0, 1)])
  else if bit e 126 then
    if seq = rec_ then (e, false, [(1, 1)])
    else (set 0 seq 1, true, if seq = (rec_ + 1) % 65536 then [(0, 1)] else [(0, 1), (2, 1)])
  else
    let delta := (seq + 65536 - rec_) % 65536
    if delta = 0 then (e, false, [(1, 1)])
    else if delta < 32768 then
      if hl ≤ delta then (e, false, [(1, 1), (3, 1)])
      else (set 0 seq (hist * 2 ^ delta % 2 ^ hl + 1), true,
            (0, 1) :: (4, frerLost hist hl delta) :: if delta = 1 then [] else [(2, 1)])
    else
      let back := 65536 - delta
      if hl ≤ back then (e, false, [(1, 1), (3, 1)])
      else if hist.testBit back then (e, false, [(1, 1)])
      else (set 0 rec_ (hist + 2 ^ back), true, [(0, 1), (2, 1)])

/-- The FRER actions a frame leaves with: its number, R-TAG push and pop. -/
structure FrerAct where
  seq : Option Nat := none
  push : Bool := false
  pop : Bool := false
  deriving DecidableEq, Repr

/-- A frame passes recovery entry f (R122): its housekeeping counts RESET_MS from now. -/
def Mod.frerPassed (m : Mod) (f : Nat) : Mod := m.withFwd { m.fwd with frerLast := store m.fwd.frerLast f m.now }

/-- The FRER role of a stream (R122): none is a discarded frame. A frame that TAGLESS_PASS lets by counts as passed. -/
def Mod.frer (m : Mod) (se : Nat) (rtag : Option Nat) : Option FrerAct × Mod :=
  let f := bits se 45 32
  let e := m.tbl 9 f
  match bits se 31 30, bit e 127 with
  | 1, true =>
    let seq := bits e 99 84
    (some { seq := some seq, push := bit e 103 }, (m.setTbl 9 f (putBits e 99 84 (seq + 1))).bump (frerCtr f 7))
  | 2, true =>
    match rtag with
    | none =>
      if bit e 101 then (some {}, (m.frerPassed f).bump (frerCtr f 0)) else (none, m.bump (frerCtr f 6))
    | some seq =>
      let r := frerRecover e seq
      let m := r.2.2.foldl (fun m c => if c.2 = 0 then m else m.bump (frerCtr f c.1) c.2) (m.setTbl 9 f r.1)
      if r.2.1 then
        (some { seq := some seq, pop := bit e 102 }, m.frerPassed f)
      else (none, m)
  | _, _ => (some {}, m)

/-- FRER_RESET: microcode sets TAKE_ANY when no frame has passed for RESET_MS (R122). -/
def Mod.frerReset (m : Mod) (f : Nat) : Mod :=
  let e := m.tbl 9 f
  let ms := bits e 119 104
  if bit e 127 ∧ ms ≠ 0 ∧ bit e 100 = false ∧ lookupD m.fwd.frerLast f 0 + ms * 1000000 ≤ m.now then
    (m.setTbl 9 f (putBits e 100 100 1)).bump (frerCtr f 5)
  else m

end Sys2Proof.Machine
end

