-- ==== Sys2Proof/Machine/Buffer.lean ====
section
/-! DEFINITION. The shared buffer: charging (R145, R146, R148), admission (R143, R147, R160 to R162), the reference count
(R144) and the discards of R165. -/

namespace Sys2Proof.Machine

/-- Number of one bits among the low n. -/
def popcount (n v : Nat) : Nat := ((List.range n).filter v.testBit).length

/-- Cells of a frame of L stored octets (R138). -/
def cells (l : Nat) : Nat := ceilDiv l 256

/-- Cells a frame holds charged. -/
def Frame.cells (f : Frame) : Nat := f.guar + f.shared + f.hdrm

/-- The class is lossless in a Hedge (R147). -/
def Mod.lossless (m : Mod) (h c : Nat) : Bool := (m.get BUF_HEDGE_CLASS_LOSSLESS h).testBit c

/-- The sum of all guarantees and of the headroom of every front port's lossless classes (R139, R146). -/
def Mod.reserved (m : Mod) : Nat :=
  let guar := (List.range 16).foldl (fun a h => a + m.get BUF_HEDGE_CFG_GUAR h) 0
  let head := (List.range 128).foldl (fun a p =>
    let hd := m.get BUF_PORT_PFC_HDRM p
    if hd = 0 then a else a + hd * popcount 8 (m.get BUF_HEDGE_CLASS_LOSSLESS (m.owner p))) 0
  guar + head

/-- S: the size of the shared pool (R146). -/
def Mod.sharedSize (m : Mod) : Nat := m.get BUF_CAPACITY_USABLE - m.reserved

/-- BUF_CAPACITY shows the usable cells and the banks that no spare replaces (R139). -/
def Mod.usableShown (m : Mod) : Mod :=
  (m.set BUF_CAPACITY_USABLE 0 (8192 * (48 - m.buf.banksLost.length))).set BUF_CAPACITY_UNGRAFTED 0 m.buf.banksLost.length

/-- A retired bank that no spare replaces lowers the usable count (R139). -/
def Mod.usableLess (m : Mod) (bank : Nat) : Mod :=
  (m.withBuf { m.buf with banksLost := insertNat m.buf.banksLost bank }).usableShown

/-- GUAR is lowered, of the highest-numbered Hedge with a guarantee first, until guarantees and headroom fit the usable count (R139). -/
def Mod.lowerGuarantees (m : Mod) : Mod :=
  (List.range 16).foldr (fun h m =>
    let excess := m.reserved - m.get BUF_CAPACITY_USABLE
    let guar := m.get BUF_HEDGE_CFG_GUAR h
    if excess = 0 ∨ guar = 0 then m else m.set BUF_HEDGE_CFG_GUAR h (guar - Nat.min excess guar)) m

/-- Shared cells in use. -/
def Mod.sharedUsed (m : Mod) : Nat := (List.range 16).foldl (fun a h => a + m.get BUF_HEDGE_STATUS_SHARED_USED h) 0

/-- F: the free cells of the shared pool (R146). -/
def Mod.sharedFree (m : Mod) : Nat := m.sharedSize - m.sharedUsed

/-- Cells in the free pool (BUF_STATUS): stored frames and frames still arriving hold the others (R138). -/
def Mod.freeCells (m : Mod) : Nat :=
  let arriving := m.buf.arriving.foldl (fun a e => if e.2.ct then a else a + e.2.frame.cells) 0
  m.get BUF_CAPACITY_USABLE - m.buf.frames.foldl (fun a e => a + e.2.cells) 0 - arriving

/-- v × hf(k) = v × 2^(k − 6), in whole cells (R147). -/
def hfTimes (k v : Nat) : Nat := v * 2 ^ k / 64

/-! ### Charging -/

/-- The room a frame's cells find: its guarantee, the shared pool, and for a lossless frame of a front port its headroom and
the state of XOFF. -/
structure Room where
  guar : Nat
  free : Nat
  lossless : Bool
  xoff : Bool
  inShared : Nat
  xoffTh : Nat
  xoffFree : Nat
  hdrm : Nat
  deriving DecidableEq, Repr

/-- Cells charged, and the discard code of the cell that found no source of charge (0: every cell found one). -/
structure Charged where
  guar : Nat := 0
  shared : Nat := 0
  hdrm : Nat := 0
  fail : Nat := 0
  deriving DecidableEq, Repr

/-- Cells charged one after another (R145, R148): the guarantee first; then headroom once XOFF holds for a lossless class; else
the shared pool. -/
def chargeCells (r : Room) : Nat → Charged → Charged
  | 0, a => a
  | n + 1, a =>
    if a.guar < r.guar then chargeCells r n { a with guar := a.guar + 1 }
    else if r.lossless ∧ (r.xoff ∨ r.xoffTh ≤ r.inShared + a.shared ∨ r.free - a.shared < r.xoffFree) then
      if a.hdrm < r.hdrm then chargeCells r n { a with hdrm := a.hdrm + 1 } else { a with fail := 8 }
    else if a.shared < r.free then chargeCells r n { a with shared := a.shared + 1 }
    else { a with fail := 1 }

/-- The room of a frame of source s, Hedge h and class c. -/
def Mod.room (m : Mod) (s h c : Nat) : Room :=
  let key := 8 * s + c
  { guar := m.get BUF_HEDGE_CFG_GUAR h - m.get BUF_HEDGE_STATUS_GUAR_USED h, free := m.sharedFree,
    lossless := m.lossless h c && decide (s < 128), xoff := m.buf.xoff.contains key,
    inShared := lookupD m.buf.inShared key 0, xoffTh := if s < 128 then m.get BUF_PORT_PFC_XOFF_TH s else 0,
    xoffFree := m.get BUF_CFG_XOFF_FREE,
    hdrm := if s < 128 then m.get BUF_PORT_PFC_HDRM s - lookupD m.buf.inHdrm key 0 else 0 }

/-- A counted field raised or lowered. -/
def Mod.raise (m : Mod) (f : Fld) (i n : Nat) : Mod := m.set f i (m.get f i + n)
/-- See raise. -/
def Mod.lower (m : Mod) (f : Fld) (i n : Nat) : Mod := m.set f i (m.get f i - n)

/-- A count in a sparse table raised or lowered. -/
def countUp (l : List (Nat × Nat)) (k n : Nat) : List (Nat × Nat) := storeUnless 0 l k (lookupD l k 0 + n)
/-- See countUp. -/
def countDown (l : List (Nat × Nat)) (k n : Nat) : List (Nat × Nat) := storeUnless 0 l k (lookupD l k 0 - n)

/-- Port p sends PFC for class n (R49). -/
def Mod.sendsPfc (m : Mod) (p n : Nat) : Bool := m.get PRT_FC_CFG_MODE p == 2 && (m.get PRT_FC_CFG_GEN p).testBit n

/-- The buffer signals XOFF for (p, n): the count, and the PFC frame port p then owes (R49, R148). -/
def Mod.xoffAssert (m : Mod) (key : Nat) : Mod :=
  let p := key / 8
  let n := key % 8
  let m := (m.withBuf { m.buf with xoff := insertNat m.buf.xoff key }).bump (m.destCtr p 17)
  if m.sendsPfc p n then
    (m.set PRT_PORT_STATUS_XOFF p (m.get PRT_PORT_STATUS_XOFF p ||| 2 ^ n)).withPrt
      { m.prt with pfcOwed := store m.prt.pfcOwed p (lookupD m.prt.pfcOwed p 0) }
  else m

/-- The buffer releases XOFF for (p, n): the port owes a frame with quanta 0 for the class (R49, R148). -/
def Mod.xoffRelease (m : Mod) (key : Nat) : Mod :=
  let p := key / 8
  let n := key % 8
  let m := m.withBuf { m.buf with xoff := eraseNat m.buf.xoff key }
  if (m.get PRT_PORT_STATUS_XOFF p).testBit n then
    (m.set PRT_PORT_STATUS_XOFF p (m.get PRT_PORT_STATUS_XOFF p - 2 ^ n)).withPrt
      { m.prt with pfcOwed := store m.prt.pfcOwed p (lookupD m.prt.pfcOwed p 0 ||| 2 ^ n) }
  else m

/-- PRT_FC_CFG of port p has changed (R49): PFC frames go out for the classes it generates, those under XOFF at once, and for no
other class any more (DEDUCED: no frame with quanta 0 follows where the signal has not released). -/
def Mod.pfcReconfigured (m : Mod) (p : Nat) : Mod :=
  let sends := bitsOf 8 fun n => m.sendsPfc p n
  let xoff := bitsOf 8 fun n => m.sendsPfc p n && m.buf.xoff.contains (8 * p + n)
  let was := m.get PRT_PORT_STATUS_XOFF p
  let owed := lookup m.prt.pfcOwed p
  let released := owed.getD 0 &&& sends
  let owes := (List.range 8).any (fun n => xoff.testBit n && !(was.testBit n)) || (owed.isSome && (xoff != 0 || released != 0))
  (m.set PRT_PORT_STATUS_XOFF p xoff).withPrt
    { m.prt with pfcOwed := if owes then store m.prt.pfcOwed p released else remove m.prt.pfcOwed p }

/-- The XOFF signal of (p, n) brought up to date (R148); a class no longer lossless has none (R49). -/
def Mod.xoffOne (m : Mod) (key : Nat) : Mod :=
  let p := key / 8
  let used := lookupD m.buf.inShared key 0
  let low := decide (m.sharedFree < m.get BUF_CFG_XOFF_FREE)
  if m.buf.xoff.contains key then
    if (used ≤ m.get BUF_PORT_PFC_XON_TH p ∧ low = false) ∨ m.lossless (m.owner p) (key % 8) = false then m.xoffRelease key else m
  else if m.lossless (m.owner p) (key % 8) ∧ (m.get BUF_PORT_PFC_XOFF_TH p ≤ used ∨ low = true) then m.xoffAssert key
  else m

/-- The XOFF signals brought up to date: every port and class while F is below XOFF_FREE, else those that hold shared cells or
signal XOFF. -/
def Mod.xoffUpdate (m : Mod) : Mod :=
  let keys := if m.sharedFree < m.get BUF_CFG_XOFF_FREE then List.range 1024
    else (m.buf.inShared.map (·.1) ++ m.buf.xoff).eraseDups.filter (· < 1024)
  keys.foldl Mod.xoffOne m

/-- CAPACITY_LOSS (R139, R167): a bank is retired and no spare remains. -/
def Mod.capacityLoss (m : Mod) (bank : Nat) : Mod :=
  let m := (m.usableLess bank).lowerGuarantees.xoffUpdate
  (m.sqc BUF_EVENT_CAPACITY).event { blk := 0x0A, code := 0x05, detail := m.buf.banksLost.length }

/-- A frame's cells charged or released: sign tells (R144, R145, R342). -/
def Mod.account (m : Mod) (f : Frame) (on : Bool) : Mod :=
  let mv (m : Mod) (fl : Fld) (i n : Nat) : Mod := if n = 0 then m else if on then m.raise fl i n else m.lower fl i n
  let tb (l : List (Nat × Nat)) (k n : Nat) := if on then countUp l k n else countDown l k n
  let key := 8 * f.source + f.cls
  let m := mv m BUF_HEDGE_STATUS_GUAR_USED f.hedge f.guar
  let m := mv m BUF_HEDGE_STATUS_SHARED_USED f.hedge f.shared
  let m := mv m BUF_PORT_STATUS_IN_USED f.source f.cells
  let m := mv m BUF_PORT_STATUS_HDRM_USED f.source f.hdrm
  let m := match f.gap with
    | some g => mv m HDG_GAP_STATUS_GAP_USED g f.cells
    | none => m
  m.withBuf { m.buf with inShared := tb m.buf.inShared key f.shared, inHdrm := tb m.buf.inHdrm key f.hdrm }

/-! ### Copies and the reference count -/

/-- The key of VOQ (s, d, c) (R141). -/
def voqKey (s d c : Nat) : Nat := (s * 134 + d) * 8 + c

/-- The copies of a VOQ, head first. -/
def Mod.voq (m : Mod) (k : Nat) : List Copy := lookupD m.buf.voqs k []

/-- A VOQ replaced; an empty one is not listed. -/
def Mod.setVoq (m : Mod) (k : Nat) (q : List Copy) : Mod :=
  m.withBuf { m.buf with voqs := storeUnless [] m.buf.voqs k q }

/-- The launch queue of class c at port p. -/
def Mod.launchQ (m : Mod) (p c : Nat) : List Copy := lookupD m.sch.launch (8 * p + c) []

/-- A launch queue replaced, with LQ_FILL. -/
def Mod.setLaunchQ (m : Mod) (p c : Nat) (q : List Copy) : Mod :=
  let m := m.withSch { m.sch with launch := storeUnless [] m.sch.launch (8 * p + c) q }
  m.set SCH_PORT_STATUS_LQ_FILL p ((List.range 8).foldl (fun a c => a + (m.launchQ p c).length) 0)

/-- A frame of the buffer. -/
def Mod.frame (m : Mod) (id : Nat) : Option Frame := lookup m.buf.frames id

/-- A frame of the buffer replaced. -/
def Mod.setFrame (m : Mod) (id : Nat) (f : Frame) : Mod := m.withBuf { m.buf with frames := store m.buf.frames id f }

/-- One reference of a frame gone; at zero its cells and copy records return (R144). -/
def Mod.deref (m : Mod) (id : Nat) : Mod :=
  match m.frame id with
  | none => m
  | some f =>
    if f.refs ≤ 1 then
      let m := m.withBuf { m.buf with frames := remove m.buf.frames id, records := m.buf.records - f.records }
      ((m.lower BUF_HEDGE_STATUS_COPIES f.hedge f.records).account f false).xoffUpdate
    else m.setFrame id { f with refs := f.refs - 1 }

/-- A copy is no longer queued to destination d. -/
def Mod.unqueue (m : Mod) (d : Nat) (f : Frame) : Mod :=
  (m.lower BUF_PORT_STATUS_OUT_USED d f.cells).withBuf { m.buf with qShared := countDown m.buf.qShared (8 * d + f.cls) f.shared }

/-- A queued copy is discarded with a code of R165; carry is the CARRY field of its record. -/
def Mod.dropCopy (m : Mod) (d : Nat) (c : Copy) (code carry : Nat) : Mod :=
  match m.frame c.frame with
  | none => m
  | some f =>
    let m := (m.bump (bufCtr f.hedge code)).bump (m.destCtr d (8 + f.cls))
    ((m.clipCopyDiscard f d code carry).unqueue d f).deref c.frame

/-- A copy refused at admission (R147, R165). -/
def Mod.refuseCopy (m : Mod) (f : Frame) (d code : Nat) : Mod :=
  ((m.bump (bufCtr f.hedge code)).bump (m.destCtr d (8 + f.cls))).clipCopyDiscard f d code 3

/-- Keys of the VOQs to destination d that hold copies. -/
def Mod.voqsTo (m : Mod) (d : Nat) : List Nat := (m.buf.voqs.map (·.1)).filter fun k => k / 8 % 134 == d

/-- Every copy queued to destination d that satisfies a test is discarded with a code, VOQs and launch queues alike. -/
def Mod.flushQueued (m : Mod) (d code : Nat) (which : Frame → Bool) : Mod :=
  let pick (m : Mod) (c : Copy) : Bool := (m.frame c.frame).any which
  let m := (m.voqsTo d).foldl (fun m k =>
    let q := m.voq k
    (q.filter (pick m)).foldl (fun m' c => m'.dropCopy d c code 3) (m.setVoq k (q.filter fun c => !(pick m c)))) m
  if 128 ≤ d then m
  else (List.range 8).foldl (fun m c =>
    let q := m.launchQ d c
    if q = [] then m
    else (q.filter (pick m)).foldl (fun m' x => m'.dropCopy d x code 3) (m.setLaunchQ d c (q.filter fun x => !(pick m x)))) m

/-- Copies queued to a destination. -/
def Mod.queuedTo (m : Mod) (d : Nat) : Nat :=
  (m.voqsTo d).foldl (fun a k => a + (m.voq k).length) 0 +
    (if 128 ≤ d then 0 else (List.range 8).foldl (fun a c => a + (m.launchQ d c).length) 0)

/-! ### Admission -/

/-- The tile of a front port. -/
def tileOf (p : Nat) : Nat := p / 16

/-- A port that is draining, by itself or with its tile (R161). -/
def Mod.draining (m : Mod) (p : Nat) : Bool :=
  (lookup m.prt.portDrain p).isSome || (lookup m.prt.tileDrain (tileOf p)).isSome

/-- A frame-level discard at admission (R165), with its record; a frame that crossed a Gap into a resetting Hedge counts in its
sender's counter and the Gap's (R163, R343). -/
def Mod.discardFrame (m : Mod) (f : Frame) (code : Nat) : Mod :=
  let ctrHedge := if code = 11 then f.sender else f.hedge
  let m := m.bump (bufCtr ctrHedge code)
  let m := match f.gap with
    | some g => if code = 11 then m.bump (m.gapCtr g 4)
        else if code = 4 then
          let m := m.bump (m.gapCtr g 3)
          (m.sqc HDG_EVENT_GAP f.hedge).eventRated (0x13040000 + g)
            { blk := 0x13, code := 0x04, hedge := f.hedge, detail := g * 256, rings := [f.hedge] }
        else m
    | none => m
  let m := if code = 8 then
      ((m.bump (m.destCtr f.source 16)).sqc BUF_EVENT_LIMIT).eventRated (0xA020000 + f.source)
        { blk := 0x0A, code := 0x02, hedge := f.hedge, detail := f.source * 256 + f.cls, rings := [f.hedge] }
    else m
  m.clipIngress f.hedge f (some (0x40 + code, code)) 255

/-- SHARED_EXHAUSTED, at most once per second, when no shared cell is free (R167). -/
def Mod.sharedExhausted (m : Mod) (h : Nat) : Mod :=
  if m.sharedFree = 0 then
    (m.sqc BUF_EVENT_LIMIT).eventRated 0xA010000 { blk := 0x0A, code := 0x01, hedge := h, detail := h * 256, rings := [h] }
  else m

/-- The targets a frame's copies can go to: those that are not up are refused or excluded (R160 to R162). -/
def Mod.liveTargets (m : Mod) (f : Frame) (group : Bool) (targets : List (Nat × Option Nat)) :
    List (Nat × Option Nat) × Mod :=
  targets.foldl (fun (acc : List (Nat × Option Nat) × Mod) t =>
    let m := acc.2
    let p := t.1
    if 128 ≤ p then (acc.1 ++ [t], m)
    else if group then
      if m.portUp p && m.get PRT_TILE_STATUS_STATE (tileOf p) == 0 then (acc.1 ++ [t], m) else (acc.1, m.bump (bufCtr f.hedge 17))
    else if m.draining p then (acc.1, m.refuseCopy f p 10)
    else if m.portUp p then (acc.1 ++ [t], m)
    else (acc.1, m.refuseCopy f p 9)) ([], m)

/-- The frame-level checks of R147 on n cells, n_s of them shared: the discard code, 0 for none. -/
def Mod.frameChecks (m : Mod) (f : Frame) (n ns : Nat) : Nat :=
  let inCap := m.get BUF_PORT_CFG_IN_CAP f.source
  let gapOver := match f.gap with
    | some g => decide (m.get HDG_GAP_CFG1_CELL_LIMIT g < m.get HDG_GAP_STATUS_GAP_USED g - f.cells + n)
    | none => false
  if inCap ≠ 0 ∧ inCap < m.get BUF_PORT_STATUS_IN_USED f.source - f.cells + n then 3
  else if gapOver then 4
  else if 0 < ns ∧ hfTimes (m.get BUF_HEDGE_CFG_HWEIGHT f.hedge) m.sharedFree <
      m.get BUF_HEDGE_STATUS_SHARED_USED f.hedge - f.shared + ns then 2
  else 0

/-- The copy-level checks of R147 for destination d: the refusal code, 0 for none. -/
def Mod.copyChecks (m : Mod) (f : Frame) (d n ns : Nat) : Nat :=
  let cls := m.rd .BUF_HEDGE_CLASS f.hedge
  let alpha := bits cls.toNat (4 * f.cls + 3) (4 * f.cls)
  let shift := if f.colour = 0 then 0 else if f.colour = 1 then m.get BUF_HEDGE_CLASS_YEL_SHIFT f.hedge
    else m.get BUF_HEDGE_CLASS_RED_SHIFT f.hedge
  let outCap := m.get BUF_PORT_CFG_OUT_CAP d
  if outCap ≠ 0 ∧ outCap < m.get BUF_PORT_STATUS_OUT_USED d + n then 7
  else if 0 < ns ∧ hfTimes alpha m.sharedFree / 2 ^ shift < lookupD m.buf.qShared (8 * d + f.cls) 0 + ns then 6
  else 0

/-- The copies that pass the copy-level checks; the others are refused (R147). -/
def Mod.passCopies (m : Mod) (f : Frame) (n ns : Nat) (targets : List (Nat × Option Nat)) :
    List (Nat × Option Nat) × Mod :=
  targets.foldl (fun (acc : List (Nat × Option Nat) × Mod) t =>
    let code := acc.2.copyChecks f t.1 n ns
    if code = 0 then (acc.1 ++ [t], acc.2) else (acc.1, acc.2.refuseCopy f t.1 code)) ([], m)

/-- The copies for which there are copy records (R143): the first copy needs none. -/
def Mod.recordCopies (m : Mod) (f : Frame) (targets : List (Nat × Option Nat)) : List (Nat × Option Nat) × Mod :=
  targets.foldl (fun (acc : List (Nat × Option Nat) × Mod) t =>
    let m := acc.2
    let used := acc.1.length
    if used = 0 then (acc.1 ++ [t], m)
    else if m.get BUF_HEDGE_STATUS_COPIES f.hedge + used ≤ m.get BUF_HEDGE_CFG_COPY_CAP f.hedge ∧
        m.buf.records + used ≤ 262144 then (acc.1 ++ [t], m)
    else (acc.1, m.refuseCopy f t.1 5)) ([], m)

/-- One copy linked to the tail of its VOQ (R141). -/
def Mod.linkCopy (m : Mod) (id : Nat) (f : Frame) (t : Nat × Option Nat) : Mod :=
  let k := voqKey f.source t.1 f.cls
  let m := m.setVoq k (m.voq k ++ [{ frame := id, source := f.source, cls := f.cls, launch := t.2 }])
  let m := m.raise BUF_PORT_STATUS_OUT_USED t.1 f.cells
  let m := m.withBuf { m.buf with qShared := countUp m.buf.qShared (8 * t.1 + f.cls) f.shared }
  m.bump (m.destCtr t.1 f.cls)

/-- The frame, charged, is linked to its targets (R143); its number in the buffer. -/
def Mod.linkFrame (m : Mod) (f : Frame) (targets : List (Nat × Option Nat)) : Nat × Mod :=
  let extra := targets.length - 1
  let id := m.buf.nextId
  let f := { f with refs := targets.length, records := extra, epoch := m.get BUF_HEDGE_STATUS_EPOCH f.hedge }
  let m := m.withBuf { m.buf with frames := store m.buf.frames id f, nextId := id + 1, records := m.buf.records + extra }
  let m := (m.raise BUF_HEDGE_STATUS_COPIES f.hedge extra).bump (bufCtr f.hedge 0)
  (id, targets.foldl (fun m t => m.linkCopy id f t) m)

/-- The single destination of a frame's targets, 255 for none or several (R239). -/
def oneTarget (targets : List (Nat × Option Nat)) : Nat :=
  match targets with
  | [t] => t.1
  | _ => 255

/-- n more cells of a frame are written, each charged as it is (R145, R148): the discard code of one that found no source of charge
(0 for none), after which no more is written; the frame with its charge; and the module, its XOFF signals up to date. -/
def Mod.writeCells (m : Mod) (f : Frame) (n : Nat) : Nat × Frame × Mod :=
  let ch := chargeCells (m.room f.source f.hedge f.cls) n {}
  let part : Frame := { f with guar := ch.guar, shared := ch.shared, hdrm := ch.hdrm }
  let f := { f with guar := f.guar + ch.guar, shared := f.shared + ch.shared, hdrm := f.hdrm + ch.hdrm }
  (ch.fail, f, if n = 0 then m else ((m.account part true).sharedExhausted f.hedge).xoffUpdate)

/-- The cells of an arriving frame return. -/
def Mod.freeCharge (m : Mod) (f : Frame) : Mod := (m.account f false).xoffUpdate

/-- The admission of a store-and-forward frame (R143 to R147, R160 to R163), whose cells still to come are written; fail is the code
of a cell that found no source of charge before. A frame left with no copy by refusals has been counted under them; one whose group
is excluded whole is discarded with PORT_DOWN (R162). -/
def Mod.letIn (m : Mod) (f : Frame) (group : Bool) (targets : List (Nat × Option Nat)) (fail : Nat := 0) : Mod :=
  if m.resetting f.hedge then (m.discardFrame f 11).freeCharge f
  else
    let w := if fail ≠ 0 then (fail, f, m) else m.writeCells f (cells f.octets.length - f.cells)
    let f := w.2.1
    let m := w.2.2
    if w.1 ≠ 0 then (m.discardFrame f w.1).freeCharge f
    else
      let free (m : Mod) : Mod := m.freeCharge f
      let live := m.liveTargets f group targets
      let m := live.2
      if live.1 = [] then
        free (if group then m.discardFrame f 9 else m.clipIngress f.hedge f none (oneTarget targets))
      else
        let lossless := m.lossless f.hedge f.cls
        let code := if lossless then 0 else m.frameChecks f f.cells f.shared
        if code ≠ 0 then free (m.discardFrame f code)
        else
          let pass := if lossless then (live.1, m) else m.passCopies f f.cells f.shared live.1
          let rec_ := pass.2.recordCopies f pass.1
          let m := rec_.2.clipIngress f.hedge f none (oneTarget targets)
          if rec_.1 = [] then free m else (m.linkFrame f rec_.1).2.xoffUpdate

end Sys2Proof.Machine
end

