-- ==== Sys2Proof/Machine/Police.lean ====
section
/-! DEFINITION. Policers (R169 to R175) and the tokens of shapers (R176 to R181). -/

namespace Sys2Proof.Machine

/-! ### Policers -/

def peValid (e : Nat) : Bool := bit e 127
def peOwner (e : Nat) : Nat := bits e 126 123
def peMode (e : Nat) : Bool := bit e 122
def peAware (e : Nat) : Bool := bit e 121
def peColourSrc (e : Nat) : Bool := bit e 120
def peRedDiscard (e : Nat) : Bool := bit e 119
def peResetEmpty (e : Nat) : Bool := bit e 118
def peCbs (e : Nat) : Nat := bits e 117 94
def pePbs (e : Nat) : Nat := bits e 93 70
def peCir (e : Nat) : Nat := bits e 59 30
def pePir (e : Nat) : Nat := bits e 29 0

/-- What a rate in kb/s adds in so many nanoseconds, in 10⁻⁶ of 1/256 octet (R170). -/
def fillOf (rate ns : Nat) : Nat := rate * 32 * ns

/-- A bucket of 1/256 octets, with a remainder in 10⁻⁶ of one, once an amount of that fine unit has been added, and what then overflows its size of
cap octets, in the fine unit too (R169, R170). -/
def fillBucket (v frac add cap : Nat) : Nat × Nat × Nat :=
  let w := v * 1000000 + frac + add
  let full := cap * 256 * 1000000
  if full ≤ w then (cap * 256, 0, w - full) else (w / 1000000, w % 1000000, 0)

/-- A policer's buckets refilled up to a TIME cycle (R169, R170). -/
def Buckets.refill (b : Buckets) (e now : Nat) : Buckets :=
  let ns := now - b.at_
  let c := fillBucket b.c b.fracC (fillOf (peCir e) ns) (peCbs e)
  let p := fillBucket b.pe b.fracP (if peMode e then c.2.2 else fillOf (pePir e) ns) (pePbs e)
  { c := c.1, fracC := c.2.1, pe := p.1, fracP := p.2.1, at_ := now }

/-- A policer's buckets as RESET_MODE leaves them at its commit (R175). -/
def resetBuckets (e now : Nat) : Buckets :=
  if peResetEmpty e then { c := 0, pe := 0, at_ := now } else { c := peCbs e * 256, pe := pePbs e * 256, at_ := now }

/-- The two-rate three-colour marker of RFC 2698: colours 0 green, 1 yellow, 2 red. -/
def markTwoRate (c p b inColour : Nat) : Nat × Nat × Nat :=
  if inColour = 2 ∨ p < b then (2, c, p)
  else if inColour = 1 ∨ c < b then (1, c, p - b)
  else (0, c - b, p - b)

/-- The single-rate three-colour marker of RFC 2697. -/
def markSingleRate (c e b inColour : Nat) : Nat × Nat × Nat :=
  if inColour = 0 ∧ b ≤ c then (0, c - b, e)
  else if inColour ≠ 2 ∧ b ≤ e then (1, c, e - b)
  else (2, c, e)

/-- The policer's buckets now. -/
def Mod.bucketsOf (m : Mod) (i e : Nat) : Buckets := (lookupD m.sch.buckets i (resetBuckets e 0)).refill e m.now

/-- A frame of len octets meets policer i (R169 to R172): its colour, and whether the policer discards it. -/
def Mod.meter (m : Mod) (i e len colour : Nat) (dei : Bool) : (Nat × Bool) × Mod :=
  let b := m.bucketsOf i e
  let inC := if peAware e then (if peColourSrc e then b01 dei else Nat.min colour 2) else 0
  let need := len * 256
  let r := if peMode e then markSingleRate b.c b.pe need inC else markTwoRate b.c b.pe need inC
  let m := m.withSch { m.sch with buckets := store m.sch.buckets i { b with c := r.2.1, pe := r.2.2 } }
  let m := m.bump (polCtr i r.1 (peOwner e))
  if r.1 = 2 ∧ peRedDiscard e then ((2, true), m.bump (polCtr i 3 (peOwner e))) else ((r.1, false), m)

/-- One policer of R173 against a frame of a Hedge, which must own it (R174): the frame's colour, and whether the policer discards it. -/
def Mod.policeOne (m : Mod) (i hedge len colour : Nat) (dei : Bool) : (Nat × Bool) × Mod :=
  let e := lookupD m.sch.policers i 0
  if peValid e = false then ((colour, false), m)
  else if peOwner e ≠ hedge then
    let m := (m.bump (polHedgeCtr hedge 1)).sqc POL_EVENT_WINDOW
    ((colour, false), m.eventRated 0xE020000
      { blk := 0x0E, code := 0x02, hedge := hedge, detail := hedge * 256 + i % 256, rings := [hedge] })
  else
    let r := m.meter i e len colour dei
    (r.1, if r.1.2 then r.2.bump (polHedgeCtr hedge 0) else r.2)

/-- The policers a frame meets, in order (R173), cls being its class after classification, before a Gap gave it another; an index named twice
applies once. -/
def Mod.policersOf (m : Mod) (f : Frame) (cls : Nat) : List Nat :=
  let port := if f.source < 128 ∧ m.flag POL_MAP_EN (8 * f.source + cls) then [m.get POL_MAP_POLICER (8 * f.source + cls)] else []
  let stream := match f.stream with
    | some s => let e := m.tbl 8 s
                if bit e 127 ∧ bit e 95 then [bits e 111 96] else []
    | none => []
  let gap := match f.gap with
    | some g => if m.flag HDG_GAP_CFG0_POLICE_EN g then [m.get HDG_GAP_CFG0_POLICER g] else []
    | none => []
  (port ++ stream ++ gap).eraseDups

/-- Policing of a frame (R173, R174): its colour, and whether a policer discards it. A frame that has crossed a Gap is a frame of the receiving
Hedge at each of these steps (R341). -/
def Mod.police (m : Mod) (f : Frame) (which : List Nat) (dei : Bool) : (Nat × Bool) × Mod :=
  which.foldl (fun (acc : (Nat × Bool) × Mod) p =>
    if acc.1.2 then acc else
      let r := acc.2.policeOne p f.hedge f.recvLen acc.1.1 dei
      let viaGap := f.gap.any fun g => decide (m.flag HDG_GAP_CFG0_POLICE_EN g = true) && m.get HDG_GAP_CFG0_POLICER g == p
      (r.1, if r.1.2 && viaGap then r.2.bump (m.gapCtr (f.gap.getD 0) 2) else r.2)) ((f.colour, false), m)

/-! ### Shapers -/

def shKind (e : Nat) : Nat := bits e 63 62
def shResetZero (e : Nat) : Bool := bit e 61
def shOverhead (e : Nat) : Int := signed 7 (bits e 60 54)
def shLimit (e : Nat) : Nat := bits e 53 30
def shRate (e : Nat) : Nat := bits e 29 0

/-- Token units: 10⁻⁹ octet; one kb/s adds 125 of them a nanosecond. -/
def tokenUnit : Int := 1000000000

/-- The tokens or credit RESET_MODE gives (R181). -/
def shReset (e now : Nat) : Tokens := ⟨if shResetZero e then 0 else (shLimit e : Int) * tokenUnit, now⟩

/-- A token bucket refilled up to a TIME cycle (R178). -/
def Tokens.refill (t : Tokens) (e now : Nat) : Tokens :=
  let v := t.v + ((shRate e * 125 * (now - t.at_) : Nat) : Int)
  let cap := (shLimit e : Int) * tokenUnit
  ⟨if cap < v then cap else v, now⟩

/-- The tokens of class shaper 8 p + c, of port shaper p and of stream shaper i now. A credit-based shaper's credit is kept
up to date as time passes (R179). -/
def Mod.classTokens (m : Mod) (k : Nat) : Tokens :=
  let e := (m.rd .SHP_CLASS k).toNat
  let t := (lookup m.sch.ctok k).getD (shReset e 0)
  if shKind e = 1 then t.refill e m.now else t
/-- See classTokens. -/
def Mod.portTokens (m : Mod) (p : Nat) : Tokens :=
  let e := (m.rd .SHP_PORT p).toNat
  ((lookup m.sch.ptok p).getD (shReset e 0)).refill e m.now
/-- See classTokens. -/
def Mod.streamTokens (m : Mod) (i : Nat) : Tokens :=
  let e := (lookupD m.sch.shapers i 0).toNat
  ((lookup m.sch.stok i).getD (shReset e 0)).refill e m.now

/-- A shaper permits a frame to start (R178, R179). -/
def shPermits (e : Nat) (t : Tokens) : Bool := shKind e == 0 || decide (0 ≤ t.v)

/-- A shaper charged a frame of a transmitted length (R177). -/
def Tokens.charge (t : Tokens) (e len : Nat) : Tokens := ⟨t.v - ((len : Int) + shOverhead e) * tokenUnit, t.at_⟩

/-- The whole octets of tokens, as the token reads give them. -/
def Tokens.octets (t : Tokens) : Int := t.v / tokenUnit

/-- Data rate of a port TYPE, in Gb/s (R40). -/
def typeRate (t : Nat) : Nat := [0, 1, 1, 10, 25, 50, 100, 200, 400, 800].getD t 0

/-- Data rate of front port p, in Gb/s. -/
def Mod.rate (m : Mod) (p : Nat) : Nat := typeRate (m.get PRT_PORT_CFG_TYPE p)

/-- loCredit of class shaper 8 p + c in token units (R179). -/
def Mod.loCredit (m : Mod) (p e : Nat) : Int :=
  let r := m.rate p * 1000000
  if r = 0 then 0
  else -(((m.get PRT_PORT_CFG_MAX_FRAME p : Int) + shOverhead e) * tokenUnit * ((r : Int) - shRate e) / (r : Int))

/-- What a class does while its credit runs (R179). -/
inductive CreditRun where
  | sending
  | waiting
  | closed
  | idle
  deriving DecidableEq, Repr

/-- Credit after ns nanoseconds (R179): idleSlope RATE, sendSlope RATE − portTransmitRate, both in kb/s. -/
def creditRun (how : CreditRun) (v : Int) (e rateKb ns : Nat) (lo : Int) : Int :=
  let hi := (shLimit e : Int) * tokenUnit
  let up := v + ((shRate e * 125 * ns : Nat) : Int)
  match how with
  | .sending =>
    let d := v + ((shRate e : Int) - rateKb) * 125 * ns
    if d < lo then lo else d
  | .waiting => if hi < up then hi else up
  | .closed => v
  | .idle => if 0 < v then 0 else if 0 < up then 0 else up

end Sys2Proof.Machine
end

