-- ==== Sys2Proof/Machine/Timebase.lean ====
section
/-! DEFINITION. Time passes: the time counter and its slew (R200, R205), the credit of credit-based shapers (R179), and the
counters of microseconds (R61, R197). Every other thing that depends on time compares it with an instant. -/

namespace Sys2Proof.Machine

/-! ### The time counter -/

/-- Time units a slew adds to or takes from a cycle (R205): SLEW_10PPB × 10⁻⁸ ns. -/
def Mod.slewRate (m : Mod) : Nat := m.get TIM_SERVO_CFG_SLEW_10PPB * 65536

/-- What a slew has applied after n cycles, signed: at most all of it. -/
def slewApplied (slew : Int) (rate n : Nat) : Int :=
  let d : Int := Nat.min (rate * n) slew.natAbs
  if slew < 0 then -d else d

/-- Time cycles until a slew's remainder is zero; none when it never is. -/
def Mod.slewCycles (m : Mod) : Nat :=
  if m.slewRate = 0 then 0 else ceilDiv m.time.slew.natAbs m.slewRate

/-- The counter n cycles on. -/
def TimeSt.after (t : TimeSt) (rate n : Nat) : TimeSt :=
  let d := slewApplied t.slew rate n
  { t with cycles := t.cycles + n, net := (((t.net + n * unitsPerNs : Nat) : Int) + d).toNat, slew := t.slew - d }

/-! ### Gates as the shapers see them -/

/-- Front port p is held for time (R190): time is not usable and the port names held classes or uses launch times. -/
def Mod.timeHold (m : Mod) (p : Nat) : Bool := m.flag SCH_PORT_STATUS_TIME_HOLD p

/-- Class c of front port p is held for time. -/
def Mod.timeHeld (m : Mod) (p c : Nat) : Bool :=
  !(m.flag TIM_STATUS_USABLE) && (m.get SCH_PORT_CFG_SCHED_MASK p).testBit c

/-- The gate list, or a step's state, that governs front port p (R187, R207). -/
def Mod.gateSt (m : Mod) (p : Nat) : Option GateSt :=
  if m.flag SCH_PORT_CFG_GATE_EN p then lookup m.sch.gates p else none

/-- The gate of class c at front port p is open (R186, R187, R190, R207). -/
def Mod.gateOpen (m : Mod) (p c : Nat) : Bool :=
  (match m.gateSt p with
    | some g => g.gates.testBit c
    | none => true) && !(m.timeHeld p c)

/-- A frame that port p started without look-ahead is in transmission as its gate, open in the state before, closes: it counts TX_OVERRUN (R188). -/
def Mod.gateOverruns (m before : Mod) (p : Nat) : Mod :=
  match lookup m.buf.tx p with
  | some t =>
    let c := t.copy.cls
    if before.flag SCH_PORT_CFG_LEN_AWARE p = false ∧ before.gateOpen p c = true ∧ m.gateOpen p c = false ∧ m.now < t.ends then
      ((m.bump (m.schCtr p 7)).sqc SCH_EVENT_WINDOW).eventRated (0xC040000 + p)
        { blk := 0x0C, code := 0x04, hedge := m.owner p, detail := p * 256 + c, rings := [m.owner p] }
    else m
  | none => m

/-! ### Credit-based shapers -/

/-- A VOQ of class c to front port p holds a copy. -/
def Mod.classWaits (m : Mod) (p c : Nat) : Bool := m.buf.voqs.any fun e => e.1 % 8 == c && e.1 / 8 % 134 == p

/-- What the credit of class shaper k does while it sends nothing. -/
def Mod.creditWait (m : Mod) (k : Nat) : CreditRun :=
  if m.gateOpen (k / 8) (k % 8) = false then .closed else if m.classWaits (k / 8) (k % 8) then .waiting else .idle

/-- A credit n cycles on: it falls at its sendSlope to the end of the frame it is charged for, then follows R179. -/
def Mod.creditAfter (m : Mod) (k : Nat) (t : Tokens) (n : Nat) : Tokens :=
  let e := (m.rd .SHP_CLASS k).toNat
  let lo := m.loCredit (k / 8) e
  let sent := match lookup m.sch.csend k with
    | some (ends, slope) => (Nat.min n (ends - m.now), slope)
    | none => (0, 0)
  let down := t.v + sent.2 * 125 * sent.1
  let v := if sent.1 = 0 then t.v else if down < lo then lo else down
  let rest := n - sent.1
  ⟨if rest = 0 then v else creditRun (m.creditWait k) v e 0 rest lo, m.now + n⟩

/-- Every credit n cycles on. -/
def Mod.runCredits (m : Mod) (n : Nat) : Mod :=
  if m.sch.ctok.all fun e => shKind (m.rd .SHP_CLASS e.1).toNat != 2 then m
  else
    m.withSch { m.sch with
      ctok := m.sch.ctok.map fun e =>
        if shKind (m.rd .SHP_CLASS e.1).toNat = 2 then (e.1, m.creditAfter e.1 e.2 n) else e,
      csend := m.sch.csend.filter fun e => decide (m.now + n < e.2.1) }

/-! ### Counters of microseconds -/

/-- The microseconds of class pauses n cycles on (R61). -/
def Mod.runPauses (m : Mod) (n : Nat) : Mod :=
  m.prt.pauseEnd.foldl (fun m e =>
    let r := lookupD m.prt.pauseRem e.1 0 + Nat.min n (e.2 - m.now)
    let m := m.withPrt { m.prt with pauseRem := storeUnless 0 m.prt.pauseRem e.1 (r % 1000) }
    if r / 1000 = 0 then m else m.bump (m.prtCtr (e.1 / 8) (95 + e.1 % 8)) (r / 1000)) m

/-- The microseconds of transmitters in low-power idle (R61). -/
def Mod.runLpi (m : Mod) (n : Nat) : Mod :=
  m.prt.lpiRem.foldl (fun m e =>
    if m.flag PRT_PORT_STATUS_LPI_TX e.1 then
      let r := e.2 + n
      let m := m.withPrt { m.prt with lpiRem := store m.prt.lpiRem e.1 (r % 1000) }
      if r / 1000 = 0 then m else m.bump (m.prtCtr e.1 94) (r / 1000)
    else m) m

/-- The microseconds of scheduling holds (R190, R197). -/
def Mod.runHolds (m : Mod) (n : Nat) : Mod :=
  m.sch.holdRem.foldl (fun m e =>
    if m.timeHold e.1 then
      let r := e.2 + n
      let m := m.withSch { m.sch with holdRem := store m.sch.holdRem e.1 (r % 1000) }
      if r / 1000 = 0 then m else m.bump (m.schCtr e.1 10) (r / 1000)
    else m) m

/-- The microseconds of a Clippings writer in panic (R322, R330): both subchannels of its channel count. -/
def Mod.panicRuns (m : Mod) (ch n : Nat) : Mod :=
  if m.writerPanics ch then
    let r := lookupD m.drm.panicRem ch 0 + n
    let m := m.withDrm { m.drm with panicRem := storeUnless 0 m.drm.panicRem ch (r % 1000) }
    if r / 1000 = 0 then m else (m.bump (drmCtr (2 * ch) 10) (r / 1000)).bump (drmCtr (2 * ch + 1) 10) (r / 1000)
  else m

/-- The microseconds of both Clippings writers in panic. -/
def Mod.runPanics (m : Mod) (n : Nat) : Mod := (m.panicRuns 0 n).panicRuns 1 n

/-! ### Frames still arriving -/

/-- Octets of a frame of n received octets that are stored (R52, R138). -/
def storedLength (maxFrame n : Nat) : Nat := if maxFrame < n then maxFrame - 4 else n

/-- The frame that arrives at front port p has cells written as its octets come (R138, R145): those due by a TIME cycle. -/
def Mod.writeArriving (m : Mod) (p t : Nat) : Mod :=
  match lookup m.buf.arriving p with
  | none => m
  | some a =>
    let come := Nat.min (storedLength a.maxFrame a.received.length) ((t - a.since) * m.rate p / 8)
    let n := cells come - a.frame.cells
    if a.gone || a.ct || a.fail != 0 || n == 0 then m
    else
      let w := m.writeCells a.frame n
      w.2.2.withBuf { w.2.2.buf with arriving := store w.2.2.buf.arriving p { a with frame := w.2.1, fail := w.1 } }

/-- The cells of every frame still arriving, due by a TIME cycle. -/
def Mod.writeArrivals (m : Mod) (t : Nat) : Mod := (m.buf.arriving.map (·.1)).foldl (fun m p => m.writeArriving p t) m

/-! ### Time passes -/

/-- n TIME cycles pass. -/
def Mod.advance (m : Mod) (n : Nat) : Mod :=
  if n = 0 then m
  else
    let m := ((((((m.runEpc n).runCredits n).runPauses n).runLpi n).runHolds n).runPanics n).writeArrivals (m.now + n)
    m.withTime (m.time.after m.slewRate n)

/-- Time passes up to a TIME cycle; an instant that is past has come. -/
def Mod.advanceTo (m : Mod) (cycle : Nat) : Mod := m.advance (cycle - m.now)

/-- Cycles until the counter reaches an instant, at so many time units a cycle. -/
def cyclesTo (net target per : Nat) : Nat := ceilDiv (target - net) (Nat.max 1 per)

/-- Time passes until the counter has reached an instant of network time. -/
def Mod.advanceNet (m : Mod) (target : Nat) : Mod :=
  if target ≤ m.time.net then m
  else if m.time.slew = 0 then m.advance (cyclesTo m.time.net target unitsPerNs)
  else
    let per := if m.time.slew < 0 then unitsPerNs - m.slewRate else unitsPerNs + m.slewRate
    let n := cyclesTo m.time.net target per
    if n ≤ m.slewCycles then m.advance n
    else
      let m := m.advance m.slewCycles
      m.advance (cyclesTo m.time.net target unitsPerNs)

/-- Front port p's hold brought up to date: TIME_HOLD and its event at each change (R190). -/
def Mod.holdUpdate (m : Mod) (p : Nat) : Mod :=
  let want := !(m.flag TIM_STATUS_USABLE) && (m.get SCH_PORT_CFG_SCHED_MASK p != 0 || m.flag SCH_PORT_CFG_LAUNCH_EN p)
  if want = m.timeHold p then m
  else
    let m := m.set SCH_PORT_STATUS_TIME_HOLD p (b01 want)
    let m := if want then m.withSch { m.sch with holdRem := store m.sch.holdRem p (lookupD m.sch.holdRem p 0) } else m
    (m.sqc SCH_EVENT_TIME_HOLD).event
      { blk := 0x0C, code := 0x05, hedge := m.owner p, detail := p * 256 + b01 want, rings := [m.owner p] }

/-- Every front port's hold brought up to date. -/
def Mod.holdUpdateAll (m : Mod) : Mod := (List.range 128).foldl Mod.holdUpdate m

end Sys2Proof.Machine
end

