-- ==== Sys2Proof/Machine/Dram.lean ====
section
/-! DEFINITION. The SDRAM controller (SDRAM Controller): rights, request slots, the outcome of requests, and channels. -/

namespace Sys2Proof.Machine

/-! ### Counters and events -/

/-- BURSTS of Hedge h (R330). -/
def drmBurstCtr (h : Nat) : Ctr := ⟨0x641000 + h * 8, { blk := 0x12, code := 0x08, low := 64 + h }⟩

/-- A DRM event to the root Hedge (R331). -/
def Mod.drmEvent (m : Mod) (code ch q : Nat) : Mod :=
  (m.sqcBit DRM_EVENT_EVENTS (code - 1) 0).event { blk := 0x12, code := code, detail := ch * 2 ^ 8 + q }

/-! ### Regions and rights -/

/-- The regions of R311. -/
inductive Region where
  | clippings
  | image
  | totals
  | rings
  | supervisor
  | engine
  deriving DecidableEq, Repr

/-- The region of an address; none above the last (R311). -/
def regionOf (addr : Nat) : Option Region :=
  if addr < 0x200000000 then some .clippings else if addr < 0x240000000 then some .image
  else if addr < 0x250000000 then some .totals else if addr < 0x260000000 then some .rings
  else if addr < 0x2E0000000 then some .supervisor else if addr < 0x7A0000000 then some .engine else none

/-- Who asks for an access (R314). -/
inductive DrmRole where
  | job (h : Nat)
  | sup
  | host
  | vf (h : Nat)
  deriving DecidableEq, Repr

/-- The role of a path's window commands; a cluster's windows have the supervisor path's rights (R266). -/
def pathRole : Path → DrmRole
  | .pf => .host
  | .vf h => .vf h
  | .dmp => .host
  | .sup => .sup
  | .cluster _ => .sup
  | .jtag => .host

/-- Octets of 64 MiB. -/
def windowUnit : Nat := 0x4000000

/-- The window of Hedge h in the engine region: first octet and length (R315); folded, its lower half remains (R328). -/
def Mod.hedgeWindow (m : Mod) (h : Nat) : Nat × Nat :=
  let size := m.get DRM_HEDGE_WIN_SIZE h * windowUnit
  (0x2E0000000 + m.get DRM_HEDGE_WIN_BASE h * windowUnit, if m.flag DRM_STATUS_FOLDED then size / 2 else size)

/-- An access lies in a range of octets. -/
def within (addr len lo size : Nat) : Bool := decide (lo ≤ addr) && decide (addr + len ≤ lo + size)

/-- The access lies in Hedge h's own Clippings ring. -/
def Mod.inOwnRing (m : Mod) (h addr len : Nat) : Bool :=
  within addr len (m.get CLP_RING_CFG_BASE h * 0x100000) (m.get CLP_RING_CFG_SIZE h * 0x100000)

/-- The fold leaves the addressed octets in service (R328). -/
def Mod.foldServes (m : Mod) (addr len : Nat) : Bool :=
  if m.flag DRM_STATUS_FOLDED = false then true
  else
    match regionOf addr with
    | some .supervisor => decide (addr + len ≤ 0x260000000 + 0x40000000)
    | some .engine => (List.range 16).any fun h => within addr len (m.hedgeWindow h).1 (m.hedgeWindow h).2
    | _ => true

/-- The rights of R314, and the fold of R328. -/
def Mod.drmMay (m : Mod) (who : DrmRole) (write : Bool) (addr len : Nat) : Bool :=
  let own (h : Nat) : Bool := within addr len (m.hedgeWindow h).1 (m.hedgeWindow h).2
  m.foldServes addr len && match regionOf addr, who with
  | none, _ => false
  | some .clippings, .job 0 => !write
  | some .clippings, .job h => !write && m.inOwnRing h addr len
  | some .clippings, .vf h => !write && m.inOwnRing h addr len
  | some .clippings, _ => !write
  | some .image, .job 0 => !write
  | some .image, .sup => true
  | some .image, .host => true
  | some .image, _ => false
  | some .totals, .job 0 => true
  | some .totals, _ => !write
  | some .rings, .job 0 => !write
  | some .rings, .sup => true
  | some .rings, .host => !write
  | some .rings, _ => false
  | some .supervisor, .sup => true
  | some .supervisor, _ => false
  | some .engine, .job 0 => true
  | some .engine, .job h => own h
  | some .engine, .vf h => own h
  | some .engine, _ => true

/-- The channels in RUN among those of an address: one that returns takes stores and serves no read (R329). -/
def Mod.servingOf (m : Mod) (addr : Nat) : List Nat := (m.channelsOf addr).filter fun c => m.get DRM_CH_STATUS_STATE c == 0

/-- An address that some channel in service holds. -/
def Mod.drmServed (m : Mod) (addr : Nat) : Bool := !(m.servingOf addr).isEmpty

/-! ### Requests -/

/-- A write-queue entry holds the granule of an address in one of its channels (R320). -/
def Mod.drmForwards (m : Mod) (addr : Nat) : Option DrmReq :=
  m.drm.reqs.find? fun r => r.write && r.addr == addr / 64 * 64 && (m.channelsOf addr).contains r.channel

/-- The channel a read goes to (R323): of a mirrored region, the one with fewer waiting requests. -/
def Mod.readChannel (m : Mod) (addr : Nat) : Nat :=
  let waiting (c : Nat) : Nat := (m.drm.reqs.filter fun r => r.channel == c).length
  match m.servingOf addr with
  | [a, b] => if waiting b < waiting a then b else a
  | [a] => a
  | _ => 0

/-- A read slot of channel ch is free for Hedge h (R316). -/
def Mod.readSlot (m : Mod) (ch h : Nat) : Bool :=
  let l := (m.channelReqs ch false).filter (·.slot)
  decide (l.length < 128) && decide ((l.filter (·.hedge == h)).length < Nat.max 1 (m.get DRM_HEDGE_BW_MAX_SLOTS h))

/-- A write-queue entry is free for a requester other than the Clippings writer in every channel that holds the address, or the granule has
one (R316, R319). -/
def Mod.writeRoom (m : Mod) (addr : Nat) : Bool :=
  (m.channelsOf addr).all fun c =>
    (m.drm.reqs.any fun r => r.write && r.channel == c && r.addr == addr / 64 * 64) ||
      decide ((m.channelReqs c true).length + (16 - ((m.channelReqs c true).filter (·.who == .clippings)).length) < 128)

/-- What becomes of a read that is asked for (R316, R320): its octets at once from the write queue, a request in a channel, or no slot. -/
inductive ReadAsked where
  | forwarded (octets : List Byte)
  | asked (id : Nat)
  | waits
  deriving DecidableEq, Repr

/-- A read of octets that lie in one granule or in two. A window's read that finds no slot waits for one in the channel. -/
def Mod.drmAskRead (m : Mod) (who : Requester) (h addr len : Nat) : ReadAsked × Mod :=
  let data := memRead m.drm.mem addr len
  match m.drmForwards addr with
  | some r => (.forwarded data, m.bump (drmCtr (subOf r.channel addr) 4))
  | none =>
    let ch := m.readChannel addr
    let slot := m.readSlot ch h
    let queues := match who with
      | .thread _ => false
      | _ => true
    if !slot && !queues then (.waits, m)
    else
      let id := m.drm.nextId
      let m := m.vjoin ch h
      let r : DrmReq := { id := id, channel := ch, write := false, addr := addr, len := len, data := data, hedge := h, who := who,
                          slot := slot, since := m.now }
      (.asked id, (m.withDrm { m.drm with reqs := m.drm.reqs ++ [r], nextId := id + 1 }).writeModes ch)

/-- A store of octets is accepted: the caller has seen that there is room. -/
def Mod.drmStore (m : Mod) (who : Requester) (h addr : Nat) (octets : List Byte) : Mod :=
  m.drmPost who h addr octets

/-! ### Outcomes -/

/-- The stage of R317 that serves a request. -/
def Mod.drmStage (m : Mod) (r : DrmReq) : Nat :=
  if r.promoted then 2 else if r.who == .clippings && m.writerPanics r.channel then 3 else if r.who.bulk then 5 else 4

/-- The request is a candidate of its stage (R317): in stage 4 one of a Hedge within share; a write only in write mode, or promoted, or of a
writer in panic, and while no older read of its granule waits (R319, R320). -/
def Mod.drmCandidate (m : Mod) (r : DrmReq) : Bool :=
  let stage := m.drmStage r
  let share := decide (m.vtime r.channel r.hedge ≤ m.vmin r.channel + m.get DRM_CFG_SLACK * 2 ^ 20)
  let older := m.drm.reqs.any fun x =>
    !x.write && x.channel == r.channel && x.addr / 64 == r.addr / 64 && decide (x.id < r.id)
  r.slot && (stage != 4 || share) &&
    (!r.write || (!older && (decide (stage < 4) || m.drm.wmode.contains (subOf r.channel r.addr))))

/-- Stage 4 charges the bursts it serves to the Hedge (R318, R330). -/
def Mod.chargeBurst (m : Mod) (r : DrmReq) (bursts : Nat) : Mod :=
  if m.drmStage r ≠ 4 then m
  else
    let w := Nat.max 1 (m.get DRM_HEDGE_BW_WEIGHT r.hedge)
    let m := m.bump (drmBurstCtr r.hedge) bursts
    m.withDrm { m.drm with
      vtime := store m.drm.vtime (16 * r.channel + r.hedge) (m.vtime r.channel r.hedge + bursts * 1024 * 2 ^ 20 / w) }

/-- The last error's log (DRM_ERR_LOG). -/
def Mod.drmLog (m : Mod) (kind ch sub device addr : Nat) : Mod :=
  m.wr .DRM_ERR_LOG 0 (BitVec.ofNat 64
    (kind * 2 ^ 62 + ch * 2 ^ 61 + sub % 2 * 2 ^ 60 + device * 2 ^ 57 + addr / 64 % 2 ^ 29 * 2 ^ 6))

/-- The per-channel offset of an address (R312): from the start of its region, with bit 8 removed in an interleaved region. Folded, the
supervisor's offsets stand as they are, and a Hedge window's lower half starts at BASE × 32 MiB (R328). -/
def Mod.channelOffset (m : Mod) (addr : Nat) : Nat :=
  let base := match regionOf addr with
    | some .clippings => 0
    | some .image => 0x200000000
    | some .totals => 0x240000000
    | some .rings => 0x250000000
    | some .supervisor => 0x260000000
    | _ => 0x2E0000000
  let o := addr - base
  let window := (List.range 16).find? fun h => within addr 1 (m.hedgeWindow h).1 (m.hedgeWindow h).2
  match m.flag DRM_STATUS_FOLDED, regionOf addr, window with
  | true, some .supervisor, _ => o
  | true, some .engine, some h => o - m.get DRM_HEDGE_WIN_BASE h * (windowUnit / 2)
  | _, _, _ => if interleaved addr then o / 512 * 256 + o % 256 else o

/-- The LOCATION of the row of an address (R452): the device is the one at fault, 0 when none is located. -/
def Mod.rowLocation (m : Mod) (ch addr device : Nat) : Nat :=
  let o := m.channelOffset addr
  ch * 2 ^ 25 + subOf ch addr % 2 * 2 ^ 24 + device % 8 * 2 ^ 21 + o / 2 ^ 13 % 8 * 2 ^ 18 + o / 2 ^ 16 % 4 * 2 ^ 16 + o / 2 ^ 18 % 2 ^ 16

/-- A thread's read has its data: the octets as a number, the least significant octet last, or a failure that reads zero (R265, R324). -/
def Mod.threadData (m : Mod) (key : Nat) (octets : List Byte) (failed : Bool) : Mod :=
  match lookup m.eng.threads key with
  | some t =>
    match t.read with
    | some r =>
      let t := { t with read := some { r with data := some (if failed then 0 else beNat octets), failed := failed } }
      (m.withEng { m.eng with threads := store m.eng.threads key t }).epcThread key t 23 (engCycles (m.now - r.since))
    | none => m
  | none => m

/-- The registers a granule read through a window fills (DRM_WIN_DATA, octet 8 w in bits [63:56]). -/
def granuleRegs (path : Nat) (octets : List Byte) : List (Reg × Nat × Word) :=
  (List.range 8).map fun w => (.DRM_WIN_DATA, 8 * path + w, BitVec.ofNat 64 (fieldAt octets (8 * w) 8))

/-- The window command of a path in progress has its results: STATUS and the granule. -/
def Mod.windowResult (m : Mod) (path status : Nat) (regs : List (Reg × Nat × Word)) : Mod :=
  let cmd := DRM_WIN_CMD_STATUS.put (m.rd .DRM_WIN_CMD path) status
  let fill (c : WinCmd) : WinCmd := if c.win = .dram path then { c with result := (.DRM_WIN_CMD, path, cmd) :: regs } else c
  m.withWin { m.win with busy := m.win.busy.map fill }

/-- A read is answered to its requester. -/
def Mod.drmAnswer (m : Mod) (r : DrmReq) (failed : Bool) : Mod :=
  match r.who with
  | .thread key => m.threadData key r.data failed
  | .window path => m.windowResult path (if failed then 3 else 0) (if failed then [] else granuleRegs path r.data)
  | _ => m

/-- A window's store that waited is accepted once there is room (R316); one that the fold no longer serves is outside the rights (R328). -/
def Mod.waitingStore (m : Mod) (e : Nat × Nat × Nat × List Byte) : Mod :=
  let gone := m.withDrm { m.drm with stores := m.drm.stores.erase e }
  if m.foldServes e.2.2.1 64 = false ∨ m.drmServed e.2.2.1 = false then (gone.windowResult e.1 2 []).drmEvent 0x07 0 3
  else if m.writeRoom e.2.2.1 then gone.drmStore (.window e.1) e.2.1 e.2.2.1 e.2.2.2
  else m

/-- The windows' stores that wait, oldest first. -/
def Mod.waitingStores (m : Mod) : Mod := m.drm.stores.foldl Mod.waitingStore m

/-- A request leaves its channel, and a request that waits for a slot takes one (R316). -/
def Mod.drmLeaves (m : Mod) (r : DrmReq) : Mod :=
  let m := m.withDrm { m.drm with reqs := m.drm.reqs.filter fun x => x.id != r.id }
  let m := match m.drm.reqs.find? fun x => x.channel == r.channel && !x.write && !x.slot && m.readSlot r.channel x.hedge with
    | some x =>
      let give (y : DrmReq) : DrmReq := if y.id = x.id then { y with slot := true, since := m.now } else y
      m.withDrm { m.drm with reqs := m.drm.reqs.map give }
    | none => m
  (m.writeModes r.channel).waitingStores

/-! ### Channels -/

/-- The contents of the interleaved regions are lost (R328, R329). -/
def Mod.interleavedLost (m : Mod) : Mod :=
  m.withDrm { m.drm with mem := m.drm.mem.filter fun e => !(interleaved e.1) }

/-- DRM_STATUS shows the channels. -/
def Mod.channelStatus (m : Mod) : Mod :=
  (m.set DRM_STATUS_CH0_UP 0 (b01 (m.get DRM_CH_STATUS_STATE 0 == 0))).set DRM_STATUS_CH1_UP 0 (b01 (m.get DRM_CH_STATUS_STATE 1 == 0))

/-- A channel takes a state and says so. -/
def Mod.setChannel (m : Mod) (ch st : Nat) : Mod := ((m.set DRM_CH_STATUS_STATE ch st).channelStatus).drmEvent 0x04 ch st

/-- Every Clippings ring starts empty with the capacity in force, and says so (R243). -/
def Mod.ringsResized (m : Mod) (ch : Nat) : Mod :=
  let m := (m.set CLP_STATUS_CH0_OK 0 (b01 (!(m.clp.lost.contains 0)))).set CLP_STATUS_CH1_OK 0 (b01 (!(m.clp.lost.contains 1)))
  let hs := (List.range 16).filter fun h => m.get CLP_RING_CFG_SIZE h != 0
  let m := hs.foldl (fun m h => (m.set CLP_RING_PROD_PROD h 0).set CLP_RING_CONS_CONS h 0) m
  let tell (m : Mod) (h : Nat) : Mod :=
    (m.sqc CLP_EVENT_RESIZED).event { blk := 0x0F, code := 0x03, hedge := h, detail := h * 256 + ch, rings := insertNat [0] h }
  (if hs = [] then [0] else hs).foldl tell m

/-- The Clippings rings lose a channel (R243): what they held, and the records in its writer, are counted in WRITER_DROP; fence markers
go on in the remaining channel's writer, in their place (R244). With no channel left every record is counted in NO_SDRAM. -/
def Mod.clipChannelLost (m : Mod) (ch : Nat) : Mod :=
  let m := (List.range 16).foldl (fun m h => m.bump (clpCtr h 2) (if m.get CLP_RING_CFG_SIZE h = 0 then 0 else m.clipFill h)) m
  let lost := insertNat m.clp.lost ch
  let none_ := decide (2 ≤ lost.length)
  let goes (r : ClipRec) : Bool := none_ || (r.ch == ch && !r.fence)
  let m := (m.clp.recs.filter goes).foldl (fun m r => m.clipDrop r.hedge (if none_ then 5 else 2)) m
  let m := (if none_ then m.clp.markers else []).foldl (fun m x => m.clipDrop x.1 5) m
  let kept := (m.clp.recs.filter fun r => !(goes r)).map fun r => if r.ch = ch then { r with ch := 1 - ch } else r
  let m := m.withClp { m.clp with recs := kept, markers := if none_ then [] else m.clp.markers, lost := lost }
  (m.writerLevels.ringsResized ch).clipSettle

/-- The Clippings rings regain a channel (R329). -/
def Mod.clipChannelBack (m : Mod) (ch : Nat) : Mod :=
  (m.withClp { m.clp with lost := eraseNat m.clp.lost ch }).ringsResized ch

/-- Requests of a channel that goes out of service: an engine's or a window's read fails (R328). -/
def Mod.dropRequests (m : Mod) (ch : Nat) : Mod :=
  let l := m.drm.reqs.filter fun r => r.channel == ch
  let m := m.withDrm { m.drm with reqs := m.drm.reqs.filter fun r => r.channel != ch }
  l.foldl (fun m r => if r.write then m else m.drmAnswer r true) m

/-- A channel goes out of service (R328): its regions fold into the other one, their contents lost, and the Clippings rings are halved
(R243). -/
def Mod.foldChannel (m : Mod) (ch st : Nat) : Mod :=
  let m := (m.dropRequests ch).interleavedLost
  let m := m.set DRM_STATUS_FOLDED 0 1
  let m := m.clipChannelLost ch
  (m.setChannel ch st).waitingStores

/-- CHANNEL_LOST (R328): training failed three times (1), or the write retries are exhausted (2). -/
def Mod.channelLost (m : Mod) (ch why : Nat) : Mod :=
  if m.get DRM_CH_STATUS_STATE ch = 3 then m else (m.foldChannel ch 3).drmEvent 0x03 ch why

/-- CHANNEL_OFFLINE (R328): refused unless the other channel is in RUN. -/
def Mod.channelOffline (m : Mod) (ch : Nat) : Mod :=
  if m.get DRM_CH_STATUS_STATE ch ≠ 0 then m
  else if m.get DRM_CH_STATUS_STATE (1 - ch) ≠ 0 then m.drmEvent 0x07 ch 2
  else m.foldChannel ch 2

/-- A channel that can be retrained for its return (R329): OFFLINE, or RETURNING with a training that has failed. -/
def Mod.retrains (m : Mod) (ch : Nat) : Bool :=
  m.get DRM_CH_STATUS_STATE ch == 2 || (m.get DRM_CH_STATUS_STATE ch == 4 && (lookup m.drm.trainFails ch).isSome)

/-- CHANNEL_RETURN (R329): an OFFLINE channel reads RETURNING and retrains; a third failed training in a row loses it (R328). -/
def Mod.channelReturn (m : Mod) (ch : Nat) (trained : Bool) : Mod :=
  if m.retrains ch = false then m
  else
    let m := m.set DRM_CH_STATUS_STATE ch 4
    if trained then m.withDrm { m.drm with trainFails := remove m.drm.trainFails ch }
    else
      let n := lookupD m.drm.trainFails ch 0 + 1
      if n < 3 then m.withDrm { m.drm with trainFails := store m.drm.trainFails ch n }
      else ((m.withDrm { m.drm with trainFails := remove m.drm.trainFails ch }).setChannel ch 3).drmEvent 0x03 ch 1

/-- CHANNEL_RETURN_DONE (R329): the mirrors are copied, and the regions unfold at a commit, their contents lost again. -/
def Mod.channelReturnDone (m : Mod) (ch : Nat) : Mod :=
  if m.get DRM_CH_STATUS_STATE ch ≠ 4 ∨ m.retrains ch = true then m
  else
    let m := m.interleavedLost
    let m := if m.get DRM_CH_STATUS_STATE (1 - ch) = 0 then m.set DRM_STATUS_FOLDED 0 0 else m
    (m.clipChannelBack ch).setChannel ch 0

/-- Devices marked erased for the row of an address in channel ch (R327). -/
def Mod.erasedAt (m : Mod) (ch addr : Nat) : List Nat :=
  (m.drm.erased.filter fun e => e.1 == subOf ch addr && e.2.2 == m.rowLocation ch addr 0 % 2 ^ 21).map (·.2.1)

/-- What a read burst comes to (R310): one of a row with an erased device is rebuilt without that device's CRC, and any further fault in it
is uncorrectable. -/
def burstEnd (gone : List Nat) (how : BurstEnd) : BurstEnd :=
  if gone.isEmpty then how
  else
    match how with
    | .corrected d => if gone.contains d.val then .good else .uncorrectable
    | .retried => .uncorrectable
    | x => x

/-- The burst was issued once more (R310): a second fault in a row without an erased device. -/
def readAgain (gone : List Nat) (how : BurstEnd) : Bool := gone.isEmpty && (how == .retried || how == .uncorrectable)

/-- An uncorrectable granule of a mirrored region (R324): the other channel's copy is read, and written over the failed one. -/
def Mod.mirrorMends (m : Mod) (r : DrmReq) : Mod :=
  (m.bump (drmCtr (subOf (1 - r.channel) r.addr) 0)).drmQueue .hardware 0 r.addr true r.channel

/-- Two addresses lie in one bank of a subchannel of their channel (R312). -/
def Mod.sameBank (m : Mod) (a b : Nat) : Bool :=
  let bank (x : Nat) : Nat × Nat := (m.channelOffset x / 2 ^ 6 % 2, m.channelOffset x / 2 ^ 13 % 32)
  bank a == bank b

/-- Another candidate of the same bank, which is ready whenever this request's is, goes first (R317): one of an earlier stage, an older one of
stage 2 or 3, and an older one of stage 4 or 5 where the request is no row hit. -/
def Mod.outranked (m : Mod) (r : DrmReq) (hit : Bool) : Bool :=
  let stage := m.drmStage r
  m.drm.reqs.any fun x =>
    x.channel == r.channel && m.sameBank x.addr r.addr && m.drmCandidate x &&
      (decide (m.drmStage x < stage) || (m.drmStage x == stage && decide (x.id < r.id) && (decide (stage < 4) || !hit)))

/-- Bursts that a request takes in all: a merge read beside its write, a read once more, and up to three writes repeated (R310, R321). -/
def burstsOf (r : DrmReq) (again : Bool) (how : BurstEnd) : Nat :=
  1 + b01 (r.write && r.partly) + b01 (!r.write && again) +
    match how with
    | .writeRetries n => if r.write then Nat.min n.val 3 else 0
    | _ => 0

/-- SDRAM_REQUEST_DONE (R310, R317, R323): a request that the controller may serve now is served, and how its burst ends. A write that meets a
write CRC error is repeated up to three times. -/
def Mod.drmDone (m : Mod) (id : Nat) (how : BurstEnd) (hit : Bool) : Mod :=
  match m.drm.reqs.find? fun r => r.id == id with
  | none => m
  | some r =>
    if m.drmCandidate r = false ∨ m.outranked r hit = true then m
    else
      let s := subOf r.channel r.addr
      let m := if hit then m.bump (drmCtr s 2) else m
      let m := m.chargeBurst r (burstsOf r (readAgain (m.erasedAt r.channel r.addr) how) how)
      if r.write then
        let m := if r.partly then (m.bump (drmCtr s 5)).bump (drmCtr s 0) else m
        let m := m.bump (drmCtr s 1)
        match how with
        | .writeRetries n =>
          let m := (m.bump (drmCtr s 1) (Nat.min n.val 3)).bump (drmCtr s 9) (Nat.min n.val 3)
          if n.val ≤ 3 then m.drmLeaves r
          else ((m.drmLog 3 r.channel s 7 r.addr).drmLeaves r).channelLost r.channel 2
        | _ => m.drmLeaves r
      else
        let gone := m.erasedAt r.channel r.addr
        let m := if readAgain gone how then (m.bump (drmCtr s 0) 2).bump (drmCtr s 8) else m.bump (drmCtr s 0)
        let granule := r.addr / 64
        let failing := m.int.badGranules.contains granule
        let result := burstEnd gone how
        let m := if gone.isEmpty || result == .uncorrectable then m else m.bump (drmCtr s 6)
        match result with
        | .corrected d =>
          let m := ((m.bump (drmCtr s 6)).drmLog 1 r.channel s d.val r.addr).unitError 6 (m.rowLocation r.channel r.addr d.val) false
          (m.drmAnswer r failing).drmLeaves r
        | .uncorrectable =>
          let m := m.bump (drmCtr s 7)
          let m := (m.drmLog 2 r.channel s 7 r.addr).drmEvent 0x01 r.channel (s % 2)
          let m := m.unitError 6 (m.rowLocation r.channel r.addr 0) true
          let alone := interleaved r.addr || (m.servingOf r.addr).length == 1
          let m := if alone then m else m.mirrorMends r
          (m.drmAnswer r alone).drmLeaves r
        | _ => (m.drmAnswer r failing).drmLeaves r

/-- REQUEST_PROMOTED (R317): a request has waited 4 µs in its slot. -/
def Mod.requestPromoted (m : Mod) (id : Nat) : Mod :=
  match m.drm.reqs.find? fun r => r.id == id with
  | none => m
  | some r =>
    if r.promoted || !r.slot then m
    else
      let m := m.advanceTo (r.since + 4000)
      let mark (x : DrmReq) : DrmReq := if x.id = id then { x with promoted := true } else x
      (m.withDrm { m.drm with reqs := m.drm.reqs.map mark }).bump (drmCtr (subOf r.channel r.addr) 3)

/-! ### Refresh, training and repair -/

/-- REFRESH (R325): a same-bank refresh of a subchannel. -/
def Mod.refresh (m : Mod) (s : Nat) : Mod := m.bump (drmCtr s 11)

/-- REFRESH_2X of a subchannel brought up to its devices and FORCE_2X, and raised as it is set (R325). -/
def Mod.refreshShown (m : Mod) (s : Nat) : Mod :=
  let f : Fld := ⟨.DRM_CH_STATUS, 4 + s % 2, 1⟩
  let want := m.drm.hot.contains s || m.flag DRM_CFG_FORCE_2X
  if want = m.flag f (s / 2) then m
  else
    let m := m.set f (s / 2) (b01 want)
    if want then m.drmEvent 0x06 (s / 2) (s % 2) else m

/-- REFRESH_2X (R325): a device reports a temperature above 85 °C, or no longer does; FORCE_2X keeps the interval halved. -/
def Mod.refresh2x (m : Mod) (s : Nat) (hot : Bool) : Mod :=
  (m.withDrm { m.drm with hot := if hot then insertNat m.drm.hot s else eraseNat m.drm.hot s }).refreshShown s

/-- MARGIN_SWEEP (R326): a sweep finds the least timing margin of a subchannel, below its floor or not; the channel shows the least of its two. -/
def Mod.marginSweep (m : Mod) (s margin : Nat) : Mod :=
  let m := m.bump (drmCtr s 12)
  let m := m.withDrm { m.drm with margins := store m.drm.margins s (Nat.min margin 65535) }
  let other := s / 2 * 2 + (1 - s % 2)
  let m := m.set DRM_CH_STATUS_MARGIN_PS (s / 2) (Nat.min (Nat.min margin 65535) (lookupD m.drm.margins other 65535))
  if margin < 15 then m.drmEvent 0x05 (s / 2) (s % 2) else m

/-- ROW_RETIRE (R327): the row is held, corrected, repaired by soft PPR and written back, or its device is marked erased when no repair
resource is left in the bank group. -/
def Mod.rowRetire (m : Mod) (loc : Nat) (repaired : Bool) : Mod :=
  let ch := loc / 2 ^ 25 % 2
  let s := 2 * ch + loc / 2 ^ 24 % 2
  let device := loc / 2 ^ 21 % 8
  if repaired then
    (m.bump (drmCtr s 13)).withDrm { m.drm with softRepaired := store m.drm.softRepaired loc s }
  else
    let m := m.withDrm { m.drm with erased := (s, device, loc % 2 ^ 21) :: m.drm.erased }
    let bitNo := 5 * (s % 2) + device
    let m := m.set DRM_CH_STATUS_ERASED ch (m.get DRM_CH_STATUS_ERASED ch ||| 2 ^ bitNo)
    m.drmEvent 0x02 ch device

end Sys2Proof.Machine
end

