-- ==== Sys2Proof/Machine/Edit.lean ====
section
/-! DEFINITION. The egress edit of a copy (R157 to R159) and the one-step timestamp edits (R225 to R227). -/

namespace Sys2Proof.Machine

/-- A copy's octets while they are edited, with the offsets of its IP header, its PTP header and the UDP header before it. -/
structure Edit where
  o : List Byte
  ip : Nat
  ptp : Nat
  udp : Nat
  tags : Nat
  deriving DecidableEq, Repr

/-- del octets at a position replaced by others; the offsets after it move with them. -/
def Edit.splice (e : Edit) (pos del : Nat) (ins : List Byte) : Edit :=
  let mv (x : Nat) : Nat := if pos ≤ x ∧ x ≠ 0 then x - del + ins.length else x
  { e with o := e.o.take pos ++ ins ++ e.o.drop (pos + del), ip := mv e.ip, ptp := mv e.ptp, udp := mv e.udp }

/-- Octets at a position overwritten. -/
def Edit.write (e : Edit) (pos : Nat) (b : List Byte) : Edit :=
  if pos + b.length ≤ e.o.length then { e with o := e.o.take pos ++ b ++ e.o.drop (pos + b.length) } else e

/-- A checksum updated for octets that change (RFC 1624): the complement of the sum less the old words plus the new. -/
def csumUpdate (hc : Nat) (old new : List Byte) : Nat :=
  let add (a b : Nat) : Nat := if a + b < 65536 then a + b else a + b - 65535
  65535 - add (add (65535 - hc) (65535 - onesSum old)) (onesSum new)

/-- The outermost VID set; a tag with TPID 0x8100 inserted when there is none, its PCP and DEI an open value (R157 step 3). -/
def Edit.setVid (e : Edit) (vid pcp : Nat) : Edit :=
  if e.tags = 0 then
    { (e.splice 12 0 (toBytes 2 0x8100 ++ toBytes 2 (pcp % 16 * 4096 + vid))) with tags := 1 }
  else e.write 14 (toBytes 2 (fieldAt e.o 14 2 / 4096 * 4096 + vid))

/-- TTL or hop limit decremented, and the IPv4 header checksum updated (R157 step 3). -/
def Edit.decTtl (e : Edit) (version : Nat) : Edit :=
  if version = 4 then
    let old := sliceBytes e.o (e.ip + 8) 2
    let new := toBytes 1 (fieldAt e.o (e.ip + 8) 1 + 255) ++ sliceBytes e.o (e.ip + 9) 1
    let hc := csumUpdate (fieldAt e.o (e.ip + 10) 2) old new
    (e.write (e.ip + 8) new).write (e.ip + 10) (toBytes 2 hc)
  else if version = 6 then e.write (e.ip + 7) (toBytes 1 (fieldAt e.o (e.ip + 7) 1 + 255))
  else e

/-- Fields of word 12 of a template (R158). -/
def tplValid (t : List Word) : Bool := (t.getD 12 0).getLsbD 63
/-- See tplValid. -/
def tplField (t : List Word) (hi lo : Nat) : Nat := bits (t.getD 12 0).toNat hi lo

/-- The push octets of a template. -/
def tplPush (t : List Word) : List Byte := ((t.take 12).flatMap fun w => toBytes 8 w.toNat).take (tplField t 62 56)

/-- A template applied: the pop, the push, its length fields and its header checksum (R158). -/
def Edit.template (e : Edit) (t : List Word) : Edit :=
  let pos := if tplField t 48 48 = 0 then 0 else 12 + 4 * e.tags
  let push := tplPush t
  let e := e.splice pos (tplField t 55 49) push
  let len (e : Edit) (off base : Nat) : Edit :=
    if off = 127 ∨ push.length < off + 2 then e else e.write (pos + off) (toBytes 2 (e.o.length - (pos + base)))
  let e := len (len e (tplField t 47 41) (tplField t 40 34)) (tplField t 33 27) (tplField t 26 20)
  let c := tplField t 19 13
  if c = 127 ∨ push.length < c + 20 then e
  else
    let h := pos + c
    let e := e.write (h + 10) [0, 0]
    let n := 4 * (fieldAt e.o h 1 % 16)
    e.write (h + 10) (toBytes 2 (65535 - onesSum (sliceBytes e.o h n)))

/-- correctionField: a signed sum that overflows becomes the greatest value (R226). -/
def addCorrection (old : Nat) (d : Int) : Nat :=
  let v := signed 64 old + d
  if (2 ^ 63 : Int) ≤ v ∨ v < -(2 ^ 63 : Int) then 2 ^ 63 - 1 else unsigned 64 v

/-- The one-step edit of a PTP message (R225, R226): the two instants and the reference are in units of 2⁻¹⁶ ns. -/
def Edit.stamp (e : Edit) (act : Nat) (ip : Nat) (ttx : Nat) (delta : Int) : Edit :=
  let old := sliceBytes e.o e.ptp 44
  let corr := fieldAt e.o (e.ptp + 8) 8
  let e' := match act with
    | 1 =>
      let e := e.write (e.ptp + 8) (toBytes 8 (addCorrection corr (ttx % 65536 : Nat)))
      let ns := ttx / 65536
      e.write (e.ptp + 34) (toBytes 6 (ns / 1000000000) ++ toBytes 4 (ns % 1000000000))
    | _ => e.write (e.ptp + 8) (toBytes 8 (addCorrection corr delta))
  if e.udp = 0 then e'
  else
    let hc := fieldAt e.o (e.udp + 6) 2
    if ip = 4 ∧ hc = 0 then e' else e'.write (e.udp + 6) (toBytes 2 (csumUpdate hc old (sliceBytes e'.o e'.ptp 44)))

/-- Whether front port p is in a replication group, directly or through its LAG. -/
def Mod.inGroup (m : Mod) (g p : Nat) : Bool :=
  let e := m.tbl 1 g
  bit e 319 && (bit e p || (m.flag FDB_PORT_CFG_LAG_MEMBER p && bit e (134 + m.get FDB_PORT_CFG_LAG p)))

/-- Steps 1 to 5 of the edit (R157). -/
def Mod.editHeaders (m : Mod) (f : Frame) (d pcp : Nat) : Edit :=
  let e : Edit := { o := if f.trunc then f.octets else f.octets.take (f.octets.length - 4), ip := f.ipOff,
                    ptp := (f.ptp.map (·.off)).getD 0, udp := (f.ptp.map (·.udp)).getD 0, tags := f.tags }
  let e := if f.rtagPop ∧ f.rtag then e.splice (12 + 4 * e.tags) 6 [] else e
  let e := match f.nh with
    | some i =>
      let h := m.tbl 2 i
      let e := e.write 0 (toBytes 6 (bits h 111 64) ++ toBytes 6 (bits (m.tbl 7 (bits h 51 46)) 47 0))
      let e := e.setVid (bits h 63 52) pcp
      if bit h 45 then e.decTtl f.ip else e
    | none =>
      match f.untag with
      | some g => if 0 < e.tags ∧ d < 128 ∧ m.inGroup g d then { (e.splice 12 4 []) with tags := e.tags - 1 } else e
      | none => e
  match f.rtagPush, f.frerSeq with
  | true, some seq => e.splice (12 + 4 * e.tags) 0 (toBytes 2 0xF1C1 ++ toBytes 2 0 ++ toBytes 2 seq)
  | _, _ => e

/-- How an edit ends (R159): the octets before the new FCS, or an invalid template. -/
def Mod.editCopy (m : Mod) (f : Frame) (d pcp : Nat) : Option Edit :=
  let e := m.editHeaders f d pcp
  let t := match f.nh with
    | some i => bits (m.tbl 2 i) 44 29
    | none => 0
  if t = 0 then some e
  else
    match (if t < 4096 then lookup m.buf.templates t else none) with
    | some w => if tplValid w then some (e.template w) else none
    | none => none

/-- Zero octets to 60 before the new FCS (R157 step 8). -/
def padTo60 (o : List Byte) : List Byte := o ++ List.replicate (60 - o.length) 0

/-- The length an edited copy leaves with, its FCS included. -/
def Mod.editedLength (m : Mod) (f : Frame) (d : Nat) : Nat :=
  match m.editCopy f d 0 with
  | some e => Nat.max 60 e.o.length + 4
  | none => f.octets.length

/-- The one-step action of a copy to port d (R225, R227): a descriptor's own, or RESIDENCE of a transparent clock. -/
def Mod.stampAct (m : Mod) (f : Frame) (d : Nat) : Nat :=
  if f.tsAct ≠ 0 then f.tsAct
  else
    match f.ptp with
    | some p =>
      let role := m.get TIM_INST_CFG_ROLE (if f.source < 128 then m.owner f.source else f.hedge)
      if f.source < 128 ∧ p.msg < 4 ∧ m.flag TIM_PORT_CFG_TC_EN d ∧ (role = 2 ∨ (role = 3 ∧ p.msg = 0)) then 2 else 0
    | none => 0

end Sys2Proof.Machine
end

