-- ==== Sys2Proof/Machine/Ingress.lean ====
section
/-! DEFINITION. The ingress pipeline: what becomes of a frame between its arrival and its admission (R12, R78, R83, R86,
R93 to R95, R98, R113 to R115, R119 to R125, R129, R191, R192, R224, R341). -/

namespace Sys2Proof.Machine

/-- What the ingress decides of a frame that goes on: its copies, and whether they are a flood or group delivery. -/
structure Decision where
  frame : Frame
  group : Bool
  targets : List (Nat × Option Nat)
  deriving DecidableEq, Repr

/-- A destination processor that is absent (R95): the supervisor, or the Hedge's host function. -/
def Mod.excAbsent (m : Mod) (h : Nat) : Bool :=
  if m.flag CLS_HEDGE_CFG_EXC_DEST h then !(m.hdg.busMaster.contains (h + 1)) else m.flag GLB_STATUS_HEADLESS

/-- A frame goes to the exception path with reason r, parsing having stopped at an octet (R93 to R95). -/
def Mod.toException (m : Mod) (f : Frame) (r stop : Nat) : Option Decision × Mod :=
  let h := f.hedge
  if m.excAbsent h then (none, (m.bump (clsCtr h 64)).clipIngress h f none 255)
  else
    let t := m.excTake h r
    if t.1 then
      let m := t.2.bump (clsCtr h r)
      let dest := if m.flag CLS_HEDGE_CFG_EXC_DEST h then 128 else 129
      (some { frame := { f with cls := m.get CLS_EXC_TB_EXC_CLASS (32 * h + r), exc := some (r, stop) },
              group := false, targets := [(dest, none)] }, m)
    else (none, t.2.clipIngress h f (some (0x24, 21)) 255)

/-- A forwarding discard with its counter and its record: FWD_DISCARD for the counters R236 names. -/
def Mod.fwdDiscard (m : Mod) (f : Frame) (h ctr : Nat) : Mod :=
  let m := m.bump (fdbCtr h ctr)
  if ctr = 9 ∨ ctr = 10 ∨ ctr = 11 ∨ (13 ≤ ctr ∧ ctr ≤ 16) then m.clipIngress h f (some (0x23, 20)) 255
  else m.clipIngress h f none 255

/-! ### PTP -/

/-- A PTP message of a frame (R224): its place, or that it ends beyond the parse depth. It is looked for in a frame of a front port with PTP_EN,
under the instance of the port's Hedge, and in a frame that microcode sent, under that of the frame's Hedge, so that its one-step action finds
the header (R225, R226; DEDUCED, log 73: no port's PTP_EN bears on such a frame). -/
def Mod.ptpOf (m : Mod) (f : Frame) (w : Walk) : Option PtpInfo × Bool :=
  if (if f.source < 128 then m.flag TIM_PORT_CFG_PTP_EN f.source else decide (130 ≤ f.source)) then
    let h := f.hedge
    let at_ : Option (Nat × Nat) :=
      if w.outer.etype = 0x88F7 ∧ w.outer.tcis.length ≤ 2 ∧ 14 ≤ w.l3 then some (w.l3, 0)
      else if 0 < w.udp ∧ w.flags.tunnel = false ∧ w.flags.frag = false ∧ w.outer.ip ≠ 0 ∧
          (w.outer.dport = 319 ∨ w.outer.dport = 320) then some (w.udp + 8, w.udp)
      else none
    match at_ with
    | some (o, u) =>
      if w.at_ (o + 1) 1 % 16 = 2 ∧ m.flag TIM_INST_CFG_EN h ∧ w.at_ (o + 4) 1 = m.get TIM_INST_CFG_DOMAIN h then
        if w.depth < o + 34 then (none, true) else (some { off := o, msg := w.at_ o 1 % 16, udp := u }, false)
      else (none, false)
    | none => (none, false)
  else (none, false)

/-- The correction t_rx − raw of an event message (R221, R222), in time units. The nominal path delay and the per-frame variation are open
values. -/
def Mod.rxCorrection (m : Mod) (p msg : Nat) : Int × Mod :=
  let v := m.freshNat
  let asym := if msg = 0 ∨ msg = 3 then signed 32 (m.get TIM_PORT_ASYM_ASYM p) else 0
  ((-(signed 32 (v.1 % 2 ^ 32)) - signed 32 (m.get TIM_PORT_FACT_RX_FACT p) - signed 32 (m.get TIM_PORT_EXT_RX_EXT p) - asym) * 100000000, v.2)

/-- The PTP part of a descriptor (R222, R224); a front port counts its messages, and an event message gets its correction there. -/
def Mod.markPtp (m : Mod) (f : Frame) (w : Walk) : Frame × Mod :=
  match m.ptpOf f w with
  | (some i, _) =>
    if 128 ≤ f.source then ({ f with ptp := some i }, m)
    else if i.msg < 4 then
      let c := m.rxCorrection f.source i.msg
      ({ f with ptp := some i, corr := c.1 }, c.2.bump (timPortCtr f.source 0))
    else ({ f with ptp := some i }, m.bump (timPortCtr f.source 1))
  | (none, true) => (f, if f.source < 128 then m.bump (timPortCtr f.source 2) else m)
  | (none, false) => (f, m)

/-! ### VLAN and destination -/

/-- The VID of a frame (R99): its outermost tag's, else the port's PVID or the descriptor's. -/
def Mod.frameVid (m : Mod) (f : Frame) (w : Walk) : Nat :=
  let tag := w.outer.tci0 % 4096
  if tag ≠ 0 then tag else if f.source < 128 then m.get FDB_PORT_CFG_PVID f.source else f.vid

/-- The VLAN entry of a frame (R99): none when the frame is discarded. -/
def Mod.vlanEntry (m : Mod) (f : Frame) (vid : Nat) : Option Nat :=
  let e := m.tbl 0 (f.hedge * 4096 + vid)
  if vid = 4095 ∨ (128 ≤ f.source ∧ vid = 0) ∨ bit e 63 = false then none
  else if bit e 22 ∧ f.source < 128 then
    let g := m.tbl 1 (bits e 48 37)
    let p := f.source
    let direct := bit g p
    let lag := m.flag FDB_PORT_CFG_LAG_MEMBER p && bit g (134 + m.get FDB_PORT_CFG_LAG p)
    if bit g 319 && (direct || lag) then some e else none
  else some e

/-- What destination resolution gives (R98 step 3): the next hop, the destination, the FDB entry hit, whether the frame was routed, whether an
unknown unicast floods, and whether the step itself discards the frame, before the steps that follow. -/
structure Resolved where
  nh : Option Nat := none
  res : Res
  hit : Option Nat := none
  routed : Bool := false
  unknown : Bool := false
  stops : Bool := false
  deriving DecidableEq, Repr

/-- The broadcast address. -/
def broadcast : Nat := 0xFFFFFFFFFFFF

/-- The FDB's answer for a destination (R103, R104, R113, R115). -/
def Mod.fdbDest (m : Mod) (vlan fid mac hash : Nat) : Resolved × Mod :=
  let r := m.fdbLookup fid mac
  let flood := Res.group (bits vlan 48 37)
  if mac = broadcast then ({ res := flood }, r.2)
  else
    match r.1 with
    | some (_, e) =>
      if feUseNh e then let d := r.2.nextHopDest (feIdx e) false hash; ({ nh := d.1, res := d.2, hit := some e }, r.2)
      else ({ res := Res.ofKind (feKind e) (feDest e), hit := some e, stops := decide (4 ≤ feKind e) }, r.2)
    | none =>
      let barred := bit vlan (if macGroup mac then 20 else 21)
      ({ res := if barred then .drop 11 else flood, unknown := !barred && !(macGroup mac), stops := barred }, r.2)

/-- The LPM path (R124, R129). -/
def Mod.routeDest (m : Mod) (f : Frame) (w : Walk) (hash : Nat) : Resolved :=
  if w.outer.ip = 0 then { res := .miss, routed := true }
  else if w.outer.ttl ≤ 1 then { res := .drop 13, routed := true, stops := true }
  else
    let d := m.lpmDest f.hedge w.outer.ip w.outer.dip hash
    { nh := d.1.1, res := d.1.2, routed := true, stops := d.2 }

/-- A frame enters a Gap (R341 steps 1 to 3): none when it is discarded. -/
def Mod.crossGap (m : Mod) (f : Frame) (w : Walk) (g hash : Nat) (r : Resolved) : Option (Frame × Resolved) × Mod :=
  if 64 ≤ g then (none, m.fwdDiscard f f.hedge 14)
  else if m.flag HDG_GAP_CFG0_VALID g = false ∨ m.get HDG_GAP_CFG0_FROM g ≠ f.hedge then
    (none, (m.fwdDiscard f f.hedge 14).bump (m.gapCtr g 5))
  else
    let f := { f with hedge := m.get HDG_GAP_CFG0_TO g, gap := some g, untag := none,
                      cls := if m.flag HDG_GAP_CFG0_CLASS_EN g then m.get HDG_GAP_CFG0_CLASS g else f.cls }
    let fixed := Res.ofKind (m.get HDG_GAP_CFG0_DEST_KIND g) (m.get HDG_GAP_CFG0_DEST g)
    if m.flag HDG_GAP_CFG0_MODE g then
      let l := m.fdbLookup (m.get HDG_GAP_CFG0_FID g) w.outer.dmac
      match l.1 with
      | some (_, e) =>
        if feUseNh e then
          let d := l.2.nextHopDest (feIdx e) false hash
          (some (f, { r with nh := d.1, res := d.2, hit := some e, unknown := false, stops := false }), l.2)
        else if feKind e = 3 then (none, (l.2.bump (l.2.gapCtr g 5)).clipIngress f.hedge f none 255)
        else (some (f, { r with res := Res.ofKind (feKind e) (feDest e), hit := some e, unknown := false, stops := decide (4 ≤ feKind e) }), l.2)
      | none => (some (f, { r with res := fixed, hit := none, unknown := false }), l.2)
    else (some (f, { r with res := fixed, hit := none, unknown := false }), m)

/-! ### Expansion -/

/-- The ingress port's own LAG. -/
def Mod.ownLag (m : Mod) (p : Nat) : Option Nat :=
  if p < 128 ∧ m.flag FDB_PORT_CFG_LAG_MEMBER p then some (m.get FDB_PORT_CFG_LAG p) else none

/-- A unicast result as a destination (R113, R128): its discard's counter, if it is counted. No frame reaches a front port of
another Hedge (R115, R353). -/
def Mod.oneDest (m : Mod) (f : Frame) (d : Nat) : List Nat × Option Nat :=
  if 134 ≤ d then ([], some 14)
  else if d = f.source ∧ d < 128 then ([], none)
  else if d < 128 ∧ m.owner d ≠ f.hedge then ([], some 17)
  else ([d], none)

/-- What a replication group makes of a frame (R114, R115, R128): its destinations, how many were masked, and how many LAGs had no member to
take a copy. -/
structure GroupDests where
  dests : List Nat
  masked : Nat
  memberless : Nat
  deriving DecidableEq, Repr

/-- The members of a replication group as destinations: neither the ingress port nor its LAG is one, and a front port of another Hedge is
masked. -/
def Mod.groupDests (m : Mod) (f : Frame) (e hash : Nat) : GroupDests :=
  let own := m.ownLag f.source
  let ingress (d : Nat) : Bool := d == f.source && decide (d < 128)
  let direct := (List.range 134).filter fun d => bit e d && !(decide (d < 128) && own.isSome && m.ownLag d == own)
  let lags := (List.range 128).filter fun n => bit e (134 + n) && own != some n
  let picked := lags.filterMap fun n => m.lagPick n hash
  let all := (direct ++ picked).filter fun d => !(ingress d)
  let mine := all.filter fun d => decide (128 ≤ d) || m.owner d == f.hedge
  { dests := mine, masked := all.length - mine.length, memberless := lags.length - picked.length }

/-- Expansion into destinations (R98 step 5): none when the frame is discarded. -/
def Mod.expand (m : Mod) (f : Frame) (r : Resolved) (hash : Nat) : Option (List Nat × Bool) × Mod :=
  let h := f.hedge
  let unicast (x : List Nat × Option Nat) : Option (List Nat × Bool) × Mod :=
    if x.1 = [] then (none, match x.2 with
      | some c => m.fwdDiscard f h c
      | none => m.clipIngress h f none 255)
    else (some (x.1, false), m)
  match r.res with
  | .port d => unicast (m.oneDest f d)
  | .lag n =>
    if m.ownLag f.source = some n then (none, m.clipIngress h f none 255)
    else
      match m.lagPick n hash with
      | some d => unicast (m.oneDest f d)
      | none => (none, m.fwdDiscard f h 15)
  | .group g =>
    let e := m.tbl 1 g
    if bit e 319 = false then (none, m.fwdDiscard f h 14)
    else
      let d := m.groupDests f e hash
      let up (m : Mod) (c k : Nat) : Mod := if k = 0 then m else m.bump (fdbCtr h c) k
      let m := up (up (up m 17 d.masked) 15 d.memberless) 8 (b01 r.unknown)
      if d.dests = [] then (none, m.clipIngress h f (if d.memberless = 0 then none else some (0x23, 20)) 255)
      else (some (d.dests, true), m)
  | .gap _ => (none, m.fwdDiscard f h 14)
  | .drop c => (none, m.fwdDiscard f h c)
  | .miss => (none, m)

/-- The forwarding result as a descriptor carries it (R275). -/
def Res.pair : Res → Option (Nat × Nat)
  | .port d => some (0, d)
  | .lag n => some (1, n)
  | .group g => some (2, g)
  | .gap g => some (3, g)
  | _ => none

/-! ### Launch time -/

/-- Start of the cycle of a bank that contains an instant, and the cycle's length, in time units (R185, R191). -/
def Mod.cycleOf (m : Mod) (p bank net : Nat) : Nat × Nat :=
  let per := m.period * unitsPerNs
  let ct := Nat.max 1 (m.get SCH_GATE_BANK_CYCLE_TICKS (2 * p + bank))
  let n := net / per
  let back := (n + ct - m.get SCH_GATE_BANK_PHASE (2 * p + bank) % ct) % ct
  ((n - back) * per, ct * per)

/-- A grain, 4 ns, in time units. -/
def grain : Nat := 4 * unitsPerNs

/-- The launch time of a copy to front port p (R191): none when it gets none. stamp is the instant of reference. -/
def Mod.launchTime (m : Mod) (f : Frame) (p stamp : Nat) : Option Nat :=
  match f.stream with
  | some s =>
    let e := m.tbl 8 s
    if p < 128 ∧ m.flag SCH_PORT_CFG_LAUNCH_EN p ∧ bit e 127 ∧ bit e 47 then
      some ((m.cycleOf p (m.get SCH_PORT_STATUS_CUR_BANK p) stamp).1 + bits e 79 48 * grain)
    else none
  | none => none

/-- The judgement of each copy with a launch time at the ingress decision (R192): the copies made. -/
def Mod.judgeLaunch (m : Mod) (f : Frame) (stamp : Nat) (dests : List Nat) : List (Nat × Option Nat) × Mod :=
  let late := f.stream.any fun s => bit (m.tbl 8 s) 46
  let handle := f.stream.getD 0
  dests.foldl (fun (acc : List (Nat × Option Nat) × Mod) p =>
    let m := acc.2
    match m.launchTime f p stamp with
    | none => (acc.1 ++ [(p, none)], m)
    | some t =>
      let len := (m.cycleOf p (m.get SCH_PORT_STATUS_CUR_BANK p) stamp).2
      if m.time.net + len < t then
        let m := (m.bump (m.schCtr p 4)).sqc SCH_EVENT_LAUNCH_FAR
        (acc.1, m.eventRated (0xC030000 + p)
          { blk := 0x0C, code := 0x03, hedge := m.owner p, detail := p * 256, rings := [m.owner p] })
      else if t < m.time.net + m.get SCH_PORT_LAUNCH_LEAD p * grain then
        let m := m.bump (streamCtr handle 3)
        if late then (acc.1, m.bump (m.schCtr p 2)) else (acc.1 ++ [(p, none)], m.bump (m.schCtr p 1))
      else (acc.1 ++ [(p, some t)], m)) ([], m)

/-! ### The pipeline -/

/-- Stream filtering and FRER (R98 step 4, R121, R122): none when the frame is discarded. -/
def Mod.streamStage (m : Mod) (f : Frame) : Option Frame × Mod :=
  let tag := rtagOf f.octets f.tags
  let f := { f with rtag := tag.isSome }
  match f.stream with
  | none => (some f, m)
  | some s =>
    let e := m.tbl 8 s
    let m := m.bump (streamCtr s 0)
    if bit e 127 = false then (some f, m)
    else
      if bit e 126 ∧ bits e 125 112 < f.recvLen then (none, (m.bump (streamCtr s 2)).clipIngress f.hedge f none 255)
      else
        let m := m.bump (streamCtr s 1)
        let a := m.frer e tag
        match a.1 with
        | some x => (some { f with frerSeq := x.seq, rtagPush := x.push, rtagPop := x.pop }, a.2)
        | none => (none, a.2.clipIngress f.hedge f none 255)

/-- The destination of a frame that names one, or of one that is looked up (R98 step 3). -/
def Mod.resolve (m : Mod) (f : Frame) (w : Walk) (named : Option Nat) (vlan hash : Nat) : Resolved × Mod :=
  match named with
  | some d => ({ res := .port d }, m)
  | none =>
    if bit vlan 23 ∧ m.routerMac f.hedge w.outer.dmac then (m.routeDest f w hash, m)
    else m.fdbDest vlan (bits vlan 62 49) w.outer.dmac hash

/-- Policing, launch times and the service queue's destination (R83, R173, R192, R274); cls is the class that classification gave. -/
def Mod.lastSteps (m : Mod) (f : Frame) (w : Walk) (cls stamp : Nat) (group : Bool) (dests : List Nat) :
    Option Decision × Mod :=
  let p := m.police f (m.policersOf f cls) (bit w.outer.tci0 12)
  let m := p.2
  if p.1.2 then (none, m.clipIngress f.hedge { f with colour := 2 } (some (0x21, 18)) 255)
  else
    let f := { f with colour := p.1.1 }
    let m := match f.gap with
      | some g => (m.bump (m.gapCtr g 0)).bump (m.gapCtr g 1) f.recvLen
      | none => m
    match f.service with
    | some q =>
      if m.flag ENG_SQ_CFG_EN q then
        (some { frame := f, group := false, targets := [(130 + m.queueCluster q, none)] }, m)
      else (none, (m.bump (engCtr (m.get ENG_SQ_CFG_CLUSTER q) 12)).clipIngress f.hedge f none 255)
    | none =>
      let l := m.judgeLaunch f stamp dests
      if l.1 = [] then (none, l.2.clipIngress f.hedge f (some (0x22, 19)) 255)
      else (some { frame := f, group := group, targets := l.1 }, l.2)

/-- The source lookup discards a frame (R109). -/
def Mod.sourceDiscards (m : Mod) (f : Frame) (ctr : Nat) : Mod :=
  m.clipIngress f.hedge f (if ctr = 10 then some (0x23, 20) else none) 255

/-- The lookup stage of a frame of QSEL kind 0, 1 or 2 (R98): a discard of step 3 ends it there, but for a frame that goes to a service queue, of
which the expansion writes no record (R235). -/
def Mod.lookupStage (m : Mod) (f : Frame) (w : Walk) (named : Option Nat) (stamp : Nat) : Option Decision × Mod :=
  let vid := m.frameVid f w
  let cls := f.cls
  let f := { f with vid := vid }
  match m.vlanEntry f vid with
  | none => (none, m.fwdDiscard f f.hedge 9)
  | some vlan =>
    let f := { f with untag := some (bits vlan 36 25) }
    let src := m.sourceLookup f.source vlan (bits vlan 62 49) w.outer.smac
    let m := src.2.2
    match src.2.1 with
    | some c => (none, m.sourceDiscards f c)
    | none =>
      let hash := m.lbHash w
      let r := m.resolve f w named vlan hash
      let crossed := match r.1.res with
        | .gap g => r.2.crossGap f w g hash r.1
        | _ => (some (f, r.1), r.2)
      let m := crossed.2
      match crossed.1 with
      | none => (none, m)
      | some (f, r) =>
        let f := { f with stream := m.streamHandle vlan f.hedge vid w r.routed src.1 r.hit, nh := r.nh, result := r.res.pair }
        if r.res = .miss then (m.bump (fdbCtr f.hedge 12)).toException f 16 w.off
        else if r.stops ∧ f.service = none then (none, (m.expand f r hash).2)
        else
          let s := m.streamStage f
          match s.1 with
          | none => (none, s.2)
          | some f =>
            let x := s.2.expand { f with exported := f.exported || f.service.isSome } r hash
            match f.service, x.1 with
            | some _, d => x.2.lastSteps f w cls stamp false ((d.map (·.1)).getD [])
            | none, some (d, g) => x.2.lastSteps f w cls stamp g d
            | none, none => (none, x.2)

/-- A frame of QSEL kind 3 passes the source lookup only (R98), which may discard it, and goes to the exception path. -/
def Mod.sourceOnly (m : Mod) (f : Frame) (w : Walk) (r : Nat) : Option Decision × Mod :=
  let vid := m.frameVid f w
  let vlan := m.tbl 0 (f.hedge * 4096 + vid)
  let x := if bit vlan 63 ∧ vid ≠ 4095 then m.sourceLookup f.source vlan (bits vlan 62 49) w.outer.smac else (none, none, m)
  match x.2.1 with
  | some c => (none, x.2.2.sourceDiscards f c)
  | none => x.2.2.toException f r w.off

/-- The counters of a parse (R96). -/
def Mod.countParse (m : Mod) (h : Nat) (w : Walk) : Mod :=
  let up (m : Mod) (c : Bool) (i : Nat) : Mod := if c then m.bump (clsCtr h i) else m
  up (up (up (up m (w.code != 0) 67) w.flags.depthReached 69) w.flags.frag 70) w.flags.tunnel 71

/-- The ingress pipeline (R12 step 2): the frame as it arrived, the destination a descriptor names, whether the frame brings its
class, and the instant of reference for launch times. -/
def Mod.ingress (m : Mod) (f : Frame) (named : Option Nat) (classed : Bool) (stamp : Nat) : Option Decision × Mod :=
  let h := f.hedge
  let w := m.parse h f.octets f.trunc
  let m := m.countParse h w
  let f := { f with tags := outerTags (m.rd .PAR_TPID).toNat f.octets, ip := w.outer.ip, ipOff := w.ipAt, sender := h }
  let action := m.get PAR_HEDGE_CFG_FAIL_ACTION h
  if w.code ≠ 0 ∧ action = 0 then m.toException { f with colour := 0 } (7 + w.code) w.off
  else if w.code ≠ 0 ∧ action = 1 then (none, (m.bump (clsCtr h 68)).clipIngress h f (some (0x20, 17)) 255)
  else
    let p := m.markPtp f w
    let f := p.1
    let m := p.2
    let v := if classed then ({ cls := f.cls, colour := f.colour, qsel := 0 }, m)
      else m.classify h f.source w (decide (w.code ≠ 0))
    let m := v.2
    let qsel := if f.clip ∧ v.1.qsel / 32 = 0 then 32 else v.1.qsel
    let f := { f with cls := v.1.cls, colour := v.1.colour, qsel := qsel, clip := false }
    match qsel / 32 with
    | 4 => (none, (m.bump (clsCtr h 65)).clipIngress h f (some (0x20, 17)) 255)
    | 3 => m.sourceOnly f w (qsel % 8)
    | 2 =>
      if f.passes = 3 then (none, (m.bump (clsCtr h 72)).clipIngress h f none 255)
      else m.lookupStage { f with service := some (qsel % 32) } w named stamp
    | _ => m.lookupStage f w named stamp

/-! ### Arrival -/

/-- The MAC's class of a received frame (R51). -/
inductive RxClass where
  | runt
  | fragment
  | errored
  | good
  | oversize
  | jabber
  deriving DecidableEq, Repr

/-- The class of a frame under a maximum length. -/
def rxClassOf (maxFrame : Nat) (octets : List Byte) (symErr : Bool) : RxClass :=
  let bad := symErr || !(fcsGood octets)
  let n := octets.length
  if n < 64 then (if bad then .fragment else .runt)
  else if n ≤ maxFrame then (if bad then .errored else .good)
  else if bad then .jabber else .oversize

/-- The class of a frame whose first octet crosses front port p's boundary now. -/
def Mod.rxClass (m : Mod) (p : Nat) (octets : List Byte) (symErr : Bool) : RxClass :=
  rxClassOf (m.get PRT_PORT_CFG_MAX_FRAME p) octets symErr

/-- The size bin of a length (R61). -/
def sizeBin (n : Nat) : Nat :=
  if n ≤ 64 then 0 else if n ≤ 127 then 1 else if n ≤ 255 then 2 else if n ≤ 511 then 3 else if n ≤ 1023 then 4
  else if n ≤ 1518 then 5 else if n ≤ 2047 then 6 else if n ≤ 4095 then 7 else if n ≤ 9216 then 8 else 9

/-- Index 0, 1 or 2 of a destination address: unicast, multicast, broadcast. -/
def castIndex (mac : Nat) : Nat := if mac = broadcast then 2 else if macGroup mac then 1 else 0

/-- The receive counters of a frame by its class (R51, R61). -/
def Mod.countRx (m : Mod) (p : Nat) (octets : List Byte) (symErr : Bool) (c : RxClass) : Mod :=
  let n := octets.length
  let up (m : Mod) (i : Nat) (k : Nat := 1) : Mod := m.bump (m.prtCtr p i) k
  let m := up (up m 0 n) 2
  let sym (m : Mod) : Mod := if symErr then up m 31 else m
  let ok (m : Mod) : Mod :=
    let m := up (up (up m 1 n) 3) (4 + castIndex (fieldAt octets 0 6))
    if (tpidIndex (m.rd .PAR_TPID).toNat (fieldAt octets 12 2)).isSome then up m 7 else m
  match c with
  | .runt => up m 28
  | .fragment => sym (up m 29)
  | .errored => up (if symErr then up m 31 else up m 30) (18 + sizeBin n)
  | .good => up (ok m) (18 + sizeBin n)
  | .oversize => up (up (ok m) 32) 34
  | .jabber => sym (up m 33)

/-- The raw receive stamp of a frame captured ago quarter nanoseconds before now, on the counter as it then stood, and the
stamp for R191 (R202, R208, R220). -/
def Mod.rxStamp (m : Mod) (ago : Nat) : Nat × Nat :=
  let t := m.time.net - ago * (unitsPerNs / 4)
  match m.time.lastStep with
  | some (at_, d) => if m.now < at_ + ago / 4 + 1 ∧ at_ + ago / 4 > m.now then (stampNet ((t : Int) - d).toNat, stampNet t)
      else (stampNet t, stampNet t)
  | none => (stampNet t, stampNet t)

/-- The frame of front port p as stage 2 receives it: oversize frames are stored up to MAX_FRAME − 4 octets (R52, R138), with the
carry check over the stored octets (R152). MAX_FRAME is that of its first octet (R51). -/
def Mod.arrived (m : Mod) (p : Nat) (octets : List Byte) (trunc : Bool) (stamp : Nat)
    (maxFrame : Nat := m.get PRT_PORT_CFG_MAX_FRAME p) : Frame :=
  let stored := if trunc then octets.take (maxFrame - 4) else octets
  let h := m.owner p
  { octets := stored, source := p, hedge := h, sender := h, trunc := trunc, stamp := stamp, recvLen := octets.length,
    carry := carryCheck (if trunc then stored else stored.take (stored.length - 4)) }

end Sys2Proof.Machine
end

