-- ==== Sys2Proof/Machine/Gates.lean ====
section
/-! DEFINITION. Gate lists (R185 to R189), launch queues (R193, R194) and the commands of this part: CYCLE_START,
GATE_ENTRY_BEGIN, LAUNCH_QUEUE_ENTRY and LAUNCH_DUE. -/

namespace Sys2Proof.Machine

/-! ### Gate entries -/

/-- Gate entry i of bank b of front port p. -/
def Mod.gateEntry (m : Mod) (p b i : Nat) : Word := lookupD m.sch.gateEntries ((2 * p + b) * 1024 + i) 0

/-- Grains from the cycle start at which entry i begins (R186): no earlier than any entry before it. -/
def Mod.beginGrain (m : Mod) (p b i : Nat) : Nat :=
  (List.range (i + 1)).foldl (fun a j => Nat.max a (bits (m.gateEntry p b j).toNat 30 0)) 0

/-- GATES of entry i. -/
def Mod.entryGates (m : Mod) (p b i : Nat) : Nat := bits (m.gateEntry p b i).toNat 63 56

/-- Entries in use of a bank. -/
def Mod.bankLen (m : Mod) (p b : Nat) : Nat := m.get SCH_GATE_BANK_LEN (2 * p + b)

/-- Cycle length of a bank in time units (R185). -/
def Mod.cycleLen (m : Mod) (p b : Nat) : Nat :=
  Nat.max 1 (m.get SCH_GATE_BANK_CYCLE_TICKS (2 * p + b)) * m.period * unitsPerNs

/-- Tick number n is a cycle start of bank b (R185). -/
def Mod.cycleTick (m : Mod) (p b n : Nat) : Bool :=
  let ct := Nat.max 1 (m.get SCH_GATE_BANK_CYCLE_TICKS (2 * p + b))
  (n + ct - m.get SCH_GATE_BANK_PHASE (2 * p + b) % ct) % ct == 0

/-- EMPTY_WINDOW of an entry (R186). -/
def Mod.emptyWindow (m : Mod) (p i : Nat) : Mod :=
  ((m.bump (m.schCtr p 6)).sqc SCH_EVENT_WINDOW).eventRated (0xC010000 + p)
    { blk := 0x0C, code := 0x01, hedge := m.owner p, detail := p * 256 + i % 256, rings := [m.owner p] }

/-- The gates of front port p change: a frame started without look-ahead whose gate closes counts TX_OVERRUN (R188). -/
def Mod.setGates (m : Mod) (p gates entry : Nat) : Mod :=
  let before := m
  let m := match lookup m.sch.gates p with
    | some g => m.withSch { m.sch with gates := store m.sch.gates p { g with gates := gates } }
    | none => m
  ((m.set SCH_PORT_STATUS_GATES p gates).set SCH_PORT_STATUS_CUR_ENTRY p entry).gateOverruns before p

/-- The entries of a port's cycle that have not begun are empty (R186, R189, R207). -/
def Mod.endCycle (m : Mod) (p : Nat) : Mod :=
  match m.gateSt p with
  | some { cycle := some _, next := next, .. } =>
    let n := m.bankLen p (m.get SCH_PORT_STATUS_CUR_BANK p)
    (List.range (n - next)).foldl (fun m i => m.emptyWindow p (next + i)) m
  | _ => m

/-- The first entry from i on, of n, that is not empty: entries that end as they begin are skipped (R186). -/
def Mod.skipEmpty (m : Mod) (p b n : Nat) : Nat → Nat → Nat
  | 0, i => i
  | fuel + 1, i =>
    if i + 1 < n ∧ m.beginGrain p b (i + 1) ≤ m.beginGrain p b i then m.skipEmpty p b n fuel (i + 1) else i

/-- Entry next of the cycle begins, with those empty ones that begin at the same grain (R186). -/
def Mod.beginEntry (m : Mod) (p : Nat) (g : GateSt) : Mod :=
  let b := m.get SCH_PORT_STATUS_CUR_BANK p
  let n := m.bankLen p b
  let j := m.skipEmpty p b n n g.next
  let m := (List.range (j - g.next)).foldl (fun m i => m.emptyWindow p (g.next + i)) m
  let m := m.withSch { m.sch with gates := store m.sch.gates p { g with next := j + 1 } }
  m.setGates p (m.entryGates p b j) j

/-- A new gate cycle of front port p starts at an instant: every gate is closed until entry 0 begins (R186). -/
def Mod.newCycle (m : Mod) (p start : Nat) : Mod :=
  let b := m.get SCH_PORT_STATUS_CUR_BANK p
  let g0 := (lookup m.sch.gates p).getD { gates := 0xFF }
  let g : GateSt := { g0 with cycle := some start, cycleEnd := start + m.cycleLen p b, next := 0 }
  if m.beginGrain p b 0 = 0 ∧ 0 < m.bankLen p b then m.beginEntry p g
  else (m.withSch { m.sch with gates := store m.sch.gates p g }).setGates p 0 0

/-- A pending bank switch takes place (R189): cut tells that the old bank's cycle had not run its full length. -/
def Mod.switchBank (m : Mod) (p : Nat) (cut : Bool) : Mod :=
  let b := m.get SCH_GATE_CTL_REQ_BANK p
  let m := if cut then m.bump (m.schCtr p 8) else m
  let m := (m.set SCH_PORT_STATUS_CUR_BANK p b).set SCH_PORT_STATUS_SWITCH_PEND p 0
  let m := (m.bump (m.schCtr p 9)).sqc SCH_EVENT_SWITCHED
  m.event { blk := 0x0C, code := 0x02, hedge := m.owner p, detail := p * 256 + b, rings := [m.owner p] }

/-- The old bank's cycle is cut at tick number n: it is in progress and does not end there. A step has ended it before (R207). -/
def Mod.cycleCut (m : Mod) (p n : Nat) : Bool :=
  let stepped := match m.gateSt p with
    | some { cycle := none, .. } => true
    | _ => false
  !stepped && !(m.cycleTick p (m.get SCH_PORT_STATUS_CUR_BANK p) n)

/-- CYCLE_START (R185 to R187, R189, R207): the next tick boundary comes, where it is a cycle start of front port p's operational bank or of the
bank a pending switch names. What the commit 16 ns after a boundary sets is not in force at it. -/
def Mod.cycleStart (m : Mod) (p : Nat) : Mod :=
  let start := m.tick.boundary
  let n := start / (m.period * unitsPerNs)
  let req := m.get SCH_GATE_CTL_REQ_BANK p
  let sw := m.flag SCH_PORT_STATUS_SWITCH_PEND p && decide ((m.rd .SCH_GATE_SWITCH p).toNat ≤ n) && m.cycleTick p req n
  let begun := (lookup m.sch.gates p).any fun g => g.cycle == some start
  if sw then
    let m := m.advanceNet start
    let cut := m.cycleCut p n
    let m := if begun then m else m.endCycle p
    let m := m.switchBank p cut
    if m.flag SCH_PORT_CFG_GATE_EN p then m.newCycle p start else m
  else if m.flag SCH_PORT_CFG_GATE_EN p ∧ m.cycleTick p (m.get SCH_PORT_STATUS_CUR_BANK p) n ∧ begun = false then
    ((m.advanceNet start).endCycle p).newCycle p start
  else m

/-- The gate cycles and bank switches of the next tick boundary, of every front port, as it comes (R185, R189). -/
def Mod.cyclesStart (m : Mod) : Mod :=
  (List.range 128).foldl (fun m p => if m.flag SCH_PORT_CFG_GATE_EN p || m.flag SCH_PORT_STATUS_SWITCH_PEND p then m.cycleStart p else m) m

/-- GATE_ENTRY_BEGIN (R186): the next entry of front port p's cycle begins, at its grain boundary. -/
def Mod.gateEntryBegin (m : Mod) (p : Nat) : Mod :=
  match m.gateSt p with
  | some g =>
    match g.cycle with
    | some cs =>
      let b := m.get SCH_PORT_STATUS_CUR_BANK p
      let at_ := cs + m.beginGrain p b g.next * grain
      if g.next < m.bankLen p b ∧ at_ < g.cycleEnd then (m.advanceNet at_).beginEntry p g else m
    | none => m
  | none => m

/-- Gate state of class c at front port p at a later instant, as the list in force gives it cycle after cycle (R195). -/
def Mod.gateAt (m : Mod) (p c at_ : Nat) : Bool :=
  match m.gateSt p with
  | some { cycle := some cs, .. } =>
    let b := m.get SCH_PORT_STATUS_CUR_BANK p
    let o := (at_ - cs) % m.cycleLen p b
    let last := ((List.range (m.bankLen p b)).filter fun i => decide (m.beginGrain p b i * grain ≤ o)).getLast?
    match last with
    | some i => (m.entryGates p b i).testBit c
    | none => false
  | some { gates := g, .. } => g.testBit c
  | none => true

/-- The gate of class c, open now, stays open for so many time units through consecutive entries, or to the cycle's end (R188). -/
def Mod.staysOpen (m : Mod) (p c need : Nat) : Bool :=
  match m.gateSt p with
  | some { cycle := some cs, cycleEnd := ce, next := next, .. } =>
    let b := m.get SCH_PORT_STATUS_CUR_BANK p
    let n := m.bankLen p b
    let closing := (List.range (n - next)).find? fun k =>
      let i := next + k
      let empty := decide (i + 1 < n) && decide (m.beginGrain p b (i + 1) ≤ m.beginGrain p b i)
      !empty && !((m.entryGates p b i).testBit c)
    match closing with
    | some k =>
      let at_ := cs + m.beginGrain p b (next + k) * grain
      decide (ce ≤ at_) || decide (m.time.net + need ≤ at_)
    | none => true
  | _ => true

/-! ### Launch queues -/

/-- A copy placed among those of its class in order of T, behind those with the same T (R193). -/
def launchInsert : List Copy → Copy → List Copy
  | [], c => [c]
  | x :: t, c => if c.launch.getD 0 < x.launch.getD 0 then c :: x :: t else x :: launchInsert t c

/-- LAUNCH_QUEUE_ENTRY (R193): the head of VOQ (s, p, c), a copy with a launch time, moves into the launch queue if there is room;
one that waits counts LQ_FULL once. -/
def Mod.launchEntry (m : Mod) (s p c : Nat) : Mod :=
  let k := voqKey s p c
  match m.voq k with
  | h :: rest =>
    if h.launch = none then m
    else if m.get SCH_PORT_STATUS_LQ_FILL p < 4096 then
      (m.setVoq k rest).setLaunchQ p c (launchInsert (m.launchQ p c) h)
    else if h.waited then m
    else (m.bump (m.schCtr p 5)).setVoq k ({ h with waited := true } :: rest)
  | [] => m

/-- LAUNCH_DUE (R194): the launch time of a launch-queue head of front port p and class c arrives. -/
def Mod.launchDue (m : Mod) (p c : Nat) : Mod :=
  match m.launchQ p c with
  | h :: _ => m.advanceNet (h.launch.getD 0)
  | [] => m

/-- The launch-queue head of class c at port p, when its time has come and time is usable (R190, R194). -/
def Mod.launchHead (m : Mod) (p c : Nat) : Option Copy :=
  if m.flag TIM_STATUS_USABLE then
    match m.launchQ p c with
    | h :: _ => if h.launch.getD 0 ≤ m.time.net then some h else none
    | [] => none
  else none

/-- The earliest launch time still to come among the launch heads of port p whose gates are open at it (R195). -/
def Mod.guardTime (m : Mod) (p : Nat) : Option Nat :=
  if m.flag TIM_STATUS_USABLE then
    (List.range 8).foldl (fun a c =>
      match m.launchQ p c with
      | h :: _ =>
        let t := h.launch.getD 0
        if m.time.net < t ∧ m.gateAt p c t then some (Nat.min t (a.getD t)) else a
      | [] => a) none
  else none

/-- Gate states of every port after a step of network time (R207 steps 1 and 2), and launch times moved with it (R208). -/
def Mod.stepSchedules (m : Mod) (d : Int) : Mod :=
  let m := (List.range 128).foldl (fun m p =>
    if m.flag SCH_PORT_CFG_GATE_EN p then
      let m := m.endCycle p
      let open_ := 255 - m.get SCH_PORT_CFG_SCHED_MASK p
      (m.withSch { m.sch with gates := store m.sch.gates p { gates := (lookup m.sch.gates p).elim 0xFF (·.gates) } }).setGates p open_ 0
    else m) m
  let mv (t : Nat) : Nat := ((t : Int) + d).toNat
  m.withSch { m.sch with launch := m.sch.launch.map fun e => (e.1, e.2.map fun c => { c with launch := c.launch.map mv }) }

end Sys2Proof.Machine
end

