-- ==== Sys2Proof/Machine/Sched.lean ====
section
/-! DEFINITION. The port scheduler and the start of a copy's transmission (R142, R153 to R159, R177 to R184, R194 to R196, R225
to R227): EGRESS_SELECT. -/

namespace Sys2Proof.Machine

/-! ### Candidates -/

/-- Front port p has a pause in force for class c (R48). -/
def Mod.paused (m : Mod) (p c : Nat) : Bool := (lookup m.prt.pauseEnd (8 * p + c)).any fun e => decide (m.now < e)

/-- Time a frame of len octets takes on a medium of g Gb/s with preamble, start delimiter and gap, in nanoseconds (R188). -/
def wireNs (len g : Nat) : Nat := ceilDiv ((len + 20) * 8) (Nat.max 1 g)

/-- Wire time in grains (R188). -/
def wireGrains (len g : Nat) : Nat := ceilDiv ((len + 20) * 8) (4 * Nat.max 1 g)

/-- The stream shaper of a frame, when its stream is shaped (R121, R180). -/
def Mod.streamShaper (m : Mod) (f : Frame) : Option Nat :=
  match f.stream with
  | some s => let e := m.tbl 8 s
              if bit e 127 ∧ bit e 80 then some (bits e 94 81) else none
  | none => none

/-- A VOQ's head is held by its stream shaper (R180). -/
def Mod.streamHeld (m : Mod) (f : Frame) : Bool :=
  match m.streamShaper f with
  | some i => !(shPermits (lookupD m.sch.shapers i 0).toNat (m.streamTokens i))
  | none => false

/-- Sources whose VOQ of class c to destination d holds a copy, in the order round robin visits them (R182 step 3). -/
def Mod.sourceOrder (m : Mod) (d c : Nat) : List Nat :=
  let all := (m.buf.voqs.filter fun e => e.1 % 8 == c && e.1 / 8 % 134 == d).map fun e => e.1 / 8 / 134
  match lookup m.sch.served (8 * d + c) with
  | some last => all.filter (fun s => decide (last < s)) ++ all.filter (fun s => decide (s ≤ last))
  | none => all

/-- A copy that may be chosen: its class, itself, its source when it comes from a VOQ, and its transmitted length. -/
structure Candidate where
  cls : Nat
  copy : Copy
  source : Option Nat
  len : Nat
  deriving DecidableEq, Repr

/-- The candidates of class c at front port p, in the order in which step 3 of R182 takes them: a due launch head, then the VOQ heads that are
neither held by their stream shaper nor waiting for the launch queue. -/
def Mod.candidates (m : Mod) (p c : Nat) : List Candidate :=
  let make (x : Copy) (s : Option Nat) : Option Candidate :=
    (m.frame x.frame).map fun f => { cls := c, copy := x, source := s, len := m.editedLength f p }
  ((m.launchHead p c).bind fun x => make x none).toList ++
    (m.sourceOrder p c).filterMap fun s =>
      match m.voq (voqKey s p c) with
      | h :: _ => if h.launch.isSome || (m.frame h.frame).any m.streamHeld then none else make h (some s)
      | [] => none

/-- A candidate may start as far as its class goes (R182 step 1). -/
def Mod.eligible (m : Mod) (p : Nat) (x : Candidate) : Bool :=
  let g := m.rate p
  let need := (wireGrains x.len g + m.get SCH_PORT_CFG_GUARD_GRAINS p) * grain
  m.gateOpen p x.cls && (!(m.flag SCH_PORT_CFG_LEN_AWARE p) || m.staysOpen p x.cls need) && !(m.paused p x.cls) &&
    !(m.timeHeld p x.cls) &&
    (x.source.isNone || shPermits (m.rd .SHP_CLASS (8 * p + x.cls)).toNat (m.classTokens (8 * p + x.cls)))

/-! ### Deficit round robin (R183) -/

/-- A class in a round: visits it needs before its frame may leave, its place in the visiting order, its candidate. -/
structure Turn where
  visits : Nat
  place : Nat
  cand : Candidate
  deriving DecidableEq, Repr

/-- The first class whose deficit suffices: fewest visits, then earliest place. -/
def firstTurn : List Turn → Option Turn
  | [] => none
  | t :: rest =>
    match firstTurn rest with
    | some u => if u.visits < t.visits ∨ (u.visits = t.visits ∧ u.place < t.place) then some u else some t
    | none => some t

/-- The deficit of class c at port p. -/
def Mod.deficitOf (m : Mod) (p c : Nat) : Nat := lookupD m.sch.deficit (8 * p + c) 0

/-- A deficit replaced. -/
def Mod.setDeficit (m : Mod) (p c v : Nat) : Mod :=
  m.withSch { m.sch with deficit := storeUnless 0 m.sch.deficit (8 * p + c) v }

/-- The class whose turn it is among the candidates of one level, and the deficits its visits give (R183). -/
def Mod.roundRobin (m : Mod) (p level : Nat) (group : List Candidate) : Option Candidate × Mod :=
  let quantum (c : Nat) : Nat := Nat.max 1 (m.get SCH_CLASS_CFG_QUANTUM (8 * p + c))
  let last := lookup m.sch.visited (8 * p + level)
  let stay := group.find? fun x => last == some x.cls && decide (x.len ≤ m.deficitOf p x.cls)
  match stay with
  | some x => (some x, m)
  | none =>
    let order : List Candidate := match last with
      | some l => group.filter (fun x => decide (l < x.cls)) ++ group.filter (fun x => decide (x.cls ≤ l))
      | none => group
    let turns := order.zipIdx.map fun (x : Candidate × Nat) =>
      ({ visits := Nat.max 1 (ceilDiv (x.1.len - m.deficitOf p x.1.cls) (quantum x.1.cls)), place := x.2, cand := x.1 } : Turn)
    match firstTurn turns with
    | none => (none, m)
    | some t =>
      let m' := turns.foldl (fun m' u =>
        let n := if u.place ≤ t.place then t.visits else t.visits - 1
        m'.setDeficit p u.cand.cls (m.deficitOf p u.cand.cls + n * quantum u.cand.cls)) m
      (some t.cand, m'.withSch { m'.sch with visited := store m'.sch.visited (8 * p + level) t.cand.cls })

/-- The copy front port p would start, before the port shaper and the launch guard (R182 steps 1 to 3): of each eligible class the first candidate
that may start; launchOnly leaves the launch heads alone. A class with no candidate loses its deficit (R183). -/
def Mod.choose (m : Mod) (p : Nat) (launchOnly : Bool := false) : Option Candidate × Mod :=
  let all := (List.range 8).map fun c => (c, m.candidates p c)
  let m := (all.filter fun x => x.2.isEmpty).foldl (fun m x => m.setDeficit p x.1 0) m
  let elig := all.filterMap fun x => (x.2.filter fun y => !launchOnly || y.source.isNone).find? (m.eligible p)
  match elig with
  | [] => (none, m)
  | _ =>
    let level (x : Candidate) : Nat := m.get SCH_CLASS_CFG_LEVEL (8 * p + x.cls)
    let lv := elig.foldl (fun a x => Nat.min a (level x)) 7
    m.roundRobin p lv (elig.filter fun x => level x == lv)

/-- The port shaper holds a candidate (R182 step 4). -/
def Mod.portShaperHolds (m : Mod) (p : Nat) (x : Candidate) : Bool :=
  let e := (m.rd .SHP_PORT p).toNat
  x.source.isSome && shKind e == 1 && !(shPermits e (m.portTokens p))

/-- The launch guard holds a candidate: it would still be leaving at the earliest launch time (R195). -/
def Mod.guardHolds (m : Mod) (p : Nat) (x : Candidate) : Bool :=
  m.flag SCH_PORT_CFG_LAUNCH_GUARD p &&
    (m.guardTime p).any fun t => decide (t < m.time.net + wireNs x.len (m.rate p) * unitsPerNs)

/-- A frame the launch guard holds counts once (R195). -/
def Mod.countGuard (m : Mod) (p : Nat) (x : Candidate) : Mod :=
  if m.sch.guarded.contains (p, x.copy.frame) then m
  else
    let m := m.bump (m.schCtr p 11)
    m.withSch { m.sch with guarded := (p, x.copy.frame) :: m.sch.guarded }

/-- What front port p starts now, when something may (R182). A frame that the port shaper or the launch guard holds (steps 4 and 5) holds back no
due launch head, which waits for neither of them on its account (R194, R196). -/
def Mod.starts (m : Mod) (p : Nat) : Option Candidate × Mod :=
  match m.choose p with
  | (none, m') => (none, m')
  | (some x, m') =>
    if m.portShaperHolds p x = false ∧ m.guardHolds p x = false then (some x, m')
    else
      let m := if m.portShaperHolds p x then m else m.countGuard p x
      if x.source.isNone then (none, m)
      else match m.choose p true with
        | (none, _) => (none, m)
        | (some y, m'') => if m.guardHolds p y then (none, m.countGuard p y) else (some y, m'')

/-! ### The read of a copy -/

/-- How the read of a store-and-forward copy ends: a discard code of R165 with CARRY, or what leaves. -/
inductive Prepared where
  | drop (code carry : Nat)
  | leave (edit : Edit) (parity : Bool)
  deriving DecidableEq, Repr

/-- The stored octets as the egress reads them. -/
def readOctets (f : Frame) (fault : ReadFault) : List Byte :=
  match fault with
  | .changed pos mask => f.octets.set pos ((f.octets.getD pos 0) ^^^ mask)
  | _ => f.octets

/-- The carry check recomputed over octets read (R152, R154). -/
def carryOf (f : Frame) (o : List Byte) : Nat := carryCheck (if f.trunc then o else o.take (o.length - 4))

/-- The read, the checks and the edit of a copy of f to destination d (R53, R154, R156, R157, R159). -/
def Mod.prepare (m : Mod) (f : Frame) (d : Nat) (fault : ReadFault) (pcp : Nat) : Prepared :=
  let o := readOctets f fault
  if f.trunc ∧ d < 128 ∧ m.get PRT_PORT_CFG_TRUNC_POLICY d = 1 then .drop 16 3
  else if f.poison || lostWord fault then .drop 13 0
  else if carryOf f o ≠ f.carry then .drop 12 2
  else
    match m.editCopy { f with octets := o } d pcp with
    | none => .drop 14 1
    | some e =>
      if d < 128 ∧ m.get PRT_PORT_CFG_MAX_FRAME d < (padTo60 e.o).length + 4 then .drop 15 1
      else .leave e (decide (fault = .parity))

/-- A discard on the egress read, with what R53, R154 and R156 count and raise beside it. -/
def Mod.dropRead (m : Mod) (d : Nat) (f : Frame) (c : Copy) (code carry : Nat) : Mod :=
  let ring := if d < 128 then m.owner d else f.hedge
  let m := if code = 16 then m.bump (m.prtCtr d 91)
    else if code = 12 then
      ((if d < 128 then m.bump (m.prtCtr d 92) else m).sqc QUE_EVENT_LIMIT).eventRated (0xB010000 + d)
        { blk := 0x0B, code := 0x01, hedge := ring, detail := d * 256, rings := [ring] }
    else if code = 13 then (m.sqc QUE_EVENT_DRAIN).event { blk := 0x0B, code := 0x03, hedge := ring, detail := d * 256, rings := [ring] }
    else m
  m.dropCopy d c code carry

/-! ### One-step timestamps -/

/-- t_tx of a copy that starts now, in units of 2⁻¹⁶ ns (R221): the per-frame variation is an open value. -/
def Mod.txStamp (m : Mod) (p : Nat) (f : Frame) : Nat × Mod :=
  let v := m.freshNat
  let msg := (f.ptp.map (·.msg)).getD 15
  let asym := if msg = 1 ∨ msg = 2 then signed 32 (m.get TIM_PORT_ASYM_ASYM p) else 0
  ((((m.time.net / 100000000 : Nat) : Int) + signed 32 (v.1 % 2 ^ 32) + signed 32 (m.get TIM_PORT_FACT_TX_FACT p) +
    signed 32 (m.get TIM_PORT_EXT_TX_EXT p) - asym).toNat, v.2)

/-- The one-step edit of a copy (R225 to R227), with its counters. -/
def Mod.stampCopy (m : Mod) (p : Nat) (f : Frame) (e : Edit) (ttx : Nat) : Edit × Mod :=
  let act := m.stampAct f p
  if act = 0 then (e, m)
  else
    match f.ptp with
    | none => (e, m.bump (timPortCtr p 7))
    | some _ =>
      let role := if f.source < 128 then m.get TIM_INST_CFG_ROLE (m.owner f.source) else 0
      let link : Int := if role = 3 then m.get TIM_PORT_ASYM_LINK_DELAY f.source else 0
      let trx := ((f.stamp : Int) + f.corr) / 100000000
      let delta := if act = 2 then (ttx : Int) - trx + link else (ttx : Int) - ((f.stamp / 100000000 : Nat) : Int)
      (e.stamp act f.ip ttx delta, m.bump (timPortCtr p (if act = 1 then 3 else 4)))

/-! ### The start of a transmission -/

/-- The chosen copy leaves its queue. -/
def Mod.takeCopy (m : Mod) (d c : Nat) (x : Candidate) : Mod :=
  let m := m.withSch { m.sch with guarded := m.sch.guarded.filter (· != (d, x.copy.frame)) }
  match x.source with
  | some s => m.setVoq (voqKey s d c) ((m.voq (voqKey s d c)).drop 1)
  | none => m.setLaunchQ d c ((m.launchQ d c).drop 1)

/-- The shapers charged for a frame of len octets (R177 to R180, R182). A credit-based shaper is charged at its sendSlope for the time that
len + OVERHEAD octets take, which begins once the charge of the frame before it has ended. -/
def Mod.chargeShapers (m : Mod) (p : Nat) (f : Frame) (x : Candidate) (len : Nat) : Mod :=
  let k := 8 * p + x.cls
  let ep := (m.rd .SHP_PORT p).toNat
  let m := if shKind ep = 1 then m.withSch { m.sch with ptok := store m.sch.ptok p ((m.portTokens p).charge ep len) } else m
  if x.source.isNone then m
  else
    let ec := (m.rd .SHP_CLASS k).toNat
    let m := if shKind ec = 1 then m.withSch { m.sch with ctok := store m.sch.ctok k ((m.classTokens k).charge ec len) }
      else if shKind ec = 2 then
        let ns := ceilDiv (((len : Int) + shOverhead ec).toNat * 8) (Nat.max 1 (m.rate p))
        let start := Nat.max m.now ((lookup m.sch.csend k).elim 0 (·.1))
        m.withSch { m.sch with csend := store m.sch.csend k (start + ns, (shRate ec : Int) - m.rate p * 1000000),
                               ctok := store m.sch.ctok k (m.classTokens k) }
      else m
    match m.streamShaper f with
    | some i =>
      let e := (lookupD m.sch.shapers i 0).toNat
      if shKind e = 1 then m.withSch { m.sch with stok := store m.sch.stok i ((m.streamTokens i).charge e len) } else m
    | none => m

/-- A launch frame leaves: LATE_LAUNCH when it is late (R194), and a pulse of the TRIG_OUT pins that follow the port (R509). -/
def Mod.launchLeaves (m : Mod) (p : Nat) (f : Frame) (x : Candidate) : Mod :=
  let late := (x.copy.launch.getD 0) + m.get SCH_PORT_LAUNCH_LATE_TOL p * grain < m.time.net
  let m := if late then (m.bump (m.schCtr p 3)).bump (streamCtr (f.stream.getD 0) 3) else m
  (List.range 4).foldl (fun m n =>
    if m.get TRG_OUT_CFG_FUNC n = 3 ∧ m.get TRG_OUT_CFG_PORT n = p then
      m.withPin { m.pin with pulse := store m.pin.pulse n (m.now + 4 * m.get TRG_OUT_CFG_PULSE n) }
    else m) m

/-- A prepared copy starts at destination d. -/
def Mod.startCopy (m : Mod) (d : Nat) (f : Frame) (x : Candidate) (e : Edit) (parity : Bool) : Mod :=
  let t := if d < 128 then m.txStamp d f else (0, m)
  let s := if d < 128 then t.2.stampCopy d f e t.1 else (e, t.2)
  let m := s.2
  let body := padTo60 s.1.o
  let len := body.length + 4
  let m := if parity then
      let ring := if d < 128 then m.owner d else f.hedge
      let m := if d < 128 then m.bump (m.prtCtr d 92) else m
      ((m.bump (bufCtr f.hedge 21)).sqc QUE_EVENT_FLUSHED).event { blk := 0x0B, code := 0x02, hedge := ring, detail := d * 256, rings := [ring] }
    else m
  let m := if f.trunc ∧ d < 128 then m.bump (m.prtCtr d 90) else m
  let m := if d < 128 then
      let m := if x.source.isNone then m.launchLeaves d f x else m
      (m.chargeShapers d f x len).setDeficit d x.cls (m.deficitOf d x.cls - len)
    else m
  let tx : Tx := { copy := x.copy, octets := sealFrame (f.trunc || parity) body,
                   ends := m.now + (if d < 128 then wireNs len (m.rate d) else 0), start := t.1 * 100000000,
                   tagged := decide (0 < s.1.tags),
                   clip := if parity then some (0x05, 23) else none, launched := x.source.isNone, read := some f }
  m.withBuf { m.buf with tx := store m.buf.tx d tx }

/-- An egress read that meets an uncorrectable word poisons the cell, for every copy of the frame (R156). -/
def Mod.cellRead (m : Mod) (id : Nat) (fault : ReadFault) : Mod :=
  let m := m.cellFault id fault
  match m.frame id with
  | some f => if lostWord fault then m.setFrame id { f with poison := true } else m
  | none => m

/-- A candidate taken from its queue, read and started, or discarded on its read (R154). Its last stored octet read into the staging
buffer, it releases its reference (R144). -/
def Mod.sendCandidate (m : Mod) (d : Nat) (x : Candidate) (fault : ReadFault) : Mod :=
  match m.frame x.copy.frame with
  | none => m.takeCopy d x.cls x
  | some f =>
    let f := { f with poison := f.poison || lostWord fault }
    let v := if f.nh.isSome ∧ f.tags = 0 then m.freshNat else (0, m)
    let m := (v.2.takeCopy d x.cls x).cellRead x.copy.frame fault
    match m.prepare f d fault (v.1 % 16) with
    | .drop code carry => m.dropRead d f x.copy code carry
    | .leave e parity =>
      let m := match x.source with
        | some s => m.withSch { m.sch with served := store m.sch.served (8 * d + x.cls) s }
        | none => m
      ((m.unqueue d f).startCopy d f x e parity).deref x.copy.frame

/-- Front port p's transmitter can start a frame: the port is linked, transmits and sends nothing. -/
def Mod.transmitterFree (m : Mod) (p : Nat) : Bool :=
  (m.portUp p || (m.draining p && m.flag PRT_PORT_STATUS_PCS_LOCK p)) && (lookup m.buf.tx p).isNone &&
    !((lookup m.prt.ctrlEnds p).any fun e => decide (m.now < e))

/-- Front port p owes a PFC frame that the gate of its class lets leave (R50). -/
def Mod.pfcDue (m : Mod) (p : Nat) : Bool :=
  (lookup m.prt.pfcOwed p).isSome && !(m.flag SCH_PORT_CFG_GATE_EN p && !(m.gateOpen p (m.get PRT_FC_CFG_PFC_GATE_CLASS p)))

/-- EGRESS_SELECT at a front port (R182). A PFC frame that is due leaves at the boundary before any other (R50). A port in low-power idle leaves it first (R55). -/
def Mod.selectPort (m : Mod) (p : Nat) (fault : ReadFault) : Mod :=
  if m.transmitterFree p = false ∨ m.pfcDue p = true then m
  else
    match m.starts p with
    | (none, m') => m'
    | (some x, m') =>
      if m.flag PRT_PORT_STATUS_LPI_TX p then (m.set PRT_PORT_STATUS_LPI_TX p 0).emit (.lpi p false) else m'.sendCandidate p x fault

/-- A head that internal destination d can take now: a host function with a host path (R344), or a present supervisor. -/
def Mod.internalTakes (m : Mod) (d : Nat) (f : Frame) : Bool :=
  if d = 128 then m.hdg.busMaster.contains (f.hedge + 1) else !(m.flag GLB_STATUS_HEADLESS)

/-- EGRESS_SELECT at host DMA or the supervisor (R184): strict priority, class 7 highest. A cluster's intake takes its frames as its
jobs start (R274). -/
def Mod.selectInternal (m : Mod) (d : Nat) (fault : ReadFault) : Mod :=
  if (lookup m.buf.tx d).isSome then m
  else
    let found := [7, 6, 5, 4, 3, 2, 1, 0].findSome? fun c =>
      (m.sourceOrder d c).findSome? fun s =>
        match m.voq (voqKey s d c) with
        | h :: _ => if (m.frame h.frame).any (m.internalTakes d) then
            some ({ cls := c, copy := h, source := some s, len := 0 } : Candidate) else none
        | [] => none
    match found with
    | some x => m.sendCandidate d x fault
    | none => m

/-- EGRESS_SELECT. -/
def Mod.egressSelect (m : Mod) (d : Nat) (fault : ReadFault) : Mod :=
  if d < 128 then m.selectPort d fault else if d < 130 then m.selectInternal d fault else m

/-! ### The departure of a copy -/

/-- A job the module makes for a cluster's IJ (R273); one that finds IJ full is counted in IJ_FULL. -/
def Mod.pushIj (m : Mod) (c : Nat) (j : Job) : Mod :=
  if (m.cl c).queueFull 2 then m.bump (engCtr c 8) else m.setCl c ((m.cl c).push 2 j)

/-- The PTP fields of a transmit-stamp job (R228): domainNumber, sequenceId and messageType; of a copy whose header was not recognised, an open
value. -/
def Mod.stampFields (m : Mod) (f : Frame) : Nat × Mod :=
  match f.ptp with
  | some i => (fieldAt f.octets (i.off + 4) 1 * 2 ^ 20 + fieldAt f.octets (i.off + 30) 2 * 2 ^ 4 + i.msg % 16, m)
  | none => m.freshNat

/-- The descriptor of a transmit-stamp job with those fields (R228). -/
def stampDesc (f : Frame) (p ttx ids : Nat) : BitVec 128 :=
  BitVec.ofNat 128 (timeNs ttx * 2 ^ 96 + timeFrac ttx * 2 ^ 80 + timeSec ttx % 2 ^ 32 * 2 ^ 48 + ids % 2 ^ 28 * 2 ^ 20 +
    f.hedge * 2 ^ 16 + p * 2 ^ 8 + 0x21)

/-- The transmit-stamp job of a copy that has left (R228): at most one million in a second. The module makes it, so Hedge 0 is charged
(R252); one that finds IJ full is counted there and not here (R232, R273). -/
def Mod.stampJob (m : Mod) (f : Frame) (p c ttx : Nat) : Mod :=
  let m := if m.now < m.time.stampSec + oneSecond then m
    else m.withTime { m.time with stampSec := m.now / oneSecond * oneSecond, stampJobs := 0 }
  if m.time.stampJobs < 1000000 then
    let ids := m.stampFields f
    let job : Job := { desc := stampDesc f p ttx ids.1, hedge := 0, kind := .push }
    if (ids.2.cl c).queueFull 2 then ids.2.pushIj c job
    else ((ids.2.withTime { m.time with stampJobs := m.time.stampJobs + 1 }).bump (timPortCtr p 5)).pushIj c job
  else
    ((m.bump (timPortCtr p 6)).sqc TIM_EVENT_STAMP_DROP).eventRated 0x4070000
      { blk := 0x04, code := 0x07, detail := p * 256 }

/-- The transmit counters of a frame that left front port p (R61). -/
def Mod.countTx (m : Mod) (p : Nat) (octets : List Byte) (tagged : Bool) : Mod :=
  let n := octets.length
  let m := (m.bump (m.prtCtr p 64) n).bump (m.prtCtr p 65)
  let m := m.bump (m.prtCtr p (66 + castIndex (fieldAt octets 0 6)))
  let m := if tagged then m.bump (m.prtCtr p 69) else m
  m.bump (m.prtCtr p (80 + sizeBin n))

/-- COPY_DEPARTED (R144, R228): the copy in transmission at destination d has left. -/
def Mod.copyDeparted (m : Mod) (d : Nat) : Mod :=
  match lookup m.buf.tx d with
  | none => m
  | some t =>
    if t.ct ∧ (m.buf.arriving.any fun e => e.2.ct && e.2.id == t.copy.frame) then m
    else
      let m := m.advanceTo t.ends
      let m := m.withBuf { m.buf with tx := remove m.buf.tx d }
      match t.read with
      | none => m
      | some f =>
        let m := if d < 128 then
            let m := (m.emit (.frame d t.octets)).countTx d t.octets t.tagged
            let m := if t.launched then m.bump (m.schCtr d 0) else m
            m.withPrt { m.prt with idleSince := store m.prt.idleSince d m.now }
          else
            let m := m.emit (.deliver d f.hedge t.octets)
            if d = 128 ∧ f.exc.isSome then m.hedgeCause f.hedge 1 else m
        let m := m.clipCopyLeft f d t.clip t.carry (t.octets.take (t.octets.length - 4)) t.start
        match f.tsJob with
        | some c => if d < 128 then m.stampJob f d c t.start else m
        | none => m

end Sys2Proof.Machine
end

