-- ==== Sys2Proof/Machine/Arrive.lean ====
section
/-! DEFINITION. Frames enter the module (R12, R18, R51, R52), cut-through (R150, R151), and MAC control frames with the pauses they
set (R47, R48): FRAME_RECEIVED, CT_INGRESS_DECISION, CT_FRAME_END, INTERNAL_INJECT, PAUSE_RECEIVED and PAUSE_EXPIRY. -/

namespace Sys2Proof.Machine

/-! ### MAC control frames -/

/-- A frame with the EtherType of MAC control. -/
def isControl (octets : List Byte) : Bool := fieldAt octets 12 2 == 0x8808

/-- Class c of front port p is paused for quanta × 512 bit times from now; quanta 0 unpauses it (R48). -/
def Mod.pauseClass (m : Mod) (p c quanta : Nat) : Mod :=
  let k := 8 * p + c
  let bitNow := m.get PRT_PORT_STATUS_PAUSED p
  if quanta = 0 then
    (m.set PRT_PORT_STATUS_PAUSED p (if bitNow.testBit c then bitNow - 2 ^ c else bitNow)).withPrt
      { m.prt with pauseEnd := remove m.prt.pauseEnd k }
  else
    let ends := m.now + ceilDiv (quanta * 512) (Nat.max 1 (m.rate p))
    (m.set PRT_PORT_STATUS_PAUSED p (bitNow ||| 2 ^ c)).withPrt { m.prt with pauseEnd := store m.prt.pauseEnd k ends }

/-- A MAC control frame with a good FCS acts on front port p (R47, R61): it pauses obeyed classes, or is counted and discarded. -/
def Mod.macControl (m : Mod) (p : Nat) (octets : List Byte) : Mod :=
  let m := m.bump (m.prtCtr p 8)
  let mode := m.get PRT_FC_CFG_MODE p
  let obey := m.get PRT_FC_CFG_OBEY p
  match fieldAt octets 14 2 with
  | 0x0001 =>
    let m := m.bump (m.prtCtr p 9)
    if mode = 1 ∧ obey ≠ 0 then
      (List.range 8).foldl (fun m c => if obey.testBit c then m.pauseClass p c (fieldAt octets 16 2) else m) m
    else m.bump (m.prtCtr p 38)
  | 0x0101 =>
    let en := fieldAt octets 16 2 % 256
    let m := (List.range 8).foldl (fun m c => if en.testBit c then m.bump (m.prtCtr p (10 + c)) else m) m
    if mode = 2 ∧ en &&& obey ≠ 0 then
      (List.range 8).foldl (fun m c =>
        if en.testBit c ∧ obey.testBit c then m.pauseClass p c (fieldAt octets (18 + 2 * c) 2) else m) m
    else m.bump (m.prtCtr p 38)
  | _ => m.bump (m.prtCtr p 39)

/-- PAUSE_EXPIRY (R48): the pause timer of class c at front port p runs out. -/
def Mod.pauseExpiry (m : Mod) (p c : Nat) : Mod :=
  match lookup m.prt.pauseEnd (8 * p + c) with
  | some ends => (m.advanceTo ends).pauseClass p c 0
  | none => m

/-! ### Whole frames -/

/-- What becomes of a frame after its ingress decision: admission, or nothing more. -/
def admitted (r : Option Decision × Mod) : Mod :=
  match r.1 with
  | some d => r.2.letIn d.frame d.group d.targets
  | none => r.2

/-- FRAME_RECEIVED (R12, R51, R52): a whole frame at front port p, captured ago quarter nanoseconds before. A good MAC control frame,
which the MAC consumes, is a candidate of the ingress sampler as any other (R237). -/
def Mod.frameReceived (m : Mod) (p : Nat) (octets : List Byte) (symErr : Bool) (ago : Nat) : Mod :=
  if m.portUp p = false ∨ (lookup m.buf.arriving p).isSome then m
  else
    let c := m.rxClass p octets symErr
    let m := m.countRx p octets symErr c
    if c = .good ∨ c = .oversize then
      let s := m.rxStamp ago
      if isControl octets then
        ((m.clipIngress (m.owner p) (m.arrived p octets (decide (c = .oversize)) s.1) none 255).macControl p octets)
      else
        admitted (m.ingress (m.arrived p octets (decide (c = .oversize)) s.1) none false s.2)
    else m

/-- PAUSE_RECEIVED (R47): a MAC control frame at front port p. -/
def Mod.pauseReceived (m : Mod) (p : Nat) (octets : List Byte) : Mod :=
  if isControl octets then m.frameReceived p octets false 0 else m

/-! ### Cut-through -/

/-- Octets by which a copy's edit grows it (R158); a template that is not valid adds none. -/
def Mod.editGrowth (m : Mod) (f : Frame) (d : Nat) : Int :=
  match m.editCopy f d 0 with
  | some e => ((e.o.length + 4 : Nat) : Int) - f.octets.length
  | none => (((m.editHeaders f d 0).o.length + 4 : Nat) : Int) - f.octets.length

/-- The EDIT_IDX of a copy names no template at all (R159). -/
def Mod.editBeyond (m : Mod) (f : Frame) : Bool :=
  match f.nh with
  | some i => decide (4096 ≤ bits (m.tbl 2 i) 44 29)
  | none => false

/-- Conditions 3 to 7 of R150, with the look-ahead and the launch guard judged on the ingress MAX_FRAME. A draining port takes no new
copy (R161), and a PFC frame that can leave goes first (R50). -/
def Mod.ctPath (m : Mod) (f : Frame) (d : Nat) : Bool :=
  let p := f.source
  let room := ((m.get PRT_PORT_CFG_MAX_FRAME p : Int) + m.editGrowth f d).toNat
  let x : Candidate := { cls := f.cls, copy := { frame := 0, source := p, cls := f.cls }, source := some p, len := room }
  decide (m.rate p = m.rate d) && decide (room ≤ m.get PRT_PORT_CFG_MAX_FRAME d) && !(m.editBeyond f) &&
    (m.voq (voqKey p d f.cls)).isEmpty && m.transmitterFree d && m.portUp d && !(m.flag PRT_PORT_STATUS_LPI_TX d) &&
    m.eligible d x && !(m.streamHeld f) && !(m.portShaperHolds d x) && !(m.guardHolds d x) && !(m.draining d) && !(m.pfcDue d)

/-- Condition 1: the class is enabled. -/
def Mod.ctWanted (m : Mod) (f : Frame) : Bool := (m.get BUF_HEDGE_CLASS_CT_EN f.hedge).testBit f.cls

/-- The provisional charge of a cut-through candidate, when it passes the admission checks (R147, R150 condition 8). -/
def Mod.ctCharge (m : Mod) (f : Frame) (d : Nat) : Option Frame :=
  let n := cells (m.get PRT_PORT_CFG_MAX_FRAME f.source)
  let ch := chargeCells (m.room f.source f.hedge f.cls) n {}
  let ns := ch.shared
  let f' := { f with guar := ch.guar, shared := ch.shared, hdrm := ch.hdrm }
  if ch.fail ≠ 0 ∨ m.resetting f.hedge then none
  else if m.lossless f.hedge f.cls then some f'
  else
    let g : Frame := { f with guar := 0, shared := 0, hdrm := 0 }
    if m.frameChecks g n ns = 0 ∧ m.copyChecks g d n ns = 0 then some f' else none

/-- The candidate's one target, a front port, and its charge, when conditions 1 to 8 hold but for the ingress sampler. -/
def Mod.ctDecide (m : Mod) (d : Decision) : Option (Nat × Frame) :=
  match d.targets with
  | [(p, none)] =>
    if m.ctWanted d.frame ∧ p < 128 ∧ d.frame.qsel / 32 ≠ 1 ∧ m.ctPath d.frame p then
      (m.ctCharge d.frame p).map fun f => (p, f)
    else none
  | _ => none

/-- A cut-through frame is charged, linked and started at once. -/
def Mod.ctSend (m : Mod) (f : Frame) (d : Nat) : Nat × Mod :=
  let f := { f with ct := true }
  let l := ((m.account f true).bump (bufCtr f.hedge 18)).linkFrame f [(d, none)]
  let m := l.2
  let x : Candidate := { cls := f.cls, copy := { frame := l.1, source := f.source, cls := f.cls }, source := some f.source, len := 0 }
  let m := ((m.takeCopy d f.cls x).unqueue d f).withSch { m.sch with served := store m.sch.served (8 * d + f.cls) f.source }
  let t := m.txStamp d f
  let len := Nat.max 64 (((f.octets.length : Int) + m.editGrowth f d).toNat)
  let m := t.2.chargeShapers d f x len
  let tx : Tx := { copy := x.copy, octets := [], ends := m.now + wireNs len (m.rate d), start := t.1 * 100000000,
                   tagged := false, ct := true }
  (l.1, (m.withBuf { m.buf with tx := store m.buf.tx d tx }).xoffUpdate)

/-- A frame at its ingress decision that goes on store-and-forward (R147, R150): it is still arriving, and its cells are written as its
octets come (R145). -/
def Mod.ctHolds (m : Mod) (p : Nat) (a : Arriving) : Mod :=
  let m := if m.ctWanted a.frame then m.bump (bufCtr a.frame.hedge 19) else m
  (m.withBuf { m.buf with arriving := store m.buf.arriving p a }).writeArriving p m.now

/-- The surviving frame at its ingress decision: cut-through when all conditions hold and the ingress sampler does not take it
(R150, R238), else store-and-forward. -/
def Mod.ctSettles (m : Mod) (p : Nat) (d : Decision) (a : Arriving) : Mod :=
  match m.ctDecide d with
  | none => m.ctHolds p a
  | some (dst, g) =>
    let s := m.drawIn p
    if s.1 then s.2.ctHolds p { a with frame := { a.frame with sampled := some true } }
    else
      let g := { g with sampled := some false }
      let x := s.2.ctSend g dst
      x.2.withBuf { x.2.buf with arriving := store x.2.buf.arriving p { a with frame := { g with ct := true }, ct := true, id := x.1 } }

/-- CT_INGRESS_DECISION (R147, R150): the ingress decision on a frame whose end is still to come. The parser walks the operand frame
up to MAX_FRAME; what only its end can tell, its truncation, is taken as not so (DESIGN CHOICE, log 66). -/
def Mod.ctIngressDecision (m : Mod) (p : Nat) (octets : List Byte) (symErr : Bool) (ago : Nat) : Mod :=
  if m.portUp p = false ∨ (lookup m.buf.arriving p).isSome then m
  else if octets.length < 64 ∨ isControl octets then m.frameReceived p octets symErr ago
  else
    let s := m.rxStamp ago
    let maxFrame := m.get PRT_PORT_CFG_MAX_FRAME p
    let f := m.arrived p octets false s.1
    let r := m.ingress { f with octets := octets.take maxFrame, early := true } none false s.2
    let m := r.2
    let a : Arriving := { frame := f, group := false, targets := [], received := octets, symErr := symErr, gone := true, ct := false,
                          maxFrame := maxFrame, since := m.now - ago / 4 }
    match r.1 with
    | none => m.withBuf { m.buf with arriving := store m.buf.arriving p a }
    | some d =>
      let g := { d.frame with early := false, epoch := m.get BUF_HEDGE_STATUS_EPOCH d.frame.hedge }
      m.ctSettles p { d with frame := g } { a with frame := g, group := d.group, targets := d.targets, gone := false }

/-- A frame's charge cut down to n cells: what it holds beyond them returns, headroom first (R150). -/
def Frame.trim (f : Frame) (n : Nat) : Frame :=
  let excess := f.cells - n
  let h := Nat.min excess f.hdrm
  let s := Nat.min (excess - h) f.shared
  { f with hdrm := f.hdrm - h, shared := f.shared - s, guar := f.guar - (excess - h - s) }

/-- What stamps a cut-through copy's FCS invalid on its read (R154 to R156): the Hedge counter, and the record it asks for. -/
def ctStamp (f : Frame) (mismatch : Bool) (fault : ReadFault) : Option (Nat × (Nat × Nat)) :=
  if f.poison || lostWord fault then some (22, (0x4D, 13))
  else if mismatch then some (20, (0x4C, 12))
  else if fault = .parity then some (21, (0x05, 23))
  else none

/-- The counters and events of such a stamp at egress port d. -/
def Mod.countStamp (m : Mod) (f : Frame) (d ctr : Nat) : Mod :=
  let ring := m.owner d
  let ev (code : Nat) : Ev := { blk := 0x0B, code := code, hedge := ring, detail := d * 256, rings := [ring] }
  let m := m.bump (bufCtr f.hedge ctr)
  if ctr = 20 then ((m.bump (m.prtCtr d 92)).sqc QUE_EVENT_LIMIT).eventRated (0xB010000 + d) (ev 1)
  else if ctr = 21 then ((m.bump (m.prtCtr d 92)).sqc QUE_EVENT_FLUSHED).event (ev 2)
  else (m.sqc QUE_EVENT_DRAIN).event (ev 3)

/-- The end of a frame that goes cut-through to destination d (R151): bad tells a bad FCS, a symbol error or truncation. The ingress
sampler considers good and oversize frames only (R237). -/
def Mod.ctFinish (m : Mod) (a : Arriving) (d : Nat) (f : Frame) (c : RxClass) (fault : ReadFault) : Mod :=
  match m.frame a.id, lookup m.buf.tx d with
  | some held, some t =>
    let bad := decide (c ≠ .good)
    let f := { f with rxErr := bad, ct := true, guar := held.guar, shared := held.shared, hdrm := held.hdrm, refs := held.refs,
                      records := held.records, epoch := held.epoch, poison := held.poison }
    let g := f.trim (cells f.octets.length)
    let m := (((m.account f false).account g true).setFrame a.id g).cellRead a.id fault
    let o := readOctets g fault
    let mismatch := decide (carryOf g o ≠ g.carry)
    let st := ctStamp g mismatch fault
    let edited := m.editCopy { g with octets := o } d 0
    let e := edited.getD (m.editHeaders { g with octets := o } d 0)
    let s := m.stampCopy d g e (t.start / 100000000)
    let m := s.2
    let m := if edited.isNone then m.bump (bufCtr g.hedge 14) else m
    let m := if bad then m.bump (bufCtr g.hedge 23) else m
    let m := if g.trunc then m.bump (m.prtCtr d 90) else m
    let m := match st with
      | some (ctr, _) => m.countStamp g d ctr
      | none => m
    let stamped := bad || edited.isNone || st.isSome
    let t' : Tx := { t with octets := sealFrame stamped (padTo60 s.1.o), tagged := decide (0 < s.1.tags),
                            clip := st.map (·.2), carry := if mismatch then 2 else 1, read := some g }
    let m := (m.withBuf { m.buf with tx := store m.buf.tx d t' }).deref a.id
    (m.clipIngress g.hedge (if c = .good ∨ c = .oversize then g else { g with unsampled := true }) none d).xoffUpdate
  | _, _ => m

/-- The end of a frame discarded at its ingress decision: a good or oversize one is a candidate of the ingress sampler (R237), and an
ingress record that waited for the whole frame is written (R238). -/
def Mod.goneEnds (m : Mod) (p : Nat) (whole : Frame) (c : RxClass) : Mod :=
  let later := lookup m.clp.later p
  let m := m.withClp { m.clp with later := remove m.clp.later p }
  if c ≠ .good ∧ c ≠ .oversize then m
  else match later with
    | some (h, f, dest) =>
      m.clipIngress h { f with early := false, octets := whole.octets, trunc := whole.trunc, recvLen := whole.recvLen, carry := whole.carry }
        none dest
    | none => (m.sampleIn p none).2

/-- CT_FRAME_END (R51, R147, R151): the end of the frame that front port p receives after its ingress decision. One that a Hedge reset
has met while it arrived is discarded (R163). -/
def Mod.ctFrameEnd (m : Mod) (p : Nat) (fault : ReadFault) : Mod :=
  match lookup m.buf.arriving p with
  | none => m
  | some a =>
    let c := rxClassOf a.maxFrame a.received a.symErr
    let m := (m.countRx p a.received a.symErr c).withBuf { m.buf with arriving := remove m.buf.arriving p }
    let trunc := decide (a.maxFrame < a.received.length)
    let whole := m.arrived p a.received trunc a.frame.stamp a.maxFrame
    let f := { a.frame with octets := whole.octets, trunc := trunc, carry := whole.carry, recvLen := whole.recvLen }
    if a.gone then m.goneEnds p whole c
    else if a.ct then m.ctFinish a ((a.targets.map (·.1)).headD 0) f c fault
    else if c ≠ .good ∧ c ≠ .oversize then m.freeCharge f
    else if f.epoch ≠ m.get BUF_HEDGE_STATUS_EPOCH f.hedge then (m.discardFrame f 11).freeCharge f
    else m.letIn f a.group a.targets a.fail

/-! ### Internal sources -/

/-- A frame of an internal source, its FCS appended (R18). -/
def Mod.internalFrame (m : Mod) (source hedge vid : Nat) (octets : List Byte) : Frame :=
  let o := padTo60 octets
  { octets := sealFrame false o, source := source, hedge := hedge, sender := hedge, vid := vid, stamp := stampNet m.time.net,
    recvLen := o.length + 4, carry := carryCheck o }

/-- A frame of an internal source enters an ingress pipeline. -/
def Mod.enter (m : Mod) (f : Frame) (named : Option Nat) (classed : Bool) : Mod :=
  admitted (m.ingress f named classed (stampNet m.time.net))

/-- INTERNAL_INJECT (R18): host DMA needs its function's bus mastering and reports the completion (R344, R347); the supervisor must
be present; a cluster's oldest waiting frame enters. -/
def Mod.internalInject (m : Mod) (w : Injected) : Mod :=
  match w with
  | .host h vid octets =>
    if m.hdg.busMaster.contains (h.val + 1) then
      (m.enter (m.internalFrame 128 h.val vid.toNat octets) none false).hedgeCause h.val 3
    else m
  | .sup h vid octets =>
    if m.flag GLB_STATUS_HEADLESS then m else m.enter (m.internalFrame 129 h.val vid.toNat octets) none false
  | .cluster c =>
    match m.buf.inject.find? fun e => e.1 == 130 + c.val with
    | some (k, i) => (m.withBuf { m.buf with inject := m.buf.inject.erase (k, i) }).enter i.frame i.named i.classed
    | none => m

end Sys2Proof.Machine
end

