-- ==== Sys2Proof/Machine/Flags.lean ====
section
/-! DEFINITION. The ALU operations of the packet engines (R256) and the flags they compute (R255, R257). The spec names the flags Z, N,
C and V and states no more of them: Z and N describe the result, C is the carry that ADDC takes in and V the signed overflow of an
addition or a subtraction; every other C and V is left open, and is a free value. -/

namespace Sys2Proof.Machine

/-- What an ALU reads: a, b, its own C flag, and whether CND holds. -/
structure AluIn where
  a : Word
  b : Word
  carry : Bool
  cond : Bool
  deriving DecidableEq, Repr

/-- What an ALU computes: its result, whether it is written, and C and V where the spec fixes them. -/
structure AluOut where
  value : Word
  write : Bool := true
  c : Option Bool := none
  v : Option Bool := none
  deriving DecidableEq, Repr

/-- The sum with a carry in: C is the carry out of bit 63, V the signed overflow. -/
def aluSum (a b : Word) (cin : Bool) : AluOut :=
  let r := a + b + BitVec.ofNat 64 cin.toNat
  { value := r, c := some (decide (2 ^ 64 ≤ a.toNat + b.toNat + cin.toNat)),
    v := some (a.msb == b.msb && r.msb != a.msb) }

/-- The difference: V is the signed overflow. Whether C is the borrow or its complement the spec does not say. -/
def aluDiff (a b : Word) : AluOut :=
  let r := a - b
  { value := r, v := some (a.msb != b.msb && r.msb != a.msb) }

/-- The octets of a word reversed. -/
def bswap (a : Word) : Word := BitVec.ofNat 64 (beNat (toBytes 8 a.toNat).reverse)

/-- Ones in a word. -/
def onesCount (a : Word) : Nat := (List.range 64).foldl (fun n i => n + (a.getLsbD i).toNat) 0

/-- Zeros of the w lowest bits of a word above its highest one. -/
def leadingZeros (a : Word) : Nat → Nat
  | 0 => 0
  | w + 1 => if a.getLsbD w then 0 else 1 + leadingZeros a w

/-- A ones'-complement sum folded to 16 bits. -/
def fold16 (n : Nat) : Nat :=
  let n := n % 65536 + n / 65536
  n % 65536 + n / 65536

/-- The field of a that EXT takes: n bits from b[5:0], n = b[13:8], 0 meaning 64. -/
def extract (a b : Word) : Word :=
  let n := b.toNat / 256 % 64
  BitVec.ofNat 64 (a.toNat / 2 ^ (b.toNat % 64) % 2 ^ (if n = 0 then 64 else n))

/-- The flags an ALU result sets, Z in bit 0, with the free bits of a word where C and V are left open. -/
def aluFlags (o : AluOut) (free : Word) : BitVec 4 :=
  let c := o.c.getD (free.getLsbD 0)
  let v := o.v.getD (free.getLsbD 1)
  BitVec.ofNat 4 ((decide (o.value = 0)).toNat + o.value.msb.toNat * 2 + c.toNat * 4 + v.toNat * 8)

/-! ### The operations of R256 -/

/-- PASS. -/
def opPass (x : AluIn) : AluOut := { value := x.a }
/-- ADD. -/
def opAdd (x : AluIn) : AluOut := aluSum x.a x.b false
/-- SUB. -/
def opSub (x : AluIn) : AluOut := aluDiff x.a x.b
/-- AND. -/
def opAnd (x : AluIn) : AluOut := { value := x.a &&& x.b }
/-- OR. -/
def opOr (x : AluIn) : AluOut := { value := x.a ||| x.b }
/-- XOR. -/
def opXor (x : AluIn) : AluOut := { value := x.a ^^^ x.b }
/-- ANDN. -/
def opAndn (x : AluIn) : AluOut := { value := x.a &&& ~~~x.b }
/-- SHL. -/
def opShl (x : AluIn) : AluOut := { value := x.a <<< (x.b.toNat % 64) }
/-- SHR. -/
def opShr (x : AluIn) : AluOut := { value := x.a >>> (x.b.toNat % 64) }
/-- SAR. -/
def opSar (x : AluIn) : AluOut := { value := x.a.sshiftRight (x.b.toNat % 64) }
/-- ROR. -/
def opRor (x : AluIn) : AluOut := { value := x.a.rotateRight (x.b.toNat % 64) }
/-- EXT. -/
def opExt (x : AluIn) : AluOut := { value := extract x.a x.b }
/-- MIN. -/
def opMin (x : AluIn) : AluOut := { value := if x.b.toNat < x.a.toNat then x.b else x.a }
/-- MAX. -/
def opMax (x : AluIn) : AluOut := { value := if x.a.toNat < x.b.toNat then x.b else x.a }
/-- CMP. -/
def opCmp (x : AluIn) : AluOut := { aluDiff x.a x.b with write := false }
/-- TEST. -/
def opTest (x : AluIn) : AluOut := { value := x.a &&& x.b, write := false }
/-- ADDC. -/
def opAddc (x : AluIn) : AluOut := aluSum x.a x.b x.carry
/-- BSWAP. -/
def opBswap (x : AluIn) : AluOut := { value := bswap x.a }
/-- POPCNT. -/
def opPopcnt (x : AluIn) : AluOut := { value := BitVec.ofNat 64 (onesCount x.a) }
/-- CLZ. -/
def opClz (x : AluIn) : AluOut := { value := BitVec.ofNat 64 (leadingZeros x.a 64) }
/-- MUL. -/
def opMul (x : AluIn) : AluOut := { value := BitVec.ofNat 64 (x.a.toNat % 2 ^ 32 * (x.b.toNat % 2 ^ 32)) }
/-- CSUM. -/
def opCsum (x : AluIn) : AluOut :=
  let a := x.a.toNat
  { value := BitVec.ofNat 64 (fold16 (a % 65536 + a / 2 ^ 16 % 65536 + a / 2 ^ 32 % 65536 + a / 2 ^ 48 + x.b.toNat % 65536)) }
/-- CRC32. -/
def opCrc32 (x : AluIn) : AluOut := { value := BitVec.ofNat 64 (crc32Hash (x.b.toNat % 2 ^ 32) (toBytes 8 x.a.toNat)) }
/-- SEL. -/
def opSel (x : AluIn) : AluOut := { value := if x.cond then x.a else x.b }

end Sys2Proof.Machine
end

