-- ==== Sys2Proof/Machine/Engine.lean ====
section
/-! DEFINITION. The packet engines: jobs, threads and the parts of a microword that touch no memory space (Packet Engines and
Microcode). A microword is given part by part, each part reading the thread as it stood before the microword; the sequencing part
completes it. -/

namespace Sys2Proof.Machine

/-! ### Events -/

/-- The ENG_EVENT bit that an event code sets. -/
def engBit (code : Nat) : Fld :=
  match code with
  | 1 | 2 => ENG_EVENT_FAULT
  | 3 => ENG_EVENT_QUEUE
  | 4 | 5 => ENG_EVENT_XCHG
  | 6 | 7 => ENG_EVENT_STATE
  | 9 => ENG_EVENT_REFUSED
  | _ => ENG_EVENT_RESERVED_WRITE

/-- An ENG event of cluster c to the root Hedge (R294). -/
def engEv (c code q : Nat) : Ev := { blk := 0x10, code := code, detail := c * 2 ^ 8 + q }

/-- An ENG event raised. -/
def Mod.engEvent (m : Mod) (c code q : Nat) : Mod := (m.sqc (engBit code) c).event (engEv c code q)

/-- An ENG event raised at most once per second per cluster. -/
def Mod.engRated (m : Mod) (c code q : Nat) : Mod :=
  (m.sqc (engBit code) c).eventRated (0x10 * 2 ^ 24 + code * 2 ^ 16 + c) (engEv c code q)

/-- A cluster takes a state and says so (R291). -/
def Mod.setClusterState (m : Mod) (c st : Nat) : Mod := (m.set ENG_CLUSTER_STATUS_STATE c st).engEvent c 0x06 st

/-! ### The end of a job -/

/-- The frame a job still holds is discarded and counted (R262, R271). -/
def Mod.orphan (m : Mod) (c : Nat) (j : Job) : Mod :=
  match j.frame with
  | some id => (m.bump (engCtr c 10)).deref id
  | none => m

/-- A job fault (R262): the job ends at once, with its commit buffer and its frame gone. -/
def Mod.jobFault (m : Mod) (key kind : Nat) : Mod :=
  match m.thread key with
  | none => m
  | some t =>
    let c := key / 768
    let m := ((m.freeThread key).orphan c t.job).bump (engCtr c 2)
    let m := if t.pc < 0x6000 then m.withUpd { m.upd with jobFault := true } else m
    (m.sqc ENG_EVENT_FAULT c).event
      { blk := 0x10, code := 0x01, hedge := t.job.hedge, detail := t.pc * 2 ^ 16 + c * 2 ^ 8 + kind, rings := [t.job.hedge, 0] }

/-- A job that has ended by END leaves its thread (R259, R271). -/
def Mod.jobEnds (m : Mod) (key : Nat) : Mod :=
  match m.thread key with
  | none => m
  | some t => (((m.freeThread key).orphan (key / 768) t.job).bump (engCtr (key / 768) 1)).epcThread key t 12

/-- The fence of a thread, when it is satisfied now (R260): a job whose END has issued ends, a thread that waited is ready behind the others. -/
def Mod.settleThread (m : Mod) (key : Nat) : Mod :=
  match m.thread key with
  | none => m
  | some t =>
    match t.ending with
    | some k => if m.fenceMet key k then m.jobEnds key else m
    | none => if t.fence != 0 && m.fenceMet key t.fence then m.joinReady key { t with fence := 0 } else m

/-- Fences that are satisfied now (R260), of every thread that holds a job. -/
def Mod.settleEnds (m : Mod) : Mod := (m.eng.threads.map (·.1)).foldl Mod.settleThread m

/-! ### Sources -/

/-- S11 FLAGS (R255). -/
def Mod.flagsWord (m : Mod) (t : Thread) : Nat :=
  t.flagsA.toNat + t.flagsB.toNat * 2 ^ 4 + b01 t.rdReady * 2 ^ 8 + b01 t.memErr * 2 ^ 9 + b01 t.qOk * 2 ^ 10 +
    b01 t.tmrOk * 2 ^ 11 + b01 t.job.restart * 2 ^ 12 + b01 t.inCommit * 2 ^ 13 + b01 t.job.frame.isSome * 2 ^ 14 +
    b01 (m.flag GLB_STATUS_HEADLESS) * 2 ^ 15 + b01 (m.flag TIM_STATUS_USABLE) * 2 ^ 16

/-- FLAGS as they stood before the microword in progress. -/
def Mod.flagsBefore (m : Mod) (t : Thread) : Nat := t.mw.flags.getD (m.flagsWord t)

/-- CND on the flags and state before the microword (R258); 24 and above are reserved. -/
def condHolds (flags cnd : Nat) : Bool :=
  match cnd with
  | 0 => true
  | 1 => flags.testBit 0
  | 2 => !(flags.testBit 0)
  | 3 => flags.testBit 1
  | 4 => !(flags.testBit 1)
  | 5 => flags.testBit 2
  | 6 => !(flags.testBit 2)
  | 7 => flags.testBit 3
  | 8 => flags.testBit 4
  | 9 => !(flags.testBit 4)
  | 10 => flags.testBit 5
  | 11 => !(flags.testBit 5)
  | 12 => flags.testBit 6
  | 13 => !(flags.testBit 6)
  | 14 => flags.testBit 7
  | 15 => flags.testBit 8
  | 16 => flags.testBit 9
  | 17 => flags.testBit 10
  | 18 => flags.testBit 11
  | 19 => flags.testBit 12
  | 20 => flags.testBit 14
  | 21 => flags.testBit 15
  | 22 => flags.testBit 16
  | _ => false

/-- Word n of the header window (R254, R268). -/
def Thread.headerWord (t : Thread) (n : Nat) : Word :=
  BitVec.ofNat 64 (fieldAt t.hdr ((if t.upper then 128 else 0) + 8 * n) 8)

/-- S8 IDENT (R255). -/
def Mod.identWord (m : Mod) (key : Nat) (t : Thread) : Nat :=
  let c := key / 768
  let e := key / 48 % 16
  key % 48 + e * 2 ^ 8 + c * 2 ^ 12 + m.physOf c e * 2 ^ 16 + t.job.hedge * 2 ^ 24

/-- The value of a special (R255), but for RAND. -/
def Mod.special (m : Mod) (key : Nat) (t : Thread) (imm : BitVec 16) (n : Nat) : Nat :=
  match n with
  | 0 => 0
  | 1 => imm.toNat
  | 2 => unsigned 64 (signed 16 imm.toNat)
  | 3 => imm.toNat * 2 ^ 16
  | 4 => t.job.desc.toNat
  | 5 => t.job.desc.toNat / 2 ^ 64
  | 6 => timeSec m.time.net % 2 ^ 32 * 2 ^ 32 + timeNs m.time.net
  | 7 => m.tickNum
  | 8 => m.identWord key t
  | 9 => t.rd0.toNat
  | 10 => t.rd1.toNat
  | 11 => m.flagsBefore t
  | 12 => t.qstat.toNat
  | 13 => t.tmrv.toNat
  | _ => m.engineCycle (key / 768) (m.physOf (key / 768) (key / 48 % 16))

/-- A source of a microword (R254): a working register, a word of the header window, or a special; RAND is a free value. -/
def Mod.source (m : Mod) (key : Nat) (t : Thread) (imm : BitVec 16) (code : Nat) : Word × Mod :=
  if code < 32 then (t.w.getD code 0, m)
  else if code < 48 then (t.headerWord (code - 32), m)
  else if code = 62 then m.fresh
  else (BitVec.ofNat 64 (m.special key t imm (code - 48)), m)

/-! ### The parts of a microword -/

/-- The thread of a command that is a part of its microword, when the thread issues that microword now and it can take the part (R251, R253).
The first part of a microword notes the flags as they stand. -/
def Mod.issuing (m : Mod) (c : Instr) : Option Thread :=
  (partOf c).bind fun p =>
    let key := threadKey p.ref
    ((m.issuer key).filter fun t =>
      let w := m.microword key t
      !(mwReserved w) && p.spelt w && p.takes w t.mw).map fun t => { t with mw := { t.mw with flags := some (m.flagsBefore t) } }

/-- The command's thread issues a microword with a reserved encoding, or with bits [7:0] that are not zero (R262). -/
def Mod.badWord (m : Mod) (c : Instr) : Option Nat :=
  (partOf c).bind fun p =>
    let key := threadKey p.ref
    ((m.issuer key).filter fun t => mwReserved (m.microword key t)).map fun _ => key

/-- A part of a microword: f on its thread; a reserved encoding in the microword is a job fault of kind 4 (R262). -/
def Mod.issue (m : Mod) (c : Instr) (f : Thread → Mod) : Mod :=
  match m.badWord c with
  | some key => m.jobFault key 4
  | none =>
    match m.issuing c with
    | some t => f t
    | none => m

/-- A part of a microword that reads the LOCK bits, and may set some. -/
def Mod.issueLocks (m : Mod) (l : BitVec 5) (c : Instr) (f : Thread → BitVec 5 × Mod) : BitVec 5 × Mod :=
  match m.badWord c with
  | some key => (l, m.jobFault key 4)
  | none =>
    match m.issuing c with
    | some t => f t
    | none => (l, m)

/-- A microword's part changes what the microword will write. -/
def Mod.setMicro (m : Mod) (key : Nat) (t : Thread) (x : Micro) : Mod := m.setThread key { t with mw := x }

/-- An ALU's result noted for the completion (R257). -/
def Micro.result (x : Micro) (u : AluUnit) (r : Option AluRes) : Micro :=
  match u with
  | .a => { x with resA := r }
  | .b => { x with resB := r }

/-- An ALU operation that computes (R256, R257). -/
def Mod.alu (m : Mod) (c : Instr) (x : AluArgs) (op : AluIn → AluOut) : Mod :=
  let key := threadKey x.t
  m.issue c fun t =>
    let a := m.source key t x.imm x.srcA.val
    let b := a.2.source key t x.imm x.srcB.val
    let own := match x.unit with
      | .a => t.flagsA
      | .b => t.flagsB
    let o := op { a := a.1, b := b.1, carry := own.getLsbD 2, cond := condHolds (m.flagsBefore t) x.cnd.val }
    let f := if o.c.isSome && o.v.isSome then (0, b.2) else b.2.fresh
    f.2.setMicro key t (t.mw.result x.unit
      (some { value := o.value, write := o.write, dest := x.dest.val, flags := aluFlags o f.1 }))

/-- A part that only marks its microword. -/
def Mod.markPart (m : Mod) (c : Instr) (r : ThreadRef) (f : Micro → Micro) : Mod := m.issue c fun t => m.setMicro (threadKey r) t (f t.mw)

/-- NOP (R256): the ALU writes nothing and keeps its flags. -/
def Mod.aluIdle (m : Mod) (x : AluArgs) : Mod := m.markPart (.aluNop x) x.t fun y => y.result x.unit none

/-- A part that acts on the header window (R268): a job fault without a frame. -/
def Mod.hdrPart (m : Mod) (c : Instr) (r : ThreadRef) (f : Micro → Micro) : Mod :=
  m.issue c fun t => if t.job.frame.isNone then m.jobFault (threadKey r) 6 else m.setMicro (threadKey r) t (f t.mw)

/-- A CNT marker (R301), effective as the microword completes. -/
def Mod.cntPart (m : Mod) (c : Instr) (r : ThreadRef) (cnt : Nat) : Mod := m.markPart c r fun y => { y with cnt := cnt }

/-- The fence that FEN names (R260), acted on by FENCE_NEXT or END. -/
def Mod.fencePart (m : Mod) (c : Instr) (r : ThreadRef) (fen : Nat) : Mod := m.markPart c r fun y => { y with fen := fen }

/-- THR WAIT (R261). -/
def Mod.waitPart (m : Mod) (r : ThreadRef) : Mod := m.markPart (.wait r) r fun y => { y with waits := true }

/-- THR BEGIN_COMMIT (R261): a section is open; within one it has no further effect. -/
def Mod.beginCommitPart (m : Mod) (r : ThreadRef) : Mod :=
  m.issue (.beginCommit r) fun t => m.setThread (threadKey r) { t with inCommit := true, mw := { t.mw with commits := true } }

/-- The thread's effects are held (R261): a section is open, or this microword opens one. -/
def Mod.holds (m : Mod) (key : Nat) (t : Thread) : Bool := t.inCommit || mwThr (m.microword key t) == 2

/-! ### A result another part of the microword takes -/

/-- The result of an ALU of the microword in progress; an ALU that computes none gives a free value. -/
def Mod.resultOf (m : Mod) (r : Option AluRes) : Word × Mod :=
  match r with
  | some x => if x.write then (x.value, m) else m.fresh
  | none => m.fresh

/-! ### Timers -/

/-- Timers of cluster c that the pool holds in all (R278). -/
def Mod.poolSize (m : Mod) (c : Nat) : Nat :=
  4096 - m.get ENG_TMR_CFG_TICK_RES c - (List.range 16).foldl (fun a h => a + m.get ENG_HEDGE_THR_TMR_RES (16 * c + h)) 0

/-- Timers of cluster c taken from the pool. -/
def Cluster.poolUsed (k : Cluster) : Nat := (k.timers.filter (·.2.fromPool)).length

/-- Timers Hedge h holds of its reservation. -/
def Cluster.reservedUsed (k : Cluster) (h : Nat) : Nat :=
  (k.timers.filter fun e => e.2.hedge == h && !e.2.fromPool).length

/-- The lowest timer that is not taken. -/
def Cluster.freeTimer (k : Cluster) : Option Nat := (List.range 4096).find? fun i => (lookup k.timers i).isNone

/-- The timer an ALLOC of Hedge h takes: its index, and whether it comes from the pool (R278). -/
def Mod.allocTimer (m : Mod) (c h : Nat) : Option (Nat × Bool) :=
  let k := m.cl c
  if k.reservedUsed h < m.get ENG_HEDGE_THR_TMR_RES (16 * c + h) then k.freeTimer.map fun i => (i, false)
  else if k.poolUsed < m.poolSize c then k.freeTimer.map fun i => (i, true)
  else none

/-- A timer of cluster c replaced, or freed. -/
def Mod.setTimer (m : Mod) (c i : Nat) (t : Option Timer) : Mod :=
  let k := m.cl c
  m.setCl c { k with timers := match t with
    | some x => store k.timers i x
    | none => remove k.timers i }

/-- What a timer operation answers: TMR_OK and TMRV where it sets it. -/
abbrev TimerOut := (Bool × Option Word) × Mod

/-- ALLOC (R278, R280). -/
def Mod.timerAlloc (m : Mod) (c h : Nat) : TimerOut :=
  match m.allocTimer c h with
  | some (i, pool) => ((true, some (BitVec.ofNat 64 i)), m.setTimer c i (some { hedge := h, fromPool := pool }))
  | none => ((false, some (BitVec.allOnes 64)), m.bump (engCtr c 13))

/-- The timer of index i when the job's Hedge holds it. -/
def Mod.ownTimer (m : Mod) (c h i : Nat) : Option Timer := (lookup (m.cl c).timers i).filter fun t => t.hedge == h

/-- An operation on a timer the job's Hedge holds; on any other it does nothing and clears TMR_OK (R280). -/
def Mod.onTimer (m : Mod) (c h i : Nat) (f : Timer → TimerOut) : TimerOut :=
  match m.ownTimer c h i with
  | some t => f t
  | none => ((false, none), m)

/-- ARM: expiry GLB_COMMIT_SEQ + DELTA, opcode and ARG (R279, R280). -/
def Mod.timerArm (m : Mod) (c h : Nat) (a b : Word) : TimerOut :=
  let i := a.toNat % 4096
  m.onTimer c h i fun t =>
    ((true, none), m.setTimer c i
      (some { t with armed := some (m.commits + bits a.toNat 43 12, bits a.toNat 51 44, b.toNat), late := none }))

/-- CANCEL: TMR_OK when the timer was armed (R280). -/
def Mod.timerCancel (m : Mod) (c h : Nat) (a : Word) : TimerOut :=
  let i := a.toNat % 4096
  m.onTimer c h i fun t => ((t.armed.isSome, none), m.setTimer c i (some { t with armed := none, late := none }))

/-- READ: commits remaining, and armed (R280). -/
def Mod.timerRead (m : Mod) (c h : Nat) (a : Word) : TimerOut :=
  m.onTimer c h (a.toNat % 4096) fun t =>
    ((true, some (BitVec.ofNat 64 (match t.armed with
      | some x => (x.1 - m.commits) % 2 ^ 32 + 2 ^ 32
      | none => 0))), m)

/-- FREE: cancels and returns the timer (R280). -/
def Mod.timerFree (m : Mod) (c h : Nat) (a : Word) : TimerOut :=
  let i := a.toNat % 4096
  m.onTimer c h i fun _ => ((true, none), m.setTimer c i none)

/-- The timer part of a microword (R280): its operand is the ALU A result, ARG the ALU B result. -/
def Mod.tmrPart (m : Mod) (row : Instr) (r : ThreadRef) (op : Mod → (c h : Nat) → (a b : Word) → TimerOut) : Mod :=
  let key := threadKey r
  m.issue row fun t =>
    let a := m.resultOf t.mw.resA
    let b := a.2.resultOf t.mw.resB
    let r := op b.2 (key / 768) t.job.hedge a.1 b.1
    r.2.setMicro key t { t.mw with tmrOk := some r.1.1, tmrv := r.1.2 <|> t.mw.tmrv }

/-- The job of a timer that fires (R279). -/
def expiryJob (i h late opcode arg : Nat) : Job :=
  { desc := BitVec.ofNat 128 (opcode + i * 2 ^ 8 + h * 2 ^ 20 + Nat.min late 65535 * 2 ^ 24 + arg % 2 ^ 64 * 2 ^ 64),
    hedge := h, kind := .timer i }

/-- One timer of cluster c at a commit: fired into TT, or deferred while TT takes no job (R279). -/
def Mod.fireTimer (m : Mod) (c i : Nat) : Mod :=
  match lookup (m.cl c).timers i with
  | some t =>
    match t.armed with
    | some (due, opcode, arg) =>
      if m.commits < due then m
      else if (m.cl c).queueFull 0 then
        (m.setTimer c i (some { t with late := some (t.late.getD 0 + 1) })).bump (engCtr c 6)
      else
        let m := m.setTimer c i (some { t with armed := none, late := none })
        m.setCl c ((m.cl c).push 0 (expiryJob i t.hedge (t.late.getD 0) opcode arg))
    | none => m
  | none => m

/-- TIMER_EXPIRY (R279): the timers of cluster c that the latest commit brings to their expiry, in increasing index order. -/
def Mod.timerExpiry (m : Mod) (c : Nat) : Mod :=
  if m.tick.timersDue.contains c then
    let m := m.withTick { m.tick with timersDue := eraseNat m.tick.timersDue c }
    ((m.cl c).timers.map (·.1)).foldl (fun m i => m.fireTimer c i) m
  else m

/-! ### Tick jobs -/

/-- The job of tick entry i (R276). -/
def Mod.tickJob (m : Mod) (i : Nat) : Job :=
  { desc := BitVec.ofNat 128 (m.get ENG_TICKJOB0_OPCODE i + i % 256 * 2 ^ 8 + m.tickNum * 2 ^ 16 +
      m.get ENG_TICKJOB1_ARG i * 2 ^ 80), hedge := m.get ENG_TICKJOB0_HEDGE i, kind := .tick i }

/-- A job of a tick entry that has not ended: queued, waiting to restart, or running. -/
def Mod.tickJobLives (m : Mod) (i : Nat) : Bool :=
  let here (l : List Job) : Bool := l.any fun j => j.kind == .tick i
  (m.eng.threads.any fun e => e.2.job.kind == .tick i) ||
    (List.range 4).any fun c => here (m.cl c).tt || here (m.cl c).ij || here (m.cl c).restarts

/-- Tick entry i is due at tick number n. -/
def Mod.dueAt (m : Mod) (i n : Nat) : Bool :=
  let per := m.get ENG_TICKJOB0_PERIOD i
  decide (0 < per) && (n + per * 65536 - m.get ENG_TICKJOB0_PHASE i) % per == 0

/-- Some tick number that a forward step skipped makes entry i due (R27). -/
def Mod.dueSkipped (m : Mod) (i : Nat) : Bool :=
  match m.tick.skipped with
  | some (lo, hi) =>
    let per := m.get ENG_TICKJOB0_PERIOD i
    decide (lo < hi) && decide (0 < per) && (decide (per ≤ hi - lo) || (List.range (hi - lo)).any fun k => m.dueAt i (lo + k))
  | none => false

/-- One tick entry at a commit (R35, R276). -/
def Mod.tickEntry (m : Mod) (i : Nat) : Mod :=
  let c := i / 256
  let shed := m.get ENG_TICKJOB0_SHED i
  if m.flag ENG_TICKJOB0_VALID i = false then m
  else if 0 < shed ∧ shed ≤ m.get GLB_TICK_CFG_SHED_LEVEL then m
  else if m.dueAt i m.tickNum || m.dueSkipped i then
    if (m.cl c).queueFull 0 || m.tickJobLives i then m.bump (engCtr c 5)
    else m.setCl c ((m.cl c).push 0 (m.tickJob i))
  else m

/-- TICK_JOB_DUE (R276): the due tick entries of cluster c, in increasing order. -/
def Mod.tickJobDue (m : Mod) (c : Nat) : Mod :=
  if m.tick.jobsDue.contains c then
    let m := m.withTick { m.tick with jobsDue := eraseNat m.tick.jobsDue c }
    (List.range 256).foldl (fun m i => m.tickEntry (256 * c + i)) m
  else m

/-! ### The start of a job -/

/-- Working threads of cluster c (R250). -/
def Mod.workingThreads (m : Mod) (c : Nat) : Nat := 48 * ((List.range 16).filter (m.works c)).length

/-- Threads of cluster c that Hedge h uses. -/
def Mod.threadsUsed (m : Mod) (c h : Nat) : Nat := ((m.clusterThreads c).filter fun e => e.2.job.hedge == h).length

/-- Threads of a logical engine that hold no job. -/
def Mod.freeOf (m : Mod) (c e : Nat) : Nat :=
  48 - (m.eng.threads.filter fun x => x.1 / 48 == 16 * c + e).length

/-- A graft moves the threads of logical engine e of cluster c (R448). -/
def Mod.grafting (m : Mod) (c e : Nat) : Bool :=
  m.int.graft.any fun g => g.cls == 2 && g.loc == 64 * c + m.physOf c e

/-- The working engine with the most free threads, the lower logical number in a tie (R252). -/
def Mod.placeEngine (m : Mod) (c : Nat) : Option Nat :=
  (List.range 16).foldl (fun best e =>
    if m.works c e = false ∨ m.freeOf c e = 0 ∨ m.grafting c e then best
    else match best with
      | some b => if m.freeOf c b < m.freeOf c e then some e else best
      | none => some e) none

/-- Threads of cluster c that a job can be placed on. -/
def Mod.freeThreads (m : Mod) (c : Nat) : Nat :=
  (((List.range 16).filter fun e => m.works c e && !(m.grafting c e)).map (m.freeOf c)).sum

/-- A job of Hedge h may start on cluster c (R252); none starts of a Hedge that is being reset (R292). -/
def Mod.mayStart (m : Mod) (c h : Nat) : Bool :=
  let res (g : Nat) : Nat := m.get ENG_HEDGE_THR_RES (16 * c + g)
  let used := m.threadsUsed c h
  let free := m.freeThreads c
  let others := ((List.range 16).filter (· != h)).foldl (fun a g => a + (res g - m.threadsUsed c g)) 0
  decide (0 < free) && decide (used < m.get ENG_HEDGE_THR_MAX (16 * c + h)) &&
    (decide (used < res h) || decide (others < free)) && !(m.resetting h)

/-- The thread a job starts on: the lowest free one of the engine. -/
def Mod.placeThread (m : Mod) (c : Nat) : Option Nat :=
  match m.placeEngine c with
  | some e => ((List.range 48).map fun k => 768 * c + 48 * e + k).find? fun key => (m.thread key).isNone
  | none => none

/-- n free words from the counter's value on. -/
def freeWords (base n : Nat) : List Word := (List.range n).map fun i => Config.freeWord (base + i)

/-- The header buffer of a frame job (R267): the first octets of the frame, and zero after them. -/
def headerOf (f : Frame) : List Byte :=
  let h := f.octets.take 256
  h ++ List.replicate (256 - h.length) 0

/-- A job that is discarded because its opcode has no valid dispatch entry (R272). -/
def Mod.unknownOpcode (m : Mod) (c : Nat) (j : Job) : Mod :=
  let m := (m.bump (engCtr c 4)).engRated c 0x02 (j.desc.toNat % 256)
  match j.frame with
  | some id => m.deref id
  | none => m

/-- A service queue loads the header buffer of its jobs (R267). -/
def Mod.loadsHeader (m : Mod) (j : Job) : Bool :=
  match j.kind with
  | .service q => m.flag ENG_SQ_CFG_HEADER q
  | _ => false

/-- Where a job starts (R272, R277): its dispatch entry, or the entry's RESUME for a tick job that does not restart. -/
def Mod.startsAt (m : Mod) (c : Nat) (j : Job) : Nat × Mod :=
  let entry := m.get ENG_DISPATCH_ADDR (256 * c + j.desc.toNat % 256)
  match j.kind with
  | .tick i =>
    if m.flag ENG_TICKJOB1_RESUME_VALID i ∧ j.restart = false then
      (m.get ENG_TICKJOB1_RESUME i, m.set ENG_TICKJOB1_RESUME_VALID i 0)
    else (entry, m)
  | _ => (entry, m)

/-- What a start counts: JOBS_STARTED or RESTARTS, and the performance events. -/
def Mod.countStart (m : Mod) (key : Nat) (t : Thread) : Mod :=
  let c := key / 768
  if t.job.restart then (m.bump (engCtr c 3)).epcThread key t 13
  else
    let m := (m.bump (engCtr c 0)).epcThread key t 11
    match t.job.kind with
    | .timer _ => m.epcThread key t 28
    | _ => m

/-- A job starts on a thread: working registers, LOCAL memory and a header buffer that is not loaded are free values (R254, R267). -/
def Mod.startJob (m : Mod) (c : Nat) (j : Job) : Mod :=
  let op := j.desc.toNat % 256
  if op = 0 ∨ m.flag ENG_DISPATCH_VALID (256 * c + op) = false then m.unknownOpcode c j
  else
    match m.placeThread c with
    | none => m
    | some key =>
      let at_ := m.startsAt c j
      let m := at_.2
      let n := m.free
      let loaded := if m.loadsHeader j then (j.frame.bind m.frame).map headerOf else none
      let t : Thread :=
        { job := j, w := freeWords n 32, pc := at_.1,
          hdr := loaded.getD ((freeWords (n + 32) 32).flatMap fun w => toBytes 8 w.toNat), localSeed := n + 64, since := m.now }
      let m := { m with free := n + 192 }
      let m := match j.kind with
        | .tick i => m.withUpd { m.upd with ticksRun := insertNat m.upd.ticksRun i }
        | _ => m
      (m.joinReady key t).countStart key t

/-- The head of job queue k leaves it, and a marker that waits takes its place (R284). -/
def Mod.popQueue (m : Mod) (c k : Nat) : Mod :=
  m.setCl c (((m.cl c).setQueue k (((m.cl c).queue k).drop 1)).settleMarkers k)

/-- The descriptor of a frame job (R275). -/
def Mod.frameDesc (m : Mod) (f : Frame) (q : Nat) : BitVec 128 :=
  let r := f.result.getD (7, 0)
  let idx := (f.stream <|> f.nh).getD 0
  BitVec.ofNat 128 (timeNs f.stamp * 2 ^ 96 + f.hedge * 2 ^ 92 + f.source * 2 ^ 84 + f.octets.length * 2 ^ 70 + f.cls * 2 ^ 67 +
    f.colour * 2 ^ 65 + b01 f.trunc * 2 ^ 64 + r.1 * 2 ^ 61 + r.2 % 2 ^ 12 * 2 ^ 49 + idx % 2 ^ 16 * 2 ^ 33 +
    b01 f.stream.isSome * 2 ^ 32 + f.passes * 2 ^ 30 + b01 (decide (f.source < 128) && f.ptp.any fun x => decide (x.msg < 4)) * 2 ^ 29 + q * 2 ^ 24 + m.get ENG_SQ_CFG_OPCODE q)

/-- The head copy of the service intake of cluster c that may start (R184, R274): strict priority, then the sources in turn. -/
def Mod.intakeHead (m : Mod) (c : Nat) : Option (Nat × Nat × Copy) :=
  [7, 6, 5, 4, 3, 2, 1, 0].findSome? fun cls =>
    (m.sourceOrder (130 + c) cls).findSome? fun s =>
      match m.voq (voqKey s (130 + c) cls) with
      | h :: _ => if (m.frame h.frame).any fun f => m.mayStart c f.hedge then some (s, cls, h) else none
      | [] => none

/-- A frame job starts from the service intake (R267, R274): the job takes the copy's reference. A poisoned frame is discarded on its
read (R156). -/
def Mod.startFrame (m : Mod) (c s cls : Nat) (x : Copy) : Mod :=
  let d := 130 + c
  match m.frame x.frame with
  | none => m
  | some f =>
    let m := m.setVoq (voqKey s d cls) ((m.voq (voqKey s d cls)).drop 1)
    let m := m.withSch { m.sch with served := store m.sch.served (8 * d + cls) s }
    if f.poison then m.dropRead d f x 13 0
    else
    let m := m.unqueue d f
    let q := f.service.getD 0
    m.startJob c { desc := m.frameDesc f q, hedge := f.hedge, kind := .service q, frame := some x.frame }

/-- The cluster starts jobs: it is in RUN, neither an exchange nor an OFFLINE request holds it (R289, R291), and its dispatch table is not being
reloaded (R437). -/
def Mod.startsJobs (m : Mod) (c : Nat) : Bool :=
  m.get ENG_CLUSTER_STATUS_STATE c == 0 && (m.cl c).quiesce.isNone && !(m.cl c).lost && !((m.cl c).reloading.contains 128)

/-- JOB_START (R273): the first eligible job, from the restarts, TT, EV, IJ, DB and the service intake. -/
def Mod.jobStart (m : Mod) (c : Nat) : Mod :=
  if m.startsJobs c = false then m
  else
    match (m.cl c).restarts.find? fun j => m.mayStart c j.hedge with
    | some j => (m.setCl c { m.cl c with restarts := (m.cl c).restarts.erase j }).startJob c j
    | none =>
      match [0, 1, 2, 3].find? fun k => (((m.cl c).queue k).head?).any fun j => m.mayStart c j.hedge with
      | some k =>
        match (m.cl c).queue k with
        | j :: _ => (m.popQueue c k).startJob c j
        | [] => m
      | none =>
        match m.intakeHead c with
        | some (s, cls, x) => m.startFrame c s cls x
        | none => m

/-! ### Frame and queue operations -/

/-- n free octets. -/
def Mod.freeOctets (m : Mod) (n : Nat) : List Byte × Mod :=
  (((freeWords m.free ((n + 7) / 8)).flatMap fun w => toBytes 8 w.toNat).take n, { m with free := m.free + (n + 7) / 8 })

/-- The octets of a re-entering frame before its FCS and its padding (R270); header octets beyond the buffer are free values. -/
def Mod.assemble (m : Mod) (t : Thread) (f : Frame) (p : Nat) : List Byte × Mod :=
  let n := bits p 8 0
  let beyond := m.freeOctets (n - 256)
  let stored := if f.trunc then f.octets else f.octets.take (f.octets.length - 4)
  (t.hdr.take n ++ beyond.1 ++ stored.drop (bits p 22 9), beyond.2)

/-- The length of a re-entering frame, without FCS and padding. -/
def assembledLength (f : Frame) (p : Nat) : Nat :=
  bits p 8 0 + ((if f.trunc then f.octets.length else f.octets.length - 4) - bits p 22 9)

/-- A re-entry (R270): the frame named or to be looked up waits for its ingress pipeline; a carry mismatch discards it. A COLOUR of 3 counts as
red, 2 (R4). -/
def Mod.reenter (m : Mod) (key : Nat) (t : Thread) (f : Frame) (p : Nat) (named : Bool) : Mod :=
  let c := key / 768
  if f.poison ∨ carryOf f f.octets ≠ f.carry then m.bump (engCtr c 11)
  else
    let a := m.assemble t f p
    let m := a.2
    let g := m.internalFrame (130 + c) f.hedge f.vid a.1
    let keep := bit p 41
    let g : Frame := { g with
      cls := if keep then f.cls else bits p 33 31
      colour := if keep then f.colour else Nat.min 2 (bits p 35 34)
      stamp := f.stamp
      corr := f.corr
      passes := f.passes + 1
      clip := t.clip
      tsAct := bits p 37 36
      tsJob := if bit p 38 then some (bits p 40 39) else none }
    let i : Inject := { frame := g, named := if named then some (bits p 30 23) else none, classed := named, thread := key }
    m.withBuf { m.buf with inject := m.buf.inject ++ [(130 + c, i)] }

/-- The frame the thread holds is given up. -/
def Mod.releaseFrame (m : Mod) (key : Nat) (t : Thread) (id : Nat) : Mod :=
  (m.deref id).setThread key { t with job := { t.job with frame := none }, clip := false }

/-- A frame as a new entry of the buffer: nothing charged, no reference. -/
def Frame.unheld (f : Frame) : Frame := { f with guar := 0, shared := 0, hdrm := 0, refs := 0, records := 0 }

/-- What a queue operation does with the frame a thread holds (R269); without one it does nothing. -/
def Mod.qopDo (m : Mod) (key op : Nat) (p : Word) : Mod :=
  match m.thread key with
  | none => m
  | some t =>
    match t.job.frame with
    | none => m
    | some id =>
      match m.frame id with
      | none => m
      | some f =>
        match op with
        | 1 => (m.reenter key t f p.toNat true).releaseFrame key t id
        | 2 => (m.reenter key t f p.toNat false).releaseFrame key t id
        | 3 => (m.bump (engDiscardCtr f.hedge)).releaseFrame key t id
        | 4 =>
          let s := m.freshNat
          (admitted (s.2.toException f.unheld (p.toNat % 8) (s.1 % 256))).releaseFrame key t id
        | 5 => m.setThread key { t with clip := true }
        | _ => (m.reenter key t f p.toNat true).setThread key { t with clip := false }

/-- An operation of a commit section joins its buffer of 16; a seventeenth is a job fault (R261). -/
def Mod.hold (m : Mod) (key : Nat) (t : Thread) (o : HeldOp) (x : Micro) : Mod :=
  if 16 ≤ t.held.length then m.jobFault key 2
  else (m.setThread key { t with held := t.held ++ [o], mw := x }).epcThread key t 24

/-- The performance event of a queue operation (R299). -/
def qopEvent (op : Nat) : Nat :=
  match op with
  | 1 | 6 => 25
  | 2 => 26
  | 3 => 27
  | _ => 0

/-- The queue operation of a microword (R269): its parameter is the MAD source. -/
def Mod.qopPart (m : Mod) (c : Instr) (r : ThreadRef) (mad : Nat) (imm : BitVec 16) (op : Nat) : Mod :=
  let key := threadKey r
  m.issue c fun t =>
    match t.job.frame.bind m.frame with
    | none => m.jobFault key 6
    | some f =>
      let s := m.source key t imm mad
      let m := s.2
      if (op = 1 ∨ op = 2 ∨ op = 6) ∧ 15996 < assembledLength f s.1.toNat then m.jobFault key 7
      else
        let x := { t.mw with qop := true, qOk := some true, qstat := some 0 }
        let m := if qopEvent op = 0 then m else m.epcThread key t (qopEvent op)
        if m.holds key t then m.hold key t (.qop op s.1) x else (m.setMicro key t x).qopDo key op s.1

/-! ### The completion of a microword -/

/-- An ALU result written (R257). -/
def Thread.put (t : Thread) (r : Option AluRes) : Thread :=
  match r with
  | some x => if x.write then { t with w := setAt t.w x.dest x.value } else t
  | none => t

/-- The header-window write of a microword (R268). -/
def Thread.headerPut (t : Thread) (n : Nat) (v : Word) : Thread :=
  let o := (if t.upper then 128 else 0) + 8 * n
  { t with hdr := t.hdr.take o ++ toBytes 8 v.toNat ++ t.hdr.drop (o + 8) }

/-- The results of a microword written as it completes (R257): ALU B holds where both write one register. -/
def Thread.written (t : Thread) (hdr : Word) : Thread :=
  let x := t.mw
  let t := match x.hdrWrite with
    | some (_, n) => t.headerPut n hdr
    | none => t
  let t := (t.put x.resA).put x.resB
  { t with
    flagsA := (x.resA.map (·.flags)).getD t.flagsA
    flagsB := (x.resB.map (·.flags)).getD t.flagsB
    upper := x.view.getD t.upper
    memErr := x.memErr.getD t.memErr
    qOk := x.qOk.getD t.qOk
    qstat := x.qstat.getD t.qstat
    tmrOk := x.tmrOk.getD t.tmrOk
    tmrv := x.tmrv.getD t.tmrv
    rdReady := t.rdReady && !x.reads
    waiting := x.waits && t.read.isSome
    issued := t.issued + 1
    mw := {} }

/-- A microword completes: its results, its marker, its issue slot and its sample. -/
def Mod.completed (m : Mod) (key : Nat) (t : Thread) : Thread × Mod :=
  let c := key / 768
  let phys := m.physOf c (key / 48 % 16)
  let x := t.mw
  let v := match x.hdrWrite with
    | some (b, _) => m.resultOf (if b then x.resB else x.resA)
    | none => (0, m)
  let cnt := v.2.marker key (t.written v.1) x.cnt
  let m := cnt.2.epcThread key t 2
  let m := m.setCl c { m.cl c with slots := store (m.cl c).slots phys (lookupD (m.cl c).slots phys 0 + 1) }
  let s := m.sampleIssue key x.mem.isSome
  let m := s.2
  let issue := m.engineCycle c phys
  let tm := x.mem.getD (0, 0)
  if s.1 = false then (cnt.1, m)
  else if x.reads then ({ cnt.1 with tagged := some (t.pc, issue, tm.1, tm.2) }, m)
  else (cnt.1, m.sampleStore key
    { uaddr := t.pc, opcode := t.job.desc.toNat % 256, hedge := t.job.hedge, mem := tm.1, msp := tm.2, latency := 0, cycle := issue })

/-- An overrun of a job of a shed order (R34): not counted in a tick that a step changed (R27). -/
def Mod.countOverrun (m : Mod) (shed : Nat) : Mod :=
  if m.tick.stepTick then m
  else
    let m := (m.satAdd GLB_TICK_STATUS_OVR_COUNT 0).sqc GLB_TICK_STATUS_OVERRUN
    (m.withTick { m.tick with overrun := true }).event { blk := 0x01, code := 0x06, detail := shed }

/-- An overrun of the job of tick entry i. -/
def Mod.overran (m : Mod) (i : Nat) : Mod := m.countOverrun (m.get ENG_TICKJOB0_SHED i)

/-- Microwords that tick entry i may issue in a tick (R277): BUDGET × 16 at 8 µs, scaled with the tick period (R33; DEDUCED, log 63). -/
def Mod.budget (m : Mod) (i : Nat) : Nat := m.get ENG_TICKJOB0_BUDGET i * 16 * m.period / 8000

/-- A tick job that has used its budget and goes on overruns (R34). -/
def Mod.spends (m : Mod) (t : Thread) : Thread × Mod :=
  match t.job.kind with
  | .tick i =>
    if !t.job.spent && decide (m.budget i ≤ t.issued) then ({ t with job := { t.job with spent := true } }, m.overran i) else (t, m)
  | _ => (t, m)

/-- The sequencing part of a microword, but for END: where the thread continues, and its stack (R259). -/
def Mod.seqPart (m : Mod) (c : Instr) (x : SeqArgs) (fence : Bool) (go : Thread → Mod → Except Nat (Nat × List Nat)) : Mod :=
  let key := threadKey x.t
  m.issue c fun t =>
    match go t m with
    | .error kind => m.jobFault key kind
    | .ok (pc, stack) =>
      let r := m.completed key t
      let s := r.2.spends r.1
      s.2.joinReady key { s.1 with pc := pc, stack := stack, fence := if fence then x.fen.val else 0 }

/-- DISPATCH (R259): the entry named by bits [7:0] of the ASA source. -/
def Mod.dispatchTo (m : Mod) (key : Nat) (t : Thread) (op : Nat) : Except Nat (Nat × List Nat) :=
  let i := 256 * (key / 768) + op % 256
  if m.flag ENG_DISPATCH_VALID i then .ok (m.get ENG_DISPATCH_ADDR i, t.stack) else .error 4

/-- YIELD (R259, R277): the thread continues at TGT behind every other ready thread, or its tick job, which has used its budget or met the
ending boundary of its tick, is stopped and its entry resumes there. -/
def Mod.yieldPart (m : Mod) (x : SeqArgs) : Mod :=
  let key := threadKey x.t
  let m' := m.seqPart (.seqYield x) x false fun t _ => .ok (x.tgt.val, t.stack)
  match (m.issuing (.seqYield x)).bind fun _ => m'.thread key with
  | some t =>
    match t.job.kind, t.job.spent with
    | .tick i, true =>
      let m' := (m'.freeThread key).orphan (key / 768) t.job
      (m'.set ENG_TICKJOB1_RESUME i x.tgt.val).set ENG_TICKJOB1_RESUME_VALID i 1
    | _, _ => m'
  | none => m'

/-- A tick job that has met the ending boundary of its tick before it was done. -/
def Job.overrunning (j : Job) : Bool :=
  match j.kind with
  | .tick _ => !j.spent
  | _ => false

/-- The tick entry of a tick job. -/
def Job.entry (j : Job) : Nat :=
  match j.kind with
  | .tick i => i
  | _ => 0

/-- The job has met the ending boundary of its tick (R34). -/
def Job.late (j : Job) : Job := { j with spent := j.spent || j.overrunning }

/-- The ending boundary of a tick arrives (R34): every tick job of it that has not ended overruns, running, queued or waiting to restart. -/
def Mod.boundaryOverruns (m : Mod) : Mod :=
  let queued (k : Cluster) : List Job := k.restarts ++ k.tt ++ k.ij
  let late := ((m.eng.threads.map (·.2.job)) ++ (List.range 4).flatMap fun c => queued (m.cl c)).filter Job.overrunning
  let m := m.withEng { m.eng with threads := m.eng.threads.map fun e => (e.1, { e.2 with job := e.2.job.late }) }
  let m := (List.range 4).foldl (fun m c =>
    let k := m.cl c
    m.setCl c { k with restarts := k.restarts.map Job.late, tt := k.tt.map Job.late, ij := k.ij.map Job.late }) m
  late.foldl (fun m j => m.overran j.entry) m

/-! ### Doorbells -/

/-- The path field of a doorbell's job (R282); a cluster rings with the rights of the supervisor path (R266). -/
def doorPath : Path → Nat
  | .pf => 0
  | .vf _ => 1
  | .dmp => 2
  | .sup => 3
  | .cluster _ => 3
  | .jtag => 4

/-- A doorbell of cluster c is refused (R282). -/
def Mod.doorRefused (m : Mod) (c q : Nat) : Mod := (m.bump (engCtr c 9)).engRated c 0x03 q

/-- A write to ENG_DOORBELL of cluster c (R282). -/
def Mod.doorbell (m : Mod) (p : Path) (c : Nat) (w : Word) : Mod :=
  let op := w.toNat % 256
  let vf := match p with
    | .vf _ => true
    | _ => false
  if vf && decide (op < 0xC0) then m.doorRefused c 2
  else if (m.cl c).queueFull 3 then m.doorRefused c 1
  else
    let h := pathHedge p
    m.setCl c ((m.cl c).push 3
      { desc := BitVec.ofNat 128 (op + h * 2 ^ 8 + doorPath p * 2 ^ 12 + w.toNat / 2 ^ 8 * 2 ^ 16), hedge := h, kind := .doorbell })

/-! ### The watchdog -/

/-- WATCHDOG (R262): the job of a thread runs for MAX_CYCLES ENG cycles. -/
def Mod.watchdog (m : Mod) (key : Nat) : Mod :=
  match m.thread key with
  | none => m
  | some t =>
    let limit := m.get ENG_JOB_LIMIT_MAX_CYCLES (key / 768)
    if limit = 0 then m else (m.advanceTo (t.since + ceilDiv (2 * limit) 3)).jobFault key 5

/-! ### Quiesce, exchange, OFFLINE and LOST -/

/-- A running job as it waits to restart (R285). -/
def Job.again (j : Job) : Job := { j with restart := true }

/-- The running jobs of cluster c are aborted: their commit buffers, registers and LOCAL memory are dropped. -/
def Mod.abortRunning (m : Mod) (c : Nat) : List Job × Mod :=
  let ts := m.clusterThreads c
  (ts.map fun e => e.2.job.again, ts.foldl (fun m e => m.freeThread e.1) m)

/-- An exchange starts at the commit that applies REQ (R289); it is refused while any cluster is not in RUN (R290). -/
def Mod.exchangeStart (m : Mod) (c base : Nat) : Mod :=
  let m := m.set ENG_XCHG_CTL_REQ c 0
  if (List.range 4).all fun k => m.get ENG_CLUSTER_STATUS_STATE k == 0 && (m.cl k).quiesce.isNone then
    let m := (m.setCl c { m.cl c with quiesce := some (.exchange base), quiesceCommits := 0, loaded := none }).pathCleared (19 + c)
    (m.set ENG_XCHG_STATUS_PHASE c 1).setClusterState c 1
  else m.engEvent c 0x09 1

/-- A job moved into the IJ of another cluster, or counted in IJ_FULL with its frame gone (R291). -/
def Mod.rehomeJob (m : Mod) (dest : Nat) (j : Job) : Mod :=
  if (m.cl dest).queueFull 2 then
    let m := m.bump (engCtr dest 8)
    match j.frame with
    | some id => m.deref id
    | none => m
  else m.setCl dest ((m.cl dest).push 2 j)

/-- The timers of a cluster are lost (R291). -/
def Mod.timersLost (m : Mod) (c : Nat) : Mod := (m.setCl c { m.cl c with timers := [] }).engEvent c 0x07 0

/-- Frames queued to a cluster's intake are discarded under PORT_DOWN (R291). -/
def Mod.intakeFlush (m : Mod) (c : Nat) : Mod := m.flushQueued (130 + c) 9 fun _ => true

/-- The cluster goes OFFLINE once it has quiesced (R291). -/
def Mod.offlineDone (m : Mod) (c : Nat) : Mod :=
  let dest := m.get ENG_CLUSTER_CTL_REHOME c
  let a := m.abortRunning c
  let k := a.2.cl c
  let jobs := k.restarts ++ k.tt ++ k.ev ++ k.ij ++ k.db ++ a.1
  let m := a.2.setCl c { k with restarts := [], tt := [], ev := [], ij := [], db := [], quiesce := none, quiesceCommits := 0 }
  let m := jobs.foldl (fun m j => m.rehomeJob dest j) m
  ((m.intakeFlush c).timersLost c).setClusterState c 3

/-- Step 2 of an exchange: at the second commit the jobs still running are aborted and kept for restart (R289). -/
def Mod.exchangeAbort (m : Mod) (c : Nat) : Mod :=
  let a := m.abortRunning c
  let m := a.2.setCl c { a.2.cl c with restarts := (a.2.cl c).restarts ++ a.1 }
  let m := if a.1 = [] then m else m.bump (engCtr c 15) a.1.length
  let m := m.set ENG_XCHG_STATUS_ABORTED c a.1.length
  (m.set ENG_XCHG_STATUS_PHASE c 2).setClusterState c 2

/-- Step 4: the new table governs, and the cluster starts jobs again (R289); after a failed load the old one does (R290). -/
def Mod.exchangeRelease (m : Mod) (c base : Nat) (good : Bool) : Mod :=
  let k := m.cl c
  let m := m.setCl c { k with quiesce := none, quiesceCommits := 0, loaded := none, table := [] }
  let m := (List.range 256).foldl (fun m i => m.wr .ENG_DISPATCH (256 * c + i) (BitVec.ofNat 64 (k.table.getD i 0))) m
  let m := m.set ENG_XCHG_STATUS_PHASE c 0
  let m := if good then ((m.set ENG_XCHG_STATUS_CUR_BASE c base).bump (engCtr c 16)).engEvent c 0x04 0 else m
  m.setClusterState c 0

/-- What a tick commit does to a cluster that quiesces or loads (R289 to R291). -/
def Mod.quiesceCommit (m : Mod) (c : Nat) : Mod :=
  let k := m.cl c
  match k.quiesce with
  | none => m
  | some q =>
    match q, k.loaded with
    | .exchange base, some good => m.exchangeRelease c base good
    | .exchange _, none =>
      let m := m.setCl c { k with quiesceCommits := k.quiesceCommits + 1 }
      if k.quiesceCommits + 1 = 2 then m.exchangeAbort c else m
    | .offline, _ =>
      let m := m.setCl c { k with quiesceCommits := k.quiesceCommits + 1 }
      if 2 ≤ k.quiesceCommits + 1 then m.offlineDone c else m

/-- CLUSTER_OFFLINE (R291): STATE_REQ = 1 quiesces the cluster; REHOME must name another cluster, in RUN. -/
def Mod.clusterOffline (m : Mod) (c : Nat) : Mod :=
  if m.get ENG_CLUSTER_STATUS_STATE c ≠ 0 ∨ (m.cl c).quiesce.isSome then m
  else ((m.setCl c { m.cl c with quiesce := some .offline, quiesceCommits := 0 }).setClusterState c 1).pathCleared (19 + c)

/-- CLUSTER_RUN (R291): an OFFLINE cluster returns to RUN with empty queues and no timers armed. -/
def Mod.clusterRun (m : Mod) (c : Nat) : Mod :=
  if m.get ENG_CLUSTER_STATUS_STATE c ≠ 3 then m
  else (m.setCl c { m.cl c with tt := [], ev := [], ij := [], db := [], restarts := [], markers := [], timers := [], entriesMoved := false }).setClusterState c 0

/-- A write of ENG_CLUSTER_CTL (R291): REHOME must not name the cluster itself and must name one in RUN. -/
def Mod.clusterCtlWrite (m : Mod) (c : Nat) (new : Word) : Mod :=
  let dest := ENG_CLUSTER_CTL_REHOME.of new
  if dest = c ∨ m.get ENG_CLUSTER_STATUS_STATE dest ≠ 0 then m.engEvent c 0x09 3
  else
    let m := m.wr .ENG_CLUSTER_CTL c new
    if ENG_CLUSTER_CTL_STATE_REQ.of new = 1 then m.clusterOffline c else m.clusterRun c

/-- CLUSTER_LOST (R291): the ENG domain fails; running jobs restart in REHOME, and no job leaves the queues. -/
def Mod.clusterLost (m : Mod) (c : Nat) : Mod :=
  if (m.cl c).lost then m
  else
    let dest := m.get ENG_CLUSTER_CTL_REHOME c
    let m := m.setCl c { m.cl c with
      stopped := (List.range 17).map fun e => (e, m.engineCycle c e)
      lost := true
      quiesce := none }
    let a := m.abortRunning c
    let m := a.2.setCl dest { a.2.cl dest with restarts := (a.2.cl dest).restarts ++ a.1 }
    ((m.intakeFlush c).timersLost c).setClusterState c 4

/-! ### A Hedge's reset -/

/-- What a reset of Hedge h takes from a cluster (R292): its running and queued jobs with their frames, and its timers. -/
def Mod.hedgeEngines (m : Mod) (h c : Nat) : Mod :=
  let mine (j : Job) : Bool := j.hedge == h && j.kind != .fence
  let running := (m.clusterThreads c).filter fun e => mine e.2.job
  let k := m.cl c
  let queued := (k.restarts ++ k.tt ++ k.ev ++ k.ij ++ k.db).filter mine
  let m := running.foldl (fun m e => m.freeThread e.1) m
  let rest (l : List Job) : List Job := l.filter fun j => !(mine j)
  let m := m.setCl c { m.cl c with
    restarts := rest k.restarts
    tt := rest k.tt
    ev := rest k.ev
    ij := rest k.ij
    db := rest k.db
    timers := k.timers.filter fun e => e.2.hedge != h }
  let m := (running.map (·.2.job) ++ queued).foldl (fun m j =>
    match j.frame with
    | some id => m.deref id
    | none => m) m
  [0, 1, 2, 3].foldl (fun m q => m.setCl c ((m.cl c).settleMarkers q)) m

end Sys2Proof.Machine
end

