-- ==== Sys2Proof/Machine/Ports.lean ====
section
/-! DEFINITION. Lanes, ports and tiles (R40 to R46, R49, R50, R55 to R60, R65, R112, R160, R161): configuration, negotiation, link state,
PFC, low-power idle, sleep, drains and wakes. -/

namespace Sys2Proof.Machine

/-! ### Lane groups -/

/-- Lanes a port TYPE occupies (R40). -/
def typeLanes (ty : Nat) : Nat := [0, 1, 1, 1, 1, 1, 1, 2, 4, 8].getD ty 0

/-- TYPE of slot p. -/
def Mod.portType (m : Mod) (p : Nat) : Nat := m.get PRT_PORT_CFG_TYPE p

/-- The slots a port of a TYPE at slot p covers. -/
def groupOf (p ty : Nat) : List Nat := (List.range (typeLanes ty)).map (p + ·)

/-- The port that covers a lane. -/
def Mod.portOfLane (m : Mod) (lane : Nat) : Option Nat :=
  ((List.range (lane % 16 + 1)).map (lane / 16 * 16 + ·)).find? fun p => decide (lane < p + typeLanes (m.portType p))

/-- FEC codes a TYPE allows (R40). -/
def fecAllowed (ty fec : Nat) : Bool :=
  match ty with
  | 0 | 1 | 2 => fec == 0
  | 3 => fec == 0 || fec == 1
  | 4 => fec == 0 || fec == 1 || fec == 2
  | _ => fec == 3

/-- A port is retired: one of its lanes is (R66). -/
def Mod.portRetired (m : Mod) (p : Nat) : Bool := (groupOf p (m.portType p)).any fun l => m.flag PRT_LANE_STATUS_RETIRED l

/-- A PRT event of port or lane p (R68). -/
def Mod.prtEvent (m : Mod) (code p q : Nat) (root : Bool := false) : Mod :=
  let h := m.owner p
  m.event { blk := 0x05, code := code, hedge := h, detail := p * 256 + q % 256, rings := if root then [h, 0] else [h] }

/-! ### Leaving the up state -/

/-- The FDB without the entries that satisfy a test, each counted in FLUSHED of its Hedge (R111, R112). -/
def Mod.fdbFlush (m : Mod) (which : Nat → Bool) : Mod :=
  let gone := m.fwd.fdb.filter fun e => which e.2
  let m := m.withFwd { m.fwd with fdb := m.fwd.fdb.filter fun e => !(which e.2) }
  (List.range 16).foldl (fun m h =>
    let k := (gone.filter fun e => fidHedge (feFid e.2) == h).length
    if k = 0 then m else m.bump (fdbCtr h 18) k) m

/-- The entries a port that leaves the up state flushes (R112). -/
def Mod.flushOnDown (m : Mod) (p : Nat) : Mod :=
  if m.flag FDB_PORT_CFG_FLUSH_ON_DOWN p then
    let names (e : Nat) : Bool := !(feStatic e) && !(feUseNh e)
    let own (e : Nat) : Bool := names e && feKind e == 0 && feDest e == p
    let m := m.fdbFlush own
    if m.flag FDB_PORT_CFG_LAG_MEMBER p then
      let n := m.get FDB_PORT_CFG_LAG p
      let alive := (List.range (m.lagSlots n)).any fun k => m.portUp (m.lagMember n k)
      if alive then m else m.fdbFlush fun e => names e && feKind e == 1 && feDest e == n
    else m
  else m

/-- The state a port has when it is not up: retired, its tile off, disabled, sleeping, or down (PRT_PORT_STATUS). A retired port in a
tile that is not ON reads RETIRED: R66 says so "from then on", R57 says TILE_OFF, and neither names the other (DESIGN CHOICE, log 65). -/
def Mod.restState (m : Mod) (p : Nat) : Nat :=
  if m.portType p = 0 then 0
  else if m.portRetired p then 5
  else if m.get PRT_TILE_STATUS_STATE (tileOf p) ≠ 0 then 6
  else match m.get PRT_PORT_CFG_ADMIN p with
    | 0 => 0
    | 2 => 3
    | _ => 1

/-- Link bits of a port's status cleared as it leaves the up state; the loss tells which. -/
def Mod.clearLink (m : Mod) (p : Nat) (signalToo : Bool) : Mod :=
  let m := [PRT_PORT_STATUS_PCS_LOCK, PRT_PORT_STATUS_FEC_LOCK, PRT_PORT_STATUS_AN_DONE, PRT_PORT_STATUS_LT_DONE,
    PRT_PORT_STATUS_LPI_TX, PRT_PORT_STATUS_LPI_RX].foldl (fun m f => m.set f p 0) m
  if signalToo then
    (groupOf p (m.portType p)).foldl (fun m l => (m.set PRT_LANE_STATUS_SIGNAL l 0).set PRT_LANE_STATUS_CDR_LOCK l 0)
      (m.set PRT_PORT_STATUS_SIGNAL p 0)
  else m

/-- A port that has its link: it is up, or transmits while its tile drains (R46, R57). -/
def Mod.linked (m : Mod) (p : Nat) : Bool := m.flag PRT_PORT_STATUS_PCS_LOCK p

/-- A port leaves the up state with a qualifier of R68 and a discard code for its queue (R46, R112, R160). -/
def Mod.leaveUp (m : Mod) (p q code : Nat) : Mod :=
  let m := (m.set PRT_PORT_STATUS_STATE p (m.restState p)).clearLink p (q != 2)
  let m := ((m.sqc PRT_PORT_EVENT_LINK_DOWN p).bump (m.prtCtr p 103)).prtEvent 0x02 p q
  ((m.flushQueued p code fun _ => true).flushOnDown p).xoffUpdate

/-- A port rests: a link it has goes down, and a negotiation or training that was complete counts no more (R43, R46, R57). -/
def Mod.rest (m : Mod) (p code : Nat) : Mod :=
  if m.linked p then m.leaveUp p 4 code
  else ((m.set PRT_PORT_STATUS_STATE p (m.restState p)).set PRT_PORT_STATUS_AN_DONE p 0).set PRT_PORT_STATUS_LT_DONE p 0

/-- LINK_DOWN (R46): a loss of an up condition has lasted 10 µs. -/
def Mod.linkDown (m : Mod) (p : Nat) (why : LinkLoss) : Mod :=
  if m.portUp p || m.linked p then
    match why with
    | .signal => m.leaveUp p 1 9
    | .lock k => (m.unitError 0 ((p + k.val) % 128) true).leaveUp p 2 9
  else m

/-! ### Negotiation, training, link-up -/

/-- A port tries to link: enabled, its tile on, not retired, and no loopback test of its lanes in progress (R65). -/
def Mod.linking (m : Mod) (p : Nat) : Bool := m.get PRT_PORT_STATUS_STATE p == 1 && (lookup m.prt.testing p).isNone

/-- AN_RESTART (R43, R44): a negotiation fails, and the next one starts a second later. -/
def Mod.anRestart (m : Mod) (p : Nat) : Mod :=
  if m.linking p ∧ m.flag PRT_PORT_CFG_AN_EN p ∧ m.flag PRT_PORT_STATUS_AN_DONE p = false then
    let m := m.advanceTo (lookupD m.prt.anRetry p 0)
    (m.set PRT_PORT_STATUS_AN_FAIL p 1).withPrt { m.prt with anRetry := store m.prt.anRetry p (m.now + oneSecond) }
  else m

/-- AN_DONE (R43): a negotiation completes. -/
def Mod.anDone (m : Mod) (p : Nat) : Mod :=
  if m.linking p ∧ m.flag PRT_PORT_CFG_AN_EN p then
    ((m.set PRT_PORT_STATUS_AN_DONE p 1).set PRT_PORT_STATUS_AN_FAIL p 0).withPrt { m.prt with anRetry := remove m.prt.anRetry p }
  else m

/-- TRAINING_FAIL (R45): a lane does not train; negotiation restarts and a link-down is counted, once for the training that all lanes run
together after the negotiation. -/
def Mod.trainingFail (m : Mod) (p lane : Nat) : Mod :=
  if m.linking p ∧ m.flag PRT_PORT_CFG_LT_EN p ∧ (m.flag PRT_PORT_CFG_AN_EN p = true → m.flag PRT_PORT_STATUS_AN_DONE p = true) ∧
      (groupOf p (m.portType p)).contains lane then
    let m := ((m.unitError 0 lane true).set PRT_PORT_STATUS_AN_DONE p 0).set PRT_PORT_STATUS_LT_DONE p 0
    ((m.sqc PRT_PORT_EVENT_LINK_DOWN p).bump (m.prtCtr p 103)).prtEvent 0x02 p 3
  else m

/-- The class and port shapers of a port that comes up start from their RESET_MODE values (R181). -/
def Mod.shapersStart (m : Mod) (p : Nat) : Mod :=
  let m := (List.range 8).foldl (fun m c =>
    let k := 8 * p + c
    m.withSch { m.sch with ctok := store m.sch.ctok k (shReset (m.rd .SHP_CLASS k).toNat m.now), csend := remove m.sch.csend k }) m
  m.withSch { m.sch with ptok := store m.sch.ptok p (shReset (m.rd .SHP_PORT p).toNat m.now) }

/-- LINK_UP (R46): every up condition of port p holds. -/
def Mod.linkUp (m : Mod) (p : Nat) : Mod :=
  if m.linking p = false ∨ (m.flag PRT_PORT_CFG_AN_EN p = true ∧ m.flag PRT_PORT_STATUS_AN_DONE p = false) then m
  else
    let m := (m.set PRT_PORT_STATUS_SIGNAL p 1).set PRT_PORT_STATUS_PCS_LOCK p 1
    let m := m.set PRT_PORT_STATUS_FEC_LOCK p (b01 (m.get PRT_PORT_CFG_FEC p != 0))
    let m := m.set PRT_PORT_STATUS_LT_DONE p (m.get PRT_PORT_CFG_LT_EN p)
    let m := (groupOf p (m.portType p)).foldl (fun m l => (m.set PRT_LANE_STATUS_SIGNAL l 1).set PRT_LANE_STATUS_CDR_LOCK l 1) m
    let m := ((m.set PRT_PORT_STATUS_LINK_FAULT p 0).set PRT_PORT_STATUS_STATE p 2).shapersStart p
    let m := m.withPrt { m.prt with idleSince := store m.prt.idleSince p m.now, anRetry := remove m.prt.anRetry p }
    (m.sqc PRT_PORT_EVENT_LINK_UP p).prtEvent 0x01 p 0

/-! ### PFC -/

/-- The PFC frame of front port p (R49): its octets before the FCS. -/
def Mod.pfcOctets (m : Mod) (p xoff released : Nat) : List Byte :=
  padTo60 (toBytes 6 0x0180C2000001 ++ toBytes 6 (m.get PRT_MAC_ADDR_ADDR p) ++ toBytes 2 0x8808 ++ toBytes 2 0x0101 ++
    toBytes 2 (xoff ||| released) ++
    (List.range 8).flatMap fun c => toBytes 2 (if xoff.testBit c then m.get PRT_FC_CFG_QUANTA p else 0))

/-- Nanoseconds between PFC frames while XOFF persists (R49). -/
def Mod.refreshNs (m : Mod) (p : Nat) : Nat :=
  let q := m.get PRT_FC_CFG_QUANTA p
  let r := m.get PRT_FC_CFG_REFRESH p
  let n := if r = 0 ∨ q ≤ r then Nat.max 1 (q / 2) else r
  ceilDiv (n * 512) (Nat.max 1 (m.rate p))

/-- PFC_SEND (R49, R50): the PFC frame that front port p owes leaves. -/
def Mod.pfcSend (m : Mod) (p : Nat) : Mod :=
  match lookup m.prt.pfcOwed p with
  | none => m
  | some released =>
    if m.transmitterFree p = false ∨
        (m.flag SCH_PORT_CFG_GATE_EN p = true ∧ m.gateOpen p (m.get PRT_FC_CFG_PFC_GATE_CLASS p) = false) then m
    else if m.flag PRT_PORT_STATUS_LPI_TX p then (m.set PRT_PORT_STATUS_LPI_TX p 0).emit (.lpi p false)
    else
      let xoff := m.get PRT_PORT_STATUS_XOFF p
      let o := sealFrame false (m.pfcOctets p xoff released)
      let m := ((m.emit (.frame p o)).countTx p o false).bump (m.prtCtr p 70)
      let m := (List.range 8).foldl (fun m c => if xoff.testBit c then m.bump (m.prtCtr p (71 + c)) else m) m
      m.withPrt { m.prt with
        pfcOwed := remove m.prt.pfcOwed p, ctrlEnds := store m.prt.ctrlEnds p (m.now + wireNs o.length (m.rate p)),
        idleSince := store m.prt.idleSince p m.now,
        refreshAt := if xoff = 0 then remove m.prt.refreshAt p else store m.prt.refreshAt p (m.now + m.refreshNs p) }

/-- PFC_REFRESH (R49): XOFF persists at the end of the refresh interval; front port p owes the frame again. -/
def Mod.pfcRefresh (m : Mod) (p : Nat) : Mod :=
  match lookup m.prt.refreshAt p with
  | some at_ =>
    let m := m.advanceTo at_
    if m.get PRT_PORT_STATUS_XOFF p = 0 then m.withPrt { m.prt with refreshAt := remove m.prt.refreshAt p }
    else m.withPrt { m.prt with refreshAt := remove m.prt.refreshAt p,
                                pfcOwed := store m.prt.pfcOwed p (lookupD m.prt.pfcOwed p 0) }
  | none => m

/-! ### Low-power idle -/

/-- LPI_ENTRY (R55): no frame has been eligible at front port p for IDLE_US. -/
def Mod.lpiEntry (m : Mod) (p : Nat) : Mod :=
  let ty := m.portType p
  if m.portUp p = false ∨ m.flag PRT_PORT_CFG_EEE_EN p = false ∨ ty < 3 ∨ 6 < ty ∨ m.flag PRT_PORT_STATUS_LPI_TX p = true ∨
      (lookup m.buf.tx p).isSome ∨ (lookup m.prt.pfcOwed p).isSome then m
  else
    let m := m.advanceTo (lookupD m.prt.idleSince p 0 + m.get PRT_EEE_CFG_IDLE_US p * 1000)
    if (m.choose p).1.isSome then m
    else
      let m := (m.set PRT_PORT_STATUS_LPI_TX p 1).bump (m.prtCtr p 93)
      (m.withPrt { m.prt with lpiRem := store m.prt.lpiRem p (lookupD m.prt.lpiRem p 0) }).emit (.lpi p true)

/-- RX_LPI_ENTRY (R56): the receiver of front port p sees a low-power indication; no class is paused. -/
def Mod.rxLpiEntry (m : Mod) (p : Nat) : Mod :=
  if m.portUp p ∧ m.flag PRT_PORT_STATUS_LPI_RX p = false then (m.set PRT_PORT_STATUS_LPI_RX p 1).bump (m.prtCtr p 37) else m

/-- RX_LPI_EXIT (R55): the link partner leaves low-power idle. -/
def Mod.rxLpiExit (m : Mod) (p : Nat) : Mod := m.set PRT_PORT_STATUS_LPI_RX p 0

/-! ### Drains -/

/-- DRAIN_DONE or DRAIN_LIMIT of the buffer (R161, R167). -/
def Mod.drainEvent (m : Mod) (code t : Nat) : Mod :=
  (m.sqc BUF_EVENT_DRAIN).event { blk := 0x0A, code := code, detail := t * 256 + t }

/-- The ports of tile t. -/
def tilePorts (t : Nat) : List Nat := (List.range 16).map (16 * t + ·)

/-- A tile takes a state (R57, R68). A tile event names no port: its detail holds lane 16t, and it goes to the Hedge that owns port 16t
beside the root Hedge (DESIGN CHOICE, log 65). -/
def Mod.setTile (m : Mod) (t state : Nat) : Mod :=
  if m.get PRT_TILE_STATUS_STATE t = state then m
  else
    ((m.set PRT_TILE_STATUS_STATE t state).sqc PRT_TILE_EVENT_STATE_CHANGE t).event
      { blk := 0x05, code := 0x08, hedge := m.owner (16 * t), detail := 16 * t * 256 + state, rings := [m.owner (16 * t), 0] }

/-- A port sleeps: it leaves the up state if it was up (R57). -/
def Mod.portSleeps (m : Mod) (p : Nat) : Mod :=
  let m := m.withPrt { m.prt with portDrain := remove m.prt.portDrain p }
  m.rest p 10

/-- A tile stops transmitting and takes its state; its ports read TILE_OFF, and those that were up leave the up state. -/
def Mod.tileStops (m : Mod) (t state : Nat) : Mod :=
  let m := (m.withPrt { m.prt with tileDrain := remove m.prt.tileDrain t }).setTile t state
  (tilePorts t).foldl (fun m p =>
    if m.portType p = 0 then m
    else (m.withPrt { m.prt with portDrain := remove m.prt.portDrain p }).rest p 10) m

/-- The destinations a unit's drain waits for. -/
def unitDests : PortOrTile → List Nat
  | .port p => [p.val]
  | .tile t => tilePorts t.val

/-- The tile a unit lies in. -/
def unitTile : PortOrTile → Nat
  | .port p => tileOf p.val
  | .tile t => t.val

/-- The drain of a unit. -/
def Mod.drainOf (m : Mod) : PortOrTile → Option Drain
  | .port p => lookup m.prt.portDrain p.val
  | .tile t => lookup m.prt.tileDrain t.val

/-- A drain ends with an event of the buffer, and the unit takes its state. -/
def Mod.drainEnds (m : Mod) (u : PortOrTile) (d : Drain) (code : Nat) : Mod :=
  let m := m.drainEvent code (unitTile u)
  match u with
  | .port p => m.portSleeps p.val
  | .tile t => m.tileStops t.val d.target

/-- DRAIN_DONE (R161): the copies queued to a draining unit are gone. -/
def Mod.drainDone (m : Mod) (u : PortOrTile) : Mod :=
  match m.drainOf u with
  | some d => if (unitDests u).all fun p => m.queuedTo p == 0 then m.drainEnds u d 0x03 else m
  | none => m

/-- DRAIN_LIMIT (R161): DRAIN_LIMIT_US has passed, and the remaining copies are discarded. -/
def Mod.drainLimit (m : Mod) (u : PortOrTile) : Mod :=
  match m.drainOf u with
  | some d =>
    let m := m.advanceTo d.limit
    let m := (unitDests u).foldl (fun m p => m.flushQueued p 10 fun _ => true) m
    m.drainEnds u d 0x04
  | none => m

/-- A unit stops under its tile's DOWN_POLICY (R161): a drain begins, or its queues are flushed at once. -/
def Mod.stopUnit (m : Mod) (u : PortOrTile) (target : Nat) : Mod :=
  let t := (unitTile u)
  if m.flag BUF_TILE_CFG_DOWN_POLICY t then
    let m := (unitDests u).foldl (fun m p => m.flushQueued p 10 fun _ => true) m
    m.drainEnds u { limit := 0, target := target } 0x03
  else
    let d : Drain := { limit := m.now + m.get BUF_TILE_CFG_DRAIN_LIMIT_US t * 1000, target := target }
    match u with
    | .port p => m.withPrt { m.prt with portDrain := store m.prt.portDrain p.val d }
    | .tile t =>
      let m := (m.withPrt { m.prt with tileDrain := store m.prt.tileDrain t.val d }).setTile t.val 1
      (tilePorts t.val).foldl (fun m p => if m.portType p = 0 then m else m.set PRT_PORT_STATUS_STATE p (m.restState p)) m

/-! ### Wakes -/

/-- The network time of a wake's first request (R58). -/
def wakeTime (net : Nat) : Word := BitVec.ofNat 64 (timeSec net % 2 ^ 16 * 2 ^ 32 + timeNs net)

/-- A wake request reaches a sleeping port (R58): it begins a wake or joins the one in progress. -/
def Mod.portWakeReq (m : Mod) (p : Nat) (host : Bool) : Mod :=
  match lookup m.prt.portWake p with
  | some w =>
    m.withPrt { m.prt with portWake := store m.prt.portWake p { w with host := w.host || host, remote := w.remote || !host } }
  | none =>
    let m := m.withPrt { m.prt with portWake := store m.prt.portWake p { since := m.now, host := host, remote := !host } }
    let m := m.wr .PRT_WAKE_TIME p (wakeTime m.time.net)
    if m.get PRT_TILE_STATUS_STATE (tileOf p) = 0 then m.set PRT_PORT_STATUS_STATE p 4 else m

/-- A wake request reaches a sleeping tile. -/
def Mod.tileWakeReq (m : Mod) (t : Nat) (host : Bool) : Mod :=
  match lookup m.prt.tileWake t with
  | some w =>
    m.withPrt { m.prt with tileWake := store m.prt.tileWake t { w with host := w.host || host, remote := w.remote || !host } }
  | none =>
    let m := m.withPrt { m.prt with tileWake := store m.prt.tileWake t { since := m.now, host := host, remote := !host } }
    (m.wr .PRT_TILE_WAKE_TIME t (wakeTime m.time.net)).setTile t 4

/-- A host request to a port that is awake is satisfied at once (R59). -/
def Mod.portAwake (m : Mod) (p : Nat) : Mod := (m.sqc PRT_WAKE_STATUS_DONE p).sqc PRT_WAKE_STATUS_HOST_REQ p

/-- A host request to a tile that is awake is satisfied at once (R59). -/
def Mod.tileAwake (m : Mod) (t : Nat) : Mod := (m.sqc PRT_TILE_WAKE_DONE t).sqc PRT_TILE_WAKE_HOST_REQ t

/-- REMOTE_WAKE (R58, R59): signal has been detected on a lane for 10 µs; a wake in progress is joined, whatever began it. -/
def Mod.remoteWake (m : Mod) (lane : Nat) : Mod :=
  let t := lane / 16
  match m.portOfLane lane with
  | none => m
  | some p =>
    let admin := m.get PRT_PORT_CFG_ADMIN p
    let tile := m.get PRT_TILE_STATUS_STATE t
    let wakesTile := (tile == 2 || (tile == 4 && (lookup m.prt.tileWake t).isSome)) && m.flag PRT_TILE_CTL_WAKE_ON_SIGNAL t &&
      admin != 0 && !(m.portRetired p)
    let m' := if wakesTile then m.tileWakeReq t false else m
    let joins := (lookup m.prt.portWake p).isSome
    if joins = true ∨ (admin = 2 ∧ m.portRetired p = false ∧
        (wakesTile = true ∨ (tile = 0 ∧ m.get PRT_PORT_STATUS_STATE p = 3))) then
      m'.portWakeReq p false
    else m'

/-- WAKE_DONE (R58): the wake of a port or tile completes, and every request in it is reported. WAKE_EVENTS is a counter of ports (R61),
and the spec names no port for a tile's wake, which counts none (DESIGN CHOICE, log 65). -/
def Mod.wakeDone (m : Mod) (u : PortOrTile) : Mod :=
  match u with
  | .port p =>
    match lookup m.prt.portWake p.val with
    | none => m
    | some w =>
      if m.get PRT_TILE_STATUS_STATE (tileOf p.val) ≠ 0 then m
      else
        let m := m.withPrt { m.prt with portWake := remove m.prt.portWake p.val }
        let m := m.set PRT_PORT_STATUS_STATE p.val (if m.portRetired p.val then 5 else 1)
        let m := m.sqc PRT_WAKE_STATUS_DONE p.val
        let m := if w.host then m.sqc PRT_WAKE_STATUS_HOST_REQ p.val else m
        let m := if w.remote then m.sqc PRT_WAKE_STATUS_REMOTE_REQ p.val else m
        let m := (m.sqc PRT_PORT_EVENT_WAKE_DONE p.val).bump (m.prtCtr p.val 104)
        m.prtEvent 0x04 p.val (b01 w.host + 2 * b01 w.remote)
  | .tile t =>
    match lookup m.prt.tileWake t.val with
    | none => m
    | some w =>
      if m.boot.domOut.contains (1 + t.val) then m else
      let m := (m.withPrt { m.prt with tileWake := remove m.prt.tileWake t.val }).setTile t.val 0
      let m := (tilePorts t.val).foldl (fun m p =>
        if m.portType p = 0 then m
        else m.set PRT_PORT_STATUS_STATE p (if (lookup m.prt.portWake p).isSome then 4 else m.restState p)) m
      let m := m.sqc PRT_TILE_WAKE_DONE t.val
      let m := if w.host then m.sqc PRT_TILE_WAKE_HOST_REQ t.val else m
      let m := if w.remote then m.sqc PRT_TILE_WAKE_REMOTE_REQ t.val else m
      (m.sqc PRT_TILE_EVENT_WAKE_DONE t.val).prtEvent 0x04 (16 * t.val) (b01 w.host + 2 * b01 w.remote + 4) true

/-! ### Writes to PRT_PORT_CFG and PRT_TILE_CTL -/

/-- A refused configuration write (R42, R56, R67, R530). -/
def Mod.cfgRefused (m : Mod) (p q : Nat) : Mod := (m.sqc PRT_PORT_EVENT_CFG_REFUSED p).prtEvent 0x03 p q

/-- A gate list or launch queue of port p is enabled, or an accepted write has staged that it will be (R56). -/
def Mod.scheduled (m : Mod) (p : Nat) : Bool :=
  let on (w : Word) : Bool := SCH_PORT_CFG_GATE_EN.of w == 1 || SCH_PORT_CFG_LAUNCH_EN.of w == 1
  on (m.rd .SCH_PORT_CFG p) || on (m.rdStaged .SCH_PORT_CFG p)

/-- Why a write of new over old to PRT_PORT_CFG of slot p is refused: the qualifier of R68, 0 when it is accepted. Where several of the
conditions fail, the spec names no order of the qualifiers: the first of 7, 1, 2, 3, 4, 6, 5 (DESIGN CHOICE, log 65). -/
def Mod.cfgCheck (m : Mod) (vf : Bool) (p : Nat) (old new : Word) : Nat :=
  let ty := PRT_PORT_CFG_TYPE.of new
  let oldTy := PRT_PORT_CFG_TYPE.of old
  let shape (w : Word) : List Nat := [PRT_PORT_CFG_TYPE, PRT_PORT_CFG_FEC, PRT_PORT_CFG_AN_EN, PRT_PORT_CFG_LT_EN,
    PRT_PORT_CFG_LOOPBACK].map (·.of w)
  let slots := p :: groupOf p oldTy ++ groupOf p ty
  let group := groupOf p ty
  let eee := PRT_PORT_CFG_EEE_EN.of new == 1 && m.scheduled p
  if vf ∧ ty ≠ oldTy then 7
  else if shape old = shape new then (if eee then 5 else 0)
  else if slots.any fun s => m.get PRT_PORT_CFG_ADMIN s != 0 then 1
  else if ty ≠ 0 ∧ p % 16 % typeLanes ty ≠ 0 then 2
  else if (group.any fun s => s != p && m.portType s != 0) || (ty != 0 && (m.portOfLane p).any fun q => q != p) then 3
  else if fecAllowed ty (PRT_PORT_CFG_FEC.of new) = false then 4
  else if group.any fun s => m.flag PRT_LANE_STATUS_RETIRED s then 6
  else if eee then 5
  else 0

/-- A request to sleep made during a wake is refused (R60). -/
def Mod.sleepRefused (m : Mod) (p : Nat) : Mod := (m.sqc PRT_WAKE_STATUS_SLEEP_REFUSED p).prtEvent 0x09 p 1

/-- ADMIN of port p is written (R57 to R59, R68): from its old value to a new one. -/
def Mod.adminWritten (m : Mod) (p old new : Nat) : Mod :=
  if m.portType p = 0 then m
  else match new with
    | 0 =>
      let m := m.withPrt { m.prt with portWake := remove m.prt.portWake p, portDrain := remove m.prt.portDrain p,
                                      anRetry := remove m.prt.anRetry p }
      m.rest p 9
    | 2 =>
      if (lookup m.prt.portDrain p).isSome then m
      else if m.linked p then m.stopUnit (.port (Fin.ofNat 128 p)) 3
      else m.rest p 10
    | _ =>
      let st := m.get PRT_PORT_STATUS_STATE p
      if old = 0 then m.set PRT_PORT_STATUS_STATE p (m.restState p)
      else if st = 3 ∨ st = 4 ∨ (st = 6 ∧ old = 2) then m.portWakeReq p true
      else (m.withPrt { m.prt with portDrain := remove m.prt.portDrain p }).portAwake p

/-- A write to PRT_PORT_CFG of slot p whose value is to be new (R42, R56 to R60, R67, R222). -/
def Mod.portCfgWrite (m : Mod) (vf : Bool) (p : Nat) (new : Word) : Mod :=
  let old := m.rd .PRT_PORT_CFG p
  let q := m.cfgCheck vf p old new
  if q ≠ 0 then m.cfgRefused p q
  else
    let a := PRT_PORT_CFG_ADMIN.of old
    let b := PRT_PORT_CFG_ADMIN.of new
    let waking := (lookup m.prt.portWake p).isSome && b == 2
    let new := if waking then PRT_PORT_CFG_ADMIN.put new a else new
    let m := m.wr .PRT_PORT_CFG p new
    let m := if PRT_PORT_CFG_TYPE.of old ≠ PRT_PORT_CFG_TYPE.of new ∨ PRT_PORT_CFG_FEC.of old ≠ PRT_PORT_CFG_FEC.of new then
        let v := m.fresh
        (v.2.wr .TIM_PORT_FACT p v.1).set PRT_PORT_STATUS_STATE p (v.2.restState p)
      else m
    if waking then m.sleepRefused p else m.adminWritten p a b

/-- A write to PRT_TILE_CTL of tile t whose value is to be new (R57 to R60). -/
def Mod.tileCtlWrite (m : Mod) (t : Nat) (new : Word) : Mod :=
  let old := m.rd .PRT_TILE_CTL t
  let req := PRT_TILE_CTL_STATE_REQ.of new
  let st := m.get PRT_TILE_STATUS_STATE t
  if st = 4 ∧ req ≠ 0 then
    let m := m.wr .PRT_TILE_CTL t (PRT_TILE_CTL_STATE_REQ.put new (PRT_TILE_CTL_STATE_REQ.of old))
    ((m.sqc PRT_TILE_WAKE_SLEEP_REFUSED t).sqc PRT_TILE_EVENT_REQ_REFUSED t).prtEvent 0x09 (16 * t) 2 true
  else
    let m := m.wr .PRT_TILE_CTL t new
    match req with
    | 0 =>
      if st = 2 ∨ st = 3 ∨ st = 4 then m.tileWakeReq t true
      else if st = 1 then
        let m := (m.withPrt { m.prt with tileDrain := remove m.prt.tileDrain t }).setTile t 0
        let m := (tilePorts t).foldl (fun m p => if m.portType p = 0 then m
          else m.set PRT_PORT_STATUS_STATE p (if m.linked p then 2 else m.restState p)) m
        m.tileAwake t
      else m.tileAwake t
    | _ =>
      let target := req + 1
      if st = 0 then m.stopUnit (.tile (Fin.ofNat 8 t)) target
      else if st = 1 then
        match lookup m.prt.tileDrain t with
        | some d => m.withPrt { m.prt with tileDrain := store m.prt.tileDrain t { d with target := target } }
        | none => m
      else m.setTile t target

/-! ### FEC -/

/-- The FEC codewords a port's line tells of (R61): counted at a port that is up with FEC; an uncorrectable one is a minor error of its lane
(R441). -/
def Mod.fecSeen (m : Mod) (p : Nat) (line : LineErrs) : Mod :=
  if m.portUp p = false ∨ m.get PRT_PORT_CFG_FEC p = 0 then m
  else
    let bad := (line.uncorrectable.map (·.val)).filter fun l => m.portOfLane l == some p
    let m := if line.corrected = 0 then m else m.bump (m.prtCtr p 35) line.corrected
    bad.foldl (fun m l => (m.bump (m.prtCtr p 36)).unitError 0 l false) m

end Sys2Proof.Machine
end

