-- ==== Sys2Proof/Machine/Integrity.lean ====
section
/-! DEFINITION. Scrubbing, repair, grafts and ageing (Integrity, Scrubbing, Repair and Ageing). -/

namespace Sys2Proof.Machine

/-! ### NVM devices: erase journal and wear (R417, R428) -/

/-- An NVM device does not answer (R431). -/
def Mod.nvmLost (m : Mod) (device : Nat) : Bool := m.int.nvmLost.contains device

/-- An NVM device answers: NVM-A 0, NVM-B 1; neither does while the NVM domain is out (R16). -/
def Mod.deviceOk (m : Mod) (d : Nat) : Bool := !(m.nvmLost d) && !(m.boot.domOut.contains 20)

/-- Erases of sectors first … first + n − 1 of a device are counted (NVM_WEAR). -/
def Mod.worn (m : Mod) (d first n : Nat) : Mod :=
  let es := (List.range n).foldl (fun l k => let key := 2 ^ 20 * d + first + k
                                            store l key (lookupD l key 0 + 1)) m.nvm.erases
  let top := (List.range n).foldl (fun a k => Nat.max a (lookupD es (2 ^ 20 * d + first + k) 0)) (m.get NVM_WEAR_MAX d)
  ((m.withNvm { m.nvm with erases := es }).satAdd NVM_WEAR_TOTAL d n).set NVM_WEAR_MAX d top

/-- A device's journal as it stands: records in its current sector, and its highest SEQ. -/
def Mod.journalAt (m : Mod) (d used seq : Nat) : Mod :=
  let m := m.withNvm (if d = 0 then { m.nvm with journalA := used, seqA := seq } else { m.nvm with journalB := used, seqB := seq })
  m.set NVM_JOURNAL_SEQ 0 (Nat.max m.nvm.seqA m.nvm.seqB)

/-- A journal record written in a device (R428): SEQ rises with each; a sector that holds 126 journals the erase of the other one in its last two
places, and a HEAD record begins that one. -/
def Mod.journalled (m : Mod) (d : Nat) : Mod :=
  let used := (if d = 0 then m.nvm.journalA else m.nvm.journalB) + 1
  let seq := (if d = 0 then m.nvm.seqA else m.nvm.seqB) + 1
  if used < 126 then m.journalAt d used seq
  else
    let sect := if d = 0 then NVM_JOURNAL_A_SECT else NVM_JOURNAL_B_SECT
    let other := 1 - m.get sect
    ((m.worn d (2 + other) 1).journalAt d 1 (seq + 3)).set sect 0 other

/-- A range of a device is erased under the journal (R428): an INTENT and a DONE record; it is no longer half-erased. -/
def Mod.erased (m : Mod) (d purpose first n : Nat) : Mod :=
  let m := ((m.worn d first n).journalled d).journalled d
  m.withNvm { m.nvm with half := remove m.nvm.half (16 * d + purpose) }

/-! ### The field graft record -/

/-- An entry still counts when the entries after it are known (R453): a lane's latest retirement or return, the latest LIFE entry of a budget, the
latest 24 MARGIN entries of an index, and every graft and bad spare. -/
def RecEntry.stands (e : RecEntry) (newer : List RecEntry) : Bool :=
  let same := newer.filter fun x => x.kind == e.kind && x.cls == e.cls
  match e.kind with
  | 1 | 6 => true
  | 2 | 3 => e.cls != 0 || !(newer.any fun x => (x.kind == 2 || x.kind == 3) && x.cls == 0 && x.loc == e.loc)
  | 4 => same.isEmpty
  | 5 => decide (same.length < 24)
  | _ => false

/-- The entries that a compacted record keeps, oldest first (R453). -/
def recordKept : List RecEntry → List RecEntry
  | [] => []
  | e :: newer => if e.stands newer then e :: recordKept newer else recordKept newer

/-- The field graft record in use (R453): the copy with the higher SEQ, or at equal SEQ the one with more entries, of devices that answer. -/
def Mod.recordInUse (m : Mod) : List RecEntry :=
  let a := m.int.recA
  let b := m.int.recB
  if m.deviceOk 0 && (!(m.deviceOk 1) || decide (m.int.seqB < m.int.seqA) || (m.int.seqA == m.int.seqB && decide (b.length ≤ a.length)))
  then a else b

/-- The record compacted with SEQ one above (R453): written in NVM-B and then in NVM-A, each erased under the journal. -/
def Mod.recordCompact (m : Mod) : Mod :=
  let l := recordKept m.recordInUse
  let seq := Nat.max m.int.seqA m.int.seqB + 1
  let write (m : Mod) (d : Nat) : Mod :=
    if m.deviceOk d = false then m
    else
      let m := m.erased d 11 0x10 16
      m.withInt (if d = 0 then { m.int with recA := l, seqA := seq } else { m.int with recB := l, seqB := seq })
  write (write m 1) 0

/-- An entry appended to the record, in NVM-A and then in NVM-B (R453). The supervisor compacts a record that leaves fewer than 64 of its 4,094
places blank. -/
def Mod.recordAppend (m : Mod) (kind cls spare loc : Nat) : Mod :=
  let e : RecEntry := { kind := kind, cls := cls, spare := spare, loc := loc, tick := m.tickNum % 2 ^ 32 }
  let put (l : List RecEntry) : List RecEntry := if l.length < 4094 then l ++ [e] else l
  let m := if m.deviceOk 0 then m.withInt { m.int with recA := put m.int.recA } else m
  let m := if m.deviceOk 1 then m.withInt { m.int with recB := put m.int.recB } else m
  if 4030 < m.recordInUse.length ∧ m.flag GLB_STATUS_HEADLESS = false then m.recordCompact else m

/-! ### Spares -/

/-- The key of a spare: its class, its group (cluster or table) and its number. -/
def spareKey (cls group k : Nat) : Nat := 2 ^ 20 * cls + 16 * group + k

/-- The group a unit's spares belong to (R444): its cluster, or its table. -/
def spareGroup (cls loc : Nat) : Nat :=
  match cls with
  | 2 => loc / 64 % 4
  | 4 => loc / 256 % 256
  | 5 => loc / 256 % 4
  | _ => 0

/-- Spares of a group (R444). -/
def spareCount (cls : Nat) : Nat :=
  match cls with
  | 1 => 4
  | 2 => 1
  | 3 => 2
  | 4 => 4
  | 5 => 4
  | _ => 0

/-- A spare is unused and good. -/
def Mod.spareGood (m : Mod) (cls group k : Nat) : Bool :=
  (lookup m.int.used (spareKey cls group k)).isNone && !(m.int.bad.contains (spareKey cls group k))

/-- The first good spare of a unit. -/
def Mod.spareFor (m : Mod) (cls loc : Nat) : Option Nat :=
  (List.range (spareCount cls)).find? fun k => m.spareGood cls (spareGroup cls loc) k

/-- A unit exists. -/
def unitValid (cls loc : Nat) : Bool :=
  match cls with
  | 0 => decide (loc < 128)
  | 1 => decide (loc < 52)
  | 2 => decide (loc < 256) && decide (loc % 64 < 17)
  | 3 => decide (loc < 26)
  | 4 => decide (loc < 65536) && decide (loc % 256 < 68)
  | 5 => decide (loc < 1024) && decide (loc % 256 < 132)
  | 6 => decide (loc < 2 ^ 26)
  | _ => false

/-- The bytes of GRF_MAP_BANK or GRF_MAP_CLS brought up to the spares. -/
def Mod.mapUpdate (m : Mod) (cls : Nat) (r : Reg) : Mod :=
  let byte (k : Nat) : Nat :=
    let key := spareKey cls 0 k
    b01 (lookup m.int.used key).isSome * 128 + b01 (m.int.bad.contains key) * 64 + lookupD m.int.used key 0 % 64
  m.wr r 0 (BitVec.ofNat 64 ((List.range (spareCount cls)).foldl (fun a k => a + byte k * 256 ^ k) 0))

/-- GRF_MAP_BANK, GRF_MAP_CLS and GRF_SPARES brought up to the spares. -/
def Mod.sparesShown (m : Mod) : Mod :=
  let m := (m.mapUpdate 1 .GRF_MAP_BANK).mapUpdate 3 .GRF_MAP_CLS
  let good (cls group : Nat) : Nat := ((List.range (spareCount cls)).filter fun k => m.spareGood cls group k).length
  let least (cls : Nat) (groups : List Nat) : Nat := groups.foldl (fun a g => Nat.min a (good cls g)) 4
  let tables := [0x30, 0x40, 0x41, 0x42, 0x43, 0x44, 0x45, 0x46, 0x47, 0x48, 0x49, 0x4A, 0x4B, 0x4C, 0x50, 0x60, 0x80].map
    fun t => t % 16 * 16 + t / 16
  let engines := (List.range 4).foldl (fun a c => a + good 2 c * 2 ^ c) 0
  (((((m.set GRF_SPARES_BANKS 0 (good 1 0)).set GRF_SPARES_CLS 0 (good 3 0)).set GRF_SPARES_ENGINES 0 engines).set
    GRF_SPARES_LKP_MIN 0 (least 4 tables)).set GRF_SPARES_CS_MIN 0 (least 5 [0, 1, 2, 3])).set
      BUF_CAPACITY_SPARES_LEFT 0 (good 1 0)

/-- A spare that failed its self-test or a check (R444, R451). -/
def Mod.spareFailed (m : Mod) (cls group k : Nat) : Mod :=
  let key := spareKey cls group k
  if m.int.bad.contains key then m
  else
    let m := m.withInt { m.int with bad := insertNat m.int.bad key }
    (((m.sparesShown).bump (grfCtr 32)).grfEvent 0x06 (spareKey 0 group k) k cls).recordAppend 6 cls k (spareKey 0 group k)

/-! ### Retirement without a graft -/

/-- A lane retires (R65, R66): the port that covers it reads RETIRED and its queues are flushed. The event names the lane and goes to the
Hedge that owns the port (R68). A retirement without a graft is counted (R446). A link it takes down has qualifier 4, for which the spec names none (DESIGN CHOICE, log 65). -/
def Mod.laneRetires (m : Mod) (lane : Nat) : Mod :=
  let p := (m.portOfLane lane).getD lane
  let m := ((m.set PRT_LANE_STATUS_RETIRED lane 1).sqc PRT_PORT_EVENT_RETIRED p).recordAppend 2 0 0xFF lane
  let m := (m.bump (grfCtr 24)).grfEvent 0x05 lane lane 0
  let m := if m.linked p then m.leaveUp p 4 9 else m
  ((if (m.portOfLane lane).isSome then m.set PRT_PORT_STATUS_STATE p 5 else m).flushQueued p 9 fun _ => true).event
    { blk := 0x05, code := 0x07, hedge := m.owner p, detail := lane * 256, rings := [m.owner p, 0] }

/-- RES is lowered, of the highest-numbered Hedge first, until the reservations fit the working threads (R252). -/
def Mod.lowerReserves (m : Mod) (c : Nat) : Mod :=
  (List.range 16).foldr (fun h m =>
    let sum := (List.range 16).foldl (fun a g => a + m.get ENG_HEDGE_THR_RES (16 * c + g)) 0
    let excess := sum - m.workingThreads c
    let res := m.get ENG_HEDGE_THR_RES (16 * c + h)
    if excess = 0 ∨ res = 0 then m
    else (m.set ENG_HEDGE_THR_RES (16 * c + h) (res - Nat.min excess res)).engEvent c 0x06 8) m

/-- Jobs of a logical engine restart on other engines (R285, R446). -/
def Mod.engineRestarts (m : Mod) (c e : Nat) (which : Nat → Bool) : Mod :=
  let ts := m.eng.threads.filter fun x => x.1 / 48 == 16 * c + e && which x.1
  let m := ts.foldl (fun m x => m.freeThread x.1) m
  m.setCl c { m.cl c with restarts := (m.cl c).restarts ++ ts.map fun x => x.2.job.again }

/-- An engine is retired: its counters stop (R296, R448). -/
def Mod.engineRetires (m : Mod) (c phys : Nat) : Mod :=
  let m := m.setCl c { m.cl c with stopped := store (m.cl c).stopped phys (m.engineCycle c phys) }
  m.set ENG_CLUSTER_STATUS_RETIRED c (m.get ENG_CLUSTER_STATUS_RETIRED c ||| 2 ^ phys)

/-- The unit has no good spare left (R446). -/
def Mod.noSpare (m : Mod) (cls loc : Nat) : Mod :=
  let retired (m : Mod) : Mod := ((m.bump (grfCtr (24 + cls))).grfEvent 0x05 loc loc cls).recordAppend 2 cls 0xFF loc
  match cls with
  | 1 =>
    retired (m.capacityLoss loc)
  | 2 =>
    let c := loc / 64
    let m := match m.logicalOf c (loc % 64) with
      | some e => (m.engineRetires c (loc % 64)).engineRestarts c e fun _ => true
      | none => m.engineRetires c (loc % 64)
    retired (m.lowerReserves c)
  | _ =>
    let key := bucketKey cls loc
    if m.int.exhausted.contains key then m
    else (m.withInt { m.int with exhausted := insertNat m.int.exhausted key }).grfEvent 0x07 loc loc cls

/-! ### Grafts -/

/-- The cluster a graft waits for (R451). -/
def Mod.graftWaits (m : Mod) (cls loc : Nat) : Bool :=
  cls == 2 && (m.get ENG_CLUSTER_STATUS_STATE (loc / 64) != 0 || (m.cl (loc / 64)).quiesce.isSome)

/-- GRAFT_START (R445, R446): the supervisor takes the oldest unit that waits; one without a spare is dealt with at once. -/
def Mod.graftStart (m : Mod) : Mod :=
  if m.int.graft.isSome || m.flag GLB_STATUS_HEADLESS then m
  else
    match m.int.queue with
    | [] => m
    | (cls, loc) :: rest =>
      if m.graftWaits cls loc then m
      else
        let m := m.withInt { m.int with queue := rest }
        if cls = 6 then
          ((m.withInt { m.int with graft := some { cls := 6, loc := loc, spare := 0xFF } }).grfEvent 0x02 loc loc 6).graftStatus
        else
          match m.spareFor cls loc with
          | none => (m.noSpare cls loc).graftStatus
          | some k =>
            ((m.withInt { m.int with graft := some { cls := cls, loc := loc, spare := k } }).grfEvent 0x02 loc loc cls).graftStatus

/-- The spare takes the unit's place (R447 to R450). -/
def Mod.spareServes (m : Mod) (g : Graft) : Mod :=
  let m := m.withInt { m.int with
    used := store m.int.used (spareKey g.cls (spareGroup g.cls g.loc) g.spare) g.loc
    graft := none }
  let m := (m.setBucket g.cls g.loc 0).sparesShown
  if g.cls = 2 then
    let c := g.loc / 64
    let phys := g.loc % 64
    let e := (m.logicalOf c phys).getD 31
    (m.engineRetires c phys).set ENG_CLUSTER_STATUS_SPARE_FOR c e
  else m

/-- A graft ends: counted, recorded and shown. -/
def Mod.graftEnds (m : Mod) (g : Graft) : Mod :=
  (((m.spareServes g).bump (grfCtr (8 + g.cls))).recordAppend 1 g.cls g.spare g.loc).graftStatus

/-- GRAFT_DONE (R447): every piece has moved. A retired SDRAM row's repair is complete (R327). -/
def Mod.graftDone (m : Mod) : Mod :=
  match m.int.graft with
  | none => m
  | some g =>
    if m.flag GLB_STATUS_HEADLESS then m
    else if g.cls = 6 then m
    else (m.graftEnds g).grfEvent 0x03 g.loc g.spare g.cls

/-- ROW_RETIRE (R327, R445): the SDRAM row the supervisor has taken from the queue. -/
def Mod.rowRetired (m : Mod) (repaired : Bool) : Mod :=
  match m.int.graft with
  | some g =>
    if g.cls ≠ 6 then m
    else
      let m := (m.withInt { m.int with graft := none }).rowRetire g.loc repaired
      let m := (m.setBucket 6 g.loc 0).recordAppend (if repaired then 1 else 2) 6 0xFF g.loc
      (if repaired then (m.bump (grfCtr 14)).grfEvent 0x03 g.loc g.loc 6 else (m.bump (grfCtr 30)).grfEvent 0x05 g.loc g.loc 6).graftStatus
  | none => m

/-! ### Data lost -/

/-- The table code of R461 for a finding in memories 3 to 9. -/
def findCode (x : ScrubFind) : Nat :=
  match x.mem.val with
  | 3 => 13
  | 4 => x.part % 16
  | 5 => if x.index < 4194304 then 14 else 15
  | 6 => 16
  | 7 => 17
  | 8 => 18
  | _ => x.part

/-- An entry of a table of R461 made invalid (R437). -/
def Mod.entryInvalid (m : Mod) (code i : Nat) : Mod :=
  match code with
  | 13 => m.withFwd { m.fwd with fdb := remove m.fwd.fdb i }
  | 14 | 15 => m.withFwd { m.fwd with trie := remove m.fwd.trie i }
  | 16 => m.withFwd { m.fwd with assoc := remove m.fwd.assoc i }
  | 17 => m.withCls { m.cls with rules := remove m.cls.rules i }
  | 18 => if i < 64 then m.withCls { m.cls with nodes := remove m.cls.nodes i }
      else m.withCls { m.cls with trans := remove m.cls.trans (i - 64) }
  | 19 => m.withSch { m.sch with policers := remove m.sch.policers i }
  | 20 => m.withSch { m.sch with shapers := remove m.sch.shapers i }
  | 21 => m.withSch { m.sch with gateEntries := remove m.sch.gateEntries i }
  | 22 => m.withBuf { m.buf with templates := remove m.buf.templates i }
  | _ => m.setTbl code i 0

/-- The Hedge an entry belongs to (R333, R438): the root for one that no Hedge owns. -/
def Mod.entryHedge (m : Mod) (code i : Nat) : Nat :=
  match code with
  | 0 => i / 4096 % 16
  | 13 => fidHedge (feFid (lookupD m.fwd.fdb i 0))
  | 14 => (((List.range 32).find? fun k => m.flag LPM_ROOT_VALID k && m.get LPM_ROOT_ROOT k == i / 65536).getD 0) / 2
  | 16 => bits ((lookupD m.fwd.assoc i (0, 0, 0)).1.toNat) 62 59
  | 17 => m.get CLS_SLICE_CFG_OWNER (i / 2048)
  | 19 => peOwner (lookupD m.sch.policers i 0)
  | 21 => m.owner (i / 2048)
  | _ => 0

/-- An entry invalidated that the supervisor is to restore (R437, R438). -/
def Mod.entryLost (m : Mod) (code i : Nat) : Mod :=
  if m.int.invalid.contains (code, i) then m.entryInvalid code i
  else
    let h := m.entryHedge code i
    let m := m.entryInvalid code i
    m.withInt { m.int with invalid := m.int.invalid ++ [(code, i)], invalidHedge := storeUnless 0 m.int.invalidHedge (2 ^ 32 * code + i) h }

/-- A statistics counter set to its last harvested value, or to zero when no channel runs (R437). -/
def Mod.counterLost (m : Mod) (i : Nat) : Mod :=
  let last := if (m.channelsOf 0x241000000).isEmpty then 0 else beNat (memRead m.drm.mem (0x241000000 + 8 * i) 8)
  ((m.setCtr (8 * i) last).bump (intCtr 66)).intEvent 0x04 (8 * i) 0 0

/-- Both copies of a link or reference count are lost (R439): the list is cut there, its tail discarded, and the buffer audited. -/
def Mod.bufferAudit (m : Mod) (k place : Nat) : Mod :=
  let q := m.voq k
  let m := (q.drop place).foldl (fun m c => m.dropCopy (k / 8 % 134) c 13 3) (m.setVoq k (q.take place))
  (m.bump (intCtr 64)).intEvent 0x03 k 0 0

/-- A granule of a Clippings ring rewritten as zero, with BAD in FLAGS (word 3 bit 4) of the record that holds it (R239, R437). -/
def Mod.recordBad (m : Mod) (addr : Nat) : Mod :=
  let g := addr / 64 * 64
  let m := m.drmPost .hardware 0 g (List.replicate 64 0)
  let flags := addr / 256 * 256 + 31
  m.drmPost .hardware 0 flags [memByte m.drm.mem flags ||| 0x10]

/-- The tile reloads its SerDes firmware with its links down (R437). -/
def Mod.firmwareReload (m : Mod) (t : Nat) : Mod :=
  (tilePorts t).foldl (fun m p => if m.linked p then m.leaveUp p 4 9 else m) m

/-- What the scrubber does with data it finds lost (R437); the caller handles the supervisor's own memory. A granule of a mirrored region is
rewritten from the other copy while a second channel holds one. -/
def Mod.dataLost (m : Mod) (x : ScrubFind) : Mod :=
  match x.mem.val with
  | 0 => match m.frame x.index with
    | some f => m.setFrame x.index { f with poison := true }
    | none => m
  | 3 => match lookup m.fwd.fdb x.index with
    | some e => if feStatic e && x.place == 0 then m.entryLost 13 x.index else m.entryInvalid 13 x.index
    | none => m
  | 4 | 5 | 6 | 7 | 8 | 9 => m.entryLost (findCode x) x.index
  | 10 => m.setCl x.part { m.cl x.part with reloading := insertNat (m.cl x.part).reloading (x.index / 256) }
  | 11 => m.setCl x.part { m.cl x.part with poisoned := insertNat (m.cl x.part).poisoned x.index }
  | 14 => m.counterLost x.index
  | 15 => m.firmwareReload x.part
  | 16 => match regionOf x.index with
    | some .clippings => m.recordBad x.index
    | _ =>
      if !(interleaved x.index) && (m.servingOf x.index).length == 2 then m
      else m.withInt { m.int with badGranules := insertNat m.int.badGranules (x.index / 64) }
  | _ => m

/-- Rows in 1/64 of a table of memories 3 to 8 (R441). -/
def rowsPerGroup (mem code : Nat) : Nat :=
  match mem with
  | 3 => 4160
  | 4 => [1024, 64, 1024, 64, 4096, 2, 128, 1, 1024, 256, 16, 16, 16].getD code 1
  | 5 => 172032
  | 6 => 512
  | _ => 5

/-- The unit whose bucket an error of a memory fills (R441, R452), for memories that lie in repairable units. -/
def Mod.unitOf (m : Mod) (x : ScrubFind) : Option (Nat × Nat) :=
  match x.mem.val with
  | 0 | 1 => some (1, x.part % 52)
  | 3 | 4 | 5 | 6 | 8 =>
    let code := if x.mem.val = 4 then x.part % 16 else 0
    some (4, code * 2 ^ 12 + x.mem.val * 2 ^ 8 + x.index / rowsPerGroup x.mem.val code % 64)
  | 7 => some (3, x.index / 2048 % 26)
  | 10 => some (5, x.part % 4 * 2 ^ 8 + x.index / 256 % 128)
  | 16 => some (6, m.rowLocation (x.part % 2) x.index 0)
  | _ => none

/-- The unit's bucket takes an error. -/
def Mod.findError (m : Mod) (x : ScrubFind) (major : Bool) : Mod :=
  match m.unitOf x with
  | some (cls, loc) => m.unitError cls loc major
  | none => m

/-- An uncorrectable error that the scrubber finds (R437): counted, logged and raised, and an error of its unit; one of a classifier entry that
its other copy mends is a minor one (R441). -/
def Mod.scrubUnc (m : Mod) (x : ScrubFind) (major : Bool) : Mod :=
  ((m.memLost x.mem.val x.index true).findError x major).intEvent 0x01 x.index x.part x.mem.val

/-- One finding of the scrubber (R435, R437); it does not read a unit that a graft is copying (R436). -/
def Mod.scrubFound (m : Mod) (x : ScrubFind) : Mod :=
  if (m.int.graft.map fun g => (g.cls, g.loc)) == m.unitOf x && (m.unitOf x).isSome then m
  else match x.kind with
  | .corrected => (m.bump (intCtr x.mem.val)).findError x false
  | .rewritten => m.scrubUnc x (x.mem.val != 7)
  | .shadow => m.scrubUnc x false
  | .oneCopy => m.scrubUnc x true
  | .bothCopies => (m.scrubUnc x true).bufferAudit x.index x.place
  | .lost => (m.scrubUnc x true).dataLost x

/-- Slices of a full pass (R434): 0 for the memories the scrubber does not read. -/
def passSlices (mem kib : Nat) : Nat :=
  match mem with
  | 0 => 3328
  | 1 => 832
  | 2 => 512
  | 3 => 4160
  | 4 => 1933
  | 5 => 5376
  | 6 => 512
  | 7 => 1664
  | 8 => 20
  | 9 => 1365
  | 10 => 516
  | 11 => 2048
  | 13 => 1024
  | 14 => 1024
  | 15 => 512
  | 16 => ceilDiv 33554432 (Nat.max 1 kib)
  | _ => 0

/-- The scrubber's slice of one memory (R434): the pass goes on, and its end is counted with its duration. -/
def Mod.scrubMemory (m : Mod) (mem : Nat) : Mod :=
  let all := passSlices mem (m.get INT_SCRUB_CFG_SDRAM_SLICE_KIB)
  if all = 0 ∨ (m.get INT_SCRUB_CFG_EN).testBit mem = false then m
  else
    let done := lookupD m.int.slices mem 0
    let m := if done = 0 then m.withInt { m.int with passStart := store m.int.passStart mem m.now } else m
    if done + 1 < all then m.withInt { m.int with slices := store m.int.slices mem (done + 1) }
    else
      let ms := (m.now - lookupD m.int.passStart mem m.now) / 1000000
      let m := m.withInt { m.int with slices := store m.int.slices mem 0 }
      (m.satAdd INT_SCRUB_PASS_PASSES mem).set INT_SCRUB_PASS_LAST_MS mem (Nat.min ms (2 ^ 32 - 1))

/-- Memories that the scrubber reads. -/
def scrubbed : List Nat := [0, 1, 2, 3, 4, 5, 6, 7, 8, 9, 10, 11, 13, 14, 15, 16]

/-- The scrubber runs: it is not shed (R35) and has not run in this tick (R33). -/
def Mod.scrubs (m : Mod) : Bool := m.get GLB_TICK_CFG_SHED_LEVEL == 0 && !(m.int.scrubAt == some m.commits)

/-- SCRUB_SLICE (R434 to R437): a slice of every enabled memory, one in a tick (R33), with what it finds in them; shed at level 1 (R35). One that
the tick's ending boundary cuts short overruns: it stops at an item, and the next tick's slice goes on from there (R34). -/
def Mod.scrubSlice (m : Mod) (finds : List ScrubFind) (cut : Bool) : Mod :=
  if m.scrubs = false then m
  else
    let m := m.withInt { m.int with scrubAt := some m.commits }
    let m := if cut then m.countOverrun 1 else scrubbed.foldl (fun m mem => m.scrubMemory mem) m
    finds.foldl (fun m x =>
      if scrubbed.contains x.mem.val ∧ (m.get INT_SCRUB_CFG_EN).testBit x.mem.val then m.scrubFound x else m) m

/-- The words of an entry as one number, word 0 lowest. -/
def wordsNat (l : List Word) : Nat := l.foldr (fun w a => a * 2 ^ 64 + w.toNat) 0

/-- An FDB entry or a route written again (R438). -/
def Mod.entryRestored (m : Mod) (code i : Nat) (l : List Word) : Mod :=
  let w (n : Nat) : Word := l.getD n 0
  match code with
  | 13 => m.fdbSet i (wordsNat l)
  | 14 | 15 => m.withFwd { m.fwd with trie := storeUnless 0 m.fwd.trie i (w 0) }
  | 16 => m.withFwd { m.fwd with assoc := storeUnless (0, 0, 0) m.fwd.assoc i (w 0, w 1, w 2) }
  | _ => m

/-- GRAFT_PARTIAL (R447): the source fails mid-copy. The pieces not moved are named: frames with a cell there, threads, rules whose shadow
also fails, or rows' entries with their table code. -/
def Mod.graftPartial (m : Mod) (left : List (Nat × Nat)) : Mod :=
  match m.int.graft with
  | none => m
  | some g =>
    if g.cls = 0 ∨ 5 < g.cls then m
    else
      let m : Mod := match g.cls with
        | 1 => left.foldl (fun (m : Mod) (e : Nat × Nat) => match m.frame e.2 with
            | some f => m.setFrame e.2 { f with poison := true }
            | none => m) m
        | 2 => match m.logicalOf (g.loc / 64) (g.loc % 64) with
            | some e => m.engineRestarts (g.loc / 64) e fun k => left.any fun x => x.2 == k % 48
            | none => m
        | 3 => left.foldl (fun m e => m.entryLost 17 e.2) m
        | 4 => left.foldl (fun m e => m.entryLost e.1 e.2) m
        | _ => m
      ((m.graftEnds g).bump (grfCtr (16 + g.cls))).grfEvent 0x04 g.loc g.loc g.cls

/-! ### Graft commands and spare tests -/

/-- What GRF_CMD answers in STATUS, and its effect (R454). passed is the outcome of a lane's loopback test. -/
def Mod.grfCommand (m : Mod) (op cls loc : Nat) (passed : Bool) (failing : List Nat) : Nat × Mod :=
  match op with
  | 1 =>
    if unitValid cls loc = false ∨ m.unitGone cls loc then (1, m)
    else if cls = 0 then (0, m.laneRetires loc)
    else
      let m := (m.bump (grfCtr cls)).grfEvent 0x01 loc loc cls
      if m.graftQueued cls loc then (0, m)
      else if 16 ≤ m.int.queue.length then (3, m.graftAsk cls loc)
      else if cls ≠ 6 ∧ (m.spareFor cls loc).isNone then (2, m.graftAsk cls loc)
      else (0, m.graftAsk cls loc)
  | 2 =>
    if cls ≠ 0 ∨ unitValid 0 loc = false ∨ m.flag PRT_LANE_STATUS_RETIRED loc = false then (1, m)
    else if passed then
      let m := (m.recordAppend 3 0 0xFF loc).set PRT_LANE_STATUS_RETIRED loc 0
      let m := match m.portOfLane loc with
        | some p => m.set PRT_PORT_STATUS_STATE p (m.restState p)
        | none => m
      (0, m.grfEvent 0x09 loc loc 1)
    else (4, m.grfEvent 0x09 loc loc 2)
  | 3 =>
    let m := failing.foldl (fun m k => m.spareFailed (k / 2 ^ 20) (k / 16 % 65536) (k % 16)) m
    (if failing = [] then 0 else 4, m)
  | _ => (0, m)

/-- The engine rotated out of cluster c at a spare test (R485): grafted back when it passes, left retired when it fails. -/
def Mod.rotateEngine (m : Mod) (c : Nat) (fails : Bool) : Mod :=
  if m.spareGood 2 c 0 = false ∨ m.int.queue ≠ [] ∨ m.int.graft.isSome ∨ m.get ENG_CLUSTER_STATUS_STATE c ≠ 0 ∨
      m.flag GLB_STATUS_HEADLESS then m
  else
    let first := lookupD m.int.rotate c 0
    match ((List.range 16).map fun k => (first + k) % 16).find? (m.works c) with
    | none => m
    | some e =>
      let m := m.withInt { m.int with rotate := store m.int.rotate c ((e + 1) % 16) }
      let g : Graft := { cls := 2, loc := 64 * c + e, spare := 0 }
      let moved (m : Mod) : Mod := (((m.grfEvent 0x02 g.loc g.loc 2).bump (grfCtr 10)).grfEvent 0x03 g.loc 0 2)
      if fails then ((m.grfEvent 0x02 g.loc g.loc 2).graftEnds g).grfEvent 0x03 g.loc 0 2 else moved (moved m)

/-- SPARE_TEST (R444, R485): the unused spares test themselves; failing are spare keys, bad clusters those whose rotated engine fails. -/
def Mod.spareTest (m : Mod) (failing bad : List Nat) : Mod :=
  let m := m.advanceTo (m.int.spareTestAt + 3600 * oneSecond * m.get GRF_CFG_SPARE_TEST_H)
  let m := m.withInt { m.int with spareTestAt := m.now }
  let m := (m.grfCommand 3 0 0 true failing).2
  (List.range 4).foldl (fun m c => m.rotateEngine c (bad.contains c)) m

/-! ### Lanes -/

/-- LANE_THRESHOLD (R65): the port goes down, and a loopback test of its lanes starts. The link it takes down has qualifier 2, lock lost,
for which the spec names none (DESIGN CHOICE, log 65). -/
def Mod.laneThreshold (m : Mod) (lane : Nat) : Mod :=
  let thresh := m.get INT_BUCKET_CFG_THRESH 0
  let m := if m.bucket 0 lane < thresh then (m.setBucket 0 lane thresh).thresholdReached 0 lane else m
  match m.portOfLane lane with
  | none => m
  | some p =>
    let m := if m.linked p then m.leaveUp p 2 9 else m
    let m := (groupOf p (m.portType p)).foldl (fun m l => m.set PRT_LANE_STATUS_TESTING l 1) m
    m.withPrt { m.prt with testing := store m.prt.testing p (m.now + 100000000) }

/-- LANE_TEST_DONE (R65): failing lanes retire; when none does, the fault lies outside the die. -/
def Mod.laneTestDone (m : Mod) (p : Nat) (failing : List Nat) : Mod :=
  if (lookup m.prt.testing p).isNone then m
  else
    let lanes := groupOf p (m.portType p)
    let m := lanes.foldl (fun m l => m.set PRT_LANE_STATUS_TESTING l 0) (m.withPrt { m.prt with testing := remove m.prt.testing p })
    let bad := failing.filter fun l => lanes.contains l
    if bad = [] then
      let m := lanes.foldl (fun m l => m.setBucket 0 l 0) m
      ((m.set PRT_PORT_STATUS_LINK_FAULT p 1).sqc PRT_PORT_EVENT_LINK_FAULT p).prtEvent 0x06 p 0
    else bad.foldl (fun m l => m.laneRetires l) m

/-! ### Margins -/

/-- The floor of margin i (R455). -/
def marginFloor (i : Nat) : Int :=
  if i < 25 then 20 else if i < 33 then 0 else if i < 35 then 15 else if i < 37 then 10 else 0

/-- The margin AGE_MON holds. -/
def Mod.margin (m : Mod) (i : Nat) : Int := signed 16 (m.get AGE_MON_MARGIN i)

/-- A domain's rail is at its highest step, or the margin has none to take (R456, R458). -/
def Mod.atBound (m : Mod) (i : Nat) : Bool :=
  if i < 25 ∧ i ≠ 22 then !(m.flag AGE_CFG_AVS_EN) || m.get AGE_MON_AVS_STEPS i == 10 else true

/-- ALARM_N as AGE drives it follows FLOOR and the life budgets; this raises or clears FLOOR bit i (R458). -/
def Mod.floorUpdate (m : Mod) (i : Nat) : Mod :=
  let set := (m.get AGE_STATUS_FLOOR).testBit i
  if m.margin i ≤ marginFloor i then
    let m := m.withInt { m.int with above := remove m.int.above i }
    if set ∨ m.atBound i = false then m
    else (m.set AGE_STATUS_FLOOR 0 (m.get AGE_STATUS_FLOOR + 2 ^ i)).ageEvent 0x02 0 i
  else if set then
    match lookup m.int.above i with
    | none => m.withInt { m.int with above := store m.int.above i m.now }
    | some t => if m.now < t + 86400 * oneSecond then m
        else (m.withInt { m.int with above := remove m.int.above i }).set AGE_STATUS_FLOOR 0 (m.get AGE_STATUS_FLOOR - 2 ^ i)
  else m

/-- A margin measured (R455): AGE_MON, and the least of the month so far. -/
def Mod.marginMeasured (m : Mod) (i : Nat) (v : Int) : Mod :=
  let v := clampSigned 16 v
  let m := (m.set AGE_MON_MARGIN i (unsigned 16 v)).set AGE_MON_FLOOR i (unsigned 16 (marginFloor i))
  let least := match lookup m.int.monthMin i with
    | some x => if v < x then v else x
    | none => v
  (m.withInt { m.int with monthMin := store m.int.monthMin i least }).floorUpdate i

/-- AVS_STEP (R456): the slack of a domain's critical-path replica is sampled, and its rail raised or lowered by a step. -/
def Mod.avsStep (m : Mod) (i : Nat) (slack : Int) : Mod :=
  let steps := m.get AGE_MON_AVS_STEPS i
  let minute := 60 * oneSecond
  let rested := match lookup m.int.avsAt i with
    | some t => decide (t + minute ≤ m.now)
    | none => true
  let stepped (m : Mod) (n : Nat) : Mod :=
    (m.withInt { m.int with avsAt := store m.int.avsAt i m.now }).set AGE_MON_AVS_STEPS i n
  let m := if slack ≤ 4 * marginFloor i then m.withInt { m.int with ample := remove m.int.ample i }
    else if (lookup m.int.ample i).isSome then m else m.withInt { m.int with ample := store m.int.ample i m.now }
  let m :=
    if m.flag AGE_CFG_AVS_EN = false ∨ i = 22 then m
    else if slack < 2 * marginFloor i then
      if decide (steps < 10) && rested then
        let m := stepped m (steps + 1)
        if steps + 1 = 10 then m.ageEvent 0x03 0 i else m
      else m
    else if decide (0 < steps) && rested && (lookup m.int.ample i).any (fun t => decide (t + 86400 * oneSecond ≤ m.now)) then
      stepped m (steps - 1)
    else m
  m.marginMeasured i slack

/-! ### Forecasts -/

/-- Years in tenths until the least-squares line through the months' least margins, oldest first, meets the floor (R457). With n months
and x from 0, the slope is a / d and the line at the last month b / (n d). -/
def forecastYears (l : List Int) (floor : Int) : Nat :=
  let n : Int := l.length
  let pts := l.zipIdx
  let sx : Int := pts.foldl (fun a p => a + (p.2 : Int)) 0
  let sy : Int := pts.foldl (fun a p => a + p.1) 0
  let sxy : Int := pts.foldl (fun a p => a + (p.2 : Int) * p.1) 0
  let sxx : Int := pts.foldl (fun a p => a + (p.2 : Int) * (p.2 : Int)) 0
  let a := n * sxy - sx * sy
  let d := n * sxx - sx * sx
  let last := sy * d - sx * a + n * (n - 1) * a
  if d = 0 ∨ 0 ≤ a then 0xFFFF
  else
    let gap := last - floor * n * d
    if gap ≤ 0 then 0
    else
      let t := (gap * 10 / (12 * n * (-a))).toNat
      if 65534 < t then 0xFFFF else t

/-- Forecast i refitted (R457, R458). -/
def Mod.refit (m : Mod) (i : Nat) : Mod :=
  let past := (match lookup m.int.months i with
    | some l => l
    | none => []).reverse
  let all := past ++ (lookup m.int.monthMin i).toList
  let years := forecastYears all (marginFloor i)
  let valid := decide (3 ≤ all.length)
  let m := ((m.set AGE_FORECAST_YEARS i years).set AGE_FORECAST_MONTHS i all.length).set AGE_FORECAST_VALID i (b01 valid)
  let rested := match lookup m.int.lowAt i with
    | some t => decide (t + 30 * 86400 * oneSecond ≤ m.now)
    | none => true
  if valid && decide (years < 10 * m.get AGE_CFG_WARN_Y) && rested then
    (m.withInt { m.int with lowAt := store m.int.lowAt i m.now }).ageEvent 0x01 0 i
  else m

/-- A month ends: each index's least margin joins its months, and is recorded (R452, R457). -/
def Mod.monthEnds (m : Mod) (month : Nat) : Mod :=
  let m := m.int.monthMin.foldl (fun m e =>
    let past := match lookup m.int.months e.1 with
      | some l => l
      | none => []
    (m.withInt { m.int with months := store m.int.months e.1 ((e.2 :: past).take 24) }).recordAppend 5 e.1 0xFF
      (m.int.month % 65536 * 65536 + unsigned 16 e.2)) m
  m.withInt { m.int with monthMin := [], month := month }

/-- The margins that no other step measures (R455): the least eye margin of a tile's lanes in use, and what is left of a device's erase cycles. -/
def Mod.sampled (m : Mod) (eyes : List (Fin 128 × BitVec 8)) : List (Nat × Int) :=
  let inUse := eyes.filter fun e => (m.portOfLane e.1.val).isSome
  let tile (t : Nat) : List (Nat × Int) :=
    match inUse.filter fun e => e.1.val / 16 == t with
    | [] => []
    | e :: l => [(25 + t, ((l.foldl (fun a x => Nat.min a x.2.toNat) e.2.toNat : Nat) : Int))]
  ((List.range 8).map tile).flatten ++ (List.range 2).map fun d => (35 + d, (100000 - (m.get NVM_WEAR_MAX d : Int)).fdiv 1000)

/-- FORECAST (R455 to R458): once a day the lanes' eye margins are read, the margins that no other step measures are sampled, and every forecast
is refitted. -/
def Mod.forecast (m : Mod) (month : Nat) (eyes : List (Fin 128 × BitVec 8)) : Mod :=
  let m := m.advanceTo (m.int.forecastAt + 86400 * oneSecond)
  let m := m.withInt { m.int with forecastAt := m.now }
  let m := if month = m.int.month then m else m.monthEnds month
  let m := eyes.foldl (fun m e => m.set PRT_LANE_STATUS_EYE_MARGIN e.1.val e.2.toNat) m
  let m := (m.sampled eyes).foldl (fun m e => m.marginMeasured e.1 e.2) m
  (List.range 38).foldl (fun m i => m.refit i) m

/-! ### Life -/

/-- The largest n below 2 ^ bits with n ^ 100 ≤ bound, bit by bit. -/
def root100 (bound : Nat) : Nat → Nat → Nat
  | 0, acc => acc
  | k + 1, acc => if (acc + 2 ^ k) ^ 100 ≤ bound then root100 bound k (acc + 2 ^ k) else root100 bound k acc

/-- 2 ^ (x / 100) in units of 2⁻³²: the rate of a life budget at x tenths of a degree above its knee (R459). -/
def lifeRate (x : Nat) : Nat := root100 (2 ^ (3200 + x)) 48 0

/-- Life in hours of a budget kept in 2⁻³² equivalent seconds. -/
def lifeHours (n : Nat) : Nat := n / (2 ^ 32 * 3600)

/-- A budget's register (R459): k is 1 for the die, 2 for the module. -/
def Mod.lifeRegs (m : Mod) (k n : Nat) : Mod :=
  let con := if k = 1 then AGE_LIFE_DIE_CONSUMED_H else AGE_LIFE_MOD_CONSUMED_H
  let rem := if k = 1 then AGE_LIFE_DIE_REMAIN_H else AGE_LIFE_MOD_REMAIN_H
  (m.set con 0 (Nat.min (lifeHours n) (2 ^ 32 - 1))).set rem 0 (350400 - lifeHours n)

/-- Percent of a budget consumed. -/
def lifePercent (n : Nat) : Nat := lifeHours n * 100 / 350400

/-- A budget taken over at a start, with what it has announced already (R453, R459). -/
def Mod.lifeTaken (m : Mod) (k n : Nat) : Mod :=
  let m := if k = 1 then m.withInt { m.int with lifeDie := n } else m.withInt { m.int with lifeMod := n }
  (m.lifeRegs k n).withInt { m.int with lifeSaid := store m.int.lifeSaid k (lifePercent n) }

/-- A budget's register and its announcements (R459). -/
def Mod.lifeShown (m : Mod) (k n : Nat) : Mod :=
  let m := m.lifeRegs k n
  let pct := lifePercent n
  let said := lookupD m.int.lifeSaid k 0
  let say (m : Mod) (p : Nat) : Mod :=
    (m.withInt { m.int with lifeSaid := store m.int.lifeSaid k p }).ageEvent 0x04 (Nat.min pct 255) k
  if 100 ≤ pct ∧ said < 100 then say m 100
  else if m.get AGE_CFG_LIFE_WARN ≤ pct ∧ said < m.get AGE_CFG_LIFE_WARN then say m (m.get AGE_CFG_LIFE_WARN)
  else m

/-- LIFE_UPDATE (R459): a second of powered operation at the hottest die sensor and the cold plate, in tenths of a degree. -/
def Mod.lifeUpdate (m : Mod) (tj tcp : Int) : Mod :=
  let m := m.advanceTo (m.int.lifeAt + oneSecond)
  let die := if tj ≤ 950 then 2 ^ 32 else if tj ≤ 1050 then lifeRate (tj - 950).toNat else 8 * 2 ^ 32
  let mod := if tcp ≤ 450 then 2 ^ 32 else lifeRate (tcp - 450).toNat
  let m := m.withInt { m.int with lifeDie := m.int.lifeDie + die, lifeMod := m.int.lifeMod + mod, lifeAt := m.now }
  let m := (m.set AGE_TEMP_TJ_MAX 0 (unsigned 16 (clampSigned 16 tj))).set AGE_TEMP_COLD_PLATE 0 (unsigned 16 (clampSigned 16 tcp))
  (m.lifeShown 1 m.int.lifeDie).lifeShown 2 m.int.lifeMod

/-- LIFE_RECORD (R459): every 6 h each budget is recorded. -/
def Mod.lifeRecord (m : Mod) : Mod :=
  let m := m.advanceTo (m.int.lifeRecAt + 6 * 3600 * oneSecond)
  let m := m.withInt { m.int with lifeRecAt := m.now }
  (m.recordAppend 4 0 0xFF (lifeHours m.int.lifeDie)).recordAppend 4 1 0xFF (lifeHours m.int.lifeMod)

end Sys2Proof.Machine
end

