-- ==== Sys2Proof/Machine/Stage.lean ====
section
/-! DEFINITION. Tick-staged writes (The Tick, Staged Commits and Fences): the staging buffer, what reads see of it, and what a
commit applies. -/

namespace Sys2Proof.Machine

/-- Staging entries a key takes (R74, R175, R181). -/
def stageCost : StageKey → Nat
  | .node _ => 2
  | .policer _ => 2
  | _ => 1

/-- Entries a staged set takes. -/
def stagedSize (l : List Staged) : Nat := l.foldl (fun a x => a + stageCost x.key) 0

/-- The staging buffer's entries (R28). -/
def stageDepth : Nat := 4096

/-- The acceptance window of the tick in progress has closed: 204.8 ns before its ending boundary (R28). -/
def Mod.stageClosed (m : Mod) : Bool := decide (m.tick.boundary * 5 ≤ m.time.net * 5 + 1024 * unitsPerNs)

/-- A GLB event (R380). -/
def glbEv (code detail : Nat) : Ev := { blk := 0x01, code := code, detail := detail }

/-- A set that overflows is discarded whole, counted and raised (R30). -/
def Mod.stageOverflow (m : Mod) : Mod :=
  ((m.satAdd GLB_TICK_STATUS_STAGE_DROP_COUNT 0).sqc GLB_TICK_STATUS_STAGE_OVERFLOW).event (glbEv 0x08 0)

/-- A staged set with one more write: the write accepted last to a key holds (R28). -/
def stagedWith (l : List Staged) (x : Staged) : List Staged := l.filter (fun y => y.key != x.key) ++ [x]

/-- One write staged (R28, R30). Once the window has closed, the current tick's set and the following tick's have 4,096 entries each:
whether they share one buffer then, the spec leaves open (DESIGN CHOICE, log 65). -/
def Mod.stage (m : Mod) (key : StageKey) (value : Nat) : Mod :=
  let x : Staged := { key := key, value := value }
  if m.stageClosed then
    if m.tick.nextLost then m
    else
      let l := stagedWith m.tick.next x
      if stageDepth < stagedSize l then (m.withTick { m.tick with next := [], nextLost := true }).stageOverflow
      else m.withTick { m.tick with next := l }
  else if m.tick.nowLost then m
  else
    let l := stagedWith m.tick.now x
    if stageDepth < stagedSize l then (m.withTick { m.tick with now := [], nowLost := true }).stageOverflow
    else m.withTick { m.tick with now := l }

/-! ### The commit -/

/-- A parse-graph node, a transition, a policer or a stream shaper takes its committed entry; a policer's buckets and a shaper's
tokens take the values of its RESET_MODE (R74, R175, R181). -/
def Mod.setNode (m : Mod) (i v : Nat) : Mod :=
  m.withCls { m.cls with nodes := storeUnless (0, 0) m.cls.nodes i (BitVec.ofNat 64 v, BitVec.ofNat 64 (v / 2 ^ 64)) }

/-- See setNode. -/
def Mod.setTransition (m : Mod) (i v : Nat) : Mod := m.withCls { m.cls with trans := storeUnless 0 m.cls.trans i (BitVec.ofNat 64 v) }

/-- See setNode. -/
def Mod.setPolicer (m : Mod) (i v : Nat) : Mod :=
  m.withSch { m.sch with policers := storeUnless 0 m.sch.policers i v, buckets := store m.sch.buckets i (resetBuckets v m.now) }

/-- See setNode; a shaper none of whose fields changes keeps its tokens (R181). -/
def Mod.setShaper (m : Mod) (i v : Nat) : Mod :=
  if lookupD m.sch.shapers i 0 = BitVec.ofNat 64 v then m
  else m.withSch { m.sch with shapers := storeUnless 0 m.sch.shapers i (BitVec.ofNat 64 v), stok := store m.sch.stok i (shReset v m.now) }

/-- What follows from a committed register (R26, R181, R183, R187 to R190): a changed shaper takes the tokens of its RESET_MODE, while a frame
in transmission goes on being charged at the old slope; a changed class loses its deficit; a gate request is pending or not; gates that become
enabled stay open until a cycle starts. -/
def Mod.committed (m : Mod) (r : Reg) (i : Nat) (old : Word) : Mod :=
  match r with
  | .SHP_CLASS => if m.rd r i = old then m else m.withSch { m.sch with ctok := store m.sch.ctok i (shReset (m.rd r i).toNat m.now) }
  | .SHP_PORT => if m.rd r i = old then m else m.withSch { m.sch with ptok := store m.sch.ptok i (shReset (m.rd r i).toNat m.now) }
  | .SCH_CLASS_CFG => if m.rd r i = old then m else m.setDeficit (i / 8) (i % 8) 0
  | .SCH_GATE_CTL => m.set SCH_PORT_STATUS_SWITCH_PEND i (b01 (m.get SCH_GATE_CTL_REQ_BANK i != m.get SCH_PORT_STATUS_CUR_BANK i))
  | .SCH_PORT_CFG =>
    let before := m.wr r i old
    let m := if SCH_PORT_CFG_GATE_EN.of old = m.get SCH_PORT_CFG_GATE_EN i then m
      else (m.withSch { m.sch with gates := remove m.sch.gates i }).set SCH_PORT_STATUS_GATES i 0xFF
    (m.gateOverruns before i).holdUpdate i
  | .CLS_EXC_TB => m.excReset i
  | .PRT_FC_CFG => m.pfcReconfigured i
  | .EPC_GLB_CTL => (List.range 4).foldl Mod.freezeUpdate m
  | _ => m

/-- The registers, by register and index, that a staged set writes. -/
def stagedRegs (l : List Staged) : List (Reg × Nat) :=
  (l.filterMap fun x => match x.key with
    | .field r i _ _ => some (r, i)
    | _ => none).eraseDups

/-- One staged value put in place. -/
def Mod.applyStaged (m : Mod) (x : Staged) : Mod :=
  match x.key with
  | .field r i lo width => m.set ⟨r, lo, width⟩ i x.value
  | .node i => m.setNode i x.value
  | .transition i => m.setTransition i x.value
  | .policer i => m.setPolicer i x.value
  | .streamShaper i => m.setShaper i x.value

/-- The staged writes of the tick commit together (R29, R31); the following tick's set takes their place. -/
def Mod.commitStaged (m : Mod) : Mod :=
  let l := if m.tick.nowLost then [] else m.tick.now
  let before := (stagedRegs l).map fun e => (e, m.rd e.1 e.2)
  let m := l.foldl Mod.applyStaged m
  let m := before.foldl (fun m e => m.committed e.1.1 e.1.2 e.2) m
  let m := (m.withTick { m.tick with now := m.tick.next, next := [], nowLost := m.tick.nextLost, nextLost := false }).xoffUpdate
  before.foldl (fun m e =>
    if e.1.1 = .ENG_XCHG_CTL ∧ m.get ENG_XCHG_CTL_REQ e.1.2 = 1 then m.exchangeStart e.1.2 (m.get ENG_XCHG_CTL_IMG_BASE e.1.2)
    else m) m

end Sys2Proof.Machine
end

