-- ==== Sys2Proof/Machine/Windows.lean ====
section
/-! DEFINITION. The windows of indirect access (R371, R372, R528): what a command does when it is accepted, and the results that stand
when it completes. -/

namespace Sys2Proof.Machine

/-! ### Commands in progress -/

/-- The path of a command, for what its owner may do. -/
def vfHedge : Path → Option Nat
  | .vf h => some h.val
  | _ => none

/-- A window command accepted (R372): its register reads BUSY, and its results wait for its completion. -/
def Mod.winBegin (m : Mod) (win : WinId) (r : Reg) (i : Nat) (busy st : Fld) (w : Word) (status : Nat)
    (extra : List (Reg × Nat × Word)) (walk : Nat := 0) (rule : Option (Nat × Nat × Rule) := none) : Mod :=
  let c : WinCmd := { win := win, seq := m.win.seq + 1, cmd := r, idx := i, busyBit := busy.lo,
                      result := (r, i, st.put w status) :: extra, walk := walk, rule := rule }
  let m := m.withWin { m.win with seq := m.win.seq + 1, busy := m.win.busy ++ [c] }
  m.wr r i (busy.put (st.put w (st.of (m.rd r i))) 1)

/-- Detail [15:8] of a refused command's event: the index, slice or table code that the command names, or its path's Hedge. DEDUCED (log 68)
for the blocks whose rule names no choice among them: PAR the index (R97), CLS the slice (R97), FDB the Hedge of a FDB command and the table code
of a table command, LPM the space (R136). -/
def refusedOf (p : Path) (win : WinId) (w : Word) : Nat :=
  match win with
  | .par => PAR_WIN_CMD_INDEX.of w
  | .cls _ => CLS_RULE_CMD_SLICE.of w
  | .fdb _ => pathHedge p
  | .tbl _ => FDB_TBL_CMD_TABLE.of w
  | .lpm _ => LPM_WIN_CMD_SPACE.of w
  | .gate _ => SCH_GATE_WIN_CMD_PORT.of w
  | .shp _ => pathHedge p
  | .pol _ => pathHedge p
  | .cs c => c
  | _ => 0

/-- The event of a refused window command w: its block, code and qualifier, and the block's REFUSED bit (R372, R528). -/
def Mod.winRefused (m : Mod) (p : Path) (win : WinId) (w : Word) (status : Nat) : Mod :=
  let ring := [refusalRing p]
  let raise (m : Mod) (f : Fld) (i blk code q : Nat) : Mod :=
    (m.sqc f i).event { blk := blk, code := code, hedge := pathHedge p, detail := refusedOf p win w % 2 ^ 8 * 2 ^ 8 + q, rings := ring }
  match win with
  | .par => raise m PAR_EVENT_REFUSED 0 0x06 0x01 status
  | .cls _ => raise m CLS_EVENT_REFUSED 0 0x07 0x01 status
  | .fdb _ => raise m FDB_EVENT_REFUSED 0 0x08 0x05 status
  | .tbl _ => raise m FDB_EVENT_REFUSED 0 0x08 0x05 status
  | .lpm _ => raise m LPM_EVENT_REFUSED 0 0x09 0x01 status
  | .voq => raise m QUE_EVENT_REFUSED 0 0x0B 0x04 status
  | .edit => raise m QUE_EVENT_REFUSED 0 0x0B 0x04 status
  | .gate _ => raise m SCH_EVENT_REFUSED 0 0x0C 0x06 status
  | .shp _ => raise m SHP_EVENT_REFUSED 0 0x0D 0x01 status
  | .pol _ => raise m POL_EVENT_REFUSED 0 0x0E 0x01 status
  | .cs c => raise m ENG_EVENT_REFUSED c 0x10 0x09 6
  | .dram _ => (m.sqcBit DRM_EVENT_EVENTS 6 0).event { blk := 0x12, code := 0x07, hedge := pathHedge p, detail := if status = 4 then 5 else 3, rings := ring }
  | .grf => (m.sqcBit GRF_EVENT_EVENTS 9 0).event { blk := 0x15, code := 0x0A, hedge := pathHedge p, detail := if status = 5 then 4 else 2, rings := ring }
  | .sample _ => m

/-- A command accepted, with the event of a refused one. -/
def Mod.winAnswer (m : Mod) (p : Path) (win : WinId) (r : Reg) (i : Nat) (busy st : Fld) (w : Word) (status : Nat) (refused : Bool)
    (extra : List (Reg × Nat × Word)) (walk : Nat := 0) (rule : Option (Nat × Nat × Rule) := none) : Mod :=
  let m := m.winBegin win r i busy st w status extra walk rule
  if refused then m.winRefused p win w status else m

/-! ### Parse graph -/

/-- A node's words break an encoding: TYPE 14 and 15, SEL_WIDTH 3 (judged when VALID). -/
def nodeReserved (v : Nat) : Bool := bit v 0 && (decide (14 ≤ bits v 19 16) || bits v 39 38 == 3)

/-- The bits of node and transition words that hold fields; reserved ones read as zero. -/
def nodeMask : Nat := (2 ^ 64 - 2 ^ 50) * 2 ^ 64 + ((2 ^ 56 - 1) - (2 ^ 48 - 2 ^ 46) - (2 ^ 16 - 2))

/-- Node i, or transition i, as a read returns it: staged when a write is pending (R32, R74). -/
def Mod.parseEntry (m : Mod) (transition : Bool) (i : Nat) : Nat :=
  if transition then (m.stagedValue (.transition i)).getD (lookupD m.cls.trans i 0).toNat
  else
    let e := lookupD m.cls.nodes i (0, 0)
    (m.stagedValue (.node i)).getD (e.1.toNat + e.2.toNat * 2 ^ 64)

/-- A command of PAR_WIN_CMD (R74, R32, R91). -/
def Mod.parseWindow (m : Mod) (p : Path) (w : Word) : Mod :=
  let op := PAR_WIN_CMD_OP.of w
  let tr := PAR_WIN_CMD_TABLE.of w == 1
  let i := PAR_WIN_CMD_INDEX.of w
  let v := (m.rd .PAR_WIN_W0).toNat + (if tr then 0 else (m.rd .PAR_WIN_W1).toNat * 2 ^ 64)
  let status := if (vfHedge p).isSome then 2 else if !tr && decide (64 ≤ i) then 1
    else if op == 1 && !tr && nodeReserved v then 3 else 0
  let m' := if status ≠ 0 ∨ op ≠ 1 then m
    else if tr then m.stage (.transition i) (v / 2 ^ 16 * 2 ^ 16) else m.stage (.node i) (v &&& nodeMask)
  let e := m.parseEntry tr i
  let data : List (Reg × Nat × Word) := if status = 0 ∧ op = 2 then
      (.PAR_WIN_W0, 0, BitVec.ofNat 64 e) :: (if tr then [] else [(.PAR_WIN_W1, 0, BitVec.ofNat 64 (e / 2 ^ 64))])
    else []
  m'.winAnswer p .par .PAR_WIN_CMD 0 PAR_WIN_CMD_BUSY PAR_WIN_CMD_STATUS w status (status != 0) data

/-! ### Classifier rules -/

/-- The ten words of a path's key or mask. -/
def Mod.ruleWords (m : Mod) (r : Reg) (path : Nat) : Nat :=
  (List.range 10).foldl (fun a k => a + (m.rd r (10 * path + k)).toNat * 2 ^ (64 * k)) 0

/-- An action holds a reserved encoding in an enabled field (R83, R4). -/
def actReserved (a : Word) : Bool :=
  let q := CLS_RULE_ACT_QSEL.of a
  (CLS_RULE_ACT_COLOUR_EN.of a == 1 && CLS_RULE_ACT_COLOUR.of a == 3) ||
    (CLS_RULE_ACT_QSEL_EN.of a == 1 && (decide (5 ≤ q / 32) ||
      (q / 32 == 3 && decide (8 ≤ q % 32)) || ((q / 32 == 0 || q / 32 == 1 || q / 32 == 4) && q % 32 != 0)))

/-- The rule at an index of a slice; of a pair, both halves as one rule (R81). -/
def Mod.rule (m : Mod) (s i : Nat) : Option Rule :=
  let half (s : Nat) : Option Rule := lookup m.cls.rules (2048 * s + i)
  if m.flag CLS_SLICE_CFG_PAIR s then
    match half s, half (s + 1) with
    | some a, some b => some { a with key := a.key * 2 ^ 320 + b.key, mask := a.mask * 2 ^ 320 + b.mask }
    | _, _ => none
  else half s

/-- A rule put in its slice: of a pair, the even slice takes bits [639:320] and the odd one [319:0] (R81, R88). -/
def Mod.putRule (m : Mod) (s i : Nat) (x : Rule) : Mod :=
  let low : Rule := { x with key := x.key % 2 ^ 320, mask := x.mask % 2 ^ 320 }
  let high : Rule := { x with key := x.key / 2 ^ 320 % 2 ^ 320, mask := x.mask / 2 ^ 320 % 2 ^ 320 }
  let put (m : Mod) (s : Nat) (x : Rule) : Mod := m.withCls { m.cls with rules := store m.cls.rules (2048 * s + i) x }
  if m.flag CLS_SLICE_CFG_PAIR s then put (put m s high) (s + 1) low else put m s low

/-- The rule of a WRITE with FORCE in progress reaches its entry, which the slice has missed since it was accepted (R89). -/
def Mod.ruleLands (m : Mod) (c : WinCmd) : Mod :=
  match c.rule with
  | some (s, i, x) => m.putRule s i x
  | none => m

/-- The forced WRITEs in progress for a slice reach their entries: commands apply in the order of their acceptance (R87). -/
def Mod.rulesLand (m : Mod) (s : Nat) : Mod :=
  let mine (c : WinCmd) : Bool := c.rule.any fun r => r.1 == s
  let m := (m.win.busy.filter mine).foldl Mod.ruleLands m
  m.withWin { m.win with busy := m.win.busy.map fun c => if mine c then { c with rule := none } else c }

/-- A rule removed: its valid bit clears (R88). -/
def Mod.dropRule (m : Mod) (s i : Nat) : Mod :=
  let drop (m : Mod) (s : Nat) : Mod := m.withCls { m.cls with rules := remove m.cls.rules (2048 * s + i) }
  if m.flag CLS_SLICE_CFG_PAIR s then drop (drop m s) (s + 1) else drop m s

/-- The data registers of a rule read into staging; a paired slice gives both halves of the key, which it holds whole. -/
def ruleRegs (path : Nat) (x : Rule) : List (Reg × Nat × Word) :=
  let ws (r : Reg) (v : Nat) : List (Reg × Nat × Word) :=
    (List.range 10).map fun k => (r, 10 * path + k, BitVec.ofNat 64 (v / 2 ^ (64 * k)))
  let valid : Fld := ⟨.CLS_RULE_ACT, 63, 1⟩
  (.CLS_RULE_ACT, path, valid.put x.act (b01 x.valid)) :: (ws .CLS_RULE_KEY x.key ++ ws .CLS_RULE_MASK x.mask)

/-- A command of CLS_RULE_CMD (R88, R89, R91): a WRITE with FORCE to a valid entry invalidates it, and the new rule stands when the command
completes. -/
def Mod.ruleWindow (m : Mod) (p : Path) (w : Word) : Mod :=
  let n := pathNum p
  let op := CLS_RULE_CMD_OP.of w
  let s := CLS_RULE_CMD_SLICE.of w
  let i := CLS_RULE_CMD_INDEX.of w
  let act := m.rd .CLS_RULE_ACT n
  let foreign := (vfHedge p).any fun h => h != m.get CLS_SLICE_CFG_OWNER s
  let m := m.rulesLand s
  let old := m.rule s i
  let status := if 24 ≤ s then 4 else if foreign then 2 else if m.pairedOdd s then 5
    else if op == 1 && actReserved act then 3
    else if op == 1 && old.isSome && CLS_RULE_CMD_FORCE.of w == 0 then 1 else 0
  let new : Rule := { key := m.ruleWords .CLS_RULE_KEY n, mask := m.ruleWords .CLS_RULE_MASK n,
                      act := BitVec.ofNat 64 (act.toNat % 2 ^ 16), valid := true }
  let none_ : Rule := { key := 0, mask := 0, act := 0, valid := false }
  let forced := decide (status = 0 ∧ op = 1) && old.isSome
  let m' := if status ≠ 0 then m else if op = 3 || forced then m.dropRule s i else if op = 1 then m.putRule s i new else m
  let data := if status = 0 ∧ op = 2 then ruleRegs n (old.getD none_) else []
  m'.winAnswer p (.cls n) .CLS_RULE_CMD n CLS_RULE_CMD_BUSY CLS_RULE_CMD_STATUS w status (status != 0) data
    (rule := if forced then some (s, i, new) else none)

/-! ### FDB -/

/-- The entry in a path's FDB data registers. -/
def Mod.fdbData (m : Mod) (n : Nat) : Nat := (m.rd .FDB_WIN_DATA0 n).toNat + (m.rd .FDB_WIN_DATA1 n).toNat * 2 ^ 64

/-- The data registers of an FDB entry. -/
def fdbRegs (n e : Nat) : List (Reg × Nat × Word) :=
  [(.FDB_WIN_DATA0, n, BitVec.ofNat 64 e), (.FDB_WIN_DATA1, n, BitVec.ofNat 64 (e / 2 ^ 64))]

/-- The bits of an FDB entry that hold fields (R103). -/
def fdbMask : Nat := 2 ^ 128 - 2 ^ 25

/-- A FLUSH takes an entry (R111): all the selectors set match. -/
def flushTakes (w : Word) (hedge : Option Nat) (data e : Nat) : Bool :=
  (FDB_WIN_CMD_FL_FID.of w == 0 || feFid e == feFid data) &&
    (FDB_WIN_CMD_FL_HEDGE.of w == 0 || fidHedge (feFid e) == fidHedge (feFid data)) &&
    hedge.all (fidHedge (feFid e) == ·) &&
    (FDB_WIN_CMD_FL_DEST.of w == 0 || (feKind e == feKind data && feDest e == feDest data)) &&
    (FDB_WIN_CMD_FL_DYNAMIC.of w == 0 || !(feStatic e))

/-- A path's FDB command answered: refused are all statuses but done, not found and full. -/
def Mod.fdbAnswer (m : Mod) (p : Path) (w : Word) (status : Nat) (extra : List (Reg × Nat × Word)) (walk : Nat := 0) : Mod :=
  let n := pathNum p
  m.winAnswer p (.fdb n) .FDB_WIN_CMD n FDB_WIN_CMD_BUSY FDB_WIN_CMD_STATUS w status (decide (3 ≤ status)) extra walk

/-- INSERT (R107, R108). -/
def Mod.fdbInsertWin (m : Mod) (p : Path) (w : Word) (e : Nat) : Mod :=
  let e := (2 ^ 127 ||| e) &&& fdbMask
  if 5 ≤ feKind e then m.fdbAnswer p w 6 []
  else
    let r := m.fdbInsert e
    r.2.fdbAnswer p (FDB_WIN_CMD_LOC.put w r.1.2) r.1.1 []

/-- DELETE by key, or SEARCH by key. -/
def Mod.fdbKeyWin (m : Mod) (p : Path) (w : Word) (delete : Bool) : Mod :=
  let n := pathNum p
  let d := m.fdbData n
  match m.fdbFind (feFid d) (feMac d) with
  | none => m.fdbAnswer p w 1 []
  | some (loc, e) =>
    let w := FDB_WIN_CMD_LOC.put w loc
    if delete then (m.fdbSet loc 0).fdbAnswer p w 0 [] else m.fdbAnswer p w 0 (fdbRegs n e)

/-- A virtual function may act at a location (R137): it reads a valid entry of its Hedge, writes one over such an entry or over none, and
clears such an entry. -/
def fdbMine (h old new : Nat) (write : Bool) : Bool :=
  let mine (e : Nat) : Bool := feValid e && fidHedge (feFid e) == h
  mine old || (write && !(feValid old) && mine new)

/-- READ by location, or WRITE by location: a second copy of a key is refused (R110). A virtual function is told NOT_OWNER of every location at
which it may not act, one past the last among them (R137). -/
def Mod.fdbLocWin (m : Mod) (p : Path) (w : Word) (write : Bool) : Mod :=
  let n := pathNum p
  let loc := FDB_WIN_CMD_LOC.of w
  let old := lookupD m.fwd.fdb loc 0
  let d := m.fdbData n &&& fdbMask
  let mine (h : Nat) : Bool := decide (loc < fdbLocations) && fdbMine h old d write &&
    !(write && feValid d && fidHedge (feFid d) != h)
  if (vfHedge p).any fun h => !(mine h) then m.fdbAnswer p w 4 []
  else if fdbLocations ≤ loc then m.fdbAnswer p w 7 []
  else if write = false then m.fdbAnswer p w 0 (fdbRegs n old)
  else if feValid d ∧ 5 ≤ feKind d then m.fdbAnswer p w 6 []
  else if feValid d ∧ (m.fdbFind (feFid d) (feMac d)).any (fun x => x.1 != loc) then m.fdbAnswer p w 5 []
  else (m.fdbSet loc (if feValid d then d else 0)).fdbAnswer p w 0 []

/-- FLUSH (R111): the entries that match are removed and counted; entries learned later may still meet the walk. -/
def Mod.fdbFlushWin (m : Mod) (p : Path) (w : Word) : Mod :=
  let n := pathNum p
  let d := m.fdbData n
  if (vfHedge p).any fun h => FDB_WIN_CMD_FL_FID.of w == 1 && fidHedge (feFid d) != h then m.fdbAnswer p w 4 []
  else if FDB_WIN_CMD_FL_DEST.of w = 1 ∧ 5 ≤ feKind d then m.fdbAnswer p w 6 []
  else (m.fdbFlush (flushTakes w (vfHedge p) d)).fdbAnswer p w 0 [] 1

/-- BUCKET read, with or without clear: FAIL_COUNT of a bucket. -/
def Mod.fdbBucketWin (m : Mod) (p : Path) (w : Word) (clear : Bool) : Mod :=
  let n := pathNum p
  let b := FDB_WIN_CMD_LOC.of w
  if (vfHedge p).isSome then m.fdbAnswer p w 4 []
  else if 65536 ≤ b then m.fdbAnswer p w 7 []
  else
    let v := lookupD m.fwd.fails b 0
    let m := if clear then m.withFwd { m.fwd with fails := remove m.fwd.fails b } else m
    m.fdbAnswer p w 0 [(.FDB_WIN_DATA0, n, BitVec.ofNat 64 v)]

/-- A command of FDB_WIN_CMD (R107 to R111, R137). -/
def Mod.fdbWindow (m : Mod) (p : Path) (w : Word) : Mod :=
  let d := m.fdbData (pathNum p)
  let foreign := (vfHedge p).any fun h => fidHedge (feFid d) != h
  match FDB_WIN_CMD_OP.of w with
  | 1 => if foreign then m.fdbAnswer p w 4 [] else m.fdbInsertWin p w d
  | 2 => if foreign then m.fdbAnswer p w 4 [] else m.fdbKeyWin p w true
  | 3 => if foreign then m.fdbAnswer p w 4 [] else m.fdbKeyWin p w false
  | 4 => m.fdbLocWin p w false
  | 5 => m.fdbLocWin p w true
  | 6 => m.fdbFlushWin p w
  | 7 => m.fdbBucketWin p w false
  | _ => m.fdbBucketWin p w true

/-! ### Direct-indexed tables -/

/-- Entries and words of table t (FDB_TBL_CMD.TABLE). -/
def tblShape (t : Nat) : Nat × Nat :=
  [(65536, 1), (4096, 5), (65536, 2), (4096, 1), (262144, 1), (128, 1), (8192, 1), (64, 1), (65536, 2), (16384, 2), (1024, 5),
   (1024, 5), (1024, 1)].getD t (0, 0)

/-- The bits of an entry of table t that hold fields, where the entry's format names zero bits. -/
def tblMask (t : Nat) : Nat :=
  match t with
  | 0 => 2 ^ 64 - 2 ^ 17
  | 1 => 2 ^ 319 + (2 ^ 262 - 1)
  | 2 => 2 ^ 128 - 2 ^ 29
  | 3 => 2 ^ 63 + 127
  | 4 => 2 ^ 16 - 1
  | 5 => 2 ^ 63 + 127
  | 6 => 127
  | 7 => 2 ^ 63 + 15 * 2 ^ 48 + (2 ^ 48 - 1)
  | 8 => 2 ^ 128 - 2 ^ 30
  | 9 => 2 ^ 128 - 2 ^ 36
  | _ => 2 ^ 320 - 1

/-- An entry of table t holds a reserved encoding in a field it applies (R528). -/
def tblReserved (t e : Nat) : Bool :=
  match t with
  | 2 => bit e 127 && decide (4 ≤ bits e 126 124)
  | 8 => bit e 127 && bits e 31 30 == 3
  | 9 => bit e 127 && (decide (bits e 125 120 < 2) || decide (32 < bits e 125 120))
  | _ => false

/-- The entry in n words from data register k of an array. -/
def Mod.dataWords (m : Mod) (r : Reg) (k n : Nat) : Nat :=
  (List.range n).foldl (fun a j => a + (m.rd r (k + j)).toNat * 2 ^ (64 * j)) 0

/-- The data registers of an entry of n words from register k of an array on. -/
def wordRegs (r : Reg) (k n e : Nat) : List (Reg × Nat × Word) :=
  (List.range n).map fun j => (r, k + j, BitVec.ofNat 64 (e / 2 ^ (64 * j)))

/-- A command of FDB_TBL_CMD (R101, R137). -/
def Mod.tableWindow (m : Mod) (p : Path) (w : Word) : Mod :=
  let n := pathNum p
  let op := FDB_TBL_CMD_OP.of w
  let t := FDB_TBL_CMD_TABLE.of w
  let i := FDB_TBL_CMD_INDEX.of w
  let sh := tblShape t
  let e := m.dataWords .FDB_TBL_DATA (5 * n) sh.2 &&& tblMask t
  let foreign := (vfHedge p).any fun h => t != 0 || i / 4096 != h
  let otherFid := op == 1 && t == 0 && bit e 63 && fidHedge (bits e 62 49) != i / 4096
  let status := if foreign then 2 else if sh.1 ≤ i then 1 else if otherFid then 2 else if op == 1 && tblReserved t e then 3 else 0
  let m' := if status = 0 ∧ op = 1 then m.setTbl t i e else m
  let data := if status = 0 ∧ op = 2 then wordRegs .FDB_TBL_DATA (5 * n) sh.2 (m.tbl t i) else []
  m'.winAnswer p (.tbl n) .FDB_TBL_CMD n FDB_TBL_CMD_BUSY FDB_TBL_CMD_STATUS w status (status != 0) data

/-! ### Routes -/

/-- Key of a trie entry: a root node's, or a pool node's. -/
def trieKey (space node entry : Nat) : Nat := if space = 0 then 65536 * node + entry else 4194304 + 256 * node + entry

/-- The child of a trie entry: whether there is one, and which. -/
def trieChild (w : Word) : Nat := bits w.toNat 63 63 * 2 ^ 15 + bits w.toNat 61 47

/-- GRACE is set, for a microsecond from now (R132). -/
def Mod.grace (m : Mod) : Mod := (m.withFwd { m.fwd with graceEnd := m.now + 1000 }).set LPM_STATUS_GRACE 0 1

/-- One trie entry written; GRACE is set when its CHILD changes (R132). -/
def Mod.trieWrite (m : Mod) (key : Nat) (w : Word) : Mod :=
  let old := lookupD m.fwd.trie key 0
  let m := m.withFwd { m.fwd with trie := storeUnless 0 m.fwd.trie key w }
  if trieChild old = trieChild w then m else m.grace

/-- An associative slot written (R133). A valid IPv6 entry takes its four slots, so that nothing else stands in the three after it. DESIGN CHOICE
(log 70): a valid entry written into one of those three takes the slot from the IPv6 entry, which goes. -/
def Mod.assocWrite (m : Mod) (i : Nat) (e : Word × Word × Word) : Mod :=
  let valid (e : Word × Word × Word) : Bool := bit e.1.toNat 63
  let six (e : Word × Word × Word) : Bool := valid e && bit e.1.toNat 58
  let first := i - i % 4
  let l := m.fwd.assoc
  let l := if six e then l.filter fun x => !(decide (i < x.1) && decide (x.1 < i + 4))
    else if valid e && decide (first ≠ i) && (lookup l first).any six then remove l first
    else l
  m.withFwd { m.fwd with assoc := storeUnless (0, 0, 0) l i e }

/-- CLEAR_NODE of a pool node (R132). -/
def Mod.clearPool (m : Mod) (node : Nat) : Mod :=
  let lo := trieKey 1 node 0
  let gone (k : Nat) : Bool := decide (lo ≤ k) && decide (k < lo + 256)
  let child := m.fwd.trie.any fun e => gone e.1 && bit e.2.toNat 63
  let m := m.withFwd { m.fwd with trie := m.fwd.trie.filter fun e => !(gone e.1) }
  if child then m.grace else m

/-- A command of LPM_WIN_CMD (R131 to R133, R137). -/
def Mod.lpmWindow (m : Mod) (p : Path) (w : Word) : Mod :=
  let n := pathNum p
  let op := LPM_WIN_CMD_OP.of w
  let sp := LPM_WIN_CMD_SPACE.of w
  let node := LPM_WIN_CMD_NODE.of w
  let entry := LPM_WIN_CMD_ENTRY.of w
  let d (k : Nat) : Word := m.rd .LPM_WIN_DATA (3 * n + k)
  let range := if sp = 0 then decide (40 ≤ node) else if sp = 1 then decide (32768 ≤ node) || (op != 3 && decide (256 ≤ entry))
    else decide (32768 ≤ entry)
  let reserved := op == 1 && if sp = 2 then bit (d 0).toNat 63 && bits (d 0).toNat 49 48 == 3
    else bit (d 0).toNat 62 && bits (d 0).toNat 46 45 == 3
  let unaligned := op == 1 && sp == 2 && bit (d 0).toNat 58 && entry % 4 != 0
  let status := if (vfHedge p).isSome then 2 else if range || (op == 3 && sp != 1) then 1 else if reserved then 3
    else if unaligned then 4 else 0
  let m' := if status ≠ 0 then m
    else if op = 3 then m.clearPool node
    else if op = 1 then
      if sp = 2 then m.assocWrite entry (BitVec.ofNat 64 ((d 0).toNat / 2 ^ 32 * 2 ^ 32), d 1, d 2)
      else m.trieWrite (trieKey sp node entry) (BitVec.ofNat 64 ((d 0).toNat / 2 ^ 21 * 2 ^ 21))
    else m
  let seen : Word × Word × Word := if sp = 2 then lookupD m.fwd.assoc entry (0, 0, 0) else (lookupD m.fwd.trie (trieKey sp node entry) 0, 0, 0)
  let data : List (Reg × Nat × Word) := if status ≠ 0 ∨ op ≠ 2 then []
    else (.LPM_WIN_DATA, 3 * n, seen.1) :: (if sp = 2 then [(.LPM_WIN_DATA, 3 * n + 1, seen.2.1), (.LPM_WIN_DATA, 3 * n + 2, seen.2.2)] else [])
  let w := if LPM_WIN_CMD_AUTO_INC.of w = 1 ∧ status = 0 ∧ op ≠ 3 then LPM_WIN_CMD_ENTRY.put w (entry + 1) else w
  m'.winAnswer p (.lpm n) .LPM_WIN_CMD n LPM_WIN_CMD_BUSY LPM_WIN_CMD_STATUS w status (status != 0) data

/-! ### Virtual output queues and edit templates -/

/-- Hedge h owns port or destination d. -/
def Mod.ownsPort (m : Mod) (h d : Nat) : Bool := decide (d < 128) && m.owner d == h

/-- The descriptor fields of a VOQ's head copy (QUE_VOQ_DATA1). -/
def Mod.voqHead (m : Mod) (q : List Copy) : Word :=
  match q.head?.bind fun c => m.frame c.frame with
  | none => BitVec.ofNat 64 (2 ^ 23)
  | some f => BitVec.ofNat 64 (timeNs f.stamp * 2 ^ 32 + b01 f.poison * 2 ^ 22 + b01 f.ct * 2 ^ 21 + b01 f.trunc * 2 ^ 20 +
      f.colour % 4 * 2 ^ 18 + f.hedge % 16 * 2 ^ 14 + f.octets.length % 2 ^ 14)

/-- A command of QUE_VOQ_CMD (R140, R141, R168). -/
def Mod.voqWindow (m : Mod) (p : Path) (w : Word) : Mod :=
  let s := QUE_VOQ_CMD_SRC.of w
  let d := QUE_VOQ_CMD_DEST.of w
  let status := if 134 ≤ s ∨ 134 ≤ d then 1
    else if (vfHedge p).any fun h => !(m.ownsPort h s) && !(m.ownsPort h d) then 2 else 0
  let q := m.voq (voqKey s d (QUE_VOQ_CMD_CLASS.of w))
  let cells := q.foldl (fun a c => a + ((m.frame c.frame).map Frame.cells).getD 0) 0
  let data : List (Reg × Nat × Word) := if status ≠ 0 then []
    else if QUE_VOQ_CMD_OP.of w = 1 then [(.QUE_VOQ_DATA0, 0, BitVec.ofNat 64 (q.length * 2 ^ 19 + cells % 2 ^ 19))]
    else [(.QUE_VOQ_DATA1, 0, m.voqHead q)]
  m.winAnswer p .voq .QUE_VOQ_CMD 0 QUE_VOQ_CMD_BUSY QUE_VOQ_CMD_STATUS w status (status != 0) data

/-- A template holds a reserved encoding (R158). -/
def templateReserved (w12 : Nat) : Bool :=
  let off (v : Nat) : Bool := decide (96 ≤ v) && v != 127
  bit w12 63 && (decide (96 < bits w12 62 56) || decide (96 < bits w12 55 49) || off (bits w12 47 41) || off (bits w12 33 27) || off (bits w12 19 13))

/-- A command of QUE_EDIT_CMD (R158, R168). -/
def Mod.editWindow (m : Mod) (p : Path) (w : Word) : Mod :=
  let op := QUE_EDIT_CMD_OP.of w
  let i := QUE_EDIT_CMD_INDEX.of w
  let ws := (List.range 13).map fun k => m.rd .QUE_EDIT_DATA k
  let last := (m.rd .QUE_EDIT_DATA 12).toNat
  let status := if i = 0 then 1 else if op == 1 && (vfHedge p).isSome then 2 else if op == 1 && templateReserved last then 3 else 0
  let m' := if status = 0 ∧ op = 1 then
      m.withBuf { m.buf with templates := storeUnless (List.replicate 13 0) m.buf.templates i
                                            (ws.take 12 ++ [BitVec.ofNat 64 (last / 2 ^ 13 * 2 ^ 13)]) }
    else m
  let seen := lookupD m.buf.templates i (List.replicate 13 0)
  let data : List (Reg × Nat × Word) := if status = 0 ∧ op = 2 then (List.range 13).map fun k => (.QUE_EDIT_DATA, k, seen.getD k 0) else []
  m'.winAnswer p .edit .QUE_EDIT_CMD 0 QUE_EDIT_CMD_BUSY QUE_EDIT_CMD_STATUS w status (status != 0) data

/-! ### Gates, policers, stream shapers -/

/-- Bank b of front port p is operational, or the target of a pending switch (R189). -/
def Mod.bankActive (m : Mod) (p b : Nat) : Bool :=
  m.get SCH_PORT_STATUS_CUR_BANK p == b || (m.flag SCH_PORT_STATUS_SWITCH_PEND p && m.get SCH_GATE_CTL_REQ_BANK p == b)

/-- A gate entry put in its bank. -/
def Mod.putGate (m : Mod) (port bank entry : Nat) (w : Word) : Mod :=
  m.withSch { m.sch with gateEntries := storeUnless 0 m.sch.gateEntries ((2 * port + bank) * 1024 + entry)
                                          (BitVec.ofNat 64 (w.toNat &&& (0xFF * 2 ^ 56 + (2 ^ 31 - 1)))) }

/-- A command of SCH_GATE_WIN_CMD (R185, R189, R199). -/
def Mod.gateWindow (m : Mod) (p : Path) (w : Word) : Mod :=
  let n := pathNum p
  let op := SCH_GATE_WIN_CMD_OP.of w
  let port := SCH_GATE_WIN_CMD_PORT.of w
  let bank := SCH_GATE_WIN_CMD_BANK.of w
  let entry := SCH_GATE_WIN_CMD_ENTRY.of w
  let status := if (vfHedge p).any fun h => !(m.ownsPort h port) then 3 else if op == 1 && m.bankActive port bank then 2 else 0
  let m' := if status = 0 ∧ op = 1 then m.putGate port bank entry (m.rd .SCH_GATE_WIN_DATA n) else m
  let data : List (Reg × Nat × Word) := if status = 0 ∧ op = 2 then [(.SCH_GATE_WIN_DATA, n, m.gateEntry port bank entry)] else []
  let m' := m'.winBegin (.gate n) .SCH_GATE_WIN_CMD n SCH_GATE_WIN_CMD_BUSY SCH_GATE_WIN_CMD_STATUS w status data
  if status = 0 then m' else m'.winRefused p (.gate n) w status

/-- The bits of a policer entry that hold fields. -/
def policerMask : Nat := 2 ^ 128 - 2 ^ 70 + (2 ^ 60 - 1)

/-- A command of POL_WIN_CMD (R175, R32, R199). -/
def Mod.policerWindow (m : Mod) (p : Path) (w : Word) : Mod :=
  let n := pathNum p
  let op := POL_WIN_CMD_OP.of w
  let i := POL_WIN_CMD_INDEX.of w
  let old := lookupD m.sch.policers i 0
  let new := ((m.rd .POL_WIN_DATA0 n).toNat + (m.rd .POL_WIN_DATA1 n).toNat * 2 ^ 64) &&& policerMask
  let foreign := (vfHedge p).any fun h => peOwner old != h || (op == 1 && peOwner new != h)
  let status := if foreign then 2 else 0
  let m' := if status = 0 ∧ op = 1 then m.stage (.policer i) new else m
  let b := m.bucketsOf i old
  let two (x y : Nat) : List (Reg × Nat × Word) := [(.POL_WIN_DATA0, n, BitVec.ofNat 64 x), (.POL_WIN_DATA1, n, BitVec.ofNat 64 y)]
  let seen := (m.stagedValue (.policer i)).getD old
  let data := if status ≠ 0 then [] else if op = 2 then two seen (seen / 2 ^ 64)
    else if op = 3 then two (b.c / 256) (b.pe / 256) else []
  m'.winAnswer p (.pol n) .POL_WIN_CMD n POL_WIN_CMD_BUSY POL_WIN_CMD_STATUS w status (status != 0) data

/-- A command of SHP_WIN_CMD (R176, R181, R32, R199). -/
def Mod.shaperWindow (m : Mod) (p : Path) (w : Word) : Mod :=
  let n := pathNum p
  let op := SHP_WIN_CMD_OP.of w
  let i := SHP_WIN_CMD_INDEX.of w
  let new := (m.rd .SHP_WIN_DATA n).toNat
  let status := if (vfHedge p).isSome then 2 else if op == 1 && (decide (2 ≤ shKind new) || decide (shOverhead new < -32)) then 3 else 0
  let m' := if status = 0 ∧ op = 1 then m.stage (.streamShaper i) new else m
  let seen := (m.stagedValue (.streamShaper i)).getD (lookupD m.sch.shapers i 0).toNat
  let data : List (Reg × Nat × Word) := if status ≠ 0 then []
    else if op = 2 then [(.SHP_WIN_DATA, n, BitVec.ofNat 64 seen)]
    else if op = 3 then [(.SHP_WIN_DATA, n, BitVec.ofNat 64 (unsigned 32 (m.streamTokens i).octets))] else []
  m'.winAnswer p (.shp n) .SHP_WIN_CMD n SHP_WIN_CMD_BUSY SHP_WIN_CMD_STATUS w status (status != 0) data

/-! ### Control stores, samples, SDRAM, grafts -/

/-- A command of ENG_CS_WIN_CMD of cluster c (R287, R295): check bits are generated as a word is written. -/
def Mod.storeWindow (m : Mod) (p : Path) (c : Nat) (w : Word) : Mod :=
  let op := ENG_CS_WIN_CMD_OP.of w
  let a := ENG_CS_WIN_CMD_ADDR.of w
  let k := m.cl c
  let status := if op == 2 && m.get ENG_CLUSTER_STATUS_STATE c != 3 then 3 else 0
  let m' := if status = 0 ∧ op = 2 then
      m.setCl c { k with store := storeUnless 0 k.store a ((m.rd .ENG_CS_WIN_DATA0 c).toNat + (m.rd .ENG_CS_WIN_DATA1 c).toNat * 2 ^ 64) }
    else m
  let v := lookupD k.store a 0
  let data : List (Reg × Nat × Word) := if op = 1 then
      [(.ENG_CS_WIN_DATA0, c, BitVec.ofNat 64 v), (.ENG_CS_WIN_DATA1, c, BitVec.ofNat 64 (v / 2 ^ 64)),
       (.ENG_CS_WIN_DATA2, c, (Config.checkBits (BitVec.ofNat 128 v)).setWidth 64)]
    else []
  m'.winAnswer p (.cs c) .ENG_CS_WIN_CMD c ENG_CS_WIN_CMD_BUSY ENG_CS_WIN_CMD_STATUS w status (status != 0) data

/-- EPC_SAMPLE_CMD of cluster c (R304). -/
def Mod.sampleWindow (m : Mod) (p : Path) (c : Nat) (w : Word) : Mod :=
  let st : Fld := ⟨.EPC_SAMPLE_CMD, 63, 1⟩
  m.winAnswer p (.sample c) .EPC_SAMPLE_CMD c EPC_SAMPLE_CMD_BUSY st w 0 false (m.sampleData c (EPC_SAMPLE_CMD_INDEX.of w))

/-- A command of DRM_WIN_CMD (R314, R316): a read's results come with its request; a write is complete once it is accepted (R320), and waits for
room in the write queue. -/
def Mod.dramWindow (m : Mod) (p : Path) (w : Word) : Mod :=
  let n := pathNum p
  let op := DRM_WIN_CMD_OP.of w
  let addr := DRM_WIN_CMD_ADDR.of w * 64
  let answer (m : Mod) (status : Nat) (data : List (Reg × Nat × Word)) : Mod :=
    m.winAnswer p (.dram n) .DRM_WIN_CMD n DRM_WIN_CMD_BUSY DRM_WIN_CMD_STATUS w status (status == 2) data
  if (regionOf addr).isNone then answer m 1 []
  else if m.drmMay (pathRole p) (op == 2) addr 64 = false ∨ m.drmServed addr = false then answer m 2 []
  else if op = 2 then
    let octets := (List.range 8).flatMap fun k => toBytes 8 (m.rd .DRM_WIN_DATA (8 * n + k)).toNat
    if m.writeRoom addr then answer (m.drmStore (.window n) (pathHedge p) addr octets) 0 []
    else answer (m.withDrm { m.drm with stores := m.drm.stores ++ [(n, pathHedge p, addr, octets)] }) 0 []
  else
    match m.drmAskRead (.window n) (pathHedge p) addr 64 with
    | (.forwarded octets, m) => answer m 0 (granuleRegs n octets)
    | (_, m) => answer m 0 []

/-- A command of GRF_CMD (R454): the outcomes of its tests are what the tests found. -/
def Mod.graftWindow (m : Mod) (p : Path) (w : Word) (passed : Bool) (failing : List Nat) : Mod :=
  let r := m.grfCommand (GRF_CMD_OP.of w) (GRF_CMD_CLASS.of w) (GRF_CMD_LOCATION.of w) passed failing
  r.2.winAnswer p .grf .GRF_CMD 0 GRF_CMD_BUSY GRF_CMD_STATUS w r.1 (r.1 == 3) []

/-! ### Which window a register belongs to -/

/-- The window set of a register, and whether it is the set's command register; none for any other register (R371). -/
def windowOf (n : Nat) (r : Reg) (i : Nat) : Option (WinId × Bool) :=
  match r with
  | .PAR_WIN_CMD => some (.par, true)
  | .PAR_WIN_W0 => some (.par, false)
  | .PAR_WIN_W1 => some (.par, false)
  | .CLS_RULE_CMD => some (.cls n, true)
  | .CLS_RULE_ACT => some (.cls n, false)
  | .CLS_RULE_KEY => some (.cls n, false)
  | .CLS_RULE_MASK => some (.cls n, false)
  | .FDB_WIN_CMD => some (.fdb n, true)
  | .FDB_WIN_DATA0 => some (.fdb n, false)
  | .FDB_WIN_DATA1 => some (.fdb n, false)
  | .FDB_TBL_CMD => some (.tbl n, true)
  | .FDB_TBL_DATA => some (.tbl n, false)
  | .LPM_WIN_CMD => some (.lpm n, true)
  | .LPM_WIN_DATA => some (.lpm n, false)
  | .QUE_VOQ_CMD => some (.voq, true)
  | .QUE_VOQ_DATA0 => some (.voq, false)
  | .QUE_VOQ_DATA1 => some (.voq, false)
  | .QUE_EDIT_CMD => some (.edit, true)
  | .QUE_EDIT_DATA => some (.edit, false)
  | .SCH_GATE_WIN_CMD => some (.gate n, true)
  | .SCH_GATE_WIN_DATA => some (.gate n, false)
  | .SHP_WIN_CMD => some (.shp n, true)
  | .SHP_WIN_DATA => some (.shp n, false)
  | .POL_WIN_CMD => some (.pol n, true)
  | .POL_WIN_DATA0 => some (.pol n, false)
  | .POL_WIN_DATA1 => some (.pol n, false)
  | .ENG_CS_WIN_CMD => some (.cs i, true)
  | .ENG_CS_WIN_DATA0 => some (.cs i, false)
  | .ENG_CS_WIN_DATA1 => some (.cs i, false)
  | .ENG_CS_WIN_DATA2 => some (.cs i, false)
  | .EPC_SAMPLE_CMD => some (.sample i, true)
  | .EPC_SAMPLE_DATA0 => some (.sample i, false)
  | .EPC_SAMPLE_DATA1 => some (.sample i, false)
  | .DRM_WIN_CMD => some (.dram n, true)
  | .DRM_WIN_DATA => some (.dram n, false)
  | .GRF_CMD => some (.grf, true)
  | _ => none

/-- A window set's command is in progress. -/
def Mod.winBusy (m : Mod) (w : WinId) : Bool := m.win.busy.any (·.win == w)

/-- OP of a window's command register. -/
def winOp (r : Reg) : Option Fld :=
  match r with
  | .PAR_WIN_CMD => some PAR_WIN_CMD_OP
  | .CLS_RULE_CMD => some CLS_RULE_CMD_OP
  | .FDB_WIN_CMD => some FDB_WIN_CMD_OP
  | .FDB_TBL_CMD => some FDB_TBL_CMD_OP
  | .LPM_WIN_CMD => some LPM_WIN_CMD_OP
  | .QUE_VOQ_CMD => some QUE_VOQ_CMD_OP
  | .QUE_EDIT_CMD => some QUE_EDIT_CMD_OP
  | .SCH_GATE_WIN_CMD => some SCH_GATE_WIN_CMD_OP
  | .SHP_WIN_CMD => some SHP_WIN_CMD_OP
  | .POL_WIN_CMD => some POL_WIN_CMD_OP
  | .ENG_CS_WIN_CMD => some ENG_CS_WIN_CMD_OP
  | .DRM_WIN_CMD => some DRM_WIN_CMD_OP
  | .GRF_CMD => some GRF_CMD_OP
  | _ => none

/-- STATUS of a window's command register, and its value for a reserved encoding (R528). -/
def winReservedStatus (r : Reg) : Option (Fld × Nat) :=
  match r with
  | .PAR_WIN_CMD => some (PAR_WIN_CMD_STATUS, 3)
  | .CLS_RULE_CMD => some (CLS_RULE_CMD_STATUS, 3)
  | .FDB_WIN_CMD => some (FDB_WIN_CMD_STATUS, 6)
  | .FDB_TBL_CMD => some (FDB_TBL_CMD_STATUS, 3)
  | .LPM_WIN_CMD => some (LPM_WIN_CMD_STATUS, 3)
  | .QUE_VOQ_CMD => some (QUE_VOQ_CMD_STATUS, 3)
  | .QUE_EDIT_CMD => some (QUE_EDIT_CMD_STATUS, 3)
  | .SCH_GATE_WIN_CMD => some (SCH_GATE_WIN_CMD_STATUS, 4)
  | .SHP_WIN_CMD => some (SHP_WIN_CMD_STATUS, 3)
  | .POL_WIN_CMD => some (POL_WIN_CMD_STATUS, 3)
  | .ENG_CS_WIN_CMD => some (ENG_CS_WIN_CMD_STATUS, 4)
  | .DRM_WIN_CMD => some (DRM_WIN_CMD_STATUS, 4)
  | .GRF_CMD => some (GRF_CMD_STATUS, 5)
  | _ => none

/-- A command whose register holds no reserved encoding (R372). -/
def Mod.winCommand (m : Mod) (p : Path) (r : Reg) (i : Nat) (w : Word) (passed : Bool) (failing : List Nat) : Mod :=
  match r with
  | .PAR_WIN_CMD => m.parseWindow p w
  | .CLS_RULE_CMD => m.ruleWindow p w
  | .FDB_WIN_CMD => m.fdbWindow p w
  | .FDB_TBL_CMD => m.tableWindow p w
  | .LPM_WIN_CMD => m.lpmWindow p w
  | .QUE_VOQ_CMD => m.voqWindow p w
  | .QUE_EDIT_CMD => m.editWindow p w
  | .SCH_GATE_WIN_CMD => m.gateWindow p w
  | .SHP_WIN_CMD => m.shaperWindow p w
  | .POL_WIN_CMD => m.policerWindow p w
  | .ENG_CS_WIN_CMD => m.storeWindow p i w
  | .EPC_SAMPLE_CMD => m.sampleWindow p i w
  | .DRM_WIN_CMD => m.dramWindow p w
  | _ => m.graftWindow p w passed failing

/-- Entries learned while a FLUSH walked may have met it: the walk's place is not stated, and is a free value (R111). -/
def Mod.flushTail (m : Mod) (c : WinCmd) : Mod :=
  match c.win with
  | .fdb n =>
    let s := m.freshNat
    let w := s.2.rd .FDB_WIN_CMD n
    let d := s.2.fdbData n
    let from_ := s.1 % (fdbLocations + 1)
    let hedge := if 1 ≤ n ∧ n ≤ 16 then some (n - 1) else none
    let gone := s.2.fwd.fdb.filter fun e => decide (from_ ≤ e.1) && flushTakes w hedge d e.2
    let m := gone.foldl (fun m e => m.fdbSet e.1 0) s.2
    (List.range 16).foldl (fun m h =>
      let k := (gone.filter fun e => fidHedge (feFid e.2) == h).length
      if k = 0 then m else m.bump (fdbCtr h 18) k) m
  | _ => m

/-- A window command completes (R372): its results stand and BUSY clears. The writes it held are taken by the caller. -/
def Mod.winDone (m : Mod) (w : WinId) : Mod :=
  match m.win.busy.find? (·.win == w) with
  | none => m
  | some c =>
    let m := if c.walk = 1 then m.flushTail c else m.ruleLands c
    let m := c.result.foldl (fun m x => m.wr x.1 x.2.1 x.2.2) m
    let m := m.set ⟨c.cmd, c.busyBit, 1⟩ c.idx 0
    m.withWin { m.win with busy := m.win.busy.filter fun x => x.seq != c.seq }

end Sys2Proof.Machine
end

