-- ==== Sys2Proof/Machine/Trig.lean ====
section
/-! DEFINITION. The trigger pins (Connector and Signals): capture of TRIG_IN edges, their FIFOs, and the functions of the TRIG_OUT
pins. -/

namespace Sys2Proof.Machine

/-- A trigger event (R514): its bit of TRG_EVENT, and the pin in detail [15:8]. -/
def Mod.trigEvent (m : Mod) (code pin low : Nat) : Mod :=
  (m.sqcBit TRG_EVENT_EVENTS (code - 0x0B) 0).event { blk := 0x04, code := code, detail := pin * 2 ^ 8 + low }

/-- The records pin n holds, oldest first. -/
def Mod.trigFifo (m : Mod) (n : Nat) : List TrigRec := (lookup m.pin.trig n).getD []

/-- DROPPED of pin n raised (R507). -/
def Mod.trigDropped (m : Mod) (n : Nat) : Mod := m.satAdd ⟨.TRG_STATUS, 32 + 8 * n, 8⟩ 0

/-- The INDEX of the next record of pin n (R506). -/
def Mod.trigIndex (m : Mod) (n : Nat) : Nat := lookupD m.pin.index n 0

/-- An accepted edge pushed into the FIFO of pin n, or dropped when it holds 16 records (R505 to R507). -/
def Mod.trigPush (m : Mod) (n stamp : Nat) (rising : Bool) : Mod :=
  let q := m.trigFifo n
  if 16 ≤ q.length then
    let m := m.trigDropped n
    let key := 0x40C0000 + n
    let g := m.rateGate key
    if g.1 then g.2.trigEvent 0x0C n 0 else m
  else
    let k := m.trigIndex n
    let x : TrigRec := { index := k, stamp := stamp, rising := rising, usable := m.flag TIM_STATUS_USABLE }
    let m := m.withPin { m.pin with trig := store m.pin.trig n (q ++ [x]), index := store m.pin.index n ((k + 1) % 65536) }
    if m.flag TRG_IN_CFG_EVT_EN n then
      (m.sqcBit TRG_EVENT_EVENTS 0 0).event
        { blk := 0x04, code := 0x0B,
          detail := timeNs stamp * 2 ^ 30 + k % 2 ^ 14 * 2 ^ 16 + n * 2 ^ 8 + (if rising then 1 else 2) }
    else m

/-- TRIG_EDGE (R505): the level of TRIG_IN n has changed and held for the filter time; ago is how many quarter nanoseconds the edge at
the pin lies before the filter time. The edge is captured when EDGE selects it and the pin's last accepted edge is FILTER × 4 ns + 8 ns past. -/
def Mod.trigEdge (m : Mod) (n : Nat) (rising : Bool) (ago : Nat) : Mod :=
  let level := if rising then m.pin.trigIn ||| 2 ^ n else m.pin.trigIn &&& (15 - 2 ^ n)
  let m := m.withPin { m.pin with trigIn := level }
  let filter := 4 * m.get TRG_IN_CFG_FILTER n
  let edge := m.get TRG_IN_CFG_EDGE n
  let wanted := edge == 3 || (edge == 1 && rising) || (edge == 2 && !rising)
  let spaced := match lookup m.pin.lastEdge n with
    | some t => decide (t + filter + 8 ≤ m.now)
    | none => true
  if wanted && spaced then
    let back := ((filter + m.get TRG_IN_CFG_DELAY_NS n) * 4 + ago) * (unitsPerNs / 4)
    (m.withPin { m.pin with lastEdge := store m.pin.lastEdge n m.now }).trigPush n (stampNet (m.time.net - back)) rising
  else m

/-- A write to TRG_IN_POP of pin n (R506). -/
def Mod.trigPop (m : Mod) (n index : Nat) : Mod :=
  match m.trigFifo n with
  | x :: t => if x.index = index then m.withPin { m.pin with trig := store m.pin.trig n t } else m.satAdd TRG_STATUS_STALE_POPS 0
  | [] => m.satAdd TRG_STATUS_STALE_POPS 0

/-- TRG_IN_HEAD0 of pin n. -/
def Mod.trigHead0 (m : Mod) (n : Nat) : Nat :=
  match m.trigFifo n with
  | x :: t => 2 ^ 63 + b01 x.rising * 2 ^ 62 + b01 x.usable * 2 ^ 61 + (t.length + 1) * 2 ^ 56 + timeSec x.stamp
  | [] => 0

/-- TRG_IN_HEAD1 of pin n. -/
def Mod.trigHead1 (m : Mod) (n : Nat) : Nat :=
  match m.trigFifo n with
  | x :: _ => x.index * 2 ^ 48 + timeNs x.stamp * 2 ^ 16 + timeFrac x.stamp
  | [] => 0

/-- The level of TRIG_OUT n (R509, R511). -/
def Mod.trigOut (m : Mod) (n : Nat) : Bool :=
  let inv := m.flag TRG_OUT_CFG_INVERT n
  match m.get TRG_OUT_CFG_FUNC n with
  | 1 => m.time.ppsOutEnd.any (fun e => decide (m.now < e)) != inv
  | 2 => m.gateOpen (m.get TRG_OUT_CFG_PORT n) (m.get TRG_OUT_CFG_CLASS n) != inv
  | 3 => decide (m.now < lookupD m.pin.pulse n 0) != inv
  | 4 => m.flag TRG_OUT_LEVEL_LEVEL n != inv
  | 5 => decide (m.now < lookupD m.pin.pulse n 0) != inv
  | _ => false

/-- The pulses of the pins that follow the tick begin at the boundary that has come, by its tick number (R509). -/
def Mod.trigTick (m : Mod) : Mod :=
  (List.range 4).foldl (fun m n =>
    let d := m.get TRG_OUT_CFG_DIV n
    if m.get TRG_OUT_CFG_FUNC n = 5 ∧ d ≠ 0 ∧ m.tick.boundary / (m.period * unitsPerNs) % d = 0 then
      m.withPin { m.pin with pulse := store m.pin.pulse n (m.now + 4 * m.get TRG_OUT_CFG_PULSE n) }
    else m) m

/-- A refused write to a trigger output (R510, R515). -/
def Mod.trigRefused (m : Mod) (n q : Nat) : Mod := m.trigEvent 0x0D n q

/-- A write to TRG_OUT_CFG of pin n whose value is to be new (R510): whether it was accepted. -/
def Mod.trgOutCfgWrite (m : Mod) (n : Nat) (new : Word) : Bool × Mod :=
  let f := TRG_OUT_CFG_FUNC.of new
  let cur := m.get TRG_OUT_CFG_FUNC n
  if f ≠ 0 ∧ cur ≠ 0 ∧ f ≠ cur then (false, (m.satAdd TRG_STATUS_REFUSED_OUT 0).trigRefused n 1)
  else if (f = 2 ∨ f = 3) ∧ m.portType (TRG_OUT_CFG_PORT.of new) = 0 then (false, m.trigRefused n 4)
  else
    let m := m.wr .TRG_OUT_CFG n new
    (true, if f = cur then m else m.withPin { m.pin with pulse := remove m.pin.pulse n })

/-- A write to TRG_OUT_LEVEL of pin n (R510): whether it was accepted. -/
def Mod.trgOutLevelWrite (m : Mod) (n : Nat) (new : Word) : Bool × Mod :=
  if m.get TRG_OUT_CFG_FUNC n = 4 then (true, m.wr .TRG_OUT_LEVEL n new) else (false, m.trigRefused n 2)

end Sys2Proof.Machine
end

