-- ==== Sys2Proof/Machine/Fences.lean ====
section
/-! DEFINITION. Fences and the tick period (The Tick, Staged Commits and Fences). -/

namespace Sys2Proof.Machine

/-- The marker of a fence enters event ring h, or waits for room (R37, R375). -/
def Mod.fenceRing (m : Mod) (token h : Nat) : Mod :=
  if m.ringFull h || m.evt.markers.any (·.1 == h) then m.withEvt { m.evt with markers := m.evt.markers ++ [(h, token)] }
  else m.ringWrite h { blk := 0x01, code := 0x01, detail := token }

/-- The fence job of a cluster's job queue k, or its marker that waits for a place (R37, R284). -/
def Mod.fenceQueue (m : Mod) (token c k : Nat) : Mod :=
  let cl := m.cl c
  if cl.queueFull k then m.setCl c { cl with markers := cl.markers ++ [(k, token)] } else m.setCl c (cl.push k (fenceJob k token))

/-- GLB_FENCE_DONE.PENDING shows the outstanding fences. -/
def Mod.fencesShown (m : Mod) : Mod := m.set GLB_FENCE_DONE_PENDING 0 m.tick.fences.length

/-- The commit by which every write staged so far is in force (R37). -/
def Mod.stagedBy (m : Mod) : Nat :=
  m.commits + (if m.tick.next.isEmpty then (if m.tick.now.isEmpty then 0 else 1) else 2)

/-- A write to GLB_FENCE (R37, R38): whether it is accepted. -/
def Mod.fence (m : Mod) (token : Nat) : Bool × Mod :=
  if token = 0 then (false, m)
  else if 16 ≤ m.tick.fences.length then (false, (m.sqc GLB_TICK_STATUS_FENCE_REFUSED).event (glbEv 0x09 0))
  else
    let f : FenceWait := { token := token, winSeq := m.win.seq, commit := m.stagedBy, period := m.tick.periodSeq }
    let m := (List.range 16).foldl (fun m h => (m.fenceRing token h).clipFence h token) m
    let m := (List.range 4).foldl (fun m c => (List.range 4).foldl (fun m k => m.fenceQueue token c k) m) m
    (true, (m.withTick { m.tick with fences := m.tick.fences ++ [f] }).fencesShown)

/-- Every write accepted before a fence has taken effect (R37). -/
def Mod.fenceReady (m : Mod) (f : FenceWait) : Bool :=
  decide (f.commit ≤ m.commits) && decide (f.period ≤ m.tick.periodDone) && m.win.busy.all fun c => decide (f.winSeq < c.seq)

/-- FENCE_DONE (R37, R38): the oldest outstanding fence completes. -/
def Mod.fenceDone (m : Mod) : Mod :=
  match m.tick.fences with
  | f :: t =>
    if m.fenceReady f then
      (((m.withTick { m.tick with fences := t }).set GLB_FENCE_DONE_TOKEN 0 f.token).fencesShown).pfCause 16
    else m
  | [] => m

/-- A write to GLB_TICK_FENCE (R39): BUSY is set until the next commit, which makes the token readable. -/
def Mod.tickFence (m : Mod) (token : Nat) : Mod := (m.withTick { m.tick with fenceTok := token }).set GLB_TICK_FENCE_BUSY 0 1

/-- A gate list or a launch queue is enabled on some port (R26). -/
def Mod.schedulesRun (m : Mod) : Bool :=
  (List.range 128).any fun p => m.flag SCH_PORT_CFG_GATE_EN p || m.flag SCH_PORT_CFG_LAUNCH_EN p

/-- The next whole second of network time. -/
def Mod.nextSecond (m : Mod) : Nat := (m.time.net / unitsPerS + 1) * unitsPerS

/-- A period change is refused (R26). -/
def Mod.periodRefused (m : Mod) : Mod := (m.sqc GLB_TICK_STATUS_PERIOD_REFUSED).event (glbEv 0x0A 0)

/-- A write of PERIOD (R26): whether it is accepted. -/
def Mod.periodWrite (m : Mod) (code : Nat) : Bool × Mod :=
  if m.schedulesRun then (false, m.periodRefused)
  else
    (true, (m.withTick { m.tick with periodPend := some (code, m.nextSecond), periodSeq := m.tick.periodSeq + 1 }).set
      GLB_TICK_CFG_PERIOD_PEND 0 1)

/-- The first tick boundary after an instant, for a period in nanoseconds (R24): a multiple of it within its second. -/
def boundaryAfter (net periodNs : Nat) : Nat :=
  let s := net / unitsPerS * unitsPerS
  s + ((net - s) / (periodNs * unitsPerNs) + 1) * (periodNs * unitsPerNs)

/-- PERIOD_CHANGE (R26): the whole second has come, and the pending period holds from it; it is refused when a gate list or a launch queue has been
enabled since. -/
def Mod.periodChange (m : Mod) : Mod :=
  match m.tick.periodPend with
  | none => m
  | some (code, due) =>
    let m := m.advanceNet (Nat.min due m.nextSecond)
    let m := (m.withTick { m.tick with periodPend := none, periodDone := m.tick.periodSeq }).set GLB_TICK_CFG_PERIOD_PEND 0 0
    if m.schedulesRun then m.periodRefused
    else
      let m := m.set GLB_TICK_CFG_PERIOD 0 code
      let b := if m.time.net < m.tick.boundary then boundaryAfter m.time.net m.period else m.tick.boundary
      m.withTick { m.tick with boundary := b }

end Sys2Proof.Machine
end

