-- ==== Sys2Proof/Machine/NetTime.lean ====
section
/-! DEFINITION. Network time (R203 to R218, R229 to R234): steering the counter, time states, references and the reference monitor, PPS
input and output, islands. -/

namespace Sys2Proof.Machine

/-! ### Events and time states -/

/-- Parts per billion in the monitor's unit of 10⁻¹⁵. -/
def ppb : Int := 1000000

/-- Time units of 2⁻¹⁶ ns (R204). -/
def offsetUnits : Int := 100000000

/-- The rings of TSTATE and STEP: the root Hedge and every Hedge with an enabled instance (R233). -/
def Mod.timeRings (m : Mod) : List Nat := 0 :: (List.range 16).filter fun h => m.flag TIM_INST_CFG_EN h

/-- A refused write to the time registers (R206, R213). -/
def Mod.timRefused (m : Mod) (q : Nat) : Mod :=
  ((m.bump (timCtr 4)).sqc TIM_EVENT_REFUSED).event { blk := 0x04, code := 0x06, detail := q }

/-- The time state. -/
def Mod.tstate (m : Mod) : Nat := m.get TIM_STATUS_TSTATE

/-- The selected reference, 4 for none (R216). -/
def Mod.selRef (m : Mod) : Nat := if m.flag TIM_STATUS_SEL_VALID then m.get TIM_STATUS_SELECTED else 4

/-- A time-bearing reference is selected (R209). -/
def Mod.timeBearing (m : Mod) : Bool := decide (m.selRef < 2)

/-- A pulse that OUT_MODE no longer lets PPS_OUT give ends: the pin is low (R231). -/
def Mod.ppsGate (m : Mod) : Mod :=
  let mode := m.get TIM_PPS_CFG_OUT_MODE
  if mode = 1 ∨ (mode = 2 ∧ m.flag TIM_STATUS_USABLE) then m else m.withTime { m.time with ppsOutEnd := none }

/-- USABLE brought up to date (R209), with the holds that follow it (R190), the gates they close under a frame (R188), and PPS_OUT (R231). -/
def Mod.usableUpdate (m : Mod) : Mod :=
  let before := m
  let m := m.set TIM_STATUS_USABLE 0 (b01 (m.tstate == 2 || (m.tstate == 3 && m.flag TIM_HOLD_CFG_HOLD_PERMIT)))
  let m := (m.buf.tx.filter fun e => decide (e.1 < 128)).foldl (fun m e => m.gateOverruns before e.1) m
  m.holdUpdateAll.ppsGate

/-- OCXO x (2 for A, 3 for B). -/
def TimeSt.ocxo (t : TimeSt) (x : Nat) : OcxoSt := if x = 2 then t.ocxoA else t.ocxoB

/-- OCXO x replaced. -/
def TimeSt.setOcxo (t : TimeSt) (x : Nat) (o : OcxoSt) : TimeSt := if x = 2 then { t with ocxoA := o } else { t with ocxoB := o }

/-- The mean of a list of whole numbers, rounded down. -/
def meanOf (l : List Int) : Int := l.foldl (· + ·) 0 / (Nat.max 1 l.length : Nat)

/-- The reference the PLL runs from (R203): its number, none when no input is present. -/
def Mod.pllRef (m : Mod) : Option Nat :=
  if m.selRef = 1 then some 1
  else ((List.range 4).map fun k => m.get TIM_REF_PRIO_ORDER / 4 ^ k % 4).find? fun r =>
    decide (2 ≤ r) && m.get TIM_REF_STATUS_STATE r != 0

/-- PLL_INPUT of a reference (TIM_STATUS). -/
def pllCode : Option Nat → Nat
  | some 2 => 0
  | some 3 => 1
  | some 1 => 2
  | _ => 3

/-- What the monitor last measured of a PLL input, from its PLL_INPUT code (R203). -/
def Mod.inputMeas (m : Mod) (code : Nat) : Int :=
  match code with
  | 0 => m.time.measA
  | 1 => m.time.measB
  | 2 => m.time.meas10
  | _ => 0

/-- The control word the PLL applies replaced. -/
def Mod.setWord (m : Mod) (w : Int) : Mod := m.withTime { m.time with pllWord := w }

/-- The time state is HOLDOVER or EXPIRED. -/
def Mod.inHoldover (m : Mod) : Bool := m.tstate == 3 || m.tstate == 4

/-- Time runs at its holdover rate: in holdover, or as an island's master (R211, R217). -/
def Mod.holdRate (m : Mod) : Bool := m.inHoldover || (m.tstate == 2 && m.flag TIM_ISLAND_MASTER)

/-- The PLL applies no write of TIM_FREQ: time runs at its holdover rate, and no time-bearing reference has been selected again since (R211). -/
def Mod.freqFrozen (m : Mod) : Bool := m.holdRate && !m.time.holdSel

/-- The holdover word for the PLL's input: its mean, or the word given (R211). -/
def Mod.holdWord (m : Mod) (code : Nat) (word : Int) : Mod :=
  let words := if code = 0 then m.time.ocxoA.words else if code = 1 then m.time.ocxoB.words else []
  let w := if words = [] then word else meanOf words
  (m.setWord w).set TIM_HOLD_FREQ_FREQ 0 (unsigned 40 w)

/-- The PLL input brought up to date: a change rescales the word, or applies the other OCXO's mean in holdover (R203, R211). -/
def Mod.pllUpdate (m : Mod) : Mod :=
  let old := m.get TIM_STATUS_PLL_INPUT
  let new := pllCode m.pllRef
  if old = new then m
  else
    let m := m.set TIM_STATUS_PLL_INPUT 0 new
    if new = 3 ∨ old = 3 then m
    else
      let word := m.time.pllWord + (m.inputMeas old - m.inputMeas new)
      if m.freqFrozen then m.holdWord new word else m.setWord word

/-- The time state changes (R210, R211, R233). -/
def Mod.setTstate (m : Mod) (new : Nat) : Mod :=
  let old := m.tstate
  if old = new then m
  else
    let m := m.set TIM_STATUS_TSTATE 0 new
    let m := m.withTime { m.time with lockRun := 0 }
    let m := if new = 3 then
        let m := (m.bump (timCtr 2)).set TIM_STATUS_HOLD_MIN 0 0
        (m.withTime { m.time with holdAt := m.now, holdSel := false }).holdWord (m.get TIM_STATUS_PLL_INPUT) m.time.pllWord
      else m
    (m.usableUpdate.sqc TIM_EVENT_TSTATE).event
      { blk := 0x04, code := 0x01, detail := old * 256 + new, rings := m.timeRings }

/-! ### Selection -/

/-- The references in priority order that are enabled and GOOD (R216). -/
def Mod.goodRefs (m : Mod) : List Nat :=
  ((List.range 4).map fun k => m.get TIM_REF_PRIO_ORDER / 4 ^ k % 4).filter fun r =>
    (m.get TIM_REF_PRIO_EN).testBit r && m.get TIM_REF_STATUS_STATE r == 2

/-- The place of a reference in the priority order. -/
def Mod.rank (m : Mod) (r : Nat) : Nat := ((List.range 4).find? fun k => m.get TIM_REF_PRIO_ORDER / 4 ^ k % 4 == r).getD 4

/-- Record of reference r. -/
def TimeSt.refSt (t : TimeSt) (r : Nat) : RefSt :=
  match r with
  | 0 => t.ref0
  | 1 => t.ref1
  | 2 => t.ref2
  | _ => t.ref3

/-- Record of reference r replaced. -/
def TimeSt.setRefSt (t : TimeSt) (r : Nat) (x : RefSt) : TimeSt :=
  match r with
  | 0 => { t with ref0 := x }
  | 1 => { t with ref1 := x }
  | 2 => { t with ref2 := x }
  | _ => { t with ref3 := x }

/-- The selection changes (R216). -/
def Mod.selectRef (m : Mod) (new : Nat) : Mod :=
  let old := m.selRef
  if old = new then m
  else
    let m := (m.set TIM_STATUS_SEL_VALID 0 (b01 (new != 4))).set TIM_STATUS_SELECTED 0 (if new = 4 then 0 else new)
    let m := m.withTime { m.time with switchAt := m.now }
    let m := if new < 2 ∧ m.freqFrozen then m.setWord (signed 40 (m.get TIM_FREQ_FREQ)) else m
    let m := m.withTime { m.time with holdSel := decide (new < 2) }
    ((m.bump (timCtr 1)).sqc TIM_EVENT_REF).event { blk := 0x04, code := 0x03, detail := old * 256 + new }

/-- The reference that stands after R216: the selected one, or the next. -/
def Mod.nextRef (m : Mod) : Nat :=
  let old := m.selRef
  let best := m.goodRefs.headD 4
  if old = 4 then best
  else
    let st := m.get TIM_REF_STATUS_STATE old
    if st = 0 ∨ st = 4 ∨ (m.get TIM_REF_PRIO_EN).testBit old = false then best
    else if m.flag TIM_MON_CFG_REVERT then
      (m.goodRefs.find? fun r => decide (m.rank r < m.rank old) &&
        decide (m.get TIM_MON_CFG_WTR_S ≤ (m.time.refSt r).goodS)).getD old
    else old

/-- What the loss of the selected time-bearing reference does to the time state (R210). An island's master keeps LOCKED. -/
def Mod.lostReference (m : Mod) : Mod :=
  if m.timeBearing then m
  else if m.tstate = 1 ∧ m.goodRefs.all (fun r => decide (2 ≤ r)) then m.setTstate 0
  else if m.tstate = 2 ∧ m.flag TIM_ISLAND_MASTER = false then m.setTstate 3
  else m

/-- Selection, PLL input and time state brought up to date after a reference or its settings changed (R203, R210, R216). While the REF domain is
out of service, the selected reference stays selected (R16). -/
def Mod.reselect (m : Mod) : Mod := if m.time.monitorUp then ((m.selectRef m.nextRef).lostReference).pllUpdate else m

/-- Reference r takes a state (R215); none while its monitoring is suspended (R16). -/
def Mod.setRefState (m : Mod) (r new : Nat) : Mod :=
  if m.get TIM_REF_STATUS_STATE r = new ∨ m.time.monitorUp = false then m
  else
    let m := (m.set TIM_REF_STATUS_STATE r new).set TIM_REF_STATUS_STATE_S r 0
    let m := m.withTime (m.time.setRefSt r { m.time.refSt r with within := 0, beyond := 0, goodS := 0 })
    (m.sqc TIM_EVENT_REF).event { blk := 0x04, code := 0x02, detail := r * 256 + new }

/-- A reference that was ABSENT is present again. -/
def Mod.refPresent (m : Mod) (r : Nat) : Mod :=
  if m.get TIM_REF_STATUS_STATE r = 0 then (m.setRefState r 1).pllUpdate else m

/-! ### Steering -/

/-- Network time at the commit that applies a step or set accepted now: 16 ns after the next tick boundary (R25, R206). -/
def Mod.commitNet (m : Mod) : Nat := Nat.max m.tick.boundary m.time.net + 16 * unitsPerNs

/-- The counter at an instant of time units would be out of the range of the seconds field (R206). -/
def outOfRange (v : Int) : Bool := decide (v < 0) || decide (((2 ^ 48 * unitsPerS : Nat) : Int) ≤ v)

/-- An OFFSET was written: what R210 counts of it, and the changes of the time state that follow it. slewed tells how it is applied. -/
def Mod.offsetWritten (m : Mod) (off : Int) (slewed : Bool) : Mod :=
  let lock : Int := m.get TIM_SERVO_CFG_LOCK_NS * 65536
  let big := decide (lock * 10 < off.natAbs)
  let grace := decide (m.now < m.time.switchAt + m.get TIM_SERVO_CFG_LOCK_S * oneSecond) || m.flag TIM_ISLAND_REJOINING
  let m := m.withTime { m.time with adjWithin := m.time.adjWithin && decide ((off.natAbs : Int) ≤ lock) }
  if m.tstate = 2 ∧ big = true ∧ grace = false then m.setTstate 1
  else if m.inHoldover ∧ m.timeBearing then m.setTstate (if slewed then 2 else 1)
  else m

/-- A TIM_ADJ write is accepted: the servo is alive (R210), and any pending step or set is replaced (R206). -/
def Mod.adjAccepted (m : Mod) (pend : Option AdjPend) : Mod :=
  let m := m.withTime { m.time with adj := pend, adjAt := m.now, adjWrites := m.time.adjWrites + 1 }
  m.set TIM_STATUS_STEP_PEND 0 (b01 pend.isSome)

/-- A slew by OFFSET (R205). -/
def Mod.slewBy (m : Mod) (off : Int) : Mod :=
  let m := m.adjAccepted none
  (m.withTime { m.time with slew := off * offsetUnits }).offsetWritten off true

/-- A step by OFFSET is requested (R206): its range is judged at the commit that will apply it. -/
def Mod.stepBy (m : Mod) (off : Int) : Mod :=
  if outOfRange (m.commitNet + off * offsetUnits) then m.timRefused 2
  else (m.adjAccepted (some (.step off))).offsetWritten off false

/-- A set is requested (R204, R206): the set registers are captured now. -/
def Mod.setBy (m : Mod) : Mod :=
  let ns := m.get TIM_SET_NS_NS
  if 1000000000 ≤ ns then m.timRefused 1
  else
    let v := m.get TIM_SET_SEC_SEC * unitsPerS + ns * unitsPerNs + m.get TIM_SET_NS_FRAC * 100000000
    if outOfRange ((v : Int) + (m.commitNet - m.time.net)) then m.timRefused 2 else m.adjAccepted (some (.set v m.now))

/-- A write to TIM_ADJ (R204 to R206). -/
def Mod.timAdj (m : Mod) (w : Word) : Mod :=
  let off := signed 62 (TIM_ADJ_OFFSET.of w)
  match TIM_ADJ_MODE.of w with
  | 0 =>
    if m.flag TIM_SERVO_CFG_STEP_EN = false ∨ off.natAbs ≤ m.get TIM_SERVO_CFG_STEP_US * 1000 * 65536 then m.slewBy off
    else m.stepBy off
  | 1 => m.stepBy off
  | 2 => m.slewBy off
  | _ => m.setBy

/-- Time moves by d units at a commit (R27, R206 to R208, R210, R231); kind is the STEP qualifier. -/
def Mod.applyStep (m : Mod) (d : Int) (kind : Nat) : Mod :=
  let m := m.withTime { m.time with net := ((m.time.net : Int) + d).toNat, slew := 0, adj := none, ppsOutEnd := none,
                                    lastStep := some (m.now, d) }
  let m := (m.set TIM_STATUS_STEP_PEND 0 0).stepSchedules d
  let ns := unsigned 44 (clampSigned 44 (d / (unitsPerNs : Int)))
  let m := ((m.bump (timCtr 0)).sqc TIM_EVENT_STEP).event
    { blk := 0x04, code := 0x04, detail := ns * 65536 + kind, rings := m.timeRings }
  if m.tstate = 0 ∧ m.timeBearing then m.setTstate 1 else if m.tstate = 2 then m.setTstate 1 else m

/-- The pending step or set is applied (R206): whether there was one. -/
def Mod.applyAdj (m : Mod) : Bool × Mod :=
  match m.time.adj with
  | some (.step off) => (true, m.applyStep (off * offsetUnits) (if off < 0 then 2 else 1))
  | some (.set v at_) =>
    (true, m.applyStep (((v + (m.now - at_) * unitsPerNs : Nat) : Int) - m.time.net) 3)
  | none => (false, m)

/-- SLEW_DONE (R205): the slew's remainder reaches zero. -/
def Mod.slewDone (m : Mod) : Mod := m.advance m.slewCycles

/-- A write to TIM_FREQ whose value has been stored takes effect, unless time runs on its holdover rate (R203, R211). -/
def Mod.freqWritten (m : Mod) : Mod :=
  if m.freqFrozen then m else m.setWord (signed 40 (m.get TIM_FREQ_FREQ))

/-- The ORDER of a word names each reference once (R213). -/
def orderGood (w : Word) : Bool :=
  let o := TIM_REF_PRIO_ORDER.of w
  (((List.range 4).map fun k => o / 4 ^ k % 4).eraseDups).length == 4

/-- A write to TIM_REF_PRIO whose value is to be new (R213, R216). -/
def Mod.refPrioWrite (m : Mod) (new : Word) : Mod :=
  if orderGood new then (m.wr .TIM_REF_PRIO 0 new).reselect else m.timRefused 4

/-- A write to TIM_PTP_MEAS whose value has been stored (R214, R215). -/
def Mod.ptpMeasured (m : Mod) : Mod :=
  (m.withTime { m.time with ref0 := { m.time.ref0 with lastSeen := m.now } }).refPresent 0

/-- A write to TIM_ISLAND whose value is to be new (R210, R218, R234). -/
def Mod.islandWrite (m : Mod) (new : Word) : Mod :=
  let old := m.rd .TIM_ISLAND 0
  if old = new then m
  else
    let m := if TIM_ISLAND_REJOINING.of new = 1 ∧ TIM_ISLAND_REJOINING.of old = 0 then
        m.withTime { m.time with switchAt := m.now } else m
    let m := ((m.wr .TIM_ISLAND 0 new).sqc TIM_EVENT_ISLAND).event { blk := 0x04, code := 0x09, detail := new.toNat % 8 }
    if m.inHoldover ∧ m.flag TIM_ISLAND_MASTER ∧ m.flag TIM_ISLAND_ISLAND then m.setTstate 2 else m

/-! ### The reference monitor -/

/-- A reference in a window: its number and its frequency against the monitor's clock, learned offsets removed. -/
structure RefFreq where
  id : Nat
  f : Int
  deriving DecidableEq, Repr

/-- The frequencies of the references present in a window (R214). -/
def Mod.refFreqs (m : Mod) (x : MonMeas) : List RefFreq :=
  let present (r : Nat) : Bool := m.get TIM_REF_STATUS_STATE r != 0
  let one (r : Nat) (f : Option Int) : List RefFreq :=
    match f with
    | some v => if present r then [⟨r, v⟩] else []
    | none => []
  one 0 (some (x.clk + signed 40 (m.get TIM_PTP_MEAS_FREQ))) ++ one 1 x.ref10 ++
    one 2 (x.ocxoA.map (· - meanOf m.time.ocxoA.diffs)) ++ one 3 (x.ocxoB.map (· - meanOf m.time.ocxoB.diffs))

/-- Whole numbers in rising order. -/
def sortInts : List Int → List Int
  | [] => []
  | a :: t =>
    let rec ins (x : Int) : List Int → List Int
      | [] => [x]
      | y :: r => if x ≤ y then x :: y :: r else y :: ins x r
    ins a (sortInts t)

/-- The deviation of a frequency from the others (R214). -/
def deviation (f : Int) (others : List Int) : Int :=
  match others with
  | [] => 0
  | [a] => f - a
  | [a, b] => if (f - a).natAbs ≤ (f - b).natAbs then f - a else f - b
  | l => f - (sortInts l).getD (l.length / 2) 0

/-- Phase of reference r in its own unit per nanosecond, its rate of change that the frequencies account for, in 10⁻⁶ ns per
second (R214). -/
def Mod.refPhase (m : Mod) (r : Nat) (x : MonMeas) : Option (Int × Int) :=
  match r with
  | 0 => some (signed 23 (m.get TIM_PTP_MEAS_PHASE_NS) * 1000000, signed 40 (m.get TIM_PTP_MEAS_FREQ))
  | 1 => if m.flag TIM_PPS_ERR_VALID then
      (x.ref10.map fun f => (signed 32 (m.get TIM_PPS_ERR_ERR) * 250000, x.clk - f)) else none
  | _ => none

/-- A window's phase step of reference r (R214), and the phase to keep for the window after it: none without a phase in this one. -/
def Mod.phaseStep (m : Mod) (r : Nat) (x : MonMeas) : Bool × Option Int :=
  match m.refPhase r x with
  | none => (false, none)
  | some (ph, rate) =>
    match (m.time.refSt r).lastPhase with
    | some old => (decide ((m.get TIM_MON_CFG_PHASE_NS : Int) * 1000000 < ((ph - old - rate).natAbs : Int)), some ph)
    | none => (false, some ph)

/-- The state of reference r after a window (R215). -/
def refNext (st within beyond persist : Nat) (hard : Bool) : Nat :=
  if hard then 4
  else if st ≠ 2 ∧ persist ≤ within then 2
  else if st = 2 ∧ persist ≤ beyond then 3
  else st

/-- One reference judged at the end of a window (R214, R215). -/
def Mod.judgeRef (m : Mod) (x : MonMeas) (all : List RefFreq) (r : RefFreq) : Mod :=
  let others := (all.filter fun o => o.id != r.id).map (·.f)
  let dev := deviation r.f others
  let ps := m.phaseStep r.id x
  let st := m.get TIM_REF_STATUS_STATE r.id
  let mag : Int := dev.natAbs
  let in_ := decide (mag ≤ m.get TIM_MON_CFG_SOFT_PPB * ppb) || others.isEmpty
  let hard := ps.1 || (decide ((m.get TIM_MON_CFG_HARD_PPB : Int) * ppb < mag) && !others.isEmpty)
  let s := m.time.refSt r.id
  let within := if in_ && !ps.1 then s.within + 1 else 0
  let beyond := if in_ then 0 else s.beyond + 1
  let m := m.withTime (m.time.setRefSt r.id { s with within := within, beyond := beyond, lastPhase := ps.2,
                                                     goodS := if st = 2 then s.goodS + 1 else 0 })
  let m := m.set TIM_REF_STATUS_DEV r.id (unsigned 32 (clampSigned 32 (dev / 10000)))
  let m := (m.set TIM_REF_STATUS_PHASE_STEP r.id (b01 ps.1)).satAdd TIM_REF_STATUS_STATE_S r.id
  m.setRefState r.id (refNext st within beyond (m.get TIM_MON_CFG_PERSIST_S) hard)

/-- What a window teaches of OCXO x, measured at f (R211, R214). -/
def Mod.learnOcxo (m : Mod) (x : Nat) (f : Option Int) (selF inputF : Int) : Mod :=
  match f with
  | none => m
  | some f =>
    let o := m.time.ocxo x
    m.withTime (m.time.setOcxo x { o with words := ((m.time.pllWord + (inputF - f)) :: o.words).take 1000,
                                          diffs := ((f - selF) :: o.diffs).take 86400 })

/-- Frequency of the selected reference as it was measured. -/
def selMeas (x : MonMeas) (ptp : Int) (sel : Nat) : Option Int :=
  match sel with
  | 0 => some (x.clk + ptp)
  | 1 => x.ref10
  | 2 => x.ocxoA
  | 3 => x.ocxoB
  | _ => none

/-- The learning of a window in which TSTATE is LOCKED and the selected reference is GOOD (R211, R214). -/
def Mod.learnWindow (m : Mod) (x : MonMeas) : Mod :=
  if m.tstate = 2 ∧ m.selRef < 4 ∧ m.get TIM_REF_STATUS_STATE m.selRef = 2 then
    match selMeas x (signed 40 (m.get TIM_PTP_MEAS_FREQ)) m.selRef with
    | some f =>
      let inp := m.inputMeas (m.get TIM_STATUS_PLL_INPUT)
      (m.learnOcxo 2 x.ocxoA f inp).learnOcxo 3 x.ocxoB f inp
    | none => m
  else m

/-- The time state at the end of a window (R210). -/
def Mod.lockWindow (m : Mod) : Mod :=
  let good := decide (0 < m.time.adjWrites) && m.time.adjWithin
  let run := if good then m.time.lockRun + 1 else 0
  let m := m.withTime { m.time with lockRun := run, adjWrites := 0, adjWithin := true }
  if m.tstate = 1 ∧ m.get TIM_SERVO_CFG_LOCK_S ≤ run then m.setTstate 2 else m

/-- A reference of which a window measured nothing: the next window's phase has no window before it (R214). -/
def Mod.unmeasured (m : Mod) (r : Nat) : Mod :=
  (m.withTime (m.time.setRefSt r { m.time.refSt r with lastPhase := none })).satAdd TIM_REF_STATUS_STATE_S r

/-- An absent OCXO whose oven is ready and whose edges a window has counted is present again (R215). -/
def Mod.ocxoReturns (m : Mod) (x : Nat) (edges : Bool) : Mod :=
  if edges && (m.time.ocxo x).ovenReady then m.refPresent x else m

/-- MONITOR_WINDOW (R210, R211, R214 to R216): a 1 s window of the reference monitor ends. -/
def Mod.monitorWindow (m : Mod) (x : MonMeas) : Mod :=
  if m.time.monitorUp = false then m
  else
    let m := m.withTime { m.time with measA := x.ocxoA.getD m.time.measA, measB := x.ocxoB.getD m.time.measB,
                                      meas10 := x.ref10.getD m.time.meas10 }
    let all := m.refFreqs x
    let m := all.foldl (fun m r => m.judgeRef x all r) m
    let m := ([0, 1, 2, 3].filter fun r => !(all.any (·.id == r))).foldl Mod.unmeasured m
    let m := m.reselect.learnWindow x
    let m := m.ocxoReturns 2 x.ocxoA.isSome |>.ocxoReturns 3 x.ocxoB.isSome
    let m := m.lockWindow
    if m.inHoldover then (m.bump (timCtr 3)).set TIM_STATUS_HOLD_MIN 0 (Nat.min 65535 ((m.now - m.time.holdAt) / 60000000000))
    else m

/-- REFERENCE_LOSS (R215): reference r stops for its limit. -/
def Mod.referenceLoss (m : Mod) (r : Nat) : Mod :=
  if m.get TIM_REF_STATUS_STATE r = 0 then m
  else
    let m := if r = 0 then m.advanceTo (m.time.ref0.lastSeen + 3 * oneSecond) else m
    (m.setRefState r 0).reselect

/-- OVEN_READY (R215): the oven of OCXO-A (2) or OCXO-B (3) is ready. -/
def Mod.ovenReady (m : Mod) (x : Nat) : Mod :=
  (m.withTime (m.time.setOcxo x { m.time.ocxo x with ovenReady := true })).refPresent x

/-- SERVO_TIMEOUT (R210): no TIM_ADJ write for SERVO_TO_S seconds. -/
def Mod.servoTimeout (m : Mod) : Mod :=
  if m.tstate = 2 ∧ m.flag TIM_ISLAND_MASTER = false then
    (m.advanceTo (m.time.adjAt + m.get TIM_SERVO_CFG_SERVO_TO_S * oneSecond)).setTstate 3
  else m

/-- HOLDOVER_EXPIRY (R210): HOLD_MAX_MIN minutes have passed in HOLDOVER. -/
def Mod.holdoverExpiry (m : Mod) : Mod :=
  if m.tstate = 3 then
    (m.advanceTo (m.time.holdAt + m.get TIM_HOLD_CFG_HOLD_MAX_MIN * 60 * oneSecond)).setTstate 4
  else m

/-! ### PPS -/

/-- The whole second nearest to an instant. -/
def nearestSecond (net : Nat) : Nat := (net + unitsPerS / 2) / unitsPerS

/-- A PPS_IN edge whose seconds are labelled (R230): net is the stamped instant, with the cable delay removed. -/
def Mod.ppsLabel (m : Mod) (stamp : Int) : Mod :=
  if m.flag TIM_PPS_TOD_VALID then
    let sec := m.get TIM_PPS_TOD_SEC
    let m := m.set TIM_PPS_TOD_VALID 0 0
    if m.tstate = 0 then
      if m.selRef = 1 then
        let v := (((sec * unitsPerS : Nat) : Int) + ((m.time.net : Int) - stamp)).toNat
        (m.withTime { m.time with adj := some (.set v m.now) }).set TIM_STATUS_STEP_PEND 0 1
      else m
    else if nearestSecond stamp.toNat ≠ sec then
      ((m.bump (timCtr 5)).sqc TIM_EVENT_PPS_TOD).event { blk := 0x04, code := 0x08 }
    else m
  else m

/-- PPS_EDGE (R229, R230): a rising edge that crossed the contact ago quarter nanoseconds before now, cycles REF10_IN cycles after the
edge before it; ref10 tells that REF10_IN runs within its limit. -/
def Mod.ppsEdge (m : Mod) (ago cycles : Nat) (ref10 : Bool) : Mod :=
  let stamp : Int := (stampNet (m.time.net - ago * (unitsPerNs / 4)) : Int) - (m.get TIM_PPS_CFG_IN_DELAY_NS * unitsPerNs : Nat)
  let err := (stamp - ((nearestSecond stamp.toNat * unitsPerS : Nat) : Int)) / ((unitsPerNs / 4 : Nat) : Int)
  let m := (m.set TIM_PPS_ERR_ERR 0 (unsigned 32 (clampSigned 32 err))).set TIM_PPS_ERR_VALID 0 1
  let first := m.time.ppsAt.isNone
  let m := m.withTime { m.time with ppsAt := some m.now, ref1 := { m.time.ref1 with lastSeen := m.now } }
  let ok := ref10 && decide (9999990 ≤ cycles) && decide (cycles ≤ 10000010)
  let m := if first then m else if ok then m.refPresent 1 else if m.get TIM_REF_STATUS_STATE 1 = 0 then m
    else (m.setRefState 1 0).reselect
  m.ppsLabel stamp

/-- PPS_OUT_PULSE (R231): the counter crosses the next whole second plus OUT_OFFSET_NS. -/
def Mod.ppsOutPulse (m : Mod) : Mod :=
  let off := signed 16 (m.get TIM_PPS_CFG_OUT_OFFSET_NS) * (unitsPerNs : Int)
  let k := ((m.time.net : Int) - off) / (unitsPerS : Int) + 1
  let m := m.advanceNet (k * (unitsPerS : Int) + off).toNat
  let mode := m.get TIM_PPS_CFG_OUT_MODE
  if mode = 1 ∨ (mode = 2 ∧ m.flag TIM_STATUS_USABLE) then
    m.withTime { m.time with ppsOutEnd := some (m.now + m.get TIM_PPS_CFG_OUT_WIDTH_US * 1000) }
  else m

/-- PPS_OUT_END (R231): OUT_WIDTH_US has passed. -/
def Mod.ppsOutEnd (m : Mod) : Mod :=
  match m.time.ppsOutEnd with
  | some c => let m := m.advanceTo c
              m.withTime { m.time with ppsOutEnd := none }
  | none => m

end Sys2Proof.Machine
end

