-- ==== Sys2Proof/Machine/Power.lean ====
section
/-! DEFINITION. The power controller: feeds, transfers, self-tests, hold-up, temperature, status lines and the PMBus commands
(Dual Power Feeds; Electrical, Thermal and Mechanical Data; the status lines of Connectors and Signals). -/

namespace Sys2Proof.Machine

/-! ### Time and state of the controller -/

/-- Nanoseconds since the model's beginning, which a reset of the die does not restart. -/
def Mod.absNow (m : Mod) : Nat := m.pwr.base + m.now

/-- Time passes up to an instant of absNow. -/
def Mod.advanceAbs (m : Mod) (t : Nat) : Mod := m.advanceTo (t - m.pwr.base)

/-- The die runs. -/
def Mod.dieUp (m : Mod) : Bool := m.pwr.down == .no

/-- The power controller has power: some feed carries it. -/
def Mod.pcUp (m : Mod) : Bool := m.pwr.down != .rails

/-- The controller's firmware restarts (R423, R470). -/
def Mod.pcRestarting (m : Mod) : Bool :=
  match m.pwr.restartEnd with
  | some t => decide (m.absNow < t)
  | none => false

/-- The PWRC domain is out of service: its monitoring is suspended (R16). -/
def Mod.pwrcOut (m : Mod) : Bool := m.boot.domOut.contains 22

/-- A transfer's settling window is open (R471). -/
def Mod.pcHold (m : Mod) : Bool := m.pwr.holdEnd.isSome

/-- A PWR event (R480): its bit of PWR_EVENT, the feed in detail [15:8] and the qualifier. The die's part is lost while it is down. -/
def Mod.pwrEvent (m : Mod) (code feed q : Nat) : Mod :=
  if m.dieUp then
    (m.sqcBit PWR_EVENT_EVENTS (code - 1) 0).event { blk := 0x02, code := code, detail := feed * 2 ^ 8 + q }
  else m

/-- STATE of a feed (R464). -/
def Mod.feedSt (m : Mod) (f : Nat) : Nat := m.get PWR_FEED_STATE f

/-- A feed is GOOD. -/
def Mod.feedGood (m : Mod) (f : Nat) : Bool := m.feedSt f == 3

/-- The active feed, and the other one. -/
def Mod.activeFeed (m : Mod) : Nat := m.get PWR_STATUS_ACTIVE

/-- See activeFeed. -/
def Mod.standbyFeed (m : Mod) : Nat := 1 - m.activeFeed

/-! ### REFCLK (R495) -/

/-- The REFCLK outputs, one for each tile, start or stop together. -/
def Mod.setRefclk (m : Mod) (on : Bool) : Mod :=
  if m.pin.refclk = on then m else (m.withPin { m.pin with refclk := on }).emit (.refclk on)

/-- What each REFCLK output carries while it runs: the system reference, by its deviation from 156.25 MHz in 10⁻¹⁵ of it, as the control word of
the reference PLL gives it against the PLL's input (R203, R495). -/
def Mod.refclk (m : Mod) : Option Int := if m.pin.refclk then some m.time.pllWord else none

/-- A front lane's transmitter is held in electrical idle (R494): the die does not run, its tile no longer transmits, or no port covers it. -/
def Mod.laneIdle (m : Mod) (lane : Nat) : Bool := !m.dieUp || decide (2 ≤ m.get PRT_TILE_STATUS_STATE (lane / 16)) || (m.portOfLane lane).isNone

/-- The management port's transmitter is held in electrical idle (R497, R500). -/
def Mod.mgmtIdle (m : Mod) : Bool := !m.dieUp || !(m.flag DMP_CFG_EN)

/-! ### Status lines -/

/-- The power controller drives ALARM_N low (R475, R476, R501); while its firmware restarts, its output holds its last value (R11). -/
def Mod.pcAlarm (m : Mod) : Bool :=
  if m.pcRestarting then m.pwr.pcAlarmHeld
  else m.pwr.testAlarm || m.pwr.holdLow || (m.flag PWR_STATUS_SINGLE && m.pwr.policy.getLsbD 2)

/-- A component is absent (R387). -/
def Mod.compAbsent (m : Mod) (n : Nat) : Bool := (m.get BOOT_STATUS_ABSENT).testBit n

/-- The die drives ALARM_N low (R23, R387, R458, R459, R483, R501). -/
def Mod.dieAlarm (m : Mod) : Bool :=
  m.pwr.down == .locked ||
    (m.dieUp && (m.flag GLB_STATUS_DEGRADED || m.compAbsent 3 || m.compAbsent 4 || m.get AGE_STATUS_FLOOR != 0 ||
      (m.get BOOT_STATUS_STAGE == 7 && (m.get AGE_LIFE_DIE_REMAIN_H == 0 || m.get AGE_LIFE_MOD_REMAIN_H == 0))))

/-- ALARM_N is high (R501), held while a transfer settles (R471). -/
def Mod.alarmN (m : Mod) : Bool := if m.pcHold then m.pwr.alarmHeld else !(m.pcAlarm || m.dieAlarm)

/-- FAULT_N is high (R501): the module is in service, or its rails are off after a loss of both feeds. -/
def Mod.faultN (m : Mod) : Bool := m.pwr.down == .rails || m.dieUp && m.get BOOT_STATUS_STAGE == 7 && !(m.compAbsent 3)

/-- IRQ_N is high (R378, R501): released also while the die does not run (R497). -/
def Mod.irqN (m : Mod) : Bool := !m.dieUp || (m.get EVT_IRQ_STATUS_PEND &&& m.get EVT_IRQ_EN_EN) == 0

/-- FEED_A_OK or FEED_B_OK is high (R502). -/
def Mod.feedOk (m : Mod) (f : Nat) : Bool :=
  if m.pcHold || m.pcRestarting then (if f = 0 then m.pwr.okHeldA else m.pwr.okHeldB) else m.feedGood f

/-- The two feed lines keep the level they have now. -/
def Mod.holdLines (m : Mod) : Mod :=
  m.withPwr { m.pwr with okHeldA := m.feedOk 0, okHeldB := m.feedOk 1 }

/-! ### PMBus status (R479) -/

/-- STATUS_INPUT of a feed as it is now. -/
def Mod.inputNow (m : Mod) (f : Nat) : Nat :=
  let s := m.feedSt f
  let path := m.flag PWR_FEED_OUT_ON f && m.flag PWR_FEED_IN_ON f
  2 ^ 7 * b01 (s == 4) + 2 ^ 4 * b01 (decide (s < 2)) + 2 ^ 3 * b01 (!path)

/-- STATUS_TEMPERATURE as it is now (R522). -/
def Mod.tempNow (m : Mod) : Nat := 2 ^ 7 * b01 (m.pwr.hotTj || m.pwr.hotTcp || m.pwr.down == .trip)

/-- STATUS_MFR_SPECIFIC of a page as it is now, but for HOLD, which is always shown as it stands. -/
def Mod.mfrNow (m : Mod) (page : Nat) : Nat :=
  let failed := match page with
    | 0 => m.get PWR_HEALTH_FAILS 0 != 0
    | 1 => m.get PWR_HEALTH_FAILS 1 != 0
    | _ => m.get PWR_HEALTH_FAILS 0 != 0 || m.get PWR_HEALTH_FAILS 1 != 0
  b01 failed + 2 * b01 m.pwr.holdLow + 8 * b01 (m.flag PWR_STATUS_SINGLE)

/-- Every STATUS bit whose cause holds is latched; during a settling window the STATUS commands keep their values (R471). -/
def Mod.statusLatch (m : Mod) : Mod :=
  if m.pcHold then m
  else
    let p := m.pwr
    m.withPwr { p with inputA := p.inputA ||| m.inputNow 0, inputB := p.inputB ||| m.inputNow 1, temp := p.temp ||| m.tempNow,
                       mfrA := p.mfrA ||| m.mfrNow 0, mfrB := p.mfrB ||| m.mfrNow 1, mfrM := p.mfrM ||| m.mfrNow 2 }

/-- SINGLE follows the standby feed, and the latched STATUS bits what they show. -/
def Mod.pwrShown (m : Mod) : Mod :=
  (m.set PWR_STATUS_SINGLE 0 (b01 (!(m.feedGood m.standbyFeed)))).statusLatch

/-! ### Feeds -/

/-- A voltage in units of 10 mV lets a feed pass from one STATE to another (R464). -/
def feedMove (old new vin : Nat) : Bool :=
  match new with
  | 0 => decide (vin < 2000)
  | 1 => decide (2000 ≤ vin) && (if old = 3 then decide (vin < 3600) else decide (vin < 3800))
  | 2 => decide (3800 ≤ vin) && decide (vin ≤ 6200) && old != 3
  | 3 => decide (3800 ≤ vin) && decide (vin ≤ 6200) && old == 2
  | _ => decide (6300 < vin)

/-- The stages of a feed's path: output and input closed. -/
def Mod.setPath (m : Mod) (f : Nat) (out inp : Bool) : Mod := (m.set PWR_FEED_OUT_ON f (b01 out)).set PWR_FEED_IN_ON f (b01 inp)

/-- 100 ms without a break, after which a feed is good (R464). -/
def qualifyTime : Nat := 100000000

/-- FEED_STATE (R464): a feed's voltage, in units of 10 mV, moves it to another STATE. The PWRC domain out of service watches none (R16). -/
def Mod.feedState (m : Mod) (f new vin : Nat) : Mod :=
  let old := m.feedSt f
  if new = old ∨ ¬ feedMove old new vin ∨ m.pwrcOut then m
  else
    let since := if f = 0 then m.pwr.qualA else m.pwr.qualB
    let m := if new = 3 then m.advanceAbs (since + qualifyTime) else m
    let t := m.absNow
    let m := if f = 0 then
        m.withPwr { m.pwr with qualA := if new = 2 then t else m.pwr.qualA, goodA := if new = 3 then t else m.pwr.goodA }
      else
        m.withPwr { m.pwr with qualB := if new = 2 then t else m.pwr.qualB, goodB := if new = 3 then t else m.pwr.goodB }
    let m := (m.set PWR_FEED_STATE f new).set PWR_FEED_VIN f vin
    let m := if new = 4 then m.setPath f false false else m
    m.pwrShown.pwrEvent 0x01 f new

/-! ### Transfers -/

/-- The settling window after a transfer (R471). -/
def settleTime : Nat := 20000000

/-- The levels that the status lines and STATUS_CML keep while a transfer settles (R471). -/
def Mod.holdBegins (m : Mod) : Mod :=
  let m := m.holdLines
  m.withPwr { m.pwr with alarmHeld := m.alarmN, cmlHeld := if m.pcHold then m.pwr.cmlHeld else m.pwr.cml }

/-- The load moves to the standby feed (R468): make before break. A transfer on loss trips the input stage of the feed it leaves. -/
def Mod.transfer (m : Mod) (kind : Nat) : Mod :=
  let old := m.activeFeed
  let new := m.standbyFeed
  let m := m.holdBegins
  let m := m.setPath new true true
  let m := m.setPath old false (kind != 1 && m.flag PWR_FEED_IN_ON old)
  let m := (m.set PWR_STATUS_ACTIVE 0 new).set PWR_STATUS_TRANSFER 0 2
  let m := m.set PWR_STATUS_HOLD 0 1
  let m := m.withPwr { m.pwr with holdEnd := some (m.absNow + settleTime), activeAt := m.absNow }
  let m := m.satAdd (if kind = 1 then PWR_COUNTS_TRANSFERS_LOSS else PWR_COUNTS_TRANSFERS_CMD) 0
  m.pwrShown.pwrEvent 0x02 new kind

/-- The settling window ends, and the held outputs take their live values (R471, R472). -/
def Mod.holdRelease (m : Mod) : Mod :=
  ((((m.withPwr { m.pwr with holdEnd := none }).set PWR_STATUS_HOLD 0 0).set PWR_STATUS_TRANSFER 0 0)).statusLatch

/-- HOLD_END (R471): 20 ms have passed since the transfer completed. -/
def Mod.holdEnds (m : Mod) : Mod :=
  match m.pwr.holdEnd with
  | some t => (m.advanceAbs t).holdRelease
  | none => m

/-- TRANSFER_ON_LOSS (R469, R472): the active feed, at a voltage in units of 10 mV, has lain below 38.0 V for 2 µs or is OVER, and the
standby feed is GOOD. -/
def Mod.transferOnLoss (m : Mod) (vin : Nat) : Mod :=
  let lost := decide (vin < 3800) || m.feedSt m.activeFeed == 4
  if lost && m.feedGood m.standbyFeed then (m.set PWR_FEED_VIN m.activeFeed vin).transfer 1 else m

/-- Why a commanded transfer is refused (R470), 0 when it is not. -/
def Mod.transferBar (m : Mod) : Nat :=
  if m.pcRestarting then 3
  else if m.pcHold then 2
  else if !(m.feedGood m.standbyFeed) || m.get PWR_HEALTH_FAILS m.standbyFeed != 0 then 1
  else 0

/-- A commanded transfer requested (R470): by a write of PWR_CMD, or over I2C. -/
def Mod.transferCommand (m : Mod) (permitted : Bool) : Mod :=
  let q := if permitted then m.transferBar else 4
  if q = 0 then m.transfer 2 else m.pwrEvent 0x08 m.standbyFeed q

/-- The policy the controller applies: the one it stored last (R465). -/
def Mod.policyGet (m : Mod) (f : Fld) : Nat := f.of m.pwr.policy

/-- REVERT (R466): the preferred feed has been GOOD for WTR_S seconds while the other is active; a cause that bars the transfer makes it
wait. -/
def Mod.revert (m : Mod) : Mod :=
  let pref := m.policyGet PWR_POLICY_PREFER
  let wtr := m.policyGet PWR_POLICY_WTR_S
  if 2 ≤ pref ∨ wtr = 0 ∨ pref = m.activeFeed ∨ ¬ m.feedGood pref ∨ m.pwrcOut then m
  else
    let good := if pref = 0 then m.pwr.goodA else m.pwr.goodB
    let m := m.advanceAbs (Nat.max good m.pwr.activeAt + wtr * oneSecond)
    if m.transferBar = 0 then m.transfer 3 else m

/-- A write of PWR_POLICY (R383 step 8, R465): the controller stores it. -/
def Mod.policyWritten (m : Mod) : Mod := (m.withPwr { m.pwr with policy := m.rd .PWR_POLICY }).pwrShown

/-! ### Self-test and hold-up -/

/-- Whether each check of R473 fails: open path, reverse current, impedance, voltage, ripple, as PWR_HEALTH.FAILS orders them. -/
def testFails (x : FeedTest) (standby : Bool) (rippleMax : Nat) : List Bool :=
  [if standby then decide (x.pulseMa < 400) else decide (300 < x.dropMv),
   if standby then decide (50 < x.reverseMa) else !x.responds,
   standby && decide (1000 < x.droopMv),
   decide (x.volts < 4000) || decide (6000 < x.volts),
   decide (rippleMax < x.rippleMv)]

/-- Source impedance in units of 10 mΩ, saturating: the droop over the pulse's current. -/
def impedance (x : FeedTest) : Nat := Nat.min (x.droopMv * 100 / Nat.max x.pulseMa 1) 255

/-- The report of one feed's path (R473 to R475): published, each failed check counted and raised. -/
def Mod.testReport (m : Mod) (f : Nat) (x : FeedTest) : Mod :=
  let standby := f != m.activeFeed
  let l := testFails x standby (m.get PWR_TEST_CFG_RIPPLE_MAX_MV)
  let fails := b01 (l.getD 0 false) + 2 * b01 (l.getD 1 false) + 4 * b01 (l.getD 2 false) + 8 * b01 (l.getD 3 false) +
    16 * b01 (l.getD 4 false)
  let m := (m.set PWR_HEALTH_FAILS f fails).set PWR_HEALTH_TICK f m.tickNum
  let m := if standby then m.set PWR_HEALTH_IMPED f (impedance x) else m
  let m := ((m.set PWR_FEED_VIN f x.volts).set PWR_FEED_RIPPLE f x.rippleMv).set PWR_FEED_IIN f x.loadMa
  let m := if f = 0 then m.withPwr { m.pwr with reportA := m.absNow } else m.withPwr { m.pwr with reportB := m.absNow }
  (l.filter id).foldl (fun m _ => (m.satAdd PWR_COUNTS_TEST_FAILS 0).pwrEvent 0x03 f fails) m

/-- A test cycle, skipped while a transfer settles or a feed is not GOOD (R473 to R475). -/
def Mod.testCycle (m : Mod) (a b : FeedTest) : Mod :=
  let m := m.withPwr { m.pwr with testAt := m.absNow }
  if m.pcHold || !(m.feedGood 0) || !(m.feedGood 1) then m
  else
    let m := (m.testReport 0 a).testReport 1 b
    let bad := m.get PWR_HEALTH_FAILS m.standbyFeed != 0
    let clean := m.get PWR_HEALTH_FAILS 0 == 0 && m.get PWR_HEALTH_FAILS 1 == 0
    (m.withPwr { m.pwr with testAlarm := bad || (m.pwr.testAlarm && !clean) }).pwrShown

/-- SELF_TEST (R473): PERIOD_S seconds have passed since the last cycle. -/
def Mod.selfTest (m : Mod) (a b : FeedTest) : Mod :=
  if m.pcRestarting || m.pwrcOut then m
  else (m.advanceAbs (m.pwr.testAt + m.get PWR_TEST_CFG_PERIOD_S * oneSecond)).testCycle a b

/-- A feed's health report as it reads: STALE when it is older than 3 × PERIOD_S (R474). -/
def Mod.healthShown (m : Mod) (f : Nat) : Word :=
  let at_ := if f = 0 then m.pwr.reportA else m.pwr.reportB
  PWR_HEALTH_STALE.put (m.rd .PWR_HEALTH f) (b01 (decide (at_ + 3 * m.get PWR_TEST_CFG_PERIOD_S * oneSecond < m.absNow)))

/-- HOLDUP_MEASURE (R476): once every 24 h, and at start, the bank's capacitance (µF), ESR (mΩ) and voltage (10 mV) are measured, and
the hold-up time at 455 W (µs) is computed from them. -/
def Mod.holdupMeasure (m : Mod) (cap esr hold vbank : Nat) : Mod :=
  if m.pwrcOut || m.pcRestarting then m else
  let m := match m.pwr.holdupAt with
    | some t => m.advanceAbs (t + 86400 * oneSecond)
    | none => m
  let m := (m.set PWR_HOLDUP_CAP_UF 0 cap).set PWR_HOLDUP_ESR_MOHM 0 esr
  let m := (m.set PWR_HOLDUP_HOLD_US 0 hold).set PWR_HOLDUP_VBANK 0 vbank
  let low := decide (hold < 3000)
  let fell := low && !m.pwr.holdLow
  let m := (m.withPwr { m.pwr with holdupAt := some m.absNow, holdLow := low }).pwrShown
  let m := if m.dieUp then m.marginMeasured 37 (60 - (esr : Int)) else m
  if fell then m.pwrEvent 0x04 0 0 else m

/-- DIP (R477): both feeds lay below 36.0 V together for less than 100 µs. -/
def Mod.dip (m : Mod) : Mod := if m.pwrcOut then m else (m.satAdd PWR_COUNTS_DIPS 0).pwrEvent 0x05 0 0

/-- PC_RESTART (R423): the controller's firmware restarts from its other bank, within 200 ms; how soon is not stated. Its outputs are
held (R502), and it takes its I2C address again (R503). -/
def Mod.pcRestart (m : Mod) : Mod :=
  let d := m.freshNat
  let m := d.2.holdLines
  let m := m.withPwr { m.pwr with restartEnd := some (m.absNow + d.1 % 200000001), pcAlarmHeld := m.pcAlarm, i2c := 0x58 + m.pin.slotId % 4, page := 2 }
  m.pwrEvent 0x07 0 0

/-! ### Temperature (R522) -/

/-- A sensor beyond a threshold, in tenths of a degree, with 2 °C of hysteresis as it falls. -/
def beyond (was : Bool) (t threshold : Int) : Bool := decide (threshold < t) || (was && decide (threshold - 20 < t))

/-- AGE_TEMP shows both temperatures. -/
def Mod.tempShown (m : Mod) (tj tcp : Int) : Mod :=
  (m.set AGE_TEMP_TJ_MAX 0 (unsigned 16 tj)).set AGE_TEMP_COLD_PLATE 0 (unsigned 16 tcp)

/-- THERMAL_STATE (R522): the hottest die sensor and the cold plate, in tenths of a degree, move the module between NORMAL, WARM and
HOT. -/
def Mod.thermalState (m : Mod) (tj tcp : Int) : Mod :=
  if m.aonOut then m else
  let p := m.pwr
  ((m.tempShown tj tcp).withPwr
    { p with warmTj := beyond p.warmTj tj 950, warmTcp := beyond p.warmTcp tcp 450,
             hotTj := beyond p.hotTj tj 1050, hotTcp := beyond p.hotTcp tcp 550 }).statusLatch

/-! ### The PMBus commands (R479) -/

/-- The controller answers on I2C: it has power and its firmware does not restart. -/
def Mod.pmbusUp (m : Mod) : Bool := m.pcUp && !m.pcRestarting && !m.pwrcOut

/-- A bit set in STATUS_CML. -/
def Mod.cmlSet (m : Mod) (bit : Nat) : Mod := m.withPwr { m.pwr with cml := m.pwr.cml ||| 2 ^ bit }

/-- A command under a page it is defined for; on any other page it is ignored as any other command is. -/
def Mod.onPages (m : Mod) (pages : List Nat) (f : Mod → Mod) : Mod :=
  if !m.pmbusUp then m else if pages.contains m.pwr.page then f m else m.cmlSet 7

/-- A reply: its octets on the bus. -/
def Mod.reply (m : Mod) (l : List Nat) : Mod := m.emit (.pmbus (l.map (BitVec.ofNat 8)))

/-- A reply of a word, low octet first. -/
def Mod.replyWord (m : Mod) (v : Nat) : Mod := m.reply [v % 256, v / 256 % 256]

/-- A reply of a block: its length, then its octets. -/
def Mod.replyBlock (m : Mod) (l : List Byte) : Mod := m.emit (.pmbus (BitVec.ofNat 8 l.length :: l))

/-- The nearest integer to a fraction, halves away from zero. -/
def nearest (n : Int) (d : Nat) : Int := if 0 ≤ n then (2 * n + d) / (2 * d) else -((2 * (-n) + d) / (2 * d))

/-- The mantissa of n / d at exponent k − 16. -/
def linMantissa (n : Int) (d k : Nat) : Int := nearest (n * 2 ^ (16 - k)) (d * 2 ^ (k - 16))

/-- LINEAR11 of the value n / d: an 11-bit mantissa times a power of two, with the least exponent from −16 to 15 that holds it. -/
def linear11 (n : Int) (d : Nat) : Nat :=
  let fits (k : Nat) : Bool := decide (-1024 ≤ linMantissa n d k) && decide (linMantissa n d k ≤ 1023)
  let k := ((List.range 32).find? fits).getD 31
  unsigned 5 (k - 16 : Int) * 2 ^ 11 + unsigned 11 (clampSigned 11 (linMantissa n d k))

/-- PAGE: a write selects, a read reports. -/
def Mod.pagePm (m : Mod) (write : Option Nat) : Mod :=
  if !m.pmbusUp then m
  else match write with
    | none => m.reply [m.pwr.page]
    | some v => if v ≤ 2 then m.withPwr { m.pwr with page := v } else m.cmlSet 6

/-- CLEAR_FAULTS: bits of the page's STATUS, and of STATUS_CML, whose cause has ended; ignored while HOLD is 1. -/
def Mod.clearFaults (m : Mod) : Mod :=
  if !m.pmbusUp || m.pcHold then m
  else
    let p := { m.pwr with cml := 0 }
    m.withPwr (match p.page with
      | 0 => { p with inputA := m.inputNow 0, mfrA := m.mfrNow 0 }
      | 1 => { p with inputB := m.inputNow 1, mfrB := m.mfrNow 1 }
      | _ => { p with temp := m.tempNow, mfrM := m.mfrNow 2 })

/-- STATUS_INPUT of the selected page, none on page 2. -/
def Mod.pmInput (m : Mod) : Nat :=
  match m.pwr.page with
  | 0 => m.pwr.inputA
  | 1 => m.pwr.inputB
  | _ => 0

/-- STATUS_TEMPERATURE of the selected page. -/
def Mod.pmTemp (m : Mod) : Nat := if m.pwr.page = 2 then m.pwr.temp else 0

/-- STATUS_MFR_SPECIFIC of the selected page; bit 2 shows HOLD. -/
def Mod.pmMfr (m : Mod) : Nat :=
  (match m.pwr.page with
    | 0 => m.pwr.mfrA
    | 1 => m.pwr.mfrB
    | _ => m.pwr.mfrM) + 4 * b01 m.pcHold

/-- STATUS_CML: held while a transfer settles. -/
def Mod.pmCml (m : Mod) : Nat := if m.pcHold then m.pwr.cmlHeld else m.pwr.cml

/-- STATUS_WORD of the selected page: VIN_UV, TEMPERATURE, CML and NONE_OF_THE_ABOVE in the low octet, INPUT and MFR_SPECIFIC in the
high one, as PMBus places them. -/
def Mod.pmWord (m : Mod) : Nat :=
  let input := m.pmInput != 0
  let uv := m.pmInput.testBit 4
  let mfr := m.pmMfr != 0
  let other := (input && !uv) || mfr
  2 ^ 13 * b01 input + 2 ^ 12 * b01 mfr + 2 ^ 3 * b01 uv + 2 ^ 2 * b01 (m.pmTemp != 0) + 2 * b01 (m.pmCml != 0) + b01 other

/-- Input power of the selected page in units of 10 µW: a feed's, or both. -/
def Mod.pinOf (m : Mod) : Nat :=
  let p (f : Nat) := m.get PWR_FEED_VIN f * m.get PWR_FEED_IIN f
  match m.pwr.page with
  | 0 => p 0
  | 1 => p 1
  | _ => p 0 + p 1

/-- MFR_FEED_ACTIVE: a read reports the active feed; a write requests a transfer to the feed it names (R470). -/
def Mod.mfrFeedActive (m : Mod) (write : Option Nat) : Mod :=
  if !m.pmbusUp then m
  else match write with
    | none => m.reply [m.activeFeed]
    | some v =>
      if 1 < v then m.cmlSet 6
      else if v = m.activeFeed then m
      else m.transferCommand (m.pwr.policy.getLsbD 3)

/-- An undefined command, a wrong PEC, or a write to a read-only command: ignored, and its bit of STATUS_CML set. -/
def Mod.invalidCommand (m : Mod) (why : BadCommand) : Mod :=
  if !m.pmbusUp then m
  else match why with
    | .undefined => m.cmlSet 7
    | .readOnly => m.cmlSet 6
    | .badPec => m.cmlSet 5

end Sys2Proof.Machine
end

