-- ==== Sys2Proof/Machine/Hedges.lean ====
section
/-! DEFINITION. Hedges and Gaps: ownership, the partition boundaries, host functions, interrupt messages and Hedge resets. -/

namespace Sys2Proof.Machine

/-- An HDG event (R355): detail [15:8] the Hedge or the Gap, [7:0] the qualifier. -/
def Mod.hdgEvent (m : Mod) (code h what q : Nat) (rings : List Nat) : Mod :=
  m.event { blk := 0x13, code := code, hedge := h, detail := what * 2 ^ 8 + q, rings := rings }

/-- A write refused (R355): the REFUSED event of the Hedge concerned, also in the root Hedge's ring. -/
def Mod.hdgRefused (m : Mod) (h q : Nat) : Mod := (m.sqc HDG_EVENT_REFUSED h).hdgEvent 0x06 h h q [h, 0]

/-! ### Ownership and Gaps -/

/-- A write of the owner of front port p (R335): whether it is accepted. -/
def Mod.ownerWrite (m : Mod) (p new : Nat) : Bool × Mod :=
  let old := m.owner p
  if new = old then (true, m)
  else if m.get PRT_PORT_CFG_ADMIN p != 0 || m.get BUF_PORT_STATUS_OUT_USED p != 0 then (false, m.hdgRefused old 3)
  else
    let m := m.set HDG_PORT_OWNER_HEDGE p new
    (true, m.fdbFlush fun e => fidHedge (feFid e) == old && feKind e == 0 && feDest e == p)

/-- Why a Gap definition is refused (R340): the qualifier of R355, 0 when it is not. -/
def Mod.gapCheck (m : Mod) (w : Word) : Nat :=
  let f (x : Fld) := x.of w
  if f HDG_GAP_CFG0_VALID = 0 then 0
  else if f HDG_GAP_CFG0_FROM = f HDG_GAP_CFG0_TO then 1
  else if f HDG_GAP_CFG0_MODE = 1 ∧ f HDG_GAP_CFG0_FID / 2 ^ 10 ≠ f HDG_GAP_CFG0_TO then 2
  else if f HDG_GAP_CFG0_DEST_KIND = 0 ∧ ¬ (f HDG_GAP_CFG0_DEST < 128 ∧ m.owner (f HDG_GAP_CFG0_DEST) = f HDG_GAP_CFG0_TO) then 3
  else 0

/-- A refused Gap write. -/
def Mod.gapRefused (m : Mod) (g q : Nat) : Mod := (m.sqc HDG_EVENT_GAP 0).hdgEvent 0x03 0 g q [0]

/-- A floor of HDG_ROOT_FLOOR lies above Hedge 0's current value of the field it guards (R338). -/
def Mod.floorAbove (m : Mod) (w : Word) : Bool :=
  decide (m.get BUF_HEDGE_CFG_GUAR 0 < HDG_ROOT_FLOOR_GUAR_MIN.of w) ||
    ((List.range 4).any fun c => decide (m.get ENG_HEDGE_THR_RES (16 * c) < HDG_ROOT_FLOOR_RES_MIN.of w) ||
      decide (m.get ENG_HEDGE_THR_TMR_RES (16 * c) < HDG_ROOT_FLOOR_TMR_MIN.of w)) ||
    decide (m.get DRM_HEDGE_BW_WEIGHT 0 < HDG_ROOT_FLOOR_WEIGHT_MIN.of w)

/-! ### Event rings -/

/-- Octets of the SDRAM event-ring region (R311). -/
def eventRegionSize : Nat := 0x10000000

/-- The octets a placement takes in the SDRAM region: first and the one after the last. -/
def ringSpan (w : Word) : Nat × Nat :=
  let a := HDG_EVT_CFG_ADDR.of w * 4096
  (a, a + 16 * 2 ^ HDG_EVT_CFG_LOG2_SIZE.of w)

/-- A placement of Hedge h's ring in SDRAM meets another Hedge's, or passes the region's end (R346). A Hedge whose placement has never
been written has none there. -/
def Mod.ringOverlap (m : Mod) (h : Nat) (w : Word) : Bool :=
  let s := ringSpan w
  HDG_EVT_CFG_PLACE.of w == 0 && (decide (eventRegionSize < s.2) ||
    (List.range 16).any fun k =>
      let o := m.rd .HDG_EVT_CFG k
      let t := ringSpan o
      k != h && HDG_EVT_CFG_PLACE.of o == 0 && o != Reg.boot .HDG_EVT_CFG k && decide (s.1 < t.2) && decide (t.1 < s.2))

/-- An accepted placement resets the ring's indices (R346). -/
def Mod.ringPlaced (m : Mod) (h : Nat) (w : Word) : Mod :=
  let m := m.wr .HDG_EVT_CFG h w
  (((m.set EVT_RING_PROD_PROD h 0).set EVT_RING_CONS_CONS h 0).set EVT_RING_STATUS_FULL h 0).ringSettle h

/-- W is acceptable for a ring's CONS (R241, R375): it moves forward and not past PROD. -/
def consAccepts (prod cons w : Nat) : Bool := decide ((w + 2 ^ 32 - cons) % 2 ^ 32 ≤ (prod + 2 ^ 32 - cons) % 2 ^ 32)

/-- DMP carries the ring of Hedge h (R376). -/
def Mod.dmpCarries (m : Mod) (h : Nat) : Bool := (m.get EVT_DMP_SEL_SEL).testBit h && m.get HDG_EVT_CFG_PLACE h == 0

/-- A write to EVT_RING_CONS of Hedge h (R375, R376): whether it is accepted. -/
def Mod.ringCons (m : Mod) (dmp : Bool) (h w : Nat) : Bool × Mod :=
  if (m.dmpCarries h && !dmp) || !(consAccepts (m.get EVT_RING_PROD_PROD h) (m.get EVT_RING_CONS_CONS h) w) then
    (false, m.satAdd GLB_GUARD_STATUS_STALE_CLEARS 0)
  else (true, (m.set EVT_RING_CONS_CONS h w).ringSettle h)

/-! ### Interrupts -/

/-- A write to HDG_SWINT (R347): sources 4 to 7 of the Hedge. -/
def Mod.swint (m : Mod) (h raise : Nat) : Mod :=
  [0, 1, 2, 3].foldl (fun m n => if raise.testBit n then m.hedgeCause h (4 + n) else m) m

/-- A write to EVT_PF_SWINT (R377): vectors 24 to 31 of the physical function. -/
def Mod.pfSwint (m : Mod) (raise : Nat) : Mod :=
  (List.range 8).foldl (fun m n => if raise.testBit n then m.pfCause (24 + n) else m) m

/-- The PCIE domain is out of service (R16). -/
def Mod.pcieOut (m : Mod) : Bool := m.boot.domOut.contains 18

/-- A vector of a function sends its message (R348): a cause is pending, the vector is unmasked, and its gap has passed since the last. -/
def Mod.vectorMessage (m : Mod) (fn v : Nat) : Mod :=
  let key := if fn = 0 then v else 8 * (fn - 1) + v
  let pend := if fn = 0 then m.evt.pfPend else m.evt.vecPend
  let mask := if fn = 0 then m.evt.pfMask else m.evt.vecMask
  let last := if fn = 0 then m.evt.pfLast else m.evt.vecLast
  let gap := (if fn = 0 then m.get EVT_PF_MOD_MIN_GAP_US v else m.get HDG_VEC_MOD_MIN_GAP_US key) * 1000
  if !pend.contains key || mask.contains key || !m.hdg.busMaster.contains fn || m.pcieOut then m
  else
    let m := match lookup last key with
      | some t => m.advanceTo (t + gap)
      | none => m
    let m := m.emit (.message fn v)
    m.withEvt (if fn = 0 then { m.evt with pfPend := eraseNat m.evt.pfPend key, pfLast := store m.evt.pfLast key m.now }
      else { m.evt with vecPend := eraseNat m.evt.vecPend key, vecLast := store m.evt.vecLast key m.now })

/-! ### Hedge resets -/

/-- A reset of Hedge h is refused (R349). -/
def Mod.resetRefused (m : Mod) (h q : Nat) : Mod := (m.sqc HDG_EVENT_REFUSED h).hdgEvent 0x02 h h q [h]

/-- The FDB entries a reset of Hedge h flushes (R350): dynamic ones for SOFT, all of them for RELOAD. -/
def Mod.resetFlush (m : Mod) (h : Nat) (reload : Bool) : Mod :=
  m.fdbFlush fun e => fidHedge (feFid e) == h && (reload || !(feStatic e))

/-- A reset request for Hedge h (R349 to R351): it begins with its steps 1 and 2, or joins the reset under way. A RELOAD needs a Topiary
copy (R390). -/
def Mod.hedgeReset (m : Mod) (h : Nat) (reload : Bool) : Mod :=
  if h = 0 then m.resetRefused 0 1
  else if reload && m.boot.topLen == 0 then m.resetRefused h 2
  else match m.hdg.resets.find? (·.hedge == h) with
    | some r =>
      let m := m.withHdg { m.hdg with resets := m.hdg.resets.map fun x => if x.hedge = h then { x with reload := x.reload || reload } else x }
      let m := if reload then m.set HDG_STATUS_LAST_KIND h 2 else m
      if reload && !r.reload && r.phase != .walk then m.resetFlush h true else m
    | none =>
      let m := m.withHdg { m.hdg with resets := m.hdg.resets ++ [{ hedge := h, reload := reload, phase := .walk }] }
      let m := (m.set HDG_STATUS_STATE h 1).set HDG_STATUS_LAST_KIND h (if reload then 2 else 1)
      let m := (m.set BUF_HEDGE_STATUS_EPOCH h (m.get BUF_HEDGE_STATUS_EPOCH h + 1)).set BUF_HEDGE_STATUS_RESETTING h 1
      let m := m.withFwd { m.fwd with learn := m.fwd.learn.filter fun r => fidHedge (feFid r.entry) != h }
      (List.range 4).foldl (fun m c => m.hedgeEngines h c) m

/-- HEDGE_WALK_DONE (R163, R350 step 3, R351): the buffer walk of the oldest reset that waits for one has met every copy charged to the
Hedge of its old epoch. -/
def Mod.hedgeWalkDone (m : Mod) (h : Nat) : Mod :=
  match m.hdg.resets.find? (·.phase == .walk) with
  | none => m
  | some r =>
    if r.hedge ≠ h then m
    else
      let epoch := m.get BUF_HEDGE_STATUS_EPOCH h
      let dests := ((List.range 128).filter fun p => m.owner p == h) ++ [128, 129, 130, 131, 132, 133]
      let m := dests.foldl (fun m d => m.flushQueued d 11 fun f => f.hedge == h && f.epoch != epoch) m
      let m := m.resetFlush h r.reload
      let m := m.withHdg { m.hdg with resets := m.hdg.resets.map fun x => if x.hedge = h then { x with phase := .reset } else x }
      let m := m.set BUF_HEDGE_STATUS_RESETTING h 0
      (m.sqc BUF_EVENT_FLUSHED).event { blk := 0x0A, code := 0x07, hedge := h, detail := h * 2 ^ 8 + h, rings := [h] }

/-- Step 4 of a reset (R350): policers of Hedge h and shapers of its ports take the values of their RESET_MODE, its exception buckets and
its Clippings bucket are full. -/
def Mod.hedgeBuckets (m : Mod) (h : Nat) : Mod :=
  let mine := m.sch.policers.filter fun e => peOwner e.2 == h
  let m := m.withSch { m.sch with buckets := mine.foldl (fun l e => store l e.1 (resetBuckets e.2 m.now)) m.sch.buckets }
  let ports := (List.range 128).filter fun p => m.owner p == h
  let m := ports.foldl Mod.shapersStart m
  let m := (List.range 32).foldl (fun m r => m.excReset (32 * h + r)) m
  m.withClp { m.clp with tokens := remove m.clp.tokens h }

/-- A reset of Hedge h ends (R350 step 5). -/
def Mod.hedgeActive (m : Mod) (h : Nat) (reload : Bool) : Mod :=
  let m := m.withHdg { m.hdg with resets := m.hdg.resets.filter (·.hedge != h) }
  let m := (m.set HDG_STATUS_STATE h 0).satAdd HDG_STATUS_RESETS h
  (m.sqc HDG_EVENT_RESET_DONE h).hdgEvent 0x01 h h (if reload then 2 else 1) [h]

/-- What a tick commit does for the resets whose walk is done (R350 step 4): a SOFT reset ends, a RELOAD begins its section. -/
def Mod.resetCommit (m : Mod) : Mod :=
  (m.hdg.resets.filter (·.phase == .reset)).foldl (fun m r =>
    let m := m.hedgeBuckets r.hedge
    if r.reload then
      (m.withHdg { m.hdg with resets := m.hdg.resets.map fun x => if x.hedge = r.hedge then { x with phase := .reload } else x }).set
        HDG_STATUS_STATE r.hedge 2
    else m.hedgeActive r.hedge false) m

/-! ### Host functions -/

/-- The event ring of Hedge h loses its place in the host memory of a function: its address clears (R345). -/
def Mod.ringUnplaced (m : Mod) (h place : Nat) : Mod :=
  if m.get HDG_EVT_CFG_PLACE h = place then m.set HDG_EVT_CFG_ADDR h 0 else m

/-- A function-level reset as it acts on virtual function h + 1 (R345). -/
def Mod.flrVf (m : Mod) (h q : Nat) : Mod :=
  let m := m.withHdg { m.hdg with busMaster := eraseNat m.hdg.busMaster (h + 1) }
  let m := ((m.wr .CLP_HOST_BASE h (Reg.boot .CLP_HOST_BASE h)).wr .CLP_HOST_IDX h 0).ringUnplaced h 1
  let m := (m.pathCleared (1 + h)).satAdd HDG_STATUS_FLRS h
  (m.sqc HDG_EVENT_FLR h).hdgEvent 0x05 h h q [h, 0]

/-- FUNCTION_LEVEL_RESET (R345): of the physical function (0), which acts on every virtual one and resets no Hedge, or of virtual
function h + 1, which resets its Hedge when FLR_RESETS is 1. -/
def Mod.functionReset (m : Mod) (fn : Nat) : Mod :=
  if fn = 0 then
    let m := (m.withHdg { m.hdg with busMaster := eraseNat m.hdg.busMaster 0 }).pathCleared 0
    let m := (List.range 16).foldl (fun m h => m.ringUnplaced h 2) m
    (List.range m.hdg.numVfs).foldl (fun m h => m.flrVf h 1) m
  else if m.hdg.numVfs < fn then m
  else
    let h := fn - 1
    let m := m.flrVf h 0
    if m.flag HDG_CFG_FLR_RESETS h then m.hedgeReset h false else m

/-- A PCI Express configuration write (R344, R348): NumVFs, bus mastering of a function, or the MSI-X mask of a vector. -/
def Mod.pcieWrite (m : Mod) (w : PcieWrite) : Mod :=
  if m.pcieOut then m
  else match w with
    | .numVfs n =>
      let n := Nat.min n.val 16
      m.withHdg { m.hdg with numVfs := n, busMaster := m.hdg.busMaster.filter fun f => decide (f ≤ n) }
    | .busMaster fn on =>
      if m.hdg.numVfs < fn.val then m
      else m.withHdg { m.hdg with busMaster := if on then insertNat m.hdg.busMaster fn.val else eraseNat m.hdg.busMaster fn.val }
    | .mask fn v on =>
      let upd (l : List Nat) (k : Nat) : List Nat := if on then insertNat l k else eraseNat l k
      if fn.val = 0 then m.withEvt { m.evt with pfMask := upd m.evt.pfMask v.val }
      else if v.val < 8 then m.withEvt { m.evt with vecMask := upd m.evt.vecMask (8 * (fn.val - 1) + v.val) } else m

/-- PERST (R365, R499, R513): a PCI Express conventional reset of the endpoint and its functions alone. It is no function-level reset: it clears no
register of a Hedge, counts no FLR and raises none (DEDUCED, log 75). -/
def Mod.perst (m : Mod) (low : Bool) : Mod :=
  let m := m.withPin { m.pin with perstN := !low }
  if low then
    let m := (List.range 17).foldl Mod.pathCleared m
    (m.withHdg { m.hdg with numVfs := 0, busMaster := [] }).withEvt { m.evt with pfMask := [], vecMask := [] }
  else m

end Sys2Proof.Machine
end

