-- ==== Sys2Proof/Machine/Owners.lean ====
section
/-! DEFINITION. Which configuration the Topiary image sets (the Reset column image of the register tables), and which Hedge a register
belongs to (R333, R530). -/

namespace Sys2Proof.Machine

/-- The bits of a register whose Reset column reads image and that a write can change (R402). -/
def imageBits (r : Reg) : Nat :=
  match r with
  | .GLB_TICK_CFG => 0xF
  | .PRT_PORT_CFG => 0x3FFF67FF
  | .PRT_FC_CFG => 0xFFFFFFFF07FFFF03
  | .PRT_EEE_CFG => 0xFFFF
  | .PRT_MAC_ADDR => 0xFFFFFFFFFFFF
  | .PRT_LANE_CFG => 0x3F
  | .PRT_TILE_CTL => 0x7
  | .PAR_HEDGE_CFG => 0x3FFF
  | .PAR_TPID => 0xFFFFFFFFFFFFFFFF
  | .PAR_UDP_PORTS => 0xFFFFFFFF
  | .CLS_SLICE_CFG => 0xFFF9
  | .CLS_HEDGE_CFG => 0xFF
  | .CLS_DSCP_MAP => 0x1F1F1F1F1F1F1F1F
  | .CLS_PCP_MAP => 0x1F1F1F1F1F1F1F1F
  | .CLS_EXC_TB => 0x7FFFFFFFFF
  | .FDB_CFG => 0xFFFFFFFF
  | .FDB_PRUNE_CFG => 0xFFFF1FFF
  | .FDB_HEDGE_CFG => 0xFE0007FFFF
  | .FDB_HEDGE_AGE => 0x3FFFF
  | .FDB_PORT_CFG => 0xFFEFFF
  | .LPM_ROOT => 0x7F
  | .BUF_CFG => 0x7FFFF
  | .BUF_HEDGE_CFG => 0x3FFFFFFFFFF
  | .BUF_HEDGE_CLASS => 0x3FFFFFFFFFFFFF
  | .BUF_PORT_CFG => 0x3FFFFFFFFF
  | .BUF_PORT_PFC => 0xFFFFFFFFFFF
  | .BUF_TILE_CFG => 0xFFFF0001
  | .SCH_PORT_CFG => 0xFF0000FF0F
  | .SCH_PORT_LAUNCH => 0xFFFFFFFF
  | .SCH_CLASS_CFG => 0xFFFF07
  | .SCH_GATE_CTL => 0x1
  | .SCH_GATE_BANK => 0x7FFFFFFFFFF
  | .SHP_CLASS => 0xFFFFFFFFFFFFFFFF
  | .SHP_PORT => 0xFFFFFFFFFFFFFFFF
  | .POL_MAP => 0x1FFFF
  | .TIM_SERVO_CFG => 0xFFFFFFFFFFFFBFFF
  | .TIM_HOLD_CFG => 0xFFFFFFFF8001FFFF
  | .TIM_REF_PRIO => 0xFFF
  | .TIM_MON_CFG => 0xFFFFFFFFFFFFFFFF
  | .TIM_PPS_CFG => 0xFFFFFFFFFFFFFC00
  | .TIM_INST_CFG => 0x3FF7F
  | .TIM_PORT_CFG => 0x3
  | .TIM_PORT_EXT => 0xFFFFFFFFFFFFFFFF
  | .TIM_PORT_ASYM => 0xFFFFFFFFFFFFFFFF
  | .CLP_CFG => 0xFFFF0000003FFFFF
  | .CLP_HEDGE_CFG => 0xFFFFFFFE00FF000F
  | .CLP_HEDGE_SEL => 0xFFFFFE
  | .CLP_RING_CFG => 0x3FFF00001FFF
  | .CLP_EXPORT => 0x7FE0FFFFFFFFFFFF
  | .CLP_PORT_SAMPLE => 0xFFFFFF00FFFFFF
  | .ENG_CLUSTER_CTL => 0xF
  | .ENG_TMR_CFG => 0x1FF
  | .ENG_JOB_LIMIT => 0xFFFFFFFF
  | .ENG_HEDGE_THR => 0xFFF03FF03FF
  | .ENG_SQ_CFG => 0xFFF00
  | .ENG_EVT_ROUTE => 0x83FFFFFF000000FF
  | .ENG_TICKJOB0 => 0xFFFFFFFFFFFFFFFF
  | .ENG_TICKJOB1 => 0xFFFFFFFFFFFF
  | .DRM_CFG => 0x1FFFF
  | .DRM_TRAIN_CFG => 0xFFFFFF
  | .DRM_CH_CTL => 0x1
  | .DRM_HEDGE_WIN => 0x1FF000001FF
  | .DRM_HEDGE_BW => 0xFF03FF
  | .HDG_CFG => 0x3
  | .HDG_EVT_CFG => 0xFFFFFFFFFFFFFC1F
  | .HDG_VEC_MAP => 0xFFFFFF
  | .HDG_VEC_MOD => 0xFFFF
  | .HDG_PORT_OWNER => 0xF
  | .HDG_GAP_CFG0 => 0xFFFFFFFFFFFFFFE0
  | .HDG_GAP_CFG1 => 0x7FFFF
  | .HDG_ROOT_FLOOR => 0x3FF0FFF3FF7FFFF
  | .EVT_IRQ_EN => 0xFFFFFFFF
  | .EVT_DMP_SEL => 0xFFFF
  | .EVT_PF_MOD => 0xFFFF
  | .DMP_CFG => 0xFFFF0003
  | .DMP_ADDR => 0xFFFFFFFFFFFFF
  | .DMP_STATION => 0xFFFFFFFFFFFF
  | .DMP_GATEWAY => 0xFFFFFFFF
  | .LLDP_CFG => 0x1FFFFFF
  | .UPD_CFG => 0xFFFFFFFF0FFF
  | .INT_SCRUB_CFG => 0xFFFF00000003FFFF
  | .INT_BUCKET_CFG => 0xFFFFFFFFFFFFFFFF
  | .GRF_CFG => 0xFFFF
  | .AGE_CFG => 0xFFFF01
  | .PWR_POLICY => 0xFFFF000F
  | .PWR_TEST_CFG => 0xFFFFFF00
  | .TRG_IN_CFG => 0xFFFFFF0B
  | .TRG_OUT_CFG => 0xFFFFFFFF7FFF
  | _ => 0

/-- The Hedge that index i of a register belongs to, for owners of front ports and of slices given as functions; none for a register that
is the module's. -/
def regHedge (owner slice : Nat → Nat) (r : Reg) (i : Nat) : Option Nat :=
  match r with
  | .PAR_HEDGE_CFG => some i
  | .CLS_HEDGE_CFG => some i
  | .FDB_HEDGE_CFG => some i
  | .FDB_HEDGE_AGE => some i
  | .BUF_HEDGE_CFG => some i
  | .BUF_HEDGE_CLASS => some i
  | .CLP_HEDGE_CFG => some i
  | .CLP_HEDGE_SEL => some i
  | .CLP_RING_CFG => some i
  | .CLP_RING_CONS => some i
  | .CLP_HOST_BASE => some i
  | .CLP_HOST_IDX => some i
  | .CLP_EXPORT => some i
  | .TIM_INST_CFG => some i
  | .DRM_HEDGE_WIN => some i
  | .DRM_HEDGE_BW => some i
  | .HDG_CFG => some i
  | .HDG_EVT_CFG => some i
  | .HDG_VEC_MAP => some i
  | .HDG_RESET => some i
  | .HDG_SWINT => some i
  | .EVT_RING_CONS => some i
  | .HDG_EVENT => some i
  | .HDG_STATUS => some i
  | .EVT_RING_PROD => some i
  | .EVT_RING_STATUS => some i
  | .CLP_RING_PROD => some i
  | .FDB_HEDGE_STATUS => some i
  | .BUF_HEDGE_STATUS => some i
  | .CLS_DSCP_MAP => some (i / 8)
  | .CLS_PCP_MAP => some (i / 2)
  | .CLS_EXC_TB => some (i / 32)
  | .LPM_ROOT => some (i / 2)
  | .HDG_VEC_MOD => some (i / 8)
  | .ENG_HEDGE_THR => some (i % 16)
  | .PRT_PORT_CFG => some (owner i)
  | .PRT_PORT_STATUS => some (owner i)
  | .PRT_PORT_EVENT => some (owner i)
  | .PRT_FC_CFG => some (owner i)
  | .PRT_EEE_CFG => some (owner i)
  | .PRT_WAKE_STATUS => some (owner i)
  | .PRT_WAKE_TIME => some (owner i)
  | .PRT_MAC_ADDR => some (owner i)
  | .PRT_LANE_CFG => some (owner i)
  | .PRT_LANE_STATUS => some (owner i)
  | .FDB_PORT_CFG => some (owner i)
  | .BUF_PORT_PFC => some (owner i)
  | .SCH_PORT_CFG => some (owner i)
  | .SCH_PORT_LAUNCH => some (owner i)
  | .SCH_PORT_STATUS => some (owner i)
  | .SCH_GATE_CTL => some (owner i)
  | .SCH_GATE_SWITCH => some (owner i)
  | .SHP_PORT => some (owner i)
  | .SHP_PORT_TOKENS => some (owner i)
  | .TIM_PORT_CFG => some (owner i)
  | .TIM_PORT_EXT => some (owner i)
  | .TIM_PORT_ASYM => some (owner i)
  | .TIM_PORT_FACT => some (owner i)
  | .CLP_PORT_SAMPLE => some (owner i)
  | .SCH_CLASS_CFG => some (owner (i / 8))
  | .SHP_CLASS => some (owner (i / 8))
  | .SHP_CLASS_TOKENS => some (owner (i / 8))
  | .POL_MAP => some (owner (i / 8))
  | .SCH_GATE_BANK => some (owner (i / 2))
  | .BUF_PORT_CFG => if i < 128 then some (owner i) else none
  | .BUF_PORT_STATUS => if i < 128 then some (owner i) else none
  | .CLS_SLICE_CFG => some (slice i)
  | _ => none

/-- The Hedge that index i of a register belongs to now. -/
def Mod.hedgeOf (m : Mod) (r : Reg) (i : Nat) : Option Nat := regHedge m.owner (fun s => m.get CLS_SLICE_CFG_OWNER s) r i

end Sys2Proof.Machine
end

