-- ==== Sys2Proof/Machine/Image.lean ====
section
/-! DEFINITION. The Topiary image as octets: its header, sections and records, the checks it passes before any write, and its digests
(Start-up and the Topiary Image). -/

namespace Sys2Proof.Machine

/-! ### Header (R394) -/

/-- FORMAT, and other fields of an image's header. -/
def imgFormat (l : List Byte) : Nat := fieldAt l 4 2

/-- SRC_FORMAT. -/
def imgSrcFormat (l : List Byte) : Nat := fieldAt l 38 2

/-- BOUND and MIGRATED of FLAGS. -/
def imgBound (l : List Byte) : Bool := (fieldAt l 12 4).testBit 0

/-- See imgBound. -/
def imgMigrated (l : List Byte) : Bool := (fieldAt l 12 4).testBit 1

/-- KEY_SLOT. -/
def imgKeySlot (l : List Byte) : Nat := fieldAt l 56 1

/-- A revocation fuse is blown. -/
def Mod.keyRevoked (m : Mod) (slot : Nat) : Bool := m.nvm.revoked.testBit slot

/-- The image with its signature taken as zero (R395). -/
def imgUnsigned (l : List Byte) : List Byte := l.take 160 ++ List.replicate 96 0 ++ l.drop 256

/-- The signature verifies (R395): under a fused slot that is not revoked, or, for a migrated image, under the identity key. -/
def Mod.imgSigned (m : Mod) (l : List Byte) : Bool :=
  let k := imgKeySlot l
  if k < 4 then !(m.keyRevoked k) && Config.ecdsaVerifies (Config.publicKey k) (imgUnsigned l) (sliceBytes l 160 96)
  else k == 255 && imgMigrated l && Config.ecdsaVerifies Config.identityKey (imgUnsigned l) (sliceBytes l 160 96)

/-- The image is not bound to another serial number (R400). -/
def imgSerialOk (l : List Byte) : Bool := !(imgBound l) || sliceBytes l 16 16 == Config.serial

/-! ### Sections and records (R396, R397) -/

/-- A section: TYPE, HEDGE, and the octets of its header and body. -/
structure Section where
  type : Nat
  hedge : Nat
  head : List Byte
  body : List Byte
  deriving DecidableEq, Repr

/-- A record: values for consecutive registers; entries of a table, each as one number; or words of the SHARED space of clusters. -/
inductive Rec where
  | reg (start : Nat) (values : List Word)
  | table (code start : Nat) (entries : List Nat)
  | shared (mask start : Nat) (words : List Word)
  deriving DecidableEq, Repr

/-- n sections from the octets that follow the header; none where one overruns the image. -/
def sectionsOf : Nat → List Byte → Option (List Section)
  | 0, _ => some []
  | n + 1, l =>
    let len := fieldAt l 4 4
    if l.length < 8 ∨ len % 8 ≠ 0 ∨ fieldAt l 2 2 ≠ 0 ∨ l.length < 8 + len then none
    else (sectionsOf n (l.drop (8 + len))).map fun t =>
      { type := fieldAt l 0 1, hedge := fieldAt l 1 1, head := l.take 8, body := (l.drop 8).take len } :: t

/-- Words of an entry of a window code (R397); none for a code that is not listed. -/
def codeWords (code : Nat) : Option Nat :=
  if 0x10 ≤ code ∧ code ≤ 0x1C then some (tblShape (code - 0x10)).2
  else lookup [(0x20, 2), (0x30, 1), (0x31, 1), (0x32, 3), (0x40, 21), (0x50, 2), (0x51, 1), (0x60, 1), (0x70, 2), (0x71, 1), (0x80, 13)] code

/-- n words of a list of octets. -/
def wordsAt (l : List Byte) (n : Nat) : List Word := (List.range n).map fun k => BitVec.ofNat 64 (fieldAt l (8 * k) 8)

/-- The records of a section's body, with fuel for one record per word; none on a KIND or window code not listed, or a record that
overruns the body. -/
def recordsOf : Nat → List Byte → Option (List Rec)
  | 0, l => if l.isEmpty then some [] else none
  | n + 1, l =>
    if l.isEmpty then some []
    else
      let kind := fieldAt l 0 1
      let arg := fieldAt l 1 1
      let count := fieldAt l 2 2
      let start := fieldAt l 4 4
      let size := if kind = 1 ∧ arg = 0 then some 1 else if kind = 2 then codeWords arg else if kind = 3 then some 1 else none
      match size with
      | none => none
      | some k =>
        if l.length < 8 + 8 * k * count then none
        else
          let ws := wordsAt (l.drop 8) (k * count)
          let r : Rec :=
            if kind = 1 then .reg start ws
            else if kind = 3 then .shared (arg % 16) start ws
            else .table arg start ((List.range count).map fun i => wordsNat ((ws.drop (k * i)).take k))
          (recordsOf n (l.drop (8 + 8 * k * count))).map (r :: ·)

/-- The records of a section; a KEYS section has none. -/
def Section.records (s : Section) : Option (List Rec) := if s.type = 6 then some [] else recordsOf (s.body.length / 8) s.body

/-- A section's (TYPE, HEDGE) is one of R396. -/
def Section.known (s : Section) : Bool :=
  match s.type with
  | 1 => s.hedge == 0xFF
  | 2 => decide (s.hedge < 16)
  | 3 => decide (s.hedge < 16) || s.hedge == 0xFF
  | 4 => decide (s.hedge < 16)
  | 5 => s.hedge == 0xFF
  | 6 => s.hedge == 0xFF
  | _ => false

/-- Sections stand in rising TYPE and, within it, rising HEDGE, and none occurs twice. -/
def inOrder : List Section → Bool
  | a :: b :: t => decide (256 * a.type + a.hedge < 256 * b.type + b.hedge) && inOrder (b :: t)
  | _ => true

/-- The sections of an image whose header is sound (R394, R396): none when it fails R398. -/
def imgSections (l : List Byte) : Option (List Section) :=
  let n := fieldAt l 36 2
  let len := fieldAt l 32 4
  if fieldAt l 0 4 ≠ 0x544F5049 ∨ fieldAt l 6 2 ≠ 256 ∨ len ≠ l.length ∨ len < 512 ∨ 8388608 < len ∨ n = 0 ∨ 64 < n then none
  else match sectionsOf n (l.drop 256) with
    | none => none
    | some ss => if ss.all Section.known && inOrder ss && ss.any (·.type == 1) then some ss else none

/-! ### The checks of R398 -/

/-- The field of a register that a fieldSpec places. -/
def FieldSpec.fld (r : Reg) (f : FieldSpec) : Fld := ⟨r, f.lo, f.hi + 1 - f.lo⟩

/-- A field's encoding is not reserved. -/
def FieldSpec.allows (f : FieldSpec) (v : Nat) : Bool := f.legal.isEmpty || f.legal.any fun x => decide (x.1 ≤ v) && decide (v ≤ x.2)

/-- A field whose encodings depend on another field of the word (R300, and the field tables of TIM_MON_CFG, CLP_CFG, SCH_GATE_BANK and
TRG_OUT_CFG), and whether the word breaks that rule. -/
def relations (r : Reg) (w : Word) : List (Fld × Bool) :=
  match r with
  | .TIM_MON_CFG => [(TIM_MON_CFG_SOFT_PPB, decide (TIM_MON_CFG_HARD_PPB.of w ≤ TIM_MON_CFG_SOFT_PPB.of w))]
  | .CLP_CFG => [(CLP_CFG_RELEASE_LVL, decide (CLP_CFG_PANIC_LVL.of w ≤ CLP_CFG_RELEASE_LVL.of w))]
  | .SCH_GATE_BANK => [(SCH_GATE_BANK_PHASE, decide (SCH_GATE_BANK_CYCLE_TICKS.of w ≤ SCH_GATE_BANK_PHASE.of w))]
  | .EPC_SEL =>
    let e := EPC_SEL_EVENT.of w
    [(EPC_SEL_THR_EN, EPC_SEL_THR_EN.of w == 1 && !(decide (32 ≤ e) && decide (e ≤ 36)))]
  | .TRG_OUT_CFG =>
    let f := TRG_OUT_CFG_FUNC.of w
    [(TRG_OUT_CFG_PULSE, (f == 3 || f == 5) && TRG_OUT_CFG_PULSE.of w == 0), (TRG_OUT_CFG_DIV, f == 5 && TRG_OUT_CFG_DIV.of w == 0)]
  | _ => []

/-- A word holds a reserved encoding in some field of a register. -/
def regReserved (r : Reg) (w : Word) : Bool :=
  (r.spec.fields.any fun f => f.acc != .ro && !(f.allows ((f.fld r).of w))) || (relations r w).any (·.2)

/-- An index lies in a table (R397). -/
def tableIndex (code i : Nat) : Bool :=
  if code < 0x20 then decide (i < (tblShape (code - 0x10)).1)
  else match code with
    | 0x20 => true
    | 0x30 => decide (i < 40 * 65536)
    | 0x31 => decide (i < 32768 * 256)
    | 0x32 => decide (i < 32768)
    | 0x40 => decide (i < 24 * 2048)
    | 0x50 => decide (i < 64)
    | 0x51 => decide (i < 256)
    | 0x60 => decide (i < 128 * 2048)
    | 0x70 => decide (i < 65536)
    | 0x71 => decide (i < 16384)
    | _ => decide (1 ≤ i) && decide (i < 4096)

/-- An entry holds a reserved encoding in a field it applies (R6, R528). -/
def entryReserved (code e : Nat) : Bool :=
  if code < 0x20 then tblReserved (code - 0x10) e
  else match code with
    | 0x20 => decide (5 ≤ feKind e)
    | 0x30 => bit e 62 && bits e 46 45 == 3
    | 0x31 => bit e 62 && bits e 46 45 == 3
    | 0x32 => bit e 63 && bits e 49 48 == 3
    | 0x40 => actReserved (BitVec.ofNat 64 (e / 2 ^ (64 * 20)))
    | 0x50 => nodeReserved e
    | 0x71 => decide (2 ≤ shKind e)
    | 0x80 => templateReserved (e / 2 ^ (64 * 12))
    | _ => false

/-- The Hedge an entry belongs to (R333), for owners of front ports and slices given as functions; none for one no Hedge owns. -/
def tableHedge (owner slice : Nat → Nat) (code i e : Nat) : Option Nat :=
  match code with
  | 0x10 => some (i / 4096)
  | 0x20 => some (fidHedge (feFid e))
  | 0x32 => some (bits e 62 59)
  | 0x40 => some (slice (i / 2048))
  | 0x60 => some (owner (i / 2048))
  | 0x70 => some (peOwner e)
  | _ => none

/-- The values a record gives a register array's elements, as offset and value. -/
def regWrites (start : Nat) (values : List Word) : List (Nat × Word) := (List.range values.length).map fun k => (start + 8 * k, values.getD k 0)

/-- A function changed where registers are written: the last value a list of records gives each element of an array. -/
def recordedAt (rs : List Rec) (r : Reg) (old : Nat → Word) (i : Nat) : Word :=
  rs.foldl (fun w x => match x with
    | .reg start vs => (regWrites start vs).foldl (fun w e => if e.1 = r.addr i then e.2 else w) w
    | _ => w) (old i)

/-- A record is sound (R398), for the Hedge its section must keep to. -/
def recSound (owner slice : Nat → Nat) (within_ : Option Nat) (x : Rec) : Bool :=
  let own (h : Option Nat) : Bool := match within_ with
    | none => true
    | some k => h == some k
  match x with
  | .reg start vs =>
    (regWrites start vs).all fun e => match regAt 18 e.1 with
      | some (r, i) => !(regReserved r e.2) && own (regHedge owner slice r i)
      | none => false
  | .table code start es =>
    (List.range es.length).all fun k =>
      let e := es.getD k 0
      tableIndex code (start + k) && !(entryReserved code e) && own (tableHedge owner slice code (start + k) e)
  | .shared _ start ws => decide (0x200000 ≤ start) && decide (start + 8 * ws.length ≤ 0x400000) && start % 8 == 0

/-- The sections of an image that passes R398 whole, with their records. -/
def imgChecked (l : List Byte) : Option (List (Section × List Rec)) :=
  match imgSections l with
  | none => none
  | some ss =>
    let rs := ss.map fun s => (s, s.records)
    if rs.any (·.2.isNone) then none
    else
      let rs := rs.map fun x => (x.1, x.2.getD [])
      let all_ := (rs.map (·.2)).flatten
      let owner (p : Nat) : Nat := HDG_PORT_OWNER_HEDGE.of (recordedAt all_ .HDG_PORT_OWNER (fun _ => 0) p)
      let slice (s : Nat) : Nat := CLS_SLICE_CFG_OWNER.of (recordedAt all_ .CLS_SLICE_CFG (fun _ => 0) s)
      let sound (x : Section × List Rec) : Bool :=
        let within_ := if x.1.type = 2 ∨ x.1.type = 3 ∨ x.1.type = 4 then (if x.1.hedge < 16 then some x.1.hedge else none) else none
        x.2.all (recSound owner slice within_)
      if rs.all sound then some rs else none

/-- Why a TC slot's image cannot be used (R385, R395 to R400): the reason, 0 when it can. -/
def Mod.imgFault (m : Mod) (l : List Byte) : Nat :=
  if !(m.imgSigned l) then 2
  else if m.get TOP_INFO_SV_CUR < imgFormat l then 3
  else if imgFormat l < m.get TOP_INFO_SV_MIN then 4
  else if !(imgSerialOk l) then 5
  else if (imgChecked l).isNone then 6
  else 0

/-! ### Digests (R401) and keys (R407) -/

/-- A digest over sections: the first 8 octets of SHA-384 of their headers and bodies. -/
def digestOf (ss : List Section) : Word := BitVec.ofNat 64 ((Config.sha384 ((ss.map fun s => s.head ++ s.body).flatten)).toNat / 2 ^ 320)

/-- The image digest: every section but KEYS. -/
def imgDigest (ss : List Section) : Word := digestOf (ss.filter (·.type != 6))

/-- Digest i of GLB_CFG_DIGEST: 0 global, 1 + h Hedge h; zero when the image has no section for h. -/
def partDigest (ss : List Section) (i : Nat) : Word :=
  if i = 0 then digestOf (ss.filter fun s => s.hedge == 0xFF && s.type != 6)
  else
    let l := ss.filter (·.hedge == i - 1)
    if l.isEmpty then 0 else digestOf l

/-- The keys of a KEYS section. -/
def keysOf (body : List Byte) : List (Nat × List Byte) :=
  (List.range (Nat.min (fieldAt body 0 1) 2)).map fun k => (fieldAt body (8 + 40 * k) 2, sliceBytes body (16 + 40 * k) 32)

/-- An image without its KEYS section, as its copy in SDRAM holds it (R392): SECTIONS and IMAGE_LEN follow. -/
def imgCopy (l : List Byte) (ss : List Section) : List Byte :=
  let kept := ss.filter (·.type != 6)
  let body := (kept.map fun s => s.head ++ s.body).flatten
  l.take 32 ++ toBytes 4 (256 + body.length) ++ toBytes 2 kept.length ++ (l.take 256).drop 38 ++ body

end Sys2Proof.Machine
end

