-- ==== Sys2Proof/Machine/Nvm.lean ====
section
/-! DEFINITION. The NVM devices: component slots and their headers, the boot record, the erase journal, wear, the gasp record, and the
health walk (Updating Firmware, Microcode and Configuration). -/

namespace Sys2Proof.Machine

/-! ### Components (R412 to R414, R419) -/

/-- Slot sizes by component, in MiB (R417). -/
def slotMib (n : Nat) : Nat := [1, 4, 2, 16, 9].getD n 0

/-- First 4 KiB sector of component n's slot (R417). -/
def slotSector (n : Nat) : Nat := [0x20, 0x120, 0x520, 0x720, 0x1720].getD n 0

/-- VERSION, PROV and BODY_LEN of a component's header. -/
def compVersion (l : List Byte) : Nat := fieldAt l 6 2

/-- See compVersion. -/
def compProv (l : List Byte) : Nat := fieldAt l 8 2

/-- See compVersion. -/
def compBodyLen (l : List Byte) : Nat := fieldAt l 32 4

/-- The body of a component. -/
def compBody (l : List Byte) : List Byte := (l.drop 512).take (compBodyLen l)

/-- BODY_DIGEST, 48 octets. -/
def compDigest (l : List Byte) : List Byte := sliceBytes l 44 48

/-- X accepts Y of code n (R419). -/
def compAccepts (x y : List Byte) (n : Nat) : Bool :=
  decide (fieldAt x (10 + 4 * n) 2 ≤ compProv y) && decide (compProv y ≤ fieldAt x (12 + 4 * n) 2)

/-- Every two components of a set are compatible; one that is absent constrains nothing. -/
def setCompatible (l : List (Nat × List Byte)) : Bool :=
  l.all fun x => l.all fun y => x.1 == y.1 || compAccepts x.2 y.2 y.1

/-- A header of component n is well formed (R412): its length fields apart from the body. -/
def compFormed (n : Nat) (l : List Byte) : Bool :=
  decide (512 ≤ l.length) && fieldAt l 0 4 == 0x54574843 && fieldAt l 4 1 == n && fieldAt l 5 1 == 0 &&
    decide (512 + compBodyLen l ≤ l.length)

/-- The entries of a signature block at an offset (R413): slot, and r and s; none when the block is malformed. -/
def sigEntries (l : List Byte) (at_ : Nat) : Option (List (Nat × List Byte)) :=
  let n := fieldAt l at_ 1
  let e (k : Nat) : Nat × List Byte := (fieldAt l (at_ + 4 + 100 * k) 1, sliceBytes l (at_ + 8 + 100 * k) 96)
  if n = 1 then some [e 0] else if n = 2 ∧ (e 0).1 ≠ (e 1).1 then some [e 0, e 1] else none

/-- Why the signature block over octets 0 to 255 of a header fails (R414): 2 SIGNATURE, 3 KEY_REVOKED, 0 when it verifies. migrated allows
the identity key of R399. -/
def Mod.sigFault (m : Mod) (l : List Byte) (migrated : Bool) : Nat :=
  match sigEntries l 256 with
  | none => 2
  | some es =>
    if es.any fun e => decide (e.1 < 4) && m.keyRevoked e.1 then 3
    else
      let good (e : Nat × List Byte) : Bool :=
        if e.1 < 4 then Config.ecdsaVerifies (Config.publicKey e.1) (l.take 256) e.2
        else e.1 == 255 && migrated && es.length == 1 && Config.ecdsaVerifies Config.identityKey (l.take 256) e.2
      if es.all good then 0 else 2

/-- What component n's octets hold passes its checks: header, signature block, CRC and digest (R412 to R414, R440). -/
def Mod.compGood (m : Mod) (n : Nat) (l : List Byte) : Bool :=
  compFormed n l && m.sigFault l (n == 4 && imgMigrated (compBody l)) == 0 && carryCheck (compBody l) == fieldAt l 36 8 &&
    toBytes 48 (Config.sha384 (compBody l)).toNat == compDigest l

/-! ### Events -/

/-- An NVM event (R431): device or place in [15:8], qualifier in [7:0], tick or detail above. -/
def Mod.nvmEvent (m : Mod) (code what q : Nat) (high : Nat := 0) : Mod :=
  (m.sqcBit NVM_EVENT_EVENTS (code - 1) 0).event
    { blk := 0x18, code := code, detail := high % 2 ^ 44 * 2 ^ 16 + what % 256 * 2 ^ 8 + q }

/-! ### The boot record (R418) -/

/-- The boot record in use: of the good copies in devices that answer, the one with the higher SEQ. -/
def Mod.bootRec (m : Mod) : BootRec :=
  match if m.deviceOk 0 then m.nvm.recA else none, if m.deviceOk 1 then m.nvm.recB else none with
  | some a, some b => if a.seq < b.seq then b else a
  | some a, none => a
  | none, some b => b
  | none, none => {}

/-- A new boot record, SEQ one above, written in both devices that answer, one after the other. -/
def Mod.writeRec (m : Mod) (r : BootRec) : Mod :=
  let r := { r with seq := m.bootRec.seq + 1 }
  let m := if m.deviceOk 0 then (m.erased 0 8 0 1).withNvm { (m.erased 0 8 0 1).nvm with recA := some r } else m
  if m.deviceOk 1 then (m.erased 1 8 0 1).withNvm { (m.erased 1 8 0 1).nvm with recB := some r } else m

/-- Slot of component n that the boot record names active: 0 A, 1 B. -/
def BootRec.slot (r : BootRec) (n : Nat) : Nat := b01 (r.active.testBit n)

/-- The record with component n's active slot and STATE (0 CONFIRMED, 1 PENDING, 2 TRIAL). -/
def BootRec.put (r : BootRec) (n slot state : Nat) : BootRec :=
  { r with active := r.active - 2 ^ n * r.slot n + 2 ^ n * slot, states := setAt r.states n state }

/-! ### Slots -/

/-- What slot s (0 A, 1 B) of component n holds, none when it is blank, half-erased or its device does not answer. -/
def Mod.slot (m : Mod) (n s : Nat) : Option (List Byte) :=
  if m.deviceOk s && (lookup m.nvm.half (16 * s + n)).isNone then lookup m.nvm.slots (2 * n + s) else none

/-- A component written into a slot under the journal (R422, R429). One that does not read back leaves the slot without its first octets, which
are written last, and so not valid. -/
def Mod.slotWritten (m : Mod) (n s : Nat) (l : List Byte) (good : Bool) : Mod :=
  let m := m.erased s n (slotSector n) (ceilDiv l.length 4096)
  m.withNvm { m.nvm with slots := if good then store m.nvm.slots (2 * n + s) l else remove m.nvm.slots (2 * n + s),
                         badSlots := eraseNat m.nvm.badSlots (2 * n + s) }

/-- The erase or program of a slot is cut short (R427, R429): the slot holds no component. Which of the two was in progress, and whether the journal,
the first octets or both then show the range half-erased, is a free value (log 76). -/
def Mod.slotCut (m : Mod) (n s : Nat) (l : List Byte) : Mod :=
  let r := m.freshNat
  let m := (r.2.worn s (slotSector n) (ceilDiv l.length 4096)).journalled s
  m.withNvm { m.nvm with slots := remove m.nvm.slots (2 * n + s), badSlots := eraseNat m.nvm.badSlots (2 * n + s),
                         half := if r.1 % 4 = 0 then m.nvm.half else store m.nvm.half (16 * s + n) (r.1 % 4) }

/-- The slot that an update is writing, when it is: the component, and the slot that is not active (R422). -/
def Mod.writing (m : Mod) : Option (Nat × Nat) :=
  if m.get UPD_STATUS_STATE = 5 then some (m.get UPD_STATUS_COMP, 1 - m.upd.prevSlot) else none

/-- An update's write in progress is cut short. -/
def Mod.writeCut (m : Mod) : Mod :=
  match m.writing with
  | some (n, s) => if (lookup m.nvm.slots (2 * n + s)).isNone && (lookup m.nvm.half (16 * s + n)).isSome then m else m.slotCut n s m.upd.stepRun
  | none => m

/-- VERSION that UPD_COMP shows for a slot: 0 when the slot is not valid (R440). -/
def Mod.slotVersion (m : Mod) (n s : Nat) : Nat :=
  match m.slot n s with
  | some l => if m.nvm.badSlots.contains (2 * n + s) || !(compFormed n l) then 0 else compVersion l
  | none => 0

/-- UPD_COMP of component n as it reads. -/
def Mod.compShown (m : Mod) (n : Nat) : Word :=
  let r := m.bootRec
  BitVec.ofNat 64 (m.slotVersion n 1 * 2 ^ 48 + m.slotVersion n 0 * 2 ^ 32 + compProv (lookupD m.upd.running n []) * 2 ^ 16 +
    r.states.getD n 0 * 2 ^ 8 + r.slot n)

/-- UPD_KEYS as it reads. -/
def Mod.keysShown (m : Mod) : Word :=
  BitVec.ofNat 64 (m.bootRec.revoke * 2 ^ 36 + m.nvm.revoked * 2 ^ 32 +
    ((List.range 4).map fun k => (Config.keyGeneration k).toNat * 2 ^ (8 * k)).sum)

/-- The binary logarithm of an NVM device's octets: at least 64 MiB, and which size is not stated (R417). -/
def nvmLog2 (d : Nat) : Nat := 26 + Config.nvmSize d % 6

/-- NVM_STATUS as it reads: the devices' sizes, protection, presence, and an erase or program in progress. -/
def Mod.nvmShown (m : Mod) : Word :=
  BitVec.ofNat 64 (nvmLog2 1 * 2 ^ 24 + nvmLog2 0 * 2 ^ 16 + b01 (m.get UPD_STATUS_STATE == 5) * 8 + b01 (!m.pin.nvmWpN) * 4 + b01 (m.deviceOk 1) * 2 +
    b01 (m.deviceOk 0))

/-- NVM_GASP as it reads. -/
def Mod.gaspShown (m : Mod) : Word :=
  let w := m.rd .NVM_GASP
  NVM_GASP_B_BLANK.put (NVM_GASP_A_BLANK.put w (b01 (m.deviceOk 0 && m.nvm.gaspA.isNone))) (b01 (m.deviceOk 1 && m.nvm.gaspB.isNone))

/-- DEVICE_LOST (R431, R417): a device stops answering; its slots are unavailable. -/
def Mod.deviceLost (m : Mod) (d : Nat) : Mod :=
  if m.nvmLost d then m
  else (m.withInt { m.int with nvmLost := insertNat m.int.nvmLost d }).nvmEvent 0x04 d d

/-- Slots that a health walk finds bad (R440). -/
def Mod.walkFails (m : Mod) (failing : List Nat) : List Nat :=
  (List.range 10).filter fun k =>
    match m.slot (k / 2) (k % 2) with
    | some l => failing.contains k || !(m.compGood (k / 2) l)
    | none => false

/-- NVM_WALK (R440): every NVM_WALK_H hours the supervisor firmware verifies every slot and record; failing are slots, by
2 × component + slot, that do not read back. It waits while the supervisor is absent (R486). -/
def Mod.nvmWalk (m : Mod) (failing : List Nat) : Mod :=
  if m.flag GLB_STATUS_HEADLESS || m.get INT_SCRUB_CFG_NVM_WALK_H == 0 then m
  else
    let m := m.advanceTo (m.int.nvmWalkAt + m.get INT_SCRUB_CFG_NVM_WALK_H * 3600 * oneSecond)
    let bad := m.walkFails failing
    let m := m.withInt { m.int with nvmWalkAt := m.now }
    let m := m.withUpd { m.upd with walked := true }
    let m := m.withNvm { m.nvm with badSlots := bad }
    bad.foldl (fun m k => (m.bump (intCtr 67)).intEvent 0x05 0 (k % 2) (k / 2)) m

/-! ### The gasp record (R430) -/

/-- The last eight records of the root Hedge's event ring, oldest first, as they lie in SDRAM; zero where there is none. -/
def Mod.lastRecords (m : Mod) : List Byte :=
  let prod := m.get EVT_RING_PROD_PROD 0
  let base := eventRegion + m.get HDG_EVT_CFG_ADDR 0 * 4096
  ((List.range 8).map fun k =>
    if prod + k < 8 ∨ m.get HDG_EVT_CFG_PLACE 0 ≠ 0 then List.replicate 16 (0 : Byte)
    else memRead m.drm.mem (base + 16 * ((prod + k - 8) % m.ringSize 0)) 16).flatten

/-- The gasp record's 256 octets. The AON domain builds it with the ring's part zero when the supervisor is absent. -/
def Mod.gaspRecord (m : Mod) : List Byte :=
  let ring := if m.flag GLB_STATUS_HEADLESS then List.replicate 128 0 else m.lastRecords
  let l := toBytes 4 0x47415350 ++ toBytes 4 m.nvm.powerOns ++ toBytes 8 m.tickNum ++ toBytes 6 (timeSec m.time.net) ++
    toBytes 4 (timeNs m.time.net) ++ toBytes 2 0 ++ toBytes 2 (m.get PWR_FEED_VIN 0) ++ toBytes 2 (m.get PWR_FEED_VIN 1) ++
    toBytes 2 (m.get AGE_TEMP_TJ_MAX) ++ toBytes 2 (m.get AGE_TEMP_COLD_PLATE) ++ toBytes 4 (m.now / oneSecond) ++
    toBytes 8 (m.rd .BOOT_STATUS).toNat ++ List.replicate 16 0 ++ ring ++ List.replicate 56 0
  l ++ toBytes 8 (carryCheck l)

/-- The gasp record programmed (R430): an erase or program in progress is abandoned, and the first blank gasp sector takes it. -/
def Mod.gaspWritten (m : Mod) : Mod :=
  let m := m.writeCut
  let l := m.gaspRecord
  if m.deviceOk 0 && m.nvm.gaspA.isNone then m.withNvm { m.nvm with gaspA := some l }
  else if m.deviceOk 1 && m.nvm.gaspB.isNone then m.withNvm { m.nvm with gaspB := some l }
  else m

end Sys2Proof.Machine
end

