-- ==== Sys2Proof/Machine/Update.lean ====
section
/-! DEFINITION. Updates in service: the bundle, its check, the steps, confirmation and fallback (Updating Firmware, Microcode and
Configuration). -/

namespace Sys2Proof.Machine

/-! ### Places and events -/

/-- The image region (R421): the running Topiary copy and the new one, the EM areas, and the bundle staging area. -/
def topiaryCopy : Nat := 0x200000000

/-- See topiaryCopy. -/
def emArea (k : Nat) : Nat := 0x201000 + k * 0x400

/-- See topiaryCopy. -/
def bundleArea : Nat := 0x202000000

/-- Octets of the staging area. -/
def bundleMax : Nat := 0x4000000

/-- A UPD event (R431): component, tile or cluster in [15:8], qualifier in [7:0]. -/
def Mod.updEvent (m : Mod) (code comp q : Nat) : Mod :=
  (m.sqcBit UPD_EVENT_EVENTS (code - 1) 0).event { blk := 0x17, code := code, detail := comp * 2 ^ 8 + q }

/-- UPD_STATUS.STATE, and setting it. -/
def Mod.updState (m : Mod) : Nat := m.get UPD_STATUS_STATE

/-- See updState. -/
def Mod.setUpd (m : Mod) (s : Nat) : Mod := m.set UPD_STATUS_STATE 0 s

/-- The component of the current step. -/
def Mod.updComp (m : Mod) : Nat := m.get UPD_STATUS_COMP

/-- An update is in progress: checking, writing, exchanging, on trial or falling back (R427). -/
def Mod.updBusy (m : Mod) : Bool := m.updState == 3 || (decide (5 ≤ m.updState) && decide (m.updState ≤ 8))

/-- UPD_STATUS as it reads: seconds left in the confirm window. -/
def Mod.updShown (m : Mod) : Word :=
  let left := match m.upd.deadline with
    | some t => if m.updState = 7 then (t - m.absNow) / oneSecond else 0
    | none => 0
  UPD_STATUS_REMAIN_S.put (m.rd .UPD_STATUS) left

/-! ### The bundle (R411, R420) -/

/-- The octets staged, of the length a host wrote. -/
def Mod.bundle (m : Mod) : List Byte := memRead m.drm.mem bundleArea (Nat.min (m.get UPD_CTL_LEN) bundleMax)

/-- The components of a bundle: code, and header with body; none when the bundle header is malformed. -/
def bundleComps (l : List Byte) : Option (List (Nat × List Byte)) :=
  let n := fieldAt l 6 2
  let entry (k : Nat) : Nat × Nat := (fieldAt l (24 + 8 * k) 1, fieldAt l (28 + 8 * k) 4)
  let comp (k : Nat) : Nat × List Byte :=
    let e := entry k
    let c := l.drop e.2
    (e.1, c.take (512 + compBodyLen c))
  let formed (k : Nat) : Bool :=
    (entry k).2 % 4096 == 0 && decide (512 ≤ (entry k).2) && decide ((comp k).1 < 5) && compFormed (comp k).1 (comp k).2
  let confirm := fieldAt l 14 2
  if fieldAt l 0 4 ≠ 0x54574842 ∨ fieldAt l 4 2 ≠ 1 ∨ n = 0 ∨ 5 < n ∨ fieldAt l 8 4 ≠ l.length ∨
      (confirm ≠ 0 ∧ (confirm < 60 ∨ 3600 < confirm)) ∨ (sigEntries l 256).isNone then none
  else if (List.range n).all formed then some ((List.range n).map comp) else none

/-- Codes stand in rising order, none twice. -/
def codesRise : List (Nat × List Byte) → Bool
  | a :: b :: t => decide (a.1 < b.1) && codesRise (b :: t)
  | _ => true

/-- The first signature fault of a bundle header and its components. -/
def Mod.bundleSig (m : Mod) (l : List Byte) (cs : List (Nat × List Byte)) : Nat :=
  ((m.sigFault l false) :: cs.map fun c => m.sigFault c.2 (c.1 == 4 && imgMigrated (compBody c.2))).find? (· != 0) |>.getD 0

/-- R415 holds: a bundle that revokes is signed by a slot of the new generation and brings an SV component. -/
def revokeSound (l : List Byte) (cs : List (Nat × List Byte)) : Bool :=
  let g := fieldAt l 12 1
  g == 0 || (((sigEntries l 256).getD []).any fun e => decide (e.1 < 4) && decide (g ≤ (Config.keyGeneration e.1).toNat)) && cs.any (·.1 == 3)

/-- The running set with a component replaced. -/
def withComp (s : List (Nat × List Byte)) (c : Nat × List Byte) : List (Nat × List Byte) := store s c.1 c.2

/-- Every set S₁ … Sₙ of the check is compatible (R420). -/
def setsCompatible (s : List (Nat × List Byte)) : List (Nat × List Byte) → Bool
  | [] => true
  | c :: t => setCompatible (withComp s c) && setsCompatible (withComp s c) t

/-- A component equals the running one and takes no step. -/
def Mod.compSkipped (m : Mod) (c : Nat × List Byte) : Bool :=
  match lookup m.upd.running c.1 with
  | some r => compDigest r == compDigest c.2
  | none => false

/-- The running Topiary image, none in the empty configuration. -/
def Mod.runningImage (m : Mod) : List Byte := compBody (lookupD m.upd.running 4 [])

/-- The parts of an image whose sections differ from another's: 0 GLOBAL and all with HEDGE 0xFF, 1 + h those of Hedge h (R426). -/
def changedParts (old new : List Section) : List Nat :=
  (List.range 17).filter fun i =>
    let pick (l : List Section) : List Section := l.filter (·.hedge == (if i = 0 then 0xFF else i - 1))
    (pick old).map (fun s => (s.head, s.body)) != (pick new).map (fun s => (s.head, s.body))

/-- The records of part i of an image. -/
def partRecords (rs : List (Section × List Rec)) (i : Nat) : List Rec :=
  ((rs.filter fun x => x.1.hedge == (if i = 0 then 0xFF else i - 1)).map (·.2)).flatten

/-- The lock group that guards a register (R363): none for one that no group guards. -/
def lockGroup (r : Reg) : Option Nat :=
  match r with
  | .GRF_CMD => some 0
  | .GRF_CFG => some 0
  | .GRF_MAP_BANK => some 0
  | .GRF_MAP_CLS => some 0
  | .GLB_FUSE_SHADOW => some 1
  | .PWR_POLICY => some 2
  | .HDG_PORT_OWNER => some 3
  | .HDG_ROOT_FLOOR => some 3
  | .UPD_REVOKE => some 4
  | _ => none

/-- A register write of the GLOBAL part that cannot be made in service (R26, R42, R102, R129, R363, R426). -/
def Mod.needsRestart (m : Mod) (locks : BitVec 5) (off : Nat) (w : Word) : Bool :=
  match regAt 18 off with
  | none => false
  | some (r, i) =>
    let old := m.rd r i
    match r with
    | .GLB_TICK_CFG => m.schedulesRun && GLB_TICK_CFG_PERIOD.of w != GLB_TICK_CFG_PERIOD.of old
    | .PRT_PORT_CFG => m.cfgCheck false i old w != 0
    | .FDB_CFG => FDB_CFG_FDB_SEED.of w != FDB_CFG_FDB_SEED.of old
    | .LPM_CFG => w != old
    | _ => match lockGroup r with
      | some g => locks.getLsbD g && w != old
      | none => false

/-- Staging entries that a part's records need (R28, R426). -/
def partStaging (rs : List Rec) : Nat :=
  (rs.map fun x => match x with
    | .reg start vs => ((regWrites start vs).map fun e => match regAt 18 e.1 with
        | some (r, _) => (rwtFields r).length
        | none => 0).sum
    | .table code _ es => (if code = 0x50 ∨ code = 0x70 then 2 else if code = 0x51 ∨ code = 0x71 then 1 else 0) * es.length
    | .shared _ _ _ => 0).sum

/-- Why the TC row of a check fails (R420 step 3, R426), 0 when it does not. -/
def Mod.tcCheck (m : Mod) (locks : BitVec 5) (image : List Byte) (reloadOk atRestart : Bool) : Nat :=
  let f := m.imgFault image
  if f = 2 then 2
  else if f ≠ 0 then 1
  else
    let rs := (imgChecked image).getD []
    let parts := changedParts ((imgSections m.runningImage).getD []) (rs.map (·.1))
    let restart := (partRecords rs 0).any fun x => match x with
      | .reg start vs => (regWrites start vs).any fun e => m.needsRestart locks e.1 e.2
      | _ => false
    if parts.contains 0 && restart && !atRestart then 10
    else if !reloadOk && parts.any fun i => i != 0 && decide (2048 < partStaging (partRecords rs i)) then 11
    else 0

/-- Why the bundle fails its check (R420, R432), 0 when it passes. -/
def Mod.bundleFault (m : Mod) (locks : BitVec 5) : Nat :=
  let l := m.bundle
  match bundleComps l with
  | none => 1
  | some cs =>
    let flags := fieldAt l 13 1
    let sig := m.bundleSig l cs
    let tc := match cs.find? (·.1 == 4) with
      | some c => m.tcCheck locks (compBody c.2) (flags.testBit 0) (flags.testBit 1)
      | none => 0
    if !(codesRise cs) then 5
    else if cs.any fun c => decide (slotMib c.1 * 2 ^ 20 < c.2.length) then 6
    else if sig ≠ 0 then sig
    else if !(revokeSound l cs) then 7
    else if !(setsCompatible m.upd.running cs) then 4
    else if tc ≠ 0 then tc
    else if cs.any fun c => !(m.compSkipped c) && !(m.deviceOk (1 - m.bootRec.slot c.1)) then 9
    else if !m.pin.nvmWpN then 8
    else 0

/-- CHECK runs (R420): CHECKED, or FAILED with the reason. -/
def Mod.runCheck (m : Mod) (locks : BitVec 5) : Mod :=
  let q := m.bundleFault locks
  let m := (m.setUpd (if q = 0 then 4 else 10)).set UPD_STATUS_RESULT 0 q
  m.updEvent 0x01 0 q

/-- A check runs, and is followed by START where one was asked for with it and it passes (R421). -/
def Mod.thenStarts (m : Mod) (start : Mod → Mod) (locks : BitVec 5) : Mod :=
  let go := m.upd.thenStart
  let m := (m.withUpd { m.upd with thenStart := false }).runCheck locks
  if go && m.updState == 4 then start m else m

/-- A request refused (R427, R431). -/
def Mod.updRefused (m : Mod) (q : Nat) : Mod := m.updEvent 0x07 0 q

/-- OP CHECK (R420): refused while an update runs; it waits for the supervisor while that is absent (R486). -/
def Mod.checkOp (m : Mod) (locks : BitVec 5) : Mod :=
  if m.updBusy then m.updRefused 1
  else if m.flag GLB_STATUS_HEADLESS then m.setUpd 3
  else m.runCheck locks

/-! ### Steps (R422, R423) -/

/-- The update ends (R425, R431): completed, or failed with a reason. -/
def Mod.updEnds (m : Mod) (reason : Nat) : Mod :=
  let m := m.withUpd { m.upd with order := [], deadline := none, tc := none }
  ((m.setUpd (if reason = 0 then 9 else 10)).set UPD_STATUS_RESULT 0 reason).updEvent 0x05 0 reason

/-- The next step begins: its component is written into the slot that is not active; with none left, the update is done. -/
def Mod.nextStep (m : Mod) : Mod :=
  match m.upd.order with
  | [] => m.updEnds 0
  | n :: _ =>
    let body := ((bundleComps m.bundle).getD []).find? (·.1 == n)
    let m := m.withUpd { m.upd with
      stepRun := (body.map (·.2)).getD []
      prevSlot := m.bootRec.slot n
      prevRun := lookupD m.upd.running n []
      jobFault := false
      ticksRun := []
      applyBad := false
      walked := false
      restarted := false
      portsUp := (List.range 128).filter m.portUp }
    (m.set UPD_STATUS_COMP 0 n).setUpd 5

/-- OP START (R422): the steps begin in bundle order. -/
def Mod.startOp (m : Mod) : Mod :=
  if m.updBusy then m.updRefused 1
  else if m.updState ≠ 4 then m.updRefused 2
  else
    let l := m.bundle
    let cs := (bundleComps l).getD []
    let run := cs.filter fun c => !(m.compSkipped c)
    let confirm := fieldAt l 14 2
    let m := m.withUpd { m.upd with
      order := run.map (·.1)
      atRestart := (fieldAt l 13 1).testBit 1
      confirmS := if confirm = 0 then m.get UPD_CFG_CONFIRM_S else confirm
      revokeBelow := fieldAt l 12 1
      cancel := false }
    ((m.set UPD_STATUS_DONE_MASK 0 0).set UPD_STATUS_RESULT 0 0).nextStep

/-- A CHECK that waited for the supervisor, or came with a transfer, runs; a START that goes with it follows when it passes (R421, R486). -/
def Mod.checkDone (m : Mod) (locks : BitVec 5) : Mod := m.thenStarts Mod.startOp locks

/-- The confirm window opens (R425): the exchange is complete. -/
def Mod.windowOpens (m : Mod) : Mod :=
  let m := m.withUpd { m.upd with exchangedAt := m.absNow, deadline := some (m.absNow + m.upd.confirmS * oneSecond) }
  (m.setUpd 7).updEvent 0x02 m.updComp 0

/-- Tile t takes new SerDes firmware (R423): one that is ON reloads with its links down. -/
def Mod.tileReloads (m : Mod) (t : Nat) : Mod :=
  let m := (m.set UPD_STATUS_UNIT 0 t).withUpd { m.upd with unitAt := m.absNow }
  if m.get PRT_TILE_STATUS_STATE t = 0 then m.firmwareReload t else m

/-- The EM area that no cluster runs from (R423). -/
def Mod.emFree (m : Mod) : Nat :=
  if (List.range 4).any fun c => m.get ENG_XCHG_STATUS_CUR_BASE c == emArea 0 then emArea 1 else emArea 0

/-- Cluster c is asked to exchange its microcode (R289, R423): the request is staged for the next commit. -/
def Mod.clusterExchanges (m : Mod) (c base : Nat) : Mod :=
  let m := (m.set UPD_STATUS_UNIT 0 c).withUpd { m.upd with unitAt := m.absNow }
  (m.stage (.field .ENG_XCHG_CTL c 28 36) base).stage (.field .ENG_XCHG_CTL c 0 1) 1

/-- The supervisor goes absent (R22): headless from now on. -/
def Mod.supervisorLost (m : Mod) : Mod :=
  if m.flag GLB_STATUS_HEADLESS then m
  else
    let m := m.withBoot { m.boot with absentAt := some m.absNow }
    ((m.set GLB_STATUS_HEADLESS 0 1).sqc GLB_EVENT_DEGRADED).event (glbEv 0x0B 1)

/-- A component's octets take the place of the running ones, to or from its trial (R423): PC restarts; SF begins with tile 0 and EM with
cluster 0, from the EM area that holds the component already or else from the one not in use; SV goes headless until its restart; TC commits its parts one by one. A TC image that waits for a restart does nothing. -/
def Mod.exchange (m : Mod) (n : Nat) (new : List Byte) (waits : Bool) : Mod :=
  let run (m : Mod) : Mod := m.withUpd { m.upd with running := store m.upd.running n new }
  match n with
  | 0 => run m.pcRestart
  | 1 => (run m).tileReloads 0
  | 2 =>
    let there (k : Nat) : Bool := !new.isEmpty && memRead m.drm.mem (emArea k * 4096) new.length == new
    match [0, 1].find? there with
    | some k => (run m).clusterExchanges 0 (emArea k)
    | none => ((run m).drmPost .supervisor 0 (m.emFree * 4096) new).clusterExchanges 0 m.emFree
  | 3 => m.supervisorLost
  | _ =>
    if waits then m
    else
      let old := (imgSections m.runningImage).getD []
      let image := compBody new
      let parts := changedParts old ((imgSections image).getD [])
      (run m).withUpd { (run m).upd with tc := some { parts := parts, image := image } }

/-- SLOT_WRITE_DONE (R422): the slot is written, and reads back against BODY_DIGEST or not. -/
def Mod.slotWriteDone (m : Mod) (good : Bool) : Mod :=
  if m.updState ≠ 5 ∨ m.flag GLB_STATUS_HEADLESS then m
  else if m.pin.nvmWpN = false then m.updEnds 8
  else
    let n := m.updComp
    let s := 1 - m.upd.prevSlot
    let m := m.slotWritten n s m.upd.stepRun good
    if !good then m.updEnds 9
    else
      let waits := n == 4 && m.upd.atRestart
      let m := m.writeRec (m.bootRec.put n s (if n = 3 ∨ waits then 1 else 2))
      let m := (m.setUpd 6).exchange n m.upd.stepRun waits
      if n = 0 then m.windowOpens else m

/-! ### Confirmation and fallback (R424, R425) -/

/-- The health criteria of a component hold now (R424). -/
def Mod.criteria (m : Mod) (n : Nat) : Bool :=
  match n with
  | 0 =>
    let s := m.standbyFeed
    !m.pcRestarting && decide (m.upd.exchangedAt ≤ (if s = 0 then m.pwr.reportA else m.pwr.reportB)) && m.get PWR_HEALTH_FAILS s == 0
  | 1 => m.upd.portsUp.all m.portUp
  | 2 =>
    let ran (e : Nat) : Bool :=
      !(m.flag ENG_TICKJOB0_VALID e) || decide (0xC0 ≤ m.get ENG_TICKJOB0_OPCODE e) || m.upd.ticksRun.contains e
    ((List.range 4).all fun c => m.get ENG_CLUSTER_STATUS_STATE c == 0) && !m.upd.jobFault && (List.range 1024).all ran
  | 3 => m.upd.walked && !m.upd.restarted && !(m.flag GLB_STATUS_HEADLESS)
  | _ => m.hdg.resets.isEmpty && !m.upd.applyBad

/-- Revocation after a confirmed SV (R416): the slots below the bundle's generation are revoked, or recorded while the group is locked. -/
def Mod.revokeBelow (m : Mod) (locks : BitVec 5) : Mod :=
  let slots := (List.range 4).filter fun k => !(m.keyRevoked k) && decide ((Config.keyGeneration k).toNat < m.upd.revokeBelow)
  let mask := (slots.map (2 ^ ·)).sum
  if m.upd.revokeBelow = 0 ∨ mask = 0 then m
  else if locks.getLsbD 4 then
    let r := m.bootRec
    m.writeRec { r with revoke := r.revoke ||| mask }
  else
    let m := m.withNvm { m.nvm with revoked := m.nvm.revoked ||| mask }
    slots.foldl (fun m k => m.updEvent 0x06 0 k) m

/-- The component of the step is confirmed (R425): the next step begins, unless the update is cancelled. -/
def Mod.confirmed (m : Mod) (locks : BitVec 5) : Mod :=
  let n := m.updComp
  let r := m.bootRec
  let m := (m.writeRec (r.put n (r.slot n) 0)).updEvent 0x03 n 0
  let m := m.set UPD_STATUS_DONE_MASK 0 (m.get UPD_STATUS_DONE_MASK ||| 2 ^ n)
  let m := m.withUpd { m.upd with order := m.upd.order.drop 1, deadline := none }
  let m := if n = 3 then m.revokeBelow locks else m
  if m.upd.cancel then m.updEnds 0 else m.nextStep

/-- OP CONFIRM (R425): at once when the criteria hold now; otherwise ignored. -/
def Mod.confirmOp (m : Mod) (locks : BitVec 5) : Mod :=
  if m.updState = 7 ∧ m.criteria m.updComp ∧ ¬ m.flag GLB_STATUS_HEADLESS then m.confirmed locks else m

/-- SETTLE_DONE (R425): the criteria have held for SETTLE_S without a break, within the window. -/
def Mod.settleDone (m : Mod) (locks : BitVec 5) : Mod :=
  let at_ := m.upd.exchangedAt + m.get UPD_CFG_SETTLE_S * oneSecond
  if m.updState = 7 ∧ m.criteria m.updComp ∧ (m.upd.deadline.all fun t => decide (at_ ≤ t)) ∧ ¬ m.flag GLB_STATUS_HEADLESS then
    (m.advanceAbs at_).confirmed locks
  else m

/-- A fallback ends (R425): the previous slot is active and confirmed, and the update has failed. -/
def Mod.fallbackEnds (m : Mod) : Mod :=
  let n := m.updComp
  let m := m.writeRec (m.bootRec.put n m.upd.prevSlot 0)
  (m.updEvent 0x04 n m.upd.reason).updEnds m.upd.reason

/-- The component of the step falls back to its previous slot (R425): the same exchange, made with what ran before. -/
def Mod.fallsBack (m : Mod) (reason : Nat) : Mod :=
  let n := m.updComp
  let m := (m.withUpd { m.upd with reason := reason, deadline := none }).setUpd 8
  let m := m.exchange n m.upd.prevRun false
  if n = 0 then m.fallbackEnds else m

/-- OP ABORT (R425): the component in exchange or on trial falls back. While its slot is still being written the write is cut short, and the
previous slot runs on (DESIGN CHOICE, log 76). -/
def Mod.abortOp (m : Mod) : Mod :=
  if m.updState = 5 then (m.writeCut.withUpd { m.writeCut.upd with reason := 15 }).fallbackEnds
  else if m.updState = 6 ∨ m.updState = 7 then m.fallsBack 15 else m

/-- CONFIRM_TIMEOUT (R425): the window closes unconfirmed. For SV the AON domain forces it, whether or not the supervisor runs. -/
def Mod.confirmTimeout (m : Mod) : Mod :=
  match m.upd.deadline with
  | some t =>
    if m.updState ≠ 7 ∨ (m.flag GLB_STATUS_HEADLESS ∧ m.updComp ≠ 3) then m else (m.advanceAbs t).fallsBack 14
  | none => m

/-- OP CANCEL (R427): the current step completes, and no later one runs. -/
def Mod.cancelOp (m : Mod) : Mod := if m.updBusy then m.withUpd { m.upd with cancel := true } else m

/-- OP CLEAR (R421): the staged bundle is discarded. -/
def Mod.clearOp (m : Mod) : Mod :=
  if m.updBusy then m.updRefused 1
  else
    let m := m.withUpd { m.upd with dmpLen := 0, got := [], dataCount := 0 }
    (m.setUpd 0).set UPD_CTL_LEN 0 0

/-- An operation of UPD_CTL (R420 to R427). -/
def Mod.updOp (m : Mod) (locks : BitVec 5) (op : Nat) : Mod :=
  match op with
  | 1 => m.checkOp locks
  | 2 => m.startOp
  | 3 => m.confirmOp locks
  | 4 => m.abortOp
  | 5 => m.cancelOp
  | 6 => m.clearOp
  | _ => m

/-- The last unit of an SF or EM exchange is done: the confirm window opens, or the fallback ends. -/
def Mod.unitsDone (m : Mod) : Mod := if m.updState = 8 then m.fallbackEnds else m.windowOpens

/-- UNIT_EXCHANGE (R423): during an SF or EM exchange the next tile or cluster begins, once SF_WAIT_S has passed or every port is up again,
or after EM_GAP_S with the criteria holding; it waits while they do not. A step whose cluster is not in RUN waits, and fails with reason 12 when that
lasts beyond the window; one whose new microcode has faulted reports failure (R425). -/
def Mod.unitExchange (m : Mod) : Mod :=
  if (m.updState ≠ 6 ∧ m.updState ≠ 8) ∨ m.flag GLB_STATUS_HEADLESS then m
  else
    let u := m.get UPD_STATUS_UNIT
    match m.updComp with
    | 1 =>
      let m := if m.upd.portsUp.all m.portUp then m else m.advanceAbs (m.upd.unitAt + m.get UPD_CFG_SF_WAIT_S * oneSecond)
      if u < 7 then m.tileReloads (u + 1) else m.unitsDone
    | 2 =>
      let base := m.get ENG_XCHG_STATUS_CUR_BASE u
      let running := (List.range 4).all fun c => m.get ENG_CLUSTER_STATUS_STATE c == 0 && (m.cl c).quiesce.isNone
      if !running then
        let m := m.advanceAbs (m.upd.unitAt + m.upd.confirmS * oneSecond)
        if m.updState = 6 then m.fallsBack 12 else m.fallbackEnds
      else if m.upd.jobFault && m.updState == 6 then m.fallsBack 16
      else if m.updState = 6 ∧ m.criteria 2 = false then m
      else if u < 3 then
        (m.advanceAbs (m.upd.unitAt + m.get UPD_CFG_EM_GAP_S * oneSecond)).clusterExchanges (u + 1) base
      else m.unitsDone
    | _ => m

/-- WRITE_PROTECT_CHANGE (R417, R427): NVM_WP_N changes level; a fall while a slot is written fails the step and leaves the slot
incomplete. -/
def Mod.writeProtect (m : Mod) (high : Bool) : Mod :=
  let fell := !high && m.pin.nvmWpN
  let m := m.withPin { m.pin with nvmWpN := high }
  if fell && m.updState == 5 then m.writeCut.updEnds 8 else m

/-- A restart of the power controller in its own trial: it returns to its previous bank by itself (R427). -/
def Mod.pcRestarts (m : Mod) : Mod :=
  if m.updState = 7 ∧ m.updComp = 0 then m.fallsBack 16 else m.pcRestart

/-- A write of UPD_REVOKE.STAGE (R416): each slot named is revoked. -/
def Mod.revokeWrite (m : Mod) (mask : Nat) : Mod :=
  let slots := (List.range 4).filter fun k => mask.testBit k && !(m.keyRevoked k)
  let m := m.withNvm { m.nvm with revoked := m.nvm.revoked ||| mask % 16 }
  slots.foldl (fun m k => m.updEvent 0x06 0 k) m

end Sys2Proof.Machine
end

