-- ==== Sys2Proof/Machine/RegWrite.lean ====
section
/-! DEFINITION. What a write does in the block that owns the register, once the access rules have let it through: the conditions and the
effects that the blocks' own rules state. -/

namespace Sys2Proof.Machine

/-- What the measurements that a write starts find, where a row of the table brings them: the outcome of a lane's loopback test and the
spares that fail (GRF_CMD), whether PWR_CMD's transfer is permitted, and the two paths' self-tests. -/
structure Found where
  passed : Bool := true
  failing : List Nat := []
  feedA : FeedTest
  feedB : FeedTest
  deriving DecidableEq, Repr

/-- A self-test whose measurements no row brings: free values. -/
def Mod.freeTest (m : Mod) : FeedTest × Mod :=
  let a := m.freshNat
  let b := a.2.freshNat
  let c := b.2.freshNat
  let d := c.2.freshNat
  let e := d.2.freshNat
  let f := e.2.freshNat
  let g := f.2.freshNat
  ({ volts := a.1, rippleMv := b.1, pulseMa := c.1, droopMv := d.1, reverseMa := e.1, responds := f.1 % 2 == 1, dropMv := g.1 }, g.2)

/-- What no row brings is a free value. -/
def Mod.foundOr (m : Mod) (x : Option Found) : Found × Mod :=
  match x with
  | some f => (f, m)
  | none =>
    let a := m.freeTest
    let b := a.2.freeTest
    let c := b.2.freshNat
    let d := c.2.freshNat
    ({ passed := c.1 % 2 == 1, failing := (List.range 4096).filter d.1.testBit, feedA := a.1, feedB := b.1 }, d.2)

/-- A write that the access rules have let through: its path, its register and index, the word written, and the fields that take
effect (not read only, not locked, not reserved). -/
structure Write where
  p : Path
  r : Reg
  i : Nat
  v : Word
  fields : List FieldSpec
  deriving DecidableEq, Repr

/-- Whether the write changes what a field holds or stages: the field is among those that take effect. -/
def Write.takes (w : Write) (f : Fld) : Bool := w.fields.any fun x => decide (x.lo ≤ f.lo) && decide (f.lo + f.width ≤ x.hi + 1)

/-- A word with the write's fields put in place. -/
def Write.onto (w : Write) (old : Word) : Word := w.fields.foldl (fun a f => (f.fld w.r).put a ((f.fld w.r).of w.v)) old

/-- The register as a read would return it once the write has been accepted. -/
def Mod.asWritten (m : Mod) (w : Write) : Word := w.onto (m.rdStaged w.r w.i)

/-- The write stored (R5): its tick-staged fields are staged, its other fields take effect. Staged writes of a cluster are refused while
the supervisor is absent (R22, R266). -/
def Mod.regStore (m : Mod) (w : Write) : Mod :=
  let now := w.fields.filter fun f => f.acc != .rwt
  let m := if now.isEmpty then m else m.wr w.r w.i ({ w with fields := now }.onto (m.rd w.r w.i))
  let staged := m.asWritten w
  let held := (rwtFields w.r).filter fun x => w.fields.any fun f => decide (x.1 ≤ f.lo) && decide (f.hi < x.1 + x.2)
  let absent := m.flag GLB_STATUS_HEADLESS && isCluster w.p
  if absent then m else held.foldl (fun m x => m.stage (.field w.r w.i x.1 x.2) ((Fld.mk w.r x.1 x.2).of staged)) m

/-! ### Conditions that blocks put on their registers -/

/-- Cells that the guarantees and the headroom reserve (R146, R149), with a register replaced. -/
def Mod.reservedCells (m : Mod) (r : Reg) (i : Nat) (w : Word) : Nat :=
  let rd (x : Reg) (k : Nat) : Word := if x = r ∧ k = i then w else m.rdStaged x k
  let guar := (List.range 16).foldl (fun a h => a + BUF_HEDGE_CFG_GUAR.of (rd .BUF_HEDGE_CFG h)) 0
  (List.range 128).foldl (fun a p =>
    let hd := BUF_PORT_PFC_HDRM.of (rd .BUF_PORT_PFC p)
    if hd = 0 then a
    else a + hd * popcount 8 (BUF_HEDGE_CLASS_LOSSLESS.of (rd .BUF_HEDGE_CLASS (HDG_PORT_OWNER_HEDGE.of (rd .HDG_PORT_OWNER p))))) guar

/-- A refused change of the buffer's budget (R149, R338). -/
def Mod.guarRefused (m : Mod) (h high q : Nat) : Mod :=
  (m.sqc BUF_EVENT_REFUSED).event { blk := 0x0A, code := 0x06, hedge := h, detail := high * 2 ^ 8 + q, rings := [h] }

/-- Reserved cells would exceed the usable ones, which they did not before (R149). -/
def Mod.overCommits (m : Mod) (r : Reg) (i : Nat) (w : Word) : Bool :=
  decide (m.get BUF_CAPACITY_USABLE < m.reservedCells r i w) && decide (m.reservedCells r i (m.rdStaged r i) < m.reservedCells r i w)

/-- A refused slice configuration (R92). -/
def Mod.sliceRefused (m : Mod) (s h q : Nat) : Mod :=
  (m.sqc CLS_EVENT_SLICE_REFUSED).event { blk := 0x07, code := 0x04, hedge := h, detail := s * 2 ^ 8 + q, rings := [h] }

/-- Why CLS_SLICE_CFG of slice s may not become a word (R92): 0 when it may. -/
def Mod.sliceBar (m : Mod) (s : Nat) (new : Word) : Nat :=
  let now := m.rd .CLS_SLICE_CFG s
  let staged := m.rdStaged .CLS_SLICE_CFG s
  let moved (f : Fld) : Bool := f.of new != f.of staged
  let partner := m.rdStaged .CLS_SLICE_CFG (s + 1)
  if (CLS_SLICE_CFG_EN.of now = 1 ∨ CLS_SLICE_CFG_EN.of staged = 1) ∧
      (moved CLS_SLICE_CFG_OWNER || moved CLS_SLICE_CFG_FMT || moved CLS_SLICE_CFG_PAIR) = true then 1
  else if CLS_SLICE_CFG_PAIR.of new = 1 ∧ (s % 2 ≠ 0 ∨ CLS_SLICE_CFG_OWNER.of partner ≠ CLS_SLICE_CFG_OWNER.of new ∨ CLS_SLICE_CFG_FMT.of new < 4)
    then 2
  else 0

/-- A write to CLS_SLICE_CFG (R92): an accepted change of owner invalidates the slice's rules. -/
def Mod.sliceWrite (m : Mod) (w : Write) : Bool × Mod :=
  let new := m.asWritten w
  let old := m.get CLS_SLICE_CFG_OWNER w.i
  let q := m.sliceBar w.i new
  if q ≠ 0 then (false, m.sliceRefused w.i old q)
  else
    let m := m.regStore w
    (true, if CLS_SLICE_CFG_OWNER.of new = old then m
      else (m.rulesLand w.i).withCls { m.cls with rules := m.cls.rules.filter fun e => e.1 / 2048 != w.i })

/-- A refused write of the Clippings block (R248, R249). -/
def Mod.clpRefused (m : Mod) (h high q : Nat) : Mod :=
  (m.sqc CLP_EVENT_REFUSED).event { blk := 0x0F, code := 0x06, hedge := h, detail := high * 2 ^ 8 + q, rings := [h] }

/-- Records of the Clippings region (R240): 8 GiB of 256 octets. -/
def clipRegionRecords : Nat := 2 ^ 25

/-- A Clippings ring's place as records: first, and the one after the last (R240). -/
def clipSpan (w : Word) : Nat × Nat :=
  let a := CLP_RING_CFG_BASE.of w * 4096
  (a, a + CLP_RING_CFG_SIZE.of w * 4096)

/-- A Clippings ring would meet another one, or pass the region's end (R240). A ring of SIZE 0 is disabled and takes no place. -/
def Mod.clipOverlap (m : Mod) (h : Nat) (w : Word) : Bool :=
  let s := clipSpan w
  decide (s.1 < s.2) && (decide (clipRegionRecords < s.2) || (List.range 16).any fun k =>
    let t := clipSpan (m.rd .CLP_RING_CFG k)
    k != h && decide (t.1 < t.2) && decide (s.1 < t.2) && decide (t.1 < s.2))

/-- A write to CLP_RING_CFG of Hedge h (R240): the records pending for the ring are dropped and counted, fence markers alone staying
while the ring has a size to hold them (R244), and its indices begin again. -/
def Mod.clipRingWrite (m : Mod) (w : Write) : Bool × Mod :=
  let h := w.i
  if m.clipOverlap h (w.onto (m.rd w.r h)) then (false, m.clpRefused h h 1)
  else
    let off := CLP_RING_CFG_SIZE.of (w.onto (m.rd w.r h)) == 0
    let goes (r : ClipRec) : Bool := r.hedge == h && (off || !r.fence)
    let waits := m.clp.markers.filter fun x => off && x.1 == h
    let gone := (m.clp.recs.filter goes).length + waits.length
    let m := m.withClp { m.clp with recs := m.clp.recs.filter fun r => !(goes r), markers := m.clp.markers.filter fun x => !(off && x.1 == h),
                                    dropped := countUp m.clp.dropped h gone }
    let m := if gone = 0 then m else m.bump (clpCtr h 2) gone
    (true, (((m.regStore w).set CLP_RING_PROD_PROD h 0).set CLP_RING_CONS_CONS h 0).writerLevels.clipSettle)

/-- A write to CLP_RING_CONS of Hedge h (R241, R245): accepted when it moves forward and not past PROD; of a ring that the microcode
consumes, from microcode alone, and for DMP delivery from an ACK. -/
def Mod.clipCons (m : Mod) (consumer : Bool) (h v : Nat) : Bool × Mod :=
  let mine := m.get CLP_HEDGE_CFG_DELIVER h == 0 || consumer
  if mine && consAccepts (m.get CLP_RING_PROD_PROD h) (m.get CLP_RING_CONS_CONS h) v then
    (true, (m.set CLP_RING_CONS_CONS h v).clipSettle)
  else
    let m := m.bump (clpCtr h 6)
    (false, (m.sqc CLP_EVENT_DROP).eventRated (0xF040000 + h) { blk := 0x0F, code := 0x04, hedge := h, detail := h * 2 ^ 8, rings := [h] })

/-- A write to CLP_HOST_BASE of Hedge h (R245): both host indices start again. -/
def Mod.clipHostWrite (m : Mod) (w : Write) : Mod := ((m.regStore w).set CLP_HOST_IDX_PROD w.i 0).set CLP_HOST_IDX_CONS w.i 0

/-- A write to DRM_CH_CTL of a channel (R328, R329). Whether a retraining succeeds is what a row brings, or a free value. -/
def Mod.channelWrite (m : Mod) (w : Write) (x : Option Found) : Mod :=
  let m := m.regStore w
  if DRM_CH_CTL_STATE_REQ.of w.v = 1 then m.channelOffline w.i
  else if m.retrains w.i = false then m
  else
    let f := m.foundOr x
    f.2.channelReturn w.i f.1.passed

/-- Engine windows of two Hedges meet (R315). -/
def Mod.drmOverlap (m : Mod) (h : Nat) (w : Word) : Bool :=
  let span (x : Word) : Nat × Nat := (DRM_HEDGE_WIN_BASE.of x, DRM_HEDGE_WIN_BASE.of x + DRM_HEDGE_WIN_SIZE.of x)
  let s := span w
  decide (304 < s.2) || (List.range 16).any fun k =>
    let t := span (m.rd .DRM_HEDGE_WIN k)
    k != h && decide (s.1 < t.2) && decide (t.1 < s.2)

/-- A guarded write that brings Hedge 0 below a floor of HDG_ROOT_FLOOR (R338). -/
def Mod.belowFloor (m : Mod) (f floor : Fld) (h : Nat) (new : Word) : Bool :=
  h == 0 && m.get floor != 0 && decide (f.of new < m.get floor)

/-- A write to ENG_TICKJOB0 (R276, R279): entries in use are at most TICK_RES of the cluster. -/
def Mod.tickEntryWrite (m : Mod) (w : Write) : Bool × Mod :=
  let c := w.i / 256
  let used := ((List.range 256).filter fun e => 256 * c + e != w.i && ENG_TICKJOB0_VALID.of (m.rdStaged .ENG_TICKJOB0 (256 * c + e)) == 1).length
  if ENG_TICKJOB0_VALID.of (m.asWritten w) = 1 ∧ m.get ENG_TMR_CFG_TICK_RES c ≤ used then (false, m.engEvent c 0x09 2)
  else (true, m.regStore w)

/-- A write to PRT_EEE_CFG and the like: stored. A write to SCH_PORT_CFG that enables a gate list or launch queue on a port with EEE_EN
(R56). -/
def Mod.schPortWrite (m : Mod) (w : Write) : Bool × Mod :=
  let new := m.asWritten w
  let old := m.rdStaged w.r w.i
  let enables (f : Fld) : Bool := f.of new == 1 && f.of old == 0
  if (enables SCH_PORT_CFG_GATE_EN || enables SCH_PORT_CFG_LAUNCH_EN) && m.flag PRT_PORT_CFG_EEE_EN w.i then (false, m.cfgRefused w.i 5)
  else (true, m.regStore w)

/-- A write to SCH_GATE_BANK (R189): refused for a bank in use with the window status ACTIVE, which the gate window of the writing path shows
unless a command of its own is in progress (DEDUCED, log 72); its event goes where those of that window's refused commands go (R198). -/
def Mod.gateBankWrite (m : Mod) (w : Write) : Bool × Mod :=
  let port := w.i / 2
  let n := pathNum w.p
  if m.bankActive port (w.i % 2) then
    let m := if m.winBusy (.gate n) then m else m.set SCH_GATE_WIN_CMD_STATUS n 2
    (false, m.winRefused w.p (.gate n) (SCH_GATE_WIN_CMD_PORT.put 0 port) 2)
  else (true, m.regStore w)

/-- A write to BUF_HEDGE_CFG (R149, R338). -/
def Mod.budgetWrite (m : Mod) (w : Write) : Bool × Mod :=
  let new := m.asWritten w
  if m.belowFloor BUF_HEDGE_CFG_GUAR HDG_ROOT_FLOOR_GUAR_MIN w.i new then (false, m.guarRefused w.i w.i 3)
  else if m.overCommits w.r w.i new then (false, m.guarRefused w.i w.i 1)
  else (true, (m.regStore w).xoffUpdate)

/-- A write to BUF_PORT_PFC (R149). -/
def Mod.pfcWrite (m : Mod) (w : Write) : Bool × Mod :=
  let new := m.asWritten w
  let h := m.owner w.i
  if BUF_PORT_PFC_XOFF_TH.of new ≤ BUF_PORT_PFC_XON_TH.of new then (false, m.guarRefused h w.i 2)
  else if m.overCommits w.r w.i new then (false, m.guarRefused h w.i 1)
  else (true, m.regStore w)

/-- DMP stops, or starts with its 10 s of HELLO before it (R406). -/
def Mod.dmpCfgWrite (m : Mod) (w : Write) : Mod :=
  let was := m.get DMP_CFG_EN
  let m := m.regStore w
  if was = 0 ∧ m.get DMP_CFG_EN = 1 then m.withDmp { m.dmp with heard := false, helloAt := none } else m

/-- A write to PWR_CMD (R470, R473). -/
def Mod.pwrCommand (m : Mod) (v : Word) (x : Option Found) : Mod :=
  match PWR_CMD_OP.of v with
  | 1 => m.transferCommand true
  | 2 =>
    let f := m.foundOr x
    f.2.testCycle f.1.feedA f.1.feedB
  | _ => m

/-! ### The register a write reaches -/

/-- The write in the block that owns its register: whether the block accepts it, and the module. locks are the LOCK bits. -/
def Mod.blockWrite (m : Mod) (locks : BitVec 5) (w : Write) (x : Option Found) : Bool × Mod :=
  let i := w.i
  let vf := (vfHedge w.p).isSome
  let new := w.onto (m.rd w.r i)
  let shown (m' : Mod) : Bool × Mod := (m'.rd w.r i == new, m')
  if w.fields.isEmpty then (false, m)
  else match w.r with
  | .GLB_TICK_CFG => m.periodWrite (GLB_TICK_CFG_PERIOD.of w.v)
  | .GLB_FENCE => m.fence (GLB_FENCE_TOKEN.of w.v)
  | .GLB_TICK_FENCE => (true, m.tickFence (GLB_TICK_FENCE_TOKEN.of w.v))
  | .EVT_PF_SWINT => (true, m.pfSwint (EVT_PF_SWINT_RAISE.of w.v))
  | .EVT_RING_CONS => m.ringCons (w.p == .dmp) i (EVT_RING_CONS_CONS.of w.v)
  | .TIM_ADJ => (true, m.timAdj w.v)
  | .TIM_FREQ => (true, (m.regStore w).freqWritten)
  | .TIM_HOLD_CFG => (true, (m.regStore w).usableUpdate)
  | .TIM_PPS_CFG => (true, (m.regStore w).ppsGate)
  | .TIM_REF_PRIO => shown (m.refPrioWrite new)
  | .TIM_PTP_MEAS => (true, (m.regStore w).ptpMeasured)
  | .TIM_ISLAND => (true, m.islandWrite new)
  | .TRG_IN_POP => (true, m.trigPop i (TRG_IN_POP_INDEX.of w.v))
  | .TRG_OUT_CFG => m.trgOutCfgWrite i new
  | .TRG_OUT_LEVEL => m.trgOutLevelWrite i new
  | .PRT_PORT_CFG => shown (m.portCfgWrite vf i new)
  | .PRT_TILE_CTL => shown (m.tileCtlWrite i new)
  | .CLS_SLICE_CFG => m.sliceWrite w
  | .LPM_ROOT => (true, (m.regStore w).grace)
  | .BUF_HEDGE_CFG => m.budgetWrite w
  | .BUF_HEDGE_CLASS => if m.overCommits w.r i (m.asWritten w) then (false, m.guarRefused i i 1) else (true, m.regStore w)
  | .BUF_PORT_PFC => m.pfcWrite w
  | .SCH_PORT_CFG => m.schPortWrite w
  | .SCH_GATE_BANK => m.gateBankWrite w
  | .CLP_RING_CFG => m.clipRingWrite w
  | .CLP_RING_CONS => m.clipCons (isCluster w.p) i (CLP_RING_CONS_CONS.of w.v)
  | .CLP_HOST_BASE => (true, m.clipHostWrite w)
  | .CLP_EXPORT =>
    let p := CLP_EXPORT_PORT.of (m.asWritten w)
    if m.owner p ≠ i then (false, m.clpRefused i i 2) else (true, m.regStore w)
  | .ENG_CLUSTER_CTL => shown (m.clusterCtlWrite i new)
  | .ENG_DOORBELL => (true, m.doorbell w.p i w.v)
  | .ENG_HEDGE_THR =>
    if m.belowFloor ENG_HEDGE_THR_RES HDG_ROOT_FLOOR_RES_MIN (i % 16) new ||
        m.belowFloor ENG_HEDGE_THR_TMR_RES HDG_ROOT_FLOOR_TMR_MIN (i % 16) new then (false, m.engEvent (i / 16) 0x09 5)
    else (true, (m.regStore w).lowerReserves (i / 16))
  | .ENG_TICKJOB0 => m.tickEntryWrite w
  | .EPC_CTL => (true, (m.regStore w).freezeUpdate i)
  | .EPC_SAMPLE_IDX => (true, m.sampleCons i (EPC_SAMPLE_IDX_CONS.of w.v))
  | .DRM_CFG => (true, (List.range 4).foldl Mod.refreshShown (m.regStore w))
  | .DRM_CH_CTL => (true, m.channelWrite w x)
  | .DRM_HEDGE_WIN => if m.drmOverlap i new then (false, m.drmEvent 0x07 0 1) else (true, m.regStore w)
  | .DRM_HEDGE_BW =>
    if m.belowFloor DRM_HEDGE_BW_WEIGHT HDG_ROOT_FLOOR_WEIGHT_MIN i new then (false, m.drmEvent 0x07 0 4) else (true, m.regStore w)
  | .HDG_RESET =>
    (true, match HDG_RESET_KIND.of w.v with
      | 1 => m.hedgeReset i false
      | 2 => m.hedgeReset i true
      | _ => m)
  | .HDG_EVT_CFG => if m.ringOverlap i new then (false, m.hdgRefused i 4) else (true, m.ringPlaced i new)
  | .HDG_SWINT => (true, m.swint i (HDG_SWINT_RAISE.of w.v))
  | .HDG_PORT_OWNER =>
    if m.overCommits w.r i new then (false, m.guarRefused (m.owner i) i 1) else m.ownerWrite i (HDG_PORT_OWNER_HEDGE.of new)
  | .HDG_GAP_CFG0 =>
    let q := m.gapCheck new
    if q = 0 then (true, m.regStore w) else (false, m.gapRefused i q)
  | .HDG_ROOT_FLOOR => if m.floorAbove new then (false, m.hdgRefused 0 6) else (true, m.regStore w)
  | .DMP_CFG => (true, m.dmpCfgWrite w)
  | .UPD_CTL =>
    let m := m.set UPD_CTL_LEN 0 (UPD_CTL_LEN.of w.v)
    (true, if w.takes UPD_CTL_OP then m.updOp locks (UPD_CTL_OP.of w.v) else m)
  | .UPD_REVOKE => (true, m.revokeWrite (UPD_REVOKE_STAGE.of w.v))
  | .PWR_POLICY => (true, (m.regStore w).policyWritten)
  | .PWR_CMD => (true, m.pwrCommand w.v x)
  | _ => (true, m.regStore w)

end Sys2Proof.Machine
end

