-- ==== Sys2Proof/Machine/Rights.lean ====
section
/-! DEFINITION. Which writes a path may make (R22, R91, R137, R168, R199, R206, R234, R248, R295, R308, R332, R356, R358, R381, R433, R462,
R481, R515, R530), and how a write without the right is reported. -/

namespace Sys2Proof.Machine

/-- A bad access is counted and raised (R360): 1 width, 2 reserved range or unassigned offset, 3 not permitted to the path. -/
def Mod.badAccess (m : Mod) (p : Path) (q : Nat) : Mod :=
  ((m.satAdd GLB_GUARD_STATUS_BAD_ACCESSES 0).sqc GLB_EVENT_ACCESS).event (glbEv 0x05 (pathNum p * 2 ^ 8 + q))

/-- The path's accesses arrive (R22, R344, R387, R499, R16): its function exists and its link runs; the
supervisor is present; without an SV component JTAG alone is served. -/
def Mod.pathUp (m : Mod) (p : Path) : Bool :=
  match p with
  | .pf => m.pin.perstN && !m.pcieOut && !(m.compAbsent 3)
  | .vf h => m.pin.perstN && !m.pcieOut && !(m.compAbsent 3) && decide (h.val < m.hdg.numVfs)
  | .dmp => !(m.boot.domOut.contains 19) && !(m.compAbsent 3)
  | .sup => !(m.flag GLB_STATUS_HEADLESS)
  | .cluster c => !(m.cl c.val).lost
  | .jtag => !(m.boot.domOut.contains 23)

/-- Supervisor path rights: the supervisor, and microcode, whose writes are treated as its own (R266). -/
def supPath : Path → Bool
  | .sup => true
  | .cluster _ => true
  | _ => false

/-- What becomes of a write for want of a right: it goes on, it is a bad access with qualifier 3 (R530), or the owning block reports it. -/
inductive Right where
  | may
  | bad
  | told (m : Mod)
  deriving DecidableEq, Repr

/-- The owning block's answer to a virtual function's write that it withholds. -/
def Mod.blockBars (m : Mod) (h blk : Nat) (r : Reg) (i : Nat) : Right :=
  match blk with
  | 0x02 => .told (m.pwrEvent 0x08 0 4)
  | 0x04 =>
    match r with
    | .TRG_IN_CFG => .told (m.trigRefused i 3)
    | .TRG_IN_POP => .told (m.trigRefused i 3)
    | .TRG_OUT_CFG => .told (m.trigRefused i 3)
    | .TRG_OUT_LEVEL => .told (m.trigRefused i 3)
    | .TRG_EVENT => .told (m.trigRefused 0 3)
    | .TRG_STATUS => .told (m.trigRefused 0 3)
    | _ => .told (m.timRefused 3)
  | 0x0F => .told (m.clpRefused h h 3)
  | 0x10 => .told (m.engEvent (i / dimsCount (r.spec.dims.drop 1)) 0x09 4)
  | 0x11 =>
    let c := i / dimsCount (r.spec.dims.drop 1)
    .told ((m.sqcBit EPC_EVENT_EVENTS 3 c).event (epcEv c 0 0x04 1))
  | 0x12 => .told (m.drmEvent 0x07 0 3)
  | 0x13 => .told (m.hdgRefused h 5)
  | 0x15 => .told (m.grfEvent 0x0A 0 0 3)
  | 0x16 => .told (m.ageEvent 0x05 0 3)
  | 0x17 => .told (m.updRefused 2)
  | 0x19 => .told ((m.sqc DMP_EVENT_REFUSED).event { blk := 0x19, code := 0x09, detail := 1 })
  | _ => .bad

/-- The write of a virtual function of Hedge h to a register (R91, R137, R168, R199, R249, R295, R308, R332, R356, R381, R410, R433, R462, R481,
R530). -/
def Mod.vfWriteRight (m : Mod) (h blk : Nat) (r : Reg) (i : Nat) (v : Word) : Right :=
  let own := m.hedgeOf r i == some h
  let isWindow := (windowOf (1 + h) r i).isSome
  match r with
  | .PAR_WIN_CMD => .may
  | .QUE_VOQ_CMD => .may
  | .QUE_EDIT_CMD => .may
  | .ENG_DOORBELL => .may
  | .EVT_RING_CONS => if own then .may else .bad
  | .EVT_RING_PROD => if own then .may else .bad
  | .EVT_RING_STATUS => if own then .may else .bad
  | .HDG_VEC_MOD => if own then .may else m.blockBars h blk r i
  | .HDG_SWINT => if own then .may else m.blockBars h blk r i
  | .HDG_RESET =>
    if own = false then m.blockBars h blk r i
    else if m.flag HDG_CFG_VF_RESET h then .may
    else .told (m.resetRefused h 2)
  | .CLS_SLICE_CFG =>
    if CLS_SLICE_CFG_OWNER.of v ≠ m.get CLS_SLICE_CFG_OWNER i then .told (m.sliceRefused i h 4)
    else if own then .may else .bad
  | _ =>
    if isWindow then
      match windowOf (1 + h) r i with
      | some (.par, _) => .bad
      | some (.voq, _) => .bad
      | some (.edit, _) => .bad
      | some (.cs _, _) => m.blockBars h blk r i
      | some (.sample _, _) => m.blockBars h blk r i
      | some (.grf, _) => m.blockBars h blk r i
      | _ => .may
    else match blk with
      | 0x01 => .bad
      | 0x03 => .bad
      | 0x04 => m.blockBars h blk r i
      | 0x10 => m.blockBars h blk r i
      | 0x12 => m.blockBars h blk r i
      | 0x13 => m.blockBars h blk r i
      | _ => if own then .may else m.blockBars h blk r i

/-- The right of a path to write a register. -/
def Mod.writeRight (m : Mod) (p : Path) (blk : Nat) (r : Reg) (i : Nat) (v : Word) : Right :=
  match p with
  | .vf h => m.vfWriteRight h.val blk r i v
  | _ =>
    match r with
    | .UPD_REVOKE => if supPath p then .may else .told (m.updRefused 2)
    | .GRF_MAP_BANK => if supPath p && decide (m.get BOOT_STATUS_STAGE < 7) then .may else .told (m.grfEvent 0x0A 0 0 3)
    | .GRF_MAP_CLS => if supPath p && decide (m.get BOOT_STATUS_STAGE < 7) then .may else .told (m.grfEvent 0x0A 0 0 3)
    | _ => .may

/-- The last command of QUE_VOQ_CMD was an accepted one of this operation on a VOQ from or to a port of Hedge h (R168). -/
def Mod.voqMine (m : Mod) (h op : Nat) : Bool :=
  m.get QUE_VOQ_CMD_OP == op && m.get QUE_VOQ_CMD_STATUS == 0 &&
    (m.ownsPort h (m.get QUE_VOQ_CMD_SRC) || m.ownsPort h (m.get QUE_VOQ_CMD_DEST))

/-- Whether a virtual function of Hedge h may read a register; any other reads as zero to it (R381, R410, R530, and the blocks' rules). -/
def Mod.vfReads (m : Mod) (h blk : Nat) (r : Reg) (i : Nat) : Bool :=
  let own := m.hedgeOf r i == some h
  match r with
  | .GLB_ID => true
  | .GLB_GUARD_ARMED => true
  | .GLB_TICK_NUM => true
  | .GLB_CFG_DIGEST => i == 1 + h
  | .QUE_VOQ_DATA0 => m.voqMine h 1
  | .QUE_VOQ_DATA1 => m.voqMine h 2
  | _ =>
    if blk = 0x01 ∨ blk = 0x02 ∨ blk = 0x11 ∨ 0x14 ≤ blk then false
    else if blk = 0x03 ∨ blk = 0x13 then own
    else match m.hedgeOf r i with
      | some k => k == h
      | none => !(r == .BUF_PORT_CFG || r == .BUF_PORT_STATUS)

end Sys2Proof.Machine
end

