-- ==== Sys2Proof/Machine/Shown.lean ====
section
/-! DEFINITION. What a read of a register returns (R5, R6): the stored value, the staged value of a tick-staged field, zero for a field that
is write only, and for a register that shows live state what that state is now. -/

namespace Sys2Proof.Machine

/-- Fields of a word replaced. -/
def putAll (w : Word) (l : List (Fld × Nat)) : Word := l.foldl (fun w x => x.1.put w x.2) w

/-- The groups a path is armed for (GLB_GUARD_ARMED). -/
def Mod.armedBits (m : Mod) (p : Path) : Nat := bitsOf 4 fun g => m.arm.armed.contains (pathNum p, g)

/-- Seconds of the supervisor's present absence (GLB_STATUS.ABSENT_S). -/
def Mod.absentS (m : Mod) : Nat :=
  match m.boot.absentAt with
  | some t => Nat.min ((m.absNow - t) / oneSecond) (2 ^ 14 - 1)
  | none => 0

/-- The whole nanoseconds of the slew that remains, saturating (TIM_STATUS.SLEW_REMAIN). -/
def Mod.slewShown (m : Mod) : Nat := unsigned 32 (clampSigned 32 (m.time.slew.tdiv (unitsPerNs : Int)))

/-- The interface generation of the controller firmware that runs (R386). -/
def Mod.pcGen (m : Mod) : Nat := compProv (lookupD m.upd.running 0 [])

/-- Valid entries of the field graft record in use (R453). -/
def Mod.recordEntries (m : Mod) : Nat := m.recordInUse.length

/-- Armed timers of cluster c. -/
def Mod.armedTimers (m : Mod) (c : Nat) : Nat := ((m.cl c).timers.filter fun t => t.2.armed.isSome).length

/-- Cells of copies queued to the ports of tile t (BUF_TILE_STATUS). -/
def Mod.tileCells (m : Mod) (t : Nat) : Nat := (List.range 16).foldl (fun a k => a + m.get BUF_PORT_STATUS_OUT_USED (16 * t + k)) 0

/-- GLB_PINS as it reads: levels of input pins, and output pins driven low. -/
def Mod.pinsShown (m : Mod) : Word :=
  putAll 0
    [(GLB_PINS_FEED_B_OK, b01 (m.feedOk 1)), (GLB_PINS_FEED_A_OK, b01 (m.feedOk 0)), (GLB_PINS_FAULT, b01 (!m.faultN)),
     (GLB_PINS_ALARM, b01 (!m.alarmN)), (GLB_PINS_IRQ, b01 (!m.irqN)), (GLB_PINS_PERST_N, b01 m.pin.perstN),
     (GLB_PINS_SLOT_ID, m.pin.slotId), (GLB_PINS_BOOT_SEL, m.pin.bootSel), (GLB_PINS_NVM_WP_N, b01 m.pin.nvmWpN)]

/-- What a register that shows live state holds now; any other one what a write or the module last left in it, a staged value where one is
pending. -/
def Mod.live (m : Mod) (locks : BitVec 5) (p : Path) (r : Reg) (i : Nat) : Word :=
  let w := m.rdStaged r i
  match r with
  | .GLB_LOCK => BitVec.ofNat 64 locks.toNat
  | .GLB_GUARD_ARMED => BitVec.ofNat 64 (m.armedBits p)
  | .GLB_STATUS => GLB_STATUS_ABSENT_S.put w m.absentS
  | .GLB_FUSE_SHADOW => if i = 2 then w ||| BitVec.ofNat 64 (m.nvm.revoked * 2 ^ 32) else w
  | .GLB_PINS => m.pinsShown
  | .PRT_TILE_STATUS => PRT_TILE_STATUS_RETIRED_LANES.put w (bitsOf 16 fun k => m.flag PRT_LANE_STATUS_RETIRED (16 * i + k))
  | .FDB_LEARN_STATUS => FDB_LEARN_STATUS_QUEUE_FILL.put w m.fwd.learn.length
  | .FDB_HEDGE_STATUS => putAll w [(FDB_HEDGE_STATUS_STATIC, m.fdbStatics i), (FDB_HEDGE_STATUS_ENTRIES, m.fdbCount i)]
  | .BUF_STATUS => putAll w [(BUF_STATUS_SHARED_SIZE, m.sharedSize), (BUF_STATUS_SHARED_FREE, m.sharedFree), (BUF_STATUS_FREE, m.freeCells)]
  | .BUF_TILE_STATUS =>
    let drains := (lookup m.prt.tileDrain i).isSome || (tilePorts i).any fun q => (lookup m.prt.portDrain q).isSome
    putAll w [(BUF_TILE_STATUS_DRAINING, b01 drains), (BUF_TILE_STATUS_CELLS_QUEUED, m.tileCells i)]
  | .SCH_PORT_STATUS =>
    if m.flag TIM_STATUS_USABLE then w
    else SCH_PORT_STATUS_GATES.put w (SCH_PORT_STATUS_GATES.of w &&& (255 - m.get SCH_PORT_CFG_SCHED_MASK i))
  | .SHP_CLASS_TOKENS => SHP_CLASS_TOKENS_TOKENS.put w (unsigned 32 (m.classTokens i).octets)
  | .SHP_PORT_TOKENS => SHP_PORT_TOKENS_TOKENS.put w (unsigned 32 (m.portTokens i).octets)
  | .TIM_NOW_HI => BitVec.ofNat 64 (timeSec m.time.net)
  | .TIM_NOW_LO => putAll 0 [(TIM_NOW_LO_NS, timeNs m.time.net), (TIM_NOW_LO_FRAC, timeFrac m.time.net)]
  | .TIM_STATUS => TIM_STATUS_SLEW_REMAIN.put w m.slewShown
  | .ENG_CLUSTER_STATUS => ENG_CLUSTER_STATUS_BUSY_THREADS.put w (m.clusterThreads i).length
  | .ENG_JQ_STATUS =>
    let k := m.cl i
    putAll w [(ENG_JQ_STATUS_DB, k.db.length), (ENG_JQ_STATUS_IJ, k.ij.length), (ENG_JQ_STATUS_EV, k.ev.length), (ENG_JQ_STATUS_TT, k.tt.length)]
  | .ENG_TMR_STATUS => putAll w [(ENG_TMR_STATUS_POOL_FREE, m.poolSize i - (m.cl i).poolUsed), (ENG_TMR_STATUS_ARMED, m.armedTimers i)]
  | .EPC_CYCLE => BitVec.ofNat 64 (m.engineCycle (i / 17) (i % 17))
  | .INT_BUCKET_MAX =>
    let x := m.bucketMax i
    putAll w [(INT_BUCKET_MAX_VALUE, x.1), (INT_BUCKET_MAX_LOCATION, x.2)]
  | .GRF_RECORD =>
    if m.get BOOT_STATUS_STAGE ≠ 7 then w else putAll w [(GRF_RECORD_SEQ, Nat.max m.int.seqA m.int.seqB), (GRF_RECORD_B_OK, b01 (!(m.nvmLost 1))), (GRF_RECORD_A_OK, b01 (!(m.nvmLost 0))),
              (GRF_RECORD_ENTRIES, m.recordEntries)]
  | .PWR_STATUS => putAll w [(PWR_STATUS_PC_GEN, m.pcGen), (PWR_STATUS_PC_RESTARTING, b01 m.pcRestarting)]
  | .PWR_HEALTH => m.healthShown i
  | .TRG_STATUS => putAll w [(TRG_STATUS_OUT, bitsOf 4 m.trigOut), (TRG_STATUS_IN, m.pin.trigIn)]
  | .TRG_IN_HEAD0 => BitVec.ofNat 64 (m.trigHead0 i)
  | .TRG_IN_HEAD1 => BitVec.ofNat 64 (m.trigHead1 i)
  | .UPD_STATUS => m.updShown
  | .UPD_KEYS => m.keysShown
  | .UPD_COMP => m.compShown i
  | .NVM_STATUS => m.nvmShown
  | .NVM_GASP => m.gaspShown
  | _ => w

/-- A word with the register's write-only fields zero (R5). -/
def readable (r : Reg) (w : Word) : Word :=
  (r.spec.fields.filter (·.acc == .wo)).foldl (fun w f => (f.fld r).put w 0) w

/-- A read of a register by a path: zero where the path may not read it (R381, R530). -/
def Mod.readReg (m : Mod) (locks : BitVec 5) (p : Path) (r : Reg) (i : Nat) : Word :=
  let may := match p with
    | .vf h => m.vfReads h.val (blockId r.spec.base) r i
    | _ => true
  if may then readable r (m.live locks p r i) else 0

/-- A read of 64 bits at an offset of the register space (R357, R531): an unassigned or reserved offset reads as zero, and a reserved range
is a bad access (R360). -/
def Mod.fabricRead (m : Mod) (locks : BitVec 5) (p : Path) (off : Nat) : Word × Mod :=
  if 0x1000000 ≤ off ∧ off < 0x2000000 then (BitVec.ofNat 64 (m.ctr (off - 0x1000000)), m)
  else if 0x2000000 ≤ off ∨ blockId off = 0 then (0, m.badAccess p 2)
  else
    match regAt (pathNum p) off with
    | some (r, i) => (m.readReg locks p r i, m)
    | none => (0, m)

end Sys2Proof.Machine
end

