-- ==== Sys2Proof/Machine/Access.lean ====
section
/-! DEFINITION. A write on the register fabric (R358 to R372, R5, R6): the decoding of its offset, unlocks and locks, a path's right, the
holding of writes to a busy window, sequence clears, key guards, reset locks, reserved encodings, window commands and drift (R402). -/

namespace Sys2Proof.Machine

/-! ### Offsets of the statistics array -/

/-- The arrays of statistics counters: base from 0x0100_0000, elements, their stride, and the ranges of counters each has (R61, R96, R135,
R166, R197, R232, R247, R293, R330, R354, R460). -/
def statArrays : List (Nat × Nat × Nat × List (Nat × Nat)) :=
  [(0x0, 128, 0x400, [(0, 39), (64, 78), (80, 104)]), (0x80000, 16, 0x400, [(0, 72)]), (0x84000, 24, 0x8, [(0, 0)]),
   (0xA0000, 16, 0x400, [(0, 18)]), (0xC0000, 16, 0x400, [(0, 23)]), (0xC8000, 134, 0x100, [(0, 17)]), (0x100000, 65536, 0x20, [(0, 3)]),
   (0x300000, 16384, 0x40, [(0, 7)]), (0x400000, 65536, 0x20, [(0, 3)]), (0x600000, 128, 0x100, [(0, 11)]), (0x608000, 16, 0x400, [(0, 1)])] ++
  [(0x610000, 128, 0x40, [(0, 7)]), (0x612000, 1, 0x1000, [(0, 5)]), (0x620000, 16, 0x100, [(0, 8)]), (0x621000, 128, 0x20, [(0, 3)]),
   (0x630000, 4, 0x100, [(0, 16)]), (0x631000, 16, 0x8, [(0, 0)]), (0x640000, 4, 0x100, [(0, 14)]), (0x641000, 16, 0x8, [(0, 0)]),
   (0x650000, 64, 0x40, [(0, 5)]), (0x660000, 1, 0x1000, [(0, 17), (32, 49), (64, 67)]),
   (0x661000, 1, 0x1000, [(0, 6), (8, 14), (16, 22), (24, 30), (32, 33)])]

/-- A chapter places a counter at an offset from 0x0100_0000 (R531). -/
def statAssigned (off : Nat) : Bool :=
  statArrays.any fun a =>
    let k := (off - a.1) / a.2.2.1
    decide (a.1 ≤ off) && decide (k < a.2.1) && decide (off % 8 = 0) &&
      (a.2.2.2.any fun x => decide (x.1 ≤ (off - a.1) % a.2.2.1 / 8) && decide ((off - a.1) % a.2.2.1 / 8 ≤ x.2))

/-! ### Key guards and reset locks -/

/-- The key-guarded group of a register (R366): none for one that holds no RWK field. -/
def keyGroup (r : Reg) : Option Nat :=
  match r with
  | .BUF_HEDGE_CFG => some 0
  | .ENG_HEDGE_THR => some 0
  | .FDB_HEDGE_CFG => some 0
  | .CLS_SLICE_CFG => some 0
  | .DRM_HEDGE_WIN => some 0
  | .DRM_HEDGE_BW => some 0
  | .CLP_RING_CFG => some 0
  | .HDG_EVT_CFG => some 1
  | .HDG_VEC_MAP => some 1
  | .HDG_GAP_CFG0 => some 2
  | .HDG_GAP_CFG1 => some 2
  | .TIM_REF_PRIO => some 3
  | _ => none

/-- A path is armed for a group. -/
def Mod.isArmed (m : Mod) (p : Path) (g : Nat) : Bool := m.arm.armed.contains (pathNum p, g)

/-- A path no longer armed for a group. -/
def Mod.disarm (m : Mod) (p : Path) (g : Nat) : Mod := m.withArm { m.arm with armed := m.arm.armed.filter (· != (pathNum p, g)) }

/-- A guard that was missed: counted, and GLB_EVENT.GUARD with its event (R367, R368). -/
def Mod.guardMiss (m : Mod) (p : Path) (code g : Nat) : Mod :=
  ((m.satAdd GLB_GUARD_STATUS_GUARD_MISSES 0).sqc GLB_EVENT_GUARD).event (glbEv code (pathNum p * 2 ^ 8 + g))

/-- A write to GLB_UNLOCK (R367). -/
def Mod.unlock (m : Mod) (p : Path) (group key : Nat) : Mod :=
  if key = 0x5EED ∧ group < 4 then
    let d := m.disarm p group
    d.withArm { d.arm with armed := d.arm.armed ++ [(pathNum p, group)] }
  else (m.disarm p group).guardMiss p 0x03 group

/-- A write to a field whose LOCK is set: counted, and LOCKED_WRITE at most once per second (R363). -/
def Mod.lockedWrite (m : Mod) (g : Nat) : Mod :=
  let m := m.satAdd GLB_GUARD_STATUS_LOCKED_WRITES 0
  let r := m.rateGate 0x0104000
  if r.1 then (r.2.sqc GLB_EVENT_GUARD).event (glbEv 0x04 g) else r.2

/-- The write changes some key-guarded field. -/
def Mod.guardChanges (m : Mod) (r : Reg) (i : Nat) (v : Word) : Bool :=
  r.spec.fields.any fun f => f.acc == .rwk && (f.fld r).of v != (f.fld r).of (m.rd r i)

/-- An unarmed write that would change a guarded field, ignored whole (R368): the blocks that name a refusal of their own raise it too. -/
def Mod.guardIgnored (m : Mod) (p : Path) (r : Reg) (i g : Nat) : Mod :=
  let m := m.guardMiss p 0x02 g
  match r with
  | .CLS_SLICE_CFG => m.sliceRefused i (m.get CLS_SLICE_CFG_OWNER i) 3
  | .HDG_GAP_CFG0 => m.gapRefused i 4
  | .HDG_GAP_CFG1 => m.gapRefused i 4
  | _ => m

/-! ### Reserved encodings -/

/-- The fields of a write that hold defined encodings, of those a write can set; old is what the register holds. -/
def definedFields (r : Reg) (old v : Word) : List FieldSpec :=
  let all_ := r.spec.fields.filter fun f => f.acc != .ro && f.acc != .sqc
  let sound := all_.filter fun f => f.allows ((f.fld r).of v)
  let w := sound.foldl (fun a f => (f.fld r).put a ((f.fld r).of v)) old
  sound.filter fun f => (relations r w).all fun x => !(x.2 && x.1.lo == f.lo)

/-- The bit and the event code of RESERVED_WRITE of a block (R6), with detail [15:8] and above: the port, lane, slice, pin, Hedge, Gap,
cluster, engine or channel of the register. -/
structure ReservedAt where
  bit : Fld
  idx : Nat := 0
  code : Nat
  high : Nat := 0
  deriving DecidableEq, Repr

/-- The k-th bit of a field. -/
def Fld.bitAt (f : Fld) (k : Nat) : Fld := ⟨f.reg, f.lo + k, 1⟩

/-- Whether a register is a tile's (PRT). -/
def tileReg (r : Reg) : Bool := r == .PRT_TILE_CTL

/-- Where a block reports a reserved encoding written to index i of a register (R68, R97, R136, R167, R198, R233, R248, R294, R307, R331, R355,
R380, R409, R431, R461, R480, R514). -/
def reservedAt (blk : Nat) (r : Reg) (i : Nat) : ReservedAt :=
  let outer := i / dimsCount (r.spec.dims.drop 1)
  let whole := r.spec.dims.isEmpty
  let el := if whole then 0 else outer
  match blk with
  | 0x01 => { bit := GLB_EVENT_RESERVED_WRITE, code := 0x0D }
  | 0x02 => { bit := PWR_EVENT_EVENTS.bitAt 8, code := 0x09 }
  | 0x03 => { bit := EVT_EVENT_RESERVED_WRITE, code := 0x02 }
  | 0x04 => { bit := TIM_EVENT_RESERVED_WRITE, code := 0x0A, high := el }
  | 0x05 => if tileReg r then { bit := PRT_TILE_EVENT_RESERVED_WRITE, idx := i, code := 0x0A, high := 16 * i }
      else { bit := PRT_PORT_EVENT_RESERVED_WRITE, idx := i, code := 0x0A, high := i }
  | 0x06 => { bit := PAR_EVENT_RESERVED_WRITE, code := 0x02 }
  | 0x07 => { bit := CLS_EVENT_RESERVED_WRITE, code := 0x05, high := el }
  | 0x08 => { bit := FDB_EVENT_RESERVED_WRITE, code := 0x07, high := if r == .FDB_PORT_CFG then 0 else el }
  | 0x09 => { bit := LPM_EVENT_RESERVED_WRITE, code := 0x02, high := if r == .LPM_ROOT then el else 0 }
  | 0x0A => { bit := BUF_EVENT_RESERVED_WRITE, code := 0x09, high := el }
  | 0x0B => { bit := QUE_EVENT_RESERVED_WRITE, code := 0x05 }
  | 0x0C => { bit := SCH_EVENT_RESERVED_WRITE, code := 0x08, high := el }
  | 0x0D => { bit := SHP_EVENT_RESERVED_WRITE, code := 0x02, high := el }
  | 0x0E => { bit := POL_EVENT_RESERVED_WRITE, code := 0x04, high := el }
  | 0x0F => { bit := CLP_EVENT_RESERVED_WRITE, code := 0x07, high := el }
  | 0x10 => { bit := ENG_EVENT_RESERVED_WRITE, idx := outer, code := 0x0A, high := outer }
  | 0x11 => { bit := EPC_EVENT_EVENTS.bitAt 4, idx := outer, code := 0x05,
              high := outer * 256 + (if r == .EPC_SEL then i / 8 % 17 else 0) }
  | 0x12 => { bit := DRM_EVENT_EVENTS.bitAt 8, code := 0x09, high := if r == .DRM_CH_CTL then i else 0 }
  | 0x13 => { bit := HDG_EVENT_RESERVED_WRITE, idx := if r == .HDG_PORT_OWNER || r == .HDG_GAP_CFG0 || r == .HDG_GAP_CFG1 then 0 else el,
              code := 0x08, high := el }
  | 0x14 => { bit := INT_EVENT_EVENTS.bitAt 6, code := 0x07 }
  | 0x15 => { bit := GRF_EVENT_EVENTS.bitAt 11, code := 0x0C }
  | 0x16 => { bit := AGE_EVENT_EVENTS.bitAt 5, code := 0x06 }
  | 0x17 => { bit := UPD_EVENT_EVENTS.bitAt 7, code := 0x08 }
  | 0x18 => { bit := NVM_EVENT_EVENTS.bitAt 4, code := 0x05 }
  | _ => { bit := DMP_EVENT_RESERVED_WRITE, code := 0x0A }

/-- RESERVED_WRITE (R6): the owning block's event, to the root Hedge's ring alone, with bits [10:3] of the register's offset, of a port's slot
from its slot base. -/
def Mod.reservedWrite (m : Mod) (r : Reg) (i : Nat) : Mod :=
  let off := r.addr i % 0x2000000
  let blk := blockId r.spec.base
  let x := reservedAt blk r i
  let low := if blk = 0x05 then off % 0x400 / 8 else off / 8 % 256
  (m.sqc x.bit x.idx).event { blk := blk, code := x.code, hedge := (m.hedgeOf r i).getD 0, detail := x.high * 2 ^ 8 + low }

/-! ### Drift -/

/-- A bit of CFG_DRIFT set (R402): of the Hedge the configuration belongs to, or the global one. -/
def Mod.drifted (m : Mod) (hedge : Option Nat) : Mod :=
  let b := match hedge with
    | some h => 1 + h
    | none => 0
  let f := CFG_DRIFT_DRIFT.bitAt b
  if m.flag f then m
  else
    let rings := match hedge with
      | some h => [0, h]
      | none => [0]
    ((m.set f 0 1).sqc DMP_EVENT_DRIFT).event { blk := 0x19, code := 0x08, hedge := hedge.getD 0, detail := hedge.getD 0 * 2 ^ 8 + b, rings := rings }

/-- What the records of the running image last write to an entry of a table, when one does. -/
def Mod.imageEntry (m : Mod) (code i : Nat) : Option Nat :=
  match imgChecked m.runningImage with
  | none => none
  | some rs => ((rs.map (·.2)).flatten).foldl (fun a x => match x with
      | .table c start es => if c = code ∧ start ≤ i ∧ i < start + es.length then es[i - start]? else a
      | _ => a) none

/-- The table entry that a window command writes: its code in R397, its index and its new value; none for a command that writes no table of the
image. -/
def Mod.winEntry (m : Mod) (p : Path) (r : Reg) (w : Word) : Option (Nat × Nat × Nat) :=
  let n := pathNum p
  match r with
  | .PAR_WIN_CMD =>
    if PAR_WIN_CMD_OP.of w = 1 then some (if PAR_WIN_CMD_TABLE.of w = 1 then 0x51 else 0x50, PAR_WIN_CMD_INDEX.of w, 0) else none
  | .CLS_RULE_CMD =>
    let op := CLS_RULE_CMD_OP.of w
    if op = 1 ∨ op = 3 then some (0x40, 2048 * CLS_RULE_CMD_SLICE.of w + CLS_RULE_CMD_INDEX.of w, 0) else none
  | .FDB_WIN_CMD =>
    let op := FDB_WIN_CMD_OP.of w
    if op = 1 ∨ op = 2 ∨ op = 5 then some (0x20, FDB_WIN_CMD_LOC.of w, m.fdbData n) else none
  | .FDB_TBL_CMD => if FDB_TBL_CMD_OP.of w = 1 then some (0x10 + FDB_TBL_CMD_TABLE.of w, FDB_TBL_CMD_INDEX.of w, 0) else none
  | .LPM_WIN_CMD =>
    let op := LPM_WIN_CMD_OP.of w
    let node := LPM_WIN_CMD_NODE.of w
    let entry := LPM_WIN_CMD_ENTRY.of w
    let d (k : Nat) : Nat := (m.rd .LPM_WIN_DATA (3 * n + k)).toNat
    if op = 0 ∨ op = 2 then none
    else match LPM_WIN_CMD_SPACE.of w with
      | 0 => some (0x30, 65536 * node + entry, d 0)
      | 1 => some (0x31, 256 * node + entry % 256, if op = 3 then 0 else d 0)
      | _ => some (0x32, entry, d 0 + d 1 * 2 ^ 64 + d 2 * 2 ^ 128)
  | .QUE_EDIT_CMD => if QUE_EDIT_CMD_OP.of w = 1 then some (0x80, QUE_EDIT_CMD_INDEX.of w, 0) else none
  | .SCH_GATE_WIN_CMD =>
    if SCH_GATE_WIN_CMD_OP.of w = 1 then
      some (0x60, 2048 * SCH_GATE_WIN_CMD_PORT.of w + 1024 * SCH_GATE_WIN_CMD_BANK.of w + SCH_GATE_WIN_CMD_ENTRY.of w, 0)
    else none
  | .SHP_WIN_CMD => if SHP_WIN_CMD_OP.of w = 1 then some (0x71, SHP_WIN_CMD_INDEX.of w, 0) else none
  | .POL_WIN_CMD =>
    if POL_WIN_CMD_OP.of w = 1 then
      some (0x70, POL_WIN_CMD_INDEX.of w, (m.rd .POL_WIN_DATA0 n).toNat + (m.rd .POL_WIN_DATA1 n).toNat * 2 ^ 64)
    else none
  | _ => none

/-- A window command that the block has accepted and answered with STATUS 0 drifts from the image, but for the route service writing a route
the image itself holds (R402). -/
def Mod.winDrift (m : Mod) (before : Mod) (p : Path) (r : Reg) (w : Word) : Mod :=
  let fine := match m.win.busy.getLast?, winReservedStatus r with
    | some c, some st => c.cmd == r && c.result.any fun x => x.1 == r && st.1.of x.2.2 == 0
    | _, _ => false
  match before.winEntry p r w with
  | none => m
  | some (code, i, e) =>
    let routes := match p with
      | .cluster _ => decide (0x30 ≤ code) && decide (code ≤ 0x32) && before.imageEntry code i == some e
      | _ => false
    if fine && !routes then m.drifted (tableHedge before.owner (fun s => before.get CLS_SLICE_CFG_OWNER s) code i e) else m

/-! ### Window commands -/

/-- A field of a window's command register holds a reserved encoding (R528). -/
def cmdReserved (r : Reg) (w : Word) : Bool :=
  match r with
  | .PAR_WIN_CMD => PAR_WIN_CMD_OP.of w == 3
  | .CLS_RULE_CMD => decide (4 ≤ CLS_RULE_CMD_OP.of w)
  | .FDB_WIN_CMD => decide (9 ≤ FDB_WIN_CMD_OP.of w)
  | .FDB_TBL_CMD => decide (3 ≤ FDB_TBL_CMD_OP.of w) || decide (13 ≤ FDB_TBL_CMD_TABLE.of w)
  | .LPM_WIN_CMD => LPM_WIN_CMD_SPACE.of w == 3
  | .QUE_VOQ_CMD => decide (3 ≤ QUE_VOQ_CMD_OP.of w)
  | .QUE_EDIT_CMD => decide (3 ≤ QUE_EDIT_CMD_OP.of w) || QUE_EDIT_CMD_INDEX.of w == 0
  | .SCH_GATE_WIN_CMD => SCH_GATE_WIN_CMD_OP.of w == 3
  | .ENG_CS_WIN_CMD => ENG_CS_WIN_CMD_OP.of w == 3
  | .DRM_WIN_CMD => DRM_WIN_CMD_OP.of w == 3
  | .GRF_CMD => decide (4 ≤ GRF_CMD_OP.of w) || GRF_CMD_CLASS.of w == 7
  | _ => false

/-- A cluster's write command to a tick-staged table, refused while the supervisor is absent (R22, R266). -/
def Mod.stagedBarred (m : Mod) (p : Path) (r : Reg) (w : Word) : Bool :=
  let cluster := isCluster p
  let staged := match r with
    | .PAR_WIN_CMD => PAR_WIN_CMD_OP.of w == 1
    | .POL_WIN_CMD => POL_WIN_CMD_OP.of w == 1
    | .SHP_WIN_CMD => SHP_WIN_CMD_OP.of w == 1
    | _ => false
  cluster && staged && m.flag GLB_STATUS_HEADLESS

/-- The bits of a register that a write sets, with the others as they stand. -/
def writable (r : Reg) (old v : Word) : Word :=
  (r.spec.fields.filter fun f => f.acc != .ro && f.acc != .sqc).foldl (fun a f => (f.fld r).put a ((f.fld r).of v)) old

/-- A write to a window's register that is not held (R371, R372, R528): whether it is refused with MEM_ERR. -/
def Mod.windowWrite (m : Mod) (p : Path) (win : WinId) (command : Bool) (r : Reg) (i : Nat) (v : Word) (x : Option Found) : Bool × Mod :=
  let w := writable r (m.rd r i) v
  if command = false then (false, m.wr r i w)
  else if cmdReserved r v then
    match winReservedStatus r with
    | some st => (false, (m.wr r i (st.1.put (m.rd r i) st.2)).winRefused p win v st.2)
    | none => (false, m)
  else if m.stagedBarred p r v then (true, m)
  else if (winOp r).any fun f => f.of v == 0 then (false, m.wr r i w)
  else
    match r with
    | .GRF_CMD =>
      let f := m.foundOr x
      (false, f.2.winCommand p r i w f.1.passed f.1.failing)
    | _ => (false, (m.winCommand p r i w true []).winDrift m p r v)

/-! ### Sequence clears -/

/-- A write to a register with SQC fields (R369): the marked bits clear when the SEQ carried is the current one. -/
def Mod.seqClear (m : Mod) (r : Reg) (i : Nat) (v : Word) : Mod :=
  let w := m.rd r i
  if (seqField r).of v = (seqField r).of w then
    let mask := (r.spec.fields.filter (·.acc == .sqc)).foldl (fun a f => a + (2 ^ (f.hi + 1 - f.lo) - 1) * 2 ^ f.lo) 0
    m.wr r i (w &&& ~~~(v &&& BitVec.ofNat 64 mask))
  else m.satAdd GLB_GUARD_STATUS_STALE_CLEARS 0

/-! ### The write -/

/-- What became of a write: the module took it, ignored it under R360, R363 or R368, holds it for a busy window (R372), or refused it (MEM_ERR
of microcode, R266). -/
inductive Took where
  | taken
  | ignored
  | held
  | refused
  deriving DecidableEq, Repr

/-- A write's outcome, the LOCK bits and the module after it. -/
structure Access where
  took : Took
  locks : BitVec 5
  m : Mod
  deriving DecidableEq, Repr

/-- A write whose register, right and guard have been settled: reset locks, reserved encodings, the owning block and drift (R363, R6, R402). -/
def Mod.fieldWrite (m : Mod) (locks : BitVec 5) (p : Path) (r : Reg) (i : Nat) (v : Word) (x : Option Found) : Access :=
  let defined := definedFields r (m.rdStaged r i) v
  let all_ := r.spec.fields.filter fun f => f.acc != .ro && f.acc != .sqc
  let lock := (lockGroup r).filter fun g => locks.getLsbD g
  let locked := lock.isSome && all_.any (·.acc == .rwl)
  let open_ := if locked then all_.filter (·.acc != .rwl) else all_
  let judged := open_.filter fun f => !(defined.any (·.lo == f.lo))
  let m := if locked then m.lockedWrite (lock.getD 0) else m
  let m := if judged.isEmpty then m else m.reservedWrite r i
  let once := all_.any (·.acc == .wo) && !judged.isEmpty
  let takes := if once then [] else open_.filter fun f => defined.any (·.lo == f.lo)
  let barred := m.flag GLB_STATUS_HEADLESS && isCluster p && takes.any (·.acc == .rwt)
  let takes := if barred then takes.filter (·.acc != .rwt) else takes
  let hedge := m.hedgeOf r i
  let drifts := takes.any fun f => decide ((imageBits r / 2 ^ f.lo) % 2 ^ (f.hi + 1 - f.lo) ≠ 0)
  let done := m.blockWrite locks { p := p, r := r, i := i, v := v, fields := takes } x
  let m := if done.1 && drifts then done.2.drifted hedge else done.2
  { took := if barred then .refused else if locked && open_.isEmpty then .ignored else .taken, locks := locks, m := m }

/-- A write to a register that is neither a lock, an unlock nor a window's: its right, sequence clears, and key guards. -/
def Mod.plainWrite (m : Mod) (locks : BitVec 5) (p : Path) (r : Reg) (i : Nat) (v : Word) (x : Option Found) : Access :=
  let group := keyGroup r
  let armed := group.any (m.isArmed p)
  let m := match group with
    | some g => if armed then m.disarm p g else m
    | none => m
  match m.writeRight p (blockId r.spec.base) r i v with
  | .bad => { took := .ignored, locks := locks, m := m.badAccess p 3 }
  | .told m => { took := .taken, locks := locks, m := m }
  | .may =>
    if r.spec.fields.any (·.acc == .sqc) then { took := .taken, locks := locks, m := m.seqClear r i v }
    else
      match group with
      | some g =>
        if m.guardChanges r i v = false then m.fieldWrite locks p r i v x
        else if armed = false then { took := .ignored, locks := locks, m := m.guardIgnored p r i g }
        else if (vfHedge p).isSome then { took := .ignored, locks := locks, m := m.badAccess p 3 }
        else m.fieldWrite locks p r i v x
      | none => m.fieldWrite locks p r i v x

/-- A write to a window's register: its right, and a locked GRF_CMD, which is ignored and starts nothing (R363). -/
def Mod.winWrite (m : Mod) (locks : BitVec 5) (p : Path) (win : WinId) (command : Bool) (r : Reg) (i : Nat) (v : Word) (x : Option Found) : Access :=
  match m.writeRight p (blockId r.spec.base) r i v with
  | .bad => { took := .ignored, locks := locks, m := m.badAccess p 3 }
  | .told m => { took := .taken, locks := locks, m := m }
  | .may =>
    if r = .GRF_CMD ∧ locks.getLsbD 0 = true then { took := .ignored, locks := locks, m := m.lockedWrite 0 }
    else
      let d := m.windowWrite p win command r i v x
      { took := if d.1 then .refused else .taken, locks := locks, m := d.2 }

/-- The decoded register of a write. -/
def Mod.decodedWrite (m : Mod) (locks : BitVec 5) (p : Path) (off : Nat) (r : Reg) (i : Nat) (v : Word) (x : Option Found) (thread : Option Nat) : Access :=
  match r with
  | .GLB_UNLOCK => { took := .taken, locks := locks, m := m.unlock p (GLB_UNLOCK_GROUP.of v) (GLB_UNLOCK_KEY.of v) }
  | .GLB_LOCK =>
    if moduleWide p then { took := .taken, locks := locks ||| BitVec.ofNat 5 (GLB_LOCK_LOCK.of v), m := m.drifted none }
    else { took := .ignored, locks := locks, m := m.badAccess p 3 }
  | _ =>
    match windowOf (pathNum p) r i with
    | some (win, command) =>
      if m.winBusy win || m.win.held.any (·.win == win) then
        let h : HeldWrite := { path := p, off := off, value := v, win := win, thread := thread }
        { took := .held, locks := locks, m := m.withWin { m.win with held := m.win.held ++ [h] } }
      else m.winWrite locks p win command r i v x
    | none => m.plainWrite locks p r i v x

/-- A write of len octets at an offset by a path (R358 to R363, R366 to R372): x is what the write's own row says of the measurements it starts,
thread the engine thread that issued it. -/
def Mod.fabricWrite (m : Mod) (locks : BitVec 5) (p : Path) (off len : Nat) (v : Word) (x : Option Found) (thread : Option Nat) : Access :=
  let bad (q : Nat) : Access := { took := .ignored, locks := locks, m := m.badAccess p q }
  if m.pathUp p = false then { took := .ignored, locks := locks, m := m }
  else if len ≠ 8 ∨ off % 8 ≠ 0 then bad 1
  else if 0x2000000 ≤ off then bad 2
  else if 0x1000000 ≤ off then
    if statAssigned (off - 0x1000000) then { took := .taken, locks := locks, m := m } else bad 2
  else
    match regAt (pathNum p) off with
    | none => bad 2
    | some (r, i) => m.decodedWrite locks p off r i v x thread

/-- A thread's register write that a busy window held is refused as it is taken: it sets MEM_ERR then (R22, R264, R266). -/
def Mod.lateMemErr (m : Mod) (key : Nat) : Mod :=
  let m := m.bump (engCtr (key / 768) 14)
  match m.thread key with
  | some t =>
    (m.epcThread key t 22).setThread key { t with memErr := true, mw := { t.mw with memErr := t.mw.memErr.map fun _ => true } }
  | none => m

/-- The writes a window set held are taken in issue order once its command has completed (R372); a command among them makes the later ones wait
again. -/
def Mod.heldTaken (m : Mod) (locks : BitVec 5) (w : WinId) : BitVec 5 × Mod :=
  let held := m.win.held.filter (·.win == w)
  let m := m.withWin { m.win with held := m.win.held.filter (·.win != w) }
  held.foldl (fun s h =>
    let a := s.2.fabricWrite s.1 h.path h.off 8 h.value none h.thread
    (a.locks, match a.took, h.thread with
      | .refused, some key => a.m.lateMemErr key
      | _, _ => a.m)) (locks, m)

/-- The access of an SDRAM window's command is not complete: its read waits for data, or its store for room (R316). -/
def Mod.winAwaits (m : Mod) (w : WinId) : Bool :=
  match w with
  | .dram n => (m.drm.reqs.any fun r => !r.write && r.who == .window n) || m.drm.stores.any (·.1 == n)
  | _ => false

/-- WINDOW_COMMAND_DONE (R372): the command of a window set completes, and the writes it held are taken. -/
def Mod.windowCommandDone (m : Mod) (locks : BitVec 5) (w : WinId) : BitVec 5 × Mod :=
  if m.winBusy w && !(m.winAwaits w) then (m.winDone w).heldTaken locks w else (locks, m)

/-! ### JTAG halves -/

/-- A write of the low half on JTAG (R361): held in the path's holding word. -/
def Mod.jtagLow (m : Mod) (v : BitVec 32) : Mod := if m.pathUp .jtag then m.withArm { m.arm with jtag := some v } else m

/-- A write of the high half on JTAG (R361): all 64 bits are written as one act, and the holding word is cleared. -/
def Mod.jtagHigh (m : Mod) (locks : BitVec 5) (off : Nat) (v : BitVec 32) : Access :=
  if m.pathUp .jtag then
    let low := m.arm.jtag.getD 0
    let m := m.withArm { m.arm with jtag := none }
    if off % 8 = 4 then m.fabricWrite locks .jtag (off - 4) 8 (v ++ low) none none
    else { took := .ignored, locks := locks, m := m.badAccess .jtag 1 }
  else { took := .ignored, locks := locks, m := m }

end Sys2Proof.Machine
end

