-- ==== Sys2Proof/Machine/Tasks.lean ====
section
/-! DEFINITION. The tasks of the standard microcode that the spec describes by their effect: the Pruner's step (R116 to R118), the end of
the route grace (R132), the Clippings flush (R245, R246), and the record of a sampled memory operation (R303). -/

namespace Sys2Proof.Machine

/-! ### The Pruner -/

/-- Duration of a pass in nanoseconds (R116). -/
def Mod.passTime (m : Mod) : Nat :=
  ceilDiv 65536 (m.get FDB_PRUNE_CFG_BUCKETS) * m.get FDB_PRUNE_CFG_STEP_TICKS * m.period

/-- N_h (R117): every how many passes Hedge h ages. A period of zero ages at every pass. -/
def Mod.ageEvery (m : Mod) (h : Nat) : Nat :=
  Nat.max 1 (ceilDiv (m.get FDB_HEDGE_AGE_PERIOD_S h * 1000000000) (Nat.max 1 (8 * m.passTime)))

/-- N_h of every Hedge, as a pass begins. -/
def Mod.passBegins (m : Mod) : Mod :=
  if m.fwd.swept ≠ 0 then m
  else m.withFwd { m.fwd with passN := (List.range 16).map fun h => (h, m.ageEvery h) }

/-- The pass in progress is an ageing pass of Hedge h (R117). -/
def Mod.ages (m : Mod) (h : Nat) : Bool :=
  m.flag FDB_HEDGE_AGE_AGE_EN h && m.fwd.pass % Nat.max 1 (lookupD m.fwd.passN h 1) == 0

/-- The Thicket entry with the lowest location whose key hashes to a bucket. -/
def Mod.thickOf (m : Mod) (b : Nat) : Option (Nat × Nat) :=
  m.fwd.fdb.find? fun e => decide (thicket ≤ e.1) && m.fdbBucket (feFid e.2) (feMac e.2) == b

/-- PROMOTE (R118): a Thicket entry moves into the way of its bucket that was freed. -/
def Mod.promote (m : Mod) (loc : Nat) : Mod :=
  if thicket ≤ loc then m
  else match m.thickOf (loc / 4) with
    | some (t, e) => (m.fdbSet t 0).fdbSet loc e
    | none => m

/-- The Pruner at one location (R117): a dynamic entry of an ageing Hedge that was not hit grows older, and goes at 8. -/
def Mod.pruneAt (m : Mod) (loc : Nat) : Mod :=
  match lookup m.fwd.fdb loc with
  | none => m
  | some e =>
    let h := fidHedge (feFid e)
    if feStatic e || !(m.ages h) then m
    else if feHit e then m.fdbSet loc (putBits (putBits e 62 62 0) 61 59 0)
    else if feAge e < 7 then m.fdbSet loc (putBits e 61 59 (feAge e + 1))
    else ((m.fdbSet loc 0).bump (fdbCtr h 6)).promote loc

/-- The Pruner at one bucket, and at a Thicket entry with every sixteenth one (R116). -/
def Mod.pruneBucket (m : Mod) (b : Nat) : Mod :=
  let m := [0, 1, 2, 3].foldl (fun m k => m.pruneAt (4 * b + k)) m
  if b % 16 = 15 then m.pruneAt (thicket + b / 16) else m

/-- A cluster runs the Pruner (R116, R117): it is in RUN, and its tick-jobs have the Pruner's step (R276's opcode 0x12). -/
def Mod.pruner (m : Mod) (c : Nat) : Bool :=
  m.get ENG_CLUSTER_STATUS_STATE c == 0 && !((m.cl c).lost) &&
    (List.range 256).any fun j => m.flag ENG_TICKJOB0_VALID (256 * c + j) && m.get ENG_TICKJOB0_OPCODE (256 * c + j) == 0x12

/-- The Pruner steps at this tick (R27, R116), unless it is shed (R33, R35) or no cluster runs it. -/
def Mod.pruneDue (m : Mod) : Bool :=
  let k := m.get FDB_PRUNE_CFG_STEP_TICKS
  let skipped := match m.tick.skipped with
    | some (lo, hi) => decide (lo < hi) && decide (ceilDiv lo k * k < hi)
    | none => false
  (List.range 4).any m.pruner && decide (m.get FDB_PRUNE_CFG_BUCKETS ≠ 0) && decide (k ≠ 0) && (m.tickNum % k == 0 || skipped) &&
    decide (m.get GLB_TICK_CFG_SHED_LEVEL < 3) && decide (m.fwd.prunedAt ≠ some m.commits)

/-- PRUNER_STEP (R116 to R118): the next BUCKETS buckets are swept. The step that completes a pass sweeps its BUCKETS too, the next pass beginning
where it ends. DEDUCED (log 71): a bucket that the pass has swept already is not treated again, for a pass treats each entry once (R117). -/
def Mod.prunerStep (m : Mod) : Mod :=
  if m.pruneDue then
    let m := m.passBegins
    let n := Nat.min (m.get FDB_PRUNE_CFG_BUCKETS) (65536 - m.fwd.swept)
    let first := m.fwd.sweepAt
    let m := (List.range n).foldl (fun m j => m.pruneBucket ((first + j) % 65536)) m
    let f := { m.fwd with prunedAt := some m.commits, sweepAt := (first + m.get FDB_PRUNE_CFG_BUCKETS) % 65536 }
    if f.swept + n = 65536 then m.withFwd { f with swept := 0, pass := f.pass + 1 }
    else m.withFwd { f with swept := f.swept + n }
  else m

/-- GRACE_END (R132): the interval after the last trie write has passed. -/
def Mod.graceEnd (m : Mod) : Mod :=
  if m.flag LPM_STATUS_GRACE then (m.advanceTo m.fwd.graceEnd).set LPM_STATUS_GRACE 0 0 else m

/-! ### The Clippings flush -/

/-- Record i of the Clippings ring of Hedge h, as it lies in SDRAM. -/
def Mod.clipRecord (m : Mod) (h i : Nat) : List Byte := memRead m.drm.mem (m.clipAddr h i) 256

/-- Records are taken from the ring of Hedge h: CONS advances, and fence markers that wait may find room. -/
def Mod.clipTaken (m : Mod) (h n : Nat) : Mod :=
  (m.set CLP_RING_CONS_CONS h (m.get CLP_RING_CONS_CONS h + n)).clipSettle

/-- One record delivered to the host ring (R245, R347): it holds while the ring is full or bus mastering is off. -/
def Mod.clipToHost (m : Mod) (h : Nat) : Mod :=
  let size := 2 ^ m.get CLP_HOST_BASE_LOG2_SIZE h
  let prod := m.get CLP_HOST_IDX_PROD h
  let fill := (prod + 2 ^ 32 - m.get CLP_HOST_IDX_CONS h) % 2 ^ 32
  if m.clipFill h = 0 ∨ size ≤ fill ∨ ¬ m.hdg.busMaster.contains (h + 1) then m
  else
    let addr := m.get CLP_HOST_BASE_ADDR h * 4096 + prod % size * 256
    let m := m.emit (.hostWrite (h + 1) addr (m.clipRecord h (m.get CLP_RING_CONS_CONS h)))
    (((m.set CLP_HOST_IDX_PROD h (prod + 1)).clipTaken h 1).bump (clpCtr h 8)).hedgeCause h 2

/-- Octets of an export frame before its FCS: n records of the ring of Hedge h from its CONS on (R246). -/
def Mod.exportOctets (m : Mod) (h n : Nat) : List Byte :=
  let first := m.get CLP_RING_CONS_CONS h
  toBytes 6 (m.get CLP_EXPORT_DMAC h) ++ toBytes 6 (m.get PRT_MAC_ADDR_ADDR (m.get CLP_EXPORT_PORT h)) ++
    toBytes 2 (m.get CLP_CFG_EXP_ETYPE) ++ [1, BitVec.ofNat 8 h, BitVec.ofNat 8 n, 0] ++ toBytes 4 first ++
    ((List.range n).map fun k => m.clipRecord h (first + k)).flatten

/-- An export frame of n records of the ring of Hedge h, from cluster c (R246). EXPORTED counts the records of a frame that was
enqueued. -/
def Mod.exportFrame (m : Mod) (h c n : Nat) : Mod :=
  let p := m.get CLP_EXPORT_PORT h
  if n = 0 ∨ m.owner p ≠ h then m
  else
    let f := { m.internalFrame (130 + c) h 0 (m.exportOctets h n) with cls := m.get CLP_EXPORT_CLASS h, exported := true }
    let id := m.buf.nextId
    let m := (m.letIn f false [(p, none)]).clipTaken h n
    if m.buf.nextId = id then m else m.bump (clpCtr h 7) n

/-- Export frames of up to n records, five to a frame. -/
def Mod.exportRun (m : Mod) (h c : Nat) : Nat → Nat → Mod
  | 0, _ => m
  | fuel + 1, n =>
    let k := Nat.min 5 (Nat.min n (m.clipFill h))
    if k = 0 then m else (m.exportFrame h c k).exportRun h c fuel (n - k)

/-- Records that the flush tick-job may move in one tick (R33, R245): 1,920 slots of a cluster at the 8 µs tick, 32 microwords to a record. -/
def Mod.flushBudget (m : Mod) : Nat := 1920 * m.period / 8000 / 32

/-- Records that cluster c has flushed in this tick. -/
def Mod.flushedNow (m : Mod) (c : Nat) : Nat :=
  match lookup m.clp.flushed c with
  | some (at_, n) => if at_ = m.commits then n else 0
  | none => 0

/-- Up to n records of the ring of Hedge h moved to where DELIVER sends them. -/
def Mod.flushRecords (m : Mod) (h c n : Nat) : Mod :=
  match m.get CLP_HEDGE_CFG_DELIVER h with
  | 1 => (List.range (Nat.min n (m.clipFill h))).foldl (fun m _ => m.clipToHost h) m
  | 3 => m.exportRun h c n n
  | _ => m

/-- CLIPPINGS_FLUSH (R33, R34, R245, R246): the flush tick-job of cluster c moves up to n records of the ring of Hedge h to its host ring, or
exports them, within its budget of the tick; the rest waits for its next run. It is shed from level 4 on and stops with its cluster (R11), and DMP
delivers the records of DELIVER 2 in messages of its own. -/
def Mod.clippingsFlush (m : Mod) (h c n : Nat) : Mod :=
  if 4 ≤ m.get GLB_TICK_CFG_SHED_LEVEL ∨ m.flag CLP_HEDGE_CFG_EN h = false ∨ m.get ENG_CLUSTER_STATUS_STATE c ≠ 0 ∨ (m.cl c).lost then m
  else
    let used := m.flushedNow c
    let before := m.get CLP_RING_CONS_CONS h
    let m := m.flushRecords h c (Nat.min n (m.flushBudget - used))
    m.withClp { m.clp with flushed := store m.clp.flushed c (m.commits, used + (m.get CLP_RING_CONS_CONS h + 2 ^ 32 - before) % 2 ^ 32) }

/-! ### Samples -/

/-- SAMPLE_RECORD (R303, R304): the tagged microword of a thread, whose memory operation has returned, is recorded. -/
def Mod.sampleRecord (m : Mod) (key : Nat) : Mod :=
  match m.thread key with
  | none => m
  | some t =>
    match t.tagged, t.read with
    | some (uaddr, issue, mem, msp), none =>
      let now := m.engineCycle (key / 768) (m.physOf (key / 768) (key % 768 / 48))
      (m.setThread key { t with tagged := none }).sampleStore key
        { uaddr := uaddr, opcode := t.job.desc.toNat % 256, hedge := t.job.hedge, mem := mem, msp := msp, latency := now - issue,
          cycle := issue }
    | _, _ => m

end Sys2Proof.Machine
end

