-- ==== Sys2Proof/Machine/Operands.lean ====
section
/-! DEFINITION. The operand forms of the commands: measured findings, window sets, and the words that a command of one field writes. -/

namespace Sys2Proof.Machine

/-- A feed's path that was not measured. -/
def noTest : FeedTest := { volts := 0, rippleMv := 0, pulseMa := 0, droopMv := 0, reverseMa := 0, responds := false, dropMv := 0 }

/-- What a row brings of a lane's loopback test, a retraining, or the spares that fail. -/
def foundTest (passed : Bool) (failing : List Nat) : Found := { passed := passed, failing := failing, feedA := noTest, feedB := noTest }

/-- What a row brings of a feed self-test. -/
def foundFeeds (a b : FeedTest) : Found := { feedA := a, feedB := b }

/-- The module's name of a window set. -/
def winId : Window → WinId
  | .par => .par
  | .cls p => .cls (pathNum p)
  | .fdb p => .fdb (pathNum p)
  | .tbl p => .tbl (pathNum p)
  | .lpm p => .lpm (pathNum p)
  | .voq => .voq
  | .edit => .edit
  | .gate p => .gate (pathNum p)
  | .shp p => .shp (pathNum p)
  | .pol p => .pol (pathNum p)
  | .cs c => .cs c.val
  | .sample c => .sample c.val
  | .dram p => .dram (pathNum p)
  | .grf => .grf

/-- A word with a field replaced by a number; the rest of the word as given. -/
def withOp (f : Fld) (v : Word) (op : Nat) : Word := f.put v op

/-- The word a write of one field carries: the register as it stands, with that field replaced. -/
def State.revised (s : State) (f : Fld) (i v : Nat) : Word := f.put (s.m.rdStaged f.reg i) v

/-- A GRF_CMD word (R454): the operation, the class and the LOCATION. -/
def grfWord (op cls loc : Nat) : Word := GRF_CMD_OP.put (GRF_CMD_CLASS.put (GRF_CMD_LOCATION.put 0 loc) cls) op

end Sys2Proof.Machine
end

