-- ==== Sys2Proof/Machine/Act.lean ====
section
/-! DEFINITION. How a command acts: on the module while the die runs, on the power controller while it has power, and by a write of a
register through the rules of the fabric. Every such command answers a next state. -/

namespace Sys2Proof.Machine

/-- A command of the die: without effect while the die does not run (R477, R482, R483, R523). -/
def State.act (s : State) (f : Mod → Mod) : Host.Outcome State Fault Refusal :=
  .next { s with m := if s.m.dieUp then f s.m else s.m }

/-- A command of the power controller, which has power while some feed is present. -/
def State.actPc (s : State) (f : Mod → Mod) : Host.Outcome State Fault Refusal :=
  .next { s with m := if s.m.pcUp then f s.m else s.m }

/-- A command of the front end and the pins, which act whatever runs. -/
def State.actAny (s : State) (f : Mod → Mod) : Host.Outcome State Fault Refusal := .next { s with m := f s.m }

/-- A command of the die that reads the LOCK bits, and may set some. -/
def State.actLocks (s : State) (f : BitVec 5 → Mod → BitVec 5 × Mod) : Host.Outcome State Fault Refusal :=
  .next (if s.m.dieUp then { s with locks := (f s.locks s.m).1, m := (f s.locks s.m).2 } else s)

/-- A start of the module, which begins while the die does not run (R383, R523). -/
def State.actStart (s : State) (f : BitVec 5 → Mod → BitVec 5 × Mod) : Host.Outcome State Fault Refusal :=
  .next { s with locks := (f s.locks s.m).1, m := (f s.locks s.m).2 }

/-- The outcome of a write: the LOCK bits and the module. -/
def Access.pair (a : Access) : BitVec 5 × Mod := (a.locks, a.m)

/-- A write of len octets at an offset of the register space by a path (R5, R358 to R363). -/
def State.write (s : State) (p : Path) (off len : Nat) (v : Word) (x : Option Found) : Host.Outcome State Fault Refusal :=
  s.actLocks fun l m => (m.fabricWrite l p off len v x none).pair

/-- A write of 64 bits to register r at an index by a path; a register of a per-path window at its index within the set. -/
def State.put (s : State) (p : Path) (r : Reg) (i : Nat) (v : Word) (x : Option Found) : Host.Outcome State Fault Refusal :=
  s.write p (r.addr i) 8 v x

/-- What passes with no command waiting: one TIME cycle of 1 ns, in which the things that run by themselves run on (DESIGN CHOICE, log 3).
Nothing passes while the die does not run. -/
def State.idle (s : State) : State := { s with m := if s.m.dieUp then s.m.advance 1 else s.m }

/-- The ordering code (R1) in ASCII: DQ-VX6412-C or DQ-VX6412-L. -/
def orderingCode : List (BitVec 8) :=
  [0x44, 0x51, 0x2D, 0x56, 0x58, 0x36, 0x34, 0x31, 0x32, 0x2D, if Config.liquidCooled then 0x4C else 0x43]

end Sys2Proof.Machine
end

