-- ==== Sys2Proof/Machine/Micro.lean ====
section
/-! DEFINITION. The memory operations of microcode in the spaces of R264, the return of a read, the commit section, END, and the load of
an exchange (Packet Engines and Microcode). -/

namespace Sys2Proof.Machine

/-! ### Forms of a memory operation (R263) -/

/-- Octets an operation accesses. -/
def memWidth (op : Nat) : Nat :=
  match op with
  | 1 | 6 => 1
  | 2 | 7 => 2
  | 3 | 8 => 4
  | 5 | 10 => 16
  | _ => 8

/-- A store. -/
def isStore (op : Nat) : Bool := decide (6 ≤ op) && decide (op ≤ 10)

/-- An atomic. -/
def isAtomic (op : Nat) : Bool := decide (11 ≤ op)

/-- What an atomic leaves of an old word: a is the ALU A result, b the ALU B result. -/
def atomicNew (op old a b : Nat) : Nat :=
  match op with
  | 11 => (old + b) % 2 ^ 64
  | 12 => old ||| b
  | 13 => if old = a then b else old
  | _ => b

/-! ### What a thread sees of an operation -/

/-- The thread's microword has a memory operation, with its outcome and a read that is outstanding. -/
def Mod.memNote (m : Mod) (key : Nat) (t : Thread) (x : MemArgs) (op : Nat) (failed : Bool) (read : Option ReadOut) : Mod :=
  let y := { t.mw with mem := some (op, x.msp.val), memErr := some failed, reads := read.isSome }
  m.setThread key { t with mw := y, read := read.orElse fun _ => t.read }

/-- An operation that returns data known now. -/
def Mod.memData (m : Mod) (key : Nat) (t : Thread) (x : MemArgs) (op v : Nat) : Mod :=
  m.memNote key t x op false (some { width := memWidth op, data := some v, failed := false, since := m.now })

/-- An operation that returns nothing is done. -/
def Mod.memDone (m : Mod) (key : Nat) (t : Thread) (x : MemArgs) (op : Nat) : Mod := m.memNote key t x op false none

/-- An operation that sets MEM_ERR (R264): a read returns zero. -/
def Mod.memFails (m : Mod) (key : Nat) (t : Thread) (x : MemArgs) (op : Nat) : Mod :=
  let m := (m.bump (engCtr (key / 768) 14)).epcThread key t 22
  m.memNote key t x op true
    (if isStore op then none else some { width := memWidth op, data := some 0, failed := true, since := m.now })

/-! ### LOCAL -/

/-- Octet a of a thread's LOCAL memory: what its job stored, or a free value. -/
def Thread.localByte (t : Thread) (a : Nat) : Byte :=
  (lookup t.mem a).getD ((toBytes 8 (Config.freeWord (t.localSeed + a / 8)).toNat).getD (a % 8) 0)

/-- n octets of LOCAL memory as a number. -/
def Thread.localRead (t : Thread) (a n : Nat) : Nat := beNat ((List.range n).map fun k => t.localByte (a + k))

/-- Octets stored in LOCAL memory. -/
def Thread.localWrite (t : Thread) (a : Nat) (octets : List Byte) : Thread :=
  { t with mem := octets.zipIdx.foldl (fun l e => store l (a + e.2) e.1) t.mem }

/-- An operation in LOCAL memory; a word that fails its check sets MEM_ERR as it is read (R440). -/
def Mod.localOp (m : Mod) (key : Nat) (t : Thread) (x : MemArgs) (op addr a b : Nat) : Mod :=
  let n := memWidth op
  if 1024 < addr + n then m.memFails key t x op
  else if isStore op then m.memDone key (t.localWrite addr (toBytes n (a * 2 ^ 64 + b))) x op
  else if x.bad then m.memFails key t x op
  else
    let old := t.localRead addr n
    if isAtomic op then m.memData key (t.localWrite addr (toBytes 8 (atomicNew op old a b))) x op old
    else m.memData key t x op old

/-! ### SHARED -/

/-- SHARED words of a cluster that an access of n octets touches are poisoned (R437). -/
def Cluster.poisonedAt (k : Cluster) (addr n : Nat) : Bool :=
  k.poisoned.any fun w => decide (addr < 8 * w + 8) && decide (8 * w < addr + n)

/-- Octets stored in SHARED memory: the words they lie in are no longer poisoned. -/
def Cluster.sharedWrite (k : Cluster) (addr : Nat) (octets : List Byte) : Cluster :=
  { k with shared := memWrite k.shared addr octets,
           poisoned := k.poisoned.filter fun w => decide (8 * w + 8 ≤ addr) || decide (addr + octets.length ≤ 8 * w) }

/-- A store or an atomic in SHARED memory takes effect. -/
def Mod.sharedDo (m : Mod) (c op addr a b : Nat) : Mod :=
  let n := memWidth op
  let old := beNat (memRead (m.cl c).shared addr n)
  m.setCl c ((m.cl c).sharedWrite addr (toBytes n (if isStore op then a * 2 ^ 64 + b else atomicNew op old a b)))

/-- An operation in SHARED memory: held in a commit section, where an atomic returns no data (R261). -/
def Mod.sharedOp (m : Mod) (key : Nat) (t : Thread) (x : MemArgs) (op addr a b : Nat) : Mod :=
  let n := memWidth op
  let c := key / 768
  let y := { t.mw with mem := some (op, 1), memErr := some false }
  if 0x400000 < addr + n then m.memFails key t x op
  else if m.holds key t && isStore op then m.hold key t (.store 1 addr n (a * 2 ^ 64 + b)) y
  else if m.holds key t && isAtomic op then m.hold key t (.atomic 1 addr op (BitVec.ofNat 64 a) (BitVec.ofNat 64 b)) y
  else if isStore op then (m.sharedDo c op addr a b).memDone key t x op
  else if (m.cl c).poisonedAt addr n then m.memFails key t x op
  else
    let old := beNat (memRead (m.cl c).shared addr n)
    let m := if isAtomic op then m.sharedDo c op addr a b else m
    m.memData key t x op old

/-! ### TABLE -/

/-- The words of a TABLE address (R264): the entry and its words; none where there is no such entry. -/
def Mod.tableEntry (m : Mod) (addr : Nat) : Option (Nat × Nat) :=
  let code := addr / 2 ^ 32
  let i := bits addr 31 6
  if code = 13 then if i < fdbLocations then some (lookupD m.fwd.fdb i 0, 2) else none
  else if code < 13 ∧ i < (tblShape code).1 then some (m.tbl code i, (tblShape code).2)
  else none

/-- A read of a lookup table: RD64 of a word, or RD128 of a word and the next one. -/
def Mod.tableOp (m : Mod) (key : Nat) (t : Thread) (x : MemArgs) (op addr : Nat) : Mod :=
  let w := bits addr 5 3
  let n := memWidth op / 8
  match m.tableEntry addr with
  | some (e, words) =>
    if (op = 4 ∨ op = 5) ∧ w + n ≤ words then m.memData key t x op (e / 2 ^ (64 * w) % 2 ^ (64 * n)) else m.memFails key t x op
  | none => m.memFails key t x op

/-! ### SDRAM -/

/-- An operation in the SDRAM space (R314, R316): it waits for a slot, or for room in the write queue. -/
def Mod.sdramOp (m : Mod) (key : Nat) (t : Thread) (x : MemArgs) (op addr a b : Nat) : Mod :=
  let n := memWidth op
  let h := t.job.hedge
  if isAtomic op ∨ m.drmMay (.job h) (isStore op) addr n = false ∨ m.drmServed addr = false then m.memFails key t x op
  else if isStore op then
    if m.holds key t then m.hold key t (.store 3 addr n (a * 2 ^ 64 + b)) { t.mw with mem := some (op, 3), memErr := some false }
    else if m.writeRoom addr then (m.drmStore (.thread key) h addr (toBytes n (a * 2 ^ 64 + b))).memDone key t x op
    else m
  else
    match m.drmAskRead (.thread key) h addr n with
    | (.forwarded octets, m) => m.memData key t x op (beNat octets)
    | (.asked _, m) => m.memNote key t x op false (some { width := n, data := none, failed := false, since := m.now })
    | (.waits, m) => m

/-! ### REG and QUEUE -/

/-- A read of a window's data register waits while the set's command is in progress (R372). -/
def Mod.readHeld (m : Mod) (p : Path) (off : Nat) : Bool :=
  match regAt (pathNum p) off with
  | some (r, i) => match windowOf (pathNum p) r i with
    | some (win, false) => m.winBusy win
    | _ => false
  | none => false

/-- The path of a cluster. -/
def clusterPath (key : Nat) : Path := .cluster (Fin.ofNat 4 (key / 768))

/-- A register write of a thread (R266): the LOCK bits, the module, and whether it was refused. -/
def Mod.threadWrite (m : Mod) (l : BitVec 5) (key off : Nat) (v : Word) : BitVec 5 × Mod × Bool :=
  let a := m.fabricWrite l (clusterPath key) off 8 v none (some key)
  (a.locks, a.m, a.took == .refused)

/-- An operation in the register space: RD64 and WR64. -/
def Mod.regOp (m : Mod) (l : BitVec 5) (key : Nat) (t : Thread) (x : MemArgs) (op addr b : Nat) : BitVec 5 × Mod :=
  if 0x2000000 ≤ addr ∨ (op ≠ 4 ∧ op ≠ 9) then (l, m.memFails key t x op)
  else if op = 4 then
    if m.readHeld (clusterPath key) addr then (l, m)
    else
      let r := m.fabricRead l (clusterPath key) addr
      (l, r.2.memData key t x op r.1.toNat)
  else if m.holds key t then
    (l, m.hold key t (.regWrite addr (BitVec.ofNat 64 b)) { t.mw with mem := some (op, 4), memErr := some false })
  else
    let w := m.threadWrite l key addr (BitVec.ofNat 64 b)
    (w.1, if w.2.2 then w.2.1.memFails key t x op else w.2.1.memDone key t x op)

/-- A job pushed into the IJ of a cluster (R283): whether it was accepted. -/
def Mod.pushJob (m : Mod) (c h : Nat) (desc : BitVec 128) : Bool × Mod :=
  if (m.cl c).queueFull 2 then (false, m.bump (engCtr c 8))
  else (true, m.setCl c ((m.cl c).push 2 { desc := desc, hedge := h, kind := .push }))

/-- An operation in the QUEUE space (R264, R283): a push, held in a commit section, or a read of a fill. -/
def Mod.queueOp (m : Mod) (key : Nat) (t : Thread) (x : MemArgs) (op addr a b : Nat) : Mod :=
  let desc := BitVec.ofNat 128 (a * 2 ^ 64 + b)
  let y := { t.mw with mem := some (op, 5), memErr := some false, qOk := some true }
  if op = 10 ∧ addr % 16 = 0 ∧ addr < 0x40 then
    if m.holds key t then m.hold key t (.push (addr / 16) desc) y
    else
      let r := m.pushJob (addr / 16) t.job.hedge desc
      r.2.setMicro key t { y with qOk := some r.1 }
  else if op = 4 ∧ addr % 8 = 0 ∧ 0x100 ≤ addr ∧ addr < 0x120 then
    m.memData key t x op ((m.cl (key / 768)).queue ((addr - 0x100) / 8)).length
  else m.memFails key t x op

/-! ### The memory part of a microword -/

/-- The memory operation of a microword (R263 to R266), by its MEM code: its address is the MAD source, its data the ALU results of the
microword. An address that is not aligned is a job fault (R262). -/
def Mod.memPart (m : Mod) (l : BitVec 5) (c : Instr) (x : MemArgs) (op : Nat) : BitVec 5 × Mod :=
  let key := threadKey x.t
  m.issueLocks l c fun t =>
    let s := m.source key t x.imm x.mad.val
    let addr := s.1.toNat
    if addr % memWidth op ≠ 0 then (l, s.2.jobFault key 3)
    else
      let b := if op < 6 then (0, s.2) else s.2.resultOf t.mw.resB
      let a := if op = 10 ∨ op = 13 then b.2.resultOf t.mw.resA else (0, b.2)
      let m := a.2.epcThread key t (16 + x.msp.val)
      let va := a.1.toNat
      let vb := b.1.toNat
      match x.msp.val with
      | 0 => (l, m.localOp key t x op addr va vb)
      | 1 => (l, m.sharedOp key t x op addr va vb)
      | 2 => (l, m.tableOp key t x op addr)
      | 3 => (l, m.sdramOp key t x op addr va vb)
      | 4 => m.regOp l key t x op addr vb
      | _ => (l, m.queueOp key t x op addr va vb)

/-- READ_RETURN (R265): the data of a thread's outstanding read are in its pair, zero-extended, and RD_READY is set. -/
def Mod.readReturn (m : Mod) (key : Nat) : Mod :=
  match m.thread key with
  | none => m
  | some t =>
    match t.read with
    | some r =>
      match r.data with
      | some v =>
        if t.mw.reads then m
        else
          let blocked := t.waiting || !(m.ready key t)
          let put (m : Mod) (t : Thread) : Mod := if blocked then m.joinReady key t else m.setThread key t
          put m { t with rd0 := BitVec.ofNat 64 v, rd1 := if r.width = 16 then BitVec.ofNat 64 (v / 2 ^ 64) else 0,
                                   rdReady := true, memErr := t.memErr || r.failed, read := none, waiting := false }
      | none => m
    | none => m

/-! ### Header-buffer words that fail their check -/

/-- An ALU part whose sources name a header-buffer word that fails its check restarts its job (R440). -/
def Mod.aluRow (m : Mod) (c : Instr) (x : AluArgs) (op : AluIn → AluOut) : Mod :=
  let names (code : Nat) : Bool := decide (32 ≤ code) && decide (code < 48)
  if x.bad && (names x.srcA.val || names x.srcB.val) && (m.issuing c).isSome then
    m.engineRestarts x.t.cluster.val x.t.engine.val (· == threadKey x.t)
  else m.alu c x op

/-! ### The end of a job -/

/-- A held operation takes effect as its section is released (R261). -/
def Mod.release (s : BitVec 5 × Mod) (key h : Nat) (o : HeldOp) : BitVec 5 × Mod :=
  match o with
  | .store 1 addr n data => (s.1, s.2.setCl (key / 768) ((s.2.cl (key / 768)).sharedWrite addr (toBytes n data)))
  | .store _ addr n data => (s.1, s.2.drmStore (.thread key) h addr (toBytes n data))
  | .atomic _ addr op a b => (s.1, s.2.sharedDo (key / 768) op addr a.toNat b.toNat)
  | .regWrite off v =>
    let w := s.2.threadWrite s.1 key off v
    (w.1, if w.2.2 then w.2.1.bump (engCtr (key / 768) 14) else w.2.1)
  | .push c desc => (s.1, (s.2.pushJob c h desc).2)
  | .qop op p => (s.1, s.2.qopDo key op p)

/-- Every held store to SDRAM finds room in the write queue; END waits for it otherwise (R316). -/
def Mod.releasable (m : Mod) (t : Thread) : Bool :=
  t.held.all fun o => match o with
    | .store 3 addr _ _ => m.writeRoom addr
    | _ => true

/-- END (R259 to R261): the microword completes, its section is released in issue order as one unit, and the job ends once the fence of FEN
is satisfied. -/
def Mod.endPart (m : Mod) (l : BitVec 5) (x : SeqArgs) : BitVec 5 × Mod :=
  let key := threadKey x.t
  m.issueLocks l (.seqEnd x) fun t =>
    if m.releasable t = false then (l, m)
    else
      let r := m.completed key t
      let m := r.2.setThread key { r.1 with held := [], inCommit := false, ending := some x.fen.val }
      let d := t.held.foldl (fun s o => Mod.release s key t.job.hedge o) (l, m)
      (d.1, d.2.settleEnds)

/-! ### The load of an exchange -/

/-- The EM component at an address of SDRAM given in 4 KiB units. -/
def Mod.emAt (m : Mod) (base : Nat) : List Byte :=
  memRead m.drm.mem (base * 4096) (512 + compBodyLen (memRead m.drm.mem (base * 4096) 512))

/-- A row group of cluster c's control store is loaded from CUR_BASE (R290, R447). -/
def Mod.groupLoaded (m : Mod) (c group : Nat) : Mod :=
  let k := m.cl c
  let comp := m.emAt (m.get ENG_XCHG_STATUS_CUR_BASE c)
  let words := (List.range 256).map fun i => (256 * group + i, (Config.emWord comp (256 * group + i)).toNat)
  m.setCl c { k with store := words.foldl (fun l e => store l e.1 e.2) k.store }

/-- A graft has ended: of a control-store row group, the spare has been loaded from CUR_BASE (R447). -/
def Mod.graftLoads (m : Mod) (was : Option Graft) : Mod :=
  match was with
  | some g => if g.cls = 5 ∧ g.loc % 256 < 128 ∧ m.int.graft.isNone then m.groupLoaded (g.loc / 256 % 4) (g.loc % 256) else m
  | none => m

/-- CONTROL_STORE_RELOAD_DONE (R290, R437): the row group is read again from CUR_BASE, and its threads issue. Groups 0 to 127 hold the control
store, group 128 its dispatch table. -/
def Mod.storeReloaded (m : Mod) (c group : Nat) : Mod :=
  let k := m.cl c
  if k.reloading.contains group = false then m
  else
    let comp := m.emAt (m.get ENG_XCHG_STATUS_CUR_BASE c)
    let m := m.setCl c { k with reloading := eraseNat k.reloading group }
    let m := if group < 128 then m.groupLoaded c group else m
    if group ≠ 128 then m else (List.range 256).foldl (fun m i => m.wr .ENG_DISPATCH (256 * c + i) (Config.emDispatch comp i)) m

/-- A cluster's control store and dispatch table as an EM component gives them: the format of its body is not stated. -/
def Cluster.loadedFrom (k : Cluster) (comp : List Byte) (good : Bool) : Cluster :=
  { k with store := (List.range 32768).map fun a => (a, (Config.emWord comp a).toNat),
           table := (List.range 256).map fun i => (Config.emDispatch comp i).toNat, loaded := some good }

/-- A dispatch entry lies within its region (R287): of opcodes 0xC0 to 0xFF in the integrator's, of all others in the standard one. -/
def dispatchFits (op : Nat) (e : Word) : Bool := !(e.getMsbD 0) || (decide (0xC0 ≤ op) == decide (0x6000 ≤ e.toNat % 2 ^ 15))

/-- The checks of R289 step 3 on an EM component, as a RESULT code: 1 check bits, 2 the CRC-64 of its body, 4 a dispatch entry outside its
region, 0 none. The lowest is given where several fail (DESIGN CHOICE, log 64). -/
def emFault (comp : List Byte) : Nat :=
  if ((List.range 32768).all (Config.emChecks comp)) = false then 1
  else if carryCheck (compBody comp) ≠ fieldAt comp 36 8 then 2
  else if ((List.range 256).all fun op => dispatchFits op (Config.emDispatch comp op)) = false then 4
  else 0

/-- The RESULT of a load from an address of SDRAM in 4 KiB units: what the checks find, a granule that fails its reads (3), or else what the
load itself met. -/
def Mod.loadResult (m : Mod) (base : Nat) (met : Option Nat) : Nat :=
  let comp := m.emAt base
  if emFault comp ≠ 0 then emFault comp
  else if m.int.badGranules.any fun g => decide (base * 64 ≤ g) && decide (g < base * 64 + ceilDiv comp.length 64) then 3
  else (met.map (· + 1)).getD 0

/-- EXCHANGE_LOAD_DONE (R289 step 3, R290): the load of a cluster has passed its checks, or failed with its RESULT, and the image in use
has been loaded again. -/
def Mod.exchangeLoadDone (m : Mod) (c : Nat) (why : Option Nat) : Mod :=
  match (m.cl c).quiesce with
  | some (.exchange base) =>
    if m.get ENG_XCHG_STATUS_PHASE c ≠ 2 ∨ (m.cl c).loaded.isSome then m
    else
      let w := m.loadResult base why
      if w = 0 then (m.setCl c ((m.cl c).loadedFrom (m.emAt base) true)).set ENG_XCHG_STATUS_RESULT c 0
      else
        let m := m.setCl c ((m.cl c).loadedFrom (m.emAt (m.get ENG_XCHG_STATUS_CUR_BASE c)) false)
        (m.set ENG_XCHG_STATUS_RESULT c w).engEvent c 0x05 w
  | _ => m

end Sys2Proof.Machine
end

