-- ==== Sys2Proof/Machine/Topiary.lean ====
section
/-! DEFINITION. Applying a Topiary image: whole at start-up step 8, part by part in an update, and the section of a Hedge in a RELOAD
reset (Start-up and the Topiary Image; Hedges and Gaps; Updating Firmware, Microcode and Configuration). -/

namespace Sys2Proof.Machine

/-! ### One record -/

/-- An entry of a table as a TABLE record writes it (R397); of an FDB entry the INSERT. -/
def Mod.tableWrite (m : Mod) (code i e : Nat) : Mod :=
  let w (k : Nat) : Word := BitVec.ofNat 64 (e / 2 ^ (64 * k))
  if 0x10 ≤ code ∧ code ≤ 0x1C then m.setTbl (code - 0x10) i (e &&& tblMask (code - 0x10))
  else match code with
    | 0x20 => (m.fdbInsert ((2 ^ 127 ||| e) &&& fdbMask)).2
    | 0x30 => m.trieWrite (trieKey 0 (i / 65536) (i % 65536)) (BitVec.ofNat 64 (e / 2 ^ 21 * 2 ^ 21))
    | 0x31 => m.trieWrite (trieKey 1 (i / 256) (i % 256)) (BitVec.ofNat 64 (e / 2 ^ 21 * 2 ^ 21))
    | 0x32 => m.assocWrite i (BitVec.ofNat 64 ((w 0).toNat / 2 ^ 32 * 2 ^ 32), w 1, w 2)
    | 0x40 =>
      m.putRule (i / 2048) (i % 2048)
        { key := e % 2 ^ 640, mask := e / 2 ^ 640 % 2 ^ 640, act := BitVec.ofNat 64 ((w 20).toNat % 2 ^ 16), valid := true }
    | 0x50 => m.setNode i (e &&& nodeMask)
    | 0x51 => m.setTransition i (e % 2 ^ 64 / 2 ^ 16 * 2 ^ 16)
    | 0x60 => m.putGate (i / 2048) (i / 1024 % 2) (i % 1024) (w 0)
    | 0x70 => m.setPolicer i (e &&& policerMask)
    | 0x71 => m.setShaper i (w 0).toNat
    | 0x80 =>
      m.withBuf { m.buf with templates := storeUnless (List.replicate 13 0) m.buf.templates i
                                            ((List.range 12).map w ++ [BitVec.ofNat 64 ((w 12).toNat / 2 ^ 13 * 2 ^ 13)]) }
    | _ => m

/-- Registers that a REG record gives no value of their own: the locks, written last (R392), and the unlock register. -/
def imageSkips (r : Reg) : Bool := r == .GLB_LOCK || r == .GLB_UNLOCK

/-- The fields of a register that a REG record writes: those a write can change, but for fields whose LOCK is set (R363). -/
def imageFields (locks : BitVec 5) (r : Reg) : List FieldSpec :=
  let locked := (lockGroup r).any fun g => locks.getLsbD g
  r.spec.fields.filter fun f => f.acc != .ro && f.acc != .sqc && !(locked && f.acc == .rwl)

/-- A register write made at once (R392): its tick-staged fields bypass the staging buffer. Whether the block accepted it. -/
def Mod.writeAtOnce (m : Mod) (locks : BitVec 5) (r : Reg) (i : Nat) (v : Word) : Bool × Mod :=
  let t := m.tick
  let old := m.rd r i
  let a := (m.withTick { t with now := [], next := [], nowLost := false, nextLost := false }).blockWrite locks
    { p := .sup, r := r, i := i, v := v, fields := imageFields locks r } none
  let l := a.2.tick.now ++ a.2.tick.next
  let m := a.2.withTick { a.2.tick with now := t.now, next := t.next, nowLost := t.nowLost, nextLost := t.nextLost }
  let m := l.foldl Mod.applyStaged m
  (a.1, if l.isEmpty then m else m.committed r i old)

/-- A REG record's value for one offset: at start-up the tick period and the seeds take effect as well (R392, R102, R129). -/
def Mod.imageReg (m : Mod) (locks : BitVec 5) (start : Bool) (off : Nat) (v : Word) : Bool × Mod :=
  match regAt 18 off with
  | none => (true, m)
  | some (r, i) =>
    if imageSkips r then (true, m)
    else if start && r == .GLB_TICK_CFG then
      let m := m.set GLB_TICK_CFG_PERIOD 0 (GLB_TICK_CFG_PERIOD.of v)
      (true, m.withTick { m.tick with boundary := boundaryAfter m.time.net m.period, periodPend := none })
    else if start && (r == .FDB_CFG || r == .LPM_CFG) then (true, m.wr r i v)
    else m.writeAtOnce locks r i v

/-- A record applied; a register that its block refuses marks the update's step (R424). -/
def Mod.imageRec (m : Mod) (locks : BitVec 5) (start : Bool) (x : Rec) : Mod :=
  match x with
  | .reg s vs =>
    (regWrites s vs).foldl (fun m e =>
      let a := m.imageReg locks start e.1 e.2
      if a.1 then a.2 else a.2.withUpd { a.2.upd with applyBad := true }) m
  | .table code s es => (List.range es.length).foldl (fun m k => m.tableWrite code (s + k) (es.getD k 0)) m
  | .shared mask s ws =>
    (List.range 4).foldl (fun m c =>
      if mask.testBit c then
        (List.range ws.length).foldl (fun m k => m.setCl c ((m.cl c).sharedWrite (s + 8 * k) (toBytes 8 (ws.getD k 0).toNat))) m
      else m) m

/-- The table of R397 and the index there of an entry of a table of R461; none for the FDB, whose records name no location. -/
def imagePlace (code i : Nat) : Option (Nat × Nat) :=
  if code < 13 then some (0x10 + code, i)
  else match code with
    | 14 => some (0x30, i)
    | 15 => some (0x31, i - 4194304)
    | 16 => some (0x32, i)
    | 17 => some (0x40, i)
    | 18 => if i < 64 then some (0x50, i) else some (0x51, i - 64)
    | 19 => some (0x70, i)
    | 20 => some (0x71, i)
    | 21 => some (0x60, i)
    | 22 => some (0x80, i)
    | _ => none

/-- TABLE_RESTORE (R438): the supervisor writes an invalidated entry again, from the running image where one of its records wrote it. Of an
FDB location or a route, entry is what the image's address or the route service holds. What neither holds stays invalid and is reported. -/
def Mod.tableRestore (m : Mod) (code i : Nat) (entry : Option (List Word)) : Mod :=
  if m.flag GLB_STATUS_HEADLESS || !(m.int.invalid.contains (code, i)) then m
  else
    let h := lookupD m.int.invalidHedge (2 ^ 32 * code + i) 0
    let m := m.withInt { m.int with invalid := m.int.invalid.erase (code, i), invalidHedge := remove m.int.invalidHedge (2 ^ 32 * code + i) }
    match (imagePlace code i).bind fun e => (m.imageEntry e.1 e.2).map fun v => (e.1, e.2, v) with
    | some e => m.tableWrite e.1 e.2.1 e.2.2
    | none =>
      match if 13 ≤ code ∧ code ≤ 16 then entry else none with
      | some l => m.entryRestored code i l
      | none => (m.bump (intCtr 65)).intEvent 0x02 i 0 code [0, h]

/-- The value that records write to GLB_LOCK. -/
def imageLocks (rs : List Rec) : BitVec 5 :=
  rs.foldl (fun a x => match x with
    | .reg s vs => (regWrites s vs).foldl (fun a e => if e.1 = Reg.addr .GLB_LOCK then BitVec.ofNat 5 e.2.toNat else a) a
    | _ => a) 0

/-! ### What an image leaves besides its records -/

/-- The header's fields in TOP_INFO, TOP_ORIGIN and TOP_DIGEST. -/
def Mod.topShown (m : Mod) (l : List Byte) (ss : List Section) : Mod :=
  let m := (m.set TOP_INFO_FORMAT 0 (imgFormat l)).set TOP_INFO_SRC_FORMAT 0 (imgSrcFormat l)
  let m := (m.set TOP_ORIGIN_SANAROV 0 (fieldAt l 8 4)).set TOP_ORIGIN_KEY_SLOT 0 (imgKeySlot l)
  let m := (m.set TOP_ORIGIN_BOUND 0 (b01 (imgBound l))).set TOP_ORIGIN_MIGRATED 0 (b01 (imgMigrated l))
  m.wr .TOP_DIGEST 0 (imgDigest ss)

/-- The keys of an image in force, and their identifiers (R407). -/
def Mod.keysShown_ (m : Mod) (ss : List Section) : Mod :=
  match ss.find? (·.type == 6) with
  | none => m
  | some s =>
    let ks := keysOf s.body
    let m := m.withDmp { m.dmp with keys := ks }
    let id (k : Nat) : Nat := ((ks[k]?).map (·.1)).getD 0
    let m := (m.set DMP_KEYS_KEY_ID0 0 (id 0)).set DMP_KEYS_KEY_ID1 0 (id 1)
    (m.set DMP_KEYS_VALID0 0 (b01 (id 0 != 0))).set DMP_KEYS_VALID1 0 (b01 (id 1 != 0))

/-- The copy in SDRAM that a RELOAD and the scrubber read (R392); none is kept while no channel works (R390). -/
def Mod.topiaryKept (m : Mod) (l : List Byte) (ss : List Section) : Mod :=
  let c := imgCopy l ss
  if m.get DRM_CH_STATUS_STATE 0 ≠ 0 ∧ m.get DRM_CH_STATUS_STATE 1 ≠ 0 then m
  else (m.drmPost .supervisor 0 topiaryCopy c).withBoot { m.boot with topLen := c.length }

/-- A part's digest replaced and its drift ended: sections that cover it have been applied (R401, R402). -/
def Mod.partShown (m : Mod) (ss : List Section) (i : Nat) : Mod :=
  let m := m.wr .GLB_CFG_DIGEST i (partDigest ss i)
  m.set CFG_DRIFT_DRIFT 0 (bits (m.get CFG_DRIFT_DRIFT) 16 (i + 1) * 2 ^ (i + 1) + m.get CFG_DRIFT_DRIFT % 2 ^ i)

/-- An image applied whole at start-up (R392): its records in order and at once, the locks last, then its digests and its copy. -/
def Mod.applyImage (m : Mod) (locks : BitVec 5) (l : List Byte) : BitVec 5 × Mod :=
  let rs := (imgChecked l).getD []
  let ss := rs.map (·.1)
  let all_ := (rs.map (·.2)).flatten
  let m := all_.foldl (fun m x => m.imageRec locks true x) m
  let m := ((m.topShown l ss).keysShown_ ss).topiaryKept l ss
  (locks ||| imageLocks all_, (List.range 17).foldl (fun m i => m.partShown ss i) m)

/-! ### RELOAD (R350) -/

/-- The sections of the copy in SDRAM with their records, none where it does not read as an image. -/
def Mod.copySections (m : Mod) : List (Section × List Rec) :=
  if m.boot.topLen = 0 then [] else (imgChecked (memRead m.drm.mem topiaryCopy m.boot.topLen)).getD []

/-- One write of a section: a register, or a table entry. -/
inductive Item where
  | reg (off : Nat) (v : Word)
  | entry (code i e : Nat)
  deriving DecidableEq, Repr

/-- The writes that a list of records makes, in order. -/
def itemsOf (rs : List Rec) : List Item :=
  (rs.map fun x => match x with
    | .reg s vs => (regWrites s vs).map fun e => Item.reg e.1 e.2
    | .table code s es => (List.range es.length).map fun k => Item.entry code (s + k) (es.getD k 0)
    | .shared _ _ _ => []).flatten

/-- A static FDB entry, which a RELOAD inserts last. -/
def Item.isInsert : Item → Bool
  | .entry code _ _ => code == 0x20
  | .reg _ _ => false

/-- Staging entries that an item takes (R28). -/
def Item.cost : Item → Nat
  | .reg off _ => match regAt 18 off with
    | some (r, _) => (rwtFields r).length
    | none => 0
  | .entry code _ _ => if code = 0x70 then 2 else if code = 0x71 then 1 else 0

/-- An item applied. -/
def Mod.item (m : Mod) (locks : BitVec 5) : Item → Mod
  | .reg off v => (m.imageReg locks false off v).2
  | .entry code i e => m.tableWrite code i e

/-- How many items from the front of a list fit into so many staging entries. -/
def itemsFit : List Item → Nat → Nat
  | [], _ => 0
  | x :: t, room => if room < x.cost then 0 else 1 + itemsFit t (room - x.cost)

/-- One commit of the RELOAD of Hedge h (R350): as many items as its tick's staging entries left free, and, once all are in force, the
static FDB entries and the end of the reset. -/
def Mod.reloadPart (m : Mod) (locks : BitVec 5) (r : HedgeReset) (room : Nat) : Mod :=
  let ss := m.copySections
  let items := itemsOf (partRecords ss (1 + r.hedge))
  let plain := items.filter fun x => !x.isInsert
  let rest := plain.drop r.doneItems
  let n := itemsFit rest room
  let m := (rest.take n).foldl (fun m x => m.item locks x) m
  if n < rest.length then
    m.withHdg { m.hdg with resets := m.hdg.resets.map fun x => if x.hedge = r.hedge then { x with doneItems := r.doneItems + n } else x }
  else
    let m := (items.filter (·.isInsert)).foldl (fun m x => m.item locks x) m
    (if ss.isEmpty then m else m.partShown (ss.map (·.1)) (1 + r.hedge)).hedgeActive r.hedge true

/-- Every RELOAD whose section is being staged, at a commit that left so many staging entries free. -/
def Mod.reloadCommit (m : Mod) (locks : BitVec 5) (room : Nat) : Mod :=
  (m.hdg.resets.filter (·.phase == .reload)).foldl (fun m r => m.reloadPart locks r room) m

/-! ### The commits of a TC step (R426) -/

/-- A part of a new image committed: its tables first, in image order, then its registers. -/
def Mod.partApplied (m : Mod) (locks : BitVec 5) (rs : List (Section × List Rec)) (i : Nat) : BitVec 5 × Mod :=
  let l := partRecords rs i
  let isReg (x : Rec) : Bool := match x with
    | .reg _ _ => true
    | _ => false
  let m := ((l.filter fun x => !(isReg x)) ++ l.filter isReg).foldl (fun m x => m.imageRec locks false x) m
  let m := if i = 0 then m.keysShown_ (rs.map (·.1)) else m
  (if i = 0 then locks ||| imageLocks l else locks, m.partShown (rs.map (·.1)) i)

/-- A tick commit in a TC step (R426): one part; with none left, the exchange or the fallback is complete. A Hedge that is resetting is
waited for, and one that needs more than 2,048 staging entries takes a RELOAD reset from the new copy. -/
def Mod.tcCommit (m : Mod) (locks : BitVec 5) : BitVec 5 × Mod :=
  match m.upd.tc with
  | none => (locks, m)
  | some w =>
    let rs := (imgChecked w.image).getD []
    let ss := rs.map (·.1)
    let left (m : Mod) (l : List Nat) : Mod := m.withUpd { m.upd with tc := some { w with parts := l } }
    if m.flag GLB_STATUS_HEADLESS then (locks, m)
    else match w.parts with
      | [] =>
        let m := ((m.topShown w.image ss).topiaryKept w.image ss)
        let m := m.withUpd { m.upd with tc := none }
        (locks, if m.updState = 8 then m.fallbackEnds else m.windowOpens)
      | i :: t =>
        if i ≠ 0 ∧ m.hdg.resets.any (·.hedge == i - 1) then (locks, m)
        else if i ≠ 0 ∧ 2048 < partStaging (partRecords rs i) then (locks, left ((m.topiaryKept w.image ss).hedgeReset (i - 1) true) t)
        else
          let a := m.partApplied locks rs i
          (a.1, left a.2 t)

end Sys2Proof.Machine
end

