-- ==== Sys2Proof/Machine/Tick.lean ====
section
/-! DEFINITION. The tick commit (The Tick, Staged Commits and Fences): what the module does 16 ns after each tick boundary. -/

namespace Sys2Proof.Machine

/-- What the latest commit made due, and no command has done yet, is done before the next one (R276, R279). -/
def Mod.finishDue (m : Mod) : Mod :=
  let m := m.tick.jobsDue.foldl Mod.tickJobDue m
  m.tick.timersDue.foldl Mod.timerExpiry m

/-- A period that waits for a whole second which the boundary has reached (R26). -/
def Mod.periodReached (m : Mod) : Mod :=
  match m.tick.periodPend with
  | some (_, due) => if due ≤ m.tick.boundary then m.periodChange else m
  | none => m

/-- The tick number and the commit count at a boundary (R25, R27), and the tick numbers that a step has skipped. -/
def Mod.countTick (m : Mod) : Mod :=
  let n := m.tick.boundary / (m.period * unitsPerNs) % 2 ^ 64
  let old := m.tickNum
  let m := m.withTick { m.tick with skipped := if m.tick.stepTick ∧ old + 1 < n then some (old + 1, n) else none }
  (m.wr .GLB_TICK_NUM 0 (BitVec.ofNat 64 n)).wr .GLB_COMMIT_SEQ 0 (m.rd .GLB_COMMIT_SEQ + 1)

/-- The next boundary: after a step, from the stepped time, and not within half a period of the commit (R27). -/
def Mod.nextBoundary (m : Mod) (stepped : Bool) : Mod :=
  let per := m.period * unitsPerNs
  let b := boundaryAfter m.time.net m.period
  if stepped then
    let m := (m.withTick { m.tick with boundary := if 2 * (b - m.time.net) < per then b + per else b, stepTick := true }).sqc
      GLB_TICK_STATUS_STEP_TICK
    m.withTick { m.tick with periodPend := m.tick.periodPend.map fun x => (x.1, m.nextSecond) }
  else m.withTick { m.tick with boundary := b, stepTick := false }

/-- The tick fence completes (R39). -/
def Mod.tickFenceDone (m : Mod) : Mod :=
  if m.flag GLB_TICK_FENCE_BUSY then
    ((m.set GLB_TICK_FENCE_TOKEN 0 m.tick.fenceTok).set GLB_TICK_FENCE_BUSY 0 0).pfCause 16
  else m

/-- The shed level after a tick (R35): it rises after an overrun and falls after 16 ticks without one. -/
def Mod.shedUpdate (m : Mod) : Mod :=
  let level := m.get GLB_TICK_CFG_SHED_LEVEL
  let move (m : Mod) (new : Nat) : Mod := (m.set GLB_TICK_CFG_SHED_LEVEL 0 new).event (glbEv 0x07 new)
  if m.tick.overrun then
    let m := m.withTick { m.tick with overrun := false, clean := 0 }
    if level < 5 then move m (level + 1) else m
  else if 15 ≤ m.tick.clean then
    let m := m.withTick { m.tick with clean := 0 }
    if 0 < level then move m (level - 1) else m
  else m.withTick { m.tick with clean := m.tick.clean + 1 }

/-- Staging entries that the tick's set leaves free for a RELOAD (R350); none where the set was lost (R30). -/
def Mod.stageRoom (m : Mod) : Nat := if m.tick.nowLost then 0 else stageDepth - stagedSize m.tick.now

/-- The supervisor copies the valid tick-job entries of a cluster that has gone OFFLINE or LOST into free entries of its REHOME cluster (R291), at
the commit that finds it so (DEDUCED, log 75). -/
def Mod.entriesMove (m : Mod) (locks : BitVec 5) (c : Nat) : Mod :=
  let dest := m.get ENG_CLUSTER_CTL_REHOME c
  let st := m.get ENG_CLUSTER_STATUS_STATE c
  if (m.cl c).entriesMoved || !(st == 3 || st == 4) || m.flag GLB_STATUS_HEADLESS || m.get ENG_CLUSTER_STATUS_STATE dest != 0 then m
  else
    let valid := (List.range 256).filter fun e => m.flag ENG_TICKJOB0_VALID (256 * c + e)
    let free := (List.range 256).filter fun e => !(m.flag ENG_TICKJOB0_VALID (256 * dest + e))
    let put (r : Reg) (m : Mod) (x : Nat × Nat) : Mod :=
      (m.fabricWrite locks .sup (r.addr (256 * dest + x.2)) 8 (m.rd r (256 * c + x.1)) none none).m
    (valid.zip free).foldl (fun m x => put .ENG_TICKJOB0 (put .ENG_TICKJOB1 m x) x) (m.setCl c { m.cl c with entriesMoved := true })

/-- TICK_COMMIT (R25 to R31, R35, R39): the current tick's boundary is reached and, 16 ns later, the module commits. -/
def Mod.tickCommit (m : Mod) (locks : BitVec 5) : BitVec 5 × Mod :=
  let m := m.finishDue.periodReached
  let m := ((m.advanceNet m.tick.boundary).trigTick.boundaryOverruns.cyclesStart).advance 16
  let m := m.countTick
  let room := m.stageRoom
  let m := (List.range 4).foldl Mod.quiesceCommit m
  let m := m.commitStaged
  let a := m.applyAdj
  let m := a.2.nextBoundary a.1
  let m := m.tickFenceDone.shedUpdate.excRefill
  let m := (List.range 4).foldl (fun m c => m.entriesMove locks c) ((m.reloadCommit locks room).resetCommit)
  let m := m.withTick { m.tick with jobsDue := [0, 1, 2, 3], timersDue := [0, 1, 2, 3] }
  m.tcCommit locks

/-- TICK_JOB_DUE (R276): the due tick entries of every cluster. -/
def Mod.tickJobsDue (m : Mod) : Mod := (List.range 4).foldl Mod.tickJobDue m

end Sys2Proof.Machine
end

