-- ==== Sys2Proof/Machine/ExecAccess.lean ====
section
/-! DEFINITION. Register writes, locks, keys, JTAG and the tick (R5, R25 to R40, R358 to R369, R504). -/

namespace Sys2Proof.Machine

/-- The instruction the TAP holds (R504): one that takes control of pins is accepted only while RESET_N is held low, and otherwise BYPASS is
loaded in its place. -/
def Mod.tapLoads (m : Mod) (pinControl resetLow : Bool) (code : BitVec 8) : Mod :=
  m.withPin { m.pin with tap := if pinControl && !resetLow then none else some code }

/-- REGISTER_WRITE (R5): A write to a register that has no row of its own takes effect according to the access code of each field. -/
def execRegisterWrite (p : Path) (off : Nat) (len : Nat) (v : Word) (s : State) : Host.Outcome State Fault Refusal :=
  s.write p off len v none

/-- SEQUENCE_CLEAR (R369): A clear write to an SQC register clears the marked fields only when it carries the current SEQ. -/
def execSequenceClear (p : Path) (off : Nat) (v : Word) (s : State) : Host.Outcome State Fault Refusal := s.write p off 8 v none

/-- UNLOCK (R367): A write to GLB_UNLOCK arms the writing path for one key-guarded group, or disarms it. -/
def execUnlock (p : Path) (group : BitVec 4) (key : BitVec 16) (s : State) : Host.Outcome State Fault Refusal :=
  s.put p .GLB_UNLOCK 0 (GLB_UNLOCK_KEY.put (GLB_UNLOCK_GROUP.put 0 group.toNat) key.toNat) none

/-- LOCK (R363): A write of 1 to a GLB_LOCK bit locks that reset-locked group until a power-on or device reset. -/
def execLock (p : Path) (bits : BitVec 5) (s : State) : Host.Outcome State Fault Refusal :=
  s.put p .GLB_LOCK 0 (GLB_LOCK_LOCK.put 0 bits.toNat) none

/-- JTAG_LOW_WRITE (R361): A JTAG low-half write is held in the path's holding word. -/
def execJtagLowWrite (v : BitVec 32) (s : State) : Host.Outcome State Fault Refusal := s.act (·.jtagLow v)

/-- JTAG_HIGH_WRITE (R361): A JTAG high-half write applies all 64 bits together with the held low half. -/
def execJtagHighWrite (off : Nat) (v : BitVec 32) (s : State) : Host.Outcome State Fault Refusal :=
  s.actLocks fun l m => (m.jtagHigh l off v).pair

/-- JTAG_INSTRUCTION (R504): The TAP loads an instruction; a pin-controlling instruction is accepted only while RESET_N is low. -/
def execJtagInstruction (pinControl resetLow : Bool) (code : BitVec 8) (s : State) : Host.Outcome State Fault Refusal :=
  s.act (·.tapLoads pinControl resetLow code)

/-- TICK_COMMIT (R29): At each tick boundary the staged writes of the tick commit together, and the tick number advances. -/
def execTickCommit (s : State) : Host.Outcome State Fault Refusal := s.actLocks fun l m => m.tickCommit l

/-- TICK_PERIOD_WRITE (R26): A write to GLB_TICK_CFG.PERIOD is held pending for the next whole second, or is refused while schedules run. -/
def execTickPeriodWrite (p : Path) (period : BitVec 4) (s : State) : Host.Outcome State Fault Refusal :=
  s.put p .GLB_TICK_CFG 0 (s.revised GLB_TICK_CFG_PERIOD 0 period.toNat) none

/-- PERIOD_CHANGE (R26): A pending tick period takes effect at the next whole-second boundary of network time. -/
def execPeriodChange (s : State) : Host.Outcome State Fault Refusal := s.act (·.periodChange)

/-- TICK_JOB_DUE (R276): At a commit, every due tick-job entry enqueues one job to TT, unless the entry is shed or skipped. -/
def execTickJobDue (s : State) : Host.Outcome State Fault Refusal := s.act (·.tickJobsDue)

/-- FENCE (R37): A non-zero token written to GLB_FENCE inserts markers into every ring and job queue. -/
def execFence (p : Path) (token : BitVec 32) (s : State) : Host.Outcome State Fault Refusal :=
  s.put p .GLB_FENCE 0 (GLB_FENCE_TOKEN.put 0 token.toNat) none

/-- FENCE_DONE (R37): Once every earlier accepted write has taken effect, the token is placed in GLB_FENCE_DONE. -/
def execFenceDone (s : State) : Host.Outcome State Fault Refusal := s.act (·.fenceDone)

/-- TICK_FENCE (R39): A token written to GLB_TICK_FENCE sets BUSY until the next commit. -/
def execTickFence (p : Path) (token : BitVec 32) (s : State) : Host.Outcome State Fault Refusal :=
  s.put p .GLB_TICK_FENCE 0 (GLB_TICK_FENCE_TOKEN.put 0 token.toNat) none

end Sys2Proof.Machine
end

