-- ==== Sys2Proof/Machine/ExecAlu.lean ====
section
/-! DEFINITION. The ALU rows of a microword (R253, R256, R257). -/

namespace Sys2Proof.Machine

/-- NOP (R256): The ALU writes nothing and keeps its flags. -/
def execAluNop (x : AluArgs) (s : State) : Host.Outcome State Fault Refusal := s.act (·.aluIdle x)

/-- PASS (R256): The ALU result is the first source a. -/
def execAluPass (x : AluArgs) (s : State) : Host.Outcome State Fault Refusal := s.act (·.aluRow (.aluPass x) x opPass)

/-- ADD (R256): The ALU computes a + b. -/
def execAluAdd (x : AluArgs) (s : State) : Host.Outcome State Fault Refusal := s.act (·.aluRow (.aluAdd x) x opAdd)

/-- SUB (R256): The ALU computes a − b. -/
def execAluSub (x : AluArgs) (s : State) : Host.Outcome State Fault Refusal := s.act (·.aluRow (.aluSub x) x opSub)

/-- AND (R256): The ALU computes a AND b. -/
def execAluAnd (x : AluArgs) (s : State) : Host.Outcome State Fault Refusal := s.act (·.aluRow (.aluAnd x) x opAnd)

/-- OR (R256): The ALU computes a OR b. -/
def execAluOr (x : AluArgs) (s : State) : Host.Outcome State Fault Refusal := s.act (·.aluRow (.aluOr x) x opOr)

/-- XOR (R256): The ALU computes a XOR b. -/
def execAluXor (x : AluArgs) (s : State) : Host.Outcome State Fault Refusal := s.act (·.aluRow (.aluXor x) x opXor)

/-- ANDN (R256): The ALU computes a AND NOT b. -/
def execAluAndn (x : AluArgs) (s : State) : Host.Outcome State Fault Refusal := s.act (·.aluRow (.aluAndn x) x opAndn)

/-- SHL (R256): The ALU shifts a left by b[5:0]. -/
def execAluShl (x : AluArgs) (s : State) : Host.Outcome State Fault Refusal := s.act (·.aluRow (.aluShl x) x opShl)

/-- SHR (R256): The ALU shifts a right logically by b[5:0]. -/
def execAluShr (x : AluArgs) (s : State) : Host.Outcome State Fault Refusal := s.act (·.aluRow (.aluShr x) x opShr)

/-- SAR (R256): The ALU shifts a right arithmetically by b[5:0]. -/
def execAluSar (x : AluArgs) (s : State) : Host.Outcome State Fault Refusal := s.act (·.aluRow (.aluSar x) x opSar)

/-- ROR (R256): The ALU rotates a right by b[5:0]. -/
def execAluRor (x : AluArgs) (s : State) : Host.Outcome State Fault Refusal := s.act (·.aluRow (.aluRor x) x opRor)

/-- EXT (R256): The ALU extracts a bit field of a. -/
def execAluExt (x : AluArgs) (s : State) : Host.Outcome State Fault Refusal := s.act (·.aluRow (.aluExt x) x opExt)

/-- MIN (R256): The ALU computes the unsigned minimum of a and b. -/
def execAluMin (x : AluArgs) (s : State) : Host.Outcome State Fault Refusal := s.act (·.aluRow (.aluMin x) x opMin)

/-- MAX (R256): The ALU computes the unsigned maximum of a and b. -/
def execAluMax (x : AluArgs) (s : State) : Host.Outcome State Fault Refusal := s.act (·.aluRow (.aluMax x) x opMax)

/-- CMP (R256): The ALU sets the flags of a − b without writing a result. -/
def execAluCmp (x : AluArgs) (s : State) : Host.Outcome State Fault Refusal := s.act (·.aluRow (.aluCmp x) x opCmp)

/-- TEST (R256): The ALU sets the flags of a AND b without writing a result. -/
def execAluTest (x : AluArgs) (s : State) : Host.Outcome State Fault Refusal := s.act (·.aluRow (.aluTest x) x opTest)

/-- ADDC (R256): The ALU adds a, b and its own carry flag. -/
def execAluAddc (x : AluArgs) (s : State) : Host.Outcome State Fault Refusal := s.act (·.aluRow (.aluAddc x) x opAddc)

/-- BSWAP (R256): The ALU reverses the octets of a. -/
def execAluBswap (x : AluArgs) (s : State) : Host.Outcome State Fault Refusal := s.act (·.aluRow (.aluBswap x) x opBswap)

/-- POPCNT (R256): The ALU counts the ones in a. -/
def execAluPopcnt (x : AluArgs) (s : State) : Host.Outcome State Fault Refusal := s.act (·.aluRow (.aluPopcnt x) x opPopcnt)

/-- CLZ (R256): The ALU counts the leading zeros of a. -/
def execAluClz (x : AluArgs) (s : State) : Host.Outcome State Fault Refusal := s.act (·.aluRow (.aluClz x) x opClz)

/-- MUL (R256): The ALU multiplies the low 32 bits of a and b, unsigned. -/
def execAluMul (x : AluArgs) (s : State) : Host.Outcome State Fault Refusal := s.act (·.aluRow (.aluMul x) x opMul)

/-- CSUM (R256): The ALU computes a folded ones'-complement sum. -/
def execAluCsum (x : AluArgs) (s : State) : Host.Outcome State Fault Refusal := s.act (·.aluRow (.aluCsum x) x opCsum)

/-- CRC32 (R256): The ALU continues the CRC-32 over the octets of a. -/
def execAluCrc32 (x : AluArgs) (s : State) : Host.Outcome State Fault Refusal := s.act (·.aluRow (.aluCrc32 x) x opCrc32)

/-- SEL (R256): The ALU selects a when the condition holds, otherwise b. -/
def execAluSel (x : AluArgs) (s : State) : Host.Outcome State Fault Refusal := s.act (·.aluRow (.aluSel x) x opSel)

end Sys2Proof.Machine
end

