-- ==== Sys2Proof/Machine/Graph.lean ====
section
/-! DEFINITION. The standard parse graph (R532): its nodes and transitions. The spec says what the graph recognises; where its nodes and
transitions stand is the model's choice (log 67). A node of the inner layer stands 16 above that of the outer layer, so that no cycle leaves
a tag, a label or an extension header out (R72). -/

namespace Sys2Proof.Machine

/-- A header of the standard graph, with the fields of PAR_WIN_W0 that are not zero; a parse ends where no transition matches (R76). -/
structure StdHeader where
  type : Nat
  lenFixed : Nat := 0
  lenOff : Nat := 0
  lenField : Nat := 0
  lenScale : Nat := 0
  selOff : Nat := 0
  selWidth : Nat := 0
  next : Option Nat := none
  deriving DecidableEq, Repr

/-- PAR_WIN_W0 of a header's node (R70). -/
def StdHeader.word (h : StdHeader) : Nat :=
  1 + h.type * 2 ^ 16 + h.lenScale * 2 ^ 20 + h.lenField * 2 ^ 22 + h.lenOff * 2 ^ 24 + h.lenFixed * 2 ^ 30 + h.selWidth * 2 ^ 38 +
    h.selOff * 2 ^ 40 + (match h.next with
      | some n => n * 2 ^ 50
      | none => 2 ^ 49)

/-- The headers that both layers hold, by their places from the layer's first node on: Ethernet, VLAN tag, MPLS label, IPv4, IPv6, IPv6
extension header, authentication header, IPv6 fragment header, UDP, TCP, and ICMP or ICMPv6. -/
def stdLayer : List StdHeader :=
  [{ type := 1, lenFixed := 14, selOff := 12, selWidth := 2 }, { type := 2, lenFixed := 4, selOff := 2, selWidth := 2 },
   { type := 3, lenFixed := 4 }, { type := 4, lenField := 1, lenScale := 2, selOff := 9, selWidth := 1 },
   { type := 5, lenFixed := 40, selOff := 6, selWidth := 1 }] ++
  [{ type := 6, lenFixed := 8, lenOff := 1, lenField := 3, lenScale := 3, selWidth := 1 },
   { type := 6, lenFixed := 8, lenOff := 1, lenField := 3, lenScale := 2, selWidth := 1 }, { type := 7, lenFixed := 8 },
   { type := 8, lenFixed := 8, selOff := 2, selWidth := 2 }, { type := 9, lenOff := 12, lenField := 2, lenScale := 2 },
   { type := 10, lenFixed := 4 }]

/-- The headers of nodes 0 to 31: the outer layer with VXLAN and GRE after it, and the inner layer from node 16 on. -/
def stdHeader (i : Nat) : Option StdHeader :=
  if i = 11 then some { type := 11, lenFixed := 8, next := some 16 }
  else if i = 12 then some { type := 12, selOff := 2, selWidth := 2 }
  else if i < 11 then stdLayer[i]?
  else if 16 ≤ i then stdLayer[i - 16]?
  else none

/-- Word 0 of node i of the standard graph; 0, an invalid node, where it has none. No node extracts a user-defined field. -/
def stdNode (i : Nat) : Nat := ((stdHeader i).map StdHeader.word).getD 0

/-- A transition of the standard graph: the node left, the next one, the selector's value and mask, and MATCH. -/
structure StdEdge where
  from_ : Nat
  next : Nat
  value : Nat := 0
  mask : Nat := 0
  kind : Nat := 0
  deriving DecidableEq, Repr

/-- PAR_WIN_W0 of a transition (R70). -/
def StdEdge.word (e : StdEdge) : Nat :=
  2 ^ 63 + e.from_ * 2 ^ 57 + e.value * 2 ^ 41 + e.mask * 2 ^ 25 + e.next * 2 ^ 19 + e.kind * 2 ^ 16

/-- What follows a node by an EtherType, in the layer that begins at node b: tags by PAR_TPID, MPLS, IPv4 and IPv6. -/
def etherEdges (b n : Nat) : List StdEdge :=
  [⟨n, b + 1, 0, 0, 1⟩, ⟨n, b + 2, 0x8847, 0xFFFF, 0⟩, ⟨n, b + 2, 0x8848, 0xFFFF, 0⟩, ⟨n, b + 3, 0x0800, 0xFFFF, 0⟩,
   ⟨n, b + 4, 0x86DD, 0xFFFF, 0⟩]

/-- What follows a label (R70): the next label, or after the bottom one what its first nibble says. -/
def labelEdges (b : Nat) : List StdEdge :=
  [⟨b + 2, b + 2, 0, 0x100, 0⟩, ⟨b + 2, b + 3, 0x140, 0x1F0, 0⟩, ⟨b + 2, b + 4, 0x160, 0x1F0, 0⟩]

/-- What follows a node by an IP protocol: UDP, TCP, ICMP and ICMPv6, and in the outer layer IPv4, IPv6 and GRE. -/
def protoEdges (b n : Nat) : List StdEdge :=
  [⟨n, b + 8, 17, 0xFF, 0⟩, ⟨n, b + 9, 6, 0xFF, 0⟩, ⟨n, b + 10, 1, 0xFF, 0⟩, ⟨n, b + 10, 58, 0xFF, 0⟩] ++
    if b = 0 then [⟨n, 19, 4, 0xFF, 0⟩, ⟨n, 20, 41, 0xFF, 0⟩, ⟨n, 12, 47, 0xFF, 0⟩] else []

/-- The extension headers that follow a node by a next-header value: 0, 43 and 60; 44; 51. -/
def extEdges (b n : Nat) : List StdEdge :=
  [⟨n, b + 5, 0, 0xFF, 0⟩, ⟨n, b + 5, 43, 0xFF, 0⟩, ⟨n, b + 5, 60, 0xFF, 0⟩, ⟨n, b + 7, 44, 0xFF, 0⟩, ⟨n, b + 6, 51, 0xFF, 0⟩]

/-- The transitions of the layer that begins at node b. -/
def layerEdges (b : Nat) : List StdEdge :=
  etherEdges b b ++ etherEdges b (b + 1) ++ labelEdges b ++ protoEdges b (b + 3) ++
    [4, 5, 6].flatMap fun k => protoEdges b (b + k) ++ extEdges b (b + k)

/-- The transitions of the standard graph: both layers, and the tunnels over UDP (by PAR_UDP_PORTS) and over GRE. -/
def stdEdges : List StdEdge :=
  layerEdges 0 ++ layerEdges 16 ++ [⟨8, 11, 0, 0, 2⟩, ⟨8, 18, 0, 0, 3⟩] ++
    [⟨12, 16, 0x6558, 0xFFFF, 0⟩, ⟨12, 19, 0x0800, 0xFFFF, 0⟩, ⟨12, 20, 0x86DD, 0xFFFF, 0⟩, ⟨12, 18, 0x8847, 0xFFFF, 0⟩]

/-- Transition i of the standard graph; 0, an invalid one, where it has none. -/
def stdTransition (i : Nat) : Nat := ((stdEdges[i]?).map StdEdge.word).getD 0

end Sys2Proof.Machine
end

