-- ==== Sys2Proof/Machine/Boot.lean ====
section
/-! DEFINITION. Starts and resets: the choice of slots, start-up, the supervisor's absence and return, the gasp, trips, core-fatal faults
and the clock domains (Start-up and the Topiary Image; The Module at a Glance; Dual Power Feeds; Faults, Blast Radius and
Availability). -/

namespace Sys2Proof.Machine

/-! ### What a reset keeps (R365, R513) -/

/-- Registers of the power controller and of NVM, which a reset of the die does not clear. -/
def keptRegs : List (Reg × Nat) :=
  [(.PWR_STATUS, 0), (.PWR_FEED, 0), (.PWR_FEED, 1), (.PWR_HEALTH, 0), (.PWR_HEALTH, 1), (.PWR_HOLDUP, 0), (.AGE_TEMP, 0), (.NVM_JOURNAL, 0), (.NVM_WEAR, 0), (.NVM_WEAR, 1)]

/-- The module with the die cleared: the power controller, NVM with its records, the pins, the rows that wait for hard repair and what has
left the module stay. -/
def Mod.cleared (m : Mod) : Mod :=
  let b : Mod :=
    { free := m.free
      evt := { out := m.evt.out }
      pin := { trigIn := m.pin.trigIn, perstN := m.pin.perstN, nvmWpN := m.pin.nvmWpN, bootSel := m.pin.bootSel, slotId := m.pin.slotId,
               refclk := m.pin.refclk }
      int := { recA := m.int.recA, recB := m.int.recB, seqA := m.int.seqA, seqB := m.int.seqB, nvmLost := m.int.nvmLost }
      pwr := { m.pwr with base := m.absNow, down := .no }
      nvm := m.nvm
      drm := { softRepaired := m.drm.softRepaired }
      time := { monitorUp := !(m.boot.domOut.contains 24) }
      upd := { running := m.upd.running.filter (·.1 == 0) }
      boot := { domOut := m.boot.domOut } }
  keptRegs.foldl (fun b e => b.wr e.1 e.2 (m.rd e.1 e.2)) b

/-! ### Slots (R385, R386) -/

/-- The module as the firmware of an SV component judges images: TOP_INFO names the formats it accepts (R399). -/
def Mod.underSv (m : Mod) (sv : List Byte) : Mod :=
  let f := Config.svFormats sv
  (m.set TOP_INFO_SV_CUR 0 f.1.toNat).set TOP_INFO_SV_MIN 0 f.2.toNat

/-- A TC slot's image is migrated before its use (R399): its format is accepted and lies below the newest. -/
def Mod.migrates (m : Mod) (image : List Byte) : Bool :=
  decide (m.get TOP_INFO_SV_MIN ≤ imgFormat image) && decide (imgFormat image < m.get TOP_INFO_SV_CUR)

/-- A migrated image signed with the identity key (R399 step 2). -/
def signedImage (l : List Byte) : List Byte :=
  let l := l.take 56 ++ [0xFF] ++ List.replicate 103 0 ++ List.replicate 96 0 ++ l.drop 256
  l.take 160 ++ (Config.identitySign l).take 96 ++ l.drop 256

/-- A TC component that holds a migrated image, from the source's header (R399, R412 to R414). -/
def migratedComp (source : List Byte) (image : List Byte) : List Byte :=
  let head := source.take 32 ++ toBytes 4 image.length ++ toBytes 8 (carryCheck image) ++ toBytes 48 (Config.sha384 image).toNat ++
    List.replicate 164 0
  let block := [1, 0, 0, 0, 0xFF, 0, 0, 0] ++ (Config.identitySign head).take 96
  head ++ block ++ List.replicate (256 - block.length) 0 ++ image

/-- Why slot s of component n cannot be used (R385), 0 when it can. A migrated image that needs migration is not used: the source is. -/
def Mod.slotReason (m : Mod) (sv : List Byte) (n s : Nat) : Nat :=
  match m.slot n s with
  | none => 1
  | some l =>
    let image := compBody l
    if !(compFormed n l) then 1
    else if m.sigFault l (n == 4 && imgMigrated image) ≠ 0 then 2
    else if !(m.compGood n l) then 1
    else if n ≠ 4 then 0
    else
      let m := m.underSv sv
      if !(m.migrates image) then m.imgFault image
      else if !(m.imgSigned image) then 2
      else if !(imgSerialOk image) then 5
      else if imgMigrated image || !m.pin.nvmWpN || !(m.deviceOk (1 - s)) then 7
      else match Config.migrate image with
        | none => 7
        | some t => if (imgChecked (signedImage t)).isNone then 6 else 0

/-- A choice of slots in progress: the slot of every component that has one, the components moved in this start, the events to raise
(code, component, qualifier), why the first TC slot was not used, and the reason of the last TC slot tried. -/
structure Chosen where
  slots : List (Nat × Nat) := []
  moved : List Nat := []
  events : List (Nat × Nat × Nat) := []
  tcReason : Nat := 0
  tcLast : Nat := 0
  forcedBad : Bool := false
  deriving DecidableEq, Repr

/-- What a choice names for a component. -/
def Mod.chosenComp (m : Mod) (c : Chosen) (n : Nat) : List Byte := ((lookup c.slots n).bind (m.slot n)).getD []

/-- The first slot of a component (R385): by BOOT_SEL, the active slot, slot A, slot B, or the slot not named active. -/
def firstSlot (r : BootRec) (sel n : Nat) : Nat :=
  match sel with
  | 3 => r.slot n
  | 2 => 0
  | 1 => 1
  | _ => 1 - r.slot n

/-- The choice of one component's slot (R385); late is a start that the watchdog abandoned with the SV slot it had (R388). -/
def Mod.chooseSlot (m : Mod) (r : BootRec) (sel : Nat) (late : Bool) (c : Chosen) (n : Nat) : Chosen :=
  let sv := m.chosenComp c 3
  let s := firstSlot r sel n
  let why := m.slotReason sv n s
  if n = 3 ∧ late = true ∧ why = 0 ∧ m.slotReason sv n (1 - s) = 0 then
    { c with slots := store c.slots n (1 - s), moved := n :: c.moved, events := c.events ++ [(2, n, 9)] }
  else if why = 0 then { c with slots := store c.slots n s }
  else
    let c := { c with moved := n :: c.moved, events := c.events ++ [(2, n, why)], tcReason := if n = 4 then why else c.tcReason }
    let c := if sel = 3 then c else { c with forcedBad := true, events := c.events ++ [(3, n, why)] }
    let other := m.slotReason sv n (1 - s)
    let c := if n = 4 then { c with tcLast := if other = 0 then 0 else other } else c
    if other = 0 then { c with slots := store c.slots n (1 - s) } else c

/-- The chosen components with the power controller's. -/
def Mod.chosenSet (m : Mod) (c : Chosen) : List (Nat × List Byte) :=
  ((m.upd.running.filter (·.1 == 0)) ++ c.slots.map fun e => (e.1, (m.slot e.1 e.2).getD []))

/-- The moves that make a choice compatible (R386), at most one of each component; what is still incompatible with SV is absent. -/
def Mod.compatMoves (m : Mod) (c : Chosen) : Nat → Chosen
  | 0 => c
  | fuel + 1 =>
    if setCompatible (m.chosenSet c) then c
    else
      let may (n : Nat) : Bool := match lookup c.slots n with
        | some s => !(c.moved.contains n) && m.slotReason (m.chosenComp c 3) n (1 - s) == 0
        | none => false
      match [4, 3, 2, 1].find? may with
      | some n =>
        m.compatMoves { c with slots := store c.slots n (1 - (lookup c.slots n).getD 0), moved := n :: c.moved,
                               events := c.events ++ [(2, n, 8)], tcReason := if n = 4 then 8 else c.tcReason } fuel
      | none =>
        let sv := m.chosenComp c 3
        let bad (n : Nat) : Bool := n != 3 && (lookup c.slots n).isSome && !(setCompatible [(3, sv), (n, m.chosenComp c n)])
        let gone := [1, 2, 4].filter bad
        { c with slots := c.slots.filter fun e => !(gone.contains e.1), tcLast := if gone.contains 4 then 8 else c.tcLast }

/-- The slots a start uses (R385, R386): SF, EM, SV, then TC by the formats that SV accepts. -/
def Mod.chooseSlots (m : Mod) (r : BootRec) (sel : Nat) (late : Bool) : Chosen :=
  m.compatMoves ([1, 2, 3, 4].foldl (m.chooseSlot r sel late) {}) 5

/-- Step 8 would end later than the watchdog waits (R388): 20 s from die power-on reset, and 8.5 s for each MiB of an image that is migrated, up to
70 s (R384). -/
def Mod.startLate (m : Mod) (c : Chosen) (topiaryMs : Nat) : Bool :=
  let image := compBody (m.chosenComp c 4)
  let write := if (m.underSv (m.chosenComp c 3)).migrates image then Nat.min 70000 (8500 * image.length / 2 ^ 20) else 0
  decide (20000 + write < topiaryMs)

/-- The boot record as a power-on or device reset takes it (R427): a component on trial returns to its previous slot, confirmed; one that
is pending goes on trial. -/
def BootRec.started (r : BootRec) : BootRec :=
  (List.range 5).foldl (fun r n => match r.states.getD n 0 with
    | 2 => r.put n (1 - r.slot n) 0
    | 1 => r.put n (r.slot n) 2
    | _ => r) r

/-! ### Events of start-up -/

/-- A DMP event (R409): its bit of DMP_EVENT, the component or Hedge in detail [15:8] and the qualifier. -/
def Mod.dmpEvent (m : Mod) (code what q : Nat) (high : Nat := 0) : Mod :=
  let f := match code with
    | 1 => DMP_EVENT_SERVICE
    | 5 => DMP_EVENT_SERVICE
    | 7 => DMP_EVENT_AUTH
    | 8 => DMP_EVENT_DRIFT
    | 9 => DMP_EVENT_REFUSED
    | 10 => DMP_EVENT_RESERVED_WRITE
    | _ => DMP_EVENT_BOOT
  (m.sqc f).event { blk := 0x19, code := code, detail := high * 2 ^ 16 + what * 2 ^ 8 + q }

/-! ### Steps 4 and 5: NVM and repairs -/

/-- Half-erased ranges found at step 4 (R429): counted, those of the boot record, the gasp and the floors erased again. -/
def Mod.halfErased (m : Mod) : Mod :=
  let l := m.nvm.half
  let m := m.set NVM_JOURNAL_HALF_ERASED 0 (Nat.min l.length 255)
  let m := l.foldl (fun m e => m.nvmEvent 0x01 (e.1 / 16) e.2) m
  let erase (m : Mod) (purpose sector : Nat) : Mod := (l.filter fun e => e.1 % 16 == purpose).foldl (fun m e => m.erased (e.1 / 16) purpose sector 1) m
  erase (erase (erase m 8 0) 9 4) 10 5

/-- An entry of the graft record takes effect again (R389, R452). -/
def Mod.replayEntry (m : Mod) (e : RecEntry) : Mod :=
  match e.kind, e.cls with
  | 1, 6 =>
    if (lookup m.drm.softRepaired e.loc).isSome then
      (m.bump (drmCtr (e.loc / 2 ^ 24 % 4) 14)).withDrm { m.drm with softRepaired := remove m.drm.softRepaired e.loc }
    else m
  | 1, cls => if cls = 0 then m else m.spareServes { cls := cls, loc := e.loc, spare := e.spare }
  | 2, 0 => m.set PRT_LANE_STATUS_RETIRED (e.loc % 128) 1
  | 2, 1 => m.usableLess e.loc
  | 2, 2 => (m.engineRetires (e.loc / 64) (e.loc % 64)).lowerReserves (e.loc / 64)
  | 2, 6 =>
    let s := 2 * (e.loc / 2 ^ 25 % 2) + e.loc / 2 ^ 24 % 2
    let device := e.loc / 2 ^ 21 % 8
    (m.withDrm { m.drm with erased := (s, device, e.loc % 2 ^ 21) :: m.drm.erased }).set DRM_CH_STATUS_ERASED (s / 2)
      (m.get DRM_CH_STATUS_ERASED (s / 2) ||| 2 ^ (5 * (s % 2) + device))
  | 3, _ => m.set PRT_LANE_STATUS_RETIRED (e.loc % 128) 0
  | 4, 0 => m.lifeTaken 1 (e.loc * 3600 * 2 ^ 32)
  | 4, _ => m.lifeTaken 2 (e.loc * 3600 * 2 ^ 32)
  | 5, i =>
    let past := lookupD m.int.months i []
    m.withInt { m.int with months := store m.int.months i ((signed 16 (e.loc % 65536) :: past).take 24), month := e.loc / 65536 }
  | 6, cls =>
    m.withInt { m.int with bad := insertNat m.int.bad (spareKey cls (e.loc / 16) e.spare) }
  | _, _ => m

/-- At equal SEQ the copy of the record with fewer entries is given those it lacks (R453). -/
def Mod.recordsEqual (m : Mod) : Mod :=
  let l := m.recordInUse
  if m.int.seqA = m.int.seqB then
    m.withInt { m.int with recA := if m.deviceOk 0 then l else m.int.recA, recB := if m.deviceOk 1 then l else m.int.recB }
  else m

/-- Step 5 (R389, R7): the capacity and the life budgets measured, the records applied, unused spares and every memory tested; a unit that fails is grafted or retired at once. -/
def Mod.repairs (m : Mod) (spares : List Nat) (units : List (Nat × Nat)) : Mod :=
  let m := ((m.recordsEqual.usableShown).lifeTaken 1 0).lifeTaken 2 0
  let m := Config.factoryGrafts.foldl (fun m e => m.replayEntry { kind := 1, cls := e.1, spare := e.2.1, loc := e.2.2, tick := 0 }) m
  let m := (m.recordInUse.foldl Mod.replayEntry m).sparesShown
  let m := (m.grfCommand 3 0 0 true spares).2
  units.foldl (fun m u =>
    if unitValid u.1 u.2 = false ∨ u.1 = 6 then m
    else if u.1 = 0 then m.laneRetires u.2
    else match m.spareFor u.1 u.2 with
      | some k => m.graftEnds { cls := u.1, loc := u.2, spare := k }
      | none => m.noSpare u.1 u.2) m

/-! ### Steps 6, 7 and 9 -/

/-- Step 6 (R326 to R328, R390): the channels train; one that fails is lost. -/
def Mod.channelsTrain (m : Mod) (fails : List (Fin 2)) : Mod :=
  let m := ((m.set DRM_CH_STATUS_STATE 0 0).set DRM_CH_STATUS_STATE 1 0).channelStatus
  fails.foldl (fun m c => m.channelLost c.val 1) m

/-- Step 7 (R390, R391): the microcode loaded into all four clusters; none starts without an EM component, or with one that fails the checks of
R289. -/
def Mod.clustersStart (m : Mod) (em : Option (List Byte)) : Mod :=
  match em with
  | none => (List.range 4).foldl (fun m c => m.set ENG_CLUSTER_STATUS_STATE c 3) m
  | some l =>
    if emFault l ≠ 0 then (List.range 4).foldl (fun m c => (m.set ENG_CLUSTER_STATUS_STATE c 3).set ENG_XCHG_STATUS_RESULT c (emFault l)) m
    else
    let sdram := m.get DRM_CH_STATUS_STATE 0 == 0 || m.get DRM_CH_STATUS_STATE 1 == 0
    let m := if sdram then m.drmPost .supervisor 0 (emArea 0 * 4096) l else m
    (List.range 4).foldl (fun m c =>
      let k := (m.cl c).loadedFrom l true
      let m := m.setCl c { k with loaded := none, table := [], lost := m.boot.domOut.contains (9 + c) }
      let m := (List.range 256).foldl (fun m i => m.wr .ENG_DISPATCH (256 * c + i) (Config.emDispatch l i)) m
      let m := if sdram then m.set ENG_XCHG_STATUS_CUR_BASE c (emArea 0) else m
      m.set ENG_CLUSTER_STATUS_STATE c (if m.boot.domOut.contains (9 + c) then 4 else 0)) m

/-- The standard parse graph is written into nodes 0 to 31 and their transitions, every other node and transition left invalid (R532). -/
def Mod.standardGraph (m : Mod) : Mod :=
  let m := (List.range 64).foldl (fun m i => m.setNode i (stdNode i)) m
  (List.range 256).foldl (fun m i => m.setTransition i (stdTransition i)) m

/-- Step 9 (R383, R387): the tiles ON, and enabled ports begin to link; without an SF component, or a tile's clock, the tile stays DOWN. -/
def Mod.tilesStart (m : Mod) (sf : Bool) : Mod :=
  let m := (List.range 8).foldl (fun m t =>
    if !sf || m.boot.domOut.contains (1 + t) then m.set PRT_TILE_STATUS_STATE t 3 else m) m
  (List.range 128).foldl (fun m p => if m.portType p = 0 then m else m.set PRT_PORT_STATUS_STATE p (m.restState p)) m

/-- Ticks of a start-up that has passed so far: the clock ran, and each boundary had its commit (R25). -/
def Mod.ticksPass (m : Mod) : Mod :=
  let per := m.period * unitsPerNs
  let m := m.wr .GLB_COMMIT_SEQ 0 (m.rd .GLB_COMMIT_SEQ + BitVec.ofNat 64 (m.time.net / per - m.tickNum))
  (m.wr .GLB_TICK_NUM 0 (BitVec.ofNat 64 (m.time.net / per))).withTick { m.tick with boundary := boundaryAfter m.time.net m.period }

/-- Time passes to so many milliseconds after die power-on reset, with its ticks. -/
def Mod.startTime (m : Mod) (ms : Nat) : Mod := (m.advanceTo (ms * 1000000)).ticksPass

/-! ### A start -/

/-- The migrated image of a TC slot written to the other slot, which becomes the active one (R399). -/
def Mod.migrated (m : Mod) (s : Nat) : Nat × Mod :=
  let source := (m.slot 4 s).getD []
  let image := compBody source
  match Config.migrate image with
  | none => (s, m)
  | some t =>
    let m := m.slotWritten 4 (1 - s) (migratedComp source (signedImage t)) true
    let m := m.writeRec (m.bootRec.put 4 (1 - s) (m.bootRec.states.getD 4 0))
    (1 - s, m.dmpEvent 0x05 4 0 (imgFormat image * 2 ^ 16 + imgFormat t))

/-- Slots revoked at step 4 as the boot record asks (R416). -/
def Mod.pendingRevoked (m : Mod) : Mod :=
  let r := m.bootRec
  if r.revoke = 0 then m else (m.writeRec { r with revoke := 0 }).revokeWrite r.revoke

/-- What BOOT_STATUS shows of a choice. -/
def Mod.choiceShown (m : Mod) (c : Chosen) (sel : Nat) : Mod :=
  let m := (m.set BOOT_STATUS_BOOT_SEL 0 sel).set BOOT_STATUS_OVERRIDE_FAILED 0 (b01 c.forcedBad)
  let m := m.set BOOT_STATUS_TC_REASON 0 c.tcReason
  let m := m.set BOOT_STATUS_FALLBACK 0 (bitsOf 5 c.moved.contains)
  let m := m.set BOOT_STATUS_SLOT 0 (bitsOf 5 fun n => if n = 0 then m.bootRec.slot 0 == 1 else lookup c.slots n == some 1)
  m.set BOOT_STATUS_ABSENT 0 (bitsOf 5 fun n => n != 0 && (lookup c.slots n).isNone)

/-- Milliseconds in a field of BOOT_TIMES, saturating. -/
def satMs (n : Nat) : Nat := Nat.min n 65535

/-- The gasp record found at a start (R430): its tick number, its events, and its sector erased again. -/
def Mod.gaspFound (m : Mod) : Mod :=
  let one (m : Mod) (d : Nat) (g : Option (List Byte)) : Mod :=
    match g with
    | none => m
    | some l =>
      let m := ((m.set NVM_GASP_FOUND 0 1).set NVM_GASP_LAST_TICK 0 (fieldAt l 8 8)).nvmEvent 0x02 d d (fieldAt l 8 8)
      let m := (List.range 8).foldl (fun m k => m.nvmEvent 0x03 d k (fieldAt l (64 + 16 * k + 8) 8)) m
      let m := m.erased d 9 4 1
      m.withNvm (if d = 0 then { m.nvm with gaspA := none } else { m.nvm with gaspB := none })
  let a := if m.deviceOk 0 then m.nvm.gaspA else none
  let b := if m.deviceOk 1 then m.nvm.gaspB else none
  one (one m 0 a) 1 b

/-- Steps 5 to 10 of a start with a choice that has an SV component (R383 to R393). -/
def Mod.startRest (m : Mod) (c : Chosen) (x : StartFound) : BitVec 5 × Mod :=
  let m := m.underSv (m.chosenComp c 3)
  let m := (m.wr .DMP_RX_HIGH 0 (BitVec.ofNat 64 m.nvm.floorRx)).wr .DMP_TX_NEXT 0 (BitVec.ofNat 64 m.nvm.floorTx)
  let m := (m.set BOOT_TIMES_VERIFY_MS 0 (satMs x.verifyMs)).pendingRevoked
  let m := ((m.repairs x.spareFails x.unitFails).startTime x.trainMs).channelsTrain x.trainFails
  let m := m.set BOOT_TIMES_TRAIN_MS 0 (satMs x.trainMs)
  let m := m.clustersStart ((lookup c.slots 2).map fun _ => m.chosenComp c 2)
  let m := m.standardGraph.startTime x.topiaryMs
  let tc := lookup c.slots 4
  let moves := match tc with
    | some _ => m.migrates (compBody (m.chosenComp c 4))
    | none => false
  let t : Nat × Mod := match tc with
    | some s => if moves then m.migrated s else (s, m)
    | none => (0, m)
  let m := t.2.set BOOT_STATUS_MIGRATED_NOW 0 (b01 moves)
  let run := match tc with
    | some _ => store ((c.slots.filter (·.1 != 4)).map fun e => (e.1, (m.slot e.1 e.2).getD [])) 4 ((m.slot 4 t.1).getD [])
    | none => c.slots.map fun e => (e.1, (m.slot e.1 e.2).getD [])
  let m := m.withUpd { m.upd with running := (m.upd.running.filter (·.1 == 0)) ++ run }
  let m := if moves then m.set BOOT_STATUS_SLOT 0 (m.get BOOT_STATUS_SLOT % 16 + 16 * t.1) else m
  let a : BitVec 5 × Mod := match tc with
    | some _ => m.applyImage 2 m.runningImage
    | none => (2, m.dmpEvent 0x04 4 c.tcLast)
  let m := if a.2.buf.banksLost.isEmpty then a.2 else a.2.lowerGuarantees
  let m := (m.set BOOT_TIMES_TOPIARY_MS 0 (satMs x.topiaryMs)).startTime x.serviceMs
  let m := (m.tilesStart (lookup c.slots 1).isSome).reselect
  let m := (m.set BOOT_STATUS_STAGE 0 7).set BOOT_TIMES_SERVICE_MS 0 (satMs x.serviceMs)
  (a.1, m)

/-- What the supervisor raises once the image has placed its rings: slots and their fallbacks, what NVM held, and BOOT_DONE. -/
def Mod.startEvents (m : Mod) (c : Chosen) : Mod :=
  let m := c.events.foldl (fun m e => m.dmpEvent e.1 e.2.1 e.2.2) m
  let m := if m.pcGen ≠ compProv ((m.slot 0 (m.bootRec.slot 0)).getD []) ∧ (m.slot 0 (m.bootRec.slot 0)).isSome then m.dmpEvent 0x06 0 0 else m
  (m.halfErased.gaspFound).dmpEvent 0x01 0 0

/-- A component that was pending goes on trial, and its window opens in service (R427); otherwise an update in progress has ended. -/
def Mod.updResumes (m : Mod) (before : Mod) (old new : BootRec) : Mod :=
  match (List.range 5).find? fun n => old.states.getD n 0 == 1 with
  | some n =>
    let m := m.withUpd { m.upd with prevSlot := 1 - new.slot n, confirmS := before.upd.confirmS, atRestart := false,
                                    prevRun := (m.slot n (1 - new.slot n)).getD [] }
    ((m.setUpd 6).set UPD_STATUS_COMP 0 n).windowOpens
  | none => if before.updBusy then m.updEnds 13 else m

/-- Steps 3 to 10 of a start (R382, R383): the die is cleared, slots chosen, and, where SV is not absent, everything to in service. -/
def Mod.dieStart (m : Mod) (cause : Nat) (x : StartFound) : BitVec 5 × Mod :=
  let m := m.writeCut
  let before := m
  let old := m.bootRec
  let m := m.cleared
  let m := (m.setRefclk true).withPin { m.pin with bootSel := x.bootSel.val, slotId := x.slotId.val, refclk := true }
  let m := (m.set GLB_RESET_CAUSE_CAUSE 0 cause).set GLB_RESET_CAUSE_FATAL_24H 0 m.pwr.fatals.length
  let m := m.startTime x.verifyMs
  let new := old.started
  let m := if new = old then m else m.writeRec new
  let m := if old.states.getD 0 0 = 2 then
      m.withUpd { m.upd with running := [(0, (m.slot 0 (new.slot 0)).getD (lookupD m.upd.running 0 []))] }
    else m
  let sel := x.bootSel.val
  let c := m.chooseSlots m.bootRec sel false
  let late := (lookup c.slots 3).isSome && m.startLate c x.topiaryMs
  let c := if late then m.chooseSlots m.bootRec sel true else c
  let m := (m.choiceShown c sel).set BOOT_STATUS_WATCHDOG 0 (b01 late)
  if (lookup c.slots 3).isNone then (2, m.withBoot { m.boot with nvmReadAt := m.absNow })
  else
    let a := m.startRest c x
    let m := (a.2.startEvents c).updResumes before old new
    (a.1, if m.boot.domOut.contains 13 then m.supervisorLost else m)

/-! ### The causes of a start (R382, R483, R512, R523) -/

/-- A power-on counts itself, and the core-fatal count is lost (R483). -/
def Mod.poweredOn (m : Mod) : Mod :=
  (m.withNvm { m.nvm with powerOns := m.nvm.powerOns + 1 }).withPwr { m.pwr with fatals := [] }

/-- The controller starts (R383 step 1, R465, R503): its own memory holds the policy, and it takes its I2C address. -/
def Mod.pcStarts (m : Mod) (f vin : Nat) (slotId : Nat) : Mod :=
  let m := m.withPwr { policy := m.pwr.policy, base := m.absNow - m.now, i2c := 0x58 + slotId % 4, activeAt := m.absNow,
                       goodA := m.absNow, goodB := m.absNow }
  let m := ((m.set PWR_FEED_STATE f 3).set PWR_FEED_VIN f vin).setPath f true true
  let m := (m.set PWR_STATUS_ACTIVE 0 f).setPath (1 - f) false (m.feedSt (1 - f) == 3)
  m.pwrShown

/-- POWER_ON (R382, R383): a feed becomes good after the loss of both. -/
def Mod.powerOn (m : Mod) (locks : BitVec 5) (f vin : Nat) (x : StartFound) : BitVec 5 × Mod :=
  if m.pwr.down ≠ .rails ∨ vin < 3800 ∨ 6200 < vin then (locks, m)
  else ((m.pcStarts f vin x.slotId.val).poweredOn).dieStart 0 x

/-- PORST_N (R512): a power-on start from step 3, whose die power-on reset stops REFCLK until then (R495). It is ignored while the rails are
down. -/
def Mod.porst (m : Mod) (locks : BitVec 5) (x : StartFound) : BitVec 5 × Mod :=
  match m.pwr.down with
  | .rails => (locks, m)
  | .trip => (locks, m)
  | _ => (m.poweredOn.setRefclk false).dieStart 1 x

/-- RESET_N (R382, R512): a device reset. It does not end a lockout (R483). -/
def Mod.deviceReset (m : Mod) (locks : BitVec 5) (x : StartFound) : BitVec 5 × Mod :=
  if m.dieUp then m.dieStart 2 x else (locks, m)

/-- CORE_FATAL (R483): a gasp record and a device reset; the third within 24 h locks the module in reset. -/
def Mod.coreFatal (m : Mod) (locks : BitVec 5) (_why : ResetCause) (x : StartFound) : BitVec 5 × Mod :=
  if !m.dieUp then (locks, m)
  else
    let m := m.gaspWritten
    let recent := m.pwr.fatals.filter fun t => decide (m.absNow < t + 86400 * oneSecond)
    let m := m.withPwr { m.pwr with fatals := m.absNow :: recent }
    if 2 ≤ recent.length then (locks, m.withPwr { m.pwr with down := .locked }) else m.dieStart 3 x

/-- GASP_TRIGGER (R477): both feeds have been lost for 100 µs; the held outputs are released, the gasp record is written, BOTH_LOST is
raised, and the rails shut down. -/
def Mod.gaspTrigger (m : Mod) : Mod :=
  if m.pwr.down = .rails then m
  else
    let m := if m.pcHold then m.holdRelease else m
    let m := if !m.dieUp then m else (if m.aonOut then m else m.gaspWritten).pwrEvent 0x06 0 0
    let m := m.withPwr { m.pwr with down := .rails, page := 2, holdEnd := none, restartEnd := none, fatals := [] }
    (((m.setPath 0 false false).setPath 1 false false).set BOOT_STATUS_STAGE 0 0).setRefclk false

/-- THERMAL_TRIP (R522, R523): Tj at or above 118 °C, or Tcp at or above 65 °C; a gasp record is written and the die rails shut down. -/
def Mod.thermalTrip (m : Mod) (tj tcp : Int) : Mod :=
  if !m.dieUp || m.aonOut || (decide (tj < 1180) && decide (tcp < 650)) then m
  else
    let m := (m.tempShown tj tcp).gaspWritten
    ((m.withPwr { m.pwr with down := .trip }).statusLatch).setRefclk false

/-- TRIP_RECOVERY (R523): Tcp has stayed at or below 45 °C for 60 s, and the die starts again from step 2. -/
def Mod.tripRecovery (m : Mod) (locks : BitVec 5) (tcp : Int) (x : StartFound) : BitVec 5 × Mod :=
  if m.pwr.down ≠ .trip ∨ 450 < tcp then (locks, m)
  else
    let m := m.advance (60 * oneSecond)
    let m := m.withPwr { m.pwr with warmTj := false, warmTcp := false, hotTj := false, hotTcp := false }
    (m.withNvm { m.nvm with powerOns := m.nvm.powerOns + 1 }).dieStart 0 x

/-! ### The supervisor (R22, R23, R382, R388, R399) -/

/-- The slot that a supervisor restart tries first (R385, R425): the previous one of an SV step that falls back, or the one the pins and the boot
record name; flip takes the other one (R388). -/
def Mod.svFirst (m : Mod) (flip : Bool) : Nat :=
  let first := firstSlot m.bootRec m.pin.bootSel 3
  if m.updComp = 3 ∧ m.updState = 8 then m.upd.prevSlot else if flip then 1 - first else first

/-- The SV slot of a supervisor restart: the first, or the other one when that fails its checks. -/
def Mod.svSlot (m : Mod) (flip : Bool) : Option Nat :=
  let first := m.svFirst flip
  if m.slotReason [] 3 first = 0 then some first else if m.slotReason [] 3 (1 - first) = 0 then some (1 - first) else none

/-- What a supervisor restart raises when its first slot fails (R385): SLOT_FALLBACK, and OVERRIDE_FAILED where the pins forced that slot. -/
def Mod.svFellBack (m : Mod) (why : Nat) : Mod :=
  if why = 0 then m
  else
    let m := (m.set BOOT_STATUS_FALLBACK 0 (m.get BOOT_STATUS_FALLBACK ||| 8)).dmpEvent 0x02 3 why
    if m.pin.bootSel = 3 then m else (m.set BOOT_STATUS_OVERRIDE_FAILED 0 1).dmpEvent 0x03 3 why

/-- A newer supervisor migrates the running image's source (R399): the result is written, and TOP_* and the digests follow. -/
def Mod.migratedOnReturn (m : Mod) : Mod :=
  let s := m.bootRec.slot 4
  let s := if imgMigrated (compBody ((m.slot 4 s).getD [])) then 1 - s else s
  let source := (m.slot 4 s).getD []
  if m.compAbsent 4 || !(m.migrates m.runningImage) || m.slotReason (lookupD m.upd.running 3 []) 4 s != 0 then m
  else
    let r := m.migrated s
    let new := (r.2.slot 4 r.1).getD source
    let ss := (imgSections (compBody new)).getD []
    let m := (r.2.withUpd { r.2.upd with running := store r.2.upd.running 4 new }).topShown (compBody new) ss
    let m := (List.range 17).foldl (fun m i => m.wr .GLB_CFG_DIGEST i (partDigest ss i)) (m.topiaryKept (compBody new) ss)
    m.set BOOT_STATUS_SLOT 0 (m.get BOOT_STATUS_SLOT % 16 + 16 * r.1)

/-- The supervisor resumes with the SV component of a slot, why its first slot failed being 0 where it did not (R22, R365, R382). The start is over,
and a later one may fall back under R388 again. -/
def Mod.supervisorReturns (m : Mod) (locks : BitVec 5) (s why : Nat) : Mod :=
  let sv := (m.slot 3 s).getD []
  let moved := s != m.bootRec.slot 3
  let m := (m.withUpd { m.upd with running := store m.upd.running 3 sv, restarted := true }).pathCleared 18
  let m := (m.withBoot { m.boot with absentAt := none, watchdogUsed := false }).underSv sv
  let m := (((m.set GLB_STATUS_HEADLESS 0 0).set GLB_STATUS_DEGRADED 0 0).sqc GLB_EVENT_DEGRADED).event (glbEv 0x0B 0)
  let b := m.get BOOT_STATUS_SLOT
  let m := m.set BOOT_STATUS_SLOT 0 (b - b / 8 % 2 * 8 + 8 * s)
  let m := if m.updComp == 3 && m.updState == 8 then m else m.svFellBack why
  let m := match m.updComp, m.updState with
    | 3, 6 => if moved then (m.withUpd { m.upd with reason := 16 }).fallbackEnds
        else ((m.writeRec (m.bootRec.put 3 s 2)).withUpd { m.upd with restarted := false, walked := false }).windowOpens
    | 3, 8 => m.fallbackEnds
    | _, 3 => m.checkDone locks
    | _, _ => m
  m.migratedOnReturn

/-- LOCKSTEP_DIVERGENCE (R22, R382): the supervisor cores diverge. -/
def Mod.lockstepDivergence (m : Mod) : Mod := m.supervisorLost

/-- SUPERVISOR_RESTART (R382): the supervisor restarts from step 4 for SV and resumes; without a slot that verifies it stays absent. -/
def Mod.supervisorRestart (m : Mod) (locks : BitVec 5) : Mod :=
  let m := m.supervisorLost
  if m.boot.domOut.contains 13 then m else
  match m.svSlot false with
  | some s => m.supervisorReturns locks s (m.slotReason [] 3 (m.svFirst false))
  | none => m

/-- SUPERVISOR_WATCHDOG (R388): an absent supervisor has not resumed within 5 s; the other SV slot is used, once in a start. -/
def Mod.supervisorWatchdog (m : Mod) (locks : BitVec 5) : Mod :=
  match m.boot.absentAt with
  | none => m
  | some t =>
    if m.boot.watchdogUsed || m.boot.domOut.contains 13 || m.aonOut then m
    else
      let m := m.advanceAbs (t + 5 * oneSecond)
      let m := (m.withBoot { m.boot with watchdogUsed := true }).set BOOT_STATUS_WATCHDOG 0 1
      match m.svSlot true with
      | some s => ((m.supervisorReturns locks s 0).set BOOT_STATUS_FALLBACK 0 (m.get BOOT_STATUS_FALLBACK ||| 8)).dmpEvent 0x02 3 9
      | none => m

/-- DEGRADED (R23): the supervisor has been absent for 10 minutes. -/
def Mod.degraded (m : Mod) : Mod :=
  match m.boot.absentAt with
  | none => m
  | some t =>
    if m.flag GLB_STATUS_DEGRADED then m
    else ((((m.advanceAbs (t + 600 * oneSecond)).set GLB_STATUS_DEGRADED 0 1).sqc GLB_EVENT_DEGRADED).event (glbEv 0x0C 0))

/-- NVM_RETRY (R387): with SV absent the boot ROM reads NVM again every 60 s, and starts when it finds a slot that verifies. What the start
then measures no row brings: the levels of BOOT_SEL and SLOT_ID stand, and its times are free values. -/
def Mod.nvmRetry (m : Mod) (locks : BitVec 5) : BitVec 5 × Mod :=
  if !(m.compAbsent 3) then (locks, m)
  else
    let m := m.advanceAbs (m.boot.nvmReadAt + 60 * oneSecond)
    let m := m.withBoot { m.boot with nvmReadAt := m.absNow }
    if m.slotReason [] 3 0 ≠ 0 ∧ m.slotReason [] 3 1 ≠ 0 then (locks, m)
    else
      let a := m.freshNat
      let b := a.2.freshNat
      let c := b.2.freshNat
      let d := c.2.freshNat
      d.2.dieStart (m.get GLB_RESET_CAUSE_CAUSE)
        { verifyMs := a.1 % 2211, trainMs := 2210 + b.1 % 2501, topiaryMs := 4710 + c.1 % 3201, serviceMs := 7910 + d.1 % 4091,
          bootSel := Fin.ofNat 4 m.pin.bootSel, slotId := Fin.ofNat 16 m.pin.slotId, spareFails := [], unitFails := [], trainFails := [] }

/-! ### Clock domains (R16) -/

/-- DOMAIN_FAILURE (R16, R482): a domain goes out of service, and what it clocks is lost. CORE, LKP and TIME are core-fatal faults, which
CORE_FATAL brings, and DCTL and DPHY lose a channel, which CHANNEL_LOST names. -/
def Mod.domainFailure (m : Mod) (d : Nat) : Mod :=
  if m.boot.domOut.contains d ∨ d = 0 ∨ (14 ≤ d ∧ d ≤ 17) then m
  else
    let m := m.withBoot { m.boot with domOut := insertNat m.boot.domOut d }
    if d ≤ 8 then m.tileStops (d - 1) 3
    else if d ≤ 12 then m.clusterLost (d - 9)
    else match d with
      | 13 => m.supervisorLost
      | 18 => m.functionReset 0
      | 24 => m.withTime { m.time with monitorUp := false }
      | _ => m

/-- DOMAIN_RETURN (R16): a domain that was out returns. A tile wakes, and the monitor of REF resumes; a lost cluster or channel stays
lost. -/
def Mod.domainReturn (m : Mod) (d : Nat) : Mod :=
  if !(m.boot.domOut.contains d) then m
  else
    let m := m.withBoot { m.boot with domOut := eraseNat m.boot.domOut d }
    if 1 ≤ d ∧ d ≤ 8 then (if m.get PRT_TILE_CTL_STATE_REQ (d - 1) = 0 then m.tileWakeReq (d - 1) true else m)
    else if d = 24 then (m.withTime { m.time with monitorUp := true }).reselect
    else m

end Sys2Proof.Machine
end

