-- ==== Sys2Proof/Machine/ExecBoot.lean ====
section
/-! DEFINITION. Start-up, resets, the supervisor, and what the loss of a feed, a domain or a device does (R16, R382 to R392, R477, R483, R512, R523). -/

namespace Sys2Proof.Machine

/-- POWER_ON (R383): A feed becomes good after loss of both, and the module runs start-up steps 1 to 10. -/
def execPowerOn (f : Fin 2) (vin : Nat) (x : StartFound) (s : State) : Host.Outcome State Fault Refusal :=
  s.actStart fun l m => m.powerOn l f.val vin x

/-- PORST (R512): PORST_N held low for 10 µs causes a power-on start from step 3. -/
def execPorst (x : StartFound) (s : State) : Host.Outcome State Fault Refusal := s.actStart fun l m => m.porst l x

/-- DEVICE_RESET (R512): RESET_N held low for 500 ns causes a device reset and start-up steps 3 to 10. -/
def execDeviceReset (x : StartFound) (s : State) : Host.Outcome State Fault Refusal := s.actLocks fun l m => m.deviceReset l x

/-- CORE_FATAL (R483): A core PLL, rail or buffer-state fault writes a gasp record and performs a device reset, or locks out. -/
def execCoreFatal (why : ResetCause) (x : StartFound) (s : State) : Host.Outcome State Fault Refusal :=
  s.actLocks fun l m => m.coreFatal l why x

/-- LOCKSTEP_DIVERGENCE (R382): The supervisor cores diverge; the supervisor restarts and the module runs headless. -/
def execLockstepDivergence (s : State) : Host.Outcome State Fault Refusal := s.act (·.lockstepDivergence)

/-- SUPERVISOR_RESTART (R382): The supervisor restarts from step 4 for the SV component, and resumes. -/
def execSupervisorRestart (s : State) : Host.Outcome State Fault Refusal := s.actLocks fun l m => (l, m.supervisorRestart l)

/-- SUPERVISOR_WATCHDOG (R388): The supervisor misses its start-up deadline, and the AON watchdog restarts it from the other SV slot. -/
def execSupervisorWatchdog (s : State) : Host.Outcome State Fault Refusal := s.actLocks fun l m => (l, m.supervisorWatchdog l)

/-- DEGRADED (R23): The supervisor has been absent for 10 minutes, and the module declares itself degraded. -/
def execDegraded (s : State) : Host.Outcome State Fault Refusal := s.act (·.degraded)

/-- NVM_RETRY (R387): With SV absent, the boot ROM reads NVM again every 60 s. -/
def execNvmRetry (s : State) : Host.Outcome State Fault Refusal := s.actLocks fun l m => m.nvmRetry l

/-- GASP_TRIGGER (R477): Both feeds have been lost for 100 µs; the gasp record is written and the rails shut down. -/
def execGaspTrigger (s : State) : Host.Outcome State Fault Refusal := s.actPc (·.gaspTrigger)

/-- THERMAL_STATE (R522): A temperature crossing moves the module between NORMAL, WARM and HOT. -/
def execThermalState (tj tcp : Int) (s : State) : Host.Outcome State Fault Refusal := s.act (·.thermalState tj tcp)

/-- THERMAL_TRIP (R523): Tj or Tcp reaches its trip limit; a gasp record is written and the die rails shut down. -/
def execThermalTrip (tj tcp : Int) (s : State) : Host.Outcome State Fault Refusal := s.act (·.thermalTrip tj tcp)

/-- TRIP_RECOVERY (R523): Tcp has stayed at or below 45 °C for 60 s, and the die starts again from step 2. -/
def execTripRecovery (tcp : Int) (x : StartFound) (s : State) : Host.Outcome State Fault Refusal :=
  s.actStart fun l m => m.tripRecovery l tcp x

/-- DOMAIN_FAILURE (R16): A TILE, PCIE, MGMT, NVM, AON, REF or PWRC clock domain or its PLL fails, and the function it clocks is lost as R11 and R482 state. -/
def execDomainFailure (domain : Fin 25) (s : State) : Host.Outcome State Fault Refusal := s.act (·.domainFailure domain.val)

/-- DOMAIN_RETURN (R16): A domain that was out of service, such as REF, AON or PWRC, returns and its monitoring resumes. -/
def execDomainReturn (domain : Fin 25) (s : State) : Host.Outcome State Fault Refusal := s.act (·.domainReturn domain.val)

/-- DEVICE_LOST (R431): An NVM device stops answering and is marked lost, with DEVICE_LOST raised and its slots unavailable. -/
def execDeviceLost (device : Fin 2) (s : State) : Host.Outcome State Fault Refusal := s.act (·.deviceLost device.val)

end Sys2Proof.Machine
end

