-- ==== Sys2Proof/Machine/ExecClip.lean ====
section
/-! DEFINITION. Clippings: records, rings and their delivery (R235 to R247). -/

namespace Sys2Proof.Machine

/-- RECORD_WRITE (R241): A writer stores a Clippings record in its ring in SDRAM and advances PROD, or drops it under FULL_MODE. -/
def execRecordWrite (c : Fin 2) (s : State) : Host.Outcome State Fault Refusal := s.act (·.recordWrite c.val)

/-- RING_CFG_WRITE (R240): A CLP_RING_CFG write is refused on overlap, or resets the ring's geometry and indices. -/
def execRingCfgWrite (path : Path) (h : Fin 16) (v : Word) (s : State) : Host.Outcome State Fault Refusal :=
  s.put path .CLP_RING_CFG h.val v none

/-- CONS_WRITE (R241): A Clippings CONS write is accepted only when it moves forward and not past PROD. -/
def execConsWrite (path : Path) (h : Fin 16) (cons : BitVec 32) (s : State) : Host.Outcome State Fault Refusal :=
  s.put path .CLP_RING_CONS h.val (CLP_RING_CONS_CONS.put 0 cons.toNat) none

/-- HOST_BASE_WRITE (R245): A CLP_HOST_BASE write places the host ring and sets both host indices to 0. -/
def execHostBaseWrite (path : Path) (h : Fin 16) (v : Word) (s : State) : Host.Outcome State Fault Refusal :=
  s.put path .CLP_HOST_BASE h.val v none

/-- CLIPPINGS_FLUSH (R245): The flush tick-job delivers ring records to the host, DMP or export frames. -/
def execClippingsFlush (h : Fin 16) (c : Fin 4) (n : Nat) (s : State) : Host.Outcome State Fault Refusal :=
  s.act (·.clippingsFlush h.val c.val n)

end Sys2Proof.Machine
end

