-- ==== Sys2Proof/Machine/Dmp.lean ====
section
/-! DEFINITION. DMP: the envelope, its checks and counters, its messages, attestation and the transfer of a bundle (Start-up and the
Topiary Image; Register Interface and Events; Updating Firmware, Microcode and Configuration; Faults, Blast Radius and
Availability). -/

namespace Sys2Proof.Machine

/-! ### A message as it arrives (R404) -/

/-- What the management port finds in a frame: the source address and the DMP message, for a UDP datagram over IPv4 to the module's
address and port, tagged as DMP_ADDR.VID asks; none for any other frame. -/
def Mod.dmpDatagram (m : Mod) (l : List Byte) : Option (Nat × List Byte) :=
  let vid := m.get DMP_ADDR_VID
  let tagged := fieldAt l 12 2 == 0x8100
  let ip := if tagged then 18 else 14
  let udp := ip + 4 * (fieldAt l ip 1 % 16)
  if (if vid = 0 then tagged else !tagged || fieldAt l 14 2 % 4096 != vid) || fieldAt l (ip - 2) 2 != 0x0800 ||
      fieldAt l ip 1 / 16 != 4 || fieldAt l (ip + 9) 1 != 17 || fieldAt l (ip + 16) 4 != m.get DMP_ADDR_IPV4 ||
      fieldAt l (udp + 2) 2 != m.get DMP_CFG_UDP_PORT then none
  else some (fieldAt l (ip + 12) 4, (l.drop (udp + 8)).take (fieldAt l (udp + 4) 2 - 8))

/-- The types a station sends (R379, R421, R487). -/
def dmpTypes : List Nat := [0x01, 0x02, 0x03, 0x04, 0x10, 0x11, 0x12, 0x13]

/-- A key's octets, when KEY_ID names a valid one (R407). -/
def Mod.dmpKey (m : Mod) (id : Nat) : Option (List Byte) := if id = 0 then none else lookup m.dmp.keys id

/-- COUNTER is fresh (R406). -/
def Mod.dmpFresh (m : Mod) (c : Nat) : Bool :=
  let h := (m.rd .DMP_RX_HIGH).toNat
  decide (h < c) || (decide (h < c + 64) && !(m.dmp.seen.contains c))

/-- Why a message is rejected (R405), 0 when it is not. -/
def Mod.dmpFault (m : Mod) (source : Nat) (l : List Byte) : Nat :=
  let len := fieldAt l 6 2
  if source ≠ m.get DMP_STATION_IPV4 ∨ fieldAt l 0 2 ≠ 0x444D ∨ fieldAt l 2 1 ≠ 1 ∨ 1400 < len ∨ l.length ≠ 48 + len ∨
      ¬ dmpTypes.contains (fieldAt l 3 1) then 1
  else match m.dmpKey (fieldAt l 4 2) with
    | none => 2
    | some k =>
      if toBytes 32 (Config.hmacSha256 k (l.take (16 + len))).toNat != l.drop (16 + len) then 3
      else if !(m.dmpFresh (fieldAt l 8 8)) then 4
      else 0

/-- A rejected message (R405): counted, and raised at most once per second per qualifier; no reply. -/
def Mod.dmpReject (m : Mod) (q : Nat) : Mod :=
  let f := match q with
    | 1 => DMP_REJECTS_MALFORMED
    | 2 => DMP_REJECTS_BAD_KEY
    | 3 => DMP_REJECTS_BAD_TAG
    | _ => DMP_REJECTS_REPLAY
  let m := m.satAdd f 0
  let g := m.rateGate (0x1907000 + q)
  if g.1 then g.2.dmpEvent 0x07 0 q else g.2

/-- A floor in NVM replaced (R406): the floors' sector of every device is erased and written. -/
def Mod.floorsWritten (m : Mod) (rx tx : Nat) : Mod :=
  let m := (List.range 2).foldl (fun m d => if m.deviceOk d then m.erased d 10 5 1 else m) m
  m.withNvm { m.nvm with floorRx := rx, floorTx := tx }

/-- A counter accepted (R406): its floor first, then H and the counters above H − 64. -/
def Mod.dmpCounted (m : Mod) (c : Nat) : Mod :=
  let m := if m.nvm.floorRx ≤ c then m.floorsWritten (c + 2 ^ 20) m.nvm.floorTx else m
  let h := Nat.max (m.rd .DMP_RX_HIGH).toNat c
  let m := m.wr .DMP_RX_HIGH 0 (BitVec.ofNat 64 h)
  m.withDmp { m.dmp with heard := true, seen := (c :: m.dmp.seen).filter fun x => decide (h < x + 64) }

/-- The module sends a message (R404, R406) under a key. -/
def Mod.dmpSend (m : Mod) (type key : Nat) (values : List Nat) : Mod :=
  let n := (m.rd .DMP_TX_NEXT).toNat
  let m := if m.nvm.floorTx ≤ n then m.floorsWritten m.nvm.floorRx (n + 2 ^ 20) else m
  (m.emit (.dmp type key n values)).wr .DMP_TX_NEXT 0 (BitVec.ofNat 64 (n + 1))

/-- The first key's identifier (R407), under which the module sends what no request asked for; none without keys. -/
def Mod.firstKey (m : Mod) : Option Nat := (m.dmp.keys.head?).map (·.1)

/-- DMP runs: it is enabled and its port's clock and the supervisor's component are there. -/
def Mod.dmpUp (m : Mod) : Bool := m.flag DMP_CFG_EN && m.pathUp .dmp

/-- A message of one TYPE (R404, R405): rejected, or, accepted, acted on with its key and payload. A frame that is no DMP message of that
TYPE does nothing; busy tells that the module holds the message for now (R372). -/
def Mod.dmpMessage (m : Mod) (locks : BitVec 5) (frame : List Byte) (type : Nat) (busy : List Byte → Bool)
    (f : Mod → (key : Nat) → (payload : List Byte) → BitVec 5 × Mod) : BitVec 5 × Mod :=
  match if m.dmpUp then m.dmpDatagram frame else none with
  | none => (locks, m)
  | some (source, l) =>
    let q := m.dmpFault source l
    let payload := (l.drop 16).take (fieldAt l 6 2)
    if q ≠ 0 then (locks, m.dmpReject q)
    else if fieldAt l 3 1 ≠ type ∨ busy payload then (locks, m)
    else f (m.dmpCounted (fieldAt l 8 8)) (fieldAt l 4 2) payload

/-! ### Registers and rings (R379) -/

/-- A read of an offset waits for a window command of the DMP path, or of a set that all paths share (R372). -/
def Mod.dmpReadHeld (m : Mod) (off : Nat) : Bool :=
  match regAt 17 off with
  | some (r, i) => match windowOf 17 r i with
    | some (w, command) => !command && m.winBusy w
    | none => false
  | none => false

/-- DMP_READ (R379): up to 64 registers. -/
def Mod.dmpRead (m : Mod) (locks : BitVec 5) (frame : List Byte) : BitVec 5 × Mod :=
  m.dmpMessage locks frame 0x01 (fun p => ((Config.dmpReadOf p).getD []).any m.dmpReadHeld) fun m key p =>
    match Config.dmpReadOf p with
    | none => (locks, m)
    | some offs =>
      if offs.length = 0 ∨ 64 < offs.length then (locks, m)
      else
        let r := offs.foldl (fun (a : List Nat × Mod) o => let x := a.2.fabricRead locks .dmp o; (a.1 ++ [x.1.toNat], x.2)) ([], m)
        (locks, r.2.dmpSend 0x81 key r.1)

/-- Registers whose write from DMP takes effect after its WRITE_RESP (R408). -/
def dmpLate (off : Nat) : Bool :=
  [Reg.addr .DMP_CFG, Reg.addr .DMP_ADDR, Reg.addr .DMP_STATION, Reg.addr .DMP_GATEWAY].contains off

/-- DMP_WRITE (R379, R408): up to 32 writes in order, the late ones after the response. -/
def Mod.dmpWrite (m : Mod) (locks : BitVec 5) (frame : List Byte) : BitVec 5 × Mod :=
  m.dmpMessage locks frame 0x02 (fun _ => false) fun m key p =>
    match Config.dmpWriteOf p with
    | none => (locks, m)
    | some l =>
      if l.length = 0 ∨ 32 < l.length then (locks, m)
      else
        let one (a : (List Nat × BitVec 5) × Mod) (e : Nat × Word) : (List Nat × BitVec 5) × Mod :=
          if dmpLate e.1 then ((a.1.1 ++ [b01 ((a.2.fabricWrite a.1.2 .dmp e.1 8 e.2 none none).took == .ignored)], a.1.2), a.2)
          else
            let x := a.2.fabricWrite a.1.2 .dmp e.1 8 e.2 none none
            ((a.1.1 ++ [b01 (x.took == .ignored)], x.locks), x.m)
        let r := l.foldl one (([], locks), m)
        let ignored := r.1.1
        let m := r.2.dmpSend 0x82 key ((ignored.filter (· == 0)).length :: ignored)
        (l.filter fun e => dmpLate e.1).foldl (fun a e => let x := a.2.fabricWrite a.1 .dmp e.1 8 e.2 none none; (x.locks, x.m)) (r.1.2, m)

/-- A ring of a kind (0 event, 1 Clippings) that DMP delivers (R245, R376). -/
def Mod.dmpDelivers (m : Mod) (kind h : Nat) : Bool :=
  if kind = 0 then m.dmpCarries h else m.flag CLP_HEDGE_CFG_EN h && m.get CLP_HEDGE_CFG_DELIVER h == 2

/-- CONS and PROD of a ring. -/
def Mod.dmpCons (m : Mod) (kind h : Nat) : Nat := if kind = 0 then m.get EVT_RING_CONS_CONS h else m.get CLP_RING_CONS_CONS h

/-- See dmpCons. -/
def Mod.dmpProd (m : Mod) (kind h : Nat) : Nat := if kind = 0 then m.get EVT_RING_PROD_PROD h else m.get CLP_RING_PROD_PROD h

/-- Up to where a ring has been sent, and since when nothing has advanced it. -/
def Mod.dmpSent (m : Mod) (kind h : Nat) : Nat × Nat := lookupD m.dmp.sent (16 * kind + h) (m.dmpCons kind h, m.now)

/-- See dmpSent. -/
def Mod.setSent (m : Mod) (kind h upTo since : Nat) : Mod := m.withDmp { m.dmp with sent := store m.dmp.sent (16 * kind + h) (upTo, since) }

/-- DMP_ACK (R379): CONS of a ring advances under R375 or R241. -/
def Mod.dmpAck (m : Mod) (locks : BitVec 5) (frame : List Byte) : BitVec 5 × Mod :=
  m.dmpMessage locks frame 0x03 (fun _ => false) fun m _ p =>
    match Config.dmpAckOf p with
    | none => (locks, m)
    | some (kind, h, cons) =>
      if 1 < kind ∨ 16 ≤ h ∨ 2 ^ 32 ≤ cons then (locks, m)
      else
        let sent := m.dmpSent kind h
        let a := if kind = 0 then m.ringCons true h cons else m.clipCons (m.get CLP_HEDGE_CFG_DELIVER h == 2) h cons
        (locks, if a.1 then a.2.setSent kind h sent.1 m.now else a.2)

/-- Words of record i of a ring as it lies in SDRAM. -/
def Mod.ringRecord (m : Mod) (kind h i : Nat) : List Nat :=
  if kind = 0 then
    let at_ := eventRegion + m.get HDG_EVT_CFG_ADDR h * 4096 + 16 * (i % m.ringSize h)
    [beNat (memRead m.drm.mem at_ 8), beNat (memRead m.drm.mem (at_ + 8) 8)]
  else (List.range 32).map fun k => beNat (sliceBytes (m.clipRecord h i) (8 * k) 8)

/-- Records of a ring sent from an index on (R379): up to 64 events or 5 Clippings; counted where they go for the first time. -/
def Mod.dmpRecords (m : Mod) (kind h from_ : Nat) (again : Bool) : Mod :=
  let left := (m.dmpProd kind h + 2 ^ 32 - from_) % 2 ^ 32
  let n := Nat.min left (if kind = 0 then 64 else 5)
  match m.firstKey with
  | none => m
  | some key =>
    if !m.dmpUp || !(m.dmpDelivers kind h) || n == 0 then m
    else
      let records := ((List.range n).map fun k => m.ringRecord kind h ((from_ + k) % 2 ^ 32)).flatten
      let m := m.dmpSend (if kind = 0 then 0x84 else 0x85) key (h :: from_ :: n :: records)
      let m := m.setSent kind h ((from_ + n) % 2 ^ 32) m.now
      if kind = 1 ∧ ¬ again then m.bump (clpCtr h 8) n else m

/-- Where sending goes on: at CONS when that has passed what was sent. -/
def Mod.dmpFrom (m : Mod) (kind h : Nat) : Nat :=
  let sent := (m.dmpSent kind h).1
  let cons := m.dmpCons kind h
  if (sent + 2 ^ 32 - cons) % 2 ^ 32 ≤ (m.dmpProd kind h + 2 ^ 32 - cons) % 2 ^ 32 then sent else cons

/-- DMP_EVENTS and DMP_CLIPPINGS (R376, R379): records not sent yet. -/
def Mod.dmpNext (m : Mod) (kind h : Nat) : Mod := m.dmpRecords kind h (m.dmpFrom kind h) false

/-- DMP_RESEND (R379): no ACK has advanced CONS for 100 ms, and the records that were sent go again from CONS. -/
def Mod.dmpResend (m : Mod) (kind h : Nat) : Mod :=
  let sent := m.dmpSent kind h
  if m.dmpFrom kind h = m.dmpCons kind h then m
  else (m.advanceTo (sent.2 + 100000000)).dmpRecords kind h (m.dmpCons kind h) true

/-- HELLO (R406): when DMP starts, and every 10 s until a message is accepted. -/
def Mod.hello (m : Mod) : Mod :=
  match m.firstKey with
  | none => m
  | some key =>
    if !m.dmpUp || m.dmp.heard then m
    else
      let m := match m.dmp.helloAt with
        | some t => m.advanceTo (t + 10 * oneSecond)
        | none => m
      let m := m.withDmp { m.dmp with helloAt := some m.now }
      m.dmpSend 0x86 key [(m.rd .DMP_RX_HIGH).toNat, (m.rd .DMP_TX_NEXT).toNat]

/-! ### What LLDP carries (R403) -/

/-- An LLDP TLV: 7 bits of type and 9 of length, then its information string (PRESUMED from IEEE 802.1AB, log 74). -/
def lldpTlv (type : Nat) (info : List Byte) : List Byte := toBytes 2 (type * 2 ^ 9 + info.length) ++ info

/-- The information string of the digest TLV of front port p, 26 octets: OUI, subtype 1, version 1, the drift of the whole and of the port's Hedge,
MIGRATED and the empty configuration, the Hedge, FORMAT, the global digest and the digest of the port's own Hedge alone. -/
def Mod.lldpDigest (m : Mod) (p : Nat) : List Byte :=
  let h := m.owner p
  let drift := m.get CFG_DRIFT_DRIFT
  let bits := b01 (drift.testBit 0) + 2 * b01 (drift.testBit (1 + h)) + 4 * m.get TOP_ORIGIN_MIGRATED + 8 * b01 (m.compAbsent 4)
  toBytes 3 (m.get LLDP_CFG_OUI) ++ toBytes 5 (2 ^ 32 + 2 ^ 24 + bits * 2 ^ 16 + h * 2 ^ 8) ++ toBytes 2 (m.get TOP_INFO_FORMAT) ++
    toBytes 8 (m.rd .GLB_CFG_DIGEST 0).toNat ++ toBytes 8 (m.rd .GLB_CFG_DIGEST (1 + h)).toNat

/-- What the standard microcode's LLDP transmit job carries on front port p: the chassis ID of subtype 7 with the serial number and, when TLV_EN is
set, the digest TLV. The job itself is microcode (opcode 0x29), whose frame enters by its queue operation. -/
def Mod.lldpCarries (m : Mod) (p : Nat) : List Byte :=
  lldpTlv 1 (7 :: Config.serial) ++ if m.flag LLDP_CFG_TLV_EN then lldpTlv 127 (m.lldpDigest p) else []

/-! ### Attestation (R487, R488) -/

/-- Octets 0 to 551 of the report. -/
def Mod.attestBody (m : Mod) (locks : BitVec 5) (nonce : List Byte) : List Byte :=
  let reg (r : Reg) (i : Nat := 0) : Nat := (m.readReg locks .sup r i).toNat
  let digest (n : Nat) : List Byte := match lookup m.upd.running n with
    | some l => if n = 4 ∧ m.compAbsent 4 then List.replicate 48 0 else compDigest l
    | none => List.replicate 48 0
  let record := m.readReg locks .sup .GRF_RECORD 0
  nonce ++ Config.serial ++ toBytes 8 m.tickNum ++ toBytes 8 (reg .TOP_DIGEST) ++
    ((List.range 17).map fun i => toBytes 8 (reg .GLB_CFG_DIGEST i)).flatten ++
    ((List.range 5).map digest).flatten ++ toBytes 4 (GRF_RECORD_SEQ.of record) ++ toBytes 2 (GRF_RECORD_ENTRIES.of record) ++
    [0, 0] ++ toBytes 8 (reg .GRF_SPARES) ++ toBytes 4 (m.get CFG_DRIFT_DRIFT) ++ List.replicate 4 0 ++ Config.identityKey ++
    List.replicate 7 0

/-- ATTEST_REQ (R487): answered with the signed report, unless it comes less than a second after the one before. -/
def Mod.attestReq (m : Mod) (locks : BitVec 5) (frame : List Byte) : BitVec 5 × Mod :=
  m.dmpMessage locks frame 0x04 (fun _ => false) fun m key p =>
    let early := match m.dmp.attestAt with
      | some t => decide (m.now < t + oneSecond)
      | none => false
    if early || p.length != 16 then (locks, m)
    else
      let body := m.attestBody locks p
      let l := body ++ Config.identitySign body
      (locks, (m.withDmp { m.dmp with attestAt := some m.now }).dmpSend 0x87 key (l.map (·.toNat)))

/-! ### A bundle over DMP (R421) -/

/-- A range of octets joined to those received. -/
def joinRange : List (Nat × Nat) → Nat × Nat → List (Nat × Nat)
  | [], x => [x]
  | y :: t, x =>
    if y.2 < x.1 then y :: joinRange t x
    else if x.2 < y.1 then x :: y :: t
    else joinRange t (Nat.min x.1 y.1, Nat.max x.2 y.2)

/-- The contiguous length received. -/
def Mod.gotLength (m : Mod) : Nat := match m.upd.got with
  | (0, n) :: _ => n
  | _ => 0

/-- UPD_REPLY. -/
def Mod.updReply (m : Mod) (key : Nat) : Mod := m.dmpSend 0x90 key [m.gotLength, m.updShown.toNat]

/-- UPD_BEGIN: a bundle of the stated length is about to come; refused while an update runs. -/
def Mod.updBegin (m : Mod) (locks : BitVec 5) (frame : List Byte) : BitVec 5 × Mod :=
  m.dmpMessage locks frame 0x10 (fun _ => false) fun m key p =>
    let n := fieldAt p 0 4
    let m := if m.updBusy then m.updRefused 1
      else
        let m := m.withUpd { m.upd with dmpLen := n, got := [], dataCount := 0, thenStart := false }
        (m.set UPD_CTL_LEN 0 n).setUpd 1
    (locks, m.updReply key)

/-- UPD_DATA: octets of the bundle at their offset, once a transfer has begun and within its length. -/
def Mod.updData (m : Mod) (locks : BitVec 5) (frame : List Byte) : BitVec 5 × Mod :=
  m.dmpMessage locks frame 0x11 (fun _ => false) fun m key p =>
    let off := fieldAt p 0 4
    let data := p.drop 8
    if m.updState ≠ 1 ∨ data.length = 0 ∨ m.upd.dmpLen < off + data.length ∨ bundleMax < off + data.length then (locks, m)
    else
      let m := m.drmPost .supervisor 0 (bundleArea + off) data
      let m := m.withUpd { m.upd with got := joinRange m.upd.got (off, off + data.length), dataCount := m.upd.dataCount + 1 }
      (locks, if m.upd.dataCount % 32 = 0 then m.updReply key else m)

/-- UPD_END: the transfer ends, and CHECK runs, or CHECK and START; a bundle that is not whole stays in transfer. -/
def Mod.updEnd (m : Mod) (locks : BitVec 5) (frame : List Byte) : BitVec 5 × Mod :=
  m.dmpMessage locks frame 0x12 (fun _ => false) fun m key p =>
    let op := fieldAt p 0 1
    let m := if m.updState ≠ 1 ∨ m.gotLength < m.upd.dmpLen then m
      else
        let m := (m.setUpd 2).withUpd { m.upd with thenStart := op == 2 }
        if op ≠ 1 ∧ op ≠ 2 then m
        else if m.flag GLB_STATUS_HEADLESS then m.setUpd 3
        else m.checkDone locks
    (locks, m.updReply key)

/-- UPD_OP: an operation as UPD_CTL issues it. -/
def Mod.updOpMessage (m : Mod) (locks : BitVec 5) (frame : List Byte) : BitVec 5 × Mod :=
  m.dmpMessage locks frame 0x13 (fun _ => false) fun m _ p => (locks, m.updOp locks (fieldAt p 0 1))

end Sys2Proof.Machine
end

