-- ==== Sys2Proof/Machine/ExecDmp.lean ====
section
/-! DEFINITION. DMP messages (R404 to R412). -/

namespace Sys2Proof.Machine

/-- DMP_READ (R379): A DMP READ message reads up to 64 registers and is answered with READ_RESP. -/
def execDmpRead (frame : List Byte) (s : State) : Host.Outcome State Fault Refusal := s.actLocks fun l m => m.dmpRead l frame

/-- DMP_WRITE (R379): A DMP WRITE message applies up to 32 register writes in order and is answered with WRITE_RESP. -/
def execDmpWrite (frame : List Byte) (s : State) : Host.Outcome State Fault Refusal := s.actLocks fun l m => m.dmpWrite l frame

/-- DMP_ACK (R379): A DMP ACK advances CONS of an event or Clippings ring. -/
def execDmpAck (frame : List Byte) (s : State) : Host.Outcome State Fault Refusal := s.actLocks fun l m => m.dmpAck l frame

/-- DMP_EVENTS (R379): The module sends event records from CONS onwards in EVENTS messages. -/
def execDmpEvents (h : Fin 16) (s : State) : Host.Outcome State Fault Refusal := s.act (·.dmpNext 0 h.val)

/-- DMP_CLIPPINGS (R379): The module sends Clippings records from CONS onwards in CLIPPINGS messages. -/
def execDmpClippings (h : Fin 16) (s : State) : Host.Outcome State Fault Refusal := s.act (·.dmpNext 1 h.val)

/-- DMP_RESEND (R379): No ACK advances CONS for 100 ms, so the module resends from CONS. -/
def execDmpResend (clippings : Bool) (h : Fin 16) (s : State) : Host.Outcome State Fault Refusal :=
  s.act (·.dmpResend (if clippings then 1 else 0) h.val)

/-- HELLO (R406): When DMP starts, and every 10 s until a message is accepted, the module sends HELLO. -/
def execHello (s : State) : Host.Outcome State Fault Refusal := s.act (·.hello)

/-- ATTEST_REQ (R487): An ATTEST_REQ is answered with a report signed by the identity key. -/
def execAttestReq (frame : List Byte) (s : State) : Host.Outcome State Fault Refusal := s.actLocks fun l m => m.attestReq l frame

/-- UPD_BEGIN (R421): A DMP UPD_BEGIN starts receiving a bundle of the stated length. -/
def execUpdBegin (frame : List Byte) (s : State) : Host.Outcome State Fault Refusal := s.actLocks fun l m => m.updBegin l frame

/-- UPD_DATA (R421): A DMP UPD_DATA places bundle octets at their offset in staging. -/
def execUpdData (frame : List Byte) (s : State) : Host.Outcome State Fault Refusal := s.actLocks fun l m => m.updData l frame

/-- UPD_END (R421): A DMP UPD_END ends the transfer and runs CHECK, or CHECK and START. -/
def execUpdEnd (frame : List Byte) (s : State) : Host.Outcome State Fault Refusal := s.actLocks fun l m => m.updEnd l frame

/-- UPD_OP (R421): A DMP UPD_OP issues an update operation as UPD_CTL does. -/
def execUpdOp (frame : List Byte) (s : State) : Host.Outcome State Fault Refusal := s.actLocks fun l m => m.updOpMessage l frame

end Sys2Proof.Machine
end

