-- ==== Sys2Proof/Machine/ExecDram.lean ====
section
/-! DEFINITION. The SDRAM controller (R308 to R334). -/

namespace Sys2Proof.Machine

/-- SDRAM_READ (R314): A DRM window command reads a 64-octet granule, within the path's rights. -/
def execSdramRead (path : Path) (v : Word) (s : State) : Host.Outcome State Fault Refusal :=
  s.put path .DRM_WIN_CMD 0 (withOp DRM_WIN_CMD_OP v 1) none

/-- SDRAM_WRITE (R314): A DRM window command writes a 64-octet granule, within the path's rights. -/
def execSdramWrite (path : Path) (v : Word) (s : State) : Host.Outcome State Fault Refusal :=
  s.put path .DRM_WIN_CMD 0 (withOp DRM_WIN_CMD_OP v 2) none

/-- SDRAM_REQUEST_DONE (R323): An SDRAM request completes, with correction, retry or an uncorrectable result. -/
def execSdramRequestDone (id : Nat) (how : BurstEnd) (hit : Bool) (s : State) : Host.Outcome State Fault Refusal :=
  s.act fun m => (m.drmDone id how hit).settleEnds

/-- REQUEST_PROMOTED (R317): An SDRAM request has waited 4 µs in its slot and is promoted. -/
def execRequestPromoted (id : Nat) (s : State) : Host.Outcome State Fault Refusal := s.act (·.requestPromoted id)

/-- REFRESH (R325): A same-bank refresh falls due in a subchannel. -/
def execRefresh (k : Fin 4) (s : State) : Host.Outcome State Fault Refusal := s.act (·.refresh k.val)

/-- REFRESH_2X (R325): A device reports a temperature above 85 °C, and the refresh interval halves. -/
def execRefresh2x (k : Fin 4) (hot : Bool) (s : State) : Host.Outcome State Fault Refusal := s.act (·.refresh2x k.val hot)

/-- DQS_TRACK (R326): Every 10 ms the DQS oscillator is tracked, with no hold. -/
def execDqsTrack (_c : Fin 2) (s : State) : Host.Outcome State Fault Refusal := s.act id

/-- MARGIN_SWEEP (R326): A margin sweep runs one subchannel step at a time, and MARGIN is raised below the floor. -/
def execMarginSweep (k : Fin 4) (margin : Nat) (s : State) : Host.Outcome State Fault Refusal :=
  s.act fun m =>
    let m := m.marginSweep k.val margin
    m.marginMeasured (33 + k.val / 2) (m.get DRM_CH_STATUS_MARGIN_PS (k.val / 2))

/-- ROW_RETIRE (R327): A retired SDRAM row is held, corrected and soft-repaired, or its device is marked erased. -/
def execRowRetire (repaired : Bool) (s : State) : Host.Outcome State Fault Refusal := s.act (·.rowRetired repaired)

/-- CHANNEL_LOST (R328): A channel fails training three times or exhausts its write retries, and the interleaved regions fold. -/
def execChannelLost (c : Fin 2) (writes : Bool) (s : State) : Host.Outcome State Fault Refusal :=
  s.act (·.channelLost c.val (if writes then 2 else 1))

/-- CHANNEL_OFFLINE (R328): STATE_REQ = 1 takes a channel offline when the other runs, and the regions fold. -/
def execChannelOffline (path : Path) (c : Fin 2) (s : State) : Host.Outcome State Fault Refusal :=
  s.put path .DRM_CH_CTL c.val (s.revised DRM_CH_CTL_STATE_REQ c.val 1) none

/-- CHANNEL_RETURN (R329): STATE_REQ = 0 retrains an offline channel and copies the mirrored regions back. -/
def execChannelReturn (path : Path) (c : Fin 2) (trained : Bool) (s : State) : Host.Outcome State Fault Refusal :=
  s.put path .DRM_CH_CTL c.val (s.revised DRM_CH_CTL_STATE_REQ c.val 0) (some (foundTest trained []))

/-- CHANNEL_RETURN_DONE (R329): The mirror copy completes and the interleaved regions unfold at a commit. -/
def execChannelReturnDone (c : Fin 2) (s : State) : Host.Outcome State Fault Refusal := s.act (·.channelReturnDone c.val)

end Sys2Proof.Machine
end

