-- ==== Sys2Proof/Machine/ExecEngine.lean ====
section
/-! DEFINITION. Engine clusters: jobs, timers, doorbells, exchanges, states, counters and samples (R250, R270 to R305). -/

namespace Sys2Proof.Machine

/-- JOB_START (R273): A thread comes free and the cluster starts the first eligible job from its sources. -/
def execJobStart (c : Fin 4) (s : State) : Host.Outcome State Fault Refusal := s.act (·.jobStart c.val)

/-- WATCHDOG (R262): A job runs MAX_CYCLES ENG cycles and is ended with fault kind 5. -/
def execWatchdog (t : ThreadRef) (s : State) : Host.Outcome State Fault Refusal := s.act (·.watchdog (threadKey t))

/-- TIMER_EXPIRY (R279): A timer reaches its expiry commit and its job is enqueued to TT, or is deferred when TT is full. -/
def execTimerExpiry (c : Fin 4) (s : State) : Host.Outcome State Fault Refusal := s.act (·.timerExpiry c.val)

/-- DOORBELL (R282): A write to ENG_DOORBELL makes a job in DB, or is refused. -/
def execDoorbell (path : Path) (c : Fin 4) (v : Word) (s : State) : Host.Outcome State Fault Refusal :=
  s.put path .ENG_DOORBELL c.val v none

/-- EXCHANGE_REQUEST (R289): A staged REQ with IMG_BASE starts a cluster's microcode exchange at its commit. -/
def execExchangeRequest (path : Path) (c : Fin 4) (v : Word) (s : State) : Host.Outcome State Fault Refusal :=
  s.put path .ENG_XCHG_CTL c.val (withOp ENG_XCHG_CTL_REQ v 1) none

/-- EXCHANGE_LOAD_DONE (R289): The control store load ends, its checks pass or fail, and the cluster is released at the next commit. -/
def execExchangeLoadDone (c : Fin 4) (fault : Option (Fin 4)) (s : State) : Host.Outcome State Fault Refusal :=
  s.act (·.exchangeLoadDone c.val (fault.map Fin.val))

/-- CLUSTER_OFFLINE (R291): STATE_REQ = 1 quiesces a cluster and re-homes its jobs and service queues. -/
def execClusterOffline (path : Path) (c : Fin 4) (rehome : Fin 4) (s : State) : Host.Outcome State Fault Refusal :=
  s.put path .ENG_CLUSTER_CTL c.val (ENG_CLUSTER_CTL_REHOME.put (s.revised ENG_CLUSTER_CTL_STATE_REQ c.val 1) rehome.val) none

/-- CLUSTER_RUN (R291): STATE_REQ = 0 returns an OFFLINE cluster to RUN with empty queues. -/
def execClusterRun (path : Path) (c : Fin 4) (s : State) : Host.Outcome State Fault Refusal :=
  s.put path .ENG_CLUSTER_CTL c.val (s.revised ENG_CLUSTER_CTL_STATE_REQ c.val 0) none

/-- CLUSTER_LOST (R291): A cluster's ENG domain fails; its running jobs restart in REHOME and its timers are lost. -/
def execClusterLost (c : Fin 4) (s : State) : Host.Outcome State Fault Refusal := s.act (·.clusterLost c.val)

/-- CONTROL_STORE_READ (R287): A control-store window read returns a microword and its check bits. -/
def execControlStoreRead (path : Path) (c : Fin 4) (v : Word) (s : State) : Host.Outcome State Fault Refusal :=
  s.put path .ENG_CS_WIN_CMD c.val (withOp ENG_CS_WIN_CMD_OP v 1) none

/-- CONTROL_STORE_WRITE (R287): A control-store window write, allowed only in an OFFLINE cluster, stores a microword with its check bits. -/
def execControlStoreWrite (path : Path) (c : Fin 4) (v : Word) (s : State) : Host.Outcome State Fault Refusal :=
  s.put path .ENG_CS_WIN_CMD c.val (withOp ENG_CS_WIN_CMD_OP v 2) none

/-- CONTROL_STORE_RELOAD_DONE (R437): A reloaded control-store row group is restored, and its waiting threads issue. -/
def execControlStoreReloadDone (c : Fin 4) (group : Fin 132) (s : State) : Host.Outcome State Fault Refusal :=
  s.act (·.storeReloaded c.val group.val)

/-- EPC_CTR_WRITE (R297): A write sets a programmable performance counter. -/
def execEpcCtrWrite (path : Path) (c : Fin 4) (phys : Fin 17) (n : Fin 8) (v : Word) (s : State) : Host.Outcome State Fault Refusal :=
  s.put path .EPC_CTR ((c.val * 17 + phys.val) * 8 + n.val) v none

/-- EPC_SEL_WRITE (R297): A selector write takes effect within 64 ENG cycles. -/
def execEpcSelWrite (path : Path) (c : Fin 4) (phys : Fin 17) (n : Fin 8) (v : Word) (s : State) : Host.Outcome State Fault Refusal :=
  s.put path .EPC_SEL ((c.val * 17 + phys.val) * 8 + n.val) v none

/-- FREEZE (R305): A FREEZE write freezes or thaws a cluster's counters and copies EPC_CYCLE. -/
def execFreeze (path : Path) (c : Fin 4) (on : Bool) (s : State) : Host.Outcome State Fault Refusal :=
  s.put path .EPC_CTL c.val (EPC_CTL_FREEZE.put 0 (if on then 1 else 0)) none

/-- SAMPLE_RECORD (R303): A tagged microword completes, and its sample record is written to the cluster's buffer. -/
def execSampleRecord (t : ThreadRef) (s : State) : Host.Outcome State Fault Refusal := s.act (·.sampleRecord (threadKey t))

/-- SAMPLE_READ (R304): An EPC_SAMPLE_CMD write reads one sample record into the data registers. -/
def execSampleRead (path : Path) (c : Fin 4) (index : Fin 1024) (s : State) : Host.Outcome State Fault Refusal :=
  s.put path .EPC_SAMPLE_CMD c.val (EPC_SAMPLE_CMD_INDEX.put 0 index.val) none

/-- SAMPLE_CONS_WRITE (R304): A write to the sample CONS index is accepted under the rule of R241. -/
def execSampleConsWrite (path : Path) (c : Fin 4) (v : Word) (s : State) : Host.Outcome State Fault Refusal :=
  s.put path .EPC_SAMPLE_IDX c.val v none

end Sys2Proof.Machine
end

