-- ==== Sys2Proof/Machine/ExecFrame.lean ====
section
/-! DEFINITION. Frames: arrival, cut-through, internal injection, selection and departure, and flow control (R12, R18, R46 to R56, R150, R182, R228). -/

namespace Sys2Proof.Machine

/-- FRAME_RECEIVED (R12): A whole frame received on a front port is checked, parsed, classified, looked up, policed and, in store-and-forward, admitted. -/
def execFrameReceived (p : Fin 128) (octets : List Byte) (line : LineErrs) (ago : Nat) (s : State) : Host.Outcome State Fault Refusal :=
  s.act fun m => (m.fecSeen p.val line).frameReceived p.val octets line.symbol ago

/-- CT_INGRESS_DECISION (R150): The ingress decision on a header window sends a candidate cut-through, or makes it fall back to store-and-forward. -/
def execCtIngressDecision (p : Fin 128) (octets : List Byte) (line : LineErrs) (ago : Nat) (s : State) : Host.Outcome State Fault Refusal :=
  s.act fun m => (m.fecSeen p.val line).ctIngressDecision p.val octets line.symbol ago

/-- CT_FRAME_END (R151): The end of a cut-through frame arrives; a bad frame has its outgoing FCS stamped invalid. -/
def execCtFrameEnd (p : Fin 128) (fault : ReadFault) (s : State) : Host.Outcome State Fault Refusal :=
  s.act (·.ctFrameEnd p.val fault)

/-- INTERNAL_INJECT (R18): A frame from host DMA, the supervisor or an engine cluster enters an ingress pipeline in a free slot. -/
def execInternalInject (w : Injected) (s : State) : Host.Outcome State Fault Refusal :=
  s.act fun m => (m.internalInject w).settleEnds

/-- EGRESS_SELECT (R182): When a port's transmitter can start a frame, the scheduler chooses the class, the source and the frame, subject to gates, shapers and launch times. -/
def execEgressSelect (d : Fin 134) (fault : ReadFault) (s : State) : Host.Outcome State Fault Refusal :=
  s.act (·.egressSelect d.val fault)

/-- COPY_DEPARTED (R228): A copy finishes leaving its port; a transmit-stamp job is enqueued when TS_JOB is set. -/
def execCopyDeparted (d : Fin 134) (s : State) : Host.Outcome State Fault Refusal := s.act (·.copyDeparted d.val)

/-- PFC_SEND (R50): A PFC frame leaves at the next frame boundary, within the PFC gate class window. -/
def execPfcSend (p : Fin 128) (s : State) : Host.Outcome State Fault Refusal := s.act (·.pfcSend p.val)

/-- PFC_REFRESH (R49): While XOFF persists, the refresh interval expires and the PFC frame is resent. -/
def execPfcRefresh (p : Fin 128) (s : State) : Host.Outcome State Fault Refusal := s.act (·.pfcRefresh p.val)

/-- PAUSE_RECEIVED (R47): A received MAC control frame pauses obeyed classes, or is counted and discarded. -/
def execPauseReceived (p : Fin 128) (octets : List Byte) (s : State) : Host.Outcome State Fault Refusal :=
  s.act (·.pauseReceived p.val octets)

/-- PAUSE_EXPIRY (R48): The pause timer of a class runs out, and the class is unpaused. -/
def execPauseExpiry (p : Fin 128) (c : Fin 8) (s : State) : Host.Outcome State Fault Refusal := s.act (·.pauseExpiry p.val c.val)

/-- LPI_ENTRY (R55): No frame has been eligible for IDLE_US, so the transmitter enters low-power idle. -/
def execLpiEntry (p : Fin 128) (s : State) : Host.Outcome State Fault Refusal := s.act (·.lpiEntry p.val)

/-- RX_LPI_ENTRY (R56): The receiver sees a low-power indication and enters low-power idle; no class is paused. -/
def execRxLpiEntry (p : Fin 128) (s : State) : Host.Outcome State Fault Refusal := s.act (·.rxLpiEntry p.val)

/-- RX_LPI_EXIT (R55): The link partner leaves low-power idle and the receiver clears LPI_RX. -/
def execRxLpiExit (p : Fin 128) (s : State) : Host.Outcome State Fault Refusal := s.act (·.rxLpiExit p.val)

end Sys2Proof.Machine
end

