-- ==== Sys2Proof/Machine/ExecHedge.lean ====
section
/-! DEFINITION. Hedges, Gaps, event rings, interrupts and PCI Express (R337 to R357, R374 to R381). -/

namespace Sys2Proof.Machine

/-- HEDGE_WALK_DONE (R163): The buffer walk of a Hedge reset completes, RESETTING clears and HEDGE_FLUSHED is raised. -/
def execHedgeWalkDone (h : Fin 16) (s : State) : Host.Outcome State Fault Refusal := s.act (·.hedgeWalkDone h.val)

/-- PORT_OWNER_WRITE (R335): A port owner change is accepted only for a disabled, empty port, and flushes the old Hedge's entries. -/
def execPortOwnerWrite (path : Path) (p : Fin 128) (h : Fin 16) (s : State) : Host.Outcome State Fault Refusal :=
  s.put path .HDG_PORT_OWNER p.val (HDG_PORT_OWNER_HEDGE.put 0 h.val) none

/-- ROOT_FLOOR_WRITE (R338): A write to HDG_ROOT_FLOOR sets floors for Hedge 0, and is refused above Hedge 0's current values. -/
def execRootFloorWrite (path : Path) (v : Word) (s : State) : Host.Outcome State Fault Refusal :=
  s.put path .HDG_ROOT_FLOOR 0 v none

/-- GAP_WRITE (R340): A Gap definition write is refused when it would make an invalid Gap valid. -/
def execGapWrite (path : Path) (g : Fin 64) (second : Bool) (v : Word) (s : State) : Host.Outcome State Fault Refusal :=
  s.put path (if second then .HDG_GAP_CFG1 else .HDG_GAP_CFG0) g.val v none

/-- FUNCTION_LEVEL_RESET (R345): An FLR stops the function's DMA, clears its window state, and starts a SOFT reset when configured. -/
def execFunctionLevelReset (fn : Fin 17) (s : State) : Host.Outcome State Fault Refusal := s.act (·.functionReset fn.val)

/-- EVT_CFG_WRITE (R346): An accepted event-ring placement write resets the ring indices, or is refused on overlap. -/
def execEvtCfgWrite (path : Path) (h : Fin 16) (v : Word) (s : State) : Host.Outcome State Fault Refusal :=
  s.put path .HDG_EVT_CFG h.val v none

/-- SWINT (R347): A write to HDG_SWINT raises interrupt sources 4 to 7 of a Hedge. -/
def execSwint (path : Path) (h : Fin 16) (raise : BitVec 4) (s : State) : Host.Outcome State Fault Refusal :=
  s.put path .HDG_SWINT h.val (HDG_SWINT_RAISE.put 0 raise.toNat) none

/-- VECTOR_MESSAGE (R348): A vector with a pending, unmasked cause sends a message once its moderation gap has passed. -/
def execVectorMessage (fn : Fin 17) (v : Fin 32) (s : State) : Host.Outcome State Fault Refusal :=
  s.act (·.vectorMessage fn.val v.val)

/-- SOFT_RESET (R349): A SOFT reset of a Hedge empties its running state and keeps its configuration. -/
def execSoftReset (path : Path) (h : Fin 16) (s : State) : Host.Outcome State Fault Refusal :=
  s.put path .HDG_RESET h.val (HDG_RESET_KIND.put 0 1) none

/-- RELOAD_RESET (R349): A RELOAD reset empties a Hedge and re-applies its Topiary section across ticks. -/
def execReloadReset (path : Path) (h : Fin 16) (s : State) : Host.Outcome State Fault Refusal :=
  s.put path .HDG_RESET h.val (HDG_RESET_KIND.put 0 2) none

/-- EVENT_CONS_WRITE (R375): A write to EVT_RING_CONS is accepted under the rule of R241, and a ring freed of overflow writes its OVERFLOW record. -/
def execEventConsWrite (path : Path) (h : Fin 16) (cons : BitVec 32) (s : State) : Host.Outcome State Fault Refusal :=
  s.put path .EVT_RING_CONS h.val (EVT_RING_CONS_CONS.put 0 cons.toNat) none

/-- PF_SWINT (R377): A write to EVT_PF_SWINT raises physical-function vectors 24 to 31. -/
def execPfSwint (path : Path) (raise : BitVec 8) (s : State) : Host.Outcome State Fault Refusal :=
  s.put path .EVT_PF_SWINT 0 (EVT_PF_SWINT_RAISE.put 0 raise.toNat) none

/-- PERST (R499): PERST_N low gives a PCI Express conventional reset of the endpoint alone. -/
def execPerst (low : Bool) (s : State) : Host.Outcome State Fault Refusal :=
  s.actAny fun m => if m.dieUp then m.perst low else m.withPin { m.pin with perstN := !low }

/-- PCIE_CONFIG_WRITE (R344): A PCI Express configuration write changes NumVFs or a function's bus mastering, which makes virtual functions exist or not and gives or takes away a Hedge's host path. -/
def execPcieConfigWrite (w : PcieWrite) (s : State) : Host.Outcome State Fault Refusal := s.act (·.pcieWrite w)

end Sys2Proof.Machine
end

