-- ==== Sys2Proof/Machine/ExecMem.lean ====
section
/-! DEFINITION. The memory, header, queue and timer rows of a microword (R263 to R269, R278 to R281). -/

namespace Sys2Proof.Machine

/-- HDR VIEW (R268): the half of the header buffer the window shows from the next microword on. -/
def viewSet (upper : Bool) (x : Micro) : Micro := { x with view := some upper }

/-- HDR write (R268): the result of ALU B, or of ALU A, goes into a window word. -/
def headerSet (fromB : Bool) (word : Nat) (x : Micro) : Micro := { x with hdrWrite := some (fromB, word) }

/-- RD8 (R263): Reads 8 bits from a memory space. -/
def execRd8 (x : MemArgs) (s : State) : Host.Outcome State Fault Refusal := s.actLocks fun l m => m.memPart l (.rd8 x) x 1

/-- RD16 (R263): Reads 16 bits from a memory space. -/
def execRd16 (x : MemArgs) (s : State) : Host.Outcome State Fault Refusal := s.actLocks fun l m => m.memPart l (.rd16 x) x 2

/-- RD32 (R263): Reads 32 bits from a memory space. -/
def execRd32 (x : MemArgs) (s : State) : Host.Outcome State Fault Refusal := s.actLocks fun l m => m.memPart l (.rd32 x) x 3

/-- RD64 (R263): Reads 64 bits from a memory space. -/
def execRd64 (x : MemArgs) (s : State) : Host.Outcome State Fault Refusal := s.actLocks fun l m => m.memPart l (.rd64 x) x 4

/-- RD128 (R263): Reads 128 bits from a memory space. -/
def execRd128 (x : MemArgs) (s : State) : Host.Outcome State Fault Refusal := s.actLocks fun l m => m.memPart l (.rd128 x) x 5

/-- WR8 (R263): Stores 8 bits to a memory space. -/
def execWr8 (x : MemArgs) (s : State) : Host.Outcome State Fault Refusal := s.actLocks fun l m => m.memPart l (.wr8 x) x 6

/-- WR16 (R263): Stores 16 bits to a memory space. -/
def execWr16 (x : MemArgs) (s : State) : Host.Outcome State Fault Refusal := s.actLocks fun l m => m.memPart l (.wr16 x) x 7

/-- WR32 (R263): Stores 32 bits to a memory space. -/
def execWr32 (x : MemArgs) (s : State) : Host.Outcome State Fault Refusal := s.actLocks fun l m => m.memPart l (.wr32 x) x 8

/-- WR64 (R263): Stores 64 bits to a memory space or a register. -/
def execWr64 (x : MemArgs) (s : State) : Host.Outcome State Fault Refusal := s.actLocks fun l m => m.memPart l (.wr64 x) x 9

/-- WR128 (R263): Stores 128 bits to a memory space. -/
def execWr128 (x : MemArgs) (s : State) : Host.Outcome State Fault Refusal := s.actLocks fun l m => m.memPart l (.wr128 x) x 10

/-- AADD64 (R263): An atomic add that returns the old value. -/
def execAadd64 (x : MemArgs) (s : State) : Host.Outcome State Fault Refusal := s.actLocks fun l m => m.memPart l (.aadd64 x) x 11

/-- AOR64 (R263): An atomic OR that returns the old value. -/
def execAor64 (x : MemArgs) (s : State) : Host.Outcome State Fault Refusal := s.actLocks fun l m => m.memPart l (.aor64 x) x 12

/-- CAS64 (R263): An atomic compare-and-swap that returns the old value. -/
def execCas64 (x : MemArgs) (s : State) : Host.Outcome State Fault Refusal := s.actLocks fun l m => m.memPart l (.cas64 x) x 13

/-- SWAP64 (R263): An atomic swap that returns the old value. -/
def execSwap64 (x : MemArgs) (s : State) : Host.Outcome State Fault Refusal := s.actLocks fun l m => m.memPart l (.swap64 x) x 14

/-- READ_RETURN (R265): A read's data arrive in RD0 and RD1, and RD_READY is set. -/
def execReadReturn (t : ThreadRef) (s : State) : Host.Outcome State Fault Refusal :=
  s.act fun m => (m.readReturn (threadKey t)).settleEnds

/-- HDR_VIEW (R268): The header window is moved to the lower or upper 128 octets. -/
def execHdrView (t : ThreadRef) (upper : Bool) (s : State) : Host.Outcome State Fault Refusal :=
  s.act (·.hdrPart (.hdrView t upper) t (viewSet upper))

/-- HDR_WRITE_A (R268): The ALU A result is written into a word of the header window. -/
def execHdrWriteA (t : ThreadRef) (word : Fin 16) (s : State) : Host.Outcome State Fault Refusal :=
  s.act (·.hdrPart (.hdrWriteA t word) t (headerSet false word.val))

/-- HDR_WRITE_B (R268): The ALU B result is written into a word of the header window. -/
def execHdrWriteB (t : ThreadRef) (word : Fin 16) (s : State) : Host.Outcome State Fault Refusal :=
  s.act (·.hdrPart (.hdrWriteB t word) t (headerSet true word.val))

/-- ENQUEUE (R269): The held frame re-enters with a named destination and is released. -/
def execQopEnqueue (t : ThreadRef) (mad : Fin 64) (imm : BitVec 16) (s : State) : Host.Outcome State Fault Refusal :=
  s.act (·.qopPart (.qopEnqueue t mad imm) t mad.val imm 1)

/-- REINJECT (R270): The held frame re-enters for full classification and lookup and is released. -/
def execQopReinject (t : ThreadRef) (mad : Fin 64) (imm : BitVec 16) (s : State) : Host.Outcome State Fault Refusal :=
  s.act (·.qopPart (.qopReinject t mad imm) t mad.val imm 2)

/-- DISCARD (R269): The held frame is freed and counted in ENG_DISCARD. -/
def execQopDiscard (t : ThreadRef) (mad : Fin 64) (imm : BitVec 16) (s : State) : Host.Outcome State Fault Refusal :=
  s.act (·.qopPart (.qopDiscard t mad imm) t mad.val imm 3)

/-- EXCEPTION (R269): The held frame goes to the exception path with a reason and is released. -/
def execQopException (t : ThreadRef) (mad : Fin 64) (imm : BitVec 16) (s : State) : Host.Outcome State Fault Refusal :=
  s.act (·.qopPart (.qopException t mad imm) t mad.val imm 4)

/-- CLIP (R269): The frame's next re-entry is marked to write a CLASSIFIER Clipping. -/
def execQopClip (t : ThreadRef) (mad : Fin 64) (imm : BitVec 16) (s : State) : Host.Outcome State Fault Refusal :=
  s.act (·.qopPart (.qopClip t mad imm) t mad.val imm 5)

/-- COPY (R269): A copy of the frame re-enters with a named destination, and the job keeps the frame. -/
def execQopCopy (t : ThreadRef) (mad : Fin 64) (imm : BitVec 16) (s : State) : Host.Outcome State Fault Refusal :=
  s.act (·.qopPart (.qopCopy t mad imm) t mad.val imm 6)

/-- ALLOC (R278): A timer is taken from the Hedge's reservation or from the shared pool. -/
def execTmrAlloc (t : ThreadRef) (s : State) : Host.Outcome State Fault Refusal :=
  s.act (·.tmrPart (.tmrAlloc t) t fun m c h _ _ => m.timerAlloc c h)

/-- ARM (R280): A timer is armed or re-armed with an expiry, an opcode and an ARG. -/
def execTmrArm (t : ThreadRef) (s : State) : Host.Outcome State Fault Refusal :=
  s.act (·.tmrPart (.tmrArm t) t fun m c h a b => m.timerArm c h a b)

/-- TIMER_CANCEL (R280): A timer is disarmed. -/
def execTimerCancel (t : ThreadRef) (s : State) : Host.Outcome State Fault Refusal :=
  s.act (·.tmrPart (.timerCancel t) t fun m c h a _ => m.timerCancel c h a)

/-- TIMER_READ (R280): A timer's remaining commits and armed state are read. -/
def execTimerRead (t : ThreadRef) (s : State) : Host.Outcome State Fault Refusal :=
  s.act (·.tmrPart (.timerRead t) t fun m c h a _ => m.timerRead c h a)

/-- FREE (R280): A timer is cancelled and returned. -/
def execTmrFree (t : ThreadRef) (s : State) : Host.Outcome State Fault Refusal :=
  s.act (·.tmrPart (.tmrFree t) t fun m c h a _ => m.timerFree c h a)

end Sys2Proof.Machine
end

