-- ==== Sys2Proof/Machine/ExecPmbus.lean ====
section
/-! DEFINITION. The power controller's I2C commands (R470, R479). -/

namespace Sys2Proof.Machine

/-- PAGE (R479): A PMBus PAGE command selects or reports feed A, feed B or the whole module. -/
def execPage (write : Option (BitVec 8)) (s : State) : Host.Outcome State Fault Refusal :=
  s.actPc (·.pagePm (write.map BitVec.toNat))

/-- CLEAR_FAULTS (R479): A PMBus CLEAR_FAULTS command clears latched status bits whose cause has ended. -/
def execClearFaults (s : State) : Host.Outcome State Fault Refusal := s.actPc (·.clearFaults)

/-- CAPABILITY (R479): A PMBus CAPABILITY command returns 0xA0. -/
def execCapability (s : State) : Host.Outcome State Fault Refusal := s.actPc (·.onPages [0, 1, 2] (·.reply [0xA0]))

/-- STATUS_BYTE (R479): A PMBus STATUS_BYTE command returns the page summary. -/
def execStatusByte (s : State) : Host.Outcome State Fault Refusal :=
  s.actPc (·.onPages [0, 1, 2] fun m => m.reply [m.pmWord % 256])

/-- STATUS_WORD (R479): A PMBus STATUS_WORD command returns the page summary. -/
def execStatusWord (s : State) : Host.Outcome State Fault Refusal := s.actPc (·.onPages [0, 1, 2] fun m => m.replyWord m.pmWord)

/-- STATUS_INPUT (R479): A PMBus STATUS_INPUT command returns the feed status bits. -/
def execStatusInput (s : State) : Host.Outcome State Fault Refusal := s.actPc (·.onPages [0, 1] fun m => m.reply [m.pmInput])

/-- STATUS_TEMPERATURE (R479): A PMBus STATUS_TEMPERATURE command returns the over-temperature bit. -/
def execStatusTemperature (s : State) : Host.Outcome State Fault Refusal := s.actPc (·.onPages [2] fun m => m.reply [m.pmTemp])

/-- STATUS_CML (R479): A PMBus STATUS_CML command returns the communication fault bits. -/
def execStatusCml (s : State) : Host.Outcome State Fault Refusal := s.actPc (·.onPages [0, 1, 2] fun m => m.reply [m.pmCml])

/-- STATUS_MFR_SPECIFIC (R479): A PMBus STATUS_MFR_SPECIFIC command returns the self-test, hold-up, hold and single-feed bits. -/
def execStatusMfrSpecific (s : State) : Host.Outcome State Fault Refusal :=
  s.actPc (·.onPages [0, 1, 2] fun m => m.reply [m.pmMfr])

/-- READ_VIN (R479): A PMBus READ_VIN command returns the feed voltage. -/
def execReadVin (s : State) : Host.Outcome State Fault Refusal :=
  s.actPc (·.onPages [0, 1] fun m => m.replyWord (linear11 (m.get PWR_FEED_VIN m.pwr.page) 100))

/-- READ_IIN (R479): A PMBus READ_IIN command returns the feed current. -/
def execReadIin (s : State) : Host.Outcome State Fault Refusal :=
  s.actPc (·.onPages [0, 1] fun m => m.replyWord (linear11 (m.get PWR_FEED_IIN m.pwr.page) 1000))

/-- READ_TEMPERATURE_1 (R479): A PMBus READ_TEMPERATURE_1 command returns the cold-plate temperature. -/
def execReadTemperature1 (s : State) : Host.Outcome State Fault Refusal :=
  s.actPc (·.onPages [2] fun m => m.replyWord (linear11 (signed 16 (m.get AGE_TEMP_COLD_PLATE)) 10))

/-- READ_TEMPERATURE_2 (R479): A PMBus READ_TEMPERATURE_2 command returns the hottest die sensor. -/
def execReadTemperature2 (s : State) : Host.Outcome State Fault Refusal :=
  s.actPc (·.onPages [2] fun m => m.replyWord (linear11 (signed 16 (m.get AGE_TEMP_TJ_MAX)) 10))

/-- READ_PIN (R479): A PMBus READ_PIN command returns the input power. -/
def execReadPin (s : State) : Host.Outcome State Fault Refusal :=
  s.actPc (·.onPages [0, 1, 2] fun m => m.replyWord (linear11 m.pinOf 100000))

/-- PMBUS_REVISION (R479): A PMBus PMBUS_REVISION command returns 0x33. -/
def execPmbusRevision (s : State) : Host.Outcome State Fault Refusal := s.actPc (·.onPages [0, 1, 2] (·.reply [0x33]))

/-- MFR_ID (R479): A PMBus MFR_ID command returns DUNQUEL. -/
def execMfrId (s : State) : Host.Outcome State Fault Refusal :=
  s.actPc (·.onPages [0, 1, 2] (·.replyBlock [0x44, 0x55, 0x4E, 0x51, 0x55, 0x45, 0x4C]))

/-- MFR_MODEL (R479): A PMBus MFR_MODEL command returns the ordering code. -/
def execMfrModel (s : State) : Host.Outcome State Fault Refusal := s.actPc (·.onPages [0, 1, 2] (·.replyBlock orderingCode))

/-- MFR_REVISION (R479): A PMBus MFR_REVISION command returns the PC component version. -/
def execMfrRevision (s : State) : Host.Outcome State Fault Refusal :=
  s.actPc (·.onPages [0, 1, 2] fun m => m.replyBlock (toBytes 2 (compVersion (lookupD m.upd.running 0 []))))

/-- MFR_SERIAL (R479): A PMBus MFR_SERIAL command returns the serial number. -/
def execMfrSerial (s : State) : Host.Outcome State Fault Refusal := s.actPc (·.onPages [0, 1, 2] (·.replyBlock Config.serial))

/-- MFR_FEED_ACTIVE (R470): A read returns the active feed; a write requests a transfer when I2C_CMD_EN is 1. -/
def execMfrFeedActive (write : Option (BitVec 8)) (s : State) : Host.Outcome State Fault Refusal :=
  s.actPc (·.mfrFeedActive (write.map BitVec.toNat))

/-- MFR_FEED_HEALTH (R479): A PMBus MFR_FEED_HEALTH command returns the feed self-test report. -/
def execMfrFeedHealth (s : State) : Host.Outcome State Fault Refusal :=
  s.actPc (·.onPages [0, 1] fun m => m.replyWord ((m.healthShown m.pwr.page).toNat % 65536))

/-- MFR_HOLDUP_US (R479): A PMBus MFR_HOLDUP_US command returns the computed hold-up time. -/
def execMfrHoldupUs (s : State) : Host.Outcome State Fault Refusal :=
  s.actPc (·.onPages [2] fun m => m.replyWord (m.get PWR_HOLDUP_HOLD_US))

/-- INVALID_COMMAND (R479): An undefined command, or a transaction with a bad PEC, is ignored and flagged in STATUS_CML. -/
def execInvalidCommand (why : BadCommand) (s : State) : Host.Outcome State Fault Refusal := s.actPc (·.invalidCommand why)

end Sys2Proof.Machine
end

