-- ==== Sys2Proof/Machine/ExecPort.lean ====
section
/-! DEFINITION. Ports, lanes and tiles (R42 to R68, R161). -/

namespace Sys2Proof.Machine

/-- PORT_CFG_WRITE (R42): A write to PRT_PORT_CFG changing type, FEC, negotiation or loopback is accepted only when the port and lane map allow it. -/
def execPortCfgWrite (path : Path) (p : Fin 128) (v : Word) (s : State) : Host.Outcome State Fault Refusal :=
  s.put path .PRT_PORT_CFG p.val v none

/-- AN_RESTART (R43): A failed negotiation is restarted every 1 s, with AN_FAIL held. -/
def execAnRestart (p : Fin 128) (s : State) : Host.Outcome State Fault Refusal := s.act (·.anRestart p.val)

/-- AN_DONE (R43): A port's negotiation completes: AN_DONE sets, AN_FAIL clears and link training begins where enabled. -/
def execAnDone (p : Fin 128) (s : State) : Host.Outcome State Fault Refusal := s.act (·.anDone p.val)

/-- TRAINING_FAIL (R45): A lane fails to train within the clause's wait time; negotiation restarts and a link-down is counted. -/
def execTrainingFail (p lane : Fin 128) (s : State) : Host.Outcome State Fault Refusal := s.act (·.trainingFail p.val lane.val)

/-- LINK_UP (R46): Every up condition holds, and the port enters the up state. -/
def execLinkUp (p : Fin 128) (s : State) : Host.Outcome State Fault Refusal := s.act (·.linkUp p.val)

/-- LINK_DOWN (R46): A loss of an up condition lasting 10 µs takes the port down and flushes its queues and FDB entries as configured. -/
def execLinkDown (p : Fin 128) (why : LinkLoss) (s : State) : Host.Outcome State Fault Refusal := s.act (·.linkDown p.val why)

/-- PORT_SLEEP (R57): ADMIN = 2 puts a port to sleep after its drain or flush policy; it is refused during a wake. -/
def execPortSleep (path : Path) (p : Fin 128) (s : State) : Host.Outcome State Fault Refusal :=
  s.put path .PRT_PORT_CFG p.val (s.revised PRT_PORT_CFG_ADMIN p.val 2) none

/-- TILE_STATE_REQUEST (R57): A write to PRT_TILE_CTL.STATE_REQ asks for ON, SLEEP or DOWN, and is refused during a wake. -/
def execTileStateRequest (path : Path) (t : Fin 8) (v : Word) (s : State) : Host.Outcome State Fault Refusal :=
  s.put path .PRT_TILE_CTL t.val v none

/-- HOST_WAKE (R58): ADMIN = 1 to a sleeping port, or STATE_REQ = 0 to a sleeping tile, requests or joins a wake. -/
def execHostWake (path : Path) (u : PortOrTile) (s : State) : Host.Outcome State Fault Refusal :=
  match u with
  | .port p => s.put path .PRT_PORT_CFG p.val (s.revised PRT_PORT_CFG_ADMIN p.val 1) none
  | .tile t => s.put path .PRT_TILE_CTL t.val (s.revised PRT_TILE_CTL_STATE_REQ t.val 0) none

/-- REMOTE_WAKE (R58): Signal detected for 10 µs on an eligible lane requests or joins a wake. -/
def execRemoteWake (lane : Fin 128) (s : State) : Host.Outcome State Fault Refusal := s.act (·.remoteWake lane.val)

/-- WAKE_DONE (R58): A port or tile wake completes, and every request in it is reported satisfied. -/
def execWakeDone (u : PortOrTile) (s : State) : Host.Outcome State Fault Refusal := s.act (·.wakeDone u)

/-- DRAIN_DONE (R161): The queued copies to a draining tile or port are gone, and the drain ends. -/
def execDrainDone (u : PortOrTile) (s : State) : Host.Outcome State Fault Refusal := s.act (·.drainDone u)

/-- DRAIN_LIMIT (R161): DRAIN_LIMIT_US passes, and the remaining copies are discarded with EGRESS_DOWN. -/
def execDrainLimit (u : PortOrTile) (s : State) : Host.Outcome State Fault Refusal := s.act (·.drainLimit u)

/-- LANE_THRESHOLD (R65): A lane's bucket crosses its threshold, the port goes down and a loopback test starts. -/
def execLaneThreshold (lane : Fin 128) (s : State) : Host.Outcome State Fault Refusal := s.act (·.laneThreshold lane.val)

/-- LANE_TEST_DONE (R65): The loopback test ends; a failing lane retires, otherwise LINK_FAULT is set and links resume. -/
def execLaneTestDone (p : Fin 128) (failing : List (Fin 128)) (s : State) : Host.Outcome State Fault Refusal :=
  s.act (·.laneTestDone p.val (failing.map Fin.val))

end Sys2Proof.Machine
end

