-- ==== Sys2Proof/Machine/ExecPower.lean ====
section
/-! DEFINITION. The power feeds (R464 to R477). -/

namespace Sys2Proof.Machine

/-- FEED_STATE (R464): A feed's voltage moves it to another state. -/
def execFeedState (f : Fin 2) (state : Fin 5) (vin : Nat) (s : State) : Host.Outcome State Fault Refusal :=
  s.actPc (·.feedState f.val state.val vin)

/-- TRANSFER_ON_LOSS (R469): The active feed is lost or enters OVER, and the load moves to a GOOD standby feed. -/
def execTransferOnLoss (vin : Nat) (s : State) : Host.Outcome State Fault Refusal := s.actPc (·.transferOnLoss vin)

/-- TRANSFER_COMMAND (R470): PWR_CMD OP 1 requests a commanded transfer, or it is refused. -/
def execTransferCommand (path : Path) (s : State) : Host.Outcome State Fault Refusal :=
  s.put path .PWR_CMD 0 (PWR_CMD_OP.put 0 1) none

/-- REVERT (R466): The preferred feed has been GOOD for WTR_S, so a commanded transfer back to it is made. -/
def execRevert (s : State) : Host.Outcome State Fault Refusal := s.actPc (·.revert)

/-- HOLD_END (R471): 20 ms after a transfer completes, the held status outputs take their live values. -/
def execHoldEnd (s : State) : Host.Outcome State Fault Refusal := s.actPc (·.holdEnds)

/-- SELF_TEST (R473): Every PERIOD_S both feed paths are tested and the results published. -/
def execSelfTest (a b : FeedTest) (s : State) : Host.Outcome State Fault Refusal := s.actPc (·.selfTest a b)

/-- SELF_TEST_NOW (R473): PWR_CMD OP 2 runs the feed self-test at once. -/
def execSelfTestNow (path : Path) (a b : FeedTest) (s : State) : Host.Outcome State Fault Refusal :=
  s.put path .PWR_CMD 0 (PWR_CMD_OP.put 0 2) (some (foundFeeds a b))

/-- HOLDUP_MEASURE (R476): Every 24 h and at start the hold-up bank's capacitance and ESR are measured. -/
def execHoldupMeasure (cap esr hold vbank : Nat) (s : State) : Host.Outcome State Fault Refusal :=
  s.actPc (·.holdupMeasure cap esr hold vbank)

/-- DIP (R477): Both feeds dip below 36.0 V for less than 100 µs, and the bank carries the module. -/
def execDip (s : State) : Host.Outcome State Fault Refusal := s.actPc (·.dip)

/-- PC_RESTART (R423): The power controller restarts from its other bank, with its outputs held. -/
def execPcRestart (s : State) : Host.Outcome State Fault Refusal := s.actPc (·.pcRestarts)

end Sys2Proof.Machine
end

