-- ==== Sys2Proof/Machine/ExecRepair.lean ====
section
/-! DEFINITION. Scrubbing, error buckets, grafts, ageing, forecasts and life (R431 to R462). -/

namespace Sys2Proof.Machine

/-- A slice, with the restart of the supervisor where its own memory fails (R437). -/
def Mod.scrubbed (m : Mod) (finds : List ScrubFind) (cut : Bool) : Mod :=
  let fails (x : ScrubFind) : Bool := x.mem.val == 13 && x.kind == .lost
  let m' := m.scrubSlice finds cut
  if m.scrubs && (m.get INT_SCRUB_CFG_EN).testBit 13 && finds.any fails then m'.supervisorLost else m'

/-- SCRUB_SLICE (R434): The scrubber reads a slice of each enabled memory and corrects or handles the errors it finds; the
tick's ending boundary may cut it (R34). -/
def execScrubSlice (run : ScrubRun) (s : State) : Host.Outcome State Fault Refusal := s.act (·.scrubbed run.finds run.cut)

/-- BUCKET_DECAY (R441): Every DECAY_TICKS ticks an error bucket falls by one. -/
def execBucketDecay (cls : Fin 6) (s : State) : Host.Outcome State Fault Refusal := s.act (·.bucketDecay cls.val)

/-- GRAFT_START (R445): The supervisor begins the next queued graft onto a spare. -/
def execGraftStart (s : State) : Host.Outcome State Fault Refusal := s.act (·.graftStart)

/-- GRAFT_DONE (R447): The last piece moves, the spare takes the unit's place, and the record entry is appended. -/
def execGraftDone (s : State) : Host.Outcome State Fault Refusal := s.act fun m => m.graftDone.graftLoads m.int.graft

/-- GRAFT_PARTIAL (R447): The source fails mid-copy, and the pieces not moved are poisoned, restarted or restored. -/
def execGraftPartial (left : List (Nat × Nat)) (s : State) : Host.Outcome State Fault Refusal := s.act fun m => (m.graftPartial left).graftLoads m.int.graft

/-- GRF_RETIRE (R454): GRF_CMD OP RETIRE grafts or retires a named unit as if its bucket had crossed. -/
def execGrfRetire (path : Path) (cls : Fin 8) (loc : BitVec 32) (s : State) : Host.Outcome State Fault Refusal :=
  s.put path .GRF_CMD 0 (grfWord 1 cls.val loc.toNat) none

/-- GRF_RETURN (R454): GRF_CMD OP RETURN tests a retired lane and returns it to service if it passes. -/
def execGrfReturn (path : Path) (loc : BitVec 32) (passed : Bool) (s : State) : Host.Outcome State Fault Refusal :=
  s.put path .GRF_CMD 0 (grfWord 2 0 loc.toNat) (some (foundTest passed []))

/-- SPARE_TEST_NOW (R444): GRF_CMD OP TEST runs the spares' self-test at once. -/
def execSpareTestNow (path : Path) (failing : List Nat) (s : State) : Host.Outcome State Fault Refusal :=
  s.put path .GRF_CMD 0 (grfWord 3 0 0) (some (foundTest true failing))

/-- SPARE_TEST (R444): Every SPARE_TEST_H hours the unused spares self-test and engines are rotated through test. -/
def execSpareTest (failing bad : List Nat) (s : State) : Host.Outcome State Fault Refusal := s.act (·.spareTest failing bad)

/-- AVS_STEP (R456): A domain rail is raised or lowered by 5 mV according to replica slack. -/
def execAvsStep (domain : Fin 25) (slack : Int) (s : State) : Host.Outcome State Fault Refusal :=
  s.act (·.avsStep domain.val slack)

/-- FORECAST (R457): Once a day the margin forecasts are refitted, and warnings are raised. -/
def execForecast (month : Nat) (eyes : List (Fin 128 × BitVec 8)) (s : State) : Host.Outcome State Fault Refusal :=
  s.act (·.forecast month eyes)

/-- LIFE_UPDATE (R459): Each second the die and module life budgets are charged by temperature. -/
def execLifeUpdate (tj tcp : Int) (s : State) : Host.Outcome State Fault Refusal := s.act (·.lifeUpdate tj tcp)

/-- LIFE_RECORD (R459): Every 6 h a LIFE entry for each budget is appended to the graft record. -/
def execLifeRecord (s : State) : Host.Outcome State Fault Refusal := s.act (·.lifeRecord)

end Sys2Proof.Machine
end

