-- ==== Sys2Proof/Machine/ExecSched.lean ====
section
/-! DEFINITION. Queues, edit templates, policers, shapers, gates and launch (R140, R158, R172 to R192). -/

namespace Sys2Proof.Machine

/-- VOQ_READ_OCCUPANCY (R141): A QUE_VOQ_CMD read returns the occupancy of a VOQ. -/
def execVoqReadOccupancy (path : Path) (v : Word) (s : State) : Host.Outcome State Fault Refusal :=
  s.put path .QUE_VOQ_CMD 0 (withOp QUE_VOQ_CMD_OP v 1) none

/-- VOQ_READ_HEAD (R140): A QUE_VOQ_CMD read returns the descriptor fields of a VOQ's head copy. -/
def execVoqReadHead (path : Path) (v : Word) (s : State) : Host.Outcome State Fault Refusal :=
  s.put path .QUE_VOQ_CMD 0 (withOp QUE_VOQ_CMD_OP v 2) none

/-- TEMPLATE_WRITE (R158): An edit template is written in one act. -/
def execTemplateWrite (path : Path) (v : Word) (s : State) : Host.Outcome State Fault Refusal :=
  s.put path .QUE_EDIT_CMD 0 (withOp QUE_EDIT_CMD_OP v 1) none

/-- TEMPLATE_READ (R158): An edit template is read. -/
def execTemplateRead (path : Path) (v : Word) (s : State) : Host.Outcome State Fault Refusal :=
  s.put path .QUE_EDIT_CMD 0 (withOp QUE_EDIT_CMD_OP v 2) none

/-- POLICER_WRITE (R175): A policer WRITE is staged and resets its buckets at its commit. -/
def execPolicerWrite (path : Path) (v : Word) (s : State) : Host.Outcome State Fault Refusal :=
  s.put path .POL_WIN_CMD 0 (withOp POL_WIN_CMD_OP v 1) none

/-- POLICER_READ (R32): A policer entry read returns the staged entry if one is pending, otherwise the committed entry. -/
def execPolicerRead (path : Path) (v : Word) (s : State) : Host.Outcome State Fault Refusal :=
  s.put path .POL_WIN_CMD 0 (withOp POL_WIN_CMD_OP v 2) none

/-- POLICER_READ_BUCKETS (R32): A policer bucket read returns the live bucket levels. -/
def execPolicerReadBuckets (path : Path) (v : Word) (s : State) : Host.Outcome State Fault Refusal :=
  s.put path .POL_WIN_CMD 0 (withOp POL_WIN_CMD_OP v 3) none

/-- STREAM_SHAPER_WRITE (R181): A stream shaper WRITE is staged and resets its tokens at its commit. -/
def execStreamShaperWrite (path : Path) (v : Word) (s : State) : Host.Outcome State Fault Refusal :=
  s.put path .SHP_WIN_CMD 0 (withOp SHP_WIN_CMD_OP v 1) none

/-- STREAM_SHAPER_READ (R32): A stream shaper entry read returns the staged or committed entry. -/
def execStreamShaperRead (path : Path) (v : Word) (s : State) : Host.Outcome State Fault Refusal :=
  s.put path .SHP_WIN_CMD 0 (withOp SHP_WIN_CMD_OP v 2) none

/-- SHAPER_READ_TOKENS (R32): A stream shaper token read returns the live tokens. -/
def execShaperReadTokens (path : Path) (v : Word) (s : State) : Host.Outcome State Fault Refusal :=
  s.put path .SHP_WIN_CMD 0 (withOp SHP_WIN_CMD_OP v 3) none

/-- GATE_ENTRY_WRITE (R189): A gate-list entry write is refused in an operational bank or a bank that is the target of a pending switch. -/
def execGateEntryWrite (path : Path) (v : Word) (s : State) : Host.Outcome State Fault Refusal :=
  s.put path .SCH_GATE_WIN_CMD 0 (withOp SCH_GATE_WIN_CMD_OP v 1) none

/-- GATE_ENTRY_READ (R185): A gate-list entry is read. -/
def execGateEntryRead (path : Path) (v : Word) (s : State) : Host.Outcome State Fault Refusal :=
  s.put path .SCH_GATE_WIN_CMD 0 (withOp SCH_GATE_WIN_CMD_OP v 2) none

/-- CYCLE_START (R185): A tick boundary meets the cycle condition of a bank, and a new gate cycle starts. -/
def execCycleStart (p : Fin 128) (s : State) : Host.Outcome State Fault Refusal := s.act (·.cycleStart p.val)

/-- GATE_ENTRY_BEGIN (R186): A gate entry begins at its grain boundary, and the gates change. -/
def execGateEntryBegin (p : Fin 128) (s : State) : Host.Outcome State Fault Refusal := s.act (·.gateEntryBegin p.val)

/-- LAUNCH_QUEUE_ENTRY (R193): A copy with a launch time at its VOQ head moves into the launch queue when there is room. -/
def execLaunchQueueEntry (source : Fin 134) (p : Fin 128) (c : Fin 8) (s : State) : Host.Outcome State Fault Refusal :=
  s.act (·.launchEntry source.val p.val c.val)

/-- LAUNCH_DUE (R194): A launch-queue head's time T arrives and it becomes a candidate. -/
def execLaunchDue (p : Fin 128) (c : Fin 8) (s : State) : Host.Outcome State Fault Refusal := s.act (·.launchDue p.val c.val)

end Sys2Proof.Machine
end

