-- ==== Sys2Proof/Machine/ExecSeq.lean ====
section
/-! DEFINITION. The sequencing rows of a microword, its fences and its thread control (R259 to R261). -/

namespace Sys2Proof.Machine

/-- Where NXT continues a thread (R259), with its return stack; an error is the job-fault kind (R262). -/
abbrev Goes := Except Nat (Nat × List Nat)

/-- NEXT and FENCE_NEXT: the next microaddress, of 15 bits. -/
def goNext (t : Thread) (_ : Mod) : Goes := .ok ((t.pc + 1) % 32768, t.stack)

/-- JUMP. -/
def goJump (x : SeqArgs) (t : Thread) (_ : Mod) : Goes := .ok (x.tgt.val, t.stack)

/-- BRANCH: CND reads the flags as they stood before the microword (R258). -/
def goBranch (x : SeqArgs) (t : Thread) (m : Mod) : Goes :=
  if condHolds (m.flagsBefore t) x.cnd.val then .ok (x.tgt.val, t.stack) else .ok ((t.pc + 1) % 32768, t.stack)

/-- DISPATCH: by bits [7:0] of the ASA source. -/
def goDispatch (x : SeqArgs) (t : Thread) (m : Mod) : Goes :=
  m.dispatchTo (threadKey x.t) t (m.source (threadKey x.t) t x.imm x.srcA.val).1.toNat

/-- CALL: eight returns deep. -/
def goCall (x : SeqArgs) (t : Thread) (_ : Mod) : Goes :=
  if 8 ≤ t.stack.length then .error 1 else .ok (x.tgt.val, (t.pc + 1) % 32768 :: t.stack)

/-- RETURN. -/
def goReturn (t : Thread) (_ : Mod) : Goes :=
  match t.stack with
  | a :: rest => .ok (a, rest)
  | [] => .error 1

/-- NEXT (R259): The thread continues at the next microaddress. -/
def execSeqNext (x : SeqArgs) (s : State) : Host.Outcome State Fault Refusal :=
  s.act fun m => (m.seqPart (.seqNext x) x false goNext).settleEnds

/-- JUMP (R259): The thread continues at TGT. -/
def execSeqJump (x : SeqArgs) (s : State) : Host.Outcome State Fault Refusal :=
  s.act fun m => (m.seqPart (.seqJump x) x false (goJump x)).settleEnds

/-- BRANCH (R259): The thread continues at TGT when CND holds, otherwise at the next microaddress. -/
def execSeqBranch (x : SeqArgs) (s : State) : Host.Outcome State Fault Refusal :=
  s.act fun m => (m.seqPart (.seqBranch x) x false (goBranch x)).settleEnds

/-- DISPATCH (R259): The thread continues at the dispatch entry named by a source. -/
def execSeqDispatch (x : SeqArgs) (s : State) : Host.Outcome State Fault Refusal :=
  s.act fun m => (m.seqPart (.seqDispatch x) x false (goDispatch x)).settleEnds

/-- CALL (R259): The thread pushes its return address and jumps to TGT. -/
def execSeqCall (x : SeqArgs) (s : State) : Host.Outcome State Fault Refusal :=
  s.act fun m => (m.seqPart (.seqCall x) x false (goCall x)).settleEnds

/-- RETURN (R259): The thread continues at the address popped from its return stack. -/
def execSeqReturn (x : SeqArgs) (s : State) : Host.Outcome State Fault Refusal :=
  s.act fun m => (m.seqPart (.seqReturn x) x false goReturn).settleEnds

/-- YIELD (R277): The thread yields behind the other ready threads; a tick job over budget stops here. -/
def execSeqYield (x : SeqArgs) (s : State) : Host.Outcome State Fault Refusal := s.act fun m => (m.yieldPart x).settleEnds

/-- END (R261): The job ends, its commit buffer is released, and any frame it still holds is orphaned. -/
def execSeqEnd (x : SeqArgs) (s : State) : Host.Outcome State Fault Refusal := s.actLocks fun l m => m.endPart l x

/-- FENCE_NEXT (R260): The thread continues once the fence that FEN names is satisfied. -/
def execSeqFenceNext (x : SeqArgs) (s : State) : Host.Outcome State Fault Refusal :=
  s.act fun m => (m.seqPart (.seqFenceNext x) x true goNext).settleEnds

/-- MEMORY_FENCE (R260): The fence waits for the thread's earlier stores and atomics to complete. -/
def execMemoryFence (t : ThreadRef) (s : State) : Host.Outcome State Fault Refusal := s.act (·.fencePart (.memoryFence t) t 1)

/-- QUEUE_FENCE (R260): The fence waits for the thread's earlier queue operations and pushes to be accepted. -/
def execQueueFence (t : ThreadRef) (s : State) : Host.Outcome State Fault Refusal := s.act (·.fencePart (.queueFence t) t 2)

/-- GLOBAL_FENCE (R260): The fence waits for memory, queue operations and register writes to take effect. -/
def execGlobalFence (t : ThreadRef) (s : State) : Host.Outcome State Fault Refusal := s.act (·.fencePart (.globalFence t) t 3)

/-- WAIT (R261): The thread is not ready until its outstanding read returns. -/
def execWait (t : ThreadRef) (s : State) : Host.Outcome State Fault Refusal := s.act (·.waitPart t)

/-- BEGIN_COMMIT (R261): The job's later effects are held in a commit buffer until END. -/
def execBeginCommit (t : ThreadRef) (s : State) : Host.Outcome State Fault Refusal := s.act (·.beginCommitPart t)

/-- START0 (R301): Counting window 0 of the thread opens. -/
def execStart0 (t : ThreadRef) (s : State) : Host.Outcome State Fault Refusal := s.act (·.cntPart (.start0 t) t 1)

/-- STOP0 (R301): Counting window 0 closes, or INVERTED is set when it was already closed. -/
def execStop0 (t : ThreadRef) (s : State) : Host.Outcome State Fault Refusal := s.act (·.cntPart (.stop0 t) t 2)

/-- START1 (R301): Counting window 1 of the thread opens. -/
def execStart1 (t : ThreadRef) (s : State) : Host.Outcome State Fault Refusal := s.act (·.cntPart (.start1 t) t 3)

/-- STOP1 (R301): Counting window 1 closes, or INVERTED is set when it was already closed. -/
def execStop1 (t : ThreadRef) (s : State) : Host.Outcome State Fault Refusal := s.act (·.cntPart (.stop1 t) t 4)

/-- COUNT (R301): A COUNT marker adds one to COUNT_MARKS. -/
def execCount (t : ThreadRef) (s : State) : Host.Outcome State Fault Refusal := s.act (·.cntPart (.count t) t 5)

end Sys2Proof.Machine
end

