-- ==== Sys2Proof/Machine/ExecTable.lean ====
section
/-! DEFINITION. The lookup tables: parse graph, classifier, FDB, tables, routes (R74, R88, R92, R101 to R118, R131 to R137, R372). -/

namespace Sys2Proof.Machine

/-- Jobs that waited for what a window's writes have done end. -/
def settledPair (x : BitVec 5 × Mod) : BitVec 5 × Mod := (x.1, x.2.settleEnds)

/-- PARSE_WRITE (R74): A parse-graph window write stages a node or transition for the tick's commit. -/
def execParseWrite (path : Path) (v : Word) (s : State) : Host.Outcome State Fault Refusal :=
  s.put path .PAR_WIN_CMD 0 (withOp PAR_WIN_CMD_OP v 1) none

/-- PARSE_READ (R32): A parse-graph window read returns the staged entry if one is pending, otherwise the committed entry. -/
def execParseRead (path : Path) (v : Word) (s : State) : Host.Outcome State Fault Refusal :=
  s.put path .PAR_WIN_CMD 0 (withOp PAR_WIN_CMD_OP v 2) none

/-- RULE_WRITE (R88): A classifier WRITE applies a rule in one act, and is refused on a valid entry unless FORCE is 1. -/
def execRuleWrite (path : Path) (v : Word) (s : State) : Host.Outcome State Fault Refusal :=
  s.put path .CLS_RULE_CMD 0 (withOp CLS_RULE_CMD_OP v 1) none

/-- RULE_READ (R88): A classifier read copies a rule into the path's staging set. -/
def execRuleRead (path : Path) (v : Word) (s : State) : Host.Outcome State Fault Refusal :=
  s.put path .CLS_RULE_CMD 0 (withOp CLS_RULE_CMD_OP v 2) none

/-- RULE_INVALIDATE (R88): A classifier INVALIDATE removes a rule in one LKP cycle. -/
def execRuleInvalidate (path : Path) (v : Word) (s : State) : Host.Outcome State Fault Refusal :=
  s.put path .CLS_RULE_CMD 0 (withOp CLS_RULE_CMD_OP v 3) none

/-- SLICE_CFG_WRITE (R92): A CLS_SLICE_CFG write is checked for owner, format and pair, and an accepted owner change invalidates the slice's rules. -/
def execSliceCfgWrite (path : Path) (slice : Fin 24) (v : Word) (s : State) : Host.Outcome State Fault Refusal :=
  s.put path .CLS_SLICE_CFG slice.val v none

/-- WINDOW_COMMAND_DONE (R372): A window command completes; BUSY clears and the path's held writes are accepted in order. -/
def execWindowCommandDone (w : Window) (s : State) : Host.Outcome State Fault Refusal :=
  s.actLocks fun l m => settledPair (m.windowCommandDone l (winId w))

/-- LEARN_INSERT (R106): A queued learn request is inserted under the insertion and quota rules. -/
def execLearnInsert (s : State) : Host.Outcome State Fault Refusal := s.act (·.learnInsert)

/-- FDB_INSERT (R107): An FDB INSERT command adds or updates an entry, subject to quota. -/
def execFdbInsert (path : Path) (v : Word) (s : State) : Host.Outcome State Fault Refusal :=
  s.put path .FDB_WIN_CMD 0 (withOp FDB_WIN_CMD_OP v 1) none

/-- FDB_DELETE (R110): An FDB DELETE by key removes an entry. -/
def execFdbDelete (path : Path) (v : Word) (s : State) : Host.Outcome State Fault Refusal :=
  s.put path .FDB_WIN_CMD 0 (withOp FDB_WIN_CMD_OP v 2) none

/-- FDB_SEARCH (R110): An FDB SEARCH by key returns the entry and its location. -/
def execFdbSearch (path : Path) (v : Word) (s : State) : Host.Outcome State Fault Refusal :=
  s.put path .FDB_WIN_CMD 0 (withOp FDB_WIN_CMD_OP v 3) none

/-- FDB_READ (R110): An FDB READ by location returns the entry. -/
def execFdbRead (path : Path) (v : Word) (s : State) : Host.Outcome State Fault Refusal :=
  s.put path .FDB_WIN_CMD 0 (withOp FDB_WIN_CMD_OP v 4) none

/-- FDB_WRITE (R110): An FDB WRITE by location writes an entry, and is refused if it would duplicate a key. -/
def execFdbWrite (path : Path) (v : Word) (s : State) : Host.Outcome State Fault Refusal :=
  s.put path .FDB_WIN_CMD 0 (withOp FDB_WIN_CMD_OP v 5) none

/-- FLUSH (R111): An FDB FLUSH walks every location and removes entries that match its selectors. -/
def execFlush (path : Path) (v : Word) (s : State) : Host.Outcome State Fault Refusal :=
  s.put path .FDB_WIN_CMD 0 (withOp FDB_WIN_CMD_OP v 6) none

/-- BUCKET_READ (R107): A BUCKET read returns a bucket's FAIL_COUNT. -/
def execBucketRead (path : Path) (v : Word) (s : State) : Host.Outcome State Fault Refusal :=
  s.put path .FDB_WIN_CMD 0 (withOp FDB_WIN_CMD_OP v 7) none

/-- BUCKET_READ_CLEAR (R107): A BUCKET read-and-clear returns and clears a bucket's FAIL_COUNT. -/
def execBucketReadClear (path : Path) (v : Word) (s : State) : Host.Outcome State Fault Refusal :=
  s.put path .FDB_WIN_CMD 0 (withOp FDB_WIN_CMD_OP v 8) none

/-- TABLE_WRITE (R137): An FDB_TBL_CMD write applies all words of a direct-indexed table entry in one act. -/
def execTableWrite (path : Path) (v : Word) (s : State) : Host.Outcome State Fault Refusal :=
  s.put path .FDB_TBL_CMD 0 (withOp FDB_TBL_CMD_OP v 1) none

/-- TABLE_READ (R137): An FDB_TBL_CMD read returns a direct-indexed table entry. -/
def execTableRead (path : Path) (v : Word) (s : State) : Host.Outcome State Fault Refusal :=
  s.put path .FDB_TBL_CMD 0 (withOp FDB_TBL_CMD_OP v 2) none

/-- PRUNER_STEP (R116): The Pruner sweeps buckets and Thicket entries, ages or removes dynamic entries, and promotes Thicket entries. -/
def execPrunerStep (s : State) : Host.Outcome State Fault Refusal := s.act (·.prunerStep)

/-- FRER_RESET (R122): When no frame has passed for RESET_MS, microcode sets TAKE_ANY in the FRER entry. -/
def execFrerReset (f : Fin 16384) (s : State) : Host.Outcome State Fault Refusal := s.act (·.frerReset f.val)

/-- LPM_WRITE (R132): An LPM window write sets a trie or associative entry atomically and starts the grace period. -/
def execLpmWrite (path : Path) (v : Word) (s : State) : Host.Outcome State Fault Refusal :=
  s.put path .LPM_WIN_CMD 0 (withOp LPM_WIN_CMD_OP v 1) none

/-- LPM_READ (R132): An LPM window read returns an entry. -/
def execLpmRead (path : Path) (v : Word) (s : State) : Host.Outcome State Fault Refusal :=
  s.put path .LPM_WIN_CMD 0 (withOp LPM_WIN_CMD_OP v 2) none

/-- CLEAR_NODE (R132): CLEAR_NODE clears a trie node over 256 LKP cycles. -/
def execClearNode (path : Path) (v : Word) (s : State) : Host.Outcome State Fault Refusal :=
  s.put path .LPM_WIN_CMD 0 (withOp LPM_WIN_CMD_OP v 3) none

/-- GRACE_END (R132): One microsecond after a CHILD or root change, GRACE clears. -/
def execGraceEnd (s : State) : Host.Outcome State Fault Refusal := s.act (·.graceEnd)

/-- TABLE_RESTORE (R438): The supervisor restores an invalidated entry, or reports TABLE_LOST. -/
def execTableRestore (code index : Nat) (entry : Option (List Word)) (s : State) : Host.Outcome State Fault Refusal :=
  s.act (·.tableRestore code index entry)

end Sys2Proof.Machine
end

