-- ==== Sys2Proof/Machine/ExecTime.lean ====
section
/-! DEFINITION. Network time: adjustments, references, the servo, the monitor, PPS and islands (R204 to R227). -/

namespace Sys2Proof.Machine

/-- ADJ_AUTO (R204): TIM_ADJ MODE 0 slews or steps by OFFSET according to STEP_US. -/
def execAdjAuto (path : Path) (v : Word) (s : State) : Host.Outcome State Fault Refusal :=
  s.put path .TIM_ADJ 0 (withOp TIM_ADJ_MODE v 0) none

/-- ADJ_STEP (R206): TIM_ADJ MODE 1 requests a step, applied at the next commit. -/
def execAdjStep (path : Path) (v : Word) (s : State) : Host.Outcome State Fault Refusal :=
  s.put path .TIM_ADJ 0 (withOp TIM_ADJ_MODE v 1) none

/-- ADJ_SLEW (R205): TIM_ADJ MODE 2 replaces any slew in progress with a slew by OFFSET. -/
def execAdjSlew (path : Path) (v : Word) (s : State) : Host.Outcome State Fault Refusal :=
  s.put path .TIM_ADJ 0 (withOp TIM_ADJ_MODE v 2) none

/-- ADJ_SET (R204): TIM_ADJ MODE 3 captures the set registers and sets the counter at the next commit. -/
def execAdjSet (path : Path) (v : Word) (s : State) : Host.Outcome State Fault Refusal :=
  s.put path .TIM_ADJ 0 (withOp TIM_ADJ_MODE v 3) none

/-- SLEW_DONE (R205): The slew remainder reaches zero, and the counter returns to 1 ns per cycle. -/
def execSlewDone (s : State) : Host.Outcome State Fault Refusal := s.act (·.slewDone)

/-- FREQ_WRITE (R203): A TIM_FREQ write moves the reference PLL output within 10 µs, or is kept during holdover. -/
def execFreqWrite (path : Path) (v : Word) (s : State) : Host.Outcome State Fault Refusal := s.put path .TIM_FREQ 0 v none

/-- REF_PRIO_WRITE (R213): A TIM_REF_PRIO write reorders or enables references, and may force a reselection. -/
def execRefPrioWrite (path : Path) (v : Word) (s : State) : Host.Outcome State Fault Refusal := s.put path .TIM_REF_PRIO 0 v none

/-- PTP_MEAS_WRITE (R214): The servo writes the PTP frequency and phase measurement for the monitor. -/
def execPtpMeasWrite (path : Path) (v : Word) (s : State) : Host.Outcome State Fault Refusal := s.put path .TIM_PTP_MEAS 0 v none

/-- MONITOR_WINDOW (R214): A 1 s REF window ends: deviations are measured and reference states, selection and time state are updated. -/
def execMonitorWindow (x : MonMeas) (s : State) : Host.Outcome State Fault Refusal := s.act (·.monitorWindow x)

/-- REFERENCE_LOSS (R215): A reference's edges or measurement writes stop for their limit, and it becomes ABSENT. -/
def execReferenceLoss (r : Fin 4) (s : State) : Host.Outcome State Fault Refusal := s.act (·.referenceLoss r.val)

/-- OVEN_READY (R215): An OCXO's oven becomes ready and the OCXO starts qualifying. -/
def execOvenReady (b : Bool) (s : State) : Host.Outcome State Fault Refusal := s.act (·.ovenReady (if b then 3 else 2))

/-- SERVO_TIMEOUT (R210): No TIM_ADJ write arrives for SERVO_TO_S seconds, and time enters HOLDOVER. -/
def execServoTimeout (s : State) : Host.Outcome State Fault Refusal := s.act (·.servoTimeout)

/-- HOLDOVER_EXPIRY (R210): HOLD_MAX_MIN minutes pass in holdover, and the time state becomes EXPIRED. -/
def execHoldoverExpiry (s : State) : Host.Outcome State Fault Refusal := s.act (·.holdoverExpiry)

/-- PPS_EDGE (R229): A PPS_IN edge is stamped and TIM_PPS_ERR is updated; a label may set or be checked against the counter. -/
def execPpsEdge (ago cycles : Nat) (ref10 : Bool) (s : State) : Host.Outcome State Fault Refusal :=
  s.act (·.ppsEdge ago cycles ref10)

/-- PPS_TOD_WRITE (R230): A TIM_PPS_TOD write arms a seconds label for the next edge. -/
def execPpsTodWrite (path : Path) (v : Word) (s : State) : Host.Outcome State Fault Refusal := s.put path .TIM_PPS_TOD 0 v none

/-- PPS_OUT_PULSE (R231): The counter crosses a whole second plus the offset, and PPS_OUT rises. -/
def execPpsOutPulse (s : State) : Host.Outcome State Fault Refusal := s.act (·.ppsOutPulse)

/-- PPS_OUT_END (R231): OUT_WIDTH_US passes, and PPS_OUT falls. -/
def execPpsOutEnd (s : State) : Host.Outcome State Fault Refusal := s.act (·.ppsOutEnd)

/-- ISLAND (R234): A write to TIM_ISLAND that changes its bits raises ISLAND. -/
def execIsland (path : Path) (v : Word) (s : State) : Host.Outcome State Fault Refusal := s.put path .TIM_ISLAND 0 v none

end Sys2Proof.Machine
end

