-- ==== Sys2Proof/Machine/ExecTrig.lean ====
section
/-! DEFINITION. Triggers (R505 to R511). -/

namespace Sys2Proof.Machine

/-- TRIG_EDGE (R505): An accepted TRIG_IN edge is stamped and pushed into its FIFO, or dropped when the FIFO is full. -/
def execTrigEdge (pin : Fin 4) (rising : Bool) (ago : Nat) (s : State) : Host.Outcome State Fault Refusal :=
  s.act (·.trigEdge pin.val rising ago)

/-- TRIG_POP (R506): A write to TRG_IN_POP removes the head record only when its INDEX matches. -/
def execTrigPop (path : Path) (pin : Fin 4) (index : BitVec 16) (s : State) : Host.Outcome State Fault Refusal :=
  s.put path .TRG_IN_POP pin.val (TRG_IN_POP_INDEX.put 0 index.toNat) none

/-- TRG_OUT_CFG_WRITE (R510): A TRG_OUT_CFG write assigns, keeps or releases a pin's function, or is refused. -/
def execTrgOutCfgWrite (path : Path) (pin : Fin 4) (v : Word) (s : State) : Host.Outcome State Fault Refusal :=
  s.put path .TRG_OUT_CFG pin.val v none

/-- TRG_OUT_LEVEL_WRITE (R510): A TRG_OUT_LEVEL write sets an ENGINE pin's level, or is refused. -/
def execTrgOutLevelWrite (path : Path) (pin : Fin 4) (level : Bool) (s : State) : Host.Outcome State Fault Refusal :=
  s.put path .TRG_OUT_LEVEL pin.val (TRG_OUT_LEVEL_LEVEL.put 0 (if level then 1 else 0)) none

end Sys2Proof.Machine
end

