-- ==== Sys2Proof/Machine/ExecUpdate.lean ====
section
/-! DEFINITION. Update: the operations of UPD_CTL, the steps, revocation and write protection (R415 to R430). -/

namespace Sys2Proof.Machine

/-- CHECK (R420): OP CHECK verifies the staged bundle whole without writing NVM. -/
def execCheck (path : Path) (s : State) : Host.Outcome State Fault Refusal :=
  s.put path .UPD_CTL 0 (s.revised UPD_CTL_OP 0 1) none

/-- START (R422): OP START begins the update steps in bundle order. -/
def execStart (path : Path) (s : State) : Host.Outcome State Fault Refusal :=
  s.put path .UPD_CTL 0 (s.revised UPD_CTL_OP 0 2) none

/-- CONFIRM (R425): OP CONFIRM confirms the current component when its health criteria hold. -/
def execConfirm (path : Path) (s : State) : Host.Outcome State Fault Refusal :=
  s.put path .UPD_CTL 0 (s.revised UPD_CTL_OP 0 3) none

/-- ABORT (R425): OP ABORT makes the current component fall back to its previous slot. -/
def execAbort (path : Path) (s : State) : Host.Outcome State Fault Refusal :=
  s.put path .UPD_CTL 0 (s.revised UPD_CTL_OP 0 4) none

/-- CANCEL (R427): OP CANCEL lets the current step finish and runs no later step. -/
def execCancel (path : Path) (s : State) : Host.Outcome State Fault Refusal :=
  s.put path .UPD_CTL 0 (s.revised UPD_CTL_OP 0 5) none

/-- CLEAR_STAGING (R421): OP CLEAR discards the staged bundle. -/
def execClearStaging (path : Path) (s : State) : Host.Outcome State Fault Refusal :=
  s.put path .UPD_CTL 0 (s.revised UPD_CTL_OP 0 6) none

/-- SLOT_WRITE_DONE (R422): A component has been written and read back; the boot record is written and the component exchanged. -/
def execSlotWriteDone (good : Bool) (s : State) : Host.Outcome State Fault Refusal := s.act (·.slotWriteDone good)

/-- SETTLE_DONE (R425): The health criteria have held for SETTLE_S, and the component is confirmed. -/
def execSettleDone (s : State) : Host.Outcome State Fault Refusal := s.actLocks fun l m => (l, m.settleDone l)

/-- CONFIRM_TIMEOUT (R425): The confirm window closes unconfirmed, and the component falls back. -/
def execConfirmTimeout (s : State) : Host.Outcome State Fault Refusal := s.act (·.confirmTimeout)

/-- UNIT_EXCHANGE (R423): During an SF or EM update step, after SF_WAIT_S or EM_GAP_S, the next tile's firmware reload or the next cluster's exchange begins. -/
def execUnitExchange (s : State) : Host.Outcome State Fault Refusal := s.act (·.unitExchange)

/-- REVOKE (R416): A write to UPD_REVOKE.STAGE blows the revocation fuses of the named key slots. -/
def execRevoke (path : Path) (stage : BitVec 4) (s : State) : Host.Outcome State Fault Refusal :=
  s.put path .UPD_REVOKE 0 (UPD_REVOKE_STAGE.put 0 stage.toNat) none

/-- WRITE_PROTECT_CHANGE (R427): NVM_WP_N changes level; a fall during step 1 of an update fails the step with reason 8. -/
def execWriteProtectChange (high : Bool) (s : State) : Host.Outcome State Fault Refusal :=
  s.actAny fun m => if m.dieUp then m.writeProtect high else m.withPin { m.pin with nvmWpN := high }

/-- NVM_WALK (R440): Every NVM_WALK_H hours every NVM slot and record is verified. -/
def execNvmWalk (failing : List Nat) (s : State) : Host.Outcome State Fault Refusal := s.act (·.nvmWalk failing)

end Sys2Proof.Machine
end

