-- ==== Sys2Proof/Machine/Dispatch.lean ====
section
/-! DEFINITION. Dispatch: each command and its one meaning. -/

namespace Sys2Proof.Machine

/-- The effect of a command on everything but the queue. -/
def exec (i : Instr) (s : State) : Host.Outcome State Fault Refusal :=
  match i with
  | .registerWrite p off len v => Sys2Proof.Machine.execRegisterWrite p off len v s
  | .sequenceClear p off v => Sys2Proof.Machine.execSequenceClear p off v s
  | .unlock p group key => Sys2Proof.Machine.execUnlock p group key s
  | .lock p bits => Sys2Proof.Machine.execLock p bits s
  | .jtagLowWrite v => Sys2Proof.Machine.execJtagLowWrite v s
  | .jtagHighWrite off v => Sys2Proof.Machine.execJtagHighWrite off v s
  | .jtagInstruction pinControl resetLow code => Sys2Proof.Machine.execJtagInstruction pinControl resetLow code s
  | .tickCommit => Sys2Proof.Machine.execTickCommit s
  | .tickPeriodWrite p period => Sys2Proof.Machine.execTickPeriodWrite p period s
  | .periodChange => Sys2Proof.Machine.execPeriodChange s
  | .tickJobDue => Sys2Proof.Machine.execTickJobDue s
  | .fence p token => Sys2Proof.Machine.execFence p token s
  | .fenceDone => Sys2Proof.Machine.execFenceDone s
  | .tickFence p token => Sys2Proof.Machine.execTickFence p token s
  | .frameReceived p octets line ago => Sys2Proof.Machine.execFrameReceived p octets line ago s
  | .ctIngressDecision p octets line ago => Sys2Proof.Machine.execCtIngressDecision p octets line ago s
  | .ctFrameEnd p fault => Sys2Proof.Machine.execCtFrameEnd p fault s
  | .internalInject w => Sys2Proof.Machine.execInternalInject w s
  | .egressSelect d fault => Sys2Proof.Machine.execEgressSelect d fault s
  | .copyDeparted d => Sys2Proof.Machine.execCopyDeparted d s
  | .pfcSend p => Sys2Proof.Machine.execPfcSend p s
  | .pfcRefresh p => Sys2Proof.Machine.execPfcRefresh p s
  | .pauseReceived p octets => Sys2Proof.Machine.execPauseReceived p octets s
  | .pauseExpiry p c => Sys2Proof.Machine.execPauseExpiry p c s
  | .lpiEntry p => Sys2Proof.Machine.execLpiEntry p s
  | .rxLpiEntry p => Sys2Proof.Machine.execRxLpiEntry p s
  | .portCfgWrite path p v => Sys2Proof.Machine.execPortCfgWrite path p v s
  | .anRestart p => Sys2Proof.Machine.execAnRestart p s
  | .trainingFail p lane => Sys2Proof.Machine.execTrainingFail p lane s
  | .linkUp p => Sys2Proof.Machine.execLinkUp p s
  | .linkDown p why => Sys2Proof.Machine.execLinkDown p why s
  | .portSleep path p => Sys2Proof.Machine.execPortSleep path p s
  | .tileStateRequest path t v => Sys2Proof.Machine.execTileStateRequest path t v s
  | .hostWake path u => Sys2Proof.Machine.execHostWake path u s
  | .remoteWake lane => Sys2Proof.Machine.execRemoteWake lane s
  | .wakeDone u => Sys2Proof.Machine.execWakeDone u s
  | .drainDone u => Sys2Proof.Machine.execDrainDone u s
  | .drainLimit u => Sys2Proof.Machine.execDrainLimit u s
  | .laneThreshold lane => Sys2Proof.Machine.execLaneThreshold lane s
  | .laneTestDone p failing => Sys2Proof.Machine.execLaneTestDone p failing s
  | .parseWrite path v => Sys2Proof.Machine.execParseWrite path v s
  | .parseRead path v => Sys2Proof.Machine.execParseRead path v s
  | .ruleWrite path v => Sys2Proof.Machine.execRuleWrite path v s
  | .ruleRead path v => Sys2Proof.Machine.execRuleRead path v s
  | .ruleInvalidate path v => Sys2Proof.Machine.execRuleInvalidate path v s
  | .sliceCfgWrite path slice v => Sys2Proof.Machine.execSliceCfgWrite path slice v s
  | .windowCommandDone w => Sys2Proof.Machine.execWindowCommandDone w s
  | .learnInsert => Sys2Proof.Machine.execLearnInsert s
  | .fdbInsert path v => Sys2Proof.Machine.execFdbInsert path v s
  | .fdbDelete path v => Sys2Proof.Machine.execFdbDelete path v s
  | .fdbSearch path v => Sys2Proof.Machine.execFdbSearch path v s
  | .fdbRead path v => Sys2Proof.Machine.execFdbRead path v s
  | .fdbWrite path v => Sys2Proof.Machine.execFdbWrite path v s
  | .flush path v => Sys2Proof.Machine.execFlush path v s
  | .bucketRead path v => Sys2Proof.Machine.execBucketRead path v s
  | .bucketReadClear path v => Sys2Proof.Machine.execBucketReadClear path v s
  | .tableWrite path v => Sys2Proof.Machine.execTableWrite path v s
  | .tableRead path v => Sys2Proof.Machine.execTableRead path v s
  | .prunerStep => Sys2Proof.Machine.execPrunerStep s
  | .frerReset f => Sys2Proof.Machine.execFrerReset f s
  | .lpmWrite path v => Sys2Proof.Machine.execLpmWrite path v s
  | .lpmRead path v => Sys2Proof.Machine.execLpmRead path v s
  | .clearNode path v => Sys2Proof.Machine.execClearNode path v s
  | .graceEnd => Sys2Proof.Machine.execGraceEnd s
  | .voqReadOccupancy path v => Sys2Proof.Machine.execVoqReadOccupancy path v s
  | .voqReadHead path v => Sys2Proof.Machine.execVoqReadHead path v s
  | .templateWrite path v => Sys2Proof.Machine.execTemplateWrite path v s
  | .templateRead path v => Sys2Proof.Machine.execTemplateRead path v s
  | .hedgeWalkDone h => Sys2Proof.Machine.execHedgeWalkDone h s
  | .policerWrite path v => Sys2Proof.Machine.execPolicerWrite path v s
  | .policerRead path v => Sys2Proof.Machine.execPolicerRead path v s
  | .policerReadBuckets path v => Sys2Proof.Machine.execPolicerReadBuckets path v s
  | .streamShaperWrite path v => Sys2Proof.Machine.execStreamShaperWrite path v s
  | .streamShaperRead path v => Sys2Proof.Machine.execStreamShaperRead path v s
  | .shaperReadTokens path v => Sys2Proof.Machine.execShaperReadTokens path v s
  | .gateEntryWrite path v => Sys2Proof.Machine.execGateEntryWrite path v s
  | .gateEntryRead path v => Sys2Proof.Machine.execGateEntryRead path v s
  | .cycleStart p => Sys2Proof.Machine.execCycleStart p s
  | .gateEntryBegin p => Sys2Proof.Machine.execGateEntryBegin p s
  | .launchQueueEntry source p c => Sys2Proof.Machine.execLaunchQueueEntry source p c s
  | .launchDue p c => Sys2Proof.Machine.execLaunchDue p c s
  | .adjAuto path v => Sys2Proof.Machine.execAdjAuto path v s
  | .adjStep path v => Sys2Proof.Machine.execAdjStep path v s
  | .adjSlew path v => Sys2Proof.Machine.execAdjSlew path v s
  | .adjSet path v => Sys2Proof.Machine.execAdjSet path v s
  | .slewDone => Sys2Proof.Machine.execSlewDone s
  | .freqWrite path v => Sys2Proof.Machine.execFreqWrite path v s
  | .refPrioWrite path v => Sys2Proof.Machine.execRefPrioWrite path v s
  | .ptpMeasWrite path v => Sys2Proof.Machine.execPtpMeasWrite path v s
  | .monitorWindow x => Sys2Proof.Machine.execMonitorWindow x s
  | .referenceLoss r => Sys2Proof.Machine.execReferenceLoss r s
  | .ovenReady b => Sys2Proof.Machine.execOvenReady b s
  | .servoTimeout => Sys2Proof.Machine.execServoTimeout s
  | .holdoverExpiry => Sys2Proof.Machine.execHoldoverExpiry s
  | .ppsEdge ago cycles ref10 => Sys2Proof.Machine.execPpsEdge ago cycles ref10 s
  | .ppsTodWrite path v => Sys2Proof.Machine.execPpsTodWrite path v s
  | .ppsOutPulse => Sys2Proof.Machine.execPpsOutPulse s
  | .ppsOutEnd => Sys2Proof.Machine.execPpsOutEnd s
  | .island path v => Sys2Proof.Machine.execIsland path v s
  | .recordWrite c => Sys2Proof.Machine.execRecordWrite c s
  | .ringCfgWrite path h v => Sys2Proof.Machine.execRingCfgWrite path h v s
  | .consWrite path h cons => Sys2Proof.Machine.execConsWrite path h cons s
  | .hostBaseWrite path h v => Sys2Proof.Machine.execHostBaseWrite path h v s
  | .clippingsFlush h c n => Sys2Proof.Machine.execClippingsFlush h c n s
  | .jobStart c => Sys2Proof.Machine.execJobStart c s
  | .aluNop x => Sys2Proof.Machine.execAluNop x s
  | .aluPass x => Sys2Proof.Machine.execAluPass x s
  | .aluAdd x => Sys2Proof.Machine.execAluAdd x s
  | .aluSub x => Sys2Proof.Machine.execAluSub x s
  | .aluAnd x => Sys2Proof.Machine.execAluAnd x s
  | .aluOr x => Sys2Proof.Machine.execAluOr x s
  | .aluXor x => Sys2Proof.Machine.execAluXor x s
  | .aluAndn x => Sys2Proof.Machine.execAluAndn x s
  | .aluShl x => Sys2Proof.Machine.execAluShl x s
  | .aluShr x => Sys2Proof.Machine.execAluShr x s
  | .aluSar x => Sys2Proof.Machine.execAluSar x s
  | .aluRor x => Sys2Proof.Machine.execAluRor x s
  | .aluExt x => Sys2Proof.Machine.execAluExt x s
  | .aluMin x => Sys2Proof.Machine.execAluMin x s
  | .aluMax x => Sys2Proof.Machine.execAluMax x s
  | .aluCmp x => Sys2Proof.Machine.execAluCmp x s
  | .aluTest x => Sys2Proof.Machine.execAluTest x s
  | .aluAddc x => Sys2Proof.Machine.execAluAddc x s
  | .aluBswap x => Sys2Proof.Machine.execAluBswap x s
  | .aluPopcnt x => Sys2Proof.Machine.execAluPopcnt x s
  | .aluClz x => Sys2Proof.Machine.execAluClz x s
  | .aluMul x => Sys2Proof.Machine.execAluMul x s
  | .aluCsum x => Sys2Proof.Machine.execAluCsum x s
  | .aluCrc32 x => Sys2Proof.Machine.execAluCrc32 x s
  | .aluSel x => Sys2Proof.Machine.execAluSel x s
  | .seqNext x => Sys2Proof.Machine.execSeqNext x s
  | .seqJump x => Sys2Proof.Machine.execSeqJump x s
  | .seqBranch x => Sys2Proof.Machine.execSeqBranch x s
  | .seqDispatch x => Sys2Proof.Machine.execSeqDispatch x s
  | .seqCall x => Sys2Proof.Machine.execSeqCall x s
  | .seqReturn x => Sys2Proof.Machine.execSeqReturn x s
  | .seqYield x => Sys2Proof.Machine.execSeqYield x s
  | .seqEnd x => Sys2Proof.Machine.execSeqEnd x s
  | .seqFenceNext x => Sys2Proof.Machine.execSeqFenceNext x s
  | .memoryFence t => Sys2Proof.Machine.execMemoryFence t s
  | .queueFence t => Sys2Proof.Machine.execQueueFence t s
  | .globalFence t => Sys2Proof.Machine.execGlobalFence t s
  | .rd8 x => Sys2Proof.Machine.execRd8 x s
  | .rd16 x => Sys2Proof.Machine.execRd16 x s
  | .rd32 x => Sys2Proof.Machine.execRd32 x s
  | .rd64 x => Sys2Proof.Machine.execRd64 x s
  | .rd128 x => Sys2Proof.Machine.execRd128 x s
  | .wr8 x => Sys2Proof.Machine.execWr8 x s
  | .wr16 x => Sys2Proof.Machine.execWr16 x s
  | .wr32 x => Sys2Proof.Machine.execWr32 x s
  | .wr64 x => Sys2Proof.Machine.execWr64 x s
  | .wr128 x => Sys2Proof.Machine.execWr128 x s
  | .aadd64 x => Sys2Proof.Machine.execAadd64 x s
  | .aor64 x => Sys2Proof.Machine.execAor64 x s
  | .cas64 x => Sys2Proof.Machine.execCas64 x s
  | .swap64 x => Sys2Proof.Machine.execSwap64 x s
  | .readReturn t => Sys2Proof.Machine.execReadReturn t s
  | .hdrView t upper => Sys2Proof.Machine.execHdrView t upper s
  | .hdrWriteA t word => Sys2Proof.Machine.execHdrWriteA t word s
  | .hdrWriteB t word => Sys2Proof.Machine.execHdrWriteB t word s
  | .qopEnqueue t mad imm => Sys2Proof.Machine.execQopEnqueue t mad imm s
  | .qopReinject t mad imm => Sys2Proof.Machine.execQopReinject t mad imm s
  | .qopDiscard t mad imm => Sys2Proof.Machine.execQopDiscard t mad imm s
  | .qopException t mad imm => Sys2Proof.Machine.execQopException t mad imm s
  | .qopClip t mad imm => Sys2Proof.Machine.execQopClip t mad imm s
  | .qopCopy t mad imm => Sys2Proof.Machine.execQopCopy t mad imm s
  | .tmrAlloc t => Sys2Proof.Machine.execTmrAlloc t s
  | .tmrArm t => Sys2Proof.Machine.execTmrArm t s
  | .timerCancel t => Sys2Proof.Machine.execTimerCancel t s
  | .timerRead t => Sys2Proof.Machine.execTimerRead t s
  | .tmrFree t => Sys2Proof.Machine.execTmrFree t s
  | .wait t => Sys2Proof.Machine.execWait t s
  | .beginCommit t => Sys2Proof.Machine.execBeginCommit t s
  | .start0 t => Sys2Proof.Machine.execStart0 t s
  | .stop0 t => Sys2Proof.Machine.execStop0 t s
  | .start1 t => Sys2Proof.Machine.execStart1 t s
  | .stop1 t => Sys2Proof.Machine.execStop1 t s
  | .count t => Sys2Proof.Machine.execCount t s
  | .watchdog t => Sys2Proof.Machine.execWatchdog t s
  | .timerExpiry c => Sys2Proof.Machine.execTimerExpiry c s
  | .doorbell path c v => Sys2Proof.Machine.execDoorbell path c v s
  | .exchangeRequest path c v => Sys2Proof.Machine.execExchangeRequest path c v s
  | .exchangeLoadDone c fault => Sys2Proof.Machine.execExchangeLoadDone c fault s
  | .clusterOffline path c rehome => Sys2Proof.Machine.execClusterOffline path c rehome s
  | .clusterRun path c => Sys2Proof.Machine.execClusterRun path c s
  | .clusterLost c => Sys2Proof.Machine.execClusterLost c s
  | .controlStoreRead path c v => Sys2Proof.Machine.execControlStoreRead path c v s
  | .controlStoreWrite path c v => Sys2Proof.Machine.execControlStoreWrite path c v s
  | .epcCtrWrite path c phys n v => Sys2Proof.Machine.execEpcCtrWrite path c phys n v s
  | .epcSelWrite path c phys n v => Sys2Proof.Machine.execEpcSelWrite path c phys n v s
  | .freeze path c on => Sys2Proof.Machine.execFreeze path c on s
  | .sampleRecord t => Sys2Proof.Machine.execSampleRecord t s
  | .sampleRead path c index => Sys2Proof.Machine.execSampleRead path c index s
  | .sampleConsWrite path c v => Sys2Proof.Machine.execSampleConsWrite path c v s
  | .sdramRead path v => Sys2Proof.Machine.execSdramRead path v s
  | .sdramWrite path v => Sys2Proof.Machine.execSdramWrite path v s
  | .sdramRequestDone id how hit => Sys2Proof.Machine.execSdramRequestDone id how hit s
  | .requestPromoted id => Sys2Proof.Machine.execRequestPromoted id s
  | .refresh k => Sys2Proof.Machine.execRefresh k s
  | .refresh2x k hot => Sys2Proof.Machine.execRefresh2x k hot s
  | .dqsTrack c => Sys2Proof.Machine.execDqsTrack c s
  | .marginSweep k margin => Sys2Proof.Machine.execMarginSweep k margin s
  | .rowRetire repaired => Sys2Proof.Machine.execRowRetire repaired s
  | .channelLost c writes => Sys2Proof.Machine.execChannelLost c writes s
  | .channelOffline path c => Sys2Proof.Machine.execChannelOffline path c s
  | .channelReturn path c trained => Sys2Proof.Machine.execChannelReturn path c trained s
  | .channelReturnDone c => Sys2Proof.Machine.execChannelReturnDone c s
  | .portOwnerWrite path p h => Sys2Proof.Machine.execPortOwnerWrite path p h s
  | .rootFloorWrite path v => Sys2Proof.Machine.execRootFloorWrite path v s
  | .gapWrite path g second v => Sys2Proof.Machine.execGapWrite path g second v s
  | .functionLevelReset fn => Sys2Proof.Machine.execFunctionLevelReset fn s
  | .evtCfgWrite path h v => Sys2Proof.Machine.execEvtCfgWrite path h v s
  | .swint path h raise => Sys2Proof.Machine.execSwint path h raise s
  | .vectorMessage fn v => Sys2Proof.Machine.execVectorMessage fn v s
  | .softReset path h => Sys2Proof.Machine.execSoftReset path h s
  | .reloadReset path h => Sys2Proof.Machine.execReloadReset path h s
  | .eventConsWrite path h cons => Sys2Proof.Machine.execEventConsWrite path h cons s
  | .pfSwint path raise => Sys2Proof.Machine.execPfSwint path raise s
  | .dmpRead frame => Sys2Proof.Machine.execDmpRead frame s
  | .dmpWrite frame => Sys2Proof.Machine.execDmpWrite frame s
  | .dmpAck frame => Sys2Proof.Machine.execDmpAck frame s
  | .dmpEvents h => Sys2Proof.Machine.execDmpEvents h s
  | .dmpClippings h => Sys2Proof.Machine.execDmpClippings h s
  | .dmpResend clippings h => Sys2Proof.Machine.execDmpResend clippings h s
  | .hello => Sys2Proof.Machine.execHello s
  | .attestReq frame => Sys2Proof.Machine.execAttestReq frame s
  | .updBegin frame => Sys2Proof.Machine.execUpdBegin frame s
  | .updData frame => Sys2Proof.Machine.execUpdData frame s
  | .updEnd frame => Sys2Proof.Machine.execUpdEnd frame s
  | .updOp frame => Sys2Proof.Machine.execUpdOp frame s
  | .powerOn f vin x => Sys2Proof.Machine.execPowerOn f vin x s
  | .porst x => Sys2Proof.Machine.execPorst x s
  | .deviceReset x => Sys2Proof.Machine.execDeviceReset x s
  | .perst low => Sys2Proof.Machine.execPerst low s
  | .lockstepDivergence => Sys2Proof.Machine.execLockstepDivergence s
  | .supervisorRestart => Sys2Proof.Machine.execSupervisorRestart s
  | .degraded => Sys2Proof.Machine.execDegraded s
  | .supervisorWatchdog => Sys2Proof.Machine.execSupervisorWatchdog s
  | .nvmRetry => Sys2Proof.Machine.execNvmRetry s
  | .check path => Sys2Proof.Machine.execCheck path s
  | .start path => Sys2Proof.Machine.execStart path s
  | .slotWriteDone good => Sys2Proof.Machine.execSlotWriteDone good s
  | .confirm path => Sys2Proof.Machine.execConfirm path s
  | .abort path => Sys2Proof.Machine.execAbort path s
  | .cancel path => Sys2Proof.Machine.execCancel path s
  | .clearStaging path => Sys2Proof.Machine.execClearStaging path s
  | .settleDone => Sys2Proof.Machine.execSettleDone s
  | .confirmTimeout => Sys2Proof.Machine.execConfirmTimeout s
  | .revoke path stage => Sys2Proof.Machine.execRevoke path stage s
  | .gaspTrigger => Sys2Proof.Machine.execGaspTrigger s
  | .nvmWalk failing => Sys2Proof.Machine.execNvmWalk failing s
  | .scrubSlice run => Sys2Proof.Machine.execScrubSlice run s
  | .controlStoreReloadDone c group => Sys2Proof.Machine.execControlStoreReloadDone c group s
  | .tableRestore code index entry => Sys2Proof.Machine.execTableRestore code index entry s
  | .bucketDecay cls => Sys2Proof.Machine.execBucketDecay cls s
  | .graftStart => Sys2Proof.Machine.execGraftStart s
  | .graftDone => Sys2Proof.Machine.execGraftDone s
  | .graftPartial left => Sys2Proof.Machine.execGraftPartial left s
  | .grfRetire path cls loc => Sys2Proof.Machine.execGrfRetire path cls loc s
  | .grfReturn path loc passed => Sys2Proof.Machine.execGrfReturn path loc passed s
  | .spareTestNow path failing => Sys2Proof.Machine.execSpareTestNow path failing s
  | .spareTest failing bad => Sys2Proof.Machine.execSpareTest failing bad s
  | .avsStep domain slack => Sys2Proof.Machine.execAvsStep domain slack s
  | .forecast month eyes => Sys2Proof.Machine.execForecast month eyes s
  | .lifeUpdate tj tcp => Sys2Proof.Machine.execLifeUpdate tj tcp s
  | .lifeRecord => Sys2Proof.Machine.execLifeRecord s
  | .coreFatal why x => Sys2Proof.Machine.execCoreFatal why x s
  | .feedState f state vin => Sys2Proof.Machine.execFeedState f state vin s
  | .transferOnLoss vin => Sys2Proof.Machine.execTransferOnLoss vin s
  | .transferCommand path => Sys2Proof.Machine.execTransferCommand path s
  | .revert => Sys2Proof.Machine.execRevert s
  | .holdEnd => Sys2Proof.Machine.execHoldEnd s
  | .selfTest a b => Sys2Proof.Machine.execSelfTest a b s
  | .selfTestNow path a b => Sys2Proof.Machine.execSelfTestNow path a b s
  | .holdupMeasure cap esr hold vbank => Sys2Proof.Machine.execHoldupMeasure cap esr hold vbank s
  | .dip => Sys2Proof.Machine.execDip s
  | .pcRestart => Sys2Proof.Machine.execPcRestart s
  | .page write => Sys2Proof.Machine.execPage write s
  | .clearFaults => Sys2Proof.Machine.execClearFaults s
  | .capability => Sys2Proof.Machine.execCapability s
  | .statusByte => Sys2Proof.Machine.execStatusByte s
  | .statusWord => Sys2Proof.Machine.execStatusWord s
  | .statusInput => Sys2Proof.Machine.execStatusInput s
  | .statusTemperature => Sys2Proof.Machine.execStatusTemperature s
  | .statusCml => Sys2Proof.Machine.execStatusCml s
  | .statusMfrSpecific => Sys2Proof.Machine.execStatusMfrSpecific s
  | .readVin => Sys2Proof.Machine.execReadVin s
  | .readIin => Sys2Proof.Machine.execReadIin s
  | .readTemperature1 => Sys2Proof.Machine.execReadTemperature1 s
  | .readTemperature2 => Sys2Proof.Machine.execReadTemperature2 s
  | .readPin => Sys2Proof.Machine.execReadPin s
  | .pmbusRevision => Sys2Proof.Machine.execPmbusRevision s
  | .mfrId => Sys2Proof.Machine.execMfrId s
  | .mfrModel => Sys2Proof.Machine.execMfrModel s
  | .mfrRevision => Sys2Proof.Machine.execMfrRevision s
  | .mfrSerial => Sys2Proof.Machine.execMfrSerial s
  | .mfrFeedActive write => Sys2Proof.Machine.execMfrFeedActive write s
  | .mfrFeedHealth => Sys2Proof.Machine.execMfrFeedHealth s
  | .mfrHoldupUs => Sys2Proof.Machine.execMfrHoldupUs s
  | .invalidCommand why => Sys2Proof.Machine.execInvalidCommand why s
  | .trigEdge pin rising ago => Sys2Proof.Machine.execTrigEdge pin rising ago s
  | .trigPop path pin index => Sys2Proof.Machine.execTrigPop path pin index s
  | .trgOutCfgWrite path pin v => Sys2Proof.Machine.execTrgOutCfgWrite path pin v s
  | .trgOutLevelWrite path pin level => Sys2Proof.Machine.execTrgOutLevelWrite path pin level s
  | .thermalState tj tcp => Sys2Proof.Machine.execThermalState tj tcp s
  | .thermalTrip tj tcp => Sys2Proof.Machine.execThermalTrip tj tcp s
  | .tripRecovery tcp x => Sys2Proof.Machine.execTripRecovery tcp x s
  | .anDone p => Sys2Proof.Machine.execAnDone p s
  | .rxLpiExit p => Sys2Proof.Machine.execRxLpiExit p s
  | .domainFailure domain => Sys2Proof.Machine.execDomainFailure domain s
  | .domainReturn domain => Sys2Proof.Machine.execDomainReturn domain s
  | .deviceLost device => Sys2Proof.Machine.execDeviceLost device s
  | .writeProtectChange high => Sys2Proof.Machine.execWriteProtectChange high s
  | .unitExchange => Sys2Proof.Machine.execUnitExchange s
  | .pcieConfigWrite w => Sys2Proof.Machine.execPcieConfigWrite w s

end Sys2Proof.Machine
end

