-- ==== Sys2Proof/WellFormed.lean ====
section
/-! DEFINITION. Well-formed commands: what the rules that bring a command say its operands can be, where their types leave room. -/

namespace Sys2Proof

/-- A count that fits the 16-bit field that shows it. -/
def fits16 (n : Nat) : Bool := decide (n < 65536)

/-- A frame on a port or from an injector holds at least one octet (R12, R18). -/
def hasOctets (l : List (BitVec 8)) : Bool := !l.isEmpty

/-- The steps of a start end in order, and no step before the start (R383). -/
def StartFound.wellFormed (x : StartFound) : Bool :=
  decide (x.verifyMs ≤ x.trainMs) && decide (x.trainMs ≤ x.topiaryMs) && decide (x.topiaryMs ≤ x.serviceMs)

/-- A feed's measurements fit the fields that report them (R474, R481). -/
def FeedTest.wellFormed (x : FeedTest) : Bool := fits16 x.volts && fits16 x.rippleMv

/-- A frame that is injected holds octets. -/
def Injected.wellFormed : Injected → Bool
  | .host _ _ octets => hasOctets octets
  | .sup _ _ octets => hasOctets octets
  | .cluster _ => true

/-- A command whose operands are as the rule of its row lets them be. Every other command is well-formed by its type. -/
def Instr.wellFormed : Instr → Bool
  | .registerWrite _ off len _ => decide (off < 2 ^ 32) && decide (0 < len) && decide (len ≤ 8)
  | .sequenceClear _ off _ => decide (off < 2 ^ 32)
  | .jtagHighWrite off _ => decide (off < 2 ^ 32)
  | .frameReceived _ octets _ _ => hasOctets octets
  | .ctIngressDecision _ octets _ _ => hasOctets octets
  | .pauseReceived _ octets => hasOctets octets
  | .internalInject w => w.wellFormed
  | .powerOn _ vin x => fits16 vin && x.wellFormed
  | .porst x => x.wellFormed
  | .deviceReset x => x.wellFormed
  | .coreFatal _ x => x.wellFormed
  | .tripRecovery _ x => x.wellFormed
  | .feedState _ _ vin => fits16 vin
  | .transferOnLoss vin => fits16 vin
  | .selfTest a b => a.wellFormed && b.wellFormed
  | .selfTestNow _ a b => a.wellFormed && b.wellFormed
  | .holdupMeasure cap esr hold vbank => fits16 cap && fits16 esr && fits16 hold && fits16 vbank
  | _ => true

end Sys2Proof
end

