-- ==== Sys2Proof/Safety.lean ====
section
/-! DEFINITION. What claims say of a command: that it completes, in which module, and when a write reaches its block. -/

namespace Sys2Proof.Machine

/-- The command completes, with the module as given; the queue and the LOCK bits stay as they were. -/
def Does (c : Instr) (s : State) (m : Mod) : Prop := exec c s = .next { s with m := m }

/-- The command completes in a state of which P holds. -/
def Yields (c : Instr) (s : State) (P : State → Prop) : Prop := ∃ t, exec c s = .next t ∧ P t

/-- The die runs (R383, R477, R523). -/
def State.Running (s : State) : Prop := s.m.dieUp = true

/-- The power controller has power. -/
def State.Powered (s : State) : Prop := s.m.pcUp = true

/-- The fields of a register that a write can set (R5). -/
def settable (r : Reg) : List FieldSpec := r.spec.fields.filter fun f => f.acc != .ro && f.acc != .sqc

/-- The module once the path's armed group, if the register has one, is disarmed by the write (R367). -/
def Mod.spent (m : Mod) (p : Path) (r : Reg) : Mod :=
  match keyGroup r with
  | some g => if m.isArmed p g then m.disarm p g else m
  | none => m

/-- A write of 64 bits to a register that is no window's reaches its owning block (R358 to R368, R6): the die runs, the path's accesses
arrive, the offset is that of element j of the register as the path sees it, the path may write it, its key guard is not concerned or armed,
its reset lock is open, and every field holds a defined encoding. -/
structure State.Granted (s : State) (p : Path) (r : Reg) (i j : Nat) (v : Word) : Prop where
  running : s.m.dieUp = true
  arrives : s.m.pathUp p = true
  placed : regAt (pathNum p) (r.addr i) = some (r, j)
  aligned : r.addr i % 8 = 0 ∧ r.addr i < 0x1000000
  special : r ≠ .GLB_UNLOCK ∧ r ≠ .GLB_LOCK ∧ windowOf (pathNum p) r j = none
  right : (s.m.spent p r).writeRight p (blockId r.spec.base) r j v = .may
  noSqc : r.spec.fields.any (·.acc == .sqc) = false
  guard : ∀ g, keyGroup r = some g → (s.m.spent p r).guardChanges r j v = false ∨ (s.m.isArmed p g = true ∧ vfHedge p = none)
  open_ : ∀ g, lockGroup r = some g → s.locks.getLsbD g = false
  defined : ∀ f ∈ settable r, ((definedFields r ((s.m.spent p r).rdStaged r j) v).any fun d => d.lo == f.lo) = true
  present : isCluster p = false ∨ (s.m.spent p r).flag GLB_STATUS_HEADLESS = false

/-- The write as its block sees it. -/
def wholeWrite (p : Path) (r : Reg) (j : Nat) (v : Word) : Write := { p := p, r := r, i := j, v := v, fields := settable r }

/-- The write sets a field that the Topiary image holds (R402). -/
def imaged (r : Reg) : Bool := (settable r).any fun f => decide ((imageBits r / 2 ^ f.lo) % 2 ^ (f.hi + 1 - f.lo) ≠ 0)

/-- The module after its block has answered a write of element j of register r, with the drift from the image that an accepted one is
(R402). -/
def Mod.took (m : Mod) (r : Reg) (j : Nat) (d : Bool × Mod) : Mod := if d.1 && imaged r then d.2.drifted (m.hedgeOf r j) else d.2

/-- A window command reaches its block (R371, R372, R528): as Granted says of a register, with the window set free, no reserved encoding in
the command, an operation named, and GRF_CMD unlocked. -/
structure State.Opened (s : State) (p : Path) (r : Reg) (i j : Nat) (w : WinId) (v : Word) : Prop where
  running : s.m.dieUp = true
  arrives : s.m.pathUp p = true
  placed : regAt (pathNum p) (r.addr i) = some (r, j)
  aligned : r.addr i % 8 = 0 ∧ r.addr i < 0x1000000
  special : r ≠ .GLB_UNLOCK ∧ r ≠ .GLB_LOCK ∧ windowOf (pathNum p) r j = some (w, true)
  free : s.m.winBusy w = false ∧ (s.m.win.held.any fun h => h.win == w) = false
  right : s.m.writeRight p (blockId r.spec.base) r j v = .may
  open_ : r = .GRF_CMD → s.locks.getLsbD 0 = false
  defined : cmdReserved r v = false
  present : s.m.stagedBarred p r v = false
  named : ((winOp r).any fun f => f.of v == 0) = false

/-- The window set w is busy with a command of register st.reg at element i, taken last, that will show a status and data when it completes,
and its register reads BUSY (R372). -/
def Mod.replies (m : Mod) (w : WinId) (st : Fld) (i status : Nat) (data : List (Reg × Nat × Word)) : Bool :=
  match m.win.busy.getLast? with
  | some c => c.win == w && c.cmd == st.reg && c.idx == i && m.flag ⟨c.cmd, c.busyBit, 1⟩ c.idx &&
      (c.result.any fun x => x.1 == st.reg && x.2.1 == i && st.of x.2.2 == status) && data.all fun d => c.result.contains d
  | none => false

/-! ### Registers that hold what is written -/

/-- The registers to whose writes the owning block attaches a condition or an effect of its own. -/
def blockRules : List Reg :=
  [.GLB_TICK_CFG, .GLB_FENCE, .GLB_TICK_FENCE, .EVT_PF_SWINT, .EVT_RING_CONS, .TIM_ADJ, .TIM_FREQ, .TIM_HOLD_CFG, .TIM_PPS_CFG, .TIM_REF_PRIO, .TIM_PTP_MEAS,
   .TIM_ISLAND, .TRG_IN_POP, .TRG_OUT_CFG, .TRG_OUT_LEVEL, .PRT_PORT_CFG, .PRT_TILE_CTL, .CLS_SLICE_CFG, .LPM_ROOT,
   .BUF_HEDGE_CFG, .BUF_HEDGE_CLASS, .BUF_PORT_PFC, .SCH_PORT_CFG, .SCH_GATE_BANK, .CLP_RING_CFG, .CLP_RING_CONS,
   .CLP_HOST_BASE, .CLP_EXPORT, .ENG_CLUSTER_CTL, .ENG_DOORBELL, .ENG_HEDGE_THR, .ENG_TICKJOB0, .EPC_CTL, .EPC_SAMPLE_IDX,
   .DRM_CFG, .DRM_CH_CTL, .DRM_HEDGE_WIN, .DRM_HEDGE_BW, .HDG_RESET, .HDG_EVT_CFG, .HDG_SWINT, .HDG_PORT_OWNER,
   .HDG_GAP_CFG0, .HDG_ROOT_FLOOR, .DMP_CFG, .UPD_CTL, .UPD_REVOKE, .PWR_POLICY, .PWR_CMD]

/-- A register that simply holds what is written to it: no rule of its block, no tick-staged, write-only or sequence-clear field. -/
def holdsWritten (r : Reg) : Bool :=
  !(blockRules.contains r) && !(settable r).isEmpty && (settable r).all fun f => f.acc == .rw || f.acc == .rwk || f.acc == .rwl

/-! ### Starts and locks -/

/-- The commands that start or reset the module (R365, R383, R387, R477, R483, R523). -/
def startsModule : Instr → Bool
  | .powerOn _ _ _ => true
  | .porst _ => true
  | .deviceReset _ => true
  | .coreFatal _ _ => true
  | .tripRecovery _ _ => true
  | .nvmRetry => true
  | _ => false

/-- A start of the module has run (R383, R387): in service at its time with STAGE 7, or, with no SV slot that verifies, up with SV absent
and the reset cause given. GLB_FUSE_SHADOW is locked. -/
def State.Started (t : State) (cause : Nat) (x : StartFound) : Prop :=
  t.locks.getLsbD 1 = true ∧
    ((t.m.get BOOT_STATUS_STAGE = 7 ∧ t.m.get BOOT_TIMES_SERVICE_MS = Nat.min x.serviceMs 65535) ∨
      (t.m.compAbsent 3 = true ∧ t.m.dieUp = true ∧ t.m.get GLB_RESET_CAUSE_CAUSE = cause))

/-- A reply of the power controller on I2C: its octets, and nothing else changes (R479). -/
def Mod.answers (m : Mod) (l : List Nat) : Mod := m.emit (.pmbus (l.map (BitVec.ofNat 8)))

/-- The load has moved from s to u to the standby feed (R468 to R472): make before break, held outputs, a settling window, and its count. -/
def State.Transferred (s u : State) (kind : Nat) : Prop :=
  u.m.activeFeed = s.m.standbyFeed ∧ u.m.flag PWR_FEED_OUT_ON s.m.standbyFeed = true ∧ u.m.flag PWR_FEED_IN_ON s.m.standbyFeed = true ∧
    u.m.flag PWR_FEED_OUT_ON s.m.activeFeed = false ∧ (kind = 1 → u.m.flag PWR_FEED_IN_ON s.m.activeFeed = false) ∧
    u.m.flag PWR_STATUS_HOLD = true ∧ u.m.get PWR_STATUS_TRANSFER = 2 ∧ u.m.pwr.holdEnd = some (s.m.absNow + settleTime) ∧
    (∀ f, f < 2 → u.m.feedOk f = s.m.feedOk f) ∧ u.m.alarmN = s.m.alarmN ∧
    (kind = 1 → u.m.get PWR_COUNTS_TRANSFERS_LOSS = Nat.min (s.m.get PWR_COUNTS_TRANSFERS_LOSS + 1) 65535) ∧
    (kind ≠ 1 → u.m.get PWR_COUNTS_TRANSFERS_CMD = Nat.min (s.m.get PWR_COUNTS_TRANSFERS_CMD + 1) 65535) ∧
    (s.Running → u.m.flag ⟨.PWR_EVENT, 1, 1⟩ = true) ∧ u.locks = s.locks

/-- Both feeds' paths have been tested from s to u (R473 to R475): each check of each feed is published and shown. -/
def State.Tested (s u : State) (a b : FeedTest) : Prop :=
  (∀ f x, (f = 0 ∧ x = a) ∨ (f = 1 ∧ x = b) →
    (∀ k, k < 5 → (u.m.get PWR_HEALTH_FAILS f).testBit k =
      (testFails x (f != s.m.activeFeed) (s.m.get PWR_TEST_CFG_RIPPLE_MAX_MV)).getD k false) ∧
    (x.volts < 65536 → u.m.get PWR_FEED_VIN f = x.volts)) ∧
  (u.m.get PWR_HEALTH_FAILS s.m.standbyFeed ≠ 0 → u.m.pwr.testAlarm = true) ∧ u.m.pwr.testAt = s.m.absNow ∧
  u.m.activeFeed = s.m.activeFeed ∧ u.locks = s.locks

/-- A word on I2C: low octet first. -/
def wordOctets (v : Nat) : List Nat := [v % 256, v / 256 % 256]

/-- An edge of TRIG_IN n that has held is captured (R505): EDGE selects it, and the pin's last one lies far enough back. -/
def Mod.Captures (m : Mod) (n : Nat) (rising : Bool) : Prop :=
  (m.get TRG_IN_CFG_EDGE n = 3 ∨ (m.get TRG_IN_CFG_EDGE n = 1 ∧ rising = true) ∨ (m.get TRG_IN_CFG_EDGE n = 2 ∧ rising = false)) ∧
    ∀ t, lookup m.pin.lastEdge n = some t → t + 4 * m.get TRG_IN_CFG_FILTER n + 8 ≤ m.now

/-- Every LOCK bit set in a is set in b (R363). -/
def LocksKept (a b : BitVec 5) : Prop := ∀ g, a.getLsbD g = true → b.getLsbD g = true

/-! ### Threads of a cluster -/

/-- The thread of a key after the state u; every other thread of s is as it was in s. -/
def State.ThreadIs (s u : State) (key : Nat) (t : Thread) : Prop :=
  lookup u.m.eng.threads key = some t ∧ ∀ k, k ≠ key → lookup u.m.eng.threads k = lookup s.m.eng.threads k

/-- The job of the thread, once its microword in progress completes: a tick job may have used its budget (R34, R277). -/
def Mod.jobAfter (m : Mod) (t : Thread) : Job :=
  match t.job.kind with
  | .tick i => { t.job with spent := t.job.spent || decide (m.budget i ≤ t.issued + 1) }
  | _ => t.job

/-- The thread t of s has completed its microword in u (R257, R259): it continues at pc with a return stack and a fence, behind the threads
that were ready, its ALU results are written, and it holds its job. Tables, routes, time and Hedges are as before. -/
def State.ContinuesAt (s u : State) (key : Nat) (t : Thread) (pc : Nat) (stack : List Nat) (fence : Nat) : Prop :=
  ∃ t2, lookup u.m.eng.threads key = some t2 ∧ t2.pc = pc ∧ t2.stack = stack ∧ t2.fence = fence ∧ t2.job = s.m.jobAfter t ∧ t2.mw = {} ∧
    t2.issued = t.issued + 1 ∧ s.m.eng.turn ≤ t2.turn ∧ t2.w = ((t.put t.mw.resA).put t.mw.resB).w ∧
    t2.flagsA = (t.mw.resA.map (·.flags)).getD t.flagsA ∧ t2.flagsB = (t.mw.resB.map (·.flags)).getD t.flagsB ∧ u.locks = s.locks ∧
    u.m.cls = s.m.cls ∧ u.m.fwd = s.m.fwd ∧ u.m.time = s.m.time ∧ u.m.hdg = s.m.hdg

/-- The thread's memory operation has data: a read of that width, not failed, that returns v. -/
def Thread.Reads (t : Thread) (width v : Nat) : Prop :=
  t.mw.memErr = some false ∧ t.mw.reads = true ∧ ∃ r, t.read = some r ∧ r.width = width ∧ r.data = some v ∧ r.failed = false

/-- The thread's memory operation has failed: MEM_ERR is set as the microword completes, and a read returns zero (R264). -/
def Thread.ReadFails (t : Thread) (width : Nat) : Prop :=
  t.mw.memErr = some true ∧ t.mw.reads = true ∧ ∃ r, t.read = some r ∧ r.width = width ∧ r.data = some 0 ∧ r.failed = true

/-- A DMP message of a TYPE reaches the module and passes every check (R404, R405): its key, its counter and its payload. -/
def State.Heard (s : State) (frame : List Byte) (type key c : Nat) (payload : List Byte) : Prop :=
  s.m.dieUp = true ∧ s.m.dmpUp = true ∧ ∃ source l, s.m.dmpDatagram frame = some (source, l) ∧ s.m.dmpFault source l = 0 ∧
    fieldAt l 3 1 = type ∧ fieldAt l 4 2 = key ∧ fieldAt l 8 8 = c ∧ (l.drop 16).take (fieldAt l 6 2) = payload

/-! ### What events touch -/

/-- The registers that an event writes, or a counter that reaches half its range. -/
def evtReg : Reg → Bool
  | .EVT_RING_PROD => true
  | .EVT_RING_STATUS => true
  | .EVT_IRQ_STATUS => true
  | .DRM_EVENT => true
  | .INT_EVENT => true
  | .GRF_EVENT => true
  | _ => false

end Sys2Proof.Machine
end

