-- ==== Sys2Proof/Certificates/Slice0/Obligations.lean ====
section
/-! DEFINITION. The statements for the provers: what the commands do, family by family, and what every command keeps. -/

open Sys2Proof Sys2Proof.Machine

/-- A step takes the front command and runs it with the rest of the queue. For every command c, every list of commands q behind it and
every state s: the step of the state whose queue is c and then q is exec of c in the state whose queue is q. (INDEX) -/
def Obligations.StepRunsFrontCommand : Prop :=
  ∀ (c : Instr) (q : List Instr) (s : State), step { s with pending := c :: q } = exec c { s with pending := q }

/-- With no command waiting, one TIME cycle passes while the die runs, and nothing otherwise. The model's choice (log 3): a step on an
empty queue is one TIME cycle of 1 ns. The time counter rises by 1 ns and by what a slew adds to or takes from it, the slew's remainder
falls by as much, and the queue and the LOCK bits stay. Unless a frame is arriving, whose cells are written as its octets come, no
register but what an event writes changes, and the pins, the boot, update and NVM state, the tables and the stored frames stay. While the
die does not run the state is unchanged. (R200, R205) -/
def Obligations.EmptyQueueLetsTimePass : Prop :=
  ∀ s : State, s.pending = [] →
    (s.m.dieUp = false → step s = .next s) ∧
    (s.Running → ∃ t, step s = .next t ∧ t.pending = [] ∧ t.locks = s.locks ∧ t.m.time = s.m.time.after s.m.slewRate 1 ∧
      t.m.time.cycles = s.m.time.cycles + 1 ∧
      (s.m.time.slew = 0 → t.m.time.net = s.m.time.net + unitsPerNs) ∧
      (s.m.buf.arriving = [] → (∀ r i, evtReg r = false → t.m.rd r i = s.m.rd r i) ∧
        t.m.boot = s.m.boot ∧ t.m.upd = s.m.upd ∧ t.m.nvm = s.m.nvm ∧ t.m.pin = s.m.pin ∧ t.m.hdg = s.m.hdg ∧ t.m.cls = s.m.cls ∧
        t.m.fwd = s.m.fwd ∧ t.m.buf = s.m.buf))

/-- Every command answers a next state and leaves the waiting queue alone. For every command and every state, exec answers a next state,
never a fault or a refusal, and the queue of waiting commands is what it was. (INDEX, R360, R482) -/
def Obligations.EveryCommandCompletes : Prop :=
  ∀ (c : Instr) (s : State), ∃ t, exec c s = .next t ∧ t.pending = s.pending

/-- A LOCK bit once set stays set until a power-on or device reset. For every step from any state to a next state: unless the command at
the front of the queue starts or resets the module (POWER_ON, PORST, DEVICE_RESET, CORE_FATAL, TRIP_RECOVERY, NVM_RETRY), every LOCK bit
that was set is set after the step. In particular no other write of a register, no window command, no microcode store, no DMP message and
no tick commit clears one. (R363, R365) -/
def Obligations.LockBitsOnlyRise : Prop :=
  ∀ s t : State, step s = .next t → (∀ c q, s.pending = c :: q → startsModule c = false) → LocksKept s.locks t.locks

/-- A register without a rule of its block holds what a granted write puts into it. For every register that simply holds what is written
(RW, RWK and RWL fields, no rule of its block): a write of 8 octets at its offset that reaches it (Granted) completes; afterwards each
field a write can set holds the written bits and the other bits are as before; every other register is as before but CFG_DRIFT and
DMP_EVENT (drift from the image) and those an event writes; the LOCK bits, the network time, the queues of frames, SDRAM's clients, ports
and the tick's own state are as before. (R5, R360, R402) -/
def Obligations.RegisterHoldsWhatIsWritten : Prop :=
  ∀ (s : State) (p : Path) (r : Reg) (i : Nat) (v : Word), s.Granted p r i i v → holdsWritten r = true →
    Yields (.registerWrite p (r.addr i) 8 v) s fun t =>
      t.m.rd r i = (wholeWrite p r i v).onto (s.m.rd r i) ∧ t.locks = s.locks ∧
      (∀ r' i', evtReg r' = false → r' ≠ .CFG_DRIFT → r' ≠ .DMP_EVENT → r'.addr i' ≠ r.addr i → t.m.rd r' i' = s.m.rd r' i') ∧
      t.m.time = s.m.time ∧ t.m.buf = s.m.buf ∧ t.m.fwd = s.m.fwd ∧ t.m.cls = s.m.cls ∧ t.m.prt = s.m.prt ∧ t.m.tick = s.m.tick ∧
      t.m.sch = s.m.sch ∧ t.m.hdg = s.m.hdg

/-- A write of the wrong width or alignment, or to an offset that is no register's, is ignored and counted. While the die runs and the
path's accesses arrive: a write that is not of 8 octets at a multiple of 8 is a bad access of qualifier 1; one beyond 32 MiB, or below 16
MiB where no register stands, is one of qualifier 2. Nothing is written: BAD_ACCESSES rises by one (saturating at 65,535),
GLB_EVENT.ACCESS is set, and every register but GLB_GUARD_STATUS, GLB_EVENT and those an event writes is as before. (R360, R531) -/
def Obligations.BadAccessIsIgnoredAndCounted : Prop :=
  ∀ (s : State) (p : Path) (off len : Nat) (v : Word), s.Running → s.m.pathUp p = true →
    (len ≠ 8 ∨ off % 8 ≠ 0 ∨ 0x2000000 ≤ off ∨ (off < 0x1000000 ∧ regAt (pathNum p) off = none)) →
    Yields (.registerWrite p off len v) s fun t =>
      t.locks = s.locks ∧
      t.m.get GLB_GUARD_STATUS_BAD_ACCESSES = Nat.min (s.m.get GLB_GUARD_STATUS_BAD_ACCESSES + 1) 65535 ∧
      t.m.flag GLB_EVENT_ACCESS = true ∧
      (∀ r i, evtReg r = false → r ≠ .GLB_GUARD_STATUS → r ≠ .GLB_EVENT → t.m.rd r i = s.m.rd r i) ∧
      t = { s with m := s.m.badAccess p (if len ≠ 8 ∨ off % 8 ≠ 0 then 1 else 2) }

/-- A clear write clears the marked fields exactly when it carries the current SEQ. For a register with SQC fields that the path may
write: when bits [63:48] of the word equal the SEQ of the register, every marked bit of an SQC field is clear afterwards and every other
bit is as before; when they differ, nothing clears and STALE_CLEARS rises by one, saturating. In both cases every other register is as
before (a stale clear writes GLB_GUARD_STATUS) and no event is raised: rings, interrupts and queues are as before. (R369) -/
def Obligations.SequenceClearNeedsTheCurrentSeq : Prop :=
  ∀ (s : State) (p : Path) (r : Reg) (i : Nat) (v : Word),
    s.Running → s.m.pathUp p = true → regAt (pathNum p) (r.addr i) = some (r, i) → r.addr i % 8 = 0 → r.addr i < 0x1000000 →
    (r.spec.fields.any fun f => f.acc == .sqc) = true → s.m.writeRight p (blockId r.spec.base) r i v = .may →
    ((seqField r).of v = (seqField r).of (s.m.rd r i) →
      Yields (.sequenceClear p (r.addr i) v) s fun t =>
        (∀ f ∈ r.spec.fields, f.acc = .sqc → ∀ k, f.lo ≤ k → k ≤ f.hi → (t.m.rd r i).getLsbD k = ((s.m.rd r i).getLsbD k && !(v.getLsbD k))) ∧
        (∀ k, (∀ f ∈ r.spec.fields, f.acc = .sqc → ¬ (f.lo ≤ k ∧ k ≤ f.hi)) → (t.m.rd r i).getLsbD k = (s.m.rd r i).getLsbD k) ∧
        (∀ r' i', r'.addr i' ≠ r.addr i → t.m.rd r' i' = s.m.rd r' i') ∧ t = { s with m := { s.m with regs := t.m.regs } }) ∧
    ((seqField r).of v ≠ (seqField r).of (s.m.rd r i) →
      Does (.sequenceClear p (r.addr i) v) s
        (s.m.set GLB_GUARD_STATUS_STALE_CLEARS 0 (Nat.min (s.m.get GLB_GUARD_STATUS_STALE_CLEARS + 1) 65535)))

/-- An unlock with the key arms one path for one group, and a LOCK write sets its bits. While the die runs and the path's accesses arrive:
UNLOCK with KEY 0x5EED and a group below 4 leaves the writing path armed for that group, once, and every other pair of path and group as
it was; nothing else of the state changes. With any other KEY, or a reserved group, the path is not armed for the group afterwards, no
other pair changes, GUARD_MISSES rises by one (saturating), and GLB_EVENT.GUARD is set. While the die runs and the path has module-wide
rights and its accesses arrive: LOCK sets exactly the LOCK bits written as 1 and leaves the others. The register is one the image sets, so
the write is also a drift of the global part (the model's reading, log 18). (R366, R367, R363) -/
def Obligations.UnlockAndLock : Prop :=
  (∀ (s : State) (p : Path) (g : BitVec 4) (key : BitVec 16), s.Running → s.m.pathUp p = true →
     (key = 0x5EED#16 → g.toNat < 4 →
       Yields (.unlock p g key) s fun t =>
         (∀ q h, t.m.isArmed q h = true ↔ (s.m.isArmed q h = true ∨ (pathNum q = pathNum p ∧ h = g.toNat))) ∧
         (t.m.arm.armed.filter (· == (pathNum p, g.toNat))).length = 1 ∧
         t = { s with m := { s.m with arm := { s.m.arm with armed := t.m.arm.armed } } }) ∧
     (key ≠ 0x5EED#16 ∨ 4 ≤ g.toNat →
       Yields (.unlock p g key) s fun t =>
         (∀ q h, t.m.isArmed q h = true ↔ (s.m.isArmed q h = true ∧ ¬ (pathNum q = pathNum p ∧ h = g.toNat))) ∧
         t.m.get GLB_GUARD_STATUS_GUARD_MISSES = Nat.min (s.m.get GLB_GUARD_STATUS_GUARD_MISSES + 1) 65535 ∧
         t.m.flag GLB_EVENT_GUARD = true ∧
         (∀ r i, evtReg r = false → r ≠ .GLB_GUARD_STATUS → r ≠ .GLB_EVENT → t.m.rd r i = s.m.rd r i) ∧ t.locks = s.locks)) ∧
  (∀ (s : State) (p : Path) (b : BitVec 5), s.Running → s.m.pathUp p = true → moduleWide p = true →
     exec (.lock p b) s = .next { s with locks := s.locks ||| b, m := s.m.drifted none })

/-- A write to a register whose LOCK is set is ignored and counted. For a register whose settable fields are all reset-locked, and a path
that may write it: once the group's LOCK is set, a write of 8 octets at its offset leaves the register and every other one as it was, but
for LOCKED_WRITES, which rises by one (saturating), GLB_EVENT and what an event writes; the LOCK bits stay. (R363, R467, R336) -/
def Obligations.LockedRegisterKeepsItsValue : Prop :=
  ∀ (s : State) (p : Path) (r : Reg) (i g : Nat) (v : Word),
    s.Running → s.m.pathUp p = true → regAt (pathNum p) (r.addr i) = some (r, i) → r.addr i % 8 = 0 → r.addr i < 0x1000000 →
    windowOf (pathNum p) r i = none → lockGroup r = some g → s.locks.getLsbD g = true → (settable r).all (·.acc == .rwl) = true →
    (settable r).isEmpty = false → (r.spec.fields.any fun f => f.acc == .sqc) = false → s.m.writeRight p (blockId r.spec.base) r i v = .may →
    Yields (.registerWrite p (r.addr i) 8 v) s fun t =>
      t.locks = s.locks ∧ t.m.rd r i = s.m.rd r i ∧
      t.m.get GLB_GUARD_STATUS_LOCKED_WRITES = Nat.min (s.m.get GLB_GUARD_STATUS_LOCKED_WRITES + 1) 65535 ∧
      (∀ r' i', evtReg r' = false → r' ≠ .GLB_GUARD_STATUS → r' ≠ .GLB_EVENT → t.m.rd r' i' = s.m.rd r' i')

/-- An unarmed write that would change a key-guarded field is ignored whole. For a register with key-guarded fields of group g that the
path may write: while the path is not armed for g, a write that changes some guarded field leaves the register as it was (guarded and
unguarded fields alike), GUARD_MISSES rises by one, saturating, GLB_EVENT.GUARD is set, and no register changes but GLB_GUARD_STATUS,
GLB_EVENT, those an event writes, and CLS_EVENT or HDG_EVENT where the owning block names a refusal of its own. (R366, R368) -/
def Obligations.UnarmedGuardedWriteChangesNothing : Prop :=
  ∀ (s : State) (p : Path) (r : Reg) (i g : Nat) (v : Word),
    s.Running → s.m.pathUp p = true → regAt (pathNum p) (r.addr i) = some (r, i) → r.addr i % 8 = 0 → r.addr i < 0x1000000 →
    windowOf (pathNum p) r i = none → keyGroup r = some g → s.m.isArmed p g = false →
    (r.spec.fields.any fun f => f.acc == .sqc) = false → s.m.writeRight p (blockId r.spec.base) r i v = .may → s.m.guardChanges r i v = true →
    Yields (.registerWrite p (r.addr i) 8 v) s fun t =>
      t.locks = s.locks ∧ t.m.rd r i = s.m.rd r i ∧ t.m.arm = s.m.arm ∧
      t.m.get GLB_GUARD_STATUS_GUARD_MISSES = Nat.min (s.m.get GLB_GUARD_STATUS_GUARD_MISSES + 1) 65535 ∧
      t.m.flag GLB_EVENT_GUARD = true ∧
      (∀ r' i', evtReg r' = false → r' ≠ .GLB_GUARD_STATUS → r' ≠ .GLB_EVENT → r' ≠ .CLS_EVENT → r' ≠ .HDG_EVENT → t.m.rd r' i' = s.m.rd r' i')

/-- JTAG holds the low half and writes 64 bits at once with the high half. While the die runs and JTAG's domain works: a low-half write
puts the half into the path's holding word and changes nothing else. A high-half write at offset + 4 is the write of all 64 bits at the
offset by the JTAG path, with the held half, or zero when none is held, and an empty holding word: both answer the same next state. An
instruction that takes control of pins loads BYPASS in its place unless RESET_N is held low; any other instruction is loaded; nothing else
changes. (R361, R504) -/
def Obligations.JtagWritesBothHalvesAtOnce : Prop :=
  ∀ (s : State) (off : Nat) (lo hi : BitVec 32) (code : BitVec 8) (pins low : Bool), s.Running → s.m.pathUp .jtag = true →
    Does (.jtagLowWrite lo) s { s.m with arm := { s.m.arm with jtag := some lo } } ∧
    (off % 8 = 4 → ∃ t, exec (.jtagHighWrite off hi) s = .next t ∧
      exec (.registerWrite .jtag (off - 4) 8 (hi ++ s.m.arm.jtag.getD 0)) { s with m := { s.m with arm := { s.m.arm with jtag := none } } } =
        .next t) ∧
    Does (.jtagInstruction pins low code) s
      { s.m with pin := { s.m.pin with tap := if pins = true ∧ low = false then none else some code } }

/-- Fences complete in the order written, at most 16 are outstanding, and a 17th or token 0 is ignored. For a write to GLB_FENCE that
reaches its register: token 0 changes nothing; while 16 fences are outstanding a further one is ignored, GLB_TICK_STATUS.FENCE_REFUSED is
set and the event raised, and nothing else changes; with fewer than 16 outstanding, a token other than 0 joins the end of the outstanding
fences, so that at most 16 are outstanding, and GLB_FENCE_DONE.PENDING shows how many. FENCE_DONE, once every earlier write of the oldest
one has taken effect, removes the oldest and no other and GLB_FENCE_DONE.TOKEN holds its token; otherwise it changes nothing. (R38) -/
def Obligations.FencesAreTakenAndCompleteInOrder : Prop :=
  ∀ (s : State) (p : Path) (k : BitVec 32), s.Granted p .GLB_FENCE 0 0 (GLB_FENCE_TOKEN.put 0 k.toNat) →
    (k = 0 → Does (.fence p k) s s.m) ∧
    (k ≠ 0 → 16 ≤ s.m.tick.fences.length →
      Does (.fence p k) s ((s.m.sqc GLB_TICK_STATUS_FENCE_REFUSED).event (glbEv 0x09 0))) ∧
    (k ≠ 0 → s.m.tick.fences.length < 16 →
      Yields (.fence p k) s fun t =>
        t.m.tick = { s.m.tick with fences := s.m.tick.fences ++ [⟨k.toNat, s.m.win.seq, s.m.stagedBy, s.m.tick.periodSeq⟩] } ∧
        t.m.tick.fences.length ≤ 16 ∧ t.m.get GLB_FENCE_DONE_PENDING = s.m.tick.fences.length + 1 ∧
        t.m.get GLB_FENCE_DONE_TOKEN = s.m.get GLB_FENCE_DONE_TOKEN) ∧
    (∀ (f : FenceWait) (l : List FenceWait), s.m.tick.fences = f :: l → f.token < 2 ^ 32 →
      (s.m.fenceReady f = true → Yields .fenceDone s fun t =>
        t.m.tick.fences = l ∧ t.m.get GLB_FENCE_DONE_TOKEN = f.token ∧ t.m.get GLB_FENCE_DONE_PENDING = l.length % 2 ^ 5 ∧
        t.m.buf = s.m.buf ∧ t.m.fwd = s.m.fwd ∧ t.m.time = s.m.time) ∧
      (s.m.fenceReady f = false → Does .fenceDone s s.m))

/-- An accepted fence puts a marker into every event ring, Clippings ring and job queue. When a fence with a token other than 0 reaches
GLB_FENCE and fewer than 16 are outstanding: in each of the four job queues of each cluster whose queue had room, exactly one job is
added, at the end, the fence job of that token (IJ, DB and TT, where no event can add one); a full queue is left as it is and its marker
waits for a place. Frames, tables, ports, time and the registers other than the event registers and GLB_FENCE_DONE are as before. (R37,
R284, R375) -/
def Obligations.FenceMarksEveryRingAndQueue : Prop :=
  ∀ (s : State) (p : Path) (k : BitVec 32), s.Granted p .GLB_FENCE 0 0 (GLB_FENCE_TOKEN.put 0 k.toNat) → k ≠ 0 →
    s.m.tick.fences.length < 16 →
    Yields (.fence p k) s fun t =>
      (∀ c j, c < 4 → (j = 0 ∨ j = 2 ∨ j = 3) → (s.m.cl c).queueFull j = false →
        (t.m.cl c).queue j = (s.m.cl c).queue j ++ [fenceJob j k.toNat]) ∧
      (∀ c j, c < 4 → (j = 0 ∨ j = 2 ∨ j = 3) → (s.m.cl c).queueFull j = true →
        (t.m.cl c).queue j = (s.m.cl c).queue j ∧ (j, k.toNat) ∈ (t.m.cl c).markers) ∧
      t.m.buf = s.m.buf ∧ t.m.fwd = s.m.fwd ∧ t.m.cls = s.m.cls ∧ t.m.prt = s.m.prt ∧ t.m.time = s.m.time ∧ t.m.sch = s.m.sch

/-- A tick period waits for the second, and a tick fence for its commit. A TICK_PERIOD_WRITE that reaches GLB_TICK_CFG: while no gate list
and no launch queue is enabled on any port the code is pending with the next whole second of network time, PERIOD_PEND is set, PERIOD
keeps its value (and the global part drifts from the image); while some schedule runs, the write is refused with PERIOD_REFUSED and its
event and nothing else changes. PERIOD_CHANGE, once the network time has reached the pending second, puts the code into PERIOD, clears
PERIOD_PEND and leaves no period pending, unless some schedule has been enabled since: then PERIOD keeps its value, the change is gone and
PERIOD_REFUSED is set; with none pending it changes nothing. A TICK_FENCE write that reaches the register sets BUSY and makes its token
the one that the next commit will show; nothing else changes, whether or not the register was busy. (R26, R39) -/
def Obligations.TickRegistersWait : Prop :=
  ((∀ (s : State) (p : Path) (k : BitVec 4),
     s.Granted p .GLB_TICK_CFG 0 0 (s.revised GLB_TICK_CFG_PERIOD 0 k.toNat) →
       (s.m.schedulesRun = false → Does (.tickPeriodWrite p k) s
         (({ s.m with tick := { s.m.tick with periodPend := some (k.toNat, (s.m.time.net / unitsPerS + 1) * unitsPerS), periodSeq := s.m.tick.periodSeq + 1 } } : Mod).set
           GLB_TICK_CFG_PERIOD_PEND 0 1 |>.drifted none)) ∧
       (s.m.schedulesRun = true → Does (.tickPeriodWrite p k) s
         ((s.m.sqc GLB_TICK_STATUS_PERIOD_REFUSED).event (glbEv 0x0A 0)))) ∧
   (∀ (s : State) (k due : Nat), s.Running → s.m.tick.periodPend = some (k, due) → due ≤ s.m.time.net → k < 16 →
     (s.m.schedulesRun = false → Yields .periodChange s fun t =>
       t.m.get GLB_TICK_CFG_PERIOD = k ∧ t.m.get GLB_TICK_CFG_PERIOD_PEND = 0 ∧ t.m.tick.periodPend = none ∧ t.m.time = s.m.time ∧
       t.m.buf = s.m.buf ∧ t.m.eng = s.m.eng) ∧
     (s.m.schedulesRun = true → Yields .periodChange s fun t =>
       t.m.get GLB_TICK_CFG_PERIOD = s.m.get GLB_TICK_CFG_PERIOD ∧ t.m.get GLB_TICK_CFG_PERIOD_PEND = 0 ∧ t.m.tick.periodPend = none ∧
       t.m.flag GLB_TICK_STATUS_PERIOD_REFUSED = true ∧ t.m.time = s.m.time ∧ t.m.buf = s.m.buf)) ∧
   (∀ s : State, s.Running → s.m.tick.periodPend = none → Does .periodChange s s.m)) ∧
  (∀ (s : State) (p : Path) (k : BitVec 32), s.Granted p .GLB_TICK_FENCE 0 0 (GLB_TICK_FENCE_TOKEN.put 0 k.toNat) →
     Does (.tickFence p k) s (({ s.m with tick := { s.m.tick with fenceTok := k.toNat } } : Mod).set GLB_TICK_FENCE_BUSY 0 1))

/-- A tick commit comes 16 ns after its boundary, counts, and completes a busy tick fence. For a commit with nothing due from the last
one, no pending period, no staged write, no time step, no quiescing cluster, no Hedge reset, no TC step, and no cluster OFFLINE or LOST:
the network time passes the boundary by 16 ns, GLB_COMMIT_SEQ rises by one modulo 2^64, GLB_TICK_NUM is the boundary divided by the
period, a busy tick fence is no longer busy and shows its token, the tick jobs and timers of all four clusters are due, the writes staged
for the following tick become the current set, and the following set is empty. (R25, R27, R29, R35, R39, R276) -/
def Obligations.QuietTickCommitCounts : Prop :=
  ∀ s : State, s.Running → s.m.tick.jobsDue = [] → s.m.tick.timersDue = [] → s.m.tick.periodPend = none → s.m.tick.now = [] →
    s.m.time.adj = none → s.m.time.slew = 0 → s.m.hdg.resets = [] → s.m.upd.tc = none → (∀ c, (s.m.cl c).quiesce = none) →
    (∀ c, c < 4 → s.m.get ENG_CLUSTER_STATUS_STATE c < 3) → s.m.time.net ≤ s.m.tick.boundary → s.m.tick.fenceTok < 2 ^ 32 →
    Yields .tickCommit s fun t =>
      s.m.tick.boundary + 16 * unitsPerNs ≤ t.m.time.net ∧
      t.m.time.net < s.m.tick.boundary + 17 * unitsPerNs ∧
      t.m.rd .GLB_COMMIT_SEQ = s.m.rd .GLB_COMMIT_SEQ + 1 ∧
      t.m.rd .GLB_TICK_NUM = BitVec.ofNat 64 (s.m.tick.boundary / (s.m.period * unitsPerNs)) ∧
      (s.m.flag GLB_TICK_FENCE_BUSY = true → t.m.get GLB_TICK_FENCE_BUSY = 0 ∧ t.m.get GLB_TICK_FENCE_TOKEN = s.m.tick.fenceTok) ∧
      t.m.tick.jobsDue = [0, 1, 2, 3] ∧ t.m.tick.timersDue = [0, 1, 2, 3] ∧ t.m.tick.now = s.m.tick.next ∧ t.m.tick.next = [] ∧
      t.locks = s.locks

/-- A staged parse-graph node comes into force at the tick commit, and not before. When the only staged write of the current tick is node
i with value v (and nothing else is due, as in the quiet commit), the commit puts the value into node i and leaves every other node and
every transition as it was; of a set that has been lost to an overflow nothing comes into force (R30). (R29, R74) -/
def Obligations.StagedParserWriteCommits : Prop :=
  ∀ (s : State) (i v : Nat), s.Running → s.m.tick.jobsDue = [] → s.m.tick.timersDue = [] → s.m.tick.periodPend = none →
    s.m.tick.now = [⟨.node i, v⟩] → s.m.time.adj = none → s.m.time.slew = 0 → s.m.hdg.resets = [] → s.m.upd.tc = none →
    (∀ c, (s.m.cl c).quiesce = none) → (∀ c, c < 4 → s.m.get ENG_CLUSTER_STATUS_STATE c < 3) → s.m.time.net ≤ s.m.tick.boundary →
    Yields .tickCommit s fun t =>
      (s.m.tick.nowLost = false → lookupD t.m.cls.nodes i (0, 0) = (BitVec.ofNat 64 v, BitVec.ofNat 64 (v / 2 ^ 64))) ∧
      (s.m.tick.nowLost = true → lookupD t.m.cls.nodes i (0, 0) = lookupD s.m.cls.nodes i (0, 0)) ∧
      (∀ j, j ≠ i → lookupD t.m.cls.nodes j (0, 0) = lookupD s.m.cls.nodes j (0, 0)) ∧ t.m.cls.trans = s.m.cls.trans

/-- A frame that is not good or oversize is counted and leaves no trace beyond its counters. At a port that is up and receives no
cut-through frame: the FEC codewords its line tells of are counted first (an uncorrectable one a minor error of its lane, none at a port
without FEC); a frame received whole that is a runt, a fragment, an errored frame or jabber is counted by its class, and no frame, queue,
table, shaper or register but those an event writes and the lanes' buckets changes. At a port that is down nothing changes. The FEC
operand is the model's (log entry 8). (R12, R51, R61) -/
def Obligations.BadFrameGoesNoFurther : Prop :=
  ∀ (s : State) (p : Fin 128) (o : List Byte) (e : LineErrs) (ago : Nat) (m0 : Mod), s.Running → m0 = s.m.fecSeen p.val e →
    (s.m.portUp p.val = false → Does (.frameReceived p o e ago) s s.m) ∧
    (s.m.portUp p.val = true → lookup s.m.buf.arriving p.val = none →
      m0.rxClass p.val o e.symbol ≠ .good → m0.rxClass p.val o e.symbol ≠ .oversize →
      Yields (.frameReceived p o e ago) s fun t =>
        t.m = m0.countRx p.val o e.symbol (m0.rxClass p.val o e.symbol) ∧ t.locks = s.locks ∧ t.m.buf = s.m.buf ∧ t.m.fwd = s.m.fwd ∧
        t.m.cls = s.m.cls ∧ t.m.sch = s.m.sch ∧ t.m.prt = s.m.prt ∧ t.m.time = s.m.time ∧
        (∀ r i, evtReg r = false → r ≠ .PRT_LANE_STATUS → t.m.rd r i = s.m.rd r i)) ∧
    (s.m.get PRT_PORT_CFG_FEC p.val = 0 → m0 = s.m) ∧
    (∀ l : Fin 128, s.m.portUp p.val = true → s.m.get PRT_PORT_CFG_FEC p.val ≠ 0 → s.m.portOfLane l.val = some p.val → e.corrected = 0 →
      e.uncorrectable = [l] → m0 = (s.m.bump (s.m.prtCtr p.val 36)).unitError 0 l.val false)

/-- A good frame is counted, stamped, decided on and admitted; a MAC control frame acts on its port. At a port that is up with no
cut-through frame arriving: a good or oversize frame that is no MAC control frame is counted after the FEC codewords of its line, takes
its stamp of arrival, passes the ingress pipeline as it was stored (cut to MAX_FRAME - 4 octets when oversize), and what the pipeline lets
go on is admitted; a MAC control frame, given as FRAME_RECEIVED or as PAUSE_RECEIVED, is counted, is a candidate of the ingress sampler,
and acts on the port. The decision on a header window that is no candidate for cut-through keeps the frame as arriving until its end, with
the octets received; its end removes it, is counted, and a frame the pipeline discarded goes no further. (R12, R47, R51, R52, R150, R151) -/
def Obligations.GoodFrameEntersThePipeline : Prop :=
  ∀ (s : State) (p : Fin 128) (o : List Byte) (e : LineErrs) (ago : Nat) (m0 : Mod), s.Running → m0 = s.m.fecSeen p.val e →
    s.m.portUp p.val = true → lookup s.m.buf.arriving p.val = none →
    (∀ c, m0.rxClass p.val o e.symbol = c → (c = .good ∨ c = .oversize) → isControl o = false →
      Does (.frameReceived p o e ago) s
        (admitted ((m0.countRx p.val o e.symbol c).ingress
          ((m0.countRx p.val o e.symbol c).arrived p.val o (decide (c = .oversize)) ((m0.countRx p.val o e.symbol c).rxStamp ago).1) none false
          ((m0.countRx p.val o e.symbol c).rxStamp ago).2))) ∧
    (∀ m1, m1 = s.m.countRx p.val o false .good → s.m.rxClass p.val o false = .good → isControl o = true →
      Does (.pauseReceived p o) s
        ((m1.clipIngress (m1.owner p.val) (m1.arrived p.val o false (m1.rxStamp 0).1) none 255).macControl p.val o) ∧
      Does (.frameReceived p o {} ago) s
        ((m1.clipIngress (m1.owner p.val) (m1.arrived p.val o false (m1.rxStamp ago).1) none 255).macControl p.val o)) ∧
    (64 ≤ o.length → isControl o = false →
      (m0.ingress { m0.arrived p.val o false (m0.rxStamp ago).1 with
          octets := o.take (m0.get PRT_PORT_CFG_MAX_FRAME p.val), early := true } none false (m0.rxStamp ago).2).1 = none →
      Yields (.ctIngressDecision p o e ago) s fun t =>
        (lookup t.m.buf.arriving p.val).map (fun a => (a.received, a.symErr, a.gone, a.ct)) = some (o, e.symbol, true, false))

/-- A cut-through frame starts and ends, and the internal sources inject. For a header window of at least 64 octets that is no MAC control
frame and that the pipeline lets go on: when the path is open (ctDecide) and the ingress sampler does not draw the frame, it is charged,
linked, started at its egress port at once and recorded as arriving cut-through; when the path is not open, or the sampler draws it, it is
recorded as one to be admitted at its end, with its targets. CT_FRAME_END takes the arriving frame away, classed by the MAX_FRAME of its
first octet: one discarded at its decision is a candidate of the sampler still, a cut-through frame is finished with its verdict, a
store-and-forward frame that is good or oversize is admitted unless its Hedge has been reset since, and any other frees its cells. With no
frame arriving at the port, CT_FRAME_END changes nothing. INTERNAL_INJECT of a host frame needs its function's bus mastering and signals
the completion to the Hedge; one of the supervisor needs the supervisor; one of a cluster takes that cluster's oldest waiting frame;
without those, nothing changes. (R51, R147, R150, R151, R163, R237, R238, R18, R22, R344, R347) -/
def Obligations.CutThroughAndInjection : Prop :=
  ((∀ (s : State) (p : Fin 128) (o : List Byte) (e : LineErrs) (ago : Nat) (d d1 : Decision) (m0 m1 : Mod), s.Running → m0 = s.m.fecSeen p.val e →
     s.m.portUp p.val = true → lookup s.m.buf.arriving p.val = none → 64 ≤ o.length → isControl o = false →
     m0.ingress { m0.arrived p.val o false (m0.rxStamp ago).1 with
         octets := o.take (m0.get PRT_PORT_CFG_MAX_FRAME p.val), early := true } none false (m0.rxStamp ago).2 = (some d, m1) →
     d1 = { d with frame := { d.frame with early := false, epoch := m1.get BUF_HEDGE_STATUS_EPOCH d.frame.hedge } } →
     (∀ dst g, m1.ctDecide d1 = some (dst, g) → (m1.drawIn p.val).1 = false →
       Yields (.ctIngressDecision p o e ago) s fun t =>
         t.m.buf.tx = ((m1.drawIn p.val).2.ctSend { g with sampled := some false } dst).2.buf.tx ∧
         (lookup t.m.buf.arriving p.val).map (fun a => (a.received, a.symErr, a.gone, a.ct, a.targets)) =
           some (o, e.symbol, false, true, d.targets)) ∧
     ((m1.ctDecide d1 = none ∨ ((m1.ctDecide d1).isSome = true ∧ (m1.drawIn p.val).1 = true)) →
       Yields (.ctIngressDecision p o e ago) s fun t =>
         t.m.buf.tx = m1.buf.tx ∧ t.m.buf.frames = m1.buf.frames ∧
         (lookup t.m.buf.arriving p.val).map (fun a => (a.received, a.symErr, a.gone, a.ct, a.targets)) =
           some (o, e.symbol, false, false, d.targets))) ∧
   (∀ (s : State) (p : Fin 128) (x : ReadFault), s.Running → lookup s.m.buf.arriving p.val = none → Does (.ctFrameEnd p x) s s.m) ∧
   (∀ (s : State) (p : Fin 128) (x : ReadFault) (a : Arriving) (c : RxClass) (m1 : Mod) (w f : Frame), s.Running →
     lookup s.m.buf.arriving p.val = some a → rxClassOf a.maxFrame a.received a.symErr = c →
     m1 = (s.m.countRx p.val a.received a.symErr c).withBuf { s.m.buf with arriving := remove s.m.buf.arriving p.val } →
     w = m1.arrived p.val a.received (decide (a.maxFrame < a.received.length)) a.frame.stamp a.maxFrame →
     f = { a.frame with octets := w.octets, trunc := w.trunc, carry := w.carry, recvLen := w.recvLen } →
     (a.gone = true → Does (.ctFrameEnd p x) s (m1.goneEnds p.val w c)) ∧
     (a.gone = false → a.ct = true → Does (.ctFrameEnd p x) s (m1.ctFinish a ((a.targets.map (·.1)).headD 0) f c x)) ∧
     (a.gone = false → a.ct = false → (c = .good ∨ c = .oversize) → f.epoch = m1.get BUF_HEDGE_STATUS_EPOCH f.hedge →
       Does (.ctFrameEnd p x) s (m1.letIn f a.group a.targets a.fail)) ∧
     (a.gone = false → a.ct = false → (c = .good ∨ c = .oversize) → f.epoch ≠ m1.get BUF_HEDGE_STATUS_EPOCH f.hedge →
       Does (.ctFrameEnd p x) s ((m1.discardFrame f 11).freeCharge f)) ∧
     (a.gone = false → a.ct = false → c ≠ .good → c ≠ .oversize → Does (.ctFrameEnd p x) s (m1.freeCharge f)))) ∧
  (∀ s : State, s.Running →
     (∀ (h : Fin 16) (vid : BitVec 12) (o : List Byte),
       (s.m.hdg.busMaster.contains (h.val + 1) = true →
         Does (.internalInject (.host h vid o)) s
           (((s.m.enter (s.m.internalFrame 128 h.val vid.toNat o) none false).hedgeCause h.val 3).settleEnds)) ∧
       (s.m.hdg.busMaster.contains (h.val + 1) = false → Does (.internalInject (.host h vid o)) s s.m.settleEnds) ∧
       (s.m.flag GLB_STATUS_HEADLESS = false →
         Does (.internalInject (.sup h vid o)) s ((s.m.enter (s.m.internalFrame 129 h.val vid.toNat o) none false).settleEnds)) ∧
       (s.m.flag GLB_STATUS_HEADLESS = true → Does (.internalInject (.sup h vid o)) s s.m.settleEnds)) ∧
     (∀ (c : Fin 4) (i : Inject) (l1 l2 : List (Nat × Inject)), s.m.buf.inject = l1 ++ (130 + c.val, i) :: l2 →
       (∀ e ∈ l1, e.1 ≠ 130 + c.val) →
       Does (.internalInject (.cluster c)) s
         (((s.m.withBuf { s.m.buf with inject := l1 ++ l2 }).enter i.frame i.named i.classed).settleEnds)) ∧
     (∀ c : Fin 4, (∀ e ∈ s.m.buf.inject, e.1 ≠ 130 + c.val) → Does (.internalInject (.cluster c)) s s.m.settleEnds))

/-- The scheduler starts the chosen copy, and a frame that has departed is on the wire. EGRESS_SELECT at a front port: while its
transmitter is not free, or it owes a PFC frame that may leave, nothing changes; with no eligible copy only the deficits of the classes
without a copy are cleared; a chosen copy that neither the port shaper nor the launch guard holds is taken from its queue, read and
started, or discarded on its read; a port in low-power idle leaves it first. A copy that the guard holds is counted; in place of a queued
copy that is held a due launch head starts, unless the guard holds that too, and with none nothing does. At an internal destination whose
transmitter is busy, or at a cluster's intake, nothing changes. For a copy in transmission that has been read into the staging buffer:
COPY_DEPARTED brings the time to the end of the transmission if that is still to come, and the destination transmits nothing afterwards;
at a front port the frame's octets stand among what the module has put out, at host DMA or the supervisor the delivery does. While the end
of the copy's own frame is still arriving, or with nothing in transmission, nothing changes. (R50, R142, R182, R184, R194, R195, R196,
R55, R144, R61) -/
def Obligations.CopiesLeaveAPort : Prop :=
  (∀ (s : State) (d : Fin 134) (x : ReadFault), s.Running →
     (d.val < 128 → (s.m.transmitterFree d.val = false ∨ s.m.pfcDue d.val = true) → Does (.egressSelect d x) s s.m) ∧
     (d.val < 128 → s.m.transmitterFree d.val = true → s.m.pfcDue d.val = false →
       (∀ m1, s.m.choose d.val = (none, m1) → Does (.egressSelect d x) s m1) ∧
       (∀ c m1, s.m.choose d.val = (some c, m1) → s.m.portShaperHolds d.val c = false → s.m.guardHolds d.val c = false →
         (s.m.flag PRT_PORT_STATUS_LPI_TX d.val = true →
           Does (.egressSelect d x) s ((s.m.set PRT_PORT_STATUS_LPI_TX d.val 0).emit (.lpi d.val false))) ∧
         (s.m.flag PRT_PORT_STATUS_LPI_TX d.val = false → Does (.egressSelect d x) s (m1.sendCandidate d.val c x))) ∧
       (∀ c m1 m0, s.m.choose d.val = (some c, m1) → (s.m.portShaperHolds d.val c || s.m.guardHolds d.val c) = true →
         m0 = (if s.m.portShaperHolds d.val c = true then s.m else s.m.countGuard d.val c) →
         ((c.source = none ∨ (m0.choose d.val true).1 = none) → Does (.egressSelect d x) s m0) ∧
         (∀ y m2, c.source.isSome = true → m0.choose d.val true = (some y, m2) →
           (m0.guardHolds d.val y = true → Does (.egressSelect d x) s (m0.countGuard d.val y)) ∧
           (m0.guardHolds d.val y = false → s.m.flag PRT_PORT_STATUS_LPI_TX d.val = false →
             Does (.egressSelect d x) s (m2.sendCandidate d.val y x))))) ∧
     (128 ≤ d.val → d.val < 130 → (lookup s.m.buf.tx d.val).isSome = true → Does (.egressSelect d x) s s.m) ∧
     (130 ≤ d.val → Does (.egressSelect d x) s s.m)) ∧
  (∀ (s : State) (d : Fin 134), s.Running →
     (lookup s.m.buf.tx d.val = none → Does (.copyDeparted d) s s.m) ∧
     (∀ t, lookup s.m.buf.tx d.val = some t → (t.ct && s.m.buf.arriving.any fun e => e.2.ct && e.2.id == t.copy.frame) = true →
       Does (.copyDeparted d) s s.m) ∧
     (∀ t f, lookup s.m.buf.tx d.val = some t → (t.ct && s.m.buf.arriving.any fun e => e.2.ct && e.2.id == t.copy.frame) = false →
       t.read = some f →
       Yields (.copyDeparted d) s fun u =>
         lookup u.m.buf.tx d.val = none ∧ u.m.now = Nat.max s.m.now t.ends ∧ u.locks = s.locks ∧
         (d.val < 128 → Output.frame d.val t.octets ∈ u.m.evt.out) ∧
         (128 ≤ d.val → Output.deliver d.val f.hedge t.octets ∈ u.m.evt.out) ∧
         u.m.fwd = s.m.fwd ∧ u.m.cls = s.m.cls))

/-- A pause holds its class until it expires; an owed PFC frame leaves; low-power idle is entered and left. PAUSE_EXPIRY of a class that
is paused brings the time to the pause's end if that is still to come, and the class is no longer paused: its bit of
PRT_PORT_STATUS.PAUSED is clear and no end is kept; every other class of every port keeps its end. Of a class that is not paused it
changes nothing. A PFC frame that pauses an obeyed class with quanta q leaves it paused until q x 512 bit times from now, and quanta 0
frees it at once. PFC_SEND at a port that owes a PFC frame, whose transmitter is free, that is not gated and not in low-power idle: the
frame is put on the wire with its FCS, the port owes none, and it is refreshed as long as XOFF stands. PFC_REFRESH at a port with a
refresh due: with XOFF standing the port owes the frame again, without it no refresh is left. RX_LPI_ENTRY and RX_LPI_EXIT set and clear
LPI_RX and pause no class. (R47, R48, R49, R50, R55, R56) -/
def Obligations.PauseAndPfc : Prop :=
  ((∀ (s : State) (p : Fin 128) (c : Fin 8), s.Running →
     (lookup s.m.prt.pauseEnd (8 * p.val + c.val) = none → Does (.pauseExpiry p c) s s.m) ∧
     (∀ e, lookup s.m.prt.pauseEnd (8 * p.val + c.val) = some e →
       Yields (.pauseExpiry p c) s fun t =>
         lookup t.m.prt.pauseEnd (8 * p.val + c.val) = none ∧ t.m.paused p.val c.val = false ∧
         (t.m.get PRT_PORT_STATUS_PAUSED p.val).testBit c.val = false ∧ t.m.now = Nat.max s.m.now e ∧
         (∀ k, k ≠ 8 * p.val + c.val → lookup t.m.prt.pauseEnd k = lookup s.m.prt.pauseEnd k) ∧
         (s.m.buf.arriving = [] → t.m.buf = s.m.buf) ∧ t.m.fwd = s.m.fwd)) ∧
   (∀ (s : State) (p : Fin 128) (c : Fin 8) (o : List Byte), s.Running → s.m.portUp p.val = true → lookup s.m.buf.arriving p.val = none →
     isControl o = true → s.m.rxClass p.val o false = .good → fieldAt o 14 2 = 0x0101 → s.m.get PRT_FC_CFG_MODE p.val = 2 →
     (fieldAt o 16 2 % 256).testBit c.val = true → (s.m.get PRT_FC_CFG_OBEY p.val).testBit c.val = true →
     Yields (.pauseReceived p o) s fun t =>
       lookup t.m.prt.pauseEnd (8 * p.val + c.val) =
         (if fieldAt o (18 + 2 * c.val) 2 = 0 then none
          else some (s.m.now + ceilDiv (fieldAt o (18 + 2 * c.val) 2 * 512) (Nat.max 1 (s.m.rate p.val)))) ∧
       t.m.buf = s.m.buf ∧ t.m.time = s.m.time)) ∧
  (∀ (s : State) (p : Fin 128), s.Running →
     (lookup s.m.prt.pfcOwed p.val = none → Does (.pfcSend p) s s.m) ∧
     (∀ r, lookup s.m.prt.pfcOwed p.val = some r → s.m.transmitterFree p.val = true → s.m.flag SCH_PORT_CFG_GATE_EN p.val = false →
       s.m.flag PRT_PORT_STATUS_LPI_TX p.val = false →
       Yields (.pfcSend p) s fun t =>
         Output.frame p.val (sealFrame false (s.m.pfcOctets p.val (s.m.get PRT_PORT_STATUS_XOFF p.val) r)) ∈ t.m.evt.out ∧
         lookup t.m.prt.pfcOwed p.val = none ∧
         lookup t.m.prt.refreshAt p.val =
           (if s.m.get PRT_PORT_STATUS_XOFF p.val = 0 then none else some (s.m.now + s.m.refreshNs p.val)) ∧
         t.m.buf = s.m.buf ∧ t.m.time = s.m.time) ∧
     (∀ a, lookup s.m.prt.refreshAt p.val = some a → a ≤ s.m.now →
       Yields (.pfcRefresh p) s fun t =>
         lookup t.m.prt.refreshAt p.val = none ∧
         lookup t.m.prt.pfcOwed p.val =
           (if s.m.get PRT_PORT_STATUS_XOFF p.val = 0 then lookup s.m.prt.pfcOwed p.val
            else some (lookupD s.m.prt.pfcOwed p.val 0)) ∧ t.m.time = s.m.time ∧ t.m.regs = s.m.regs) ∧
     (lookup s.m.prt.refreshAt p.val = none → Does (.pfcRefresh p) s s.m) ∧
     (s.m.portUp p.val = true → s.m.flag PRT_PORT_STATUS_LPI_RX p.val = false →
       Yields (.rxLpiEntry p) s fun t => t.m.flag PRT_PORT_STATUS_LPI_RX p.val = true ∧ t.m.prt = s.m.prt ∧ t.m.buf = s.m.buf) ∧
     Does (.rxLpiExit p) s (s.m.set PRT_PORT_STATUS_LPI_RX p.val 0) ∧
     (s.m.portUp p.val = true → s.m.flag PRT_PORT_CFG_EEE_EN p.val = true → 3 ≤ s.m.portType p.val → s.m.portType p.val ≤ 6 →
       s.m.flag PRT_PORT_STATUS_LPI_TX p.val = false → lookup s.m.buf.tx p.val = none → lookup s.m.prt.pfcOwed p.val = none →
       lookupD s.m.prt.idleSince p.val 0 + s.m.get PRT_EEE_CFG_IDLE_US p.val * 1000 ≤ s.m.now →
       ((s.m.choose p.val).1.isSome = false → Yields (.lpiEntry p) s fun t =>
         t.m.flag PRT_PORT_STATUS_LPI_TX p.val = true ∧ Output.lpi p.val true ∈ t.m.evt.out ∧ t.m.buf = s.m.buf ∧ t.m.time = s.m.time) ∧
       ((s.m.choose p.val).1.isSome = true → Does (.lpiEntry p) s s.m)))

/-- A port configuration that the lane map forbids is refused; sleeping and waking requests begin, join or are refused. For a write to
PRT_PORT_CFG that reaches the register. One that the checks refuse (and that asks for another value) leaves the register as it was, sets
CFG_REFUSED and changes no queue, table, shaper, wake or drain. One that they accept, at a port that has no link and no wake in progress,
leaves the register with the value asked for; frames, queues and tables are as before. PORT_SLEEP during a wake keeps ADMIN and sets
SLEEP_REFUSED; at a port that is up with its link, under the drain policy, it begins a drain that ends at DRAIN_LIMIT_US. HOST_WAKE at a
sleeping port begins a wake at this time, with the network time recorded, or joins the one in progress; at a port that is up it is
satisfied at once. (R42, R57, R58, R59, R60) -/
def Obligations.PortConfigurationIsChecked : Prop :=
  (∀ (s : State) (path : Path) (p : Fin 128) (v new : Word), s.Granted path .PRT_PORT_CFG p.val p.val v →
    new = (wholeWrite path .PRT_PORT_CFG p.val v).onto (s.m.rd .PRT_PORT_CFG p.val) → new ≠ s.m.rd .PRT_PORT_CFG p.val →
    (s.m.cfgCheck (vfHedge path).isSome p.val (s.m.rd .PRT_PORT_CFG p.val) new ≠ 0 →
      Yields (.portCfgWrite path p v) s fun t =>
        t.m.rd .PRT_PORT_CFG p.val = s.m.rd .PRT_PORT_CFG p.val ∧ t.m.flag PRT_PORT_EVENT_CFG_REFUSED p.val = true ∧
        (∀ r i, evtReg r = false → r ≠ .PRT_PORT_EVENT → t.m.rd r i = s.m.rd r i) ∧
        t.m.prt = s.m.prt ∧ t.m.buf = s.m.buf ∧ t.m.fwd = s.m.fwd ∧ t.m.sch = s.m.sch ∧ t.locks = s.locks) ∧
    (s.m.cfgCheck (vfHedge path).isSome p.val (s.m.rd .PRT_PORT_CFG p.val) new = 0 → s.m.linked p.val = false →
      lookup s.m.prt.portWake p.val = none →
      Yields (.portCfgWrite path p v) s fun t =>
        t.m.rd .PRT_PORT_CFG p.val = new ∧ t.m.buf = s.m.buf ∧ t.m.fwd = s.m.fwd ∧ t.m.sch = s.m.sch ∧ t.m.cls = s.m.cls ∧ t.locks = s.locks)) ∧
  (∀ (s : State) (path : Path) (p : Fin 128), s.Granted path .PRT_PORT_CFG p.val p.val (s.revised PRT_PORT_CFG_ADMIN p.val 2) →
    s.m.cfgCheck (vfHedge path).isSome p.val (s.m.rd .PRT_PORT_CFG p.val)
      ((wholeWrite path .PRT_PORT_CFG p.val (s.revised PRT_PORT_CFG_ADMIN p.val 2)).onto (s.m.rd .PRT_PORT_CFG p.val)) = 0 →
    ((lookup s.m.prt.portWake p.val).isSome = true →
      Yields (.portSleep path p) s fun t =>
        t.m.get PRT_PORT_CFG_ADMIN p.val = s.m.get PRT_PORT_CFG_ADMIN p.val ∧ t.m.flag PRT_WAKE_STATUS_SLEEP_REFUSED p.val = true ∧
        t.m.prt = s.m.prt ∧ t.m.buf = s.m.buf) ∧
    (lookup s.m.prt.portWake p.val = none → s.m.portType p.val ≠ 0 → s.m.portUp p.val = true → s.m.linked p.val = true →
      lookup s.m.prt.portDrain p.val = none →
      s.m.flag BUF_TILE_CFG_DOWN_POLICY (tileOf p.val) = false →
      Yields (.portSleep path p) s fun t =>
        t.m.get PRT_PORT_CFG_ADMIN p.val = 2 ∧ t.m.portUp p.val = true ∧ t.m.buf = s.m.buf ∧
        lookup t.m.prt.portDrain p.val = some ⟨s.m.now + s.m.get BUF_TILE_CFG_DRAIN_LIMIT_US (tileOf p.val) * 1000, 3⟩)) ∧
  (∀ (s : State) (path : Path) (p : Fin 128), s.Granted path .PRT_PORT_CFG p.val p.val (s.revised PRT_PORT_CFG_ADMIN p.val 1) →
    s.m.cfgCheck (vfHedge path).isSome p.val (s.m.rd .PRT_PORT_CFG p.val)
      ((wholeWrite path .PRT_PORT_CFG p.val (s.revised PRT_PORT_CFG_ADMIN p.val 1)).onto (s.m.rd .PRT_PORT_CFG p.val)) = 0 →
    s.m.portType p.val ≠ 0 → s.m.get PRT_PORT_CFG_ADMIN p.val ≠ 0 →
    (∀ w, lookup s.m.prt.portWake p.val = some w → s.m.get PRT_PORT_STATUS_STATE p.val = 4 →
      Yields (.hostWake path (.port p)) s fun t =>
        lookup t.m.prt.portWake p.val = some ⟨w.since, true, w.remote⟩ ∧ t.m.rd .PRT_WAKE_TIME p.val = s.m.rd .PRT_WAKE_TIME p.val ∧
        t.m.buf = s.m.buf) ∧
    (lookup s.m.prt.portWake p.val = none → s.m.get PRT_PORT_STATUS_STATE p.val = 3 →
      Yields (.hostWake path (.port p)) s fun t =>
        lookup t.m.prt.portWake p.val = some ⟨s.m.now, true, false⟩ ∧ t.m.rd .PRT_WAKE_TIME p.val = wakeTime s.m.time.net ∧
        t.m.get PRT_PORT_STATUS_STATE p.val = (if s.m.get PRT_TILE_STATUS_STATE (tileOf p.val) = 0 then 4 else 3) ∧ t.m.buf = s.m.buf) ∧
    (s.m.get PRT_PORT_STATUS_STATE p.val = 2 →
      Yields (.hostWake path (.port p)) s fun t =>
        t.m.flag PRT_WAKE_STATUS_DONE p.val = true ∧ t.m.flag PRT_WAKE_STATUS_HOST_REQ p.val = true ∧ t.m.portUp p.val = true ∧
        t.m.prt.portWake = s.m.prt.portWake ∧ t.m.buf = s.m.buf))

/-- A tile sleeps, stops or wakes as STATE_REQ asks, but never sleeps during a wake. For a write to PRT_TILE_CTL that reaches the
register: a request to sleep or stop made while the tile wakes keeps STATE_REQ, sets SLEEP_REFUSED and changes no wake or drain; at a tile
that is on, under the drain policy, it begins a drain to the state asked for; at a sleeping or stopped tile it takes the state at once. A
host wake of a sleeping or stopped tile begins a wake at this time and the tile reads WAKING; of a tile that is on it is satisfied at
once. (R57, R58, R59, R60) -/
def Obligations.TileTakesTheStateAskedFor : Prop :=
  (∀ (s : State) (path : Path) (t : Fin 8) (v : Word), s.Granted path .PRT_TILE_CTL t.val t.val v → PRT_TILE_CTL_STATE_REQ.of v ≠ 0 →
    (s.m.get PRT_TILE_STATUS_STATE t.val = 4 →
      Yields (.tileStateRequest path t v) s fun u =>
        u.m.get PRT_TILE_CTL_STATE_REQ t.val = s.m.get PRT_TILE_CTL_STATE_REQ t.val ∧
        u.m.get PRT_TILE_STATUS_STATE t.val = 4 ∧ u.m.flag PRT_TILE_WAKE_SLEEP_REFUSED t.val = true ∧
        u.m.flag PRT_TILE_EVENT_REQ_REFUSED t.val = true ∧ u.m.prt = s.m.prt ∧ u.m.buf = s.m.buf) ∧
    (s.m.get PRT_TILE_STATUS_STATE t.val = 0 → s.m.flag BUF_TILE_CFG_DOWN_POLICY t.val = false →
      Yields (.tileStateRequest path t v) s fun u =>
        u.m.get PRT_TILE_STATUS_STATE t.val = 1 ∧ u.m.get PRT_TILE_CTL_STATE_REQ t.val = PRT_TILE_CTL_STATE_REQ.of v ∧ u.m.buf = s.m.buf ∧
        lookup u.m.prt.tileDrain t.val =
          some ⟨s.m.now + s.m.get BUF_TILE_CFG_DRAIN_LIMIT_US t.val * 1000, PRT_TILE_CTL_STATE_REQ.of v + 1⟩) ∧
    ((s.m.get PRT_TILE_STATUS_STATE t.val = 2 ∨ s.m.get PRT_TILE_STATUS_STATE t.val = 3) →
      Yields (.tileStateRequest path t v) s fun u =>
        u.m.get PRT_TILE_STATUS_STATE t.val = PRT_TILE_CTL_STATE_REQ.of v + 1 ∧ u.m.prt = s.m.prt ∧ u.m.buf = s.m.buf)) ∧
  (∀ (s : State) (path : Path) (t : Fin 8), s.Granted path .PRT_TILE_CTL t.val t.val (s.revised PRT_TILE_CTL_STATE_REQ t.val 0) →
    ((s.m.get PRT_TILE_STATUS_STATE t.val = 2 ∨ s.m.get PRT_TILE_STATUS_STATE t.val = 3) → lookup s.m.prt.tileWake t.val = none →
      Yields (.hostWake path (.tile t)) s fun u =>
        lookup u.m.prt.tileWake t.val = some ⟨s.m.now, true, false⟩ ∧ u.m.get PRT_TILE_STATUS_STATE t.val = 4 ∧
        u.m.rd .PRT_TILE_WAKE_TIME t.val = wakeTime s.m.time.net ∧ u.m.buf = s.m.buf) ∧
    (s.m.get PRT_TILE_STATUS_STATE t.val = 0 →
      Yields (.hostWake path (.tile t)) s fun u =>
        u.m.flag PRT_TILE_WAKE_DONE t.val = true ∧ u.m.flag PRT_TILE_WAKE_HOST_REQ t.val = true ∧ u.m.prt = s.m.prt ∧ u.m.buf = s.m.buf))

/-- Negotiation, training, link-up and link-down move a port between its states. At a port whose state is DOWN: AN_RESTART of an
unfinished negotiation whose second is past holds AN_FAIL and sets the next one a second from then; AN_DONE sets AN_DONE, clears AN_FAIL
and leaves no restart; TRAINING_FAIL of one of its lanes, once no negotiation is unfinished, clears AN_DONE and LT_DONE and sets
LINK_DOWN, and before that changes nothing; LINK_UP with every condition met makes the port up, with its signal and PCS lock, and its
event. At a port that is up, or still transmits in a draining tile, LINK_DOWN puts it into the state its tile, its lanes and ADMIN give
it, with its event, its PCS lock and AN_DONE clear. At a port in another state, or under a loopback test, each of them changes nothing.
(R43, R45, R46, R181) -/
def Obligations.LinkComesUpAndGoesDown : Prop :=
  (∀ (s : State) (p : Fin 128), s.Running → s.m.linking p.val = true →
    (s.m.flag PRT_PORT_CFG_AN_EN p.val = true → s.m.flag PRT_PORT_STATUS_AN_DONE p.val = false → lookupD s.m.prt.anRetry p.val 0 ≤ s.m.now →
      Yields (.anRestart p) s fun t =>
        t.m.flag PRT_PORT_STATUS_AN_FAIL p.val = true ∧ lookup t.m.prt.anRetry p.val = some (s.m.now + oneSecond) ∧
        t.m.linking p.val = true ∧ t.m.buf = s.m.buf ∧ t.m.time = s.m.time) ∧
    (s.m.flag PRT_PORT_CFG_AN_EN p.val = true →
      Yields (.anDone p) s fun t =>
        t.m.flag PRT_PORT_STATUS_AN_DONE p.val = true ∧ t.m.flag PRT_PORT_STATUS_AN_FAIL p.val = false ∧
        lookup t.m.prt.anRetry p.val = none ∧ t.m.linking p.val = true ∧ t.m.buf = s.m.buf ∧ t.m.time = s.m.time) ∧
    (s.m.flag PRT_PORT_CFG_AN_EN p.val = false ∨ s.m.flag PRT_PORT_STATUS_AN_DONE p.val = true →
      Yields (.linkUp p) s fun t =>
        t.m.portUp p.val = true ∧ t.m.flag PRT_PORT_STATUS_SIGNAL p.val = true ∧ t.m.flag PRT_PORT_STATUS_PCS_LOCK p.val = true ∧
        t.m.flag PRT_PORT_STATUS_LINK_FAULT p.val = false ∧ t.m.flag PRT_PORT_EVENT_LINK_UP p.val = true ∧
        lookup t.m.prt.idleSince p.val = some s.m.now ∧ t.m.buf = s.m.buf ∧ t.m.fwd = s.m.fwd) ∧
    (s.m.flag PRT_PORT_CFG_AN_EN p.val = true → s.m.flag PRT_PORT_STATUS_AN_DONE p.val = false → Does (.linkUp p) s s.m) ∧
    (∀ lane : Fin 128, s.m.flag PRT_PORT_CFG_AN_EN p.val = true → s.m.flag PRT_PORT_STATUS_AN_DONE p.val = false →
      Does (.trainingFail p lane) s s.m) ∧
    (∀ lane : Fin 128, s.m.flag PRT_PORT_CFG_LT_EN p.val = true → (groupOf p.val (s.m.portType p.val)).contains lane.val = true →
      (s.m.flag PRT_PORT_CFG_AN_EN p.val = true → s.m.flag PRT_PORT_STATUS_AN_DONE p.val = true) →
      Yields (.trainingFail p lane) s fun t =>
        t.m.flag PRT_PORT_EVENT_LINK_DOWN p.val = true ∧ t.m.flag PRT_PORT_STATUS_AN_DONE p.val = false ∧
        t.m.flag PRT_PORT_STATUS_LT_DONE p.val = false)) ∧
  (∀ (s : State) (p lane : Fin 128), s.Running → s.m.linking p.val = false →
    Does (.anRestart p) s s.m ∧ Does (.anDone p) s s.m ∧ Does (.trainingFail p lane) s s.m ∧ Does (.linkUp p) s s.m) ∧
  (∀ (s : State) (p : Fin 128) (why : LinkLoss), s.Running →
    (s.m.portUp p.val = false → s.m.linked p.val = false → Does (.linkDown p why) s s.m) ∧
    ((s.m.portUp p.val || s.m.linked p.val) = true → why = .signal → s.m.flag FDB_PORT_CFG_FLUSH_ON_DOWN p.val = false →
      Yields (.linkDown p why) s fun t =>
        t.m.get PRT_PORT_STATUS_STATE p.val = s.m.restState p.val ∧ t.m.linked p.val = false ∧
        t.m.flag PRT_PORT_STATUS_AN_DONE p.val = false ∧ t.m.flag PRT_PORT_EVENT_LINK_DOWN p.val = true ∧ t.m.fwd.fdb = s.m.fwd.fdb))

/-- A drain ends the unit's transmission, a wake reports every request in it, and a lane test retires or resumes. DRAIN_DONE at a draining
tile of whose ports none has a copy queued sets the drain's target state and ends the drain; while one has a copy, or without a drain,
nothing changes; DRAIN_LIMIT without a drain changes nothing. REMOTE_WAKE on a lane that no port covers changes nothing; on one of a
sleeping port whose tile is on it begins a remote wake, and it joins a wake of the port in progress. WAKE_DONE of a port's wake, its tile
on, ends the wake: the port links (or is retired), DONE and the bit of each kind of request are set. LANE_THRESHOLD of a bucket at its
threshold starts the port's loopback test, LANE_TEST_DONE without a test changes nothing, and with no failing lane it ends the test with
LINK_FAULT. (R58, R65, R161) -/
def Obligations.DrainsEndAndWakesComplete : Prop :=
  (∀ (s : State) (u : PortOrTile), s.Running → s.m.drainOf u = none → Does (.drainDone u) s s.m ∧ Does (.drainLimit u) s s.m) ∧
  (∀ (s : State) (u : PortOrTile) (d : Drain), s.Running → s.m.drainOf u = some d →
    (((unitDests u).all fun p => s.m.queuedTo p == 0) = false → Does (.drainDone u) s s.m) ∧
    (((unitDests u).all fun p => s.m.queuedTo p == 0) = true → ∀ t : Fin 8, u = .tile t →
      (∀ p ∈ tilePorts t.val, s.m.portType p = 0) → d.target < 8 →
      Yields (.drainDone u) s fun t' =>
        t'.m.get PRT_TILE_STATUS_STATE t.val = d.target ∧ lookup t'.m.prt.tileDrain t.val = none ∧ t'.m.flag BUF_EVENT_DRAIN = true ∧
        t'.m.buf = s.m.buf) ∧
    (((unitDests u).all fun p => s.m.queuedTo p == 0) = true → ∀ p : Fin 128, u = .port p → s.m.linked p.val = false →
      Yields (.drainDone u) s fun t' =>
        t'.m.get PRT_PORT_STATUS_STATE p.val = s.m.restState p.val ∧ lookup t'.m.prt.portDrain p.val = none ∧ t'.m.buf = s.m.buf) ∧
    (d.limit ≤ s.m.now → Does (.drainLimit u) s
      (((unitDests u).foldl (fun m p => m.flushQueued p 10 fun _ => true) s.m).drainEnds u d 0x04))) ∧
  (∀ (s : State) (lane : Fin 128), s.Running →
    (s.m.portOfLane lane.val = none → Does (.remoteWake lane) s s.m) ∧
    (∀ p, s.m.portOfLane lane.val = some p → s.m.get PRT_PORT_CFG_ADMIN p = 2 → s.m.portRetired p = false →
      s.m.get PRT_TILE_STATUS_STATE (lane.val / 16) = 0 → s.m.get PRT_PORT_STATUS_STATE p = 3 → lookup s.m.prt.portWake p = none →
      Yields (.remoteWake lane) s fun t =>
        lookup t.m.prt.portWake p = some ⟨s.m.now, false, true⟩ ∧ t.m.rd .PRT_WAKE_TIME p = wakeTime s.m.time.net ∧ t.m.buf = s.m.buf) ∧
    (∀ p w, s.m.portOfLane lane.val = some p → lookup s.m.prt.portWake p = some w →
      Yields (.remoteWake lane) s fun t => lookup t.m.prt.portWake p = some ⟨w.since, w.host, true⟩ ∧ t.m.buf = s.m.buf)) ∧
  (∀ (s : State) (p : Fin 128), s.Running →
    (lookup s.m.prt.portWake p.val = none → Does (.wakeDone (.port p)) s s.m) ∧
    (∀ w, lookup s.m.prt.portWake p.val = some w → s.m.get PRT_TILE_STATUS_STATE (tileOf p.val) = 0 →
      Yields (.wakeDone (.port p)) s fun t =>
        lookup t.m.prt.portWake p.val = none ∧ t.m.get PRT_PORT_STATUS_STATE p.val = (if s.m.portRetired p.val then 5 else 1) ∧
        t.m.flag PRT_WAKE_STATUS_DONE p.val = true ∧ (w.host = true → t.m.flag PRT_WAKE_STATUS_HOST_REQ p.val = true) ∧
        (w.remote = true → t.m.flag PRT_WAKE_STATUS_REMOTE_REQ p.val = true) ∧ t.m.flag PRT_PORT_EVENT_WAKE_DONE p.val = true ∧
        t.m.buf = s.m.buf)) ∧
  (∀ (s : State) (lane p : Fin 128), s.Running → s.m.portOfLane lane.val = some p.val → s.m.get INT_BUCKET_CFG_THRESH 0 ≤ s.m.bucket 0 lane.val →
    s.m.linked p.val = false →
    Yields (.laneThreshold lane) s fun t =>
      lookup t.m.prt.testing p.val = some (s.m.now + 100000000) ∧
      (∀ l ∈ groupOf p.val (s.m.portType p.val), t.m.flag PRT_LANE_STATUS_TESTING l = true) ∧ t.m.buf = s.m.buf) ∧
  (∀ (s : State) (p : Fin 128) (failing : List (Fin 128)), s.Running →
    (lookup s.m.prt.testing p.val = none → Does (.laneTestDone p failing) s s.m) ∧
    ((lookup s.m.prt.testing p.val).isSome = true → (∀ l ∈ failing, l.val ∉ groupOf p.val (s.m.portType p.val)) →
      Yields (.laneTestDone p failing) s fun t =>
        lookup t.m.prt.testing p.val = none ∧ t.m.flag PRT_PORT_STATUS_LINK_FAULT p.val = true ∧
        t.m.flag PRT_PORT_EVENT_LINK_FAULT p.val = true ∧ t.m.buf = s.m.buf))

/-- A parse-graph write stages the entry for the commit; a read shows the staged entry, else the committed one. For a command to
PAR_WIN_CMD that reaches its block, by a path with module-wide rights. PARSE_WRITE of a node below 64 without a reserved encoding, or of a
transition, in a tick whose set is open and has room: the entry is staged in the current set and replies status 0, and the committed graph
is as before; of a node of 64 or above it replies status 1, of a node with a reserved encoding status 3, and stages nothing. PARSE_READ
replies the staged entry when a write is pending and otherwise the committed one, and stages nothing. The window is busy until it
completes. (R32, R74, R91, R372) -/
def Obligations.ParseGraphWindow : Prop :=
  ∀ (s : State) (p : Path) (v : Word), vfHedge p = none →
    (s.Opened p .PAR_WIN_CMD 0 0 .par (withOp PAR_WIN_CMD_OP v 1) → s.m.stageClosed = false → s.m.tick.nowLost = false →
      (∀ i x, i = PAR_WIN_CMD_INDEX.of v → i < 64 → PAR_WIN_CMD_TABLE.of v = 0 →
        x = (s.m.rd .PAR_WIN_W0).toNat + (s.m.rd .PAR_WIN_W1).toNat * 2 ^ 64 →
        (nodeReserved x = false → stagedSize (stagedWith s.m.tick.now ⟨.node i, x &&& nodeMask⟩) ≤ stageDepth →
          Yields (.parseWrite p v) s fun t =>
            t.m.replies .par PAR_WIN_CMD_STATUS 0 0 [] = true ∧ t.m.cls = s.m.cls ∧
            t.m.tick = { s.m.tick with now := stagedWith s.m.tick.now ⟨.node i, x &&& nodeMask⟩ }) ∧
        (nodeReserved x = true →
          Yields (.parseWrite p v) s fun t =>
            t.m.replies .par PAR_WIN_CMD_STATUS 0 3 [] = true ∧ t.m.cls = s.m.cls ∧ t.m.tick = s.m.tick)) ∧
      (64 ≤ PAR_WIN_CMD_INDEX.of v → PAR_WIN_CMD_TABLE.of v = 0 →
        Yields (.parseWrite p v) s fun t =>
          t.m.replies .par PAR_WIN_CMD_STATUS 0 1 [] = true ∧ t.m.cls = s.m.cls ∧ t.m.tick = s.m.tick) ∧
      (∀ i x, i = PAR_WIN_CMD_INDEX.of v → PAR_WIN_CMD_TABLE.of v = 1 → x = (s.m.rd .PAR_WIN_W0).toNat / 2 ^ 16 * 2 ^ 16 →
        stagedSize (stagedWith s.m.tick.now ⟨.transition i, x⟩) ≤ stageDepth →
        Yields (.parseWrite p v) s fun t =>
          t.m.replies .par PAR_WIN_CMD_STATUS 0 0 [] = true ∧ t.m.cls = s.m.cls ∧
          t.m.tick = { s.m.tick with now := stagedWith s.m.tick.now ⟨.transition i, x⟩ })) ∧
    (s.Opened p .PAR_WIN_CMD 0 0 .par (withOp PAR_WIN_CMD_OP v 2) →
      (PAR_WIN_CMD_TABLE.of v = 0 → PAR_WIN_CMD_INDEX.of v < 64 → ∀ e,
        e = (s.m.stagedValue (.node (PAR_WIN_CMD_INDEX.of v))).getD
          ((lookupD s.m.cls.nodes (PAR_WIN_CMD_INDEX.of v) (0, 0)).1.toNat +
            (lookupD s.m.cls.nodes (PAR_WIN_CMD_INDEX.of v) (0, 0)).2.toNat * 2 ^ 64) →
        Yields (.parseRead p v) s fun t =>
          t.m.replies .par PAR_WIN_CMD_STATUS 0 0
            [(.PAR_WIN_W0, 0, BitVec.ofNat 64 e), (.PAR_WIN_W1, 0, BitVec.ofNat 64 (e / 2 ^ 64))] = true ∧
          t.m.cls = s.m.cls ∧ t.m.tick = s.m.tick) ∧
      (PAR_WIN_CMD_TABLE.of v = 1 → ∀ e,
        e = (s.m.stagedValue (.transition (PAR_WIN_CMD_INDEX.of v))).getD (lookupD s.m.cls.trans (PAR_WIN_CMD_INDEX.of v) 0).toNat →
        Yields (.parseRead p v) s fun t =>
          t.m.replies .par PAR_WIN_CMD_STATUS 0 0 [(.PAR_WIN_W0, 0, BitVec.ofNat 64 e)] = true ∧
          t.m.cls = s.m.cls ∧ t.m.tick = s.m.tick))

/-- A rule is written, read and invalidated in one act, and a valid one is replaced with FORCE only. For a command to CLS_RULE_CMD that
reaches its block by a path with module-wide rights, on a slice below 24 that is not the odd half of a pair and is not paired. RULE_WRITE
without a reserved action: on an entry that is not valid the rule stands at once, valid, with the staged key, mask and action, and no
other rule changes; on a valid entry with FORCE the entry is invalid from then on and the new rule waits for the command's completion; on
a valid entry without FORCE it replies status 1 and no rule changes. (Earlier forced writes to the slice land first, in order.) RULE_READ
replies the rule into the path's staging registers; RULE_INVALIDATE removes it and no other. A slice of 24 or above replies status 4. A
write to CLS_SLICE_CFG that its checks refuse changes no rule and no field; one that they accept with a new owner leaves the slice without
rules and every other rule as it was. (R88, R91, R92, R372) -/
def Obligations.ClassifierRulesAtOnce : Prop :=
  (∀ (s : State) (p : Path) (v : Word) (n sl i : Nat) (m0 : Mod), vfHedge p = none → n = pathNum p → sl = CLS_RULE_CMD_SLICE.of v →
    i = CLS_RULE_CMD_INDEX.of v → m0 = s.m.rulesLand sl → sl < 24 → s.m.pairedOdd sl = false → s.m.flag CLS_SLICE_CFG_PAIR sl = false →
    (s.Opened p .CLS_RULE_CMD 0 n (.cls n) (withOp CLS_RULE_CMD_OP v 1) → actReserved (s.m.rd .CLS_RULE_ACT n) = false →
      (m0.rule sl i = none →
        Yields (.ruleWrite p v) s fun t =>
          t.m.replies (.cls n) CLS_RULE_CMD_STATUS n 0 [] = true ∧
          t.m.rule sl i = some ⟨s.m.ruleWords .CLS_RULE_KEY n % 2 ^ 320, s.m.ruleWords .CLS_RULE_MASK n % 2 ^ 320,
            BitVec.ofNat 64 ((s.m.rd .CLS_RULE_ACT n).toNat % 2 ^ 16), true⟩ ∧
          (∀ k, k ≠ 2048 * sl + i → lookup t.m.cls.rules k = lookup m0.cls.rules k) ∧ t.m.fwd = s.m.fwd ∧ t.m.buf = s.m.buf) ∧
      ((m0.rule sl i).isSome = true → CLS_RULE_CMD_FORCE.of v = 1 →
        Yields (.ruleWrite p v) s fun t =>
          t.m.replies (.cls n) CLS_RULE_CMD_STATUS n 0 [] = true ∧ t.m.rule sl i = none ∧
          (t.m.win.busy.getLast?).map (·.rule) = some (some (sl, i, ⟨s.m.ruleWords .CLS_RULE_KEY n, s.m.ruleWords .CLS_RULE_MASK n,
            BitVec.ofNat 64 ((s.m.rd .CLS_RULE_ACT n).toNat % 2 ^ 16), true⟩)) ∧
          (∀ k, k ≠ 2048 * sl + i → lookup t.m.cls.rules k = lookup m0.cls.rules k) ∧ t.m.fwd = s.m.fwd ∧ t.m.buf = s.m.buf) ∧
      ((m0.rule sl i).isSome = true → CLS_RULE_CMD_FORCE.of v = 0 →
        Yields (.ruleWrite p v) s fun t =>
          t.m.replies (.cls n) CLS_RULE_CMD_STATUS n 1 [] = true ∧ t.m.cls = m0.cls ∧ t.m.flag CLS_EVENT_REFUSED = true)) ∧
    (s.Opened p .CLS_RULE_CMD 0 n (.cls n) (withOp CLS_RULE_CMD_OP v 2) →
      Yields (.ruleRead p v) s fun t =>
        t.m.replies (.cls n) CLS_RULE_CMD_STATUS n 0 (ruleRegs n ((m0.rule sl i).getD ⟨0, 0, 0, false⟩)) = true ∧ t.m.cls = m0.cls) ∧
    (s.Opened p .CLS_RULE_CMD 0 n (.cls n) (withOp CLS_RULE_CMD_OP v 3) →
      Yields (.ruleInvalidate p v) s fun t =>
        t.m.replies (.cls n) CLS_RULE_CMD_STATUS n 0 [] = true ∧ t.m.rule sl i = none ∧
        (∀ k, k ≠ 2048 * sl + i → lookup t.m.cls.rules k = lookup m0.cls.rules k))) ∧
  (∀ (s : State) (p : Path) (v : Word) (n : Nat), n = pathNum p → 24 ≤ CLS_RULE_CMD_SLICE.of v →
    s.Opened p .CLS_RULE_CMD 0 n (.cls n) (withOp CLS_RULE_CMD_OP v 3) →
    Yields (.ruleInvalidate p v) s fun t =>
      t.m.replies (.cls n) CLS_RULE_CMD_STATUS n 4 [] = true ∧ t.m.cls = (s.m.rulesLand (CLS_RULE_CMD_SLICE.of v)).cls) ∧
  (∀ (s : State) (p : Path) (sl : Fin 24) (v : Word), s.Granted p .CLS_SLICE_CFG sl.val sl.val v → s.m.isArmed p 0 = false →
    ∀ new, new = s.m.asWritten (wholeWrite p .CLS_SLICE_CFG sl.val v) →
    (s.m.sliceBar sl.val new ≠ 0 →
      Yields (.sliceCfgWrite p sl v) s fun t =>
        t.m.cls = s.m.cls ∧ t.m.tick = s.m.tick ∧ t.m.rd .CLS_SLICE_CFG sl.val = s.m.rd .CLS_SLICE_CFG sl.val ∧
        t.m.flag CLS_EVENT_SLICE_REFUSED = true) ∧
    (s.m.sliceBar sl.val new = 0 → CLS_SLICE_CFG_OWNER.of new = s.m.get CLS_SLICE_CFG_OWNER sl.val →
      Yields (.sliceCfgWrite p sl v) s fun t => t.m.cls = s.m.cls)) ∧
  (∀ (s : State) (p : Path) (sl : Fin 24) (v : Word), s.Granted p .CLS_SLICE_CFG sl.val sl.val v →
    ∀ new, new = s.m.asWritten (wholeWrite p .CLS_SLICE_CFG sl.val v) → s.m.sliceBar sl.val new = 0 →
    CLS_SLICE_CFG_OWNER.of new ≠ s.m.get CLS_SLICE_CFG_OWNER sl.val →
    Yields (.sliceCfgWrite p sl v) s fun t =>
      t.m.cls.rules = (s.m.cls.rules.filter fun e => e.1 / 2048 != sl.val) ∧ t.m.get CLS_SLICE_CFG_OWNER sl.val = CLS_SLICE_CFG_OWNER.of v ∧
      t.m.cls.nodes = s.m.cls.nodes ∧ t.m.cls.trans = s.m.cls.trans)

/-- The FDB window inserts, deletes, searches, reads, writes, flushes and counts, and changes no other entry. For a command to FDB_WIN_CMD
that reaches its block by a path with module-wide rights; the data registers hold the entry or its key. INSERT updates the entry of a
known key, or puts a new key at a free location within the quota; without quota it replies status 3, with kind 5 or above status 6, and no
entry changes. DELETE removes the entry of the key, SEARCH replies it with its location, and of an unknown key both reply status 1. READ
replies the entry of a location; WRITE puts an entry whose key stands nowhere else, and replies status 5 for one that does. FLUSH keeps
exactly the entries its selectors do not match; with FL_DEST and a kind of 5 or above it replies status 6. BUCKET replies a bucket's
FAIL_COUNT, and with clear it is zero afterwards. Other locations, and tables and routes, are as before. (R103, R107, R108, R110, R111,
R372) -/
def Obligations.FdbByKeyAndByLocation : Prop :=
  ∀ (s : State) (p : Path) (v : Word) (n d : Nat), vfHedge p = none → n = pathNum p → d = s.m.fdbData n →
    (s.Opened p .FDB_WIN_CMD 0 n (.fdb n) (withOp FDB_WIN_CMD_OP v 1) → ∀ e, e = (2 ^ 127 ||| d) &&& fdbMask →
      (5 ≤ feKind e → Yields (.fdbInsert p v) s fun t => t.m.replies (.fdb n) FDB_WIN_CMD_STATUS n 6 [] = true ∧ t.m.fwd = s.m.fwd) ∧
      (feKind e < 5 → ∀ loc o, s.m.fdbFind (feFid e) (feMac e) = some (loc, o) →
        Yields (.fdbInsert p v) s fun t =>
          t.m.replies (.fdb n) FDB_WIN_CMD_STATUS n 0 [] = true ∧ lookup t.m.fwd.fdb loc = some e ∧
          (∀ k, k ≠ loc → lookup t.m.fwd.fdb k = lookup s.m.fwd.fdb k)) ∧
      (feKind e < 5 → s.m.fdbFind (feFid e) (feMac e) = none →
        (s.m.get FDB_HEDGE_CFG_QUOTA (fidHedge (feFid e)) ≤ s.m.fdbCount (fidHedge (feFid e)) →
          Yields (.fdbInsert p v) s fun t =>
            t.m.replies (.fdb n) FDB_WIN_CMD_STATUS n 3 [] = true ∧ t.m.fwd = s.m.fwd ∧ t.m.flag FDB_EVENT_QUOTA_FULL = true) ∧
        (s.m.fdbCount (fidHedge (feFid e)) < s.m.get FDB_HEDGE_CFG_QUOTA (fidHedge (feFid e)) →
          (∀ loc, s.m.fdbFree (s.m.fdbBucket (feFid e) (feMac e)) = some loc →
            Yields (.fdbInsert p v) s fun t =>
              t.m.replies (.fdb n) FDB_WIN_CMD_STATUS n 0 [] = true ∧ lookup t.m.fwd.fdb loc = some e ∧
              (∀ k, k ≠ loc → lookup t.m.fwd.fdb k = lookup s.m.fwd.fdb k)) ∧
          (s.m.fdbFree (s.m.fdbBucket (feFid e) (feMac e)) = none →
            Yields (.fdbInsert p v) s fun t =>
              t.m.replies (.fdb n) FDB_WIN_CMD_STATUS n 2 [] = true ∧ t.m.fwd.fdb = s.m.fwd.fdb ∧ t.m.flag FDB_EVENT_LEARN_FAIL = true)))) ∧
    (s.Opened p .FDB_WIN_CMD 0 n (.fdb n) (withOp FDB_WIN_CMD_OP v 2) →
      (∀ loc e, s.m.fdbFind (feFid d) (feMac d) = some (loc, e) →
        Yields (.fdbDelete p v) s fun t =>
          t.m.replies (.fdb n) FDB_WIN_CMD_STATUS n 0 [] = true ∧ lookup t.m.fwd.fdb loc = none ∧
          (∀ k, k ≠ loc → lookup t.m.fwd.fdb k = lookup s.m.fwd.fdb k) ∧ t.m.fwd.tbl = s.m.fwd.tbl ∧ t.m.fwd.trie = s.m.fwd.trie) ∧
      (s.m.fdbFind (feFid d) (feMac d) = none →
        Yields (.fdbDelete p v) s fun t => t.m.replies (.fdb n) FDB_WIN_CMD_STATUS n 1 [] = true ∧ t.m.fwd = s.m.fwd)) ∧
    (s.Opened p .FDB_WIN_CMD 0 n (.fdb n) (withOp FDB_WIN_CMD_OP v 3) →
      (∀ loc e, s.m.fdbFind (feFid d) (feMac d) = some (loc, e) →
        Yields (.fdbSearch p v) s fun t => t.m.replies (.fdb n) FDB_WIN_CMD_STATUS n 0 (fdbRegs n e) = true ∧ t.m.fwd = s.m.fwd ∧
          (loc < fdbLocations → t.m.replies (.fdb n) FDB_WIN_CMD_LOC n loc [] = true)) ∧
      (s.m.fdbFind (feFid d) (feMac d) = none →
        Yields (.fdbSearch p v) s fun t => t.m.replies (.fdb n) FDB_WIN_CMD_STATUS n 1 [] = true ∧ t.m.fwd = s.m.fwd)) ∧
    (∀ loc, loc = FDB_WIN_CMD_LOC.of v → loc < fdbLocations →
      (s.Opened p .FDB_WIN_CMD 0 n (.fdb n) (withOp FDB_WIN_CMD_OP v 4) →
        Yields (.fdbRead p v) s fun t =>
          t.m.replies (.fdb n) FDB_WIN_CMD_STATUS n 0 (fdbRegs n (lookupD s.m.fwd.fdb loc 0)) = true ∧ t.m.fwd = s.m.fwd) ∧
      (s.Opened p .FDB_WIN_CMD 0 n (.fdb n) (withOp FDB_WIN_CMD_OP v 5) → ∀ e, e = d &&& fdbMask → feValid e = true → feKind e < 5 →
        ((∀ k o, s.m.fdbFind (feFid e) (feMac e) = some (k, o) → k = loc) →
          Yields (.fdbWrite p v) s fun t =>
            t.m.replies (.fdb n) FDB_WIN_CMD_STATUS n 0 [] = true ∧ lookup t.m.fwd.fdb loc = some e ∧
            (∀ k, k ≠ loc → lookup t.m.fwd.fdb k = lookup s.m.fwd.fdb k)) ∧
        (∀ k o, s.m.fdbFind (feFid e) (feMac e) = some (k, o) → k ≠ loc →
          Yields (.fdbWrite p v) s fun t => t.m.replies (.fdb n) FDB_WIN_CMD_STATUS n 5 [] = true ∧ t.m.fwd = s.m.fwd))) ∧
    (s.Opened p .FDB_WIN_CMD 0 n (.fdb n) (withOp FDB_WIN_CMD_OP v 6) → FDB_WIN_CMD_FL_DEST.of v = 1 → 5 ≤ feKind d →
      Yields (.flush p v) s fun t => t.m.replies (.fdb n) FDB_WIN_CMD_STATUS n 6 [] = true ∧ t.m.fwd = s.m.fwd) ∧
    (s.Opened p .FDB_WIN_CMD 0 n (.fdb n) (withOp FDB_WIN_CMD_OP v 6) → (FDB_WIN_CMD_FL_DEST.of v = 1 → feKind d < 5) →
      Yields (.flush p v) s fun t =>
        t.m.replies (.fdb n) FDB_WIN_CMD_STATUS n 0 [] = true ∧ t.m.fwd = { s.m.fwd with fdb := s.m.fwd.fdb.filter fun e => !(flushTakes v none d e.2) }) ∧
    (∀ b, b = FDB_WIN_CMD_LOC.of v → b < 65536 →
      (s.Opened p .FDB_WIN_CMD 0 n (.fdb n) (withOp FDB_WIN_CMD_OP v 7) →
        Yields (.bucketRead p v) s fun t =>
          t.m.replies (.fdb n) FDB_WIN_CMD_STATUS n 0 [(.FDB_WIN_DATA0, n, BitVec.ofNat 64 (lookupD s.m.fwd.fails b 0))] = true ∧
          t.m.fwd = s.m.fwd) ∧
      (s.Opened p .FDB_WIN_CMD 0 n (.fdb n) (withOp FDB_WIN_CMD_OP v 8) →
        Yields (.bucketReadClear p v) s fun t =>
          t.m.replies (.fdb n) FDB_WIN_CMD_STATUS n 0 [(.FDB_WIN_DATA0, n, BitVec.ofNat 64 (lookupD s.m.fwd.fails b 0))] = true ∧
          lookup t.m.fwd.fails b = none ∧ (∀ k, k ≠ b → lookup t.m.fwd.fails k = lookup s.m.fwd.fails k) ∧ t.m.fwd.fdb = s.m.fwd.fdb))

/-- The table and route windows write and read one entry, and a changed child starts the grace. For a command to FDB_TBL_CMD or
LPM_WIN_CMD that reaches its block by a path with module-wide rights. TABLE_WRITE of an entry in range without a reserved encoding (and,
in the first table, with a FID of the same Hedge) puts the entry's field bits there and no other entry changes; TABLE_READ replies the
entry's words. LPM_WRITE in range puts a trie entry (its field bits) or an associative slot, and no other but within the four slots of an
associative IPv6 entry, which takes all four; GRACE is set for a microsecond when the trie entry's child changes. LPM_READ replies the
entry. CLEAR_NODE of a pool node empties its 256 entries and no other. (R101, R131, R132, R133, R372) -/
def Obligations.TablesAndRoutesByIndex : Prop :=
  (∀ (s : State) (p : Path) (v : Word) (n tt i e : Nat), vfHedge p = none → n = pathNum p → tt = FDB_TBL_CMD_TABLE.of v → i = FDB_TBL_CMD_INDEX.of v →
    tt < 13 → i < (tblShape tt).1 →
    (s.Opened p .FDB_TBL_CMD 0 n (.tbl n) (withOp FDB_TBL_CMD_OP v 1) → e = s.m.dataWords .FDB_TBL_DATA (5 * n) (tblShape tt).2 &&& tblMask tt →
      tblReserved tt e = false → (tt = 0 → bit e 63 = true → fidHedge (bits e 62 49) = i / 4096) →
      Yields (.tableWrite p v) s fun t =>
        t.m.replies (.tbl n) FDB_TBL_CMD_STATUS n 0 [] = true ∧ t.m.tbl tt i = e ∧
        (∀ k, k ≠ tblKey tt i → lookup t.m.fwd.tbl k = lookup s.m.fwd.tbl k) ∧ t.m.fwd.fdb = s.m.fwd.fdb ∧ t.m.fwd.trie = s.m.fwd.trie) ∧
    (s.Opened p .FDB_TBL_CMD 0 n (.tbl n) (withOp FDB_TBL_CMD_OP v 2) →
      Yields (.tableRead p v) s fun t =>
        t.m.replies (.tbl n) FDB_TBL_CMD_STATUS n 0 (wordRegs .FDB_TBL_DATA (5 * n) (tblShape tt).2 (s.m.tbl tt i)) = true ∧
        t.m.fwd = s.m.fwd)) ∧
  (∀ (s : State) (p : Path) (v : Word) (n sp node entry : Nat), vfHedge p = none → n = pathNum p → sp = LPM_WIN_CMD_SPACE.of v →
    node = LPM_WIN_CMD_NODE.of v → entry = LPM_WIN_CMD_ENTRY.of v →
    (s.Opened p .LPM_WIN_CMD 0 n (.lpm n) (withOp LPM_WIN_CMD_OP v 1) →
      (∀ x, (sp = 0 ∧ node < 40) ∨ (sp = 1 ∧ node < 32768 ∧ entry < 256) →
        x = BitVec.ofNat 64 ((s.m.rd .LPM_WIN_DATA (3 * n)).toNat / 2 ^ 21 * 2 ^ 21) →
        (bit x.toNat 62 && bits x.toNat 46 45 == 3) = false →
        Yields (.lpmWrite p v) s fun t =>
          t.m.replies (.lpm n) LPM_WIN_CMD_STATUS n 0 [] = true ∧ lookupD t.m.fwd.trie (trieKey sp node entry) 0 = x ∧
          (∀ k, k ≠ trieKey sp node entry → lookup t.m.fwd.trie k = lookup s.m.fwd.trie k) ∧
          (trieChild (lookupD s.m.fwd.trie (trieKey sp node entry) 0) ≠ trieChild x →
            t.m.flag LPM_STATUS_GRACE = true ∧ t.m.fwd.graceEnd = s.m.now + 1000) ∧
          (trieChild (lookupD s.m.fwd.trie (trieKey sp node entry) 0) = trieChild x → t.m.fwd.graceEnd = s.m.fwd.graceEnd) ∧
          t.m.fwd.assoc = s.m.fwd.assoc) ∧
      (∀ a, sp = 2 → entry < 32768 → a = (s.m.rd .LPM_WIN_DATA (3 * n)).toNat → (bit a 63 && bits a 49 48 == 3) = false →
        (bit a 58 = true → entry % 4 = 0) →
        Yields (.lpmWrite p v) s fun t =>
          t.m.replies (.lpm n) LPM_WIN_CMD_STATUS n 0 [] = true ∧
          lookupD t.m.fwd.assoc entry (0, 0, 0) =
            (BitVec.ofNat 64 (a / 2 ^ 32 * 2 ^ 32), s.m.rd .LPM_WIN_DATA (3 * n + 1), s.m.rd .LPM_WIN_DATA (3 * n + 2)) ∧
          (∀ k, k / 4 ≠ entry / 4 → lookup t.m.fwd.assoc k = lookup s.m.fwd.assoc k) ∧
          (bit a 63 = true → bit a 58 = true → ∀ k, entry < k → k < entry + 4 → lookup t.m.fwd.assoc k = none) ∧
          ((bit a 63 = false ∨ (bit a 58 = false ∧ entry % 4 = 0)) → ∀ k, k ≠ entry → lookup t.m.fwd.assoc k = lookup s.m.fwd.assoc k) ∧
          t.m.fwd.trie = s.m.fwd.trie)) ∧
    (s.Opened p .LPM_WIN_CMD 0 n (.lpm n) (withOp LPM_WIN_CMD_OP v 2) → (sp = 0 ∧ node < 40) ∨ (sp = 1 ∧ node < 32768 ∧ entry < 256) →
      Yields (.lpmRead p v) s fun t =>
        t.m.replies (.lpm n) LPM_WIN_CMD_STATUS n 0 [(.LPM_WIN_DATA, 3 * n, lookupD s.m.fwd.trie (trieKey sp node entry) 0)] = true ∧
        t.m.fwd = s.m.fwd) ∧
    (s.Opened p .LPM_WIN_CMD 0 n (.lpm n) (withOp LPM_WIN_CMD_OP v 3) → sp = 1 → node < 32768 →
      Yields (.clearNode p v) s fun t =>
        t.m.replies (.lpm n) LPM_WIN_CMD_STATUS n 0 [] = true ∧
        (∀ k, k < 256 → lookup t.m.fwd.trie (trieKey 1 node k) = none) ∧
        (∀ k, (k < trieKey 1 node 0 ∨ trieKey 1 node 0 + 256 ≤ k) → lookup t.m.fwd.trie k = lookup s.m.fwd.trie k)))

/-- A completed window command shows its results, clears BUSY and frees the set. For a window set busy with command c, that holds no
writes, whose command is no FLUSH and no forced rule write, and waits for no SDRAM access: WINDOW_COMMAND_DONE clears BUSY of its
register, the last result written to each register and element stands there, every register that c does not answer is as before, and the
set is no longer busy with c; no table, frame, queue or port changes. Of a set with no command in progress, or whose SDRAM access is not
complete, it changes nothing. A forced rule write's rule stands from its completion on. (In both no ended job waits for its fence, R260.)
(R372) -/
def Obligations.WindowCommandCompletes : Prop :=
  (∀ (s : State) (w : Window) (c : WinCmd), s.Running → s.m.win.busy.find? (·.win == winId w) = some c → c.walk = 0 → c.rule = none →
    s.m.winAwaits (winId w) = false → (∀ h ∈ s.m.win.held, h.win ≠ winId w) → (∀ e ∈ s.m.eng.threads, e.2.ending = none) → c.busyBit < 64 →
    Yields (.windowCommandDone w) s fun t =>
      t.m.flag ⟨c.cmd, c.busyBit, 1⟩ c.idx = false ∧
      t.m.win.busy = (s.m.win.busy.filter fun x => x.seq != c.seq) ∧
      (∀ r i, r.addr i ≠ c.cmd.addr c.idx → (∀ x ∈ c.result, x.1.addr x.2.1 ≠ r.addr i) → t.m.rd r i = s.m.rd r i) ∧
      (∀ r i v pre post, c.result = pre ++ (r, i, v) :: post → r.addr i ≠ c.cmd.addr c.idx → (∀ x ∈ post, x.1.addr x.2.1 ≠ r.addr i) →
        t.m.rd r i = v) ∧
      t.m.fwd = s.m.fwd ∧ t.m.cls = s.m.cls ∧ t.m.buf = s.m.buf ∧ t.m.prt = s.m.prt ∧ t.locks = s.locks) ∧
  (∀ (s : State) (w : Window) (c : WinCmd) (sl i : Nat) (x : Rule), s.Running → s.m.win.busy.find? (·.win == winId w) = some c →
    c.walk = 0 → c.rule = some (sl, i, x) → s.m.flag CLS_SLICE_CFG_PAIR sl = false → s.m.winAwaits (winId w) = false →
    (∀ h ∈ s.m.win.held, h.win ≠ winId w) → (∀ e ∈ s.m.eng.threads, e.2.ending = none) →
    Yields (.windowCommandDone w) s fun t =>
      lookup t.m.cls.rules (2048 * sl + i) = some { x with key := x.key % 2 ^ 320, mask := x.mask % 2 ^ 320 } ∧
      (∀ k, k ≠ 2048 * sl + i → lookup t.m.cls.rules k = lookup s.m.cls.rules k) ∧
      t.m.win.busy = (s.m.win.busy.filter fun y => y.seq != c.seq) ∧ t.m.fwd = s.m.fwd ∧ t.m.buf = s.m.buf) ∧
  (∀ (s : State) (w : Window), s.Running → (s.m.winBusy (winId w) = false ∨ s.m.winAwaits (winId w) = true) →
    (∀ e ∈ s.m.eng.threads, e.2.ending = none) → Does (.windowCommandDone w) s s.m)

/-- Learning inserts, the Pruner sweeps, recovery resets, the grace ends and the supervisor restores. LEARN_INSERT with no request changes
nothing; of a request whose key holds a STATIC or sticky entry it only takes the request away; of one with a movable entry it gives that
entry the request's destination and changes no other; of a new key within the quota and with room it makes the entry. PRUNER_STEP out of
its turn changes nothing, and in its turn counts the step. FRER_RESET sets TAKE_ANY of a stream whose recovery has been silent for
RESET_MS, and no other entry. GRACE_END clears GRACE. TABLE_RESTORE of an entry that is not invalid changes nothing; an entry that the
running image holds is written again as it stands there; an FDB entry with a copy stands again; what neither holds is no longer pending
and is reported. (R106, R110, R116, R117, R122, R132, R438) -/
def Obligations.TableTasksRun : Prop :=
  (∀ s : State, s.Running → s.m.fwd.learn = [] → Does .learnInsert s s.m) ∧
  (∀ (s : State) (r : LearnReq) (rest : List LearnReq), s.Running → s.m.fwd.learn = r :: rest →
    (∀ loc e, s.m.fdbFind r.fid r.mac = some (loc, e) →
      ((feStatic e || feSticky e) = true → Does .learnInsert s { s.m with fwd := { s.m.fwd with learn := rest } }) ∧
      ((feStatic e || feSticky e) = false → feValid e = true → r.kind < 8 → r.dest < 4096 →
        Yields .learnInsert s fun t =>
          (lookup t.m.fwd.fdb loc).map (fun x => (feKind x, feDest x, feFid x, feMac x)) = some (r.kind, r.dest, feFid e, feMac e) ∧
          (∀ k, k ≠ loc → lookup t.m.fwd.fdb k = lookup s.m.fwd.fdb k) ∧ t.m.fwd.learn = rest ∧ t.m.regs = s.m.regs)) ∧
    (s.m.fdbFind r.fid r.mac = none → s.m.get FDB_HEDGE_CFG_QUOTA (fidHedge r.fid) ≤ s.m.fdbCount (fidHedge r.fid) →
      Yields .learnInsert s fun t => t.m.fwd = { s.m.fwd with learn := rest } ∧ t.m.flag FDB_EVENT_QUOTA_FULL = true) ∧
    (∀ loc, s.m.fdbFind r.fid r.mac = none → s.m.fdbCount (fidHedge r.fid) < s.m.get FDB_HEDGE_CFG_QUOTA (fidHedge r.fid) →
      r.fid < 2 ^ 14 → r.mac < 2 ^ 48 → r.kind < 5 → r.dest < 4096 → s.m.fdbFree (s.m.fdbBucket r.fid r.mac) = some loc →
      Yields .learnInsert s fun t =>
        lookup t.m.fwd.fdb loc = some r.entry ∧ (∀ k, k ≠ loc → lookup t.m.fwd.fdb k = lookup s.m.fwd.fdb k) ∧ t.m.fwd.learn = rest)) ∧
  (∀ s : State, s.Running → s.m.pruneDue = false → Does .prunerStep s s.m) ∧
  (∀ s : State, s.Running → s.m.pruneDue = true →
    Yields .prunerStep s fun t => t.m.fwd.prunedAt = some s.m.commits ∧ t.m.pruneDue = false ∧ t.m.fwd.tbl = s.m.fwd.tbl ∧
      t.m.fwd.trie = s.m.fwd.trie ∧ t.m.cls = s.m.cls) ∧
  (∀ (s : State) (f : Fin 16384) (e : Nat), s.Running → s.m.tbl 9 f.val = e →
    (bit e 127 = true → bits e 119 104 ≠ 0 → bit e 100 = false → lookupD s.m.fwd.frerLast f.val 0 + bits e 119 104 * 1000000 ≤ s.m.now →
      Yields (.frerReset f) s fun t =>
        t.m.tbl 9 f.val = e + 2 ^ 100 ∧ (∀ k, k ≠ tblKey 9 f.val → lookup t.m.fwd.tbl k = lookup s.m.fwd.tbl k) ∧ t.m.fwd.fdb = s.m.fwd.fdb) ∧
    ((bit e 127 = false ∨ bits e 119 104 = 0 ∨ bit e 100 = true ∨ s.m.now < lookupD s.m.fwd.frerLast f.val 0 + bits e 119 104 * 1000000) →
      Does (.frerReset f) s s.m)) ∧
  (∀ s : State, s.Running →
    (s.m.flag LPM_STATUS_GRACE = false → Does .graceEnd s s.m) ∧
    (s.m.flag LPM_STATUS_GRACE = true → Yields .graceEnd s fun t =>
      t.m.flag LPM_STATUS_GRACE = false ∧ t.m.now = Nat.max s.m.now s.m.fwd.graceEnd ∧ t.m.fwd = s.m.fwd)) ∧
  (∀ (s : State) (code i : Nat) (x : Option (List Word)), s.Running →
    (s.m.int.invalid.contains (code, i) = false → Does (.tableRestore code i x) s s.m) ∧
    (s.m.int.invalid.contains (code, i) = true → s.m.flag GLB_STATUS_HEADLESS = true → Does (.tableRestore code i x) s s.m) ∧
    (s.m.int.invalid.contains (code, i) = true → s.m.flag GLB_STATUS_HEADLESS = false →
      (∀ l, x = some l → code = 13 → feValid (wordsNat l) = true → Yields (.tableRestore code i x) s fun t =>
        lookup t.m.fwd.fdb i = some (wordsNat l) ∧ t.m.int.invalid = s.m.int.invalid.erase (code, i) ∧
        (∀ k, k ≠ i → lookup t.m.fwd.fdb k = lookup s.m.fwd.fdb k)) ∧
      (∀ place k v, imagePlace code i = some (place, k) → s.m.imageEntry place k = some v →
        Does (.tableRestore code i x) s
          ((s.m.withInt { s.m.int with invalid := s.m.int.invalid.erase (code, i), invalidHedge := remove s.m.int.invalidHedge (2 ^ 32 * code + i) }).tableWrite place k v)) ∧
      (x = none → ((imagePlace code i).bind fun e => s.m.imageEntry e.1 e.2) = none → Yields (.tableRestore code i x) s fun t =>
        t.m.int.invalid = s.m.int.invalid.erase (code, i) ∧ t.m.fwd = s.m.fwd ∧ t.m.cls = s.m.cls)))

/-- The queue, template, policer and shaper windows read, write and stage what their commands name. For a command that reaches its block.
VOQ read of occupancy replies the copies and cells of the queue named, of head the head's descriptor, with source and destination below
134 and a path with module-wide rights; otherwise out of range replies status 1; nothing in the queues changes. TEMPLATE_WRITE by such a
path of a template without a reserved encoding puts its thirteen words (the last one's field bits) at the index, and no other template
changes; by a virtual function it replies status 2 and no template changes. TEMPLATE_READ replies the thirteen words. For a command that
reaches POL_WIN_CMD or SHP_WIN_CMD by a path with module-wide rights, in a tick whose set is open and has room. A write stages the entry's
field bits in the current set and leaves the committed entry, the buckets and the tokens as they are. A read replies the staged entry when
one is pending, else the committed one. The bucket and token reads replies whole octets as they stand now. A shaper of KIND 2 or above, or
with a reserved OVERHEAD, replies status 3 and stages nothing. (R140, R141, R158, R168, R372, R32, R175, R176, R181) -/
def Obligations.QueueTemplateAndShaperWindows : Prop :=
  ((∀ (s : State) (p : Path) (v : Word) (q : List Copy), vfHedge p = none → QUE_VOQ_CMD_SRC.of v < 134 → QUE_VOQ_CMD_DEST.of v < 134 →
     q = s.m.voq (voqKey (QUE_VOQ_CMD_SRC.of v) (QUE_VOQ_CMD_DEST.of v) (QUE_VOQ_CMD_CLASS.of v)) →
     (s.Opened p .QUE_VOQ_CMD 0 0 .voq (withOp QUE_VOQ_CMD_OP v 1) →
       Yields (.voqReadOccupancy p v) s fun t =>
         t.m.replies .voq QUE_VOQ_CMD_STATUS 0 0 [(.QUE_VOQ_DATA0, 0, BitVec.ofNat 64 (q.length * 2 ^ 19 +
           (q.foldl (fun a c => a + ((s.m.frame c.frame).map Frame.cells).getD 0) 0) % 2 ^ 19))] = true ∧
         t.m.buf = s.m.buf ∧ t.m.sch = s.m.sch) ∧
     (s.Opened p .QUE_VOQ_CMD 0 0 .voq (withOp QUE_VOQ_CMD_OP v 2) →
       Yields (.voqReadHead p v) s fun t =>
         t.m.replies .voq QUE_VOQ_CMD_STATUS 0 0 [(.QUE_VOQ_DATA1, 0, s.m.voqHead q)] = true ∧ t.m.buf = s.m.buf ∧ t.m.sch = s.m.sch)) ∧
   (∀ (s : State) (p : Path) (v : Word), 134 ≤ QUE_VOQ_CMD_SRC.of v ∨ 134 ≤ QUE_VOQ_CMD_DEST.of v →
     s.Opened p .QUE_VOQ_CMD 0 0 .voq (withOp QUE_VOQ_CMD_OP v 1) →
     Yields (.voqReadOccupancy p v) s fun t => t.m.replies .voq QUE_VOQ_CMD_STATUS 0 1 [] = true ∧ t.m.buf = s.m.buf) ∧
   (∀ (s : State) (p : Path) (v : Word) (i last : Nat), i = QUE_EDIT_CMD_INDEX.of v → last = (s.m.rd .QUE_EDIT_DATA 12).toNat →
     (s.Opened p .QUE_EDIT_CMD 0 0 .edit (withOp QUE_EDIT_CMD_OP v 1) →
       (vfHedge p = none → templateReserved last = false →
         Yields (.templateWrite p v) s fun t =>
           t.m.replies .edit QUE_EDIT_CMD_STATUS 0 0 [] = true ∧
           lookupD t.m.buf.templates i (List.replicate 13 0) =
             ((List.range 12).map fun k => s.m.rd .QUE_EDIT_DATA k) ++ [BitVec.ofNat 64 (last / 2 ^ 13 * 2 ^ 13)] ∧
           (∀ k, k ≠ i → lookup t.m.buf.templates k = lookup s.m.buf.templates k) ∧ t.m.buf.voqs = s.m.buf.voqs) ∧
       ((vfHedge p).isSome = true →
         Yields (.templateWrite p v) s fun t => t.m.replies .edit QUE_EDIT_CMD_STATUS 0 2 [] = true ∧ t.m.buf = s.m.buf)) ∧
     (s.Opened p .QUE_EDIT_CMD 0 0 .edit (withOp QUE_EDIT_CMD_OP v 2) →
       Yields (.templateRead p v) s fun t =>
         t.m.replies .edit QUE_EDIT_CMD_STATUS 0 0 ((List.range 13).map fun k =>
           (.QUE_EDIT_DATA, k, (lookupD s.m.buf.templates i (List.replicate 13 0)).getD k 0)) = true ∧ t.m.buf = s.m.buf))) ∧
  (∀ (s : State) (p : Path) (v : Word) (n : Nat), vfHedge p = none → n = pathNum p →
     (∀ i old x, i = POL_WIN_CMD_INDEX.of v → old = lookupD s.m.sch.policers i 0 →
       x = ((s.m.rd .POL_WIN_DATA0 n).toNat + (s.m.rd .POL_WIN_DATA1 n).toNat * 2 ^ 64) &&& policerMask →
       (s.Opened p .POL_WIN_CMD 0 n (.pol n) (withOp POL_WIN_CMD_OP v 1) → s.m.stageClosed = false → s.m.tick.nowLost = false →
         stagedSize (stagedWith s.m.tick.now ⟨.policer i, x⟩) ≤ stageDepth →
         Yields (.policerWrite p v) s fun t =>
           t.m.replies (.pol n) POL_WIN_CMD_STATUS n 0 [] = true ∧ t.m.sch = s.m.sch ∧
           t.m.tick = { s.m.tick with now := stagedWith s.m.tick.now ⟨.policer i, x⟩ }) ∧
       (∀ e, e = (s.m.stagedValue (.policer i)).getD old → s.Opened p .POL_WIN_CMD 0 n (.pol n) (withOp POL_WIN_CMD_OP v 2) →
         Yields (.policerRead p v) s fun t =>
           t.m.replies (.pol n) POL_WIN_CMD_STATUS n 0
             [(.POL_WIN_DATA0, n, BitVec.ofNat 64 e), (.POL_WIN_DATA1, n, BitVec.ofNat 64 (e / 2 ^ 64))] = true ∧
           t.m.sch = s.m.sch ∧ t.m.tick = s.m.tick) ∧
       (s.Opened p .POL_WIN_CMD 0 n (.pol n) (withOp POL_WIN_CMD_OP v 3) →
         Yields (.policerReadBuckets p v) s fun t =>
           t.m.replies (.pol n) POL_WIN_CMD_STATUS n 0
             [(.POL_WIN_DATA0, n, BitVec.ofNat 64 ((s.m.bucketsOf i old).c / 256)),
              (.POL_WIN_DATA1, n, BitVec.ofNat 64 ((s.m.bucketsOf i old).pe / 256))] = true ∧ t.m.sch = s.m.sch ∧ t.m.tick = s.m.tick)) ∧
     (∀ i x, i = SHP_WIN_CMD_INDEX.of v → x = (s.m.rd .SHP_WIN_DATA n).toNat →
       (s.Opened p .SHP_WIN_CMD 0 n (.shp n) (withOp SHP_WIN_CMD_OP v 1) →
         (shKind x < 2 → -32 ≤ shOverhead x → s.m.stageClosed = false → s.m.tick.nowLost = false →
           stagedSize (stagedWith s.m.tick.now ⟨.streamShaper i, x⟩) ≤ stageDepth →
           Yields (.streamShaperWrite p v) s fun t =>
             t.m.replies (.shp n) SHP_WIN_CMD_STATUS n 0 [] = true ∧ t.m.sch = s.m.sch ∧
             t.m.tick = { s.m.tick with now := stagedWith s.m.tick.now ⟨.streamShaper i, x⟩ }) ∧
         (2 ≤ shKind x ∨ shOverhead x < -32 →
           Yields (.streamShaperWrite p v) s fun t =>
             t.m.replies (.shp n) SHP_WIN_CMD_STATUS n 3 [] = true ∧ t.m.sch = s.m.sch ∧ t.m.tick = s.m.tick)) ∧
       (s.Opened p .SHP_WIN_CMD 0 n (.shp n) (withOp SHP_WIN_CMD_OP v 2) →
         Yields (.streamShaperRead p v) s fun t =>
           t.m.replies (.shp n) SHP_WIN_CMD_STATUS n 0 [(.SHP_WIN_DATA, n,
             BitVec.ofNat 64 ((s.m.stagedValue (.streamShaper i)).getD (lookupD s.m.sch.shapers i 0).toNat))] = true ∧
           t.m.sch = s.m.sch ∧ t.m.tick = s.m.tick) ∧
       (s.Opened p .SHP_WIN_CMD 0 n (.shp n) (withOp SHP_WIN_CMD_OP v 3) →
         Yields (.shaperReadTokens p v) s fun t =>
           t.m.replies (.shp n) SHP_WIN_CMD_STATUS n 0 [(.SHP_WIN_DATA, n,
             BitVec.ofNat 64 (unsigned 32 (s.m.streamTokens i).octets))] = true ∧ t.m.sch = s.m.sch ∧ t.m.tick = s.m.tick)))

/-- The gate window writes only idle banks; a cycle starts closed or with entry 0, and an entry sets its gates. A GATE_ENTRY_WRITE that
reaches its block by a path with module-wide rights puts the entry's field bits into its bank and no other entry changes; into the bank in
force it replies status 2 and no entry changes. GATE_ENTRY_READ replies the entry. CYCLE_START at a port whose gates are off and whose
bank is not to be switched changes nothing; with no cycle in progress and no pending switch, it brings the time to the next tick boundary
where that is a cycle start of the bank, and begins a cycle there: entry 0's gates stand when it begins there, otherwise every gate is
closed. A pending switch whose SWITCH tick has come takes place at the boundary where the bank asked for has a cycle start.
GATE_ENTRY_BEGIN with no cycle changes nothing; an entry after which another begins later takes its gates, the port shows them, and the
following entry is next. (R185, R186, R187, R189, R372) -/
def Obligations.GateListsOpenAndClose : Prop :=
  (∀ (s : State) (p : Path) (v : Word) (n port bank e : Nat), vfHedge p = none → n = pathNum p → port = SCH_GATE_WIN_CMD_PORT.of v →
    bank = SCH_GATE_WIN_CMD_BANK.of v → e = SCH_GATE_WIN_CMD_ENTRY.of v →
    (s.Opened p .SCH_GATE_WIN_CMD 0 n (.gate n) (withOp SCH_GATE_WIN_CMD_OP v 1) →
      (s.m.bankActive port bank = false →
        Yields (.gateEntryWrite p v) s fun t =>
          t.m.replies (.gate n) SCH_GATE_WIN_CMD_STATUS n 0 [] = true ∧
          t.m.gateEntry port bank e = BitVec.ofNat 64 ((s.m.rd .SCH_GATE_WIN_DATA n).toNat &&& (0xFF * 2 ^ 56 + (2 ^ 31 - 1))) ∧
          (∀ k, k ≠ (2 * port + bank) * 1024 + e → lookup t.m.sch.gateEntries k = lookup s.m.sch.gateEntries k) ∧
          t.m.sch.gates = s.m.sch.gates ∧ t.m.buf = s.m.buf) ∧
      (s.m.bankActive port bank = true →
        Yields (.gateEntryWrite p v) s fun t =>
          t.m.replies (.gate n) SCH_GATE_WIN_CMD_STATUS n 2 [] = true ∧ t.m.sch = s.m.sch ∧ t.m.flag SCH_EVENT_REFUSED = true)) ∧
    (s.Opened p .SCH_GATE_WIN_CMD 0 n (.gate n) (withOp SCH_GATE_WIN_CMD_OP v 2) →
      Yields (.gateEntryRead p v) s fun t =>
        t.m.replies (.gate n) SCH_GATE_WIN_CMD_STATUS n 0 [(.SCH_GATE_WIN_DATA, n, s.m.gateEntry port bank e)] = true ∧
        t.m.sch = s.m.sch)) ∧
  (∀ (s : State) (p : Fin 128), s.Running →
    (s.m.flag SCH_PORT_CFG_GATE_EN p.val = false → s.m.flag SCH_PORT_STATUS_SWITCH_PEND p.val = false → Does (.cycleStart p) s s.m) ∧
    (s.m.flag SCH_PORT_CFG_GATE_EN p.val = true → s.m.flag SCH_PORT_STATUS_SWITCH_PEND p.val = false →
      (∀ g, lookup s.m.sch.gates p.val = some g → g.cycle = none) →
      ∀ n, n = s.m.tick.boundary / (s.m.period * unitsPerNs) →
      (s.m.cycleTick p.val (s.m.get SCH_PORT_STATUS_CUR_BANK p.val) n = false → Does (.cycleStart p) s s.m) ∧
      (∀ b, b = s.m.get SCH_PORT_STATUS_CUR_BANK p.val → s.m.cycleTick p.val b n = true →
        (s.m.beginGrain p.val b 0 ≠ 0 →
          Yields (.cycleStart p) s fun t =>
            (lookup t.m.sch.gates p.val).map (fun g => (g.cycle, g.cycleEnd, g.next, g.gates)) =
              some (some s.m.tick.boundary, s.m.tick.boundary + s.m.cycleLen p.val b, 0, 0) ∧
            t.m.get SCH_PORT_STATUS_GATES p.val = 0 ∧ (∀ c, t.m.gateOpen p.val c = false) ∧ (s.m.buf.arriving = [] → t.m.buf = s.m.buf)) ∧
        (s.m.beginGrain p.val b 0 = 0 → 0 < s.m.bankLen p.val b → 0 < s.m.beginGrain p.val b 1 →
          Yields (.cycleStart p) s fun t =>
            (lookup t.m.sch.gates p.val).map (fun g => (g.cycle, g.cycleEnd, g.next, g.gates)) =
              some (some s.m.tick.boundary, s.m.tick.boundary + s.m.cycleLen p.val b, 1, s.m.entryGates p.val b 0) ∧
            t.m.get SCH_PORT_STATUS_GATES p.val = s.m.entryGates p.val b 0 ∧ (s.m.buf.arriving = [] → t.m.buf = s.m.buf)))) ∧
    (s.m.flag SCH_PORT_CFG_GATE_EN p.val = false → s.m.flag SCH_PORT_STATUS_SWITCH_PEND p.val = true →
      ∀ n, n = s.m.tick.boundary / (s.m.period * unitsPerNs) → (s.m.rd .SCH_GATE_SWITCH p.val).toNat ≤ n →
      s.m.cycleTick p.val (s.m.get SCH_GATE_CTL_REQ_BANK p.val) n = true →
      Yields (.cycleStart p) s fun t =>
        t.m.get SCH_PORT_STATUS_CUR_BANK p.val = s.m.get SCH_GATE_CTL_REQ_BANK p.val ∧
        t.m.flag SCH_PORT_STATUS_SWITCH_PEND p.val = false ∧ t.m.flag SCH_EVENT_SWITCHED = true)) ∧
  (∀ (s : State) (p : Fin 128), s.Running →
    (s.m.gateSt p.val = none → Does (.gateEntryBegin p) s s.m) ∧
    (∀ g cs b at_, s.m.gateSt p.val = some g → g.cycle = some cs → b = s.m.get SCH_PORT_STATUS_CUR_BANK p.val →
      at_ = cs + s.m.beginGrain p.val b g.next * grain →
      (s.m.bankLen p.val b ≤ g.next ∨ g.cycleEnd ≤ at_ → Does (.gateEntryBegin p) s s.m) ∧
      (g.next < s.m.bankLen p.val b → at_ < g.cycleEnd → at_ ≤ s.m.time.net →
        s.m.beginGrain p.val b g.next < s.m.beginGrain p.val b (g.next + 1) →
        Yields (.gateEntryBegin p) s fun t =>
          (lookup t.m.sch.gates p.val).map (fun g => (g.cycle, g.cycleEnd, g.next, g.gates)) =
            some (some cs, g.cycleEnd, g.next + 1, s.m.entryGates p.val b g.next) ∧
          t.m.get SCH_PORT_STATUS_GATES p.val = s.m.entryGates p.val b g.next ∧
          t.m.get SCH_PORT_STATUS_CUR_ENTRY p.val = g.next % 1024 ∧ t.m.buf = s.m.buf)))

/-- A timed copy moves into the launch queue in order of its time while there is room, and its time comes. LAUNCH_QUEUE_ENTRY of an empty
queue, or of a head without a launch time, changes nothing. A head with one moves, while fewer than 4,096 copies wait at the port, from
its queue into the launch queue of its class, in order of T and behind those with the same T; no other queue changes. With no room, a head
that has not waited yet is marked as waiting and stays the head. LAUNCH_DUE brings the network time to the launch time of the head, if
that is still to come, and leaves the queue as it is; without a head it changes nothing. (R193, R194, R195) -/
def Obligations.LaunchQueueFillsAndFalls : Prop :=
  (∀ (s : State) (src : Fin 134) (p : Fin 128) (c : Fin 8), s.Running → s.m.voq (voqKey src.val p.val c.val) = [] → Does (.launchQueueEntry src p c) s s.m) ∧
  (∀ (s : State) (src : Fin 134) (p : Fin 128) (c : Fin 8) (h : Copy) (rest : List Copy), s.Running → s.m.voq (voqKey src.val p.val c.val) = h :: rest →
    (h.launch = none → Does (.launchQueueEntry src p c) s s.m) ∧
    (h.launch.isSome = true → s.m.get SCH_PORT_STATUS_LQ_FILL p.val < 4096 →
      Yields (.launchQueueEntry src p c) s fun t =>
        t.m.voq (voqKey src.val p.val c.val) = rest ∧
        t.m.launchQ p.val c.val = launchInsert (s.m.launchQ p.val c.val) h ∧
        (∀ k, k ≠ voqKey src.val p.val c.val → t.m.voq k = s.m.voq k) ∧
        (∀ q d, (q, d) ≠ (p.val, c.val) → d < 8 → t.m.launchQ q d = s.m.launchQ q d) ∧ t.m.buf.frames = s.m.buf.frames ∧ t.m.time = s.m.time) ∧
    (h.launch.isSome = true → 4096 ≤ s.m.get SCH_PORT_STATUS_LQ_FILL p.val → h.waited = false →
      Yields (.launchQueueEntry src p c) s fun t =>
        t.m.voq (voqKey src.val p.val c.val) = { h with waited := true } :: rest ∧ t.m.sch = s.m.sch) ∧
    (h.launch.isSome = true → 4096 ≤ s.m.get SCH_PORT_STATUS_LQ_FILL p.val → h.waited = true → Does (.launchQueueEntry src p c) s s.m)) ∧
  (∀ (l : List Copy) (x : Copy), (l.map fun c => c.launch.getD 0).Pairwise (· ≤ ·) →
    ((launchInsert l x).map fun c => c.launch.getD 0).Pairwise (· ≤ ·)) ∧
  (∀ (s : State) (p : Fin 128) (c : Fin 8), s.Running →
    (s.m.launchQ p.val c.val = [] → Does (.launchDue p c) s s.m) ∧
    (∀ h rest, s.m.launchQ p.val c.val = h :: rest → s.m.time.slew = 0 →
      Yields (.launchDue p c) s fun t =>
        h.launch.getD 0 ≤ t.m.time.net ∧ (h.launch.getD 0 ≤ s.m.time.net → t.m = s.m) ∧ t.m.launchQ p.val c.val = h :: rest ∧
        (s.m.buf.arriving = [] → t.m.buf = s.m.buf)))

/-- A write to TIM_ADJ slews, or leaves a step or set pending for the commit, or is refused; the counter itself does not move. For a write
to TIM_ADJ that reaches the register. A slew replaces what remained by OFFSET and cancels a pending step; a step in range at its commit,
or a set in range whose nanoseconds are below a second, is pending with STEP_PEND and leaves the slew; a step or set out of range, or a
bad set, is refused and leaves the time as it was. Automatic mode slews when steps are disabled or OFFSET is within STEP_US, and otherwise
steps. None moves the network time at once, nor any frame. SLEW_DONE at a slew rate that is not zero passes the cycles the slew needs and
applies exactly its remainder. (R204, R205, R206) -/
def Obligations.TimeIsSteeredAsAsked : Prop :=
  (∀ (s : State) (p : Path) (v : Word) (off : Int), off = signed 62 (TIM_ADJ_OFFSET.of v) →
    (s.Granted p .TIM_ADJ 0 0 (withOp TIM_ADJ_MODE v 2) →
      Yields (.adjSlew p v) s fun t =>
        t.m.time.slew = off * offsetUnits ∧ t.m.time.adj = none ∧ t.m.get TIM_STATUS_STEP_PEND = 0 ∧ t.m.time.net = s.m.time.net ∧
        t.m.time.adjAt = s.m.now ∧ t.m.buf = s.m.buf) ∧
    (s.Granted p .TIM_ADJ 0 0 (withOp TIM_ADJ_MODE v 1) →
      (outOfRange (s.m.commitNet + off * offsetUnits) = false →
        Yields (.adjStep p v) s fun t =>
          t.m.time.adj = some (.step off) ∧ t.m.time.slew = s.m.time.slew ∧ t.m.get TIM_STATUS_STEP_PEND = 1 ∧
          t.m.time.net = s.m.time.net ∧ t.m.buf = s.m.buf) ∧
      (outOfRange (s.m.commitNet + off * offsetUnits) = true →
        Yields (.adjStep p v) s fun t => t.m.time = s.m.time ∧ t.m.flag TIM_EVENT_REFUSED = true ∧ t.m.rd .TIM_STATUS = s.m.rd .TIM_STATUS)) ∧
    (s.Granted p .TIM_ADJ 0 0 (withOp TIM_ADJ_MODE v 0) →
      (s.m.flag TIM_SERVO_CFG_STEP_EN = false ∨ off.natAbs ≤ s.m.get TIM_SERVO_CFG_STEP_US * 1000 * 65536 →
        Yields (.adjAuto p v) s fun t =>
          t.m.time.slew = off * offsetUnits ∧ t.m.time.adj = none ∧ t.m.time.net = s.m.time.net) ∧
      (s.m.flag TIM_SERVO_CFG_STEP_EN = true → s.m.get TIM_SERVO_CFG_STEP_US * 1000 * 65536 < off.natAbs →
        outOfRange (s.m.commitNet + off * offsetUnits) = false →
        Yields (.adjAuto p v) s fun t =>
          t.m.time.adj = some (.step off) ∧ t.m.time.slew = s.m.time.slew ∧ t.m.time.net = s.m.time.net)) ∧
    (s.Granted p .TIM_ADJ 0 0 (withOp TIM_ADJ_MODE v 3) →
      (∀ x : Nat, x = s.m.get TIM_SET_SEC_SEC * unitsPerS + s.m.get TIM_SET_NS_NS * unitsPerNs + s.m.get TIM_SET_NS_FRAC * 100000000 →
        s.m.get TIM_SET_NS_NS < 1000000000 →
        (outOfRange ((x : Int) + (s.m.commitNet - s.m.time.net)) = false →
          Yields (.adjSet p v) s fun t =>
            t.m.time.adj = some (.set x s.m.now) ∧
            t.m.time.slew = s.m.time.slew ∧ t.m.get TIM_STATUS_STEP_PEND = 1 ∧ t.m.time.net = s.m.time.net) ∧
        (outOfRange ((x : Int) + (s.m.commitNet - s.m.time.net)) = true →
          Yields (.adjSet p v) s fun t => t.m.time = s.m.time ∧ t.m.flag TIM_EVENT_REFUSED = true)) ∧
      (1000000000 ≤ s.m.get TIM_SET_NS_NS →
        Yields (.adjSet p v) s fun t => t.m.time = s.m.time ∧ t.m.flag TIM_EVENT_REFUSED = true))) ∧
  (∀ s : State, s.Running →
    (s.m.slewRate ≠ 0 →
      Yields .slewDone s fun t =>
        t.m.time.slew = 0 ∧ t.m.now = s.m.now + s.m.slewCycles ∧
        t.m.time.net = (((s.m.time.net + s.m.slewCycles * unitsPerNs : Nat) : Int) + s.m.time.slew).toNat ∧
        (s.m.buf.arriving = [] → t.m.buf = s.m.buf)) ∧
    (s.m.slewRate = 0 → Does .slewDone s s.m))

/-- Frequency, reference order, measurements, time of day and islands take effect; PPS is measured and put out. For a write that reaches
its register: TIM_FREQ holds the word and the PLL applies it, unless it runs at its holdover rate and no time-bearing reference has been
selected since. TIM_REF_PRIO holds an ORDER that names each reference once; any other is refused and leaves the register. TIM_PTP_MEAS
holds the measurement, makes reference 0 seen now, and one that was absent is present again while references are monitored. TIM_PPS_TOD
holds the time of day. TIM_ISLAND holds changed bits and raises its event, and outside holdover leaves TSTATE. The network time does not
move. PPS_EDGE leaves a valid error, remembers the edge, makes REF10 seen now, and does not move the network time; the first edge changes
no reference's state. PPS_OUT_PULSE, while no slew runs, brings the network time just past the next whole second plus OUT_OFFSET_NS
(exactly one is crossed); with the output on, the pulse then ends OUT_WIDTH_US later, and with it off none begins. PPS_OUT_END of a pulse
brings the time to its end if that is still to come and ends it; without a pulse it changes nothing. (R203, R211, R213, R214, R218, R230,
R229, R231) -/
def Obligations.TimeRegistersAndPps : Prop :=
  ((∀ (s : State) (p : Path) (v : Word), s.Granted p .TIM_FREQ 0 0 v →
     Yields (.freqWrite p v) s fun t =>
       t.m.rd .TIM_FREQ = (wholeWrite p .TIM_FREQ 0 v).onto (s.m.rd .TIM_FREQ) ∧ t.m.time.net = s.m.time.net ∧
       (s.m.freqFrozen = true → t.m.time.pllWord = s.m.time.pllWord) ∧
       (s.m.freqFrozen = false → t.m.time.pllWord = signed 40 (TIM_FREQ_FREQ.of v)) ∧ t.m.buf = s.m.buf) ∧
   (∀ (s : State) (p : Path) (v new : Word), s.Granted p .TIM_REF_PRIO 0 0 v →
     new = (wholeWrite p .TIM_REF_PRIO 0 v).onto (s.m.rd .TIM_REF_PRIO) →
     (orderGood new = true → Yields (.refPrioWrite p v) s fun t => t.m.rd .TIM_REF_PRIO = new ∧ t.m.time.net = s.m.time.net ∧ t.m.buf = s.m.buf) ∧
     (orderGood new = false →
       Yields (.refPrioWrite p v) s fun t =>
         t.m.rd .TIM_REF_PRIO = s.m.rd .TIM_REF_PRIO ∧ t.m.flag TIM_EVENT_REFUSED = true ∧ t.m.time = s.m.time)) ∧
   (∀ (s : State) (p : Path) (v : Word), s.Granted p .TIM_PTP_MEAS 0 0 v →
     Yields (.ptpMeasWrite p v) s fun t =>
       t.m.rd .TIM_PTP_MEAS = (wholeWrite p .TIM_PTP_MEAS 0 v).onto (s.m.rd .TIM_PTP_MEAS) ∧ t.m.time.ref0.lastSeen = s.m.now ∧
       t.m.get TIM_REF_STATUS_STATE 0 =
         (if s.m.get TIM_REF_STATUS_STATE 0 = 0 ∧ s.m.time.monitorUp = true then 1 else s.m.get TIM_REF_STATUS_STATE 0) ∧
       t.m.time.net = s.m.time.net ∧ t.m.buf = s.m.buf) ∧
   (∀ (s : State) (p : Path) (v : Word), s.Granted p .TIM_PPS_TOD 0 0 v →
     Yields (.ppsTodWrite p v) s fun t =>
       t.m.rd .TIM_PPS_TOD = (wholeWrite p .TIM_PPS_TOD 0 v).onto (s.m.rd .TIM_PPS_TOD) ∧ t.m.time = s.m.time ∧ t.m.buf = s.m.buf) ∧
   (∀ (s : State) (p : Path) (v new : Word), s.Granted p .TIM_ISLAND 0 0 v → new = (wholeWrite p .TIM_ISLAND 0 v).onto (s.m.rd .TIM_ISLAND) →
     (new = s.m.rd .TIM_ISLAND → Yields (.island p v) s fun t => t.m.rd .TIM_ISLAND = new ∧ t.m.time = s.m.time) ∧
     (new ≠ s.m.rd .TIM_ISLAND → s.m.inHoldover = false →
       Yields (.island p v) s fun t =>
         t.m.rd .TIM_ISLAND = new ∧ t.m.flag TIM_EVENT_ISLAND = true ∧ t.m.tstate = s.m.tstate ∧ t.m.time.net = s.m.time.net ∧
         t.m.buf = s.m.buf))) ∧
  ((∀ (s : State) (ago cycles : Nat) (ref10 : Bool), s.Running →
     Yields (.ppsEdge ago cycles ref10) s fun t =>
       t.m.flag TIM_PPS_ERR_VALID = true ∧ t.m.time.ppsAt = some s.m.now ∧ t.m.time.ref1.lastSeen = s.m.now ∧ t.m.time.net = s.m.time.net ∧
       (s.m.time.ppsAt = none → ∀ r, t.m.get TIM_REF_STATUS_STATE r = s.m.get TIM_REF_STATUS_STATE r) ∧ t.m.buf = s.m.buf) ∧
   (∀ (s : State) (off : Int), s.Running → s.m.time.slew = 0 → off = signed 16 (s.m.get TIM_PPS_CFG_OUT_OFFSET_NS) * (unitsPerNs : Int) →
     Yields .ppsOutPulse s fun t =>
       ((t.m.time.net : Int) - off) / (unitsPerS : Int) = ((s.m.time.net : Int) - off) / (unitsPerS : Int) + 1 ∧
       ((t.m.time.net : Int) - off) % (unitsPerS : Int) < (unitsPerNs : Int) ∧
       (s.m.get TIM_PPS_CFG_OUT_MODE = 1 → t.m.time.ppsOutEnd = some (t.m.now + s.m.get TIM_PPS_CFG_OUT_WIDTH_US * 1000)) ∧
       (s.m.get TIM_PPS_CFG_OUT_MODE = 0 → t.m.time.ppsOutEnd = s.m.time.ppsOutEnd) ∧ (s.m.buf.arriving = [] → t.m.buf = s.m.buf)) ∧
   (∀ s : State, s.Running →
     (s.m.time.ppsOutEnd = none → Does .ppsOutEnd s s.m) ∧
     (∀ c, s.m.time.ppsOutEnd = some c → Yields .ppsOutEnd s fun t =>
       t.m.time.ppsOutEnd = none ∧ t.m.now = Nat.max s.m.now c ∧ (s.m.buf.arriving = [] → t.m.buf = s.m.buf))))

/-- A lost reference, a silent servo and an expired holdover move the time state; a monitor window starts the next one. REFERENCE_LOSS of
an absent reference, or while the REF domain is out of service, changes nothing; of a present one (OCXO, REF10 or, three seconds silent,
PTP) leaves it ABSENT with its event, and when it was the selected time-bearing one, no other is GOOD and time is LOCKED without being an
island's master, time goes into HOLDOVER with nothing selected, usable if HOLD_PERMIT says so. OVEN_READY makes an absent oscillator
present. SERVO_TIMEOUT in LOCKED, its seconds past, goes into HOLDOVER, and HOLDOVER_EXPIRY in HOLDOVER, its minutes past, into EXPIRED,
no longer usable; in other states they change nothing. MONITOR_WINDOW keeps what it measured and begins a new count of servo writes. The
network time does not move. (R209, R210, R214, R215, R216) -/
def Obligations.TimeStatesFollowTheReferences : Prop :=
  (∀ (s : State) (r : Fin 4), s.Running →
    (s.m.get TIM_REF_STATUS_STATE r.val = 0 → Does (.referenceLoss r) s s.m) ∧
    ((r.val = 0 → s.m.time.ref0.lastSeen + 3 * oneSecond ≤ s.m.now) → s.m.time.monitorUp = false → Does (.referenceLoss r) s s.m) ∧
    (s.m.get TIM_REF_STATUS_STATE r.val ≠ 0 → (r.val = 0 → s.m.time.ref0.lastSeen + 3 * oneSecond ≤ s.m.now) → s.m.time.monitorUp = true →
      Yields (.referenceLoss r) s fun t =>
        t.m.get TIM_REF_STATUS_STATE r.val = 0 ∧ t.m.flag TIM_EVENT_REF = true ∧ t.m.time.net = s.m.time.net ∧
        (s.m.selRef = r.val → r.val < 2 → (∀ x ∈ s.m.goodRefs, x = r.val) → s.m.tstate = 2 → s.m.flag TIM_ISLAND_MASTER = false →
          t.m.tstate = 3 ∧ t.m.selRef = 4 ∧ t.m.flag TIM_STATUS_USABLE = s.m.flag TIM_HOLD_CFG_HOLD_PERMIT) ∧
        t.m.buf = s.m.buf)) ∧
  (∀ (s : State) (b : Bool), s.Running →
    Yields (.ovenReady b) s fun t =>
      (t.m.time.ocxo (if b then 3 else 2)).ovenReady = true ∧ t.m.time.net = s.m.time.net ∧
      t.m.get TIM_REF_STATUS_STATE (if b then 3 else 2) =
        (if s.m.get TIM_REF_STATUS_STATE (if b then 3 else 2) = 0 ∧ s.m.time.monitorUp = true then 1 else s.m.get TIM_REF_STATUS_STATE (if b then 3 else 2))) ∧
  (∀ s : State, s.Running →
    (s.m.tstate ≠ 2 ∨ s.m.flag TIM_ISLAND_MASTER = true → Does .servoTimeout s s.m) ∧
    (s.m.tstate = 2 → s.m.flag TIM_ISLAND_MASTER = false → s.m.time.adjAt + s.m.get TIM_SERVO_CFG_SERVO_TO_S * oneSecond ≤ s.m.now →
      Yields .servoTimeout s fun t =>
        t.m.tstate = 3 ∧ t.m.time.holdAt = s.m.now ∧ t.m.flag TIM_EVENT_TSTATE = true ∧ t.m.time.net = s.m.time.net ∧
        t.m.flag TIM_STATUS_USABLE = s.m.flag TIM_HOLD_CFG_HOLD_PERMIT) ∧
    (s.m.tstate ≠ 3 → Does .holdoverExpiry s s.m) ∧
    (s.m.tstate = 3 → s.m.time.holdAt + s.m.get TIM_HOLD_CFG_HOLD_MAX_MIN * 60 * oneSecond ≤ s.m.now →
      Yields .holdoverExpiry s fun t =>
        t.m.tstate = 4 ∧ t.m.flag TIM_STATUS_USABLE = false ∧ t.m.time.net = s.m.time.net)) ∧
  (∀ (s : State) (x : MonMeas), s.Running →
    (s.m.time.monitorUp = false → Does (.monitorWindow x) s s.m) ∧
    (s.m.time.monitorUp = true →
      Yields (.monitorWindow x) s fun t =>
        t.m.time.measA = x.ocxoA.getD s.m.time.measA ∧ t.m.time.measB = x.ocxoB.getD s.m.time.measB ∧
        t.m.time.meas10 = x.ref10.getD s.m.time.meas10 ∧ t.m.time.adjWrites = 0 ∧ t.m.time.adjWithin = true ∧
        t.m.time.net = s.m.time.net ∧ t.m.buf = s.m.buf ∧ t.m.fwd = s.m.fwd))

/-- Clippings rings are placed, filled, consumed and handed over. RECORD_WRITE with no record that the channel's writer can take, with no
room in the channel's write queue, or with no channel left, changes nothing; of an ordinary record whose ring is not full, while no fence
marker waits, it stores the record's 256 octets at the ring's next place and no other octet of SDRAM (but for what the counter's event
writes), advances PROD by one and takes the record from the buffer. The flush of a disabled Hedge, shed at level 4, or of a cluster that
does not run, changes nothing; a flush of one record to the host, within the tick's budget, with room and bus mastering, writes it to the
host ring's next place and advances both rings by one. For a write that reaches its register. CLP_RING_CFG: a place that meets another
ring or passes the region's end is refused and nothing changes; an accepted one holds, its indices are zero, and the ring's records that
wait are dropped, its fence markers staying while the ring has a size. CLP_RING_CONS of a ring that microcode does not consume: a value
that does not go back nor past PROD becomes CONS, any other leaves it and is refused. CLP_HOST_BASE holds the host ring and both its
indices are zero. (R240, R241, R245, R247) -/
def Obligations.ClippingsRings : Prop :=
  ((∀ (s : State) (c : Fin 2), s.Running →
     (s.m.writerBlocked c.val = true ∨ s.m.nextRecord c.val = none ∨ 2 ≤ s.m.clp.lost.length → Does (.recordWrite c) s s.m) ∧
     (∀ r i a w, s.m.writerBlocked c.val = false → s.m.clp.lost.length < 2 → s.m.clp.markers = [] → s.m.nextRecord c.val = some r → r.fence = false → s.m.clipFull r.hedge = false →
       i = s.m.get CLP_RING_PROD_PROD r.hedge → a = s.m.clipAddr r.hedge i → w = withDropped r.word (lookupD s.m.clp.dropped r.hedge 0) →
       Yields (.recordWrite c) s fun t => ∃ m1 : Mod,
         t.m = m1.bump (clpCtr r.hedge 0) ∧ memRead m1.drm.mem a 256 = toBytes 256 w ∧
         (∀ b, b < a ∨ a + 256 ≤ b → memByte m1.drm.mem b = memByte s.m.drm.mem b) ∧
         m1.get CLP_RING_PROD_PROD r.hedge = (i + 1) % 2 ^ 32 ∧ m1.clp.recs = s.m.clp.recs.erase r ∧
         lookup m1.clp.dropped r.hedge = none ∧ m1.buf = s.m.buf ∧ m1.fwd = s.m.fwd)) ∧
   (∀ (s : State) (h : Fin 16) (c : Fin 4) (n : Nat), s.Running →
     (4 ≤ s.m.get GLB_TICK_CFG_SHED_LEVEL ∨ s.m.flag CLP_HEDGE_CFG_EN h.val = false ∨ s.m.get ENG_CLUSTER_STATUS_STATE c.val ≠ 0 ∨
         (s.m.cl c.val).lost = true → Does (.clippingsFlush h c n) s s.m) ∧
     (s.m.get GLB_TICK_CFG_SHED_LEVEL < 4 → s.m.flag CLP_HEDGE_CFG_EN h.val = true → s.m.get CLP_HEDGE_CFG_DELIVER h.val = 1 →
       0 < s.m.clipFill h.val → s.m.hdg.busMaster.contains (h.val + 1) = true → s.m.clp.markers = [] →
       s.m.get ENG_CLUSTER_STATUS_STATE c.val = 0 → (s.m.cl c.val).lost = false → s.m.flushedNow c.val < s.m.flushBudget →
       ∀ size prod, size = 2 ^ s.m.get CLP_HOST_BASE_LOG2_SIZE h.val → prod = s.m.get CLP_HOST_IDX_PROD h.val →
       (prod + 2 ^ 32 - s.m.get CLP_HOST_IDX_CONS h.val) % 2 ^ 32 < size →
       Yields (.clippingsFlush h c 1) s fun t =>
         Output.hostWrite (h.val + 1) (s.m.get CLP_HOST_BASE_ADDR h.val * 4096 + prod % size * 256)
           (s.m.clipRecord h.val (s.m.get CLP_RING_CONS_CONS h.val)) ∈ t.m.evt.out ∧
         t.m.get CLP_RING_CONS_CONS h.val = (s.m.get CLP_RING_CONS_CONS h.val + 1) % 2 ^ 32 ∧
         t.m.get CLP_HOST_IDX_PROD h.val = (prod + 1) % 2 ^ 32 ∧ t.m.buf = s.m.buf))) ∧
  ((∀ (s : State) (p : Path) (h : Fin 16) (v : Word), s.Granted p .CLP_RING_CFG h.val h.val v →
     ∀ new, new = (wholeWrite p .CLP_RING_CFG h.val v).onto (s.m.rd .CLP_RING_CFG h.val) →
     (s.m.clipOverlap h.val new = true →
       Yields (.ringCfgWrite p h v) s fun t =>
         t.m.rd .CLP_RING_CFG h.val = s.m.rd .CLP_RING_CFG h.val ∧ t.m.clp = s.m.clp ∧ t.m.flag CLP_EVENT_REFUSED = true ∧
         t.m.rd .CLP_RING_PROD h.val = s.m.rd .CLP_RING_PROD h.val) ∧
     (s.m.clipOverlap h.val new = false →
       Yields (.ringCfgWrite p h v) s fun t =>
         t.m.rd .CLP_RING_CFG h.val = new ∧ t.m.get CLP_RING_PROD_PROD h.val = 0 ∧ t.m.get CLP_RING_CONS_CONS h.val = 0 ∧
         (s.m.clp.markers = [] → t.m.clp.markers = [] ∧
           t.m.clp.recs = (s.m.clp.recs.filter fun r => r.hedge != h.val || (r.fence && CLP_RING_CFG_SIZE.of new != 0))) ∧ t.m.buf = s.m.buf)) ∧
   (∀ (s : State) (p : Path) (h : Fin 16) (cons : BitVec 32), s.Granted p .CLP_RING_CONS h.val h.val (CLP_RING_CONS_CONS.put 0 cons.toNat) →
     (s.m.get CLP_HEDGE_CFG_DELIVER h.val = 0 ∨ isCluster p = true →
       consAccepts (s.m.get CLP_RING_PROD_PROD h.val) (s.m.get CLP_RING_CONS_CONS h.val) cons.toNat = true →
       Yields (.consWrite p h cons) s fun t =>
         t.m.get CLP_RING_CONS_CONS h.val = cons.toNat ∧ t.m.rd .CLP_RING_PROD h.val = s.m.rd .CLP_RING_PROD h.val ∧ t.m.buf = s.m.buf) ∧
     (consAccepts (s.m.get CLP_RING_PROD_PROD h.val) (s.m.get CLP_RING_CONS_CONS h.val) cons.toNat = false ∨
         (s.m.get CLP_HEDGE_CFG_DELIVER h.val ≠ 0 ∧ isCluster p = false) →
       Yields (.consWrite p h cons) s fun t =>
         t.m.get CLP_RING_CONS_CONS h.val = s.m.get CLP_RING_CONS_CONS h.val ∧ t.m.flag CLP_EVENT_DROP = true ∧ t.m.clp = s.m.clp)) ∧
   (∀ (s : State) (p : Path) (h : Fin 16) (v : Word), s.Granted p .CLP_HOST_BASE h.val h.val v →
     Yields (.hostBaseWrite p h v) s fun t =>
       t.m.rd .CLP_HOST_BASE h.val = (wholeWrite p .CLP_HOST_BASE h.val v).onto (s.m.rd .CLP_HOST_BASE h.val) ∧
       t.m.get CLP_HOST_IDX_PROD h.val = 0 ∧ t.m.get CLP_HOST_IDX_CONS h.val = 0 ∧ t.m.clp = s.m.clp ∧ t.m.buf = s.m.buf))

/-- A reset begins with a new epoch, its walk flushes the Hedge's entries, and Hedge 0 is never reset. For a write to HDG_RESET that
reaches the register. A reset of Hedge 0, or a RELOAD with no Topiary copy, is refused and no reset begins. With none under way for the
Hedge, SOFT and RELOAD begin one that waits for its walk: the Hedge reads RESETTING with the next epoch, and none of its learn requests
stands. HEDGE_WALK_DONE of the oldest waiting reset: no dynamic entry of the Hedge stands in the FDB (none at all for RELOAD), the buffer
reads it no longer as resetting, and the reset waits for its commit; of any other Hedge it changes nothing. (R338, R349, R350, R351) -/
def Obligations.HedgeResetEmptiesItsHedge : Prop :=
  (∀ (s : State) (p : Path) (h : Fin 16), s.Granted p .HDG_RESET h.val h.val (HDG_RESET_KIND.put 0 1) →
    (h.val = 0 → Yields (.softReset p h) s fun t => t.m.hdg = s.m.hdg ∧ t.m.flag HDG_EVENT_REFUSED 0 = true ∧ t.m.buf = s.m.buf) ∧
    (h.val ≠ 0 → s.m.hdg.resets.find? (·.hedge == h.val) = none →
      Yields (.softReset p h) s fun t =>
        t.m.hdg.resets = s.m.hdg.resets ++ [{ hedge := h.val, reload := false, phase := .walk }] ∧
        t.m.get HDG_STATUS_STATE h.val = 1 ∧ t.m.get HDG_STATUS_LAST_KIND h.val = 1 ∧ t.m.flag BUF_HEDGE_STATUS_RESETTING h.val = true ∧
        t.m.get BUF_HEDGE_STATUS_EPOCH h.val = (s.m.get BUF_HEDGE_STATUS_EPOCH h.val + 1) % 2 ^ BUF_HEDGE_STATUS_EPOCH.width ∧
        (∀ r ∈ t.m.fwd.learn, fidHedge (feFid r.entry) ≠ h.val) ∧ t.m.fwd.fdb = s.m.fwd.fdb)) ∧
  (∀ (s : State) (p : Path) (h : Fin 16), s.Granted p .HDG_RESET h.val h.val (HDG_RESET_KIND.put 0 2) →
    (h.val = 0 ∨ s.m.boot.topLen = 0 →
      Yields (.reloadReset p h) s fun t => t.m.hdg = s.m.hdg ∧ t.m.flag HDG_EVENT_REFUSED h.val = true ∧ t.m.buf = s.m.buf) ∧
    (h.val ≠ 0 → s.m.boot.topLen ≠ 0 → s.m.hdg.resets.find? (·.hedge == h.val) = none →
      Yields (.reloadReset p h) s fun t =>
        t.m.hdg.resets = s.m.hdg.resets ++ [{ hedge := h.val, reload := true, phase := .walk }] ∧
        t.m.get HDG_STATUS_STATE h.val = 1 ∧ t.m.get HDG_STATUS_LAST_KIND h.val = 2 ∧ t.m.flag BUF_HEDGE_STATUS_RESETTING h.val = true)) ∧
  (∀ (s : State) (h : Fin 16), s.Running →
    (s.m.hdg.resets.find? (·.phase == .walk) = none → Does (.hedgeWalkDone h) s s.m) ∧
    (∀ r, s.m.hdg.resets.find? (·.phase == .walk) = some r →
      (r.hedge ≠ h.val → Does (.hedgeWalkDone h) s s.m) ∧
      (r.hedge = h.val →
        Yields (.hedgeWalkDone h) s fun t =>
          (∀ e ∈ t.m.fwd.fdb, fidHedge (feFid e.2) = h.val → r.reload = false ∧ feStatic e.2 = true) ∧
          (∀ e ∈ s.m.fwd.fdb, fidHedge (feFid e.2) ≠ h.val → e ∈ t.m.fwd.fdb) ∧
          t.m.flag BUF_HEDGE_STATUS_RESETTING h.val = false ∧ t.m.flag BUF_EVENT_FLUSHED = true ∧
          (∀ x ∈ t.m.hdg.resets, x.hedge = h.val → x.phase = .reset))))

/-- Ownership, floors, Gaps and ring placements change only as their rules allow. For a write that reaches its register. A port owner
changes only while the port is disabled and holds no cells, and then the old Hedge's entries to the port are flushed; otherwise the owner
stays and the refusal is told to it. A floor above Hedge 0's current values is refused. A Gap definition that the checks refuse leaves the
Gap as it was; others hold. A ring placement that meets another ring in SDRAM is refused; an accepted one holds, and an idle ring begins
again at zero. (R335, R338, R340, R346, R355) -/
def Obligations.HedgeConfigurationIsGuarded : Prop :=
  (∀ (s : State) (path : Path) (p : Fin 128) (h : Fin 16), s.Granted path .HDG_PORT_OWNER p.val p.val (HDG_PORT_OWNER_HEDGE.put 0 h.val) →
    s.m.owner p.val ≠ h.val →
    s.m.overCommits .HDG_PORT_OWNER p.val ((wholeWrite path .HDG_PORT_OWNER p.val (HDG_PORT_OWNER_HEDGE.put 0 h.val)).onto (s.m.rd .HDG_PORT_OWNER p.val)) =
      false →
    (s.m.get PRT_PORT_CFG_ADMIN p.val ≠ 0 ∨ s.m.get BUF_PORT_STATUS_OUT_USED p.val ≠ 0 →
      Yields (.portOwnerWrite path p h) s fun t =>
        t.m.owner p.val = s.m.owner p.val ∧ t.m.flag HDG_EVENT_REFUSED (s.m.owner p.val) = true ∧ t.m.fwd = s.m.fwd) ∧
    (s.m.get PRT_PORT_CFG_ADMIN p.val = 0 → s.m.get BUF_PORT_STATUS_OUT_USED p.val = 0 →
      Yields (.portOwnerWrite path p h) s fun t =>
        t.m.owner p.val = h.val ∧
        t.m.fwd.fdb = (s.m.fwd.fdb.filter fun e =>
          !(fidHedge (feFid e.2) == s.m.owner p.val && feKind e.2 == 0 && feDest e.2 == p.val)))) ∧
  (∀ (s : State) (path : Path) (v new : Word), s.Granted path .HDG_ROOT_FLOOR 0 0 v →
    new = (wholeWrite path .HDG_ROOT_FLOOR 0 v).onto (s.m.rd .HDG_ROOT_FLOOR) →
    (s.m.floorAbove new = true → Yields (.rootFloorWrite path v) s fun t =>
      t.m.rd .HDG_ROOT_FLOOR = s.m.rd .HDG_ROOT_FLOOR ∧ t.m.flag HDG_EVENT_REFUSED 0 = true) ∧
    (s.m.floorAbove new = false → Yields (.rootFloorWrite path v) s fun t => t.m.rd .HDG_ROOT_FLOOR = new ∧ t.m.hdg = s.m.hdg)) ∧
  (∀ (s : State) (path : Path) (g : Fin 64) (v new : Word), s.Granted path .HDG_GAP_CFG0 g.val g.val v →
    new = (wholeWrite path .HDG_GAP_CFG0 g.val v).onto (s.m.rd .HDG_GAP_CFG0 g.val) →
    (s.m.gapCheck new ≠ 0 → Yields (.gapWrite path g false v) s fun t =>
      t.m.rd .HDG_GAP_CFG0 g.val = s.m.rd .HDG_GAP_CFG0 g.val ∧ t.m.flag HDG_EVENT_GAP 0 = true) ∧
    (s.m.gapCheck new = 0 → Yields (.gapWrite path g false v) s fun t => t.m.rd .HDG_GAP_CFG0 g.val = new ∧ t.m.buf = s.m.buf)) ∧
  (∀ (s : State) (path : Path) (g : Fin 64) (v : Word), s.Granted path .HDG_GAP_CFG1 g.val g.val v →
    Yields (.gapWrite path g true v) s fun t =>
      t.m.rd .HDG_GAP_CFG1 g.val = (wholeWrite path .HDG_GAP_CFG1 g.val v).onto (s.m.rd .HDG_GAP_CFG1 g.val) ∧ t.m.buf = s.m.buf) ∧
  (∀ (s : State) (path : Path) (h : Fin 16) (v new : Word), s.Granted path .HDG_EVT_CFG h.val h.val v →
    new = (wholeWrite path .HDG_EVT_CFG h.val v).onto (s.m.rd .HDG_EVT_CFG h.val) →
    (s.m.ringOverlap h.val new = true → Yields (.evtCfgWrite path h v) s fun t =>
      t.m.rd .HDG_EVT_CFG h.val = s.m.rd .HDG_EVT_CFG h.val ∧ t.m.flag HDG_EVENT_REFUSED h.val = true) ∧
    (s.m.ringOverlap h.val new = false → s.m.flag (CFG_DRIFT_DRIFT.bitAt (1 + h.val)) = true → lookup s.m.evt.lost h.val = none → s.m.evt.markers = [] →
      Yields (.evtCfgWrite path h v) s fun t =>
        t.m.rd .HDG_EVT_CFG h.val = new ∧ t.m.get EVT_RING_PROD_PROD h.val = 0 ∧ t.m.get EVT_RING_CONS_CONS h.val = 0 ∧
        t.m.flag EVT_RING_STATUS_FULL h.val = false))

/-- Software interrupts and messages, event-ring CONS, and the PCI Express functions behave as written. For a write that reaches its
register: HDG_SWINT makes the vector of each source raised pending for the Hedge's function, EVT_PF_SWINT the vectors 24 to 31 raised for
the physical one with their status bits, and those already pending stay so. VECTOR_MESSAGE of a vector that is not pending, is masked, or
whose function has no bus mastering, changes nothing; a pending one that has not sent before sends its message and is no longer pending.
EVT_RING_CONS of a ring that DMP does not carry (or written by DMP): a value that goes neither back nor past PROD becomes CONS; any other
leaves the ring's indices. While the PCIE domain works: NumVFs sets how many virtual functions exist, and those that no longer exist lose
bus mastering; bus mastering is given to and taken from an existing function alone; a mask sets or clears one vector's mask.
FUNCTION_LEVEL_RESET of a function that does not exist changes nothing; of virtual function h + 1 takes its bus mastering, puts
CLP_HOST_BASE of Hedge h to its boot value and raises FLR; the physical function loses bus mastering with its own. PERST_N low leaves no
virtual function and no master; its level shows on the pin, and only that while the die does not run. (R347, R348, R375, R376, R377, R344,
R345, R499) -/
def Obligations.HedgeSignals : Prop :=
  ((∀ (s : State) (p : Path) (h : Fin 16) (raise : BitVec 4), s.Granted p .HDG_SWINT h.val h.val (HDG_SWINT_RAISE.put 0 raise.toNat) →
     Yields (.swint p h raise) s fun t =>
       (∀ n, n < 4 → raise.getLsbD n = true → 8 * h.val + (s.m.rd .HDG_VEC_MAP h.val).toNat / 2 ^ (3 * (4 + n)) % 8 ∈ t.m.evt.vecPend) ∧
       (∀ k ∈ s.m.evt.vecPend, k ∈ t.m.evt.vecPend) ∧ t.m.regs = s.m.regs ∧ t.m.buf = s.m.buf) ∧
   (∀ (s : State) (p : Path) (raise : BitVec 8), s.Granted p .EVT_PF_SWINT 0 0 (EVT_PF_SWINT_RAISE.put 0 raise.toNat) →
     Yields (.pfSwint p raise) s fun t =>
       (∀ n, n < 8 → raise.getLsbD n = true → 24 + n ∈ t.m.evt.pfPend ∧ (t.m.rd .EVT_IRQ_STATUS).getLsbD (24 + n) = true) ∧
       (∀ k ∈ s.m.evt.pfPend, k ∈ t.m.evt.pfPend) ∧ (∀ r i, evtReg r = false → t.m.rd r i = s.m.rd r i) ∧ t.m.buf = s.m.buf) ∧
   (∀ (s : State) (fn : Fin 17) (v : Fin 32), s.Running →
     ((s.m.hdg.busMaster.contains fn.val = false ∨ s.m.pcieOut = true) → Does (.vectorMessage fn v) s s.m) ∧
     (fn.val = 0 → s.m.evt.pfPend.contains v.val = false ∨ s.m.evt.pfMask.contains v.val = true → Does (.vectorMessage fn v) s s.m) ∧
     (fn.val = 0 → s.m.hdg.busMaster.contains 0 = true → s.m.pcieOut = false → s.m.evt.pfPend.contains v.val = true →
       s.m.evt.pfMask.contains v.val = false → lookup s.m.evt.pfLast v.val = none →
       Does (.vectorMessage fn v) s
         ((s.m.emit (.message 0 v.val)).withEvt { (s.m.emit (.message 0 v.val)).evt with
           pfPend := eraseNat s.m.evt.pfPend v.val, pfLast := store s.m.evt.pfLast v.val s.m.now })) ∧
     (fn.val ≠ 0 → s.m.hdg.busMaster.contains fn.val = true → s.m.pcieOut = false → s.m.evt.vecPend.contains (8 * (fn.val - 1) + v.val) = true →
       s.m.evt.vecMask.contains (8 * (fn.val - 1) + v.val) = false → lookup s.m.evt.vecLast (8 * (fn.val - 1) + v.val) = none →
       Yields (.vectorMessage fn v) s fun t =>
         Output.message fn.val v.val ∈ t.m.evt.out ∧ t.m.evt.vecPend = eraseNat s.m.evt.vecPend (8 * (fn.val - 1) + v.val) ∧
         t.m.regs = s.m.regs ∧ t.m.buf = s.m.buf)) ∧
   (∀ (s : State) (p : Path) (h : Fin 16) (cons : BitVec 32), s.Granted p .EVT_RING_CONS h.val h.val (EVT_RING_CONS_CONS.put 0 cons.toNat) →
     (s.m.dmpCarries h.val = false ∨ p = .dmp → consAccepts (s.m.get EVT_RING_PROD_PROD h.val) (s.m.get EVT_RING_CONS_CONS h.val) cons.toNat = true →
       Yields (.eventConsWrite p h cons) s fun t => t.m.get EVT_RING_CONS_CONS h.val = cons.toNat ∧ t.m.buf = s.m.buf) ∧
     ((s.m.dmpCarries h.val = true ∧ p ≠ .dmp) ∨ consAccepts (s.m.get EVT_RING_PROD_PROD h.val) (s.m.get EVT_RING_CONS_CONS h.val) cons.toNat = false →
       Does (.eventConsWrite p h cons) s (s.m.satAdd GLB_GUARD_STATUS_STALE_CLEARS 0)))) ∧
  ((∀ (s : State) (w : PcieWrite), s.Running → s.m.pcieOut = true → Does (.pcieConfigWrite w) s s.m) ∧
   (∀ s : State, s.Running → s.m.pcieOut = false →
     (∀ n : Fin 17, Does (.pcieConfigWrite (.numVfs n)) s
       { s.m with hdg := { s.m.hdg with numVfs := n.val, busMaster := s.m.hdg.busMaster.filter fun f => decide (f ≤ n.val) } }) ∧
     (∀ (fn : Fin 17) (on : Bool),
       (s.m.hdg.numVfs < fn.val → Does (.pcieConfigWrite (.busMaster fn on)) s s.m) ∧
       (fn.val ≤ s.m.hdg.numVfs → Yields (.pcieConfigWrite (.busMaster fn on)) s fun t =>
         (on = true → fn.val ∈ t.m.hdg.busMaster) ∧ (∀ f, f ≠ fn.val → (f ∈ t.m.hdg.busMaster ↔ f ∈ s.m.hdg.busMaster)) ∧
         t.m.hdg.numVfs = s.m.hdg.numVfs ∧ t.m.regs = s.m.regs)) ∧
     (∀ (fn : Fin 17) (v : Fin 32) (on : Bool), Yields (.pcieConfigWrite (.mask fn v on)) s fun t =>
       (fn.val = 0 → on = true → v.val ∈ t.m.evt.pfMask) ∧ (fn.val ≠ 0 → v.val < 8 → on = true → 8 * (fn.val - 1) + v.val ∈ t.m.evt.vecMask) ∧
       t.m.hdg = s.m.hdg ∧ t.m.regs = s.m.regs)) ∧
   (∀ (s : State) (fn : Fin 17), s.Running →
     (s.m.hdg.numVfs < fn.val → Does (.functionLevelReset fn) s s.m) ∧
     (∀ h, fn.val = h + 1 → fn.val ≤ s.m.hdg.numVfs → s.m.flag HDG_CFG_FLR_RESETS h = false →
       Yields (.functionLevelReset fn) s fun t =>
         t.m.hdg.busMaster = eraseNat s.m.hdg.busMaster fn.val ∧ t.m.rd .CLP_HOST_BASE h = Reg.boot .CLP_HOST_BASE h ∧
         t.m.flag HDG_EVENT_FLR h = true ∧ t.m.hdg.resets = s.m.hdg.resets ∧ t.m.hdg.numVfs = s.m.hdg.numVfs ∧ t.m.buf = s.m.buf) ∧
     (fn.val = 0 → s.m.hdg.numVfs = 0 →
       Yields (.functionLevelReset fn) s fun t =>
         t.m.hdg = { s.m.hdg with busMaster := eraseNat s.m.hdg.busMaster 0 } ∧ t.m.buf = s.m.buf)) ∧
   (∀ (s : State) (low : Bool),
     (s.m.dieUp = true → Yields (.perst low) s fun t =>
       t.m.pin.perstN = !low ∧ (low = true → t.m.hdg.numVfs = 0 ∧ t.m.hdg.busMaster = []) ∧ (low = false → t.m.hdg = s.m.hdg)) ∧
     (s.m.dieUp = false → Does (.perst low) s { s.m with pin := { s.m.pin with perstN := !low } })))

/-- Every ALU operation that writes a register computes the value its row gives. For a thread whose engine issues from it and whose
microword spells the part, with sources a and b, and no failing header word among its sources: PASS, ADD, SUB, AND, OR, XOR, ANDN, SHL,
SHR, SAR, ROR, EXT, MIN, MAX, ADDC, BSWAP, POPCNT, CLZ, MUL, CSUM, CRC32 and SEL note for the completion a result of the stated value, for
the working register DEST, with Z and N of that value. Shifts take b modulo 64; EXT takes n bits (0 meaning 64) from bit b[5:0]; MIN and
MAX are unsigned; ADDC adds the ALU's own C; CSUM is the ones'-complement sum of a's four 16-bit parts and b's low 16 bits, folded; CRC32
continues b over a's octets; SEL takes a when CND holds on the flags before the microword. No other thread and nothing but the engines and
the free values changes; the thread keeps its registers and flags until the microword completes. (R251, R253, R254, R256, R257, R258) -/
def Obligations.AluResults : Prop :=
  ∀ (s : State) (x : AluArgs) (t : Thread) (a b k n S own flags : Nat) (wa wb : Word) (m1 m2 : Mod), s.Running →
    (x.bad = false ∨ ((x.srcA.val < 32 ∨ 48 ≤ x.srcA.val) ∧ (x.srcB.val < 32 ∨ 48 ≤ x.srcB.val))) →
    s.m.source (threadKey x.t) t x.imm x.srcA.val = (wa, m1) → m1.source (threadKey x.t) t x.imm x.srcB.val = (wb, m2) →
    a = wa.toNat → b = wb.toNat → k = b % 64 → n = (if b / 256 % 64 = 0 then 64 else b / 256 % 64) →
    S = a % 65536 + a / 2 ^ 16 % 65536 + a / 2 ^ 32 % 65536 + a / 2 ^ 48 + b % 65536 →
    own = (if x.unit = .a then t.flagsA else t.flagsB).toNat → flags = s.m.flagsBefore t →
    ∀ e ∈ ([(.aluPass, a), (.aluAdd, (a + b) % 2 ^ 64), (.aluSub, (a + 2 ^ 64 - b) % 2 ^ 64), (.aluAnd, a &&& b), (.aluOr, a ||| b),
        (.aluXor, a ^^^ b), (.aluAndn, a &&& (2 ^ 64 - 1 - b)), (.aluShl, a * 2 ^ k % 2 ^ 64), (.aluShr, a / 2 ^ k),
        (.aluSar, (wa.toInt / 2 ^ k % 2 ^ 64).toNat), (.aluRor, (a / 2 ^ k + a * 2 ^ (64 - k)) % 2 ^ 64),
        (.aluExt, a / 2 ^ (b % 64) % 2 ^ n), (.aluMin, min a b), (.aluMax, max a b), (.aluAddc, (a + b + own / 4 % 2) % 2 ^ 64),
        (.aluBswap, (List.range 8).foldl (fun v i => v + a / 2 ^ (8 * i) % 256 * 2 ^ (8 * (7 - i))) 0),
        (.aluPopcnt, ((List.range 64).filter a.testBit).length), (.aluClz, if a = 0 then 64 else 63 - Nat.log2 a),
        (.aluMul, a % 2 ^ 32 * (b % 2 ^ 32)), (.aluCsum, if S = 0 then 0 else (S - 1) % 65535 + 1),
        (.aluCrc32, crc32Hash (b % 2 ^ 32) (toBytes 8 a) % 2 ^ 64), (.aluSel, if condHolds flags x.cnd.val then a else b)] :
          List ((AluArgs → Instr) × Nat)),
      s.m.issuing (e.1 x) = some t →
      Yields (e.1 x) s fun u => ∃ r : AluRes, r.value.toNat = e.2 ∧ r.write = true ∧ r.dest = x.dest.val ∧
        r.flags.getLsbD 0 = decide (e.2 = 0) ∧ r.flags.getLsbD 1 = e.2.testBit 63 ∧
        s.ThreadIs u (threadKey x.t) { t with mw := t.mw.result x.unit (some r) } ∧ u.locks = s.locks ∧
        u.m = { s.m with eng := { s.m.eng with threads := u.m.eng.threads }, free := u.m.free }

/-- Compares write only flags, NOP writes nothing, and a reserved encoding is a job fault. CMP and TEST of a thread that can issue write
no register; CMP's Z says that a equals b and its V that a - b overflows, TEST's Z that a AND b is zero. NOP leaves the ALU without a
result, so that flags and registers stay. ADD and ADDC set C to the carry out of bit 63 and V to the signed overflow, SUB V to that of the
difference (the model's reading of C and V, log 22). Where the thread's microword holds a reserved encoding or bits [7:0] that are not
zero, every ALU row is a job fault of kind 4. Of a thread that does not issue the part, nothing changes. A part whose source is a header
word that fails its check restarts its job. (R253, R255, R256, R257, R258, R262, R440) -/
def Obligations.AluFlagsAndReservedForms : Prop :=
  (∀ (s : State) (x : AluArgs) (t : Thread) (wa wb : Word) (m1 m2 : Mod), s.Running → x.bad = false →
    s.m.source (threadKey x.t) t x.imm x.srcA.val = (wa, m1) → m1.source (threadKey x.t) t x.imm x.srcB.val = (wb, m2) →
    ∀ c : Nat, c = ((if x.unit = .a then t.flagsA else t.flagsB).getLsbD 2).toNat →
    ∀ e ∈ ([(.aluCmp, false, decide (wa = wb), none, some (decide (wa.toInt - wb.toInt ≠ (wa - wb).toInt))),
        (.aluTest, false, decide (wa &&& wb = 0), none, none),
        (.aluAdd, true, decide ((wa.toNat + wb.toNat) % 2 ^ 64 = 0), some (decide (2 ^ 64 ≤ wa.toNat + wb.toNat)),
          some (decide (wa.toInt + wb.toInt ≠ (wa + wb).toInt))),
        (.aluAddc, true, decide ((wa.toNat + wb.toNat + c) % 2 ^ 64 = 0), some (decide (2 ^ 64 ≤ wa.toNat + wb.toNat + c)),
          some (decide (wa.toInt + wb.toInt + c ≠ (wa + wb + BitVec.ofNat 64 c).toInt))),
        (.aluSub, true, decide (wa = wb), none, some (decide (wa.toInt - wb.toInt ≠ (wa - wb).toInt)))] :
          List ((AluArgs → Instr) × Bool × Bool × Option Bool × Option Bool)),
      s.m.issuing (e.1 x) = some t →
      Yields (e.1 x) s fun u => ∃ r : AluRes, r.write = e.2.1 ∧ r.flags.getLsbD 0 = e.2.2.1 ∧
        (∀ f, e.2.2.2.1 = some f → r.flags.getLsbD 2 = f) ∧ (∀ f, e.2.2.2.2 = some f → r.flags.getLsbD 3 = f) ∧
        s.ThreadIs u (threadKey x.t) { t with mw := t.mw.result x.unit (some r) } ∧
        u.m = { s.m with eng := { s.m.eng with threads := u.m.eng.threads }, free := u.m.free }) ∧
  (∀ (s : State) (x : AluArgs) (t : Thread), s.Running → s.m.issuing (.aluNop x) = some t →
    Yields (.aluNop x) s fun u =>
      s.ThreadIs u (threadKey x.t) { t with mw := t.mw.result x.unit none } ∧
      u.m = { s.m with eng := { s.m.eng with threads := u.m.eng.threads } }) ∧
  (∀ (s : State) (x : AluArgs), s.Running →
    ∀ c ∈ ([.aluNop, .aluPass, .aluAdd, .aluSub, .aluAnd, .aluOr, .aluXor, .aluAndn, .aluShl, .aluShr, .aluSar, .aluRor, .aluExt, .aluMin,
        .aluMax, .aluCmp, .aluTest, .aluAddc, .aluBswap, .aluPopcnt, .aluClz, .aluMul, .aluCsum, .aluCrc32, .aluSel] : List (AluArgs → Instr)),
      (s.m.issuing (c x) = none → s.m.badWord (c x) = none → Does (c x) s s.m) ∧
      ((s.m.badWord (c x)).isSome = true → Does (c x) s (s.m.jobFault (threadKey x.t) 4)) ∧
      ((s.m.issuing (c x)).isSome = true → x.bad = true → c x ≠ .aluNop x →
        ((32 ≤ x.srcA.val ∧ x.srcA.val < 48) ∨ (32 ≤ x.srcB.val ∧ x.srcB.val < 48)) →
        Does (c x) s (s.m.engineRestarts x.t.cluster.val x.t.engine.val (· == threadKey x.t))))

/-- Each NXT row completes the microword and continues the thread where it says. For a thread whose engine issues from it, with every
other part of its microword given: NEXT continues it at the next microaddress (of 15 bits), JUMP and YIELD at TGT, BRANCH at TGT when CND
held before the microword and else at the next, CALL at TGT with the next pushed, RETURN at the popped one, DISPATCH at the address of the
valid entry named by the low octet of its source, FENCE_NEXT at the next, waiting while its fence is not satisfied. The thread is then
behind every thread that was ready, its ALU results are written, and a tick job at its budget has used it up. A ninth CALL and a RETURN
without a return are job faults of kind 1; DISPATCH to an entry that is not valid and a reserved encoding in the microword are kind 4. A
tick job past its budget or its tick leaves its thread at YIELD and its entry resumes at TGT. Of a thread that does not issue the row,
only threads whose fences are satisfied move on. (R34, R251, R257, R258, R259, R260, R262, R277) -/
def Obligations.ThreadsContinueAsNxtSays : Prop :=
  (∀ (s : State) (x : SeqArgs) (t : Thread) (key : Nat), s.Running → key = threadKey x.t →
    (∀ i, t.job.kind = .tick i → i < 1024) →
    (s.m.issuing (.seqNext x) = some t → Yields (.seqNext x) s fun u => s.ContinuesAt u key t ((t.pc + 1) % 32768) t.stack 0) ∧
    (s.m.issuing (.seqJump x) = some t → Yields (.seqJump x) s fun u => s.ContinuesAt u key t x.tgt.val t.stack 0) ∧
    (s.m.issuing (.seqBranch x) = some t → Yields (.seqBranch x) s fun u => s.ContinuesAt u key t
      (if condHolds (s.m.flagsBefore t) x.cnd.val then x.tgt.val else (t.pc + 1) % 32768) t.stack 0) ∧
    (s.m.issuing (.seqCall x) = some t →
      (t.stack.length < 8 → Yields (.seqCall x) s fun u => s.ContinuesAt u key t x.tgt.val ((t.pc + 1) % 32768 :: t.stack) 0) ∧
      (8 ≤ t.stack.length → Does (.seqCall x) s (s.m.jobFault key 1).settleEnds)) ∧
    (s.m.issuing (.seqReturn x) = some t →
      (∀ a l, t.stack = a :: l → Yields (.seqReturn x) s fun u => s.ContinuesAt u key t a l 0) ∧
      (t.stack = [] → Does (.seqReturn x) s (s.m.jobFault key 1).settleEnds)) ∧
    (s.m.issuing (.seqYield x) = some t →
      ((∀ i, t.job.kind ≠ .tick i) ∨ (s.m.jobAfter t).spent = false →
        Yields (.seqYield x) s fun u => s.ContinuesAt u key t x.tgt.val t.stack 0) ∧
      (∀ i, t.job.kind = .tick i → (s.m.jobAfter t).spent = true →
        Yields (.seqYield x) s fun u => lookup u.m.eng.threads key = none ∧ u.m.get ENG_TICKJOB1_RESUME i = x.tgt.val ∧
          u.m.flag ENG_TICKJOB1_RESUME_VALID i = true)) ∧
    (s.m.issuing (.seqFenceNext x) = some t →
      Yields (.seqFenceNext x) s fun u => s.ContinuesAt u key t ((t.pc + 1) % 32768) t.stack
        (if s.m.fenceMet key x.fen.val then 0 else x.fen.val)) ∧
    (s.m.issuing (.seqDispatch x) = some t →
      ∀ i, i = 256 * (key / 768) + (s.m.source key t x.imm x.srcA.val).1.toNat % 256 →
      (s.m.flag ENG_DISPATCH_VALID i = true →
        Yields (.seqDispatch x) s fun u => s.ContinuesAt u key t (s.m.get ENG_DISPATCH_ADDR i) t.stack 0) ∧
      (s.m.flag ENG_DISPATCH_VALID i = false → Does (.seqDispatch x) s (s.m.jobFault key 4).settleEnds))) ∧
  (∀ (s : State) (x : SeqArgs), s.Running →
    ∀ c ∈ ([.seqNext, .seqJump, .seqBranch, .seqDispatch, .seqCall, .seqReturn, .seqYield, .seqFenceNext] : List (SeqArgs → Instr)),
      (s.m.issuing (c x) = none → s.m.badWord (c x) = none → Does (c x) s s.m.settleEnds) ∧
      ((s.m.badWord (c x)).isSome = true → Does (c x) s (s.m.jobFault (threadKey x.t) 4).settleEnds))

/-- END ends its job once its fence is met, and the marks of a microword take effect only with it. END of a thread that can issue it, with
room for what its section holds: with nothing held and its fence satisfied the thread is free and the job has ended; with its fence not
satisfied the thread stays, marked as ending on that fence. A section's held operations take effect in their order, all in this one step.
Without room in the write queue it waits and changes nothing. MEMORY_FENCE, QUEUE_FENCE, GLOBAL_FENCE, WAIT, BEGIN_COMMIT, START_0,
STOP_0, START_1, STOP_1 and COUNT only mark the thread, whose microword is still to complete: no other thread, no register and no other
part of the module changes. A reserved encoding in the microword is a job fault of kind 4. (R259, R260, R261, R301) -/
def Obligations.JobsEndAndMarkersAreNoted : Prop :=
  (∀ (s : State) (x : SeqArgs) (t : Thread) (key fen : Nat), s.Running → key = threadKey x.t →
    s.m.issuing (.seqEnd x) = some t → fen = x.fen.val →
    (s.m.releasable t = false → Does (.seqEnd x) s s.m) ∧
    (s.m.releasable t = true → ∀ t2 m2 d, s.m.completed key t = (t2, m2) →
      d = t.held.foldl (fun z o => Mod.release z key t.job.hedge o)
        (s.locks, m2.setThread key { t2 with held := [], inCommit := false, ending := some fen }) →
      exec (.seqEnd x) s = .next { s with locks := d.1, m := d.2.settleEnds } ∧ t2.w = ((t.put t.mw.resA).put t.mw.resB).w) ∧
    (t.held = [] → s.m.fenceMet key fen = true → Yields (.seqEnd x) s fun u =>
      lookup u.m.eng.threads key = none ∧ u.locks = s.locks ∧ u.m.cls = s.m.cls ∧ u.m.fwd = s.m.fwd ∧ u.m.time = s.m.time) ∧
    (t.held = [] → s.m.fenceMet key fen = false →
      Yields (.seqEnd x) s fun u => ∃ t2, lookup u.m.eng.threads key = some t2 ∧ t2.ending = some fen ∧ t2.job = t.job ∧
        t2.w = ((t.put t.mw.resA).put t.mw.resB).w)) ∧
  (∀ (s : State) (x : SeqArgs), s.Running →
    (s.m.issuing (.seqEnd x) = none → s.m.badWord (.seqEnd x) = none → Does (.seqEnd x) s s.m) ∧
    ((s.m.badWord (.seqEnd x)).isSome = true → Does (.seqEnd x) s (s.m.jobFault (threadKey x.t) 4))) ∧
  (∀ (s : State) (r : ThreadRef) (t : Thread), s.Running →
    ∀ e ∈ ([(.memoryFence r, { t with mw := { t.mw with fen := 1 } }), (.queueFence r, { t with mw := { t.mw with fen := 2 } }),
        (.globalFence r, { t with mw := { t.mw with fen := 3 } }), (.wait r, { t with mw := { t.mw with waits := true } }),
        (.beginCommit r, { t with inCommit := true, mw := { t.mw with commits := true } }), (.start0 r, { t with mw := { t.mw with cnt := 1 } }),
        (.stop0 r, { t with mw := { t.mw with cnt := 2 } }), (.start1 r, { t with mw := { t.mw with cnt := 3 } }),
        (.stop1 r, { t with mw := { t.mw with cnt := 4 } }), (.count r, { t with mw := { t.mw with cnt := 5 } })] : List (Instr × Thread)),
      s.m.issuing e.1 = some t → Yields e.1 s fun u => s.ThreadIs u (threadKey r) e.2 ∧ u.locks = s.locks ∧
        u.m = { s.m with eng := { s.m.eng with threads := u.m.eng.threads } }) ∧
  (∀ (s : State) (r : ThreadRef), s.Running →
    ∀ c ∈ ([.memoryFence r, .queueFence r, .globalFence r, .wait r, .beginCommit r, .start0 r, .stop0 r, .start1 r, .stop1 r, .count r] :
      List Instr),
      (s.m.issuing c = none → s.m.badWord c = none → Does c s s.m) ∧ ((s.m.badWord c).isSome = true → Does c s (s.m.jobFault (threadKey r) 4)))

/-- Reads, stores and atomics act on LOCAL and SHARED memory at the address of MAD, and on no other octet. For a memory part that the
thread issues, its ALU results known, whose address (the MAD source) is a multiple of the access's width. RD8 to RD128 in LOCAL and SHARED
return the octets at the address, most significant first, as the data of the thread's read. WR8 to WR64 store the low octets of ALU B's
result, WR128 those of A's and B's; AADD64, AOR64, CAS64 and SWAP64 return the old word and leave the sum, the OR, B's result where the
old word equals A's, or B's result. Every octet outside the access reads as before. Beyond the end of LOCAL or SHARED, and from a poisoned
SHARED word, a read returns zero with MEM_ERR and no octet changes. A misaligned address is a job fault of kind 3; a reserved encoding in
the microword (a reserved space, or MEM together with QOP) one of kind 4. Of a thread that does not issue the part, nothing changes.
(R262, R263, R264, R265, R437, R440) -/
def Obligations.MemoryRowsAccessLocalAndShared : Prop :=
  (∀ (s : State) (x : MemArgs) (t : Thread) (key c ad : Nat) (wad a b : Word) (m1 m2 m3 : Mod),
    s.Running → key = threadKey x.t → c = key / 768 →
    s.m.source key t x.imm x.mad.val = (wad, m1) → ad = wad.toNat → m1.resultOf t.mw.resB = (b, m2) → m2.resultOf t.mw.resA = (a, m3) →
    (∀ e ∈ ([(.rd8, 1), (.rd16, 2), (.rd32, 4), (.rd64, 8), (.rd128, 16)] : List ((MemArgs → Instr) × Nat)), s.m.issuing (e.1 x) = some t → ad % e.2 = 0 →
      (x.msp.val = 0 → ad + e.2 ≤ 1024 → x.bad = false →
        Yields (e.1 x) s fun u => ∃ t2, s.ThreadIs u key t2 ∧ t2.Reads e.2 (t.localRead ad e.2) ∧ t2.mem = t.mem ∧ t2.w = t.w) ∧
      (x.msp.val = 0 → (1024 < ad + e.2 ∨ x.bad = true) →
        Yields (e.1 x) s fun u => ∃ t2, s.ThreadIs u key t2 ∧ t2.ReadFails e.2 ∧ t2.mem = t.mem) ∧
      (x.msp.val = 1 → ad + e.2 ≤ 0x400000 → (s.m.cl c).poisonedAt ad e.2 = false →
        Yields (e.1 x) s fun u => (∃ t2, s.ThreadIs u key t2 ∧ t2.Reads e.2 (beNat (memRead (s.m.cl c).shared ad e.2))) ∧
          (u.m.cl c).shared = (s.m.cl c).shared) ∧
      (x.msp.val = 1 → (0x400000 < ad + e.2 ∨ (s.m.cl c).poisonedAt ad e.2 = true) →
        Yields (e.1 x) s fun u => (∃ t2, s.ThreadIs u key t2 ∧ t2.ReadFails e.2) ∧ (u.m.cl c).shared = (s.m.cl c).shared)) ∧
    (∀ e ∈ ([(.wr8, 1, b.toNat), (.wr16, 2, b.toNat), (.wr32, 4, b.toNat), (.wr64, 8, b.toNat), (.wr128, 16, a.toNat * 2 ^ 64 + b.toNat)] :
        List ((MemArgs → Instr) × Nat × Nat)), s.m.issuing (e.1 x) = some t →
      ad % e.2.1 = 0 →
      (x.msp.val = 0 → ad + e.2.1 ≤ 1024 →
        Yields (e.1 x) s fun u => ∃ t2, s.ThreadIs u key t2 ∧ t2.mw.memErr = some false ∧
          (∀ k, t2.localByte k = if ad ≤ k ∧ k < ad + e.2.1 then (toBytes e.2.1 e.2.2).getD (k - ad) 0 else t.localByte k)) ∧
      (x.msp.val = 1 → ad + e.2.1 ≤ 0x400000 → s.m.holds key t = false →
        Yields (e.1 x) s fun u => (∃ t2, s.ThreadIs u key t2 ∧ t2.mw.memErr = some false ∧ t2.held = t.held) ∧
          (∀ k, memByte (u.m.cl c).shared k =
            if ad ≤ k ∧ k < ad + e.2.1 then (toBytes e.2.1 e.2.2).getD (k - ad) 0 else memByte (s.m.cl c).shared k)) ∧
      (x.msp.val = 1 → ad + e.2.1 ≤ 0x400000 → s.m.holds key t = true → t.held.length < 16 →
        Yields (e.1 x) s fun u => (∃ t2, s.ThreadIs u key t2 ∧ t2.held.length = t.held.length + 1 ∧ t2.held.take t.held.length = t.held) ∧
          (u.m.cl c).shared = (s.m.cl c).shared)) ∧
    (∀ (old : Nat), ∀ e ∈ ([(.aadd64, (old + b.toNat) % 2 ^ 64), (.aor64, old ||| b.toNat), (.swap64, b.toNat),
        (.cas64, if old = a.toNat then b.toNat else old)] : List ((MemArgs → Instr) × Nat)), s.m.issuing (e.1 x) = some t → ad % 8 = 0 →
      (x.msp.val = 0 → ad + 8 ≤ 1024 → x.bad = false → old = t.localRead ad 8 →
        Yields (e.1 x) s fun u => ∃ t2, s.ThreadIs u key t2 ∧ t2.Reads 8 old ∧
          (∀ k, t2.localByte k = if ad ≤ k ∧ k < ad + 8 then (toBytes 8 e.2).getD (k - ad) 0 else t.localByte k)) ∧
      (x.msp.val = 1 → ad + 8 ≤ 0x400000 → (s.m.cl c).poisonedAt ad 8 = false → s.m.holds key t = false →
        old = beNat (memRead (s.m.cl c).shared ad 8) →
        Yields (e.1 x) s fun u => (∃ t2, s.ThreadIs u key t2 ∧ t2.Reads 8 old) ∧
          (∀ k, memByte (u.m.cl c).shared k =
            if ad ≤ k ∧ k < ad + 8 then (toBytes 8 e.2).getD (k - ad) 0 else memByte (s.m.cl c).shared k)))) ∧
  (∀ (s : State) (x : MemArgs), s.Running →
    ∀ e ∈ ([(.rd8, 1), (.rd16, 2), (.rd32, 4), (.rd64, 8), (.rd128, 16), (.wr8, 1), (.wr16, 2), (.wr32, 4), (.wr64, 8), (.wr128, 16),
        (.aadd64, 8), (.aor64, 8), (.cas64, 8), (.swap64, 8)] : List ((MemArgs → Instr) × Nat)),
      (s.m.issuing (e.1 x) = none → s.m.badWord (e.1 x) = none → Does (e.1 x) s s.m) ∧
      ((s.m.badWord (e.1 x)).isSome = true → Does (e.1 x) s (s.m.jobFault (threadKey x.t) 4)) ∧
      (∀ t, s.m.issuing (e.1 x) = some t → (s.m.source (threadKey x.t) t x.imm x.mad.val).1.toNat % e.2 ≠ 0 →
        Does (e.1 x) s ((s.m.source (threadKey x.t) t x.imm x.mad.val).2.jobFault (threadKey x.t) 3)))

/-- Microcode reads tables, registers and queue fills, writes registers as its cluster, and pushes jobs. For a memory part that the thread
issues. RD64 in TABLE returns a word of an entry that exists, and MEM_ERR where none does. RD64 in REG of a register that no busy window
holds back returns what a read by the cluster's path returns; WR64 outside a commit section is a write by that path, and sets MEM_ERR
where it is refused. RD64 in QUEUE returns the fill of one of the cluster's four queues; WR128 pushes a job of the thread's Hedge to the
named cluster's IJ when there is room, and else changes no queue. In SDRAM, an access that its job's Hedge may not make, or to a part that
does not answer, sets MEM_ERR. READ_RETURN puts the data of the outstanding read into RD0 and RD1, sets RD_READY and wakes the thread;
without data, or in the microword that reads, it changes nothing but ENDs that waited. (R264, R265, R266, R283, R314, R316) -/
def Obligations.TablesRegistersAndQueuesFromMicrocode : Prop :=
  (∀ (s : State) (x : MemArgs) (t : Thread) (key c ad : Nat) (wad a b : Word) (m1 m2 m3 : Mod),
    s.Running → key = threadKey x.t → c = key / 768 →
    s.m.source key t x.imm x.mad.val = (wad, m1) → ad = wad.toNat → m1.resultOf t.mw.resB = (b, m2) → m2.resultOf t.mw.resA = (a, m3) →
    (x.msp.val = 2 → ad % 8 = 0 → s.m.issuing (.rd64 x) = some t →
      (∀ e n, s.m.tableEntry ad = some (e, n) → ad / 8 % 8 < n →
        Yields (.rd64 x) s fun u => (∃ t2, s.ThreadIs u key t2 ∧ t2.Reads 8 (e / 2 ^ (64 * (ad / 8 % 8)) % 2 ^ 64)) ∧ u.m.fwd = s.m.fwd) ∧
      (s.m.tableEntry ad = none → Yields (.rd64 x) s fun u => (∃ t2, s.ThreadIs u key t2 ∧ t2.ReadFails 8) ∧ u.m.fwd = s.m.fwd)) ∧
    (x.msp.val = 4 → ad % 8 = 0 → ad < 0x2000000 →
      (s.m.issuing (.rd64 x) = some t → s.m.readHeld (clusterPath key) ad = false →
        Yields (.rd64 x) s fun u => (∃ t2, s.ThreadIs u key t2 ∧
          t2.Reads 8 ((m1.epcThread key t 20).fabricRead s.locks (clusterPath key) ad).1.toNat) ∧ u.locks = s.locks) ∧
      (s.m.issuing (.wr64 x) = some t → s.m.holds key t = false → ∀ w, w = (m2.epcThread key t 20).threadWrite s.locks key ad b →
        (w.2.2 = false → exec (.wr64 x) s = .next { s with locks := w.1, m := w.2.1.memDone key t x 9 }) ∧
        (w.2.2 = true → exec (.wr64 x) s = .next { s with locks := w.1, m := w.2.1.memFails key t x 9 }))) ∧
    (x.msp.val = 5 →
      (s.m.issuing (.rd64 x) = some t → ad % 8 = 0 → 0x100 ≤ ad → ad < 0x120 →
        Yields (.rd64 x) s fun u => ∃ t2, s.ThreadIs u key t2 ∧ t2.Reads 8 (((m1.epcThread key t 21).cl c).queue ((ad - 0x100) / 8)).length) ∧
      (s.m.issuing (.wr128 x) = some t → ad % 16 = 0 → ad < 0x40 → s.m.holds key t = false →
        ((s.m.cl (ad / 16)).queueFull 2 = false → Yields (.wr128 x) s fun u =>
          (u.m.cl (ad / 16)).ij = (s.m.cl (ad / 16)).ij ++
            [{ desc := BitVec.ofNat 128 (a.toNat * 2 ^ 64 + b.toNat), hedge := t.job.hedge, kind := .push }] ∧
          (∃ t2, s.ThreadIs u key t2 ∧ t2.mw.qOk = some true)) ∧
        ((s.m.cl (ad / 16)).queueFull 2 = true → Yields (.wr128 x) s fun u =>
          (∀ k, (u.m.cl k).ij = (s.m.cl k).ij) ∧ (∃ t2, s.ThreadIs u key t2 ∧ t2.mw.qOk = some false)))) ∧
    (x.msp.val = 3 → ad % 8 = 0 → s.m.issuing (.rd64 x) = some t → (s.m.drmMay (.job t.job.hedge) false ad 8 = false ∨ s.m.drmServed ad = false) →
      Yields (.rd64 x) s fun u => ∃ t2, s.ThreadIs u key t2 ∧ t2.ReadFails 8)) ∧
  (∀ (s : State) (r : ThreadRef) (t : Thread), s.Running → s.m.thread (threadKey r) = some t →
    ((t.read = none ∨ t.mw.reads = true ∨ ∃ q, t.read = some q ∧ q.data = none) → Does (.readReturn r) s s.m.settleEnds) ∧
    (∀ q v, t.read = some q → q.data = some v → t.mw.reads = false → t.ending = none →
      Yields (.readReturn r) s fun u => ∃ t2, lookup u.m.eng.threads (threadKey r) = some t2 ∧ t2.rd0.toNat = v % 2 ^ 64 ∧
        t2.rd1.toNat = (if q.width = 16 then v / 2 ^ 64 % 2 ^ 64 else 0) ∧ t2.rdReady = true ∧ t2.memErr = (t.memErr || q.failed) ∧
        t2.read = none ∧ t2.waiting = false ∧ t2.pc = t.pc ∧ t2.w = t.w))

/-- Header, queue and timer parts act on the thread's frame, its header window and its cluster's timers. For a thread that issues the
part. HDR_VIEW, HDR_WRITE_A and HDR_WRITE_B mark the microword, and are a job fault of kind 6 without a frame. A queue operation outside a
commit section, on a frame the thread holds: ENQUEUE, REINJECT and COPY of a frame whose carry check is right queue one re-entry, with the
header octets and the rest of the frame, named as its parameter says or to be looked up, with one more pass; all but COPY and CLIP give
the frame up; CLIP marks the next re-entry. Without a frame it is a job fault of kind 6, a reserved encoding in the microword is one of
kind 4, and a re-entry over 15,996 octets of kind 7. ALLOC takes a timer, or clears TMR_OK when none may be taken; ARM sets its expiry,
opcode and ARG; CANCEL disarms it, READ answers what remains, FREE returns it. A timer another Hedge holds is left alone and TMR_OK is
clear. No other timer changes. (R262, R267, R268, R269, R270, R278, R279, R280) -/
def Obligations.FramePartsAndTimerParts : Prop :=
  (∀ (s : State) (r : ThreadRef) (key : Nat), s.Running → key = threadKey r →
    ∀ e ∈ ([(fun w => .hdrView r (w % 2 == 1), fun w => viewSet (w % 2 == 1)), (fun w => .hdrWriteA r (Fin.ofNat 16 w), fun w => headerSet false (w % 16)),
        (fun w => .hdrWriteB r (Fin.ofNat 16 w), fun w => headerSet true (w % 16))] : List ((Nat → Instr) × (Nat → Micro → Micro))), ∀ w : Nat,
      (s.m.issuing (e.1 w) = none → s.m.badWord (e.1 w) = none → Does (e.1 w) s s.m) ∧
      ((s.m.badWord (e.1 w)).isSome = true → Does (e.1 w) s (s.m.jobFault key 4)) ∧
      (∀ t, s.m.issuing (e.1 w) = some t →
        (t.job.frame = none → Does (e.1 w) s (s.m.jobFault key 6)) ∧
        (t.job.frame.isSome = true → Yields (e.1 w) s fun u => s.ThreadIs u key { t with mw := e.2 w t.mw } ∧
          u.m = { s.m with eng := { s.m.eng with threads := u.m.eng.threads } }))) ∧
  (∀ (s : State) (r : ThreadRef) (key c : Nat) (mad : Fin 64) (imm : BitVec 16), s.Running → key = threadKey r → c = key / 768 →
    ∀ e ∈ ([(.qopEnqueue r mad imm, 1), (.qopReinject r mad imm, 2), (.qopDiscard r mad imm, 3), (.qopException r mad imm, 4),
        (.qopClip r mad imm, 5), (.qopCopy r mad imm, 6)] : List (Instr × Nat)),
      (s.m.issuing e.1 = none → s.m.badWord e.1 = none → Does e.1 s s.m) ∧
      ((s.m.badWord e.1).isSome = true → Does e.1 s (s.m.jobFault key 4)) ∧
      (∀ t, s.m.issuing e.1 = some t →
        (t.job.frame.bind s.m.frame = none → Does e.1 s (s.m.jobFault key 6)) ∧
        (∀ id f w m1 p, t.job.frame = some id → s.m.frame id = some f → s.m.source key t imm mad.val = (w, m1) → p = w.toNat →
          ((e.2 = 1 ∨ e.2 = 2 ∨ e.2 = 6) → 15996 < assembledLength f p → Does e.1 s (m1.jobFault key 7)) ∧
          ((e.2 = 3 ∨ e.2 = 4 ∨ e.2 = 5 ∨ assembledLength f p ≤ 15996) → s.m.holds key t = true → t.held.length < 16 → Yields e.1 s fun u =>
            ∃ t2, s.ThreadIs u key t2 ∧ t2.held = t.held ++ [.qop e.2 w] ∧ t2.job = t.job ∧ u.m.buf = s.m.buf) ∧
          ((e.2 = 3 ∨ e.2 = 4 ∨ e.2 = 5 ∨ assembledLength f p ≤ 15996) → s.m.holds key t = false →
            ((e.2 = 1 ∨ e.2 = 2 ∨ e.2 = 3 ∨ e.2 = 4) → Yields e.1 s fun u =>
              ∃ t2, s.ThreadIs u key t2 ∧ t2.job.frame = none ∧ t2.clip = false ∧ t2.mw.qOk = some true ∧ t2.w = t.w) ∧
            (e.2 = 5 → Yields e.1 s fun u => ∃ t2, s.ThreadIs u key t2 ∧ t2.clip = true ∧ t2.job = t.job ∧ u.m.buf = s.m.buf) ∧
            ((e.2 = 1 ∨ e.2 = 2 ∨ e.2 = 6) → bits p 8 0 ≤ 256 → f.poison = false → carryOf f f.octets = f.carry → Yields e.1 s fun u =>
              ∃ i, u.m.buf.inject = s.m.buf.inject ++ [(130 + c, i)] ∧ i.thread = key ∧ i.frame.hedge = f.hedge ∧ i.frame.passes = f.passes + 1 ∧
                i.named = (if e.2 = 2 then none else some (bits p 30 23)) ∧
                i.frame.octets = sealFrame false (padTo60 (t.hdr.take (bits p 8 0) ++
                  (if f.trunc then f.octets else f.octets.take (f.octets.length - 4)).drop (bits p 22 9))))))) ) ∧
  (∀ (s : State) (r : ThreadRef) (t : Thread) (key c h i : Nat) (a b : Word) (m1 m2 : Mod), s.Running → key = threadKey r → c = key / 768 →
    s.m.resultOf t.mw.resA = (a, m1) → m1.resultOf t.mw.resB = (b, m2) → h = t.job.hedge →
    i = a.toNat % 4096 →
    (s.m.issuing (.tmrAlloc r) = some t → s.m.allocTimer c h = none → Yields (.tmrAlloc r) s fun u => (u.m.cl c).timers = (s.m.cl c).timers ∧
      s.ThreadIs u key { t with mw := { t.mw with tmrOk := some false, tmrv := some (BitVec.allOnes 64) } }) ∧
    (∀ k pool, s.m.issuing (.tmrAlloc r) = some t → s.m.allocTimer c h = some (k, pool) → Yields (.tmrAlloc r) s fun u =>
      lookup (u.m.cl c).timers k = some { hedge := h, fromPool := pool } ∧ lookup (s.m.cl c).timers k = none ∧ k < 4096 ∧
      (∀ j, j ≠ k → lookup (u.m.cl c).timers j = lookup (s.m.cl c).timers j) ∧
      s.ThreadIs u key { t with mw := { t.mw with tmrOk := some true, tmrv := some (BitVec.ofNat 64 k) } }) ∧
    (∀ tm, lookup (s.m.cl c).timers i = some tm → tm.hedge = h →
      (s.m.issuing (.tmrArm r) = some t → Yields (.tmrArm r) s fun u =>
        lookup (u.m.cl c).timers i = some { tm with armed := some (s.m.commits + bits a.toNat 43 12, bits a.toNat 51 44, b.toNat), late := none } ∧
        (∀ j, j ≠ i → lookup (u.m.cl c).timers j = lookup (s.m.cl c).timers j) ∧
        s.ThreadIs u key { t with mw := { t.mw with tmrOk := some true } }) ∧
      (s.m.issuing (.timerCancel r) = some t → Yields (.timerCancel r) s fun u => lookup (u.m.cl c).timers i = some { tm with armed := none, late := none } ∧
        (∀ j, j ≠ i → lookup (u.m.cl c).timers j = lookup (s.m.cl c).timers j) ∧
        s.ThreadIs u key { t with mw := { t.mw with tmrOk := some tm.armed.isSome } }) ∧
      (s.m.issuing (.timerRead r) = some t → Yields (.timerRead r) s fun u => (u.m.cl c).timers = (s.m.cl c).timers ∧
        s.ThreadIs u key { t with mw := { t.mw with tmrOk := some true, tmrv := some (BitVec.ofNat 64 (match tm.armed with
          | some d => (d.1 - s.m.commits) % 2 ^ 32 + 2 ^ 32
          | none => 0)) } }) ∧
      (s.m.issuing (.tmrFree r) = some t → Yields (.tmrFree r) s fun u => lookup (u.m.cl c).timers i = none ∧
        (∀ j, j ≠ i → lookup (u.m.cl c).timers j = lookup (s.m.cl c).timers j) ∧
        s.ThreadIs u key { t with mw := { t.mw with tmrOk := some true } })) ∧
    ((∀ tm, lookup (s.m.cl c).timers i = some tm → tm.hedge ≠ h) →
      ∀ d ∈ ([.tmrArm r, .timerCancel r, .timerRead r, .tmrFree r] : List Instr), s.m.issuing d = some t → Yields d s fun u =>
        (u.m.cl c).timers = (s.m.cl c).timers ∧ s.ThreadIs u key { t with mw := { t.mw with tmrOk := some false } }))

/-- Jobs start in order, fall due with their ticks and timers, ring in by doorbell and are stopped by the watchdog. A cluster that does
not start jobs, or has none that may start, is left alone by JOB_START. Else the first of the restarts, TT, EV, IJ and DB that may start
leaves its queue and runs on the placed thread from its dispatch entry; without a valid entry it is dropped. TICK_JOB_DUE with nothing due
changes nothing; the one due entry of a cluster puts its job at the end of TT, or skips it while its last job lives. JOB_START puts the
thread behind those that are ready. TIMER_EXPIRY fires an armed timer whose commit has come into TT and disarms it. DOORBELL puts one job
at the end of DB, unless DB is full or a virtual function rings below 0xC0. WATCHDOG without a limit, or of a free thread, changes
nothing, and else ends the job with a fault. SAMPLE_RECORD stores the tagged microword's record and advances PROD. (R250, R252, R262,
R272, R273, R276, R277, R279, R282, R283, R303, R304) -/
def Obligations.JobsStartAndFallDue : Prop :=
  (∀ (s : State) (c : Fin 4), s.Running →
    (s.m.startsJobs c.val = false → Does (.jobStart c) s s.m) ∧
    (s.m.startsJobs c.val = true → ((s.m.cl c.val).restarts.find? fun j => s.m.mayStart c.val j.hedge) = none →
      ([0, 1, 2, 3].find? fun k => (((s.m.cl c.val).queue k).head?).any fun j => s.m.mayStart c.val j.hedge) = none →
      s.m.intakeHead c.val = none → Does (.jobStart c) s s.m) ∧
    (∀ k j l, s.m.startsJobs c.val = true → ((s.m.cl c.val).restarts.find? fun j => s.m.mayStart c.val j.hedge) = none →
      ([0, 1, 2, 3].find? fun k => (((s.m.cl c.val).queue k).head?).any fun j => s.m.mayStart c.val j.hedge) = some k →
      (s.m.cl c.val).queue k = j :: l →
      (∀ key, s.m.placeThread c.val = some key → j.desc.toNat % 256 ≠ 0 →
        s.m.flag ENG_DISPATCH_VALID (256 * c.val + j.desc.toNat % 256) = true →
        Yields (.jobStart c) s fun u => (∃ t, s.ThreadIs u key t ∧ t.job = j ∧ t.mw = {} ∧ t.held = [] ∧ t.issued = 0 ∧ t.turn = s.m.eng.turn ∧
          t.pc = (match j.kind with
            | .tick i => if s.m.flag ENG_TICKJOB1_RESUME_VALID i = true ∧ j.restart = false then s.m.get ENG_TICKJOB1_RESUME i
                else s.m.get ENG_DISPATCH_ADDR (256 * c.val + j.desc.toNat % 256)
            | _ => s.m.get ENG_DISPATCH_ADDR (256 * c.val + j.desc.toNat % 256))) ∧ (∃ q, (u.m.cl c.val).queue k = l ++ q)) ∧
      ((j.desc.toNat % 256 = 0 ∨ s.m.flag ENG_DISPATCH_VALID (256 * c.val + j.desc.toNat % 256) = false) →
        Yields (.jobStart c) s fun u => u.m.eng.threads = s.m.eng.threads ∧ (∃ q, (u.m.cl c.val).queue k = l ++ q)))) ∧
  (∀ s : State, s.Running →
    (s.m.tick.jobsDue = [] → Does .tickJobDue s s.m) ∧
    (∀ (c : Fin 4) (i : Nat), s.m.tick.jobsDue = [c.val] → i / 256 = c.val → (∀ k, k / 256 = c.val → k ≠ i → s.m.flag ENG_TICKJOB0_VALID k = false) →
      s.m.flag ENG_TICKJOB0_VALID i = true → (s.m.dueAt i s.m.tickNum || s.m.dueSkipped i) = true →
      (s.m.get ENG_TICKJOB0_SHED i = 0 ∨ s.m.get GLB_TICK_CFG_SHED_LEVEL < s.m.get ENG_TICKJOB0_SHED i) →
      ((s.m.cl c.val).queueFull 0 = false → s.m.tickJobLives i = false → Yields .tickJobDue s fun u =>
        (u.m.cl c.val).tt = (s.m.cl c.val).tt ++ [s.m.tickJob i] ∧ u.m.tick.jobsDue = [] ∧ u.m.buf = s.m.buf) ∧
      (s.m.tickJobLives i = true → Yields .tickJobDue s fun u => (u.m.cl c.val).tt = (s.m.cl c.val).tt ∧ u.m.tick.jobsDue = []))) ∧
  (∀ (s : State) (c : Fin 4), s.Running →
    (s.m.tick.timersDue.contains c.val = false → Does (.timerExpiry c) s s.m) ∧
    (∀ i tm due op arg, s.m.tick.timersDue.contains c.val = true → lookup (s.m.cl c.val).timers i = some tm → tm.armed = some (due, op, arg) →
      due ≤ s.m.commits → (s.m.cl c.val).queueFull 0 = false → (∀ k x, k ≠ i → lookup (s.m.cl c.val).timers k = some x → x.armed = none) →
      Yields (.timerExpiry c) s fun u => (u.m.cl c.val).tt = (s.m.cl c.val).tt ++ [expiryJob i tm.hedge (tm.late.getD 0) op arg] ∧
        lookup (u.m.cl c.val).timers i = some { tm with armed := none, late := none })) ∧
  (∀ (s : State) (p : Path) (c : Fin 4) (v : Word), s.Granted p .ENG_DOORBELL c.val c.val v →
    ((vfHedge p).isSome = true → v.toNat % 256 < 0xC0 → Yields (.doorbell p c v) s fun u =>
      (u.m.cl c.val).db = (s.m.cl c.val).db ∧ u.m.flag ENG_EVENT_QUEUE c.val = true) ∧
    ((vfHedge p = none ∨ 0xC0 ≤ v.toNat % 256) → (s.m.cl c.val).queueFull 3 = true → Yields (.doorbell p c v) s fun u =>
      (u.m.cl c.val).db = (s.m.cl c.val).db ∧ u.m.flag ENG_EVENT_QUEUE c.val = true) ∧
    ((vfHedge p = none ∨ 0xC0 ≤ v.toNat % 256) → (s.m.cl c.val).queueFull 3 = false → Yields (.doorbell p c v) s fun u =>
      ∃ j, (u.m.cl c.val).db = (s.m.cl c.val).db ++ [j] ∧ j.hedge = pathHedge p ∧
        j.desc.toNat = v.toNat % 256 + pathHedge p * 2 ^ 8 + doorPath p * 2 ^ 12 + v.toNat / 2 ^ 8 * 2 ^ 16)) ∧
  (∀ (s : State) (r : ThreadRef) (key c : Nat), s.Running → key = threadKey r → c = key / 768 →
    (s.m.thread key = none ∨ s.m.get ENG_JOB_LIMIT_MAX_CYCLES c = 0 → Does (.watchdog r) s s.m) ∧
    (∀ t, s.m.thread key = some t → s.m.get ENG_JOB_LIMIT_MAX_CYCLES c ≠ 0 →
      t.since + ceilDiv (2 * s.m.get ENG_JOB_LIMIT_MAX_CYCLES c) 3 ≤ s.m.now →
      Yields (.watchdog r) s fun u => lookup u.m.eng.threads key = none ∧ u.m.flag ENG_EVENT_FAULT c = true ∧
        (∀ k, k ≠ key → lookup u.m.eng.threads k = lookup s.m.eng.threads k)) ∧
    ((∀ t, s.m.thread key = some t → t.tagged = none ∨ t.read.isSome = true) → Does (.sampleRecord r) s s.m) ∧
    (∀ t x, s.m.thread key = some t → t.tagged = some x → t.read = none → s.m.flag EPC_SAMPLE_CFG_STOP_FULL c = false →
      Yields (.sampleRecord r) s fun u => s.ThreadIs u key { t with tagged := none } ∧
        (u.m.cl c).prod = ((s.m.cl c).prod + 1) % 2 ^ 32 ∧ (lookup (u.m.cl c).samples ((s.m.cl c).prod % 1024)).isSome = true ∧
        (∀ k, k ≠ (s.m.cl c).prod % 1024 → lookup (u.m.cl c).samples k = lookup (s.m.cl c).samples k)))

/-- Clusters exchange, go offline, return and are lost; control stores, counters and samples are read and written. For a write that
reaches its register: an exchange request is staged for the commit and changes no cluster yet; CLUSTER_OFFLINE that names another cluster
in RUN quiesces a running cluster, and is refused otherwise; CLUSTER_RUN returns an OFFLINE cluster to RUN with empty queues and no
timers. A finished load, while the cluster waits for one, has the result its checks give: a good one is the control store of the image at
its base, of a failed one the RESULT says why; otherwise it changes nothing. A lost cluster has no threads and no timers, its running jobs
wait to restart in REHOME, and its queues keep their jobs. The control-store window reads a word, and writes one of an OFFLINE cluster
alone (else status 3). A reloaded row group waits no longer, and holds the words, or the dispatch entries, of the image in use. Counters
and selectors hold what is written; FREEZE freezes and thaws, copying every cycle counter as it freezes; a sample read replies the record;
the sample CONS moves only forward, and not past PROD. (R285, R287, R289, R290, R291, R295, R297, R304, R305, R372, R437) -/
def Obligations.ClustersChangeHands : Prop :=
  (∀ (s : State) (p : Path) (c : Fin 4) (v : Word), s.Granted p .ENG_XCHG_CTL c.val c.val (withOp ENG_XCHG_CTL_REQ v 1) →
    s.m.stageClosed = false → s.m.tick.nowLost = false → stagedSize s.m.tick.now + 2 ≤ stageDepth →
    Yields (.exchangeRequest p c v) s fun u => ⟨.field .ENG_XCHG_CTL c.val 0 1, 1⟩ ∈ u.m.tick.now ∧
      ⟨.field .ENG_XCHG_CTL c.val 28 36, v.toNat / 2 ^ 28⟩ ∈ u.m.tick.now ∧ u.m.eng = s.m.eng) ∧
  (∀ (s : State) (c : Fin 4) (w : Option (Fin 4)), s.Running →
    ((∀ b, (s.m.cl c.val).quiesce ≠ some (.exchange b)) ∨ s.m.get ENG_XCHG_STATUS_PHASE c.val ≠ 2 ∨ (s.m.cl c.val).loaded.isSome = true →
      Does (.exchangeLoadDone c w) s s.m) ∧
    (∀ b k, (s.m.cl c.val).quiesce = some (.exchange b) → s.m.get ENG_XCHG_STATUS_PHASE c.val = 2 → (s.m.cl c.val).loaded = none →
      k = s.m.loadResult b (w.map Fin.val) →
      Yields (.exchangeLoadDone c w) s fun u => (u.m.cl c.val).loaded = some (decide (k = 0)) ∧ (u.m.cl c.val).quiesce = some (.exchange b) ∧
        u.m.get ENG_XCHG_STATUS_RESULT c.val = k ∧ u.m.eng.threads = s.m.eng.threads ∧ (k ≠ 0 → u.m.flag ENG_EVENT_XCHG c.val = true) ∧
        (k = 0 → ∀ a, a < 32768 → lookupD (u.m.cl c.val).store a 0 = (Config.emWord (s.m.emAt b) a).toNat) ∧
        (emFault (s.m.emAt b) ≠ 0 → k = emFault (s.m.emAt b)))) ∧
  (∀ (s : State) (p : Path) (c d : Fin 4), s.Granted p .ENG_CLUSTER_CTL c.val c.val
      (ENG_CLUSTER_CTL_REHOME.put (s.revised ENG_CLUSTER_CTL_STATE_REQ c.val 1) d.val) →
    ((d = c ∨ s.m.get ENG_CLUSTER_STATUS_STATE d.val ≠ 0) → Yields (.clusterOffline p c d) s fun u =>
      u.m.get ENG_CLUSTER_STATUS_STATE c.val = s.m.get ENG_CLUSTER_STATUS_STATE c.val ∧ (u.m.cl c.val).quiesce = (s.m.cl c.val).quiesce ∧
      u.m.flag ENG_EVENT_REFUSED c.val = true) ∧
    (d ≠ c → s.m.get ENG_CLUSTER_STATUS_STATE d.val = 0 → s.m.get ENG_CLUSTER_STATUS_STATE c.val = 0 → (s.m.cl c.val).quiesce = none →
      Yields (.clusterOffline p c d) s fun u => u.m.get ENG_CLUSTER_STATUS_STATE c.val = 1 ∧ (u.m.cl c.val).quiesce = some .offline ∧
        u.m.get ENG_CLUSTER_CTL_REHOME c.val = d.val ∧ u.m.startsJobs c.val = false ∧ u.m.eng.threads = s.m.eng.threads)) ∧
  (∀ (s : State) (p : Path) (c : Fin 4), s.Granted p .ENG_CLUSTER_CTL c.val c.val (s.revised ENG_CLUSTER_CTL_STATE_REQ c.val 0) →
    s.m.get ENG_CLUSTER_CTL_REHOME c.val ≠ c.val → s.m.get ENG_CLUSTER_STATUS_STATE (s.m.get ENG_CLUSTER_CTL_REHOME c.val) = 0 →
    s.m.get ENG_CLUSTER_STATUS_STATE c.val = 3 →
    Yields (.clusterRun p c) s fun u => u.m.get ENG_CLUSTER_STATUS_STATE c.val = 0 ∧ (u.m.cl c.val).tt = [] ∧ (u.m.cl c.val).ij = [] ∧
      (u.m.cl c.val).db = [] ∧ (u.m.cl c.val).timers = [] ∧ (∀ d, d < 4 → d ≠ c.val → (u.m.cl d).ij = (s.m.cl d).ij)) ∧
  (∀ (s : State) (c : Fin 4), s.Running →
    ((s.m.cl c.val).lost = true → Does (.clusterLost c) s s.m) ∧
    ((s.m.cl c.val).lost = false → Yields (.clusterLost c) s fun u => (u.m.cl c.val).lost = true ∧ u.m.get ENG_CLUSTER_STATUS_STATE c.val = 4 ∧
      (∀ e ∈ u.m.eng.threads, e.1 / 768 ≠ c.val) ∧ (u.m.cl c.val).timers = [] ∧ (u.m.cl c.val).tt = (s.m.cl c.val).tt ∧
      (u.m.cl c.val).ij = (s.m.cl c.val).ij ∧ (u.m.cl c.val).db = (s.m.cl c.val).db ∧
      (∀ d, d = s.m.get ENG_CLUSTER_CTL_REHOME c.val →
        (u.m.cl d).restarts = (s.m.cl d).restarts ++ (s.m.clusterThreads c.val).map fun e => { e.2.job with restart := true }))) ∧
  (∀ (s : State) (p : Path) (c : Fin 4) (v : Word) (a : Nat), a = ENG_CS_WIN_CMD_ADDR.of v →
    (s.Opened p .ENG_CS_WIN_CMD c.val c.val (.cs c.val) (withOp ENG_CS_WIN_CMD_OP v 1) → Yields (.controlStoreRead p c v) s fun u =>
      u.m.replies (.cs c.val) ENG_CS_WIN_CMD_STATUS c.val 0
        [(.ENG_CS_WIN_DATA0, c.val, BitVec.ofNat 64 (lookupD (s.m.cl c.val).store a 0)),
         (.ENG_CS_WIN_DATA1, c.val, BitVec.ofNat 64 (lookupD (s.m.cl c.val).store a 0 / 2 ^ 64))] = true ∧ u.m.eng = s.m.eng) ∧
    (s.Opened p .ENG_CS_WIN_CMD c.val c.val (.cs c.val) (withOp ENG_CS_WIN_CMD_OP v 2) →
      (s.m.get ENG_CLUSTER_STATUS_STATE c.val = 3 → Yields (.controlStoreWrite p c v) s fun u =>
        u.m.replies (.cs c.val) ENG_CS_WIN_CMD_STATUS c.val 0 [] = true ∧
        lookupD (u.m.cl c.val).store a 0 = (s.m.rd .ENG_CS_WIN_DATA0 c.val).toNat + (s.m.rd .ENG_CS_WIN_DATA1 c.val).toNat * 2 ^ 64 ∧
        (∀ k, k ≠ a → lookupD (u.m.cl c.val).store k 0 = lookupD (s.m.cl c.val).store k 0)) ∧
      (s.m.get ENG_CLUSTER_STATUS_STATE c.val ≠ 3 → Yields (.controlStoreWrite p c v) s fun u =>
        u.m.replies (.cs c.val) ENG_CS_WIN_CMD_STATUS c.val 3 [] = true ∧ (u.m.cl c.val).store = (s.m.cl c.val).store))) ∧
  (∀ (s : State) (c : Fin 4) (g : Fin 132) (l : List Byte), s.Running → l = s.m.emAt (s.m.get ENG_XCHG_STATUS_CUR_BASE c.val) →
    (g.val ∉ (s.m.cl c.val).reloading → Does (.controlStoreReloadDone c g) s s.m) ∧
    (g.val ∈ (s.m.cl c.val).reloading → Yields (.controlStoreReloadDone c g) s fun u =>
      (∀ k, k ∈ (u.m.cl c.val).reloading ↔ k ∈ (s.m.cl c.val).reloading ∧ k ≠ g.val) ∧ u.m.eng.threads = s.m.eng.threads ∧
      (g.val < 128 → u.m.regs = s.m.regs ∧ ∀ a, lookupD (u.m.cl c.val).store a 0 =
        if 256 * g.val ≤ a ∧ a < 256 * g.val + 256 then (Config.emWord l a).toNat else lookupD (s.m.cl c.val).store a 0) ∧
      (g.val = 128 → (u.m.cl c.val).store = (s.m.cl c.val).store ∧ ∀ i, i < 256 → u.m.rd .ENG_DISPATCH (256 * c.val + i) = Config.emDispatch l i))) ∧
  (∀ (s : State) (p : Path) (c : Fin 4) (ph : Fin 17) (n : Fin 8) (v : Word) (i : Nat), i = (c.val * 17 + ph.val) * 8 + n.val →
    (s.Granted p .EPC_CTR i i v → Yields (.epcCtrWrite p c ph n v) s fun u => u.m.get EPC_CTR_COUNT i = v.toNat % 2 ^ 48) ∧
    (s.Granted p .EPC_SEL i i v → Yields (.epcSelWrite p c ph n v) s fun u => u.m.get EPC_SEL_EVENT i = v.toNat % 2 ^ 8)) ∧
  (∀ (s : State) (p : Path) (c : Fin 4) (on : Bool), s.Granted p .EPC_CTL c.val c.val (EPC_CTL_FREEZE.put 0 (if on then 1 else 0)) →
    Yields (.freeze p c on) s fun u => u.m.flag EPC_CTL_FROZEN c.val = (on || s.m.flag EPC_GLB_CTL_FREEZE_ALL) ∧
      (s.m.flag EPC_CTL_FROZEN c.val = false → on = true → ∀ e, e < 17 → u.m.get EPC_FREEZE_CYCLE_CYCLE (engineIdx c.val e) = s.m.engineCycle c.val e % 2 ^ 64)) ∧
  (∀ (s : State) (p : Path) (c : Fin 4) (i : Fin 1024) (x : Nat), s.Opened p .EPC_SAMPLE_CMD c.val c.val (.sample c.val) (EPC_SAMPLE_CMD_INDEX.put 0 i.val) →
    x = lookupD (s.m.cl c.val).samples i.val 0 → Yields (.sampleRead p c i) s fun u =>
      u.m.replies (.sample c.val) ⟨.EPC_SAMPLE_CMD, 63, 1⟩ c.val 0
        [(.EPC_SAMPLE_DATA0, c.val, BitVec.ofNat 64 x), (.EPC_SAMPLE_DATA1, c.val, BitVec.ofNat 64 (x / 2 ^ 64))] = true ∧ u.m.eng = s.m.eng) ∧
  (∀ (s : State) (p : Path) (c : Fin 4) (v : Word) (d : Nat), s.Granted p .EPC_SAMPLE_IDX c.val c.val v →
    d = (v.toNat / 2 ^ 16 % 2 ^ 16 + 2 ^ 16 - (s.m.cl c.val).cons % 2 ^ 16) % 2 ^ 16 →
    (d ≤ ((s.m.cl c.val).prod + 2 ^ 32 - (s.m.cl c.val).cons) % 2 ^ 32 → Yields (.sampleConsWrite p c v) s fun u =>
      (u.m.cl c.val).cons = ((s.m.cl c.val).cons + d) % 2 ^ 32) ∧
    (((s.m.cl c.val).prod + 2 ^ 32 - (s.m.cl c.val).cons) % 2 ^ 32 < d → Yields (.sampleConsWrite p c v) s fun u =>
      (u.m.cl c.val).cons = (s.m.cl c.val).cons))

/-- The SDRAM window stores and reads granules, requests complete, rows are mended, and a lost channel folds the regions. For a command to
DRM_WIN_CMD that reaches its block: WRITE of a granule its path may write changes those 64 octets and no other, or waits for room in the
write queue; READ of one without a write-queue entry joins the channel's requests with its data, and of one with an entry replies at once;
outside the regions the status is 1, without the right or a channel in service 2. A request that no other one of its bank outranks
completes: a read answers its requester, and the request is gone; the fourth write retry loses the channel. A request that has waited 4 us
in its slot is promoted. REFRESH counts, REFRESH_2X shows the halved interval, DQS_TRACK has no architected effect, MARGIN_SWEEP shows the
least margin of the channel and raises one below 15 ps, ROW_RETIRE mends the row or marks its device erased. A lost or offline channel
folds the regions and empties the Clippings region; the last channel in RUN is not taken offline; a channel returns through RETURNING, and
a third failed training in a row loses it. (R311, R314, R316, R317, R320, R323, R325, R326, R327, R328, R329, R372) -/
def Obligations.SdramAnswersAndFolds : Prop :=
  (∀ (s : State) (p : Path) (v : Word) (n a : Nat), n = pathNum p → a = DRM_WIN_CMD_ADDR.of v * 64 →
    (s.Opened p .DRM_WIN_CMD 0 n (.dram n) (withOp DRM_WIN_CMD_OP v 2) →
      (regionOf a = none → Yields (.sdramWrite p v) s fun u =>
        u.m.replies (.dram n) DRM_WIN_CMD_STATUS n 1 [] = true ∧ u.m.drm = s.m.drm) ∧
      ((regionOf a).isSome = true → s.m.drmMay (pathRole p) true a 64 = false ∨ s.m.drmServed a = false →
        Yields (.sdramWrite p v) s fun u => u.m.replies (.dram n) DRM_WIN_CMD_STATUS n 2 [] = true) ∧
      (s.m.drmMay (pathRole p) true a 64 = true → s.m.drmServed a = true → Yields (.sdramWrite p v) s fun u =>
        u.m.replies (.dram n) DRM_WIN_CMD_STATUS n 0 [] = true ∧
        (s.m.writeRoom a = true → ∀ k, k < 64 →
          memByte u.m.drm.mem (a + k) = (toBytes 8 (s.m.rd .DRM_WIN_DATA (8 * n + k / 8)).toNat).getD (k % 8) 0) ∧
        (s.m.writeRoom a = false → u.m.drm.mem = s.m.drm.mem ∧ u.m.drm.stores.map (fun x => (x.1, x.2.2.1)) =
          s.m.drm.stores.map (fun x => (x.1, x.2.2.1)) ++ [(n, a)]) ∧
        (∀ b, b < a ∨ a + 64 ≤ b → memByte u.m.drm.mem b = memByte s.m.drm.mem b))) ∧
    (s.Opened p .DRM_WIN_CMD 0 n (.dram n) (withOp DRM_WIN_CMD_OP v 1) →
      s.m.drmMay (pathRole p) false a 64 = true → s.m.drmServed a = true →
      (∀ r, s.m.drmForwards a = some r → Yields (.sdramRead p v) s fun u =>
        u.m.replies (.dram n) DRM_WIN_CMD_STATUS n 0 (granuleRegs n (memRead s.m.drm.mem a 64)) = true) ∧
      (s.m.drmForwards a = none → Yields (.sdramRead p v) s fun u =>
        u.m.drm.mem = s.m.drm.mem ∧ u.m.win.busy.any (fun c => c.win == .dram n) = true ∧
        ∃ r ∈ u.m.drm.reqs, r.write = false ∧ r.addr = a ∧ r.data = memRead s.m.drm.mem a 64 ∧ r.who = .window n ∧ r.id = s.m.drm.nextId))) ∧
  (∀ (s : State) (id : Nat) (how : BurstEnd) (hit : Bool), s.Running →
    ((s.m.drm.reqs.find? fun r => r.id == id) = none → Does (.sdramRequestDone id how hit) s s.m.settleEnds) ∧
    (∀ r, (s.m.drm.reqs.find? fun r => r.id == id) = some r →
      (s.m.drmCandidate r = false ∨ s.m.outranked r hit = true → Does (.sdramRequestDone id how hit) s s.m.settleEnds) ∧
      (s.m.drmCandidate r = true → s.m.outranked r hit = false → r.write = false → s.m.drm.stores = [] → s.m.int.badGranules.contains (r.addr / 64) = false → how = .good →
        Yields (.sdramRequestDone id how hit) s fun u => (∀ x ∈ u.m.drm.reqs, x.id = id → s.m.drm.nextId ≤ id) ∧
          (∀ n, r.who = .window n → ∀ c ∈ s.m.win.busy, c.win = .dram n →
            { c with result := (.DRM_WIN_CMD, n, DRM_WIN_CMD_STATUS.put (s.m.rd .DRM_WIN_CMD n) 0) :: granuleRegs n r.data } ∈ u.m.win.busy) ∧
          (∀ key t q, r.who = .thread key → lookup s.m.eng.threads key = some t → t.read = some q → t.ending = none → t.fence = 0 →
            lookup u.m.eng.threads key = some { t with read := some { q with data := some (beNat r.data), failed := false } })) ∧
      (s.m.drmCandidate r = true → s.m.outranked r hit = false → r.write = true → (∀ n : Fin 5, how = .writeRetries n → n.val ≤ 3) →
        Yields (.sdramRequestDone id how hit) s fun u => ∀ x ∈ u.m.drm.reqs, x.id = id → s.m.drm.nextId ≤ id) ∧
      (s.m.drmCandidate r = true → s.m.outranked r hit = false → r.write = true → how = .writeRetries 4 → r.channel < 2 →
        Yields (.sdramRequestDone id how hit) s fun u => u.m.get DRM_CH_STATUS_STATE r.channel = 3)) ∧
    ((∀ r, (s.m.drm.reqs.find? fun r => r.id == id) = some r → r.promoted = true ∨ r.slot = false) → Does (.requestPromoted id) s s.m) ∧
    (∀ r, (s.m.drm.reqs.find? fun r => r.id == id) = some r → r.promoted = false → r.slot = true → r.since + 4000 ≤ s.m.now →
      Yields (.requestPromoted id) s fun u => { r with promoted := true } ∈ u.m.drm.reqs)) ∧
  (∀ (s : State) (k : Fin 4), s.Running →
    Does (.refresh k) s (s.m.bump (drmCtr k.val 11)) ∧
    (∀ c : Fin 2, Does (.dqsTrack c) s s.m) ∧
    (∀ hot : Bool, Yields (.refresh2x k hot) s fun u =>
      u.m.flag ⟨.DRM_CH_STATUS, 4 + k.val % 2, 1⟩ (k.val / 2) = (hot || s.m.flag DRM_CFG_FORCE_2X) ∧
      u.m.get DRM_CH_STATUS_STATE (k.val / 2) = s.m.get DRM_CH_STATUS_STATE (k.val / 2)) ∧
    (∀ mg : Nat, Yields (.marginSweep k mg) s fun u => u.m.get DRM_CH_STATUS_MARGIN_PS (k.val / 2) =
      min (min mg 65535) (lookupD s.m.drm.margins (k.val / 2 * 2 + (1 - k.val % 2)) 65535) ∧
      (mg < 15 → (u.m.get DRM_EVENT_EVENTS).testBit 4 = true))) ∧
  (∀ s : State, s.Running →
    (∀ b, (∀ g, s.m.int.graft = some g → g.cls ≠ 6) → Does (.rowRetire b) s s.m) ∧
    (∀ g, s.m.int.graft = some g → g.cls = 6 →
      Yields (.rowRetire true) s (fun u => (lookup u.m.drm.softRepaired g.loc).isSome = true ∧ u.m.drm.erased = s.m.drm.erased) ∧
      Yields (.rowRetire false) s (fun u => u.m.drm.softRepaired = s.m.drm.softRepaired ∧
        u.m.drm.erased = (2 * (g.loc / 2 ^ 25 % 2) + g.loc / 2 ^ 24 % 2, g.loc / 2 ^ 21 % 8, g.loc % 2 ^ 21) :: s.m.drm.erased))) ∧
  (∀ (s : State) (c : Fin 2), s.Running →
    (∀ w, s.m.get DRM_CH_STATUS_STATE c.val = 3 → Does (.channelLost c w) s s.m) ∧
    (∀ w, s.m.get DRM_CH_STATUS_STATE c.val ≠ 3 → Yields (.channelLost c w) s fun u =>
      u.m.get DRM_CH_STATUS_STATE c.val = 3 ∧ u.m.flag DRM_STATUS_FOLDED = true ∧
      u.m.get DRM_CH_STATUS_STATE (1 - c.val) = s.m.get DRM_CH_STATUS_STATE (1 - c.val) ∧
      (s.m.drm.stores = [] → ∀ a, a < 0x200000000 → memByte u.m.drm.mem a = 0)) ∧
    (s.m.get DRM_CH_STATUS_STATE c.val ≠ 4 ∨ (lookup s.m.drm.trainFails c.val).isSome = true → Does (.channelReturnDone c) s s.m) ∧
    (s.m.get DRM_CH_STATUS_STATE c.val = 4 → lookup s.m.drm.trainFails c.val = none → s.m.get DRM_CH_STATUS_STATE (1 - c.val) = 0 → Yields (.channelReturnDone c) s fun u =>
      u.m.get DRM_CH_STATUS_STATE c.val = 0 ∧ u.m.flag DRM_STATUS_FOLDED = false ∧ (∀ a, a < 0x200000000 → memByte u.m.drm.mem a = 0))) ∧
  (∀ (s : State) (p : Path) (c : Fin 2), s.Granted p .DRM_CH_CTL c.val c.val (s.revised DRM_CH_CTL_STATE_REQ c.val 1) →
    (s.m.get DRM_CH_STATUS_STATE c.val = 0 → s.m.get DRM_CH_STATUS_STATE (1 - c.val) = 0 → Yields (.channelOffline p c) s fun u =>
      u.m.get DRM_CH_STATUS_STATE c.val = 2 ∧ u.m.flag DRM_STATUS_FOLDED = true ∧ u.m.get DRM_CH_STATUS_STATE (1 - c.val) = 0) ∧
    (s.m.get DRM_CH_STATUS_STATE c.val = 0 → s.m.get DRM_CH_STATUS_STATE (1 - c.val) ≠ 0 → Yields (.channelOffline p c) s fun u =>
      u.m.get DRM_CH_STATUS_STATE c.val = 0 ∧ u.m.flag DRM_STATUS_FOLDED = s.m.flag DRM_STATUS_FOLDED ∧
      (u.m.get DRM_EVENT_EVENTS).testBit 6 = true)) ∧
  (∀ (s : State) (p : Path) (c : Fin 2) (ok : Bool), s.Granted p .DRM_CH_CTL c.val c.val (s.revised DRM_CH_CTL_STATE_REQ c.val 0) →
    (s.m.retrains c.val = true → Yields (.channelReturn p c ok) s fun u =>
      u.m.get DRM_CH_STATUS_STATE c.val = (if ok = true ∨ lookupD s.m.drm.trainFails c.val 0 < 2 then 4 else 3)) ∧
    (s.m.retrains c.val = false → Yields (.channelReturn p c ok) s fun u =>
      u.m.get DRM_CH_STATUS_STATE c.val = s.m.get DRM_CH_STATUS_STATE c.val))

/-- DMP messages are rejected and counted, or accepted, acted on and answered; rings and HELLO are sent unasked. A frame that is no DMP
message for the module changes nothing; one that fails a check is counted under the first check that fails, changes no counter of DMP and
gets no answer. An accepted READ that no busy window holds back is answered with one value per register; a WRITE of one register is a
write by the DMP path and is answered with what became of it; an ACK that CONS may follow advances it; ATTEST_REQ is answered with a
report unless it comes less than a second after the last. Every accepted message raises DMP_RX_HIGH to its counter. UPD_BEGIN opens a
transfer of its length; UPD_DATA puts its octets at their offset in staging and changes no other octet; UPD_END of a whole bundle makes it
staged; UPD_OP is the operation of UPD_CTL. EVENTS, CLIPPINGS and the resend carry the records from where they stand, under the first key;
HELLO goes out until a message is heard. (R372, R375, R379, R404, R405, R406, R408, R421, R487) -/
def Obligations.DmpMessagesAreCheckedAndAnswered : Prop :=
  (∀ (s : State) (frame : List Byte), s.Running →
    ∀ f ∈ ([.dmpRead, .dmpWrite, .dmpAck, .attestReq, .updBegin, .updData, .updEnd, .updOp] : List (List Byte → Instr)),
      (s.m.dmpUp = false ∨ s.m.dmpDatagram frame = none → Does (f frame) s s.m) ∧
      (∀ source l q g, s.m.dmpUp = true → s.m.dmpDatagram frame = some (source, l) → q = s.m.dmpFault source l →
        (q, g) ∈ [(1, DMP_REJECTS_MALFORMED), (2, DMP_REJECTS_BAD_KEY), (3, DMP_REJECTS_BAD_TAG), (4, DMP_REJECTS_REPLAY)] →
        Yields (f frame) s fun u => u.m.get g = min (s.m.get g + 1) 65535 ∧ u.m.dmp = s.m.dmp ∧ u.m.upd = s.m.upd ∧ u.m.nvm = s.m.nvm ∧
          u.m.rd .DMP_RX_HIGH = s.m.rd .DMP_RX_HIGH ∧ u.m.rd .DMP_TX_NEXT = s.m.rd .DMP_TX_NEXT ∧ u.locks = s.locks)) ∧
  (∀ (s : State) (frame p : List Byte) (key c tx : Nat), tx = (s.m.rd .DMP_TX_NEXT).toNat →
    (s.Heard frame 0x01 key c p →
      (((Config.dmpReadOf p).getD []).any s.m.dmpReadHeld = true → Does (.dmpRead frame) s s.m) ∧
      (((Config.dmpReadOf p).getD []).any s.m.dmpReadHeld = false → Yields (.dmpRead frame) s fun u =>
        (u.m.rd .DMP_RX_HIGH).toNat = max (s.m.rd .DMP_RX_HIGH).toNat c ∧ u.locks = s.locks ∧
        ∀ offs, Config.dmpReadOf p = some offs → 0 < offs.length → offs.length ≤ 64 →
          (∃ vals, vals.length = offs.length ∧ Output.dmp 0x81 key tx vals ∈ u.m.evt.out) ∧ u.m.rd .DMP_TX_NEXT = s.m.rd .DMP_TX_NEXT + 1)) ∧
    (s.Heard frame 0x02 key c p → Yields (.dmpWrite frame) s fun u =>
      (Config.dmpWriteOf p = none → u = { s with m := s.m.dmpCounted c }) ∧
      ∀ off v x, Config.dmpWriteOf p = some [(off, v)] → dmpLate off = false →
        x = (s.m.dmpCounted c).fabricWrite s.locks .dmp off 8 v none none →
        u = { s with locks := x.locks, m := x.m.dmpSend 0x82 key [b01 (x.took != .ignored), b01 (x.took == .ignored)] }) ∧
    (s.Heard frame 0x03 key c p → Yields (.dmpAck frame) s fun u =>
      (u.m.rd .DMP_RX_HIGH).toNat = max (s.m.rd .DMP_RX_HIGH).toNat c ∧
      ∀ h cons, Config.dmpAckOf p = some (0, h, cons) → h < 16 → cons < 2 ^ 32 →
        consAccepts (s.m.get EVT_RING_PROD_PROD h) (s.m.get EVT_RING_CONS_CONS h) cons = true → u.m.get EVT_RING_CONS_CONS h = cons) ∧
    (s.Heard frame 0x04 key c p → p.length = 16 →
      (∀ a, s.m.dmp.attestAt = some a → s.m.now < a + oneSecond → Does (.attestReq frame) s (s.m.dmpCounted c)) ∧
      ((∀ a, s.m.dmp.attestAt = some a → a + oneSecond ≤ s.m.now) → Yields (.attestReq frame) s fun u =>
        (∃ vals, Output.dmp 0x87 key tx vals ∈ u.m.evt.out) ∧ u.m.dmp.attestAt = some s.m.now ∧
        u.m.rd .DMP_TX_NEXT = s.m.rd .DMP_TX_NEXT + 1))) ∧
  (∀ (s : State) (frame p : List Byte) (key c tx : Nat), tx = (s.m.rd .DMP_TX_NEXT).toNat →
    (s.Heard frame 0x10 key c p →
      (s.m.updBusy = false → Yields (.updBegin frame) s fun u => u.m.updState = 1 ∧ u.m.get UPD_CTL_LEN = fieldAt p 0 4 ∧ u.m.upd.got = [] ∧
        u.m.upd.dmpLen = fieldAt p 0 4 ∧ ∃ w, Output.dmp 0x90 key tx [0, w] ∈ u.m.evt.out) ∧
      (s.m.updBusy = true → Yields (.updBegin frame) s fun u => u.m.updState = s.m.updState ∧ u.m.upd = s.m.upd)) ∧
    (s.Heard frame 0x11 key c p →
      (s.m.updState ≠ 1 → Does (.updData frame) s (s.m.dmpCounted c)) ∧
      (s.m.updState = 1 → 8 < p.length → fieldAt p 0 4 + (p.length - 8) ≤ s.m.upd.dmpLen → fieldAt p 0 4 + (p.length - 8) ≤ bundleMax →
        Yields (.updData frame) s fun u => u.m.upd.dataCount = s.m.upd.dataCount + 1 ∧
          (∀ k, k < p.length - 8 → memByte u.m.drm.mem (bundleArea + fieldAt p 0 4 + k) = (p.drop 8).getD k 0) ∧
          (∀ b, b < bundleArea + fieldAt p 0 4 ∨ bundleArea + fieldAt p 0 4 + (p.length - 8) ≤ b →
            memByte u.m.drm.mem b = memByte s.m.drm.mem b))) ∧
    (s.Heard frame 0x12 key c p →
      (s.m.updState = 1 → s.m.upd.dmpLen ≤ s.m.gotLength → fieldAt p 0 1 ≠ 1 → fieldAt p 0 1 ≠ 2 → Yields (.updEnd frame) s fun u =>
        u.m.updState = 2 ∧ ∃ vals, Output.dmp 0x90 key tx vals ∈ u.m.evt.out) ∧
      (s.m.updState = 1 → s.m.upd.dmpLen ≤ s.m.gotLength → fieldAt p 0 1 = 1 → s.m.flag GLB_STATUS_HEADLESS = true →
        Yields (.updEnd frame) s fun u => u.m.updState = 3) ∧
      ((s.m.updState ≠ 1 ∨ s.m.gotLength < s.m.upd.dmpLen) → Yields (.updEnd frame) s fun u => u.m.updState = s.m.updState ∧ u.m.upd = s.m.upd)) ∧
    (s.Heard frame 0x13 key c p → Does (.updOp frame) s ((s.m.dmpCounted c).updOp s.locks (fieldAt p 0 1)))) ∧
  (∀ (s : State) (h : Fin 16) (tx : Nat), s.Running → tx = (s.m.rd .DMP_TX_NEXT).toNat →
    ∀ e ∈ ([(.dmpEvents h, 0, 0x84, 64), (.dmpClippings h, 1, 0x85, 5)] : List (Instr × Nat × Nat × Nat)), ∀ from_ left : Nat,
      from_ = s.m.dmpFrom e.2.1 h.val → left = (s.m.dmpProd e.2.1 h.val + 2 ^ 32 - from_) % 2 ^ 32 →
      ((s.m.firstKey = none ∨ s.m.dmpUp = false ∨ s.m.dmpDelivers e.2.1 h.val = false ∨ left = 0) → Does e.1 s s.m) ∧
      (∀ key, s.m.firstKey = some key → s.m.dmpUp = true → s.m.dmpDelivers e.2.1 h.val = true → 0 < left → Yields e.1 s fun u =>
        (∃ records, Output.dmp e.2.2.1 key tx (h.val :: from_ :: min left e.2.2.2 :: records) ∈ u.m.evt.out) ∧
        lookup u.m.dmp.sent (16 * e.2.1 + h.val) = some ((from_ + min left e.2.2.2) % 2 ^ 32, s.m.now))) ∧
  (∀ (s : State) (clip : Bool) (h : Fin 16) (k : Nat), s.Running → k = (if clip = true then 1 else 0) →
    (s.m.dmpFrom k h.val = s.m.dmpCons k h.val → Does (.dmpResend clip h) s s.m) ∧
    (∀ key, s.m.dmpFrom k h.val ≠ s.m.dmpCons k h.val → (s.m.dmpSent k h.val).2 + 100000000 ≤ s.m.now → s.m.firstKey = some key →
      s.m.dmpUp = true → s.m.dmpDelivers k h.val = true → s.m.dmpCons k h.val ≠ s.m.dmpProd k h.val → Yields (.dmpResend clip h) s fun u =>
        ∃ n records, 0 < n ∧ Output.dmp (if k = 0 then 0x84 else 0x85) key (s.m.rd .DMP_TX_NEXT).toNat (h.val :: s.m.dmpCons k h.val :: n :: records) ∈
          u.m.evt.out)) ∧
  (∀ s : State, s.Running →
    (s.m.firstKey = none ∨ s.m.dmpUp = false ∨ s.m.dmp.heard = true → Does .hello s s.m) ∧
    (∀ key, s.m.firstKey = some key → s.m.dmpUp = true → s.m.dmp.heard = false → (∀ a, s.m.dmp.helloAt = some a → a + 10 * oneSecond ≤ s.m.now) →
      Yields .hello s fun u => u.m.dmp.helloAt = some s.m.now ∧ u.m.rd .DMP_TX_NEXT = s.m.rd .DMP_TX_NEXT + 1 ∧
        Output.dmp 0x86 key (s.m.rd .DMP_TX_NEXT).toNat [(s.m.rd .DMP_RX_HIGH).toNat, (s.m.rd .DMP_TX_NEXT).toNat] ∈ u.m.evt.out))

/-- Starts and resets bring the module up or do nothing, and the supervisor goes, comes back, or is declared absent. POWER_ON acts when
the rails are down and the feed lies in its window, PORST unless the rails are down or the die tripped, DEVICE_RESET while the die runs,
TRIP_RECOVERY after a trip at or below 45 degrees: the module has then Started, with its reset cause, and is in service or has SV absent;
otherwise nothing changes. CORE_FATAL is a start with cause 3, or locks the module in reset when two others lie within 24 h. NVM_RETRY
does nothing with SV present; 60 s after the last reading it notes this one, and starts when a slot of SV verifies (its start times are
free values within R383, the model's choice, log 25). LOCKSTEP_DIVERGENCE sets HEADLESS and notes since when; an absent supervisor stays
absent. SUPERVISOR_RESTART leaves it absent when its clock is out or no SV slot verifies, and otherwise it resumes with that slot:
HEADLESS and DEGRADED are 0. SUPERVISOR_WATCHDOG acts once until the supervisor resumes, 5 s after it went absent: WATCHDOG is set, and it
resumes from the other SV slot, with FALLBACK set, when one verifies. DEGRADED is set 10 minutes after it went absent, once. (R382, R383,
R387, R477, R483, R512, R523, R22, R23, R385, R388, R365) -/
def Obligations.StartsAndTheSupervisor : Prop :=
  ((∀ (s : State) (f : Fin 2) (vin : Nat) (x : StartFound),
     (s.m.pwr.down ≠ .rails ∨ vin < 3800 ∨ 6200 < vin → exec (.powerOn f vin x) s = .next s) ∧
     (s.m.pwr.down = .rails → 3800 ≤ vin → vin ≤ 6200 → Yields (.powerOn f vin x) s fun u => u.Started 0 x)) ∧
   (∀ (s : State) (x : StartFound),
     (s.m.pwr.down = .rails ∨ s.m.pwr.down = .trip → exec (.porst x) s = .next s) ∧
     (s.m.pwr.down ≠ .rails → s.m.pwr.down ≠ .trip → Yields (.porst x) s fun u => u.Started 1 x) ∧
     (s.m.dieUp = false → exec (.deviceReset x) s = .next s) ∧
     (s.Running → Yields (.deviceReset x) s fun u => u.Started 2 x)) ∧
   (∀ (s : State) (why : ResetCause) (x : StartFound) (recent : List Nat),
     recent = s.m.pwr.fatals.filter (fun t => decide (s.m.absNow < t + 86400 * oneSecond)) →
     (s.m.dieUp = false → exec (.coreFatal why x) s = .next s) ∧
     (s.Running → recent.length < 2 → Yields (.coreFatal why x) s fun u => u.Started 3 x) ∧
     (s.Running → 2 ≤ recent.length → Yields (.coreFatal why x) s fun u =>
       u.m.pwr.down = .locked ∧ u.m.dieUp = false ∧ u.locks = s.locks ∧ u.m.pwr.fatals = s.m.absNow :: recent)) ∧
   (∀ (s : State) (tcp : Int) (x : StartFound),
     (s.m.pwr.down ≠ .trip ∨ 450 < tcp → exec (.tripRecovery tcp x) s = .next s) ∧
     (s.m.pwr.down = .trip → tcp ≤ 450 → Yields (.tripRecovery tcp x) s fun u => u.Started 0 x)) ∧
   (∀ s : State, s.Running →
     (s.m.compAbsent 3 = false → Does .nvmRetry s s.m) ∧
     (s.m.compAbsent 3 = true → s.m.boot.nvmReadAt + 60 * oneSecond ≤ s.m.absNow →
       (s.m.slotReason [] 3 0 ≠ 0 → s.m.slotReason [] 3 1 ≠ 0 →
         Does .nvmRetry s (s.m.withBoot { s.m.boot with nvmReadAt := s.m.absNow })) ∧
       (s.m.slotReason [] 3 0 = 0 ∨ s.m.slotReason [] 3 1 = 0 → Yields .nvmRetry s fun u =>
         u.locks.getLsbD 1 = true ∧ (u.m.get BOOT_STATUS_STAGE = 7 ∨ u.m.compAbsent 3 = true))))) ∧
  ((∀ s : State, s.Running →
     (s.m.flag GLB_STATUS_HEADLESS = true → Does .lockstepDivergence s s.m) ∧
     (s.m.flag GLB_STATUS_HEADLESS = false → Yields .lockstepDivergence s fun u =>
       u.m.flag GLB_STATUS_HEADLESS = true ∧ u.m.boot.absentAt = some s.m.absNow ∧ u.locks = s.locks ∧ u.m.fwd = s.m.fwd ∧
       u.m.sch = s.m.sch ∧ u.m.buf = s.m.buf ∧ u.m.time = s.m.time)) ∧
   (∀ s : State, s.Running →
     (s.m.boot.domOut.contains 13 = true ∨ s.m.supervisorLost.svSlot false = none →
       Yields .supervisorRestart s fun u => u.m.flag GLB_STATUS_HEADLESS = true ∧ u.locks = s.locks) ∧
     (∀ k, s.m.boot.domOut.contains 13 = false → s.m.supervisorLost.svSlot false = some k →
       Yields .supervisorRestart s fun u => u.m.flag GLB_STATUS_HEADLESS = false ∧ u.m.flag GLB_STATUS_DEGRADED = false ∧
         u.m.boot.absentAt = none ∧ u.locks = s.locks)) ∧
   (∀ s : State, s.Running →
     (s.m.boot.absentAt = none ∨ s.m.boot.watchdogUsed = true ∨ s.m.boot.domOut.contains 13 = true ∨ s.m.aonOut = true →
       Does .supervisorWatchdog s s.m) ∧
     (∀ t, s.m.boot.absentAt = some t → s.m.boot.watchdogUsed = false → s.m.boot.domOut.contains 13 = false → s.m.aonOut = false →
       t + 5 * oneSecond ≤ s.m.absNow →
       (s.m.svSlot true = none → Yields .supervisorWatchdog s fun u =>
         u.m.boot.watchdogUsed = true ∧ u.m.flag BOOT_STATUS_WATCHDOG = true ∧
         u.m.flag GLB_STATUS_HEADLESS = s.m.flag GLB_STATUS_HEADLESS) ∧
       (∀ k, s.m.svSlot true = some k → Yields .supervisorWatchdog s fun u =>
         u.m.boot.watchdogUsed = false ∧ u.m.flag BOOT_STATUS_WATCHDOG = true ∧ u.m.flag GLB_STATUS_HEADLESS = false ∧
         (u.m.get BOOT_STATUS_FALLBACK).testBit 3 = true ∧ u.m.boot.absentAt = none))) ∧
   (∀ s : State, s.Running →
     (s.m.boot.absentAt = none ∨ s.m.flag GLB_STATUS_DEGRADED = true → Does .degraded s s.m) ∧
     (∀ t, s.m.boot.absentAt = some t → s.m.flag GLB_STATUS_DEGRADED = false → t + 600 * oneSecond ≤ s.m.absNow →
       Yields .degraded s fun u => u.m.flag GLB_STATUS_DEGRADED = true ∧ u.m.flag GLB_EVENT_DEGRADED = true ∧
         u.m.boot = s.m.boot ∧ u.m.fwd = s.m.fwd ∧ u.m.sch = s.m.sch ∧ u.locks = s.locks)))

/-- The gasp, temperature, clock domains and NVM devices do what their loss means. GASP_TRIGGER shuts the rails down: both paths open,
REFCLK stops, the page is 2, the fatal times are lost, STAGE is 0, and with NVM-A in service, its gasp sector blank, the AON domain
running and the die running the record is written. THERMAL_STATE shows both temperatures and sets the warm and hot marks with 2 degrees of
hysteresis; THERMAL_TRIP shuts the die and REFCLK down at 118.0 or 65.0 degrees. Both do nothing with AON out. DOMAIN_FAILURE takes a
domain out of service with what it clocks (CORE, LKP, TIME, DCTL and DPHY are other commands' cases), and DOMAIN_RETURN ends that.
DEVICE_LOST makes every slot of the device read as absent. A second loss changes nothing. (R16, R417, R430, R431, R477, R482, R495, R522,
R523) -/
def Obligations.LossAndHeat : Prop :=
  (∀ s : State, s.Powered → Yields .gaspTrigger s fun u =>
    u.m.pwr.down = .rails ∧ u.m.pwr.page = 2 ∧ u.m.pwr.fatals = [] ∧ u.m.pwr.holdEnd = none ∧ u.m.get BOOT_STATUS_STAGE = 0 ∧
    (∀ f, f < 2 → u.m.flag PWR_FEED_OUT_ON f = false ∧ u.m.flag PWR_FEED_IN_ON f = false) ∧ u.m.pin.refclk = false ∧ u.locks = s.locks ∧
    (s.Running → s.m.aonOut = false → s.m.deviceOk 0 = true → s.m.nvm.gaspA = none → u.m.nvm.gaspA.isSome = true)) ∧
  (∀ (s : State) (tj tcp : Int), s.Running →
    (s.m.aonOut = true → Does (.thermalState tj tcp) s s.m ∧ Does (.thermalTrip tj tcp) s s.m) ∧
    (tj < 1180 → tcp < 650 → Does (.thermalTrip tj tcp) s s.m) ∧
    (s.m.aonOut = false → 1180 ≤ tj ∨ 650 ≤ tcp → Yields (.thermalTrip tj tcp) s fun u =>
      u.m.pwr.down = .trip ∧ u.m.dieUp = false ∧ u.m.pin.refclk = false ∧ u.locks = s.locks ∧
      (s.m.deviceOk 0 = true → s.m.nvm.gaspA = none → u.m.nvm.gaspA.isSome = true)) ∧
    (s.m.aonOut = false → Yields (.thermalState tj tcp) s fun u =>
      u.m.get AGE_TEMP_TJ_MAX = unsigned 16 tj ∧ u.m.get AGE_TEMP_COLD_PLATE = unsigned 16 tcp ∧
      u.m.pwr.warmTj = beyond s.m.pwr.warmTj tj 950 ∧ u.m.pwr.warmTcp = beyond s.m.pwr.warmTcp tcp 450 ∧
      u.m.pwr.hotTj = beyond s.m.pwr.hotTj tj 1050 ∧ u.m.pwr.hotTcp = beyond s.m.pwr.hotTcp tcp 550 ∧
      u.m.pwr.down = s.m.pwr.down ∧ u.locks = s.locks)) ∧
  (∀ (s : State) (d : Fin 25), s.Running →
    (s.m.boot.domOut.contains d.val = true ∨ d.val = 0 ∨ (14 ≤ d.val ∧ d.val ≤ 17) → Does (.domainFailure d) s s.m) ∧
    (s.m.boot.domOut.contains d.val = false → d.val ≠ 0 → ¬ (14 ≤ d.val ∧ d.val ≤ 17) → Yields (.domainFailure d) s fun u =>
      (d.val = 13 → u.m.flag GLB_STATUS_HEADLESS = true) ∧
      (1 ≤ d.val ∧ d.val ≤ 8 → u.m.get PRT_TILE_STATUS_STATE (d.val - 1) = 3) ∧
      (9 ≤ d.val ∧ d.val ≤ 12 → (s.m.cl (d.val - 9)).lost = false → u.m.get ENG_CLUSTER_STATUS_STATE (d.val - 9) = 4) ∧
      (d.val = 24 → u.m.time.monitorUp = false) ∧
      (d.val = 18 → u.m = (s.m.withBoot { s.m.boot with domOut := insertNat s.m.boot.domOut d.val }).functionReset 0) ∧
      (19 ≤ d.val ∧ d.val ≤ 23 → u.m = s.m.withBoot { s.m.boot with domOut := insertNat s.m.boot.domOut d.val }) ∧
      (d.val = 13 ∨ 19 ≤ d.val → u.m.boot.domOut = insertNat s.m.boot.domOut d.val) ∧ u.locks = s.locks) ∧
    (s.m.boot.domOut.contains d.val = false → Does (.domainReturn d) s s.m) ∧
    (s.m.boot.domOut.contains d.val = true → d.val = 0 ∨ 9 ≤ d.val → d.val ≠ 24 →
      Does (.domainReturn d) s (s.m.withBoot { s.m.boot with domOut := eraseNat s.m.boot.domOut d.val })) ∧
    (s.m.boot.domOut.contains d.val = true → d.val = 24 → Yields (.domainReturn d) s fun u =>
      u.m.boot.domOut.contains 24 = false ∧ u.m.time.monitorUp = true ∧ u.locks = s.locks) ∧
    (s.m.boot.domOut.contains d.val = true → 1 ≤ d.val → d.val ≤ 8 → s.m.get PRT_TILE_CTL_STATE_REQ (d.val - 1) ≠ 0 →
      Does (.domainReturn d) s (s.m.withBoot { s.m.boot with domOut := eraseNat s.m.boot.domOut d.val })) ∧
    (s.m.boot.domOut.contains d.val = true → 1 ≤ d.val → d.val ≤ 8 → s.m.get PRT_TILE_CTL_STATE_REQ (d.val - 1) = 0 →
      Yields (.domainReturn d) s fun u => u.m.boot.domOut.contains d.val = false)) ∧
  (∀ (s : State) (d : Fin 2), s.Running →
    (s.m.nvmLost d.val = true → Does (.deviceLost d) s s.m) ∧
    (s.m.nvmLost d.val = false → Yields (.deviceLost d) s fun u => u.m.nvmLost d.val = true ∧ (∀ n, u.m.slot n d.val = none) ∧
      u.m.nvm = s.m.nvm ∧ u.m.flag ⟨.NVM_EVENT, 3, 1⟩ = true ∧ u.locks = s.locks))

/-- UPD_CTL starts, confirms, ends and clears an update, and its steps write, exchange, settle or fall back. For a write of UPD_CTL with
LEN as it stands that reaches its block. CHECK: refused while an update runs, waits while the supervisor is absent, otherwise shows
CHECKED or FAILED with the reason. START: refused while one runs or with nothing checked; otherwise the first component that is not
skipped is being written, or the update is done when all are skipped. CONFIRM acts only on trial with the criteria holding and the
supervisor present. ABORT acts while a slot is written, which it cuts short (the model's choice, log 76), in exchange or on trial: PC
returns at once and the update fails with reason 15, another component is exchanged back. CANCEL marks a running update. CLEAR discards
the bundle unless an update runs. A write of UPD_REVOKE.STAGE revokes the slots named. SLOT_WRITE_DONE ends a step of a protected device
(reason 8) or one that failed to read back (reason 9, the slot half-erased, the boot record as before) or makes the new slot active,
pending or on trial, and begins the exchange; PC's window opens at once. SETTLE_DONE confirms when the criteria have held and the window
lasts so long, CONFIRM_TIMEOUT falls back with reason 14, and for SV even while the supervisor is absent. UNIT_EXCHANGE takes the next
tile or cluster, opens the window after the last one or ends a fallback, waits while the criteria do not hold, and fails a step whose
cluster stays out of RUN (reason 12) or whose new microcode faults (16). A fall of NVM_WP_N while a slot is written fails the step with
reason 8. NVM_WALK marks what it finds bad and notes the walk. Outside their states and without the supervisor they do nothing. (R415,
R416, R420, R421, R422, R425, R427, R417, R423, R424, R440) -/
def Obligations.UpdatesRunInSteps : Prop :=
  ((∀ (s : State) (p : Path) (n : Mod), n = s.m.set UPD_CTL_LEN 0 (UPD_CTL_LEN.of (s.m.rdStaged .UPD_CTL 0)) →
     (s.Granted p .UPD_CTL 0 0 (s.revised UPD_CTL_OP 0 1) →
       (n.updBusy = true → Does (.check p) s (n.updRefused 1)) ∧
       (n.updBusy = false → s.m.flag GLB_STATUS_HEADLESS = true → Does (.check p) s (n.setUpd 3)) ∧
       (n.updBusy = false → s.m.flag GLB_STATUS_HEADLESS = false → Yields (.check p) s fun u =>
         u.m.updState = (if n.bundleFault s.locks = 0 then 4 else 10) ∧ u.m.get UPD_STATUS_RESULT = n.bundleFault s.locks ∧
         u.m.nvm = s.m.nvm ∧ u.m.upd = s.m.upd ∧ u.m.flag ⟨.UPD_EVENT, 0, 1⟩ = true ∧ u.locks = s.locks)) ∧
     (∀ run, s.Granted p .UPD_CTL 0 0 (s.revised UPD_CTL_OP 0 2) →
       run = ((bundleComps n.bundle).getD []).filter (fun c => !(n.compSkipped c)) →
       (n.updBusy = true → Does (.start p) s (n.updRefused 1)) ∧
       (n.updBusy = false → n.updState ≠ 4 → Does (.start p) s (n.updRefused 2)) ∧
       (n.updState = 4 → Yields (.start p) s fun u => u.m.nvm = s.m.nvm ∧ u.m.upd.cancel = false ∧ u.locks = s.locks ∧
         (run = [] → u.m.updState = 9 ∧ u.m.get UPD_STATUS_RESULT = 0 ∧ u.m.upd.order = []) ∧
         (∀ c rest, run = c :: rest → u.m.updState = 5 ∧ u.m.updComp = c.1 ∧ u.m.upd.order = run.map (·.1) ∧
           u.m.upd.prevSlot = s.m.bootRec.slot c.1))) ∧
     (s.Granted p .UPD_CTL 0 0 (s.revised UPD_CTL_OP 0 3) →
       (n.updState ≠ 7 ∨ n.criteria n.updComp = false ∨ s.m.flag GLB_STATUS_HEADLESS = true → Does (.confirm p) s n) ∧
       (n.updState = 7 → n.updComp < 5 → n.criteria n.updComp = true → s.m.flag GLB_STATUS_HEADLESS = false →
         Yields (.confirm p) s fun u => (u.m.get UPD_STATUS_DONE_MASK).testBit n.updComp = true ∧ u.m.upd.deadline = none ∧
           u.m.flag ⟨.UPD_EVENT, 2, 1⟩ = true ∧ u.m.upd.running = s.m.upd.running ∧ u.locks = s.locks ∧
           (s.m.upd.order.drop 1 = [] ∨ s.m.upd.cancel = true → u.m.updState = 9 ∧ u.m.get UPD_STATUS_RESULT = 0) ∧
           (s.m.upd.order.drop 1 ≠ [] → s.m.upd.cancel = false → u.m.updState = 5) ∧
           (s.m.deviceOk 0 = true → u.m.bootRec.states.getD n.updComp 0 = 0))) ∧
     (s.Granted p .UPD_CTL 0 0 (s.revised UPD_CTL_OP 0 4) →
       (n.updState ≠ 5 → n.updState ≠ 6 → n.updState ≠ 7 → Does (.abort p) s n) ∧
       (n.updState = 5 → Yields (.abort p) s fun u => u.m.updState = 10 ∧ u.m.get UPD_STATUS_RESULT = 15 ∧
         u.m.slot n.updComp (1 - s.m.upd.prevSlot) = none ∧ u.m.upd.running = s.m.upd.running ∧ u.m.flag ⟨.UPD_EVENT, 3, 1⟩ = true) ∧
       (n.updState = 6 ∨ n.updState = 7 → n.updComp = 0 → Yields (.abort p) s fun u => u.m.updState = 10 ∧
         u.m.get UPD_STATUS_RESULT = 15 ∧ lookup u.m.upd.running 0 = some s.m.upd.prevRun ∧ u.m.flag ⟨.UPD_EVENT, 3, 1⟩ = true) ∧
       (n.updState = 6 ∨ n.updState = 7 → n.updComp ≠ 0 → Does (.abort p) s
         (((n.withUpd { n.upd with reason := 15, deadline := none }).setUpd 8).exchange n.updComp n.upd.prevRun false))) ∧
     (s.Granted p .UPD_CTL 0 0 (s.revised UPD_CTL_OP 0 5) →
       Does (.cancel p) s (if n.updBusy then n.withUpd { n.upd with cancel := true } else n)) ∧
     (s.Granted p .UPD_CTL 0 0 (s.revised UPD_CTL_OP 0 6) →
       (n.updBusy = true → Does (.clearStaging p) s (n.updRefused 1)) ∧
       (n.updBusy = false → Yields (.clearStaging p) s fun u =>
         u.m.updState = 0 ∧ u.m.get UPD_CTL_LEN = 0 ∧ u.m.upd.dmpLen = 0 ∧ u.m.nvm = s.m.nvm ∧ u.locks = s.locks))) ∧
   (∀ (s : State) (p : Path) (stage : BitVec 4), s.Granted p .UPD_REVOKE 0 0 (UPD_REVOKE_STAGE.put 0 stage.toNat) →
     Yields (.revoke p stage) s fun u =>
       u.m.nvm.revoked = (s.m.nvm.revoked ||| stage.toNat) ∧ u.m.nvm.slots = s.m.nvm.slots ∧ u.m.bootRec = s.m.bootRec ∧
       u.locks = s.locks ∧ (∀ k, k < 4 → stage.getLsbD k = true → s.m.keyRevoked k = false → u.m.flag ⟨.UPD_EVENT, 5, 1⟩ = true))) ∧
  ((∀ (s : State) (n k : Nat), s.Running → n = s.m.updComp → k = 1 - s.m.upd.prevSlot →
     (∀ good : Bool, s.m.updState ≠ 5 ∨ s.m.flag GLB_STATUS_HEADLESS = true → Does (.slotWriteDone good) s s.m) ∧
     (∀ good : Bool, s.m.updState = 5 → s.m.flag GLB_STATUS_HEADLESS = false → s.m.pin.nvmWpN = false →
       Yields (.slotWriteDone good) s fun u => u.m.updState = 10 ∧ u.m.get UPD_STATUS_RESULT = 8 ∧ u.m.nvm = s.m.nvm ∧ u.locks = s.locks) ∧
     (s.m.updState = 5 → s.m.flag GLB_STATUS_HEADLESS = false → n < 5 → s.m.pin.nvmWpN = true →
       (Yields (.slotWriteDone false) s fun u => u.m.updState = 10 ∧ u.m.get UPD_STATUS_RESULT = 9 ∧ u.m.slot n k = none ∧
         u.m.bootRec = s.m.bootRec ∧ u.m.upd.running = s.m.upd.running ∧ u.m.flag ⟨.UPD_EVENT, 4, 1⟩ = true ∧ u.locks = s.locks) ∧
       (s.m.deviceOk k = true → n < s.m.bootRec.states.length → Yields (.slotWriteDone true) s fun u =>
         u.m.slot n k = some s.m.upd.stepRun ∧ u.m.bootRec.slot n = k ∧
         u.m.bootRec.states.getD n 0 = (if n = 3 ∨ (n = 4 ∧ s.m.upd.atRestart = true) then 1 else 2) ∧
         u.m.updState = (if n = 0 then 7 else 6) ∧ u.locks = s.locks ∧
         (n = 3 → u.m.flag GLB_STATUS_HEADLESS = true) ∧
         (n < 3 ∨ (n = 4 ∧ s.m.upd.atRestart = false) → lookup u.m.upd.running n = some s.m.upd.stepRun) ∧
         (n = 0 → u.m.upd.deadline = some (s.m.absNow + s.m.upd.confirmS * oneSecond))))) ∧
   (∀ s : State, s.Running →
     (s.m.updState ≠ 7 ∨ s.m.criteria s.m.updComp = false ∨ s.m.flag GLB_STATUS_HEADLESS = true ∨
       (∃ t, s.m.upd.deadline = some t ∧ t < s.m.upd.exchangedAt + s.m.get UPD_CFG_SETTLE_S * oneSecond) → Does .settleDone s s.m) ∧
     (s.m.updState = 7 → s.m.updComp < 5 → s.m.criteria s.m.updComp = true → s.m.flag GLB_STATUS_HEADLESS = false →
       (∀ t, s.m.upd.deadline = some t → s.m.upd.exchangedAt + s.m.get UPD_CFG_SETTLE_S * oneSecond ≤ t) →
       s.m.upd.exchangedAt + s.m.get UPD_CFG_SETTLE_S * oneSecond ≤ s.m.absNow → Yields .settleDone s fun u =>
         (u.m.get UPD_STATUS_DONE_MASK).testBit s.m.updComp = true ∧ u.m.upd.deadline = none ∧
         u.m.flag ⟨.UPD_EVENT, 2, 1⟩ = true ∧ u.m.upd.running = s.m.upd.running ∧ u.locks = s.locks ∧
         (s.m.deviceOk 0 = true → u.m.bootRec.states.getD s.m.updComp 0 = 0)) ∧
     (s.m.upd.deadline = none ∨ s.m.updState ≠ 7 ∨ (s.m.flag GLB_STATUS_HEADLESS = true ∧ s.m.updComp ≠ 3) →
       Does .confirmTimeout s s.m) ∧
     (∀ t, s.m.upd.deadline = some t → s.m.updState = 7 → s.m.flag GLB_STATUS_HEADLESS = false ∨ s.m.updComp = 3 → t ≤ s.m.absNow →
       (s.m.updComp = 0 → Yields .confirmTimeout s fun u => u.m.updState = 10 ∧ u.m.get UPD_STATUS_RESULT = 14 ∧
         lookup u.m.upd.running 0 = some s.m.upd.prevRun ∧ u.m.flag ⟨.UPD_EVENT, 3, 1⟩ = true) ∧
       (s.m.updComp ≠ 0 → Does .confirmTimeout s
         (((s.m.withUpd { s.m.upd with reason := 14, deadline := none }).setUpd 8).exchange s.m.updComp s.m.upd.prevRun false)))) ∧
   (∀ (s : State) (k : Nat), s.Running → k = s.m.get UPD_STATUS_UNIT →
     ((s.m.updState ≠ 6 ∧ s.m.updState ≠ 8) ∨ s.m.flag GLB_STATUS_HEADLESS = true ∨ (s.m.updComp ≠ 1 ∧ s.m.updComp ≠ 2) →
       Does .unitExchange s s.m) ∧
     (s.m.updState = 6 ∨ s.m.updState = 8 → s.m.flag GLB_STATUS_HEADLESS = false → s.m.updComp = 1 →
       s.m.upd.portsUp.all s.m.portUp = true ∨ s.m.upd.unitAt + s.m.get UPD_CFG_SF_WAIT_S * oneSecond ≤ s.m.absNow →
       (k < 7 → Does .unitExchange s (s.m.tileReloads (k + 1))) ∧
       (7 ≤ k → s.m.updState = 6 → Yields .unitExchange s fun u => u.m.updState = 7 ∧ u.m.flag ⟨.UPD_EVENT, 1, 1⟩ = true ∧
         u.m.upd.deadline = some (s.m.absNow + s.m.upd.confirmS * oneSecond)) ∧
       (7 ≤ k → s.m.updState = 8 → Yields .unitExchange s fun u => u.m.updState = (if s.m.upd.reason = 0 then 9 else 10) ∧ u.m.flag ⟨.UPD_EVENT, 3, 1⟩ = true ∧
         u.m.upd.order = [])) ∧
     (s.m.updState = 6 ∨ s.m.updState = 8 → s.m.flag GLB_STATUS_HEADLESS = false → s.m.updComp = 2 →
       (∀ c, c < 4 → s.m.get ENG_CLUSTER_STATUS_STATE c = 0 ∧ (s.m.cl c).quiesce = none) →
       (s.m.upd.jobFault = true → s.m.updState = 6 → Yields .unitExchange s fun u => u.m.updState = 8 ∧ u.m.upd.reason = 16) ∧
       (s.m.upd.jobFault = false → s.m.updState = 6 → s.m.criteria 2 = false → Does .unitExchange s s.m) ∧
       (k < 3 → s.m.updState = 8 ∨ (s.m.upd.jobFault = false ∧ s.m.criteria 2 = true) → s.m.upd.unitAt + s.m.get UPD_CFG_EM_GAP_S * oneSecond ≤ s.m.absNow →
         Does .unitExchange s (s.m.clusterExchanges (k + 1) (s.m.get ENG_XCHG_STATUS_CUR_BASE k))) ∧
       (3 ≤ k → s.m.updState = 6 → s.m.upd.jobFault = false → s.m.criteria 2 = true →
         Yields .unitExchange s fun u => u.m.updState = 7)) ∧
     (s.m.updState = 6 → s.m.flag GLB_STATUS_HEADLESS = false → s.m.updComp = 2 →
       (∃ c, c < 4 ∧ s.m.get ENG_CLUSTER_STATUS_STATE c ≠ 0) → s.m.upd.unitAt + s.m.upd.confirmS * oneSecond ≤ s.m.absNow →
       Yields .unitExchange s fun u => u.m.updState = 8 ∧ u.m.upd.reason = 12)) ∧
   (∀ (s : State) (high : Bool),
     (s.m.dieUp = false ∨ s.m.updState ≠ 5 ∨ high = true ∨ s.m.pin.nvmWpN = false →
       Does (.writeProtectChange high) s (s.m.withPin { s.m.pin with nvmWpN := high })) ∧
     (s.Running → s.m.updState = 5 → high = false → s.m.pin.nvmWpN = true → Yields (.writeProtectChange high) s fun u =>
       u.m.pin.nvmWpN = false ∧ u.m.updState = 10 ∧ u.m.get UPD_STATUS_RESULT = 8 ∧ u.m.bootRec = s.m.bootRec ∧
       u.m.slot s.m.updComp (1 - s.m.upd.prevSlot) = none)) ∧
   (∀ (s : State) (failing : List Nat), s.Running →
     (s.m.flag GLB_STATUS_HEADLESS = true ∨ s.m.get INT_SCRUB_CFG_NVM_WALK_H = 0 → Does (.nvmWalk failing) s s.m) ∧
     (s.m.flag GLB_STATUS_HEADLESS = false → s.m.get INT_SCRUB_CFG_NVM_WALK_H ≠ 0 →
       s.m.int.nvmWalkAt + s.m.get INT_SCRUB_CFG_NVM_WALK_H * 3600 * oneSecond ≤ s.m.now → Yields (.nvmWalk failing) s fun u =>
         u.m.nvm.badSlots = s.m.walkFails failing ∧ u.m.nvm.slots = s.m.nvm.slots ∧ u.m.upd.walked = true ∧
         (s.m.walkFails failing ≠ [] → u.m.flag ⟨.INT_EVENT, 4, 1⟩ = true) ∧ u.locks = s.locks)))

/-- Slices, buckets, grafts, spare tests, margins, forecasts and life budgets do what their chapter says. SCRUB_SLICE, once in a tick,
advances each enabled memory's pass, unless the tick's end cuts it, fills the unit's bucket for an error found, invalidates a lost table
entry and restarts the supervisor for its own memory; it is shed at level 1. BUCKET_DECAY lowers every bucket of a class. GRAFT_START
takes the oldest unit onto a spare; GRAFT_DONE and GRAFT_PARTIAL let the spare serve, empty the bucket and record it. GRF_CMD retires a
unit in service, returns and tests, with its status. SPARE_TEST marks failing spares bad. AVS_STEP steps a rail by the slack of its
replica. FORECAST shows an eye margin and refits every line, LIFE_UPDATE charges both budgets, LIFE_RECORD records them. What is not due
or waits changes nothing. (R434, R437, R441, R443, R444, R445, R447, R452, R454, R456, R457, R459) -/
def Obligations.ScrubbingRepairAndAgeing : Prop :=
  (∀ (s : State) (x : ScrubFind) (cls loc : Nat), s.Running →
    (∀ finds cut, 1 ≤ s.m.get GLB_TICK_CFG_SHED_LEVEL ∨ s.m.int.scrubAt = some s.m.commits → Does (.scrubSlice ⟨finds, cut⟩) s s.m) ∧
    (s.m.get GLB_TICK_CFG_SHED_LEVEL = 0 → s.m.int.scrubAt ≠ some s.m.commits → Yields (.scrubSlice ⟨[], true⟩) s fun u =>
      u.m.int = { s.m.int with scrubAt := some s.m.commits } ∧ (s.m.tick.stepTick = false → u.m.tick.overrun = true)) ∧
    (s.m.get GLB_TICK_CFG_SHED_LEVEL = 0 → s.m.int.scrubAt ≠ some s.m.commits → Yields (.scrubSlice ⟨[], false⟩) s fun u =>
      u.locks = s.locks ∧ u.m.int.scrubAt = some s.m.commits ∧
      ∀ mem ∈ scrubbed, ∀ all, all = passSlices mem (s.m.get INT_SCRUB_CFG_SDRAM_SLICE_KIB) → all ≠ 0 →
        lookupD u.m.int.slices mem 0 = (if (s.m.get INT_SCRUB_CFG_EN).testBit mem = false then lookupD s.m.int.slices mem 0
          else if lookupD s.m.int.slices mem 0 + 1 < all then lookupD s.m.int.slices mem 0 + 1 else 0)) ∧
    (∀ cut, s.m.get GLB_TICK_CFG_SHED_LEVEL = 0 → s.m.int.scrubAt ≠ some s.m.commits →
      (s.m.get INT_SCRUB_CFG_EN).testBit x.mem.val = true → x.mem.val ∈ scrubbed →
      (x.kind = .corrected → x.mem.val ≠ 16 → s.m.unitOf x = some (cls, loc) → s.m.graftQueued cls loc = false → s.m.unitGone cls loc = false → s.m.aonOut = false →
        Yields (.scrubSlice ⟨[x], cut⟩) s fun u => u.m.bucket cls loc = Nat.min (s.m.bucket cls loc + s.m.get INT_BUCKET_CFG_INC_MINOR cls) 65535) ∧
      (x.kind = .lost → x.mem.val = 13 → Yields (.scrubSlice ⟨[x], cut⟩) s fun u => u.m.flag GLB_STATUS_HEADLESS = true) ∧
      (x.kind = .lost → 4 ≤ x.mem.val → x.mem.val ≤ 9 → (∀ g, s.m.int.graft = some g → s.m.unitOf x ≠ some (g.cls, g.loc)) →
        Yields (.scrubSlice ⟨[x], cut⟩) s fun u =>
        (findCode x, x.index) ∈ u.m.int.invalid ∧ u.m.flag ⟨.INT_EVENT, 0, 1⟩ = true))) ∧
  (∀ (s : State) (cls : Fin 6) (due : Nat), s.Running →
    due = lookupD s.m.int.decayAt cls.val 0 + Nat.max 1 (s.m.get INT_BUCKET_CFG_DECAY_TICKS cls.val) →
    (s.m.aonOut = true ∨ s.m.commits < due → Does (.bucketDecay cls) s s.m) ∧
    (s.m.aonOut = false → due ≤ s.m.commits → Yields (.bucketDecay cls) s fun u => u.locks = s.locks ∧
      ∀ loc, loc < 2 ^ 32 → u.m.bucket cls.val loc = s.m.bucket cls.val loc - 1)) ∧
  (∀ s : State, s.Running →
    (s.m.int.graft.isSome = true ∨ s.m.flag GLB_STATUS_HEADLESS = true ∨ s.m.int.queue = [] → Does .graftStart s s.m) ∧
    (∀ cls loc rest, s.m.int.graft = none → s.m.flag GLB_STATUS_HEADLESS = false → s.m.int.queue = (cls, loc) :: rest →
      (s.m.graftWaits cls loc = true → Does .graftStart s s.m) ∧
      (s.m.graftWaits cls loc = false → cls = 6 → Yields .graftStart s fun u =>
        u.m.int.graft = some { cls := 6, loc := loc, spare := 0xFF } ∧ u.m.int.queue = rest ∧ u.m.flag GRF_STATUS_ACTIVE = true ∧
        u.m.flag ⟨.GRF_EVENT, 1, 1⟩ = true) ∧
      (s.m.graftWaits cls loc = false → cls ≠ 6 → ∀ k, s.m.spareFor cls loc = some k → Yields .graftStart s fun u =>
        u.m.int.graft = some { cls := cls, loc := loc, spare := k } ∧ u.m.int.queue = rest ∧ u.m.flag GRF_STATUS_ACTIVE = true ∧
        u.m.flag ⟨.GRF_EVENT, 1, 1⟩ = true) ∧
      (s.m.graftWaits cls loc = false → cls ≠ 6 → s.m.spareFor cls loc = none → Yields .graftStart s fun u =>
        u.m.int.graft = none ∧ u.m.int.queue = rest ∧ (cls = 1 → u.m.buf.banksLost = insertNat s.m.buf.banksLost loc))) ∧
    (s.m.int.graft = none → Does .graftDone s s.m ∧ ∀ left, Does (.graftPartial left) s s.m) ∧
    (∀ g, s.m.int.graft = some g →
      (s.m.flag GLB_STATUS_HEADLESS = true ∨ g.cls = 6 → Does .graftDone s s.m) ∧
      (s.m.flag GLB_STATUS_HEADLESS = false → g.cls ≠ 6 → Yields .graftDone s fun u =>
        u.m.int.graft = none ∧ lookup u.m.int.used (spareKey g.cls (spareGroup g.cls g.loc) g.spare) = some g.loc ∧
        u.m.bucket g.cls g.loc = 0 ∧ u.m.flag GRF_STATUS_ACTIVE = false ∧ u.m.flag ⟨.GRF_EVENT, 2, 1⟩ = true ∧
        (s.m.deviceOk 0 = true → s.m.int.recA.length < 4030 → s.m.int.recB.length < 4030 → ∃ e, u.m.int.recA = s.m.int.recA ++ [e] ∧ e.kind = 1 ∧ e.cls = g.cls ∧ e.spare = g.spare ∧ e.loc = g.loc)) ∧
      (∀ left, g.cls = 0 ∨ 5 < g.cls → Does (.graftPartial left) s s.m) ∧
      (∀ left, g.cls ≠ 0 → g.cls ≤ 5 → Yields (.graftPartial left) s fun u =>
        u.m.int.graft = none ∧ lookup u.m.int.used (spareKey g.cls (spareGroup g.cls g.loc) g.spare) = some g.loc ∧
        u.m.flag ⟨.GRF_EVENT, 3, 1⟩ = true ∧ (g.cls = 3 → ∀ e ∈ left, (17, e.2) ∈ u.m.int.invalid) ∧
        (g.cls = 4 → ∀ e ∈ left, e ∈ u.m.int.invalid) ∧
        (g.cls = 1 → ∀ e ∈ left, ∀ f, s.m.frame e.2 = some f → (u.m.frame e.2).any (·.poison) = true)))) ∧
  (∀ (s : State) (p : Path) (cls : Fin 8) (loc : BitVec 32), s.Opened p .GRF_CMD 0 0 .grf (grfWord 1 cls.val loc.toNat) →
    (unitValid cls.val loc.toNat = false ∨ s.m.unitGone cls.val loc.toNat = true → Yields (.grfRetire p cls loc) s fun u =>
      u.m.replies .grf GRF_CMD_STATUS 0 1 [] = true ∧ u.m.int = s.m.int) ∧
    (unitValid cls.val loc.toNat = true → s.m.unitGone cls.val loc.toNat = false → cls.val = 0 → Yields (.grfRetire p cls loc) s fun u =>
      u.m.replies .grf GRF_CMD_STATUS 0 0 [] = true ∧ u.m.flag PRT_LANE_STATUS_RETIRED loc.toNat = true) ∧
    (unitValid cls.val loc.toNat = true → s.m.unitGone cls.val loc.toNat = false → cls.val ≠ 0 →
      (s.m.graftQueued cls.val loc.toNat = true → Yields (.grfRetire p cls loc) s fun u =>
        u.m.replies .grf GRF_CMD_STATUS 0 0 [] = true ∧ u.m.int.queue = s.m.int.queue) ∧
      (s.m.graftQueued cls.val loc.toNat = false → 16 ≤ s.m.int.queue.length → Yields (.grfRetire p cls loc) s fun u =>
        u.m.replies .grf GRF_CMD_STATUS 0 3 [] = true ∧ u.m.int.queue = s.m.int.queue) ∧
      (s.m.graftQueued cls.val loc.toNat = false → s.m.int.queue.length < 16 → Yields (.grfRetire p cls loc) s fun u =>
        u.m.replies .grf GRF_CMD_STATUS 0 (if cls.val ≠ 6 ∧ s.m.spareFor cls.val loc.toNat = none then 2 else 0) [] = true ∧
        u.m.int.queue = s.m.int.queue ++ [(cls.val, loc.toNat)]))) ∧
  (∀ (s : State) (p : Path) (loc : BitVec 32), s.Opened p .GRF_CMD 0 0 .grf (grfWord 2 0 loc.toNat) →
    (∀ passed, unitValid 0 loc.toNat = false ∨ s.m.flag PRT_LANE_STATUS_RETIRED loc.toNat = false → Yields (.grfReturn p loc passed) s fun u =>
      u.m.replies .grf GRF_CMD_STATUS 0 1 [] = true ∧ u.m.int = s.m.int) ∧
    (∀ passed, unitValid 0 loc.toNat = true → s.m.flag PRT_LANE_STATUS_RETIRED loc.toNat = true → Yields (.grfReturn p loc passed) s fun u =>
      u.m.replies .grf GRF_CMD_STATUS 0 (if passed then 0 else 4) [] = true ∧
      u.m.flag PRT_LANE_STATUS_RETIRED loc.toNat = !passed ∧ u.m.flag ⟨.GRF_EVENT, 8, 1⟩ = true)) ∧
  (∀ (s : State) (p : Path) (failing : List Nat), s.Opened p .GRF_CMD 0 0 .grf (grfWord 3 0 0) →
    Yields (.spareTestNow p failing) s fun u =>
      u.m.replies .grf GRF_CMD_STATUS 0 (if failing = [] then 0 else 4) [] = true ∧
      ∀ k ∈ failing, u.m.int.bad.contains (spareKey (k / 2 ^ 20) (k / 16 % 65536) (k % 16)) = true) ∧
  (∀ (s : State) (failing bad : List Nat), s.Running →
    s.m.int.spareTestAt + 3600 * oneSecond * s.m.get GRF_CFG_SPARE_TEST_H ≤ s.m.now → Yields (.spareTest failing bad) s fun u =>
      u.m.int.spareTestAt = s.m.now ∧ u.locks = s.locks ∧
      ∀ k ∈ failing, u.m.int.bad.contains (spareKey (k / 2 ^ 20) (k / 16 % 65536) (k % 16)) = true) ∧
  (∀ (s : State) (i : Fin 25) (slack : Int) (steps : Nat), s.Running → steps = s.m.get AGE_MON_AVS_STEPS i.val →
    Yields (.avsStep i slack) s fun u => u.m.get AGE_MON_MARGIN i.val = unsigned 16 (clampSigned 16 slack) ∧ u.locks = s.locks ∧
      (s.m.flag AGE_CFG_AVS_EN = false ∨ i.val = 22 → u.m.get AGE_MON_AVS_STEPS i.val = steps) ∧
      (s.m.flag AGE_CFG_AVS_EN = true → i.val ≠ 22 →
        (∀ t, lookup s.m.int.avsAt i.val = some t → t + 60 * oneSecond ≤ s.m.now) →
        (slack < 40 → steps < 10 → u.m.get AGE_MON_AVS_STEPS i.val = steps + 1 ∧
          (steps = 9 → u.m.flag ⟨.AGE_EVENT, 2, 1⟩ = true)) ∧
        (∀ t, 80 < slack → 0 < steps → lookup s.m.int.ample i.val = some t → t + 86400 * oneSecond ≤ s.m.now →
          u.m.get AGE_MON_AVS_STEPS i.val = steps - 1))) ∧
  (∀ (s : State) (month : Nat) (eyes : List (Fin 128 × BitVec 8)), s.Running → s.m.int.forecastAt + 86400 * oneSecond ≤ s.m.now →
    Yields (.forecast month eyes) s fun u => u.m.int.forecastAt = s.m.now ∧ u.m.int.month = month ∧ u.locks = s.locks ∧
      (∀ l v, eyes = [(l, v)] → u.m.get PRT_LANE_STATUS_EYE_MARGIN l.val = v.toNat) ∧
      (month = s.m.int.month → eyes = [] → ∀ i all, i < 38 → i ≠ 35 → i ≠ 36 →
        all = ((lookup s.m.int.months i).getD []).reverse ++ (lookup s.m.int.monthMin i).toList →
        u.m.get AGE_FORECAST_YEARS i = forecastYears all (marginFloor i) ∧
        u.m.get AGE_FORECAST_VALID i = b01 (decide (3 ≤ all.length)))) ∧
  (∀ (s : State) (tj tcp : Int), s.Running → s.m.int.lifeAt + oneSecond ≤ s.m.now → Yields (.lifeUpdate tj tcp) s fun u =>
    u.m.int.lifeDie = s.m.int.lifeDie + (if tj ≤ 950 then 2 ^ 32 else if tj ≤ 1050 then lifeRate (tj - 950).toNat else 8 * 2 ^ 32) ∧
    u.m.int.lifeMod = s.m.int.lifeMod + (if tcp ≤ 450 then 2 ^ 32 else lifeRate (tcp - 450).toNat) ∧ u.m.int.lifeAt = s.m.now ∧
    u.m.get AGE_LIFE_DIE_CONSUMED_H = Nat.min (lifeHours u.m.int.lifeDie) (2 ^ 32 - 1) ∧
    u.m.get AGE_LIFE_DIE_REMAIN_H = 350400 - lifeHours u.m.int.lifeDie ∧
    u.m.get AGE_LIFE_MOD_REMAIN_H = 350400 - lifeHours u.m.int.lifeMod ∧ u.locks = s.locks) ∧
  (∀ s : State, s.Running → s.m.int.lifeRecAt + 6 * 3600 * oneSecond ≤ s.m.now → Yields .lifeRecord s fun u =>
    u.m.int.lifeRecAt = s.m.now ∧ u.locks = s.locks ∧
    (s.m.deviceOk 0 = true → s.m.int.recA.length < 4029 → s.m.int.recB.length < 4029 → ∃ a b, u.m.int.recA = s.m.int.recA ++ [a, b] ∧ a.kind = 4 ∧ a.cls = 0 ∧ b.kind = 4 ∧ b.cls = 1 ∧
      a.loc = lifeHours s.m.int.lifeDie ∧ b.loc = lifeHours s.m.int.lifeMod))

/-- Feeds, transfers and tests act as R464 to R477 say, and each PMBus command answers on its pages. While the controller has power:
FEED_STATE takes a state that its voltage allows (GOOD after 100 ms), OVER opens the path; otherwise, and with the PWRC domain out,
nothing. TRANSFER_ON_LOSS moves the load when the active feed is lost or OVER and the standby GOOD; PWR_CMD moves it unless barred
(REFUSED with the reason); REVERT when WTR_S has passed and nothing bars it. HOLD_END releases the held outputs. A self-test publishes
each check of both feeds, and is skipped while a transfer settles or a feed is not GOOD. HOLDUP_MEASURE shows the bank and whether it is
low, DIP counts, and PC_RESTART holds the lines for at most 200 ms, or in PC's own trial falls back. While the controller has power.
Without its firmware every command is unanswered and changes nothing. Otherwise a read command answers with its octets, and nothing else
changes, on the pages it is defined for, and on another page it is ignored and noted as an undefined command. PAGE selects 0 to 2 or
reports; any other value is noted. CLEAR_FAULTS leaves what still holds, and does nothing while a transfer settles. MFR_FEED_ACTIVE
reports, or asks for a transfer: refused with qualifier 4 without I2C_CMD_EN. An undefined command, a write to a read-only one and a bad
PEC each set their bit. The octets of MFR_REVISION and STATUS_WORD are the model's reading (log 28). (R423, R464, R466, R468, R469, R470,
R471, R472, R473, R475, R476, R477) -/
def Obligations.PowerFeedsAndPmbus : Prop :=
  ((∀ (s : State) (f : Fin 2) (new : Fin 5) (vin since : Nat), s.Powered → since = (if f.val = 0 then s.m.pwr.qualA else s.m.pwr.qualB) →
     (new.val = s.m.feedSt f.val ∨ feedMove (s.m.feedSt f.val) new.val vin = false ∨ s.m.pwrcOut = true → Does (.feedState f new vin) s s.m) ∧
     (new.val ≠ s.m.feedSt f.val → feedMove (s.m.feedSt f.val) new.val vin = true → vin < 65536 → s.m.pwrcOut = false →
       new.val = 3 → since + qualifyTime ≤ s.m.absNow → Yields (.feedState f new vin) s fun u => u.m.feedGood f.val = true ∧
         u.m.get PWR_FEED_VIN f.val = vin ∧ u.m.activeFeed = s.m.activeFeed ∧ u.locks = s.locks) ∧
     (new.val ≠ s.m.feedSt f.val → feedMove (s.m.feedSt f.val) new.val vin = true → vin < 65536 → s.m.pwrcOut = false → new.val ≠ 3 →
       Yields (.feedState f new vin) s fun u => u.m.feedSt f.val = new.val ∧ u.m.get PWR_FEED_VIN f.val = vin ∧
         u.m.flag PWR_STATUS_SINGLE = !(u.m.feedGood u.m.standbyFeed) ∧ u.m.activeFeed = s.m.activeFeed ∧ u.locks = s.locks ∧
         (new.val = 4 → u.m.flag PWR_FEED_OUT_ON f.val = false ∧ u.m.flag PWR_FEED_IN_ON f.val = false) ∧
         (s.Running → u.m.flag ⟨.PWR_EVENT, 0, 1⟩ = true))) ∧
   (∀ (s : State) (vin : Nat), s.Powered →
     ((3800 ≤ vin ∧ s.m.feedSt s.m.activeFeed ≠ 4) ∨ s.m.feedGood s.m.standbyFeed = false → Does (.transferOnLoss vin) s s.m) ∧
     (vin < 3800 ∨ s.m.feedSt s.m.activeFeed = 4 → s.m.feedGood s.m.standbyFeed = true →
       Yields (.transferOnLoss vin) s fun u => s.Transferred u 1)) ∧
   (∀ (s : State) (p : Path), s.Granted p .PWR_CMD 0 0 (PWR_CMD_OP.put 0 1) →
     (s.m.transferBar = 0 → Yields (.transferCommand p) s fun u => s.Transferred u 2) ∧
     (s.m.transferBar ≠ 0 → Does (.transferCommand p) s (s.m.pwrEvent 0x08 s.m.standbyFeed s.m.transferBar))) ∧
   (∀ (s : State) (pref wtr good : Nat), s.Powered → pref = s.m.policyGet PWR_POLICY_PREFER → wtr = s.m.policyGet PWR_POLICY_WTR_S →
     good = (if pref = 0 then s.m.pwr.goodA else s.m.pwr.goodB) →
     (2 ≤ pref ∨ wtr = 0 ∨ pref = s.m.activeFeed ∨ s.m.feedGood pref = false ∨ s.m.pwrcOut = true → Does .revert s s.m) ∧
     (s.m.pwrcOut = false → pref < 2 → wtr ≠ 0 → pref ≠ s.m.activeFeed → s.m.feedGood pref = true →
       Nat.max good s.m.pwr.activeAt + wtr * oneSecond ≤ s.m.absNow →
       (s.m.transferBar ≠ 0 → Does .revert s s.m) ∧ (s.m.transferBar = 0 → Yields .revert s fun u => s.Transferred u 3))) ∧
   (∀ s : State, s.Powered →
     (s.m.pwr.holdEnd = none → Does .holdEnd s s.m) ∧
     (∀ t, s.m.pwr.holdEnd = some t → t ≤ s.m.absNow → Yields .holdEnd s fun u => u.m.pwr.holdEnd = none ∧
       u.m.flag PWR_STATUS_HOLD = false ∧ u.m.get PWR_STATUS_TRANSFER = 0 ∧ u.m.activeFeed = s.m.activeFeed ∧ u.locks = s.locks) ∧
     (s.m.pwrcOut = true → Does .dip s s.m) ∧
     (s.m.pwrcOut = false → Yields .dip s fun u => u.m.get PWR_COUNTS_DIPS = Nat.min (s.m.get PWR_COUNTS_DIPS + 1) 65535 ∧ u.m.pwr = s.m.pwr ∧
       u.locks = s.locks ∧ (s.Running → u.m.flag ⟨.PWR_EVENT, 4, 1⟩ = true)) ∧
     (s.m.updState = 7 → s.m.updComp = 0 → Yields .pcRestart s fun u => u.m.updState = 10 ∧ u.m.get UPD_STATUS_RESULT = 16 ∧
       u.m.pwr.page = 2) ∧
     (s.m.updState ≠ 7 ∨ s.m.updComp ≠ 0 → Yields .pcRestart s fun u => u.m.pwr.page = 2 ∧
       (∃ t, u.m.pwr.restartEnd = some t ∧ s.m.absNow ≤ t ∧ t ≤ s.m.absNow + 200000000) ∧ u.m.pwr.okHeldA = s.m.feedOk 0 ∧
       u.m.pwr.okHeldB = s.m.feedOk 1 ∧ u.m.pwr.pcAlarmHeld = s.m.pcAlarm ∧ u.locks = s.locks ∧ (s.Running → u.m.flag ⟨.PWR_EVENT, 6, 1⟩ = true))) ∧
   (∀ (s : State) (a b : FeedTest), s.Powered →
     (s.m.pcRestarting = true ∨ s.m.pwrcOut = true → Does (.selfTest a b) s s.m) ∧
     (s.m.pcRestarting = false → s.m.pwrcOut = false →
       s.m.pwr.testAt + s.m.get PWR_TEST_CFG_PERIOD_S * oneSecond ≤ s.m.absNow →
       (s.m.pcHold = true ∨ s.m.feedGood 0 = false ∨ s.m.feedGood 1 = false →
         Does (.selfTest a b) s (s.m.withPwr { s.m.pwr with testAt := s.m.absNow })) ∧
       (s.m.pcHold = false → s.m.feedGood 0 = true → s.m.feedGood 1 = true → Yields (.selfTest a b) s fun u => s.Tested u a b))) ∧
   (∀ (s : State) (p : Path) (a b : FeedTest), s.Granted p .PWR_CMD 0 0 (PWR_CMD_OP.put 0 2) →
     (s.m.pcHold = true ∨ s.m.feedGood 0 = false ∨ s.m.feedGood 1 = false →
       Does (.selfTestNow p a b) s (s.m.withPwr { s.m.pwr with testAt := s.m.absNow })) ∧
     (s.m.pcHold = false → s.m.feedGood 0 = true → s.m.feedGood 1 = true → Yields (.selfTestNow p a b) s fun u => s.Tested u a b)) ∧
   (∀ (s : State) (cap esr hold vbank : Nat), s.Powered →
     (s.m.pwrcOut = true ∨ s.m.pcRestarting = true → Does (.holdupMeasure cap esr hold vbank) s s.m) ∧
     (s.m.pwrcOut = false → s.m.pcRestarting = false → (∀ t, s.m.pwr.holdupAt = some t → t + 86400 * oneSecond ≤ s.m.absNow) → cap < 65536 → esr < 65536 →
       hold < 65536 → vbank < 65536 → Yields (.holdupMeasure cap esr hold vbank) s fun u =>
         u.m.get PWR_HOLDUP_CAP_UF = cap ∧ u.m.get PWR_HOLDUP_ESR_MOHM = esr ∧ u.m.get PWR_HOLDUP_HOLD_US = hold ∧
         u.m.get PWR_HOLDUP_VBANK = vbank ∧ u.m.pwr.holdLow = decide (hold < 3000) ∧ u.m.pwr.holdupAt = some s.m.absNow ∧
         u.locks = s.locks ∧ (s.Running → hold < 3000 → s.m.pwr.holdLow = false → u.m.flag ⟨.PWR_EVENT, 3, 1⟩ = true)))) ∧
  ((∀ (s : State) (c : Instr) (pages l : List Nat), s.Powered →
     (c, pages, l) ∈ ([(.capability, [0, 1, 2], [0xA0]), (.statusByte, [0, 1, 2], [s.m.pmWord % 256]),
       (.statusWord, [0, 1, 2], [s.m.pmWord % 256, s.m.pmWord / 256 % 256]), (.statusInput, [0, 1], [s.m.pmInput]),
       (.statusTemperature, [2], [s.m.pmTemp]), (.statusCml, [0, 1, 2], [s.m.pmCml]), (.statusMfrSpecific, [0, 1, 2], [s.m.pmMfr]),
       (.readVin, [0, 1], wordOctets (linear11 (s.m.get PWR_FEED_VIN s.m.pwr.page) 100)),
       (.readIin, [0, 1], wordOctets (linear11 (s.m.get PWR_FEED_IIN s.m.pwr.page) 1000)),
       (.readTemperature1, [2], wordOctets (linear11 (signed 16 (s.m.get AGE_TEMP_COLD_PLATE)) 10)),
       (.readTemperature2, [2], wordOctets (linear11 (signed 16 (s.m.get AGE_TEMP_TJ_MAX)) 10)),
       (.readPin, [0, 1, 2], wordOctets (linear11 s.m.pinOf 100000)), (.pmbusRevision, [0, 1, 2], [0x33]),
       (.mfrId, [0, 1, 2], [7, 0x44, 0x55, 0x4E, 0x51, 0x55, 0x45, 0x4C]),
       (.mfrModel, [0, 1, 2], orderingCode.length :: orderingCode.map BitVec.toNat),
       (.mfrRevision, [0, 1, 2], 2 :: (toBytes 2 (compVersion (lookupD s.m.upd.running 0 []))).map BitVec.toNat),
       (.mfrSerial, [0, 1, 2], Config.serial.length :: Config.serial.map BitVec.toNat),
       (.mfrFeedHealth, [0, 1], wordOctets ((s.m.healthShown s.m.pwr.page).toNat % 65536)),
       (.mfrHoldupUs, [2], wordOctets (s.m.get PWR_HOLDUP_HOLD_US))] : List (Instr × List Nat × List Nat)) →
     (s.m.pmbusUp = false → Does c s s.m) ∧
     (s.m.pmbusUp = true → s.m.pwr.page ∉ pages → Does c s (s.m.cmlSet 7)) ∧
     (s.m.pmbusUp = true → s.m.pwr.page ∈ pages → Does c s (s.m.answers l))) ∧
   (∀ (s : State) (v : BitVec 8), s.Powered →
     (s.m.pmbusUp = false → Does (.page (some v)) s s.m ∧ Does (.page none) s s.m ∧ Does .clearFaults s s.m ∧
       Does (.mfrFeedActive (some v)) s s.m ∧ Does (.mfrFeedActive none) s s.m ∧ ∀ why, Does (.invalidCommand why) s s.m) ∧
     (s.m.pmbusUp = true →
       Does (.page none) s (s.m.answers [s.m.pwr.page]) ∧
       (v.toNat ≤ 2 → Does (.page (some v)) s (s.m.withPwr { s.m.pwr with page := v.toNat })) ∧
       (2 < v.toNat → Does (.page (some v)) s (s.m.cmlSet 6)) ∧
       Does (.mfrFeedActive none) s (s.m.answers [s.m.activeFeed]) ∧
       (1 < v.toNat → Does (.mfrFeedActive (some v)) s (s.m.cmlSet 6)) ∧
       (v.toNat ≤ 1 → v.toNat = s.m.activeFeed → Does (.mfrFeedActive (some v)) s s.m) ∧
       (v.toNat ≤ 1 → v.toNat ≠ s.m.activeFeed → s.m.pwr.policy.getLsbD 3 = true → s.m.transferBar = 0 →
         Yields (.mfrFeedActive (some v)) s fun u => s.Transferred u 2) ∧
       (v.toNat ≤ 1 → v.toNat ≠ s.m.activeFeed → s.m.pwr.policy.getLsbD 3 = false →
         Does (.mfrFeedActive (some v)) s (s.m.pwrEvent 0x08 s.m.standbyFeed 4)) ∧
       (∀ why, Yields (.invalidCommand why) s fun u => u.m.pwr.cml.testBit
         (match why with | .undefined => 7 | .readOnly => 6 | .badPec => 5) = true ∧ u.m.pwr.page = s.m.pwr.page ∧ u.m.regs = s.m.regs) ∧
       (s.m.pcHold = true → Does .clearFaults s s.m) ∧
       (s.m.pcHold = false → Yields .clearFaults s fun u => u.m.pwr.cml = 0 ∧ u.m.regs = s.m.regs ∧ u.m.pwr.page = s.m.pwr.page ∧
         (s.m.pwr.page = 0 → u.m.pwr.inputA = s.m.inputNow 0 ∧ u.m.pwr.mfrA = s.m.mfrNow 0 ∧ u.m.pwr.inputB = s.m.pwr.inputB) ∧
         (s.m.pwr.page = 1 → u.m.pwr.inputB = s.m.inputNow 1 ∧ u.m.pwr.mfrB = s.m.mfrNow 1 ∧ u.m.pwr.inputA = s.m.pwr.inputA) ∧
         (s.m.pwr.page = 2 → u.m.pwr.temp = s.m.tempNow ∧ u.m.pwr.mfrM = s.m.mfrNow 2 ∧ u.m.pwr.inputA = s.m.pwr.inputA)))))

/-- An edge that finds its FIFO full is dropped, counted and told of once a second; records and INDEX stay in order. For an edge that the
capture unit of a TRIG_IN pin takes. When the FIFO holds 16 records or more, it and the pin's next INDEX stay as they are, DROPPED of the
pin rises by one (saturating at 255), and TRIG_OVERFLOW is raised (its bit of TRG_EVENT set, and noted for the pin) exactly when it was
not raised for this pin within the last second; otherwise no event is raised. When it holds fewer, the new record stands at the end behind
the others, unchanged, and carries the pin's next INDEX, which then rises by one modulo 65,536. (R507) -/
def Obligations.FullTriggerFifoDropsTheEdge : Prop :=
  ∀ (s : State) (pin : Fin 4) (rising : Bool) (ago key : Nat), s.Running → s.m.Captures pin.val rising → key = 0x40C0000 + pin.val →
    (16 ≤ (s.m.trigFifo pin.val).length → Yields (.trigEdge pin rising ago) s fun u =>
      u.m.pin.trig = s.m.pin.trig ∧ u.m.pin.index = s.m.pin.index ∧
      u.m.get ⟨.TRG_STATUS, 32 + 8 * pin.val, 8⟩ = Nat.min (s.m.get ⟨.TRG_STATUS, 32 + 8 * pin.val, 8⟩ + 1) 255 ∧
      (∀ t, lookup s.m.evt.lastRaised key = some t → s.m.now < t + oneSecond →
        u.m.evt = s.m.evt ∧ u.m.rd .TRG_EVENT 0 = s.m.rd .TRG_EVENT 0) ∧
      ((∀ t, lookup s.m.evt.lastRaised key = some t → t + oneSecond ≤ s.m.now) →
        u.m.flag ⟨.TRG_EVENT, 1, 1⟩ = true ∧ lookup u.m.evt.lastRaised key = some s.m.now)) ∧
    ((s.m.trigFifo pin.val).length < 16 → Yields (.trigEdge pin rising ago) s fun u =>
      (∃ x, u.m.trigFifo pin.val = s.m.trigFifo pin.val ++ [x] ∧ x.index = s.m.trigIndex pin.val) ∧
      u.m.trigIndex pin.val = (s.m.trigIndex pin.val + 1) % 65536 ∧
      (∀ k, k ≠ pin.val → u.m.trigFifo k = s.m.trigFifo k ∧ u.m.trigIndex k = s.m.trigIndex k))

/-- An edge is stamped, a pop takes the head it names, and a trigger output is assigned, kept, released or refused. An edge that the unit
does not take only changes the pin's level. One it takes into a FIFO with room is recorded with its polarity and its stamp: the network
time less the filter, DELAY_NS and the time the edge lies back; with EVT_EN the event is raised. A pop takes the head exactly when INDEX
is the head's, and otherwise counts STALE_POPS. TRG_OUT_CFG: another function than a non-zero one is refused with qualifier 1 and counted,
FUNC 2 or 3 on a slot of TYPE 0 with 4, and what is not refused is held. TRG_OUT_LEVEL holds its level on an ENGINE pin, and is refused
with 2 on another. (R505, R506, R509, R510) -/
def Obligations.TriggersAreCapturedPoppedAndDriven : Prop :=
  (∀ (s : State) (pin : Fin 4) (rising : Bool) (ago level : Nat), s.Running →
    level = (if rising then s.m.pin.trigIn ||| 2 ^ pin.val else s.m.pin.trigIn &&& (15 - 2 ^ pin.val)) →
    (¬ s.m.Captures pin.val rising → Does (.trigEdge pin rising ago) s (s.m.withPin { s.m.pin with trigIn := level })) ∧
    (s.m.Captures pin.val rising → (s.m.trigFifo pin.val).length < 16 → Yields (.trigEdge pin rising ago) s fun u =>
      u.m.pin.trigIn = level ∧ lookup u.m.pin.lastEdge pin.val = some s.m.now ∧ u.locks = s.locks ∧
      u.m.trigFifo pin.val = s.m.trigFifo pin.val ++ [({
          index := s.m.trigIndex pin.val, rising := rising,
          stamp := stampNet (s.m.time.net - ((4 * s.m.get TRG_IN_CFG_FILTER pin.val + s.m.get TRG_IN_CFG_DELAY_NS pin.val) * 4 + ago) *
            (unitsPerNs / 4)),
          usable := s.m.flag TIM_STATUS_USABLE } : TrigRec)] ∧
      (s.m.flag TRG_IN_CFG_EVT_EN pin.val = true → u.m.flag ⟨.TRG_EVENT, 0, 1⟩ = true))) ∧
  (∀ (s : State) (p : Path) (pin : Fin 4) (index : BitVec 16),
    s.Granted p .TRG_IN_POP pin.val pin.val (TRG_IN_POP_INDEX.put 0 index.toNat) →
    (∀ x l, s.m.trigFifo pin.val = x :: l → x.index = index.toNat → Yields (.trigPop p pin index) s fun u =>
      u.m.trigFifo pin.val = l ∧ (∀ k, k ≠ pin.val → u.m.trigFifo k = s.m.trigFifo k) ∧ u.m.pin.index = s.m.pin.index ∧
      u.m.regs = s.m.regs ∧ u.locks = s.locks) ∧
    (s.m.trigFifo pin.val = [] → Does (.trigPop p pin index) s (s.m.satAdd TRG_STATUS_STALE_POPS 0)) ∧
    (∀ x l, s.m.trigFifo pin.val = x :: l → x.index ≠ index.toNat →
      Does (.trigPop p pin index) s (s.m.satAdd TRG_STATUS_STALE_POPS 0))) ∧
  (∀ (s : State) (p : Path) (pin : Fin 4) (v new : Word) (f cur : Nat), s.Granted p .TRG_OUT_CFG pin.val pin.val v →
    new = (wholeWrite p .TRG_OUT_CFG pin.val v).onto (s.m.rd .TRG_OUT_CFG pin.val) → f = TRG_OUT_CFG_FUNC.of new →
    cur = s.m.get TRG_OUT_CFG_FUNC pin.val →
    (f ≠ 0 → cur ≠ 0 → f ≠ cur → Does (.trgOutCfgWrite p pin v) s ((s.m.satAdd TRG_STATUS_REFUSED_OUT 0).trigRefused pin.val 1)) ∧
    (f = 0 ∨ cur = 0 ∨ f = cur → f = 2 ∨ f = 3 → s.m.portType (TRG_OUT_CFG_PORT.of new) = 0 →
      Does (.trgOutCfgWrite p pin v) s (s.m.trigRefused pin.val 4)) ∧
    (f = 0 ∨ cur = 0 ∨ f = cur → (f ≠ 2 ∧ f ≠ 3) ∨ s.m.portType (TRG_OUT_CFG_PORT.of new) ≠ 0 →
      Yields (.trgOutCfgWrite p pin v) s fun u => u.m.rd .TRG_OUT_CFG pin.val = new ∧ (f = 0 → u.m.trigOut pin.val = false) ∧
        (∀ k, k < 4 → k ≠ pin.val → u.m.rd .TRG_OUT_CFG k = s.m.rd .TRG_OUT_CFG k) ∧ u.m.pin.trig = s.m.pin.trig ∧ u.locks = s.locks)) ∧
  (∀ (s : State) (p : Path) (pin : Fin 4) (level : Bool),
    s.Granted p .TRG_OUT_LEVEL pin.val pin.val (TRG_OUT_LEVEL_LEVEL.put 0 (if level then 1 else 0)) →
    (s.m.get TRG_OUT_CFG_FUNC pin.val = 4 → Yields (.trgOutLevelWrite p pin level) s fun u =>
      u.m.flag TRG_OUT_LEVEL_LEVEL pin.val = level ∧ u.m.trigOut pin.val = (level != u.m.flag TRG_OUT_CFG_INVERT pin.val) ∧
      u.m.pin = s.m.pin ∧ u.locks = s.locks) ∧
    (s.m.get TRG_OUT_CFG_FUNC pin.val ≠ 4 → Does (.trgOutLevelWrite p pin level) s (s.m.trigRefused pin.val 2)))

/-- The reset state is empty and has the fuse shadow locked, and no step ever unlocks it. At State.reset no command waits, the LOCK bits
are exactly that of the fuse shadow (group 1), the die runs, the SDRAM lists nothing and has its canonical form, no frame is held, no
thread runs, and every table and queue of the lookup, the buffer and the clusters is empty. From every state in which that LOCK bit is
set, a step (a start or reset of the module included) answers only states in which it is set. That State.reset stands at the end of step 3
of start-up is the model's choice (log 17). (R7, R363, R364, R365) -/
def Obligations.FuseShadowStaysLockedFromReset : Prop :=
  (State.reset.pending = [] ∧ State.reset.locks = 2#5 ∧ State.reset.Running ∧ Memory.wf State.reset.m.drm.mem = true ∧
    State.reset.m.drm.mem = [] ∧ State.reset.m.buf.frames = [] ∧ State.reset.m.eng.threads = [] ∧ State.reset.m.fwd.fdb = [] ∧
    State.reset.m.fwd.trie = [] ∧ State.reset.m.cls.rules = [] ∧ (∀ c j, c < 4 → j < 4 → (State.reset.m.cl c).queue j = [])) ∧
  (∀ s t : State, step s = .next t → s.locks.getLsbD 1 = true → t.locks.getLsbD 1 = true)
end

