-- ==== Sys2Proof/Laws/State.lean ====
section
/-! SUPPORT. What each part-wise update of the state leaves of each part: one lemma per part per update, by rfl. -/

namespace Sys2Proof.Machine

@[simp] theorem withTick_regs (m : Mod) (x : TickSt) : (m.withTick x).regs = m.regs := rfl
@[simp] theorem withTick_ctrs (m : Mod) (x : TickSt) : (m.withTick x).ctrs = m.ctrs := rfl
@[simp] theorem withTick_free (m : Mod) (x : TickSt) : (m.withTick x).free = m.free := rfl
@[simp] theorem withTick_tick (m : Mod) (x : TickSt) : (m.withTick x).tick = x := rfl
@[simp] theorem withTick_win (m : Mod) (x : TickSt) : (m.withTick x).win = m.win := rfl
@[simp] theorem withTick_time (m : Mod) (x : TickSt) : (m.withTick x).time = m.time := rfl
@[simp] theorem withTick_evt (m : Mod) (x : TickSt) : (m.withTick x).evt = m.evt := rfl
@[simp] theorem withTick_hdg (m : Mod) (x : TickSt) : (m.withTick x).hdg = m.hdg := rfl
@[simp] theorem withTick_drm (m : Mod) (x : TickSt) : (m.withTick x).drm = m.drm := rfl
@[simp] theorem withTick_eng (m : Mod) (x : TickSt) : (m.withTick x).eng = m.eng := rfl
@[simp] theorem withTick_prt (m : Mod) (x : TickSt) : (m.withTick x).prt = m.prt := rfl
@[simp] theorem withTick_cls (m : Mod) (x : TickSt) : (m.withTick x).cls = m.cls := rfl
@[simp] theorem withTick_fwd (m : Mod) (x : TickSt) : (m.withTick x).fwd = m.fwd := rfl
@[simp] theorem withTick_buf (m : Mod) (x : TickSt) : (m.withTick x).buf = m.buf := rfl
@[simp] theorem withTick_sch (m : Mod) (x : TickSt) : (m.withTick x).sch = m.sch := rfl
@[simp] theorem withTick_clp (m : Mod) (x : TickSt) : (m.withTick x).clp = m.clp := rfl
@[simp] theorem withTick_pin (m : Mod) (x : TickSt) : (m.withTick x).pin = m.pin := rfl
@[simp] theorem withTick_int (m : Mod) (x : TickSt) : (m.withTick x).int = m.int := rfl
@[simp] theorem withTick_pwr (m : Mod) (x : TickSt) : (m.withTick x).pwr = m.pwr := rfl
@[simp] theorem withTick_nvm (m : Mod) (x : TickSt) : (m.withTick x).nvm = m.nvm := rfl
@[simp] theorem withTick_upd (m : Mod) (x : TickSt) : (m.withTick x).upd = m.upd := rfl
@[simp] theorem withTick_boot (m : Mod) (x : TickSt) : (m.withTick x).boot = m.boot := rfl
@[simp] theorem withTick_dmp (m : Mod) (x : TickSt) : (m.withTick x).dmp = m.dmp := rfl
@[simp] theorem withTick_arm (m : Mod) (x : TickSt) : (m.withTick x).arm = m.arm := rfl

@[simp] theorem withWin_regs (m : Mod) (x : WinSt) : (m.withWin x).regs = m.regs := rfl
@[simp] theorem withWin_ctrs (m : Mod) (x : WinSt) : (m.withWin x).ctrs = m.ctrs := rfl
@[simp] theorem withWin_free (m : Mod) (x : WinSt) : (m.withWin x).free = m.free := rfl
@[simp] theorem withWin_tick (m : Mod) (x : WinSt) : (m.withWin x).tick = m.tick := rfl
@[simp] theorem withWin_win (m : Mod) (x : WinSt) : (m.withWin x).win = x := rfl
@[simp] theorem withWin_time (m : Mod) (x : WinSt) : (m.withWin x).time = m.time := rfl
@[simp] theorem withWin_evt (m : Mod) (x : WinSt) : (m.withWin x).evt = m.evt := rfl
@[simp] theorem withWin_hdg (m : Mod) (x : WinSt) : (m.withWin x).hdg = m.hdg := rfl
@[simp] theorem withWin_drm (m : Mod) (x : WinSt) : (m.withWin x).drm = m.drm := rfl
@[simp] theorem withWin_eng (m : Mod) (x : WinSt) : (m.withWin x).eng = m.eng := rfl
@[simp] theorem withWin_prt (m : Mod) (x : WinSt) : (m.withWin x).prt = m.prt := rfl
@[simp] theorem withWin_cls (m : Mod) (x : WinSt) : (m.withWin x).cls = m.cls := rfl
@[simp] theorem withWin_fwd (m : Mod) (x : WinSt) : (m.withWin x).fwd = m.fwd := rfl
@[simp] theorem withWin_buf (m : Mod) (x : WinSt) : (m.withWin x).buf = m.buf := rfl
@[simp] theorem withWin_sch (m : Mod) (x : WinSt) : (m.withWin x).sch = m.sch := rfl
@[simp] theorem withWin_clp (m : Mod) (x : WinSt) : (m.withWin x).clp = m.clp := rfl
@[simp] theorem withWin_pin (m : Mod) (x : WinSt) : (m.withWin x).pin = m.pin := rfl
@[simp] theorem withWin_int (m : Mod) (x : WinSt) : (m.withWin x).int = m.int := rfl
@[simp] theorem withWin_pwr (m : Mod) (x : WinSt) : (m.withWin x).pwr = m.pwr := rfl
@[simp] theorem withWin_nvm (m : Mod) (x : WinSt) : (m.withWin x).nvm = m.nvm := rfl
@[simp] theorem withWin_upd (m : Mod) (x : WinSt) : (m.withWin x).upd = m.upd := rfl
@[simp] theorem withWin_boot (m : Mod) (x : WinSt) : (m.withWin x).boot = m.boot := rfl
@[simp] theorem withWin_dmp (m : Mod) (x : WinSt) : (m.withWin x).dmp = m.dmp := rfl
@[simp] theorem withWin_arm (m : Mod) (x : WinSt) : (m.withWin x).arm = m.arm := rfl

@[simp] theorem withTime_regs (m : Mod) (x : TimeSt) : (m.withTime x).regs = m.regs := rfl
@[simp] theorem withTime_ctrs (m : Mod) (x : TimeSt) : (m.withTime x).ctrs = m.ctrs := rfl
@[simp] theorem withTime_free (m : Mod) (x : TimeSt) : (m.withTime x).free = m.free := rfl
@[simp] theorem withTime_tick (m : Mod) (x : TimeSt) : (m.withTime x).tick = m.tick := rfl
@[simp] theorem withTime_win (m : Mod) (x : TimeSt) : (m.withTime x).win = m.win := rfl
@[simp] theorem withTime_time (m : Mod) (x : TimeSt) : (m.withTime x).time = x := rfl
@[simp] theorem withTime_evt (m : Mod) (x : TimeSt) : (m.withTime x).evt = m.evt := rfl
@[simp] theorem withTime_hdg (m : Mod) (x : TimeSt) : (m.withTime x).hdg = m.hdg := rfl
@[simp] theorem withTime_drm (m : Mod) (x : TimeSt) : (m.withTime x).drm = m.drm := rfl
@[simp] theorem withTime_eng (m : Mod) (x : TimeSt) : (m.withTime x).eng = m.eng := rfl
@[simp] theorem withTime_prt (m : Mod) (x : TimeSt) : (m.withTime x).prt = m.prt := rfl
@[simp] theorem withTime_cls (m : Mod) (x : TimeSt) : (m.withTime x).cls = m.cls := rfl
@[simp] theorem withTime_fwd (m : Mod) (x : TimeSt) : (m.withTime x).fwd = m.fwd := rfl
@[simp] theorem withTime_buf (m : Mod) (x : TimeSt) : (m.withTime x).buf = m.buf := rfl
@[simp] theorem withTime_sch (m : Mod) (x : TimeSt) : (m.withTime x).sch = m.sch := rfl
@[simp] theorem withTime_clp (m : Mod) (x : TimeSt) : (m.withTime x).clp = m.clp := rfl
@[simp] theorem withTime_pin (m : Mod) (x : TimeSt) : (m.withTime x).pin = m.pin := rfl
@[simp] theorem withTime_int (m : Mod) (x : TimeSt) : (m.withTime x).int = m.int := rfl
@[simp] theorem withTime_pwr (m : Mod) (x : TimeSt) : (m.withTime x).pwr = m.pwr := rfl
@[simp] theorem withTime_nvm (m : Mod) (x : TimeSt) : (m.withTime x).nvm = m.nvm := rfl
@[simp] theorem withTime_upd (m : Mod) (x : TimeSt) : (m.withTime x).upd = m.upd := rfl
@[simp] theorem withTime_boot (m : Mod) (x : TimeSt) : (m.withTime x).boot = m.boot := rfl
@[simp] theorem withTime_dmp (m : Mod) (x : TimeSt) : (m.withTime x).dmp = m.dmp := rfl
@[simp] theorem withTime_arm (m : Mod) (x : TimeSt) : (m.withTime x).arm = m.arm := rfl

@[simp] theorem withEvt_regs (m : Mod) (x : EvtSt) : (m.withEvt x).regs = m.regs := rfl
@[simp] theorem withEvt_ctrs (m : Mod) (x : EvtSt) : (m.withEvt x).ctrs = m.ctrs := rfl
@[simp] theorem withEvt_free (m : Mod) (x : EvtSt) : (m.withEvt x).free = m.free := rfl
@[simp] theorem withEvt_tick (m : Mod) (x : EvtSt) : (m.withEvt x).tick = m.tick := rfl
@[simp] theorem withEvt_win (m : Mod) (x : EvtSt) : (m.withEvt x).win = m.win := rfl
@[simp] theorem withEvt_time (m : Mod) (x : EvtSt) : (m.withEvt x).time = m.time := rfl
@[simp] theorem withEvt_evt (m : Mod) (x : EvtSt) : (m.withEvt x).evt = x := rfl
@[simp] theorem withEvt_hdg (m : Mod) (x : EvtSt) : (m.withEvt x).hdg = m.hdg := rfl
@[simp] theorem withEvt_drm (m : Mod) (x : EvtSt) : (m.withEvt x).drm = m.drm := rfl
@[simp] theorem withEvt_eng (m : Mod) (x : EvtSt) : (m.withEvt x).eng = m.eng := rfl
@[simp] theorem withEvt_prt (m : Mod) (x : EvtSt) : (m.withEvt x).prt = m.prt := rfl
@[simp] theorem withEvt_cls (m : Mod) (x : EvtSt) : (m.withEvt x).cls = m.cls := rfl
@[simp] theorem withEvt_fwd (m : Mod) (x : EvtSt) : (m.withEvt x).fwd = m.fwd := rfl
@[simp] theorem withEvt_buf (m : Mod) (x : EvtSt) : (m.withEvt x).buf = m.buf := rfl
@[simp] theorem withEvt_sch (m : Mod) (x : EvtSt) : (m.withEvt x).sch = m.sch := rfl
@[simp] theorem withEvt_clp (m : Mod) (x : EvtSt) : (m.withEvt x).clp = m.clp := rfl
@[simp] theorem withEvt_pin (m : Mod) (x : EvtSt) : (m.withEvt x).pin = m.pin := rfl
@[simp] theorem withEvt_int (m : Mod) (x : EvtSt) : (m.withEvt x).int = m.int := rfl
@[simp] theorem withEvt_pwr (m : Mod) (x : EvtSt) : (m.withEvt x).pwr = m.pwr := rfl
@[simp] theorem withEvt_nvm (m : Mod) (x : EvtSt) : (m.withEvt x).nvm = m.nvm := rfl
@[simp] theorem withEvt_upd (m : Mod) (x : EvtSt) : (m.withEvt x).upd = m.upd := rfl
@[simp] theorem withEvt_boot (m : Mod) (x : EvtSt) : (m.withEvt x).boot = m.boot := rfl
@[simp] theorem withEvt_dmp (m : Mod) (x : EvtSt) : (m.withEvt x).dmp = m.dmp := rfl
@[simp] theorem withEvt_arm (m : Mod) (x : EvtSt) : (m.withEvt x).arm = m.arm := rfl

@[simp] theorem withHdg_regs (m : Mod) (x : HdgSt) : (m.withHdg x).regs = m.regs := rfl
@[simp] theorem withHdg_ctrs (m : Mod) (x : HdgSt) : (m.withHdg x).ctrs = m.ctrs := rfl
@[simp] theorem withHdg_free (m : Mod) (x : HdgSt) : (m.withHdg x).free = m.free := rfl
@[simp] theorem withHdg_tick (m : Mod) (x : HdgSt) : (m.withHdg x).tick = m.tick := rfl
@[simp] theorem withHdg_win (m : Mod) (x : HdgSt) : (m.withHdg x).win = m.win := rfl
@[simp] theorem withHdg_time (m : Mod) (x : HdgSt) : (m.withHdg x).time = m.time := rfl
@[simp] theorem withHdg_evt (m : Mod) (x : HdgSt) : (m.withHdg x).evt = m.evt := rfl
@[simp] theorem withHdg_hdg (m : Mod) (x : HdgSt) : (m.withHdg x).hdg = x := rfl
@[simp] theorem withHdg_drm (m : Mod) (x : HdgSt) : (m.withHdg x).drm = m.drm := rfl
@[simp] theorem withHdg_eng (m : Mod) (x : HdgSt) : (m.withHdg x).eng = m.eng := rfl
@[simp] theorem withHdg_prt (m : Mod) (x : HdgSt) : (m.withHdg x).prt = m.prt := rfl
@[simp] theorem withHdg_cls (m : Mod) (x : HdgSt) : (m.withHdg x).cls = m.cls := rfl
@[simp] theorem withHdg_fwd (m : Mod) (x : HdgSt) : (m.withHdg x).fwd = m.fwd := rfl
@[simp] theorem withHdg_buf (m : Mod) (x : HdgSt) : (m.withHdg x).buf = m.buf := rfl
@[simp] theorem withHdg_sch (m : Mod) (x : HdgSt) : (m.withHdg x).sch = m.sch := rfl
@[simp] theorem withHdg_clp (m : Mod) (x : HdgSt) : (m.withHdg x).clp = m.clp := rfl
@[simp] theorem withHdg_pin (m : Mod) (x : HdgSt) : (m.withHdg x).pin = m.pin := rfl
@[simp] theorem withHdg_int (m : Mod) (x : HdgSt) : (m.withHdg x).int = m.int := rfl
@[simp] theorem withHdg_pwr (m : Mod) (x : HdgSt) : (m.withHdg x).pwr = m.pwr := rfl
@[simp] theorem withHdg_nvm (m : Mod) (x : HdgSt) : (m.withHdg x).nvm = m.nvm := rfl
@[simp] theorem withHdg_upd (m : Mod) (x : HdgSt) : (m.withHdg x).upd = m.upd := rfl
@[simp] theorem withHdg_boot (m : Mod) (x : HdgSt) : (m.withHdg x).boot = m.boot := rfl
@[simp] theorem withHdg_dmp (m : Mod) (x : HdgSt) : (m.withHdg x).dmp = m.dmp := rfl
@[simp] theorem withHdg_arm (m : Mod) (x : HdgSt) : (m.withHdg x).arm = m.arm := rfl

@[simp] theorem withDrm_regs (m : Mod) (x : DrmSt) : (m.withDrm x).regs = m.regs := rfl
@[simp] theorem withDrm_ctrs (m : Mod) (x : DrmSt) : (m.withDrm x).ctrs = m.ctrs := rfl
@[simp] theorem withDrm_free (m : Mod) (x : DrmSt) : (m.withDrm x).free = m.free := rfl
@[simp] theorem withDrm_tick (m : Mod) (x : DrmSt) : (m.withDrm x).tick = m.tick := rfl
@[simp] theorem withDrm_win (m : Mod) (x : DrmSt) : (m.withDrm x).win = m.win := rfl
@[simp] theorem withDrm_time (m : Mod) (x : DrmSt) : (m.withDrm x).time = m.time := rfl
@[simp] theorem withDrm_evt (m : Mod) (x : DrmSt) : (m.withDrm x).evt = m.evt := rfl
@[simp] theorem withDrm_hdg (m : Mod) (x : DrmSt) : (m.withDrm x).hdg = m.hdg := rfl
@[simp] theorem withDrm_drm (m : Mod) (x : DrmSt) : (m.withDrm x).drm = x := rfl
@[simp] theorem withDrm_eng (m : Mod) (x : DrmSt) : (m.withDrm x).eng = m.eng := rfl
@[simp] theorem withDrm_prt (m : Mod) (x : DrmSt) : (m.withDrm x).prt = m.prt := rfl
@[simp] theorem withDrm_cls (m : Mod) (x : DrmSt) : (m.withDrm x).cls = m.cls := rfl
@[simp] theorem withDrm_fwd (m : Mod) (x : DrmSt) : (m.withDrm x).fwd = m.fwd := rfl
@[simp] theorem withDrm_buf (m : Mod) (x : DrmSt) : (m.withDrm x).buf = m.buf := rfl
@[simp] theorem withDrm_sch (m : Mod) (x : DrmSt) : (m.withDrm x).sch = m.sch := rfl
@[simp] theorem withDrm_clp (m : Mod) (x : DrmSt) : (m.withDrm x).clp = m.clp := rfl
@[simp] theorem withDrm_pin (m : Mod) (x : DrmSt) : (m.withDrm x).pin = m.pin := rfl
@[simp] theorem withDrm_int (m : Mod) (x : DrmSt) : (m.withDrm x).int = m.int := rfl
@[simp] theorem withDrm_pwr (m : Mod) (x : DrmSt) : (m.withDrm x).pwr = m.pwr := rfl
@[simp] theorem withDrm_nvm (m : Mod) (x : DrmSt) : (m.withDrm x).nvm = m.nvm := rfl
@[simp] theorem withDrm_upd (m : Mod) (x : DrmSt) : (m.withDrm x).upd = m.upd := rfl
@[simp] theorem withDrm_boot (m : Mod) (x : DrmSt) : (m.withDrm x).boot = m.boot := rfl
@[simp] theorem withDrm_dmp (m : Mod) (x : DrmSt) : (m.withDrm x).dmp = m.dmp := rfl
@[simp] theorem withDrm_arm (m : Mod) (x : DrmSt) : (m.withDrm x).arm = m.arm := rfl

@[simp] theorem withEng_regs (m : Mod) (x : EngSt) : (m.withEng x).regs = m.regs := rfl
@[simp] theorem withEng_ctrs (m : Mod) (x : EngSt) : (m.withEng x).ctrs = m.ctrs := rfl
@[simp] theorem withEng_free (m : Mod) (x : EngSt) : (m.withEng x).free = m.free := rfl
@[simp] theorem withEng_tick (m : Mod) (x : EngSt) : (m.withEng x).tick = m.tick := rfl
@[simp] theorem withEng_win (m : Mod) (x : EngSt) : (m.withEng x).win = m.win := rfl
@[simp] theorem withEng_time (m : Mod) (x : EngSt) : (m.withEng x).time = m.time := rfl
@[simp] theorem withEng_evt (m : Mod) (x : EngSt) : (m.withEng x).evt = m.evt := rfl
@[simp] theorem withEng_hdg (m : Mod) (x : EngSt) : (m.withEng x).hdg = m.hdg := rfl
@[simp] theorem withEng_drm (m : Mod) (x : EngSt) : (m.withEng x).drm = m.drm := rfl
@[simp] theorem withEng_eng (m : Mod) (x : EngSt) : (m.withEng x).eng = x := rfl
@[simp] theorem withEng_prt (m : Mod) (x : EngSt) : (m.withEng x).prt = m.prt := rfl
@[simp] theorem withEng_cls (m : Mod) (x : EngSt) : (m.withEng x).cls = m.cls := rfl
@[simp] theorem withEng_fwd (m : Mod) (x : EngSt) : (m.withEng x).fwd = m.fwd := rfl
@[simp] theorem withEng_buf (m : Mod) (x : EngSt) : (m.withEng x).buf = m.buf := rfl
@[simp] theorem withEng_sch (m : Mod) (x : EngSt) : (m.withEng x).sch = m.sch := rfl
@[simp] theorem withEng_clp (m : Mod) (x : EngSt) : (m.withEng x).clp = m.clp := rfl
@[simp] theorem withEng_pin (m : Mod) (x : EngSt) : (m.withEng x).pin = m.pin := rfl
@[simp] theorem withEng_int (m : Mod) (x : EngSt) : (m.withEng x).int = m.int := rfl
@[simp] theorem withEng_pwr (m : Mod) (x : EngSt) : (m.withEng x).pwr = m.pwr := rfl
@[simp] theorem withEng_nvm (m : Mod) (x : EngSt) : (m.withEng x).nvm = m.nvm := rfl
@[simp] theorem withEng_upd (m : Mod) (x : EngSt) : (m.withEng x).upd = m.upd := rfl
@[simp] theorem withEng_boot (m : Mod) (x : EngSt) : (m.withEng x).boot = m.boot := rfl
@[simp] theorem withEng_dmp (m : Mod) (x : EngSt) : (m.withEng x).dmp = m.dmp := rfl
@[simp] theorem withEng_arm (m : Mod) (x : EngSt) : (m.withEng x).arm = m.arm := rfl

@[simp] theorem withPrt_regs (m : Mod) (x : PrtSt) : (m.withPrt x).regs = m.regs := rfl
@[simp] theorem withPrt_ctrs (m : Mod) (x : PrtSt) : (m.withPrt x).ctrs = m.ctrs := rfl
@[simp] theorem withPrt_free (m : Mod) (x : PrtSt) : (m.withPrt x).free = m.free := rfl
@[simp] theorem withPrt_tick (m : Mod) (x : PrtSt) : (m.withPrt x).tick = m.tick := rfl
@[simp] theorem withPrt_win (m : Mod) (x : PrtSt) : (m.withPrt x).win = m.win := rfl
@[simp] theorem withPrt_time (m : Mod) (x : PrtSt) : (m.withPrt x).time = m.time := rfl
@[simp] theorem withPrt_evt (m : Mod) (x : PrtSt) : (m.withPrt x).evt = m.evt := rfl
@[simp] theorem withPrt_hdg (m : Mod) (x : PrtSt) : (m.withPrt x).hdg = m.hdg := rfl
@[simp] theorem withPrt_drm (m : Mod) (x : PrtSt) : (m.withPrt x).drm = m.drm := rfl
@[simp] theorem withPrt_eng (m : Mod) (x : PrtSt) : (m.withPrt x).eng = m.eng := rfl
@[simp] theorem withPrt_prt (m : Mod) (x : PrtSt) : (m.withPrt x).prt = x := rfl
@[simp] theorem withPrt_cls (m : Mod) (x : PrtSt) : (m.withPrt x).cls = m.cls := rfl
@[simp] theorem withPrt_fwd (m : Mod) (x : PrtSt) : (m.withPrt x).fwd = m.fwd := rfl
@[simp] theorem withPrt_buf (m : Mod) (x : PrtSt) : (m.withPrt x).buf = m.buf := rfl
@[simp] theorem withPrt_sch (m : Mod) (x : PrtSt) : (m.withPrt x).sch = m.sch := rfl
@[simp] theorem withPrt_clp (m : Mod) (x : PrtSt) : (m.withPrt x).clp = m.clp := rfl
@[simp] theorem withPrt_pin (m : Mod) (x : PrtSt) : (m.withPrt x).pin = m.pin := rfl
@[simp] theorem withPrt_int (m : Mod) (x : PrtSt) : (m.withPrt x).int = m.int := rfl
@[simp] theorem withPrt_pwr (m : Mod) (x : PrtSt) : (m.withPrt x).pwr = m.pwr := rfl
@[simp] theorem withPrt_nvm (m : Mod) (x : PrtSt) : (m.withPrt x).nvm = m.nvm := rfl
@[simp] theorem withPrt_upd (m : Mod) (x : PrtSt) : (m.withPrt x).upd = m.upd := rfl
@[simp] theorem withPrt_boot (m : Mod) (x : PrtSt) : (m.withPrt x).boot = m.boot := rfl
@[simp] theorem withPrt_dmp (m : Mod) (x : PrtSt) : (m.withPrt x).dmp = m.dmp := rfl
@[simp] theorem withPrt_arm (m : Mod) (x : PrtSt) : (m.withPrt x).arm = m.arm := rfl

@[simp] theorem withCls_regs (m : Mod) (x : ClsSt) : (m.withCls x).regs = m.regs := rfl
@[simp] theorem withCls_ctrs (m : Mod) (x : ClsSt) : (m.withCls x).ctrs = m.ctrs := rfl
@[simp] theorem withCls_free (m : Mod) (x : ClsSt) : (m.withCls x).free = m.free := rfl
@[simp] theorem withCls_tick (m : Mod) (x : ClsSt) : (m.withCls x).tick = m.tick := rfl
@[simp] theorem withCls_win (m : Mod) (x : ClsSt) : (m.withCls x).win = m.win := rfl
@[simp] theorem withCls_time (m : Mod) (x : ClsSt) : (m.withCls x).time = m.time := rfl
@[simp] theorem withCls_evt (m : Mod) (x : ClsSt) : (m.withCls x).evt = m.evt := rfl
@[simp] theorem withCls_hdg (m : Mod) (x : ClsSt) : (m.withCls x).hdg = m.hdg := rfl
@[simp] theorem withCls_drm (m : Mod) (x : ClsSt) : (m.withCls x).drm = m.drm := rfl
@[simp] theorem withCls_eng (m : Mod) (x : ClsSt) : (m.withCls x).eng = m.eng := rfl
@[simp] theorem withCls_prt (m : Mod) (x : ClsSt) : (m.withCls x).prt = m.prt := rfl
@[simp] theorem withCls_cls (m : Mod) (x : ClsSt) : (m.withCls x).cls = x := rfl
@[simp] theorem withCls_fwd (m : Mod) (x : ClsSt) : (m.withCls x).fwd = m.fwd := rfl
@[simp] theorem withCls_buf (m : Mod) (x : ClsSt) : (m.withCls x).buf = m.buf := rfl
@[simp] theorem withCls_sch (m : Mod) (x : ClsSt) : (m.withCls x).sch = m.sch := rfl
@[simp] theorem withCls_clp (m : Mod) (x : ClsSt) : (m.withCls x).clp = m.clp := rfl
@[simp] theorem withCls_pin (m : Mod) (x : ClsSt) : (m.withCls x).pin = m.pin := rfl
@[simp] theorem withCls_int (m : Mod) (x : ClsSt) : (m.withCls x).int = m.int := rfl
@[simp] theorem withCls_pwr (m : Mod) (x : ClsSt) : (m.withCls x).pwr = m.pwr := rfl
@[simp] theorem withCls_nvm (m : Mod) (x : ClsSt) : (m.withCls x).nvm = m.nvm := rfl
@[simp] theorem withCls_upd (m : Mod) (x : ClsSt) : (m.withCls x).upd = m.upd := rfl
@[simp] theorem withCls_boot (m : Mod) (x : ClsSt) : (m.withCls x).boot = m.boot := rfl
@[simp] theorem withCls_dmp (m : Mod) (x : ClsSt) : (m.withCls x).dmp = m.dmp := rfl
@[simp] theorem withCls_arm (m : Mod) (x : ClsSt) : (m.withCls x).arm = m.arm := rfl

@[simp] theorem withFwd_regs (m : Mod) (x : FwdSt) : (m.withFwd x).regs = m.regs := rfl
@[simp] theorem withFwd_ctrs (m : Mod) (x : FwdSt) : (m.withFwd x).ctrs = m.ctrs := rfl
@[simp] theorem withFwd_free (m : Mod) (x : FwdSt) : (m.withFwd x).free = m.free := rfl
@[simp] theorem withFwd_tick (m : Mod) (x : FwdSt) : (m.withFwd x).tick = m.tick := rfl
@[simp] theorem withFwd_win (m : Mod) (x : FwdSt) : (m.withFwd x).win = m.win := rfl
@[simp] theorem withFwd_time (m : Mod) (x : FwdSt) : (m.withFwd x).time = m.time := rfl
@[simp] theorem withFwd_evt (m : Mod) (x : FwdSt) : (m.withFwd x).evt = m.evt := rfl
@[simp] theorem withFwd_hdg (m : Mod) (x : FwdSt) : (m.withFwd x).hdg = m.hdg := rfl
@[simp] theorem withFwd_drm (m : Mod) (x : FwdSt) : (m.withFwd x).drm = m.drm := rfl
@[simp] theorem withFwd_eng (m : Mod) (x : FwdSt) : (m.withFwd x).eng = m.eng := rfl
@[simp] theorem withFwd_prt (m : Mod) (x : FwdSt) : (m.withFwd x).prt = m.prt := rfl
@[simp] theorem withFwd_cls (m : Mod) (x : FwdSt) : (m.withFwd x).cls = m.cls := rfl
@[simp] theorem withFwd_fwd (m : Mod) (x : FwdSt) : (m.withFwd x).fwd = x := rfl
@[simp] theorem withFwd_buf (m : Mod) (x : FwdSt) : (m.withFwd x).buf = m.buf := rfl
@[simp] theorem withFwd_sch (m : Mod) (x : FwdSt) : (m.withFwd x).sch = m.sch := rfl
@[simp] theorem withFwd_clp (m : Mod) (x : FwdSt) : (m.withFwd x).clp = m.clp := rfl
@[simp] theorem withFwd_pin (m : Mod) (x : FwdSt) : (m.withFwd x).pin = m.pin := rfl
@[simp] theorem withFwd_int (m : Mod) (x : FwdSt) : (m.withFwd x).int = m.int := rfl
@[simp] theorem withFwd_pwr (m : Mod) (x : FwdSt) : (m.withFwd x).pwr = m.pwr := rfl
@[simp] theorem withFwd_nvm (m : Mod) (x : FwdSt) : (m.withFwd x).nvm = m.nvm := rfl
@[simp] theorem withFwd_upd (m : Mod) (x : FwdSt) : (m.withFwd x).upd = m.upd := rfl
@[simp] theorem withFwd_boot (m : Mod) (x : FwdSt) : (m.withFwd x).boot = m.boot := rfl
@[simp] theorem withFwd_dmp (m : Mod) (x : FwdSt) : (m.withFwd x).dmp = m.dmp := rfl
@[simp] theorem withFwd_arm (m : Mod) (x : FwdSt) : (m.withFwd x).arm = m.arm := rfl

@[simp] theorem withBuf_regs (m : Mod) (x : BufSt) : (m.withBuf x).regs = m.regs := rfl
@[simp] theorem withBuf_ctrs (m : Mod) (x : BufSt) : (m.withBuf x).ctrs = m.ctrs := rfl
@[simp] theorem withBuf_free (m : Mod) (x : BufSt) : (m.withBuf x).free = m.free := rfl
@[simp] theorem withBuf_tick (m : Mod) (x : BufSt) : (m.withBuf x).tick = m.tick := rfl
@[simp] theorem withBuf_win (m : Mod) (x : BufSt) : (m.withBuf x).win = m.win := rfl
@[simp] theorem withBuf_time (m : Mod) (x : BufSt) : (m.withBuf x).time = m.time := rfl
@[simp] theorem withBuf_evt (m : Mod) (x : BufSt) : (m.withBuf x).evt = m.evt := rfl
@[simp] theorem withBuf_hdg (m : Mod) (x : BufSt) : (m.withBuf x).hdg = m.hdg := rfl
@[simp] theorem withBuf_drm (m : Mod) (x : BufSt) : (m.withBuf x).drm = m.drm := rfl
@[simp] theorem withBuf_eng (m : Mod) (x : BufSt) : (m.withBuf x).eng = m.eng := rfl
@[simp] theorem withBuf_prt (m : Mod) (x : BufSt) : (m.withBuf x).prt = m.prt := rfl
@[simp] theorem withBuf_cls (m : Mod) (x : BufSt) : (m.withBuf x).cls = m.cls := rfl
@[simp] theorem withBuf_fwd (m : Mod) (x : BufSt) : (m.withBuf x).fwd = m.fwd := rfl
@[simp] theorem withBuf_buf (m : Mod) (x : BufSt) : (m.withBuf x).buf = x := rfl
@[simp] theorem withBuf_sch (m : Mod) (x : BufSt) : (m.withBuf x).sch = m.sch := rfl
@[simp] theorem withBuf_clp (m : Mod) (x : BufSt) : (m.withBuf x).clp = m.clp := rfl
@[simp] theorem withBuf_pin (m : Mod) (x : BufSt) : (m.withBuf x).pin = m.pin := rfl
@[simp] theorem withBuf_int (m : Mod) (x : BufSt) : (m.withBuf x).int = m.int := rfl
@[simp] theorem withBuf_pwr (m : Mod) (x : BufSt) : (m.withBuf x).pwr = m.pwr := rfl
@[simp] theorem withBuf_nvm (m : Mod) (x : BufSt) : (m.withBuf x).nvm = m.nvm := rfl
@[simp] theorem withBuf_upd (m : Mod) (x : BufSt) : (m.withBuf x).upd = m.upd := rfl
@[simp] theorem withBuf_boot (m : Mod) (x : BufSt) : (m.withBuf x).boot = m.boot := rfl
@[simp] theorem withBuf_dmp (m : Mod) (x : BufSt) : (m.withBuf x).dmp = m.dmp := rfl
@[simp] theorem withBuf_arm (m : Mod) (x : BufSt) : (m.withBuf x).arm = m.arm := rfl

@[simp] theorem withSch_regs (m : Mod) (x : SchSt) : (m.withSch x).regs = m.regs := rfl
@[simp] theorem withSch_ctrs (m : Mod) (x : SchSt) : (m.withSch x).ctrs = m.ctrs := rfl
@[simp] theorem withSch_free (m : Mod) (x : SchSt) : (m.withSch x).free = m.free := rfl
@[simp] theorem withSch_tick (m : Mod) (x : SchSt) : (m.withSch x).tick = m.tick := rfl
@[simp] theorem withSch_win (m : Mod) (x : SchSt) : (m.withSch x).win = m.win := rfl
@[simp] theorem withSch_time (m : Mod) (x : SchSt) : (m.withSch x).time = m.time := rfl
@[simp] theorem withSch_evt (m : Mod) (x : SchSt) : (m.withSch x).evt = m.evt := rfl
@[simp] theorem withSch_hdg (m : Mod) (x : SchSt) : (m.withSch x).hdg = m.hdg := rfl
@[simp] theorem withSch_drm (m : Mod) (x : SchSt) : (m.withSch x).drm = m.drm := rfl
@[simp] theorem withSch_eng (m : Mod) (x : SchSt) : (m.withSch x).eng = m.eng := rfl
@[simp] theorem withSch_prt (m : Mod) (x : SchSt) : (m.withSch x).prt = m.prt := rfl
@[simp] theorem withSch_cls (m : Mod) (x : SchSt) : (m.withSch x).cls = m.cls := rfl
@[simp] theorem withSch_fwd (m : Mod) (x : SchSt) : (m.withSch x).fwd = m.fwd := rfl
@[simp] theorem withSch_buf (m : Mod) (x : SchSt) : (m.withSch x).buf = m.buf := rfl
@[simp] theorem withSch_sch (m : Mod) (x : SchSt) : (m.withSch x).sch = x := rfl
@[simp] theorem withSch_clp (m : Mod) (x : SchSt) : (m.withSch x).clp = m.clp := rfl
@[simp] theorem withSch_pin (m : Mod) (x : SchSt) : (m.withSch x).pin = m.pin := rfl
@[simp] theorem withSch_int (m : Mod) (x : SchSt) : (m.withSch x).int = m.int := rfl
@[simp] theorem withSch_pwr (m : Mod) (x : SchSt) : (m.withSch x).pwr = m.pwr := rfl
@[simp] theorem withSch_nvm (m : Mod) (x : SchSt) : (m.withSch x).nvm = m.nvm := rfl
@[simp] theorem withSch_upd (m : Mod) (x : SchSt) : (m.withSch x).upd = m.upd := rfl
@[simp] theorem withSch_boot (m : Mod) (x : SchSt) : (m.withSch x).boot = m.boot := rfl
@[simp] theorem withSch_dmp (m : Mod) (x : SchSt) : (m.withSch x).dmp = m.dmp := rfl
@[simp] theorem withSch_arm (m : Mod) (x : SchSt) : (m.withSch x).arm = m.arm := rfl

@[simp] theorem withClp_regs (m : Mod) (x : ClpSt) : (m.withClp x).regs = m.regs := rfl
@[simp] theorem withClp_ctrs (m : Mod) (x : ClpSt) : (m.withClp x).ctrs = m.ctrs := rfl
@[simp] theorem withClp_free (m : Mod) (x : ClpSt) : (m.withClp x).free = m.free := rfl
@[simp] theorem withClp_tick (m : Mod) (x : ClpSt) : (m.withClp x).tick = m.tick := rfl
@[simp] theorem withClp_win (m : Mod) (x : ClpSt) : (m.withClp x).win = m.win := rfl
@[simp] theorem withClp_time (m : Mod) (x : ClpSt) : (m.withClp x).time = m.time := rfl
@[simp] theorem withClp_evt (m : Mod) (x : ClpSt) : (m.withClp x).evt = m.evt := rfl
@[simp] theorem withClp_hdg (m : Mod) (x : ClpSt) : (m.withClp x).hdg = m.hdg := rfl
@[simp] theorem withClp_drm (m : Mod) (x : ClpSt) : (m.withClp x).drm = m.drm := rfl
@[simp] theorem withClp_eng (m : Mod) (x : ClpSt) : (m.withClp x).eng = m.eng := rfl
@[simp] theorem withClp_prt (m : Mod) (x : ClpSt) : (m.withClp x).prt = m.prt := rfl
@[simp] theorem withClp_cls (m : Mod) (x : ClpSt) : (m.withClp x).cls = m.cls := rfl
@[simp] theorem withClp_fwd (m : Mod) (x : ClpSt) : (m.withClp x).fwd = m.fwd := rfl
@[simp] theorem withClp_buf (m : Mod) (x : ClpSt) : (m.withClp x).buf = m.buf := rfl
@[simp] theorem withClp_sch (m : Mod) (x : ClpSt) : (m.withClp x).sch = m.sch := rfl
@[simp] theorem withClp_clp (m : Mod) (x : ClpSt) : (m.withClp x).clp = x := rfl
@[simp] theorem withClp_pin (m : Mod) (x : ClpSt) : (m.withClp x).pin = m.pin := rfl
@[simp] theorem withClp_int (m : Mod) (x : ClpSt) : (m.withClp x).int = m.int := rfl
@[simp] theorem withClp_pwr (m : Mod) (x : ClpSt) : (m.withClp x).pwr = m.pwr := rfl
@[simp] theorem withClp_nvm (m : Mod) (x : ClpSt) : (m.withClp x).nvm = m.nvm := rfl
@[simp] theorem withClp_upd (m : Mod) (x : ClpSt) : (m.withClp x).upd = m.upd := rfl
@[simp] theorem withClp_boot (m : Mod) (x : ClpSt) : (m.withClp x).boot = m.boot := rfl
@[simp] theorem withClp_dmp (m : Mod) (x : ClpSt) : (m.withClp x).dmp = m.dmp := rfl
@[simp] theorem withClp_arm (m : Mod) (x : ClpSt) : (m.withClp x).arm = m.arm := rfl

@[simp] theorem withPin_regs (m : Mod) (x : PinSt) : (m.withPin x).regs = m.regs := rfl
@[simp] theorem withPin_ctrs (m : Mod) (x : PinSt) : (m.withPin x).ctrs = m.ctrs := rfl
@[simp] theorem withPin_free (m : Mod) (x : PinSt) : (m.withPin x).free = m.free := rfl
@[simp] theorem withPin_tick (m : Mod) (x : PinSt) : (m.withPin x).tick = m.tick := rfl
@[simp] theorem withPin_win (m : Mod) (x : PinSt) : (m.withPin x).win = m.win := rfl
@[simp] theorem withPin_time (m : Mod) (x : PinSt) : (m.withPin x).time = m.time := rfl
@[simp] theorem withPin_evt (m : Mod) (x : PinSt) : (m.withPin x).evt = m.evt := rfl
@[simp] theorem withPin_hdg (m : Mod) (x : PinSt) : (m.withPin x).hdg = m.hdg := rfl
@[simp] theorem withPin_drm (m : Mod) (x : PinSt) : (m.withPin x).drm = m.drm := rfl
@[simp] theorem withPin_eng (m : Mod) (x : PinSt) : (m.withPin x).eng = m.eng := rfl
@[simp] theorem withPin_prt (m : Mod) (x : PinSt) : (m.withPin x).prt = m.prt := rfl
@[simp] theorem withPin_cls (m : Mod) (x : PinSt) : (m.withPin x).cls = m.cls := rfl
@[simp] theorem withPin_fwd (m : Mod) (x : PinSt) : (m.withPin x).fwd = m.fwd := rfl
@[simp] theorem withPin_buf (m : Mod) (x : PinSt) : (m.withPin x).buf = m.buf := rfl
@[simp] theorem withPin_sch (m : Mod) (x : PinSt) : (m.withPin x).sch = m.sch := rfl
@[simp] theorem withPin_clp (m : Mod) (x : PinSt) : (m.withPin x).clp = m.clp := rfl
@[simp] theorem withPin_pin (m : Mod) (x : PinSt) : (m.withPin x).pin = x := rfl
@[simp] theorem withPin_int (m : Mod) (x : PinSt) : (m.withPin x).int = m.int := rfl
@[simp] theorem withPin_pwr (m : Mod) (x : PinSt) : (m.withPin x).pwr = m.pwr := rfl
@[simp] theorem withPin_nvm (m : Mod) (x : PinSt) : (m.withPin x).nvm = m.nvm := rfl
@[simp] theorem withPin_upd (m : Mod) (x : PinSt) : (m.withPin x).upd = m.upd := rfl
@[simp] theorem withPin_boot (m : Mod) (x : PinSt) : (m.withPin x).boot = m.boot := rfl
@[simp] theorem withPin_dmp (m : Mod) (x : PinSt) : (m.withPin x).dmp = m.dmp := rfl
@[simp] theorem withPin_arm (m : Mod) (x : PinSt) : (m.withPin x).arm = m.arm := rfl

@[simp] theorem withInt_regs (m : Mod) (x : IntSt) : (m.withInt x).regs = m.regs := rfl
@[simp] theorem withInt_ctrs (m : Mod) (x : IntSt) : (m.withInt x).ctrs = m.ctrs := rfl
@[simp] theorem withInt_free (m : Mod) (x : IntSt) : (m.withInt x).free = m.free := rfl
@[simp] theorem withInt_tick (m : Mod) (x : IntSt) : (m.withInt x).tick = m.tick := rfl
@[simp] theorem withInt_win (m : Mod) (x : IntSt) : (m.withInt x).win = m.win := rfl
@[simp] theorem withInt_time (m : Mod) (x : IntSt) : (m.withInt x).time = m.time := rfl
@[simp] theorem withInt_evt (m : Mod) (x : IntSt) : (m.withInt x).evt = m.evt := rfl
@[simp] theorem withInt_hdg (m : Mod) (x : IntSt) : (m.withInt x).hdg = m.hdg := rfl
@[simp] theorem withInt_drm (m : Mod) (x : IntSt) : (m.withInt x).drm = m.drm := rfl
@[simp] theorem withInt_eng (m : Mod) (x : IntSt) : (m.withInt x).eng = m.eng := rfl
@[simp] theorem withInt_prt (m : Mod) (x : IntSt) : (m.withInt x).prt = m.prt := rfl
@[simp] theorem withInt_cls (m : Mod) (x : IntSt) : (m.withInt x).cls = m.cls := rfl
@[simp] theorem withInt_fwd (m : Mod) (x : IntSt) : (m.withInt x).fwd = m.fwd := rfl
@[simp] theorem withInt_buf (m : Mod) (x : IntSt) : (m.withInt x).buf = m.buf := rfl
@[simp] theorem withInt_sch (m : Mod) (x : IntSt) : (m.withInt x).sch = m.sch := rfl
@[simp] theorem withInt_clp (m : Mod) (x : IntSt) : (m.withInt x).clp = m.clp := rfl
@[simp] theorem withInt_pin (m : Mod) (x : IntSt) : (m.withInt x).pin = m.pin := rfl
@[simp] theorem withInt_int (m : Mod) (x : IntSt) : (m.withInt x).int = x := rfl
@[simp] theorem withInt_pwr (m : Mod) (x : IntSt) : (m.withInt x).pwr = m.pwr := rfl
@[simp] theorem withInt_nvm (m : Mod) (x : IntSt) : (m.withInt x).nvm = m.nvm := rfl
@[simp] theorem withInt_upd (m : Mod) (x : IntSt) : (m.withInt x).upd = m.upd := rfl
@[simp] theorem withInt_boot (m : Mod) (x : IntSt) : (m.withInt x).boot = m.boot := rfl
@[simp] theorem withInt_dmp (m : Mod) (x : IntSt) : (m.withInt x).dmp = m.dmp := rfl
@[simp] theorem withInt_arm (m : Mod) (x : IntSt) : (m.withInt x).arm = m.arm := rfl

@[simp] theorem withPwr_regs (m : Mod) (x : PwrSt) : (m.withPwr x).regs = m.regs := rfl
@[simp] theorem withPwr_ctrs (m : Mod) (x : PwrSt) : (m.withPwr x).ctrs = m.ctrs := rfl
@[simp] theorem withPwr_free (m : Mod) (x : PwrSt) : (m.withPwr x).free = m.free := rfl
@[simp] theorem withPwr_tick (m : Mod) (x : PwrSt) : (m.withPwr x).tick = m.tick := rfl
@[simp] theorem withPwr_win (m : Mod) (x : PwrSt) : (m.withPwr x).win = m.win := rfl
@[simp] theorem withPwr_time (m : Mod) (x : PwrSt) : (m.withPwr x).time = m.time := rfl
@[simp] theorem withPwr_evt (m : Mod) (x : PwrSt) : (m.withPwr x).evt = m.evt := rfl
@[simp] theorem withPwr_hdg (m : Mod) (x : PwrSt) : (m.withPwr x).hdg = m.hdg := rfl
@[simp] theorem withPwr_drm (m : Mod) (x : PwrSt) : (m.withPwr x).drm = m.drm := rfl
@[simp] theorem withPwr_eng (m : Mod) (x : PwrSt) : (m.withPwr x).eng = m.eng := rfl
@[simp] theorem withPwr_prt (m : Mod) (x : PwrSt) : (m.withPwr x).prt = m.prt := rfl
@[simp] theorem withPwr_cls (m : Mod) (x : PwrSt) : (m.withPwr x).cls = m.cls := rfl
@[simp] theorem withPwr_fwd (m : Mod) (x : PwrSt) : (m.withPwr x).fwd = m.fwd := rfl
@[simp] theorem withPwr_buf (m : Mod) (x : PwrSt) : (m.withPwr x).buf = m.buf := rfl
@[simp] theorem withPwr_sch (m : Mod) (x : PwrSt) : (m.withPwr x).sch = m.sch := rfl
@[simp] theorem withPwr_clp (m : Mod) (x : PwrSt) : (m.withPwr x).clp = m.clp := rfl
@[simp] theorem withPwr_pin (m : Mod) (x : PwrSt) : (m.withPwr x).pin = m.pin := rfl
@[simp] theorem withPwr_int (m : Mod) (x : PwrSt) : (m.withPwr x).int = m.int := rfl
@[simp] theorem withPwr_pwr (m : Mod) (x : PwrSt) : (m.withPwr x).pwr = x := rfl
@[simp] theorem withPwr_nvm (m : Mod) (x : PwrSt) : (m.withPwr x).nvm = m.nvm := rfl
@[simp] theorem withPwr_upd (m : Mod) (x : PwrSt) : (m.withPwr x).upd = m.upd := rfl
@[simp] theorem withPwr_boot (m : Mod) (x : PwrSt) : (m.withPwr x).boot = m.boot := rfl
@[simp] theorem withPwr_dmp (m : Mod) (x : PwrSt) : (m.withPwr x).dmp = m.dmp := rfl
@[simp] theorem withPwr_arm (m : Mod) (x : PwrSt) : (m.withPwr x).arm = m.arm := rfl

@[simp] theorem withNvm_regs (m : Mod) (x : NvmSt) : (m.withNvm x).regs = m.regs := rfl
@[simp] theorem withNvm_ctrs (m : Mod) (x : NvmSt) : (m.withNvm x).ctrs = m.ctrs := rfl
@[simp] theorem withNvm_free (m : Mod) (x : NvmSt) : (m.withNvm x).free = m.free := rfl
@[simp] theorem withNvm_tick (m : Mod) (x : NvmSt) : (m.withNvm x).tick = m.tick := rfl
@[simp] theorem withNvm_win (m : Mod) (x : NvmSt) : (m.withNvm x).win = m.win := rfl
@[simp] theorem withNvm_time (m : Mod) (x : NvmSt) : (m.withNvm x).time = m.time := rfl
@[simp] theorem withNvm_evt (m : Mod) (x : NvmSt) : (m.withNvm x).evt = m.evt := rfl
@[simp] theorem withNvm_hdg (m : Mod) (x : NvmSt) : (m.withNvm x).hdg = m.hdg := rfl
@[simp] theorem withNvm_drm (m : Mod) (x : NvmSt) : (m.withNvm x).drm = m.drm := rfl
@[simp] theorem withNvm_eng (m : Mod) (x : NvmSt) : (m.withNvm x).eng = m.eng := rfl
@[simp] theorem withNvm_prt (m : Mod) (x : NvmSt) : (m.withNvm x).prt = m.prt := rfl
@[simp] theorem withNvm_cls (m : Mod) (x : NvmSt) : (m.withNvm x).cls = m.cls := rfl
@[simp] theorem withNvm_fwd (m : Mod) (x : NvmSt) : (m.withNvm x).fwd = m.fwd := rfl
@[simp] theorem withNvm_buf (m : Mod) (x : NvmSt) : (m.withNvm x).buf = m.buf := rfl
@[simp] theorem withNvm_sch (m : Mod) (x : NvmSt) : (m.withNvm x).sch = m.sch := rfl
@[simp] theorem withNvm_clp (m : Mod) (x : NvmSt) : (m.withNvm x).clp = m.clp := rfl
@[simp] theorem withNvm_pin (m : Mod) (x : NvmSt) : (m.withNvm x).pin = m.pin := rfl
@[simp] theorem withNvm_int (m : Mod) (x : NvmSt) : (m.withNvm x).int = m.int := rfl
@[simp] theorem withNvm_pwr (m : Mod) (x : NvmSt) : (m.withNvm x).pwr = m.pwr := rfl
@[simp] theorem withNvm_nvm (m : Mod) (x : NvmSt) : (m.withNvm x).nvm = x := rfl
@[simp] theorem withNvm_upd (m : Mod) (x : NvmSt) : (m.withNvm x).upd = m.upd := rfl
@[simp] theorem withNvm_boot (m : Mod) (x : NvmSt) : (m.withNvm x).boot = m.boot := rfl
@[simp] theorem withNvm_dmp (m : Mod) (x : NvmSt) : (m.withNvm x).dmp = m.dmp := rfl
@[simp] theorem withNvm_arm (m : Mod) (x : NvmSt) : (m.withNvm x).arm = m.arm := rfl

@[simp] theorem withUpd_regs (m : Mod) (x : UpdSt) : (m.withUpd x).regs = m.regs := rfl
@[simp] theorem withUpd_ctrs (m : Mod) (x : UpdSt) : (m.withUpd x).ctrs = m.ctrs := rfl
@[simp] theorem withUpd_free (m : Mod) (x : UpdSt) : (m.withUpd x).free = m.free := rfl
@[simp] theorem withUpd_tick (m : Mod) (x : UpdSt) : (m.withUpd x).tick = m.tick := rfl
@[simp] theorem withUpd_win (m : Mod) (x : UpdSt) : (m.withUpd x).win = m.win := rfl
@[simp] theorem withUpd_time (m : Mod) (x : UpdSt) : (m.withUpd x).time = m.time := rfl
@[simp] theorem withUpd_evt (m : Mod) (x : UpdSt) : (m.withUpd x).evt = m.evt := rfl
@[simp] theorem withUpd_hdg (m : Mod) (x : UpdSt) : (m.withUpd x).hdg = m.hdg := rfl
@[simp] theorem withUpd_drm (m : Mod) (x : UpdSt) : (m.withUpd x).drm = m.drm := rfl
@[simp] theorem withUpd_eng (m : Mod) (x : UpdSt) : (m.withUpd x).eng = m.eng := rfl
@[simp] theorem withUpd_prt (m : Mod) (x : UpdSt) : (m.withUpd x).prt = m.prt := rfl
@[simp] theorem withUpd_cls (m : Mod) (x : UpdSt) : (m.withUpd x).cls = m.cls := rfl
@[simp] theorem withUpd_fwd (m : Mod) (x : UpdSt) : (m.withUpd x).fwd = m.fwd := rfl
@[simp] theorem withUpd_buf (m : Mod) (x : UpdSt) : (m.withUpd x).buf = m.buf := rfl
@[simp] theorem withUpd_sch (m : Mod) (x : UpdSt) : (m.withUpd x).sch = m.sch := rfl
@[simp] theorem withUpd_clp (m : Mod) (x : UpdSt) : (m.withUpd x).clp = m.clp := rfl
@[simp] theorem withUpd_pin (m : Mod) (x : UpdSt) : (m.withUpd x).pin = m.pin := rfl
@[simp] theorem withUpd_int (m : Mod) (x : UpdSt) : (m.withUpd x).int = m.int := rfl
@[simp] theorem withUpd_pwr (m : Mod) (x : UpdSt) : (m.withUpd x).pwr = m.pwr := rfl
@[simp] theorem withUpd_nvm (m : Mod) (x : UpdSt) : (m.withUpd x).nvm = m.nvm := rfl
@[simp] theorem withUpd_upd (m : Mod) (x : UpdSt) : (m.withUpd x).upd = x := rfl
@[simp] theorem withUpd_boot (m : Mod) (x : UpdSt) : (m.withUpd x).boot = m.boot := rfl
@[simp] theorem withUpd_dmp (m : Mod) (x : UpdSt) : (m.withUpd x).dmp = m.dmp := rfl
@[simp] theorem withUpd_arm (m : Mod) (x : UpdSt) : (m.withUpd x).arm = m.arm := rfl

@[simp] theorem withBoot_regs (m : Mod) (x : BootSt) : (m.withBoot x).regs = m.regs := rfl
@[simp] theorem withBoot_ctrs (m : Mod) (x : BootSt) : (m.withBoot x).ctrs = m.ctrs := rfl
@[simp] theorem withBoot_free (m : Mod) (x : BootSt) : (m.withBoot x).free = m.free := rfl
@[simp] theorem withBoot_tick (m : Mod) (x : BootSt) : (m.withBoot x).tick = m.tick := rfl
@[simp] theorem withBoot_win (m : Mod) (x : BootSt) : (m.withBoot x).win = m.win := rfl
@[simp] theorem withBoot_time (m : Mod) (x : BootSt) : (m.withBoot x).time = m.time := rfl
@[simp] theorem withBoot_evt (m : Mod) (x : BootSt) : (m.withBoot x).evt = m.evt := rfl
@[simp] theorem withBoot_hdg (m : Mod) (x : BootSt) : (m.withBoot x).hdg = m.hdg := rfl
@[simp] theorem withBoot_drm (m : Mod) (x : BootSt) : (m.withBoot x).drm = m.drm := rfl
@[simp] theorem withBoot_eng (m : Mod) (x : BootSt) : (m.withBoot x).eng = m.eng := rfl
@[simp] theorem withBoot_prt (m : Mod) (x : BootSt) : (m.withBoot x).prt = m.prt := rfl
@[simp] theorem withBoot_cls (m : Mod) (x : BootSt) : (m.withBoot x).cls = m.cls := rfl
@[simp] theorem withBoot_fwd (m : Mod) (x : BootSt) : (m.withBoot x).fwd = m.fwd := rfl
@[simp] theorem withBoot_buf (m : Mod) (x : BootSt) : (m.withBoot x).buf = m.buf := rfl
@[simp] theorem withBoot_sch (m : Mod) (x : BootSt) : (m.withBoot x).sch = m.sch := rfl
@[simp] theorem withBoot_clp (m : Mod) (x : BootSt) : (m.withBoot x).clp = m.clp := rfl
@[simp] theorem withBoot_pin (m : Mod) (x : BootSt) : (m.withBoot x).pin = m.pin := rfl
@[simp] theorem withBoot_int (m : Mod) (x : BootSt) : (m.withBoot x).int = m.int := rfl
@[simp] theorem withBoot_pwr (m : Mod) (x : BootSt) : (m.withBoot x).pwr = m.pwr := rfl
@[simp] theorem withBoot_nvm (m : Mod) (x : BootSt) : (m.withBoot x).nvm = m.nvm := rfl
@[simp] theorem withBoot_upd (m : Mod) (x : BootSt) : (m.withBoot x).upd = m.upd := rfl
@[simp] theorem withBoot_boot (m : Mod) (x : BootSt) : (m.withBoot x).boot = x := rfl
@[simp] theorem withBoot_dmp (m : Mod) (x : BootSt) : (m.withBoot x).dmp = m.dmp := rfl
@[simp] theorem withBoot_arm (m : Mod) (x : BootSt) : (m.withBoot x).arm = m.arm := rfl

@[simp] theorem withDmp_regs (m : Mod) (x : DmpSt) : (m.withDmp x).regs = m.regs := rfl
@[simp] theorem withDmp_ctrs (m : Mod) (x : DmpSt) : (m.withDmp x).ctrs = m.ctrs := rfl
@[simp] theorem withDmp_free (m : Mod) (x : DmpSt) : (m.withDmp x).free = m.free := rfl
@[simp] theorem withDmp_tick (m : Mod) (x : DmpSt) : (m.withDmp x).tick = m.tick := rfl
@[simp] theorem withDmp_win (m : Mod) (x : DmpSt) : (m.withDmp x).win = m.win := rfl
@[simp] theorem withDmp_time (m : Mod) (x : DmpSt) : (m.withDmp x).time = m.time := rfl
@[simp] theorem withDmp_evt (m : Mod) (x : DmpSt) : (m.withDmp x).evt = m.evt := rfl
@[simp] theorem withDmp_hdg (m : Mod) (x : DmpSt) : (m.withDmp x).hdg = m.hdg := rfl
@[simp] theorem withDmp_drm (m : Mod) (x : DmpSt) : (m.withDmp x).drm = m.drm := rfl
@[simp] theorem withDmp_eng (m : Mod) (x : DmpSt) : (m.withDmp x).eng = m.eng := rfl
@[simp] theorem withDmp_prt (m : Mod) (x : DmpSt) : (m.withDmp x).prt = m.prt := rfl
@[simp] theorem withDmp_cls (m : Mod) (x : DmpSt) : (m.withDmp x).cls = m.cls := rfl
@[simp] theorem withDmp_fwd (m : Mod) (x : DmpSt) : (m.withDmp x).fwd = m.fwd := rfl
@[simp] theorem withDmp_buf (m : Mod) (x : DmpSt) : (m.withDmp x).buf = m.buf := rfl
@[simp] theorem withDmp_sch (m : Mod) (x : DmpSt) : (m.withDmp x).sch = m.sch := rfl
@[simp] theorem withDmp_clp (m : Mod) (x : DmpSt) : (m.withDmp x).clp = m.clp := rfl
@[simp] theorem withDmp_pin (m : Mod) (x : DmpSt) : (m.withDmp x).pin = m.pin := rfl
@[simp] theorem withDmp_int (m : Mod) (x : DmpSt) : (m.withDmp x).int = m.int := rfl
@[simp] theorem withDmp_pwr (m : Mod) (x : DmpSt) : (m.withDmp x).pwr = m.pwr := rfl
@[simp] theorem withDmp_nvm (m : Mod) (x : DmpSt) : (m.withDmp x).nvm = m.nvm := rfl
@[simp] theorem withDmp_upd (m : Mod) (x : DmpSt) : (m.withDmp x).upd = m.upd := rfl
@[simp] theorem withDmp_boot (m : Mod) (x : DmpSt) : (m.withDmp x).boot = m.boot := rfl
@[simp] theorem withDmp_dmp (m : Mod) (x : DmpSt) : (m.withDmp x).dmp = x := rfl
@[simp] theorem withDmp_arm (m : Mod) (x : DmpSt) : (m.withDmp x).arm = m.arm := rfl

@[simp] theorem withArm_regs (m : Mod) (x : ArmSt) : (m.withArm x).regs = m.regs := rfl
@[simp] theorem withArm_ctrs (m : Mod) (x : ArmSt) : (m.withArm x).ctrs = m.ctrs := rfl
@[simp] theorem withArm_free (m : Mod) (x : ArmSt) : (m.withArm x).free = m.free := rfl
@[simp] theorem withArm_tick (m : Mod) (x : ArmSt) : (m.withArm x).tick = m.tick := rfl
@[simp] theorem withArm_win (m : Mod) (x : ArmSt) : (m.withArm x).win = m.win := rfl
@[simp] theorem withArm_time (m : Mod) (x : ArmSt) : (m.withArm x).time = m.time := rfl
@[simp] theorem withArm_evt (m : Mod) (x : ArmSt) : (m.withArm x).evt = m.evt := rfl
@[simp] theorem withArm_hdg (m : Mod) (x : ArmSt) : (m.withArm x).hdg = m.hdg := rfl
@[simp] theorem withArm_drm (m : Mod) (x : ArmSt) : (m.withArm x).drm = m.drm := rfl
@[simp] theorem withArm_eng (m : Mod) (x : ArmSt) : (m.withArm x).eng = m.eng := rfl
@[simp] theorem withArm_prt (m : Mod) (x : ArmSt) : (m.withArm x).prt = m.prt := rfl
@[simp] theorem withArm_cls (m : Mod) (x : ArmSt) : (m.withArm x).cls = m.cls := rfl
@[simp] theorem withArm_fwd (m : Mod) (x : ArmSt) : (m.withArm x).fwd = m.fwd := rfl
@[simp] theorem withArm_buf (m : Mod) (x : ArmSt) : (m.withArm x).buf = m.buf := rfl
@[simp] theorem withArm_sch (m : Mod) (x : ArmSt) : (m.withArm x).sch = m.sch := rfl
@[simp] theorem withArm_clp (m : Mod) (x : ArmSt) : (m.withArm x).clp = m.clp := rfl
@[simp] theorem withArm_pin (m : Mod) (x : ArmSt) : (m.withArm x).pin = m.pin := rfl
@[simp] theorem withArm_int (m : Mod) (x : ArmSt) : (m.withArm x).int = m.int := rfl
@[simp] theorem withArm_pwr (m : Mod) (x : ArmSt) : (m.withArm x).pwr = m.pwr := rfl
@[simp] theorem withArm_nvm (m : Mod) (x : ArmSt) : (m.withArm x).nvm = m.nvm := rfl
@[simp] theorem withArm_upd (m : Mod) (x : ArmSt) : (m.withArm x).upd = m.upd := rfl
@[simp] theorem withArm_boot (m : Mod) (x : ArmSt) : (m.withArm x).boot = m.boot := rfl
@[simp] theorem withArm_dmp (m : Mod) (x : ArmSt) : (m.withArm x).dmp = m.dmp := rfl
@[simp] theorem withArm_arm (m : Mod) (x : ArmSt) : (m.withArm x).arm = x := rfl

@[simp] theorem wr_ctrs (m : Mod) (r : Reg) (i : Nat) (w : Word) : (m.wr r i w).ctrs = m.ctrs := by cases m; rfl
@[simp] theorem wr_free (m : Mod) (r : Reg) (i : Nat) (w : Word) : (m.wr r i w).free = m.free := by cases m; rfl
@[simp] theorem wr_tick (m : Mod) (r : Reg) (i : Nat) (w : Word) : (m.wr r i w).tick = m.tick := by cases m; rfl
@[simp] theorem wr_win (m : Mod) (r : Reg) (i : Nat) (w : Word) : (m.wr r i w).win = m.win := by cases m; rfl
@[simp] theorem wr_time (m : Mod) (r : Reg) (i : Nat) (w : Word) : (m.wr r i w).time = m.time := by cases m; rfl
@[simp] theorem wr_evt (m : Mod) (r : Reg) (i : Nat) (w : Word) : (m.wr r i w).evt = m.evt := by cases m; rfl
@[simp] theorem wr_hdg (m : Mod) (r : Reg) (i : Nat) (w : Word) : (m.wr r i w).hdg = m.hdg := by cases m; rfl
@[simp] theorem wr_drm (m : Mod) (r : Reg) (i : Nat) (w : Word) : (m.wr r i w).drm = m.drm := by cases m; rfl
@[simp] theorem wr_eng (m : Mod) (r : Reg) (i : Nat) (w : Word) : (m.wr r i w).eng = m.eng := by cases m; rfl
@[simp] theorem wr_prt (m : Mod) (r : Reg) (i : Nat) (w : Word) : (m.wr r i w).prt = m.prt := by cases m; rfl
@[simp] theorem wr_cls (m : Mod) (r : Reg) (i : Nat) (w : Word) : (m.wr r i w).cls = m.cls := by cases m; rfl
@[simp] theorem wr_fwd (m : Mod) (r : Reg) (i : Nat) (w : Word) : (m.wr r i w).fwd = m.fwd := by cases m; rfl
@[simp] theorem wr_buf (m : Mod) (r : Reg) (i : Nat) (w : Word) : (m.wr r i w).buf = m.buf := by cases m; rfl
@[simp] theorem wr_sch (m : Mod) (r : Reg) (i : Nat) (w : Word) : (m.wr r i w).sch = m.sch := by cases m; rfl
@[simp] theorem wr_clp (m : Mod) (r : Reg) (i : Nat) (w : Word) : (m.wr r i w).clp = m.clp := by cases m; rfl
@[simp] theorem wr_pin (m : Mod) (r : Reg) (i : Nat) (w : Word) : (m.wr r i w).pin = m.pin := by cases m; rfl
@[simp] theorem wr_int (m : Mod) (r : Reg) (i : Nat) (w : Word) : (m.wr r i w).int = m.int := by cases m; rfl
@[simp] theorem wr_pwr (m : Mod) (r : Reg) (i : Nat) (w : Word) : (m.wr r i w).pwr = m.pwr := by cases m; rfl
@[simp] theorem wr_nvm (m : Mod) (r : Reg) (i : Nat) (w : Word) : (m.wr r i w).nvm = m.nvm := by cases m; rfl
@[simp] theorem wr_upd (m : Mod) (r : Reg) (i : Nat) (w : Word) : (m.wr r i w).upd = m.upd := by cases m; rfl
@[simp] theorem wr_boot (m : Mod) (r : Reg) (i : Nat) (w : Word) : (m.wr r i w).boot = m.boot := by cases m; rfl
@[simp] theorem wr_dmp (m : Mod) (r : Reg) (i : Nat) (w : Word) : (m.wr r i w).dmp = m.dmp := by cases m; rfl
@[simp] theorem wr_arm (m : Mod) (r : Reg) (i : Nat) (w : Word) : (m.wr r i w).arm = m.arm := by cases m; rfl

@[simp] theorem set_ctrs (m : Mod) (f : Fld) (i v : Nat) : (m.set f i v).ctrs = m.ctrs := by cases m; rfl
@[simp] theorem set_free (m : Mod) (f : Fld) (i v : Nat) : (m.set f i v).free = m.free := by cases m; rfl
@[simp] theorem set_tick (m : Mod) (f : Fld) (i v : Nat) : (m.set f i v).tick = m.tick := by cases m; rfl
@[simp] theorem set_win (m : Mod) (f : Fld) (i v : Nat) : (m.set f i v).win = m.win := by cases m; rfl
@[simp] theorem set_time (m : Mod) (f : Fld) (i v : Nat) : (m.set f i v).time = m.time := by cases m; rfl
@[simp] theorem set_evt (m : Mod) (f : Fld) (i v : Nat) : (m.set f i v).evt = m.evt := by cases m; rfl
@[simp] theorem set_hdg (m : Mod) (f : Fld) (i v : Nat) : (m.set f i v).hdg = m.hdg := by cases m; rfl
@[simp] theorem set_drm (m : Mod) (f : Fld) (i v : Nat) : (m.set f i v).drm = m.drm := by cases m; rfl
@[simp] theorem set_eng (m : Mod) (f : Fld) (i v : Nat) : (m.set f i v).eng = m.eng := by cases m; rfl
@[simp] theorem set_prt (m : Mod) (f : Fld) (i v : Nat) : (m.set f i v).prt = m.prt := by cases m; rfl
@[simp] theorem set_cls (m : Mod) (f : Fld) (i v : Nat) : (m.set f i v).cls = m.cls := by cases m; rfl
@[simp] theorem set_fwd (m : Mod) (f : Fld) (i v : Nat) : (m.set f i v).fwd = m.fwd := by cases m; rfl
@[simp] theorem set_buf (m : Mod) (f : Fld) (i v : Nat) : (m.set f i v).buf = m.buf := by cases m; rfl
@[simp] theorem set_sch (m : Mod) (f : Fld) (i v : Nat) : (m.set f i v).sch = m.sch := by cases m; rfl
@[simp] theorem set_clp (m : Mod) (f : Fld) (i v : Nat) : (m.set f i v).clp = m.clp := by cases m; rfl
@[simp] theorem set_pin (m : Mod) (f : Fld) (i v : Nat) : (m.set f i v).pin = m.pin := by cases m; rfl
@[simp] theorem set_int (m : Mod) (f : Fld) (i v : Nat) : (m.set f i v).int = m.int := by cases m; rfl
@[simp] theorem set_pwr (m : Mod) (f : Fld) (i v : Nat) : (m.set f i v).pwr = m.pwr := by cases m; rfl
@[simp] theorem set_nvm (m : Mod) (f : Fld) (i v : Nat) : (m.set f i v).nvm = m.nvm := by cases m; rfl
@[simp] theorem set_upd (m : Mod) (f : Fld) (i v : Nat) : (m.set f i v).upd = m.upd := by cases m; rfl
@[simp] theorem set_boot (m : Mod) (f : Fld) (i v : Nat) : (m.set f i v).boot = m.boot := by cases m; rfl
@[simp] theorem set_dmp (m : Mod) (f : Fld) (i v : Nat) : (m.set f i v).dmp = m.dmp := by cases m; rfl
@[simp] theorem set_arm (m : Mod) (f : Fld) (i v : Nat) : (m.set f i v).arm = m.arm := by cases m; rfl

@[simp] theorem satAdd_ctrs (m : Mod) (f : Fld) (i n : Nat) : (m.satAdd f i n).ctrs = m.ctrs := by cases m; rfl
@[simp] theorem satAdd_free (m : Mod) (f : Fld) (i n : Nat) : (m.satAdd f i n).free = m.free := by cases m; rfl
@[simp] theorem satAdd_tick (m : Mod) (f : Fld) (i n : Nat) : (m.satAdd f i n).tick = m.tick := by cases m; rfl
@[simp] theorem satAdd_win (m : Mod) (f : Fld) (i n : Nat) : (m.satAdd f i n).win = m.win := by cases m; rfl
@[simp] theorem satAdd_time (m : Mod) (f : Fld) (i n : Nat) : (m.satAdd f i n).time = m.time := by cases m; rfl
@[simp] theorem satAdd_evt (m : Mod) (f : Fld) (i n : Nat) : (m.satAdd f i n).evt = m.evt := by cases m; rfl
@[simp] theorem satAdd_hdg (m : Mod) (f : Fld) (i n : Nat) : (m.satAdd f i n).hdg = m.hdg := by cases m; rfl
@[simp] theorem satAdd_drm (m : Mod) (f : Fld) (i n : Nat) : (m.satAdd f i n).drm = m.drm := by cases m; rfl
@[simp] theorem satAdd_eng (m : Mod) (f : Fld) (i n : Nat) : (m.satAdd f i n).eng = m.eng := by cases m; rfl
@[simp] theorem satAdd_prt (m : Mod) (f : Fld) (i n : Nat) : (m.satAdd f i n).prt = m.prt := by cases m; rfl
@[simp] theorem satAdd_cls (m : Mod) (f : Fld) (i n : Nat) : (m.satAdd f i n).cls = m.cls := by cases m; rfl
@[simp] theorem satAdd_fwd (m : Mod) (f : Fld) (i n : Nat) : (m.satAdd f i n).fwd = m.fwd := by cases m; rfl
@[simp] theorem satAdd_buf (m : Mod) (f : Fld) (i n : Nat) : (m.satAdd f i n).buf = m.buf := by cases m; rfl
@[simp] theorem satAdd_sch (m : Mod) (f : Fld) (i n : Nat) : (m.satAdd f i n).sch = m.sch := by cases m; rfl
@[simp] theorem satAdd_clp (m : Mod) (f : Fld) (i n : Nat) : (m.satAdd f i n).clp = m.clp := by cases m; rfl
@[simp] theorem satAdd_pin (m : Mod) (f : Fld) (i n : Nat) : (m.satAdd f i n).pin = m.pin := by cases m; rfl
@[simp] theorem satAdd_int (m : Mod) (f : Fld) (i n : Nat) : (m.satAdd f i n).int = m.int := by cases m; rfl
@[simp] theorem satAdd_pwr (m : Mod) (f : Fld) (i n : Nat) : (m.satAdd f i n).pwr = m.pwr := by cases m; rfl
@[simp] theorem satAdd_nvm (m : Mod) (f : Fld) (i n : Nat) : (m.satAdd f i n).nvm = m.nvm := by cases m; rfl
@[simp] theorem satAdd_upd (m : Mod) (f : Fld) (i n : Nat) : (m.satAdd f i n).upd = m.upd := by cases m; rfl
@[simp] theorem satAdd_boot (m : Mod) (f : Fld) (i n : Nat) : (m.satAdd f i n).boot = m.boot := by cases m; rfl
@[simp] theorem satAdd_dmp (m : Mod) (f : Fld) (i n : Nat) : (m.satAdd f i n).dmp = m.dmp := by cases m; rfl
@[simp] theorem satAdd_arm (m : Mod) (f : Fld) (i n : Nat) : (m.satAdd f i n).arm = m.arm := by cases m; rfl

@[simp] theorem sqcBit_ctrs (m : Mod) (f : Fld) (k i : Nat) : (m.sqcBit f k i).ctrs = m.ctrs := by cases m; rfl
@[simp] theorem sqcBit_free (m : Mod) (f : Fld) (k i : Nat) : (m.sqcBit f k i).free = m.free := by cases m; rfl
@[simp] theorem sqcBit_tick (m : Mod) (f : Fld) (k i : Nat) : (m.sqcBit f k i).tick = m.tick := by cases m; rfl
@[simp] theorem sqcBit_win (m : Mod) (f : Fld) (k i : Nat) : (m.sqcBit f k i).win = m.win := by cases m; rfl
@[simp] theorem sqcBit_time (m : Mod) (f : Fld) (k i : Nat) : (m.sqcBit f k i).time = m.time := by cases m; rfl
@[simp] theorem sqcBit_evt (m : Mod) (f : Fld) (k i : Nat) : (m.sqcBit f k i).evt = m.evt := by cases m; rfl
@[simp] theorem sqcBit_hdg (m : Mod) (f : Fld) (k i : Nat) : (m.sqcBit f k i).hdg = m.hdg := by cases m; rfl
@[simp] theorem sqcBit_drm (m : Mod) (f : Fld) (k i : Nat) : (m.sqcBit f k i).drm = m.drm := by cases m; rfl
@[simp] theorem sqcBit_eng (m : Mod) (f : Fld) (k i : Nat) : (m.sqcBit f k i).eng = m.eng := by cases m; rfl
@[simp] theorem sqcBit_prt (m : Mod) (f : Fld) (k i : Nat) : (m.sqcBit f k i).prt = m.prt := by cases m; rfl
@[simp] theorem sqcBit_cls (m : Mod) (f : Fld) (k i : Nat) : (m.sqcBit f k i).cls = m.cls := by cases m; rfl
@[simp] theorem sqcBit_fwd (m : Mod) (f : Fld) (k i : Nat) : (m.sqcBit f k i).fwd = m.fwd := by cases m; rfl
@[simp] theorem sqcBit_buf (m : Mod) (f : Fld) (k i : Nat) : (m.sqcBit f k i).buf = m.buf := by cases m; rfl
@[simp] theorem sqcBit_sch (m : Mod) (f : Fld) (k i : Nat) : (m.sqcBit f k i).sch = m.sch := by cases m; rfl
@[simp] theorem sqcBit_clp (m : Mod) (f : Fld) (k i : Nat) : (m.sqcBit f k i).clp = m.clp := by cases m; rfl
@[simp] theorem sqcBit_pin (m : Mod) (f : Fld) (k i : Nat) : (m.sqcBit f k i).pin = m.pin := by cases m; rfl
@[simp] theorem sqcBit_int (m : Mod) (f : Fld) (k i : Nat) : (m.sqcBit f k i).int = m.int := by cases m; rfl
@[simp] theorem sqcBit_pwr (m : Mod) (f : Fld) (k i : Nat) : (m.sqcBit f k i).pwr = m.pwr := by cases m; rfl
@[simp] theorem sqcBit_nvm (m : Mod) (f : Fld) (k i : Nat) : (m.sqcBit f k i).nvm = m.nvm := by cases m; rfl
@[simp] theorem sqcBit_upd (m : Mod) (f : Fld) (k i : Nat) : (m.sqcBit f k i).upd = m.upd := by cases m; rfl
@[simp] theorem sqcBit_boot (m : Mod) (f : Fld) (k i : Nat) : (m.sqcBit f k i).boot = m.boot := by cases m; rfl
@[simp] theorem sqcBit_dmp (m : Mod) (f : Fld) (k i : Nat) : (m.sqcBit f k i).dmp = m.dmp := by cases m; rfl
@[simp] theorem sqcBit_arm (m : Mod) (f : Fld) (k i : Nat) : (m.sqcBit f k i).arm = m.arm := by cases m; rfl

@[simp] theorem sqc_ctrs (m : Mod) (f : Fld) (i : Nat) : (m.sqc f i).ctrs = m.ctrs := by cases m; rfl
@[simp] theorem sqc_free (m : Mod) (f : Fld) (i : Nat) : (m.sqc f i).free = m.free := by cases m; rfl
@[simp] theorem sqc_tick (m : Mod) (f : Fld) (i : Nat) : (m.sqc f i).tick = m.tick := by cases m; rfl
@[simp] theorem sqc_win (m : Mod) (f : Fld) (i : Nat) : (m.sqc f i).win = m.win := by cases m; rfl
@[simp] theorem sqc_time (m : Mod) (f : Fld) (i : Nat) : (m.sqc f i).time = m.time := by cases m; rfl
@[simp] theorem sqc_evt (m : Mod) (f : Fld) (i : Nat) : (m.sqc f i).evt = m.evt := by cases m; rfl
@[simp] theorem sqc_hdg (m : Mod) (f : Fld) (i : Nat) : (m.sqc f i).hdg = m.hdg := by cases m; rfl
@[simp] theorem sqc_drm (m : Mod) (f : Fld) (i : Nat) : (m.sqc f i).drm = m.drm := by cases m; rfl
@[simp] theorem sqc_eng (m : Mod) (f : Fld) (i : Nat) : (m.sqc f i).eng = m.eng := by cases m; rfl
@[simp] theorem sqc_prt (m : Mod) (f : Fld) (i : Nat) : (m.sqc f i).prt = m.prt := by cases m; rfl
@[simp] theorem sqc_cls (m : Mod) (f : Fld) (i : Nat) : (m.sqc f i).cls = m.cls := by cases m; rfl
@[simp] theorem sqc_fwd (m : Mod) (f : Fld) (i : Nat) : (m.sqc f i).fwd = m.fwd := by cases m; rfl
@[simp] theorem sqc_buf (m : Mod) (f : Fld) (i : Nat) : (m.sqc f i).buf = m.buf := by cases m; rfl
@[simp] theorem sqc_sch (m : Mod) (f : Fld) (i : Nat) : (m.sqc f i).sch = m.sch := by cases m; rfl
@[simp] theorem sqc_clp (m : Mod) (f : Fld) (i : Nat) : (m.sqc f i).clp = m.clp := by cases m; rfl
@[simp] theorem sqc_pin (m : Mod) (f : Fld) (i : Nat) : (m.sqc f i).pin = m.pin := by cases m; rfl
@[simp] theorem sqc_int (m : Mod) (f : Fld) (i : Nat) : (m.sqc f i).int = m.int := by cases m; rfl
@[simp] theorem sqc_pwr (m : Mod) (f : Fld) (i : Nat) : (m.sqc f i).pwr = m.pwr := by cases m; rfl
@[simp] theorem sqc_nvm (m : Mod) (f : Fld) (i : Nat) : (m.sqc f i).nvm = m.nvm := by cases m; rfl
@[simp] theorem sqc_upd (m : Mod) (f : Fld) (i : Nat) : (m.sqc f i).upd = m.upd := by cases m; rfl
@[simp] theorem sqc_boot (m : Mod) (f : Fld) (i : Nat) : (m.sqc f i).boot = m.boot := by cases m; rfl
@[simp] theorem sqc_dmp (m : Mod) (f : Fld) (i : Nat) : (m.sqc f i).dmp = m.dmp := by cases m; rfl
@[simp] theorem sqc_arm (m : Mod) (f : Fld) (i : Nat) : (m.sqc f i).arm = m.arm := by cases m; rfl

@[simp] theorem setCtr_regs (m : Mod) (off v : Nat) : (m.setCtr off v).regs = m.regs := by cases m; rfl
@[simp] theorem setCtr_free (m : Mod) (off v : Nat) : (m.setCtr off v).free = m.free := by cases m; rfl
@[simp] theorem setCtr_tick (m : Mod) (off v : Nat) : (m.setCtr off v).tick = m.tick := by cases m; rfl
@[simp] theorem setCtr_win (m : Mod) (off v : Nat) : (m.setCtr off v).win = m.win := by cases m; rfl
@[simp] theorem setCtr_time (m : Mod) (off v : Nat) : (m.setCtr off v).time = m.time := by cases m; rfl
@[simp] theorem setCtr_evt (m : Mod) (off v : Nat) : (m.setCtr off v).evt = m.evt := by cases m; rfl
@[simp] theorem setCtr_hdg (m : Mod) (off v : Nat) : (m.setCtr off v).hdg = m.hdg := by cases m; rfl
@[simp] theorem setCtr_drm (m : Mod) (off v : Nat) : (m.setCtr off v).drm = m.drm := by cases m; rfl
@[simp] theorem setCtr_eng (m : Mod) (off v : Nat) : (m.setCtr off v).eng = m.eng := by cases m; rfl
@[simp] theorem setCtr_prt (m : Mod) (off v : Nat) : (m.setCtr off v).prt = m.prt := by cases m; rfl
@[simp] theorem setCtr_cls (m : Mod) (off v : Nat) : (m.setCtr off v).cls = m.cls := by cases m; rfl
@[simp] theorem setCtr_fwd (m : Mod) (off v : Nat) : (m.setCtr off v).fwd = m.fwd := by cases m; rfl
@[simp] theorem setCtr_buf (m : Mod) (off v : Nat) : (m.setCtr off v).buf = m.buf := by cases m; rfl
@[simp] theorem setCtr_sch (m : Mod) (off v : Nat) : (m.setCtr off v).sch = m.sch := by cases m; rfl
@[simp] theorem setCtr_clp (m : Mod) (off v : Nat) : (m.setCtr off v).clp = m.clp := by cases m; rfl
@[simp] theorem setCtr_pin (m : Mod) (off v : Nat) : (m.setCtr off v).pin = m.pin := by cases m; rfl
@[simp] theorem setCtr_int (m : Mod) (off v : Nat) : (m.setCtr off v).int = m.int := by cases m; rfl
@[simp] theorem setCtr_pwr (m : Mod) (off v : Nat) : (m.setCtr off v).pwr = m.pwr := by cases m; rfl
@[simp] theorem setCtr_nvm (m : Mod) (off v : Nat) : (m.setCtr off v).nvm = m.nvm := by cases m; rfl
@[simp] theorem setCtr_upd (m : Mod) (off v : Nat) : (m.setCtr off v).upd = m.upd := by cases m; rfl
@[simp] theorem setCtr_boot (m : Mod) (off v : Nat) : (m.setCtr off v).boot = m.boot := by cases m; rfl
@[simp] theorem setCtr_dmp (m : Mod) (off v : Nat) : (m.setCtr off v).dmp = m.dmp := by cases m; rfl
@[simp] theorem setCtr_arm (m : Mod) (off v : Nat) : (m.setCtr off v).arm = m.arm := by cases m; rfl

@[simp] theorem emit_regs (m : Mod) (o : Output) : (m.emit o).regs = m.regs := by cases m; rfl
@[simp] theorem emit_ctrs (m : Mod) (o : Output) : (m.emit o).ctrs = m.ctrs := by cases m; rfl
@[simp] theorem emit_free (m : Mod) (o : Output) : (m.emit o).free = m.free := by cases m; rfl
@[simp] theorem emit_tick (m : Mod) (o : Output) : (m.emit o).tick = m.tick := by cases m; rfl
@[simp] theorem emit_win (m : Mod) (o : Output) : (m.emit o).win = m.win := by cases m; rfl
@[simp] theorem emit_time (m : Mod) (o : Output) : (m.emit o).time = m.time := by cases m; rfl
@[simp] theorem emit_hdg (m : Mod) (o : Output) : (m.emit o).hdg = m.hdg := by cases m; rfl
@[simp] theorem emit_drm (m : Mod) (o : Output) : (m.emit o).drm = m.drm := by cases m; rfl
@[simp] theorem emit_eng (m : Mod) (o : Output) : (m.emit o).eng = m.eng := by cases m; rfl
@[simp] theorem emit_prt (m : Mod) (o : Output) : (m.emit o).prt = m.prt := by cases m; rfl
@[simp] theorem emit_cls (m : Mod) (o : Output) : (m.emit o).cls = m.cls := by cases m; rfl
@[simp] theorem emit_fwd (m : Mod) (o : Output) : (m.emit o).fwd = m.fwd := by cases m; rfl
@[simp] theorem emit_buf (m : Mod) (o : Output) : (m.emit o).buf = m.buf := by cases m; rfl
@[simp] theorem emit_sch (m : Mod) (o : Output) : (m.emit o).sch = m.sch := by cases m; rfl
@[simp] theorem emit_clp (m : Mod) (o : Output) : (m.emit o).clp = m.clp := by cases m; rfl
@[simp] theorem emit_pin (m : Mod) (o : Output) : (m.emit o).pin = m.pin := by cases m; rfl
@[simp] theorem emit_int (m : Mod) (o : Output) : (m.emit o).int = m.int := by cases m; rfl
@[simp] theorem emit_pwr (m : Mod) (o : Output) : (m.emit o).pwr = m.pwr := by cases m; rfl
@[simp] theorem emit_nvm (m : Mod) (o : Output) : (m.emit o).nvm = m.nvm := by cases m; rfl
@[simp] theorem emit_upd (m : Mod) (o : Output) : (m.emit o).upd = m.upd := by cases m; rfl
@[simp] theorem emit_boot (m : Mod) (o : Output) : (m.emit o).boot = m.boot := by cases m; rfl
@[simp] theorem emit_dmp (m : Mod) (o : Output) : (m.emit o).dmp = m.dmp := by cases m; rfl
@[simp] theorem emit_arm (m : Mod) (o : Output) : (m.emit o).arm = m.arm := by cases m; rfl

@[simp] theorem fresh_regs (m : Mod) : (m.fresh.2).regs = m.regs := by cases m; rfl
@[simp] theorem fresh_ctrs (m : Mod) : (m.fresh.2).ctrs = m.ctrs := by cases m; rfl
@[simp] theorem fresh_tick (m : Mod) : (m.fresh.2).tick = m.tick := by cases m; rfl
@[simp] theorem fresh_win (m : Mod) : (m.fresh.2).win = m.win := by cases m; rfl
@[simp] theorem fresh_time (m : Mod) : (m.fresh.2).time = m.time := by cases m; rfl
@[simp] theorem fresh_evt (m : Mod) : (m.fresh.2).evt = m.evt := by cases m; rfl
@[simp] theorem fresh_hdg (m : Mod) : (m.fresh.2).hdg = m.hdg := by cases m; rfl
@[simp] theorem fresh_drm (m : Mod) : (m.fresh.2).drm = m.drm := by cases m; rfl
@[simp] theorem fresh_eng (m : Mod) : (m.fresh.2).eng = m.eng := by cases m; rfl
@[simp] theorem fresh_prt (m : Mod) : (m.fresh.2).prt = m.prt := by cases m; rfl
@[simp] theorem fresh_cls (m : Mod) : (m.fresh.2).cls = m.cls := by cases m; rfl
@[simp] theorem fresh_fwd (m : Mod) : (m.fresh.2).fwd = m.fwd := by cases m; rfl
@[simp] theorem fresh_buf (m : Mod) : (m.fresh.2).buf = m.buf := by cases m; rfl
@[simp] theorem fresh_sch (m : Mod) : (m.fresh.2).sch = m.sch := by cases m; rfl
@[simp] theorem fresh_clp (m : Mod) : (m.fresh.2).clp = m.clp := by cases m; rfl
@[simp] theorem fresh_pin (m : Mod) : (m.fresh.2).pin = m.pin := by cases m; rfl
@[simp] theorem fresh_int (m : Mod) : (m.fresh.2).int = m.int := by cases m; rfl
@[simp] theorem fresh_pwr (m : Mod) : (m.fresh.2).pwr = m.pwr := by cases m; rfl
@[simp] theorem fresh_nvm (m : Mod) : (m.fresh.2).nvm = m.nvm := by cases m; rfl
@[simp] theorem fresh_upd (m : Mod) : (m.fresh.2).upd = m.upd := by cases m; rfl
@[simp] theorem fresh_boot (m : Mod) : (m.fresh.2).boot = m.boot := by cases m; rfl
@[simp] theorem fresh_dmp (m : Mod) : (m.fresh.2).dmp = m.dmp := by cases m; rfl
@[simp] theorem fresh_arm (m : Mod) : (m.fresh.2).arm = m.arm := by cases m; rfl

@[simp] theorem freshNat_regs (m : Mod) : (m.freshNat.2).regs = m.regs := by cases m; rfl
@[simp] theorem freshNat_ctrs (m : Mod) : (m.freshNat.2).ctrs = m.ctrs := by cases m; rfl
@[simp] theorem freshNat_tick (m : Mod) : (m.freshNat.2).tick = m.tick := by cases m; rfl
@[simp] theorem freshNat_win (m : Mod) : (m.freshNat.2).win = m.win := by cases m; rfl
@[simp] theorem freshNat_time (m : Mod) : (m.freshNat.2).time = m.time := by cases m; rfl
@[simp] theorem freshNat_evt (m : Mod) : (m.freshNat.2).evt = m.evt := by cases m; rfl
@[simp] theorem freshNat_hdg (m : Mod) : (m.freshNat.2).hdg = m.hdg := by cases m; rfl
@[simp] theorem freshNat_drm (m : Mod) : (m.freshNat.2).drm = m.drm := by cases m; rfl
@[simp] theorem freshNat_eng (m : Mod) : (m.freshNat.2).eng = m.eng := by cases m; rfl
@[simp] theorem freshNat_prt (m : Mod) : (m.freshNat.2).prt = m.prt := by cases m; rfl
@[simp] theorem freshNat_cls (m : Mod) : (m.freshNat.2).cls = m.cls := by cases m; rfl
@[simp] theorem freshNat_fwd (m : Mod) : (m.freshNat.2).fwd = m.fwd := by cases m; rfl
@[simp] theorem freshNat_buf (m : Mod) : (m.freshNat.2).buf = m.buf := by cases m; rfl
@[simp] theorem freshNat_sch (m : Mod) : (m.freshNat.2).sch = m.sch := by cases m; rfl
@[simp] theorem freshNat_clp (m : Mod) : (m.freshNat.2).clp = m.clp := by cases m; rfl
@[simp] theorem freshNat_pin (m : Mod) : (m.freshNat.2).pin = m.pin := by cases m; rfl
@[simp] theorem freshNat_int (m : Mod) : (m.freshNat.2).int = m.int := by cases m; rfl
@[simp] theorem freshNat_pwr (m : Mod) : (m.freshNat.2).pwr = m.pwr := by cases m; rfl
@[simp] theorem freshNat_nvm (m : Mod) : (m.freshNat.2).nvm = m.nvm := by cases m; rfl
@[simp] theorem freshNat_upd (m : Mod) : (m.freshNat.2).upd = m.upd := by cases m; rfl
@[simp] theorem freshNat_boot (m : Mod) : (m.freshNat.2).boot = m.boot := by cases m; rfl
@[simp] theorem freshNat_dmp (m : Mod) : (m.freshNat.2).dmp = m.dmp := by cases m; rfl
@[simp] theorem freshNat_arm (m : Mod) : (m.freshNat.2).arm = m.arm := by cases m; rfl

@[simp] theorem setCl_regs (m : Mod) (c : Nat) (k : Cluster) : (m.setCl c k).regs = m.regs := by cases m; rfl
@[simp] theorem setCl_ctrs (m : Mod) (c : Nat) (k : Cluster) : (m.setCl c k).ctrs = m.ctrs := by cases m; rfl
@[simp] theorem setCl_free (m : Mod) (c : Nat) (k : Cluster) : (m.setCl c k).free = m.free := by cases m; rfl
@[simp] theorem setCl_tick (m : Mod) (c : Nat) (k : Cluster) : (m.setCl c k).tick = m.tick := by cases m; rfl
@[simp] theorem setCl_win (m : Mod) (c : Nat) (k : Cluster) : (m.setCl c k).win = m.win := by cases m; rfl
@[simp] theorem setCl_time (m : Mod) (c : Nat) (k : Cluster) : (m.setCl c k).time = m.time := by cases m; rfl
@[simp] theorem setCl_evt (m : Mod) (c : Nat) (k : Cluster) : (m.setCl c k).evt = m.evt := by cases m; rfl
@[simp] theorem setCl_hdg (m : Mod) (c : Nat) (k : Cluster) : (m.setCl c k).hdg = m.hdg := by cases m; rfl
@[simp] theorem setCl_drm (m : Mod) (c : Nat) (k : Cluster) : (m.setCl c k).drm = m.drm := by cases m; rfl
@[simp] theorem setCl_prt (m : Mod) (c : Nat) (k : Cluster) : (m.setCl c k).prt = m.prt := by cases m; rfl
@[simp] theorem setCl_cls (m : Mod) (c : Nat) (k : Cluster) : (m.setCl c k).cls = m.cls := by cases m; rfl
@[simp] theorem setCl_fwd (m : Mod) (c : Nat) (k : Cluster) : (m.setCl c k).fwd = m.fwd := by cases m; rfl
@[simp] theorem setCl_buf (m : Mod) (c : Nat) (k : Cluster) : (m.setCl c k).buf = m.buf := by cases m; rfl
@[simp] theorem setCl_sch (m : Mod) (c : Nat) (k : Cluster) : (m.setCl c k).sch = m.sch := by cases m; rfl
@[simp] theorem setCl_clp (m : Mod) (c : Nat) (k : Cluster) : (m.setCl c k).clp = m.clp := by cases m; rfl
@[simp] theorem setCl_pin (m : Mod) (c : Nat) (k : Cluster) : (m.setCl c k).pin = m.pin := by cases m; rfl
@[simp] theorem setCl_int (m : Mod) (c : Nat) (k : Cluster) : (m.setCl c k).int = m.int := by cases m; rfl
@[simp] theorem setCl_pwr (m : Mod) (c : Nat) (k : Cluster) : (m.setCl c k).pwr = m.pwr := by cases m; rfl
@[simp] theorem setCl_nvm (m : Mod) (c : Nat) (k : Cluster) : (m.setCl c k).nvm = m.nvm := by cases m; rfl
@[simp] theorem setCl_upd (m : Mod) (c : Nat) (k : Cluster) : (m.setCl c k).upd = m.upd := by cases m; rfl
@[simp] theorem setCl_boot (m : Mod) (c : Nat) (k : Cluster) : (m.setCl c k).boot = m.boot := by cases m; rfl
@[simp] theorem setCl_dmp (m : Mod) (c : Nat) (k : Cluster) : (m.setCl c k).dmp = m.dmp := by cases m; rfl
@[simp] theorem setCl_arm (m : Mod) (c : Nat) (k : Cluster) : (m.setCl c k).arm = m.arm := by cases m; rfl

end Sys2Proof.Machine
end

