-- ==== Sys2Proof/Laws/Table.lean ====
section
/-! SUPPORT. Sparse tables: a read after a write, every other key left alone, and the canonical form kept. -/

namespace Sys2Proof.Machine

variable {α : Type}

theorem lookup_remove (l : List (Nat × α)) (x y : Nat) : lookup (remove l x) y = if y = x then none else lookup l y := by
  induction l with
  | nil => simp [remove, lookup]
  | cons a t ih =>
    obtain ⟨k, v⟩ := a
    by_cases hk : k = x
    · subst hk
      by_cases hy : y = k <;> simp_all [remove, lookup, eq_comm]
    · by_cases hy : y = x
      · subst hy; simp_all [remove, lookup]
      · by_cases hky : k = y <;> simp_all [remove, lookup]

theorem lookup_place (l : List (Nat × α)) (x : Nat) (a : α) (y : Nat) (h : lookup l x = none) :
    lookup (place l x a) y = if y = x then some a else lookup l y := by
  induction l with
  | nil => by_cases hy : y = x <;> simp_all [place, lookup, eq_comm]
  | cons b t ih =>
    obtain ⟨k, v⟩ := b
    by_cases hk : k = x
    · simp [lookup, hk] at h
    · have ht : lookup t x = none := by simpa [lookup, hk] using h
      by_cases hlt : x < k
      · by_cases hy : y = x
        · subst hy; simp [place, lookup, hlt]
        · simp [place, lookup, hlt, hy, Ne.symm hy]
      · by_cases hky : k = y
        · subst hky; simp [place, lookup, hlt, hk]
        · simp [place, lookup, hlt, hky, ih ht]

theorem lookup_store (l : List (Nat × α)) (x : Nat) (a : α) (y : Nat) :
    lookup (store l x a) y = if y = x then some a else lookup l y := by
  rw [store, lookup_place _ _ _ _ (by simp [lookup_remove]), lookup_remove]
  by_cases h : y = x <;> simp [h]

theorem lookup_store_self (l : List (Nat × α)) (x : Nat) (a : α) : lookup (store l x a) x = some a := by
  simp [lookup_store]

theorem lookup_store_ne (l : List (Nat × α)) {x y : Nat} (a : α) (h : y ≠ x) : lookup (store l x a) y = lookup l y := by
  simp [lookup_store, h]

theorem lookupD_store (l : List (Nat × α)) (x : Nat) (a d : α) (y : Nat) :
    lookupD (store l x a) y d = if y = x then a else lookupD l y d := by
  by_cases h : y = x <;> simp [lookupD, lookup_store, h]

theorem lookupD_remove (l : List (Nat × α)) (x : Nat) (d : α) (y : Nat) :
    lookupD (remove l x) y d = if y = x then d else lookupD l y d := by
  by_cases h : y = x <;> simp [lookupD, lookup_remove, h]

theorem lookupD_storeUnless [DecidableEq α] (d : α) (l : List (Nat × α)) (x : Nat) (a : α) (y : Nat) :
    lookupD (storeUnless d l x a) y d = if y = x then a else lookupD l y d := by
  unfold storeUnless
  split
  · rename_i h; subst h; rw [lookupD_remove]
  · rw [lookupD_store]

/-- A write leaves every other key alone, whatever its default. -/
theorem lookupD_storeUnless_ne [DecidableEq α] (d e : α) (l : List (Nat × α)) {x y : Nat} (a : α) (h : y ≠ x) :
    lookupD (storeUnless d l x a) y e = lookupD l y e := by
  unfold storeUnless
  split
  · rw [lookupD_remove]; simp [h]
  · rw [lookupD_store]; simp [h]

/-! ### The canonical form -/

theorem risingFrom_weaken {lo lo' : Nat} {l : List (Nat × α)} (h : risingFrom lo l = true) (hle : lo' ≤ lo) : risingFrom lo' l = true := by
  cases l with
  | nil => rfl
  | cons a t =>
    simp only [risingFrom, Bool.and_eq_true, decide_eq_true_eq] at *
    exact ⟨by omega, h.2⟩

theorem remove_rising {lo : Nat} (l : List (Nat × α)) (x : Nat) (h : risingFrom lo l = true) : risingFrom lo (remove l x) = true := by
  induction l generalizing lo with
  | nil => rfl
  | cons a t ih =>
    simp only [risingFrom, Bool.and_eq_true, decide_eq_true_eq] at h
    unfold remove
    split
    · exact ih (risingFrom_weaken h.2 (by omega))
    · simp only [risingFrom, Bool.and_eq_true, decide_eq_true_eq]; exact ⟨h.1, ih h.2⟩

theorem place_rising {lo : Nat} (l : List (Nat × α)) (x : Nat) (a : α) (h : risingFrom lo l = true) (hx : lo ≤ x) (hn : lookup l x = none) :
    risingFrom lo (place l x a) = true := by
  induction l generalizing lo with
  | nil => simp [place, risingFrom, hx]
  | cons b t ih =>
    obtain ⟨k, v⟩ := b
    simp only [risingFrom, Bool.and_eq_true, decide_eq_true_eq] at h
    have hk : k ≠ x := by rintro rfl; simp [lookup] at hn
    have ht : lookup t x = none := by simpa [lookup, hk] using hn
    unfold place
    split
    · rename_i hlt
      simp only [risingFrom, Bool.and_eq_true, decide_eq_true_eq]
      exact ⟨hx, by omega, h.2⟩
    · simp only [risingFrom, Bool.and_eq_true, decide_eq_true_eq]
      exact ⟨h.1, ih h.2 (by omega) ht⟩

theorem store_rising (l : List (Nat × α)) (x : Nat) (a : α) (h : risingFrom 0 l = true) : risingFrom 0 (store l x a) = true :=
  place_rising _ _ _ (remove_rising l x h) (Nat.zero_le _) (by simp [lookup_remove])

theorem storeUnless_rising [DecidableEq α] (d : α) (l : List (Nat × α)) (x : Nat) (a : α) (h : risingFrom 0 l = true) :
    risingFrom 0 (storeUnless d l x a) = true := by
  unfold storeUnless
  split
  · exact remove_rising l x h
  · exact store_rising l x a h

theorem mem_remove {l : List (Nat × α)} {x : Nat} {e : Nat × α} (h : e ∈ remove l x) : e ∈ l := by
  induction l with
  | nil => simp [remove] at h
  | cons b t ih =>
    unfold remove at h
    split at h
    · exact List.mem_cons_of_mem _ (ih h)
    · rcases List.mem_cons.mp h with h | h
      · simp [h]
      · exact List.mem_cons_of_mem _ (ih h)

theorem mem_place {l : List (Nat × α)} {x : Nat} {a : α} {e : Nat × α} (h : e ∈ place l x a) : e ∈ l ∨ e = (x, a) := by
  induction l with
  | nil => simpa [place] using h
  | cons b t ih =>
    unfold place at h
    split at h
    · rcases List.mem_cons.mp h with h | h
      · exact .inr h
      · exact .inl h
    · rcases List.mem_cons.mp h with h | h
      · simp [h]
      · rcases ih h with h | h
        · exact .inl (List.mem_cons_of_mem _ h)
        · exact .inr h

/-- The canonical form of a table with a default is kept by a write: keys strictly rising, and no entry equal to the default. -/
theorem storeUnless_wf [DecidableEq α] (d : α) (l : List (Nat × α)) (x : Nat) (a : α)
    (h : risingFrom 0 l = true ∧ ∀ e ∈ l, e.2 ≠ d) :
    risingFrom 0 (storeUnless d l x a) = true ∧ ∀ e ∈ storeUnless d l x a, e.2 ≠ d := by
  refine ⟨storeUnless_rising d l x a h.1, fun e he => ?_⟩
  unfold storeUnless at he
  split at he
  · exact h.2 e (mem_remove he)
  · rename_i hd
    rcases mem_place he with he | rfl
    · exact h.2 e (mem_remove he)
    · exact hd

/-! ### Octet memories -/

theorem memory_wf_iff (l : List (Nat × Byte)) : Memory.wf l = true ↔ risingFrom 0 l = true ∧ ∀ e ∈ l, e.2 ≠ 0 := by
  simp [Memory.wf, List.all_eq_true]

/-- Writing octets keeps the canonical form. -/
theorem memWrite_wf (l : List (Nat × Byte)) (a : Nat) (bs : List Byte) (h : Memory.wf l = true) : Memory.wf (memWrite l a bs) = true := by
  induction bs generalizing l a with
  | nil => exact h
  | cons b t ih =>
    refine ih _ _ ?_
    rw [memory_wf_iff] at *
    exact storeUnless_wf 0 l a b h

/-- An octet outside the written range reads as before. -/
theorem memByte_memWrite_out (l : List (Nat × Byte)) (a : Nat) (bs : List Byte) (x : Nat) (h : x < a ∨ a + bs.length ≤ x) :
    memByte (memWrite l a bs) x = memByte l x := by
  induction bs generalizing l a with
  | nil => rfl
  | cons b t ih =>
    simp only [List.length_cons] at h
    rw [memWrite, ih _ _ (by omega)]
    exact lookupD_storeUnless_ne 0 0 l b (by omega)

/-- An octet within the written range reads as it was written. -/
theorem memByte_memWrite_in (l : List (Nat × Byte)) (a : Nat) (bs : List Byte) (k : Nat) (h : k < bs.length) :
    memByte (memWrite l a bs) (a + k) = bs.getD k 0 := by
  induction bs generalizing l a k with
  | nil => simp at h
  | cons b t ih =>
    cases k with
    | zero =>
      rw [memWrite, memByte_memWrite_out _ _ _ _ (by omega)]
      simp [memByte, lookupD_storeUnless]
    | succ n =>
      have := ih (storeUnless 0 l a b) (a + 1) n (by simpa using h)
      rw [memWrite, show a + (n + 1) = a + 1 + n by omega, this]
      simp

end Sys2Proof.Machine
end

