-- ==== Sys2Proof/Laws/Regs.lean ====
section
/-! SUPPORT. Registers and their fields: a read after a write, every other register and field left alone. -/

namespace Sys2Proof.Machine

/-! ### Words and fields -/

/-- A word below and above a field, and the field. -/
theorem nat_split (w lo wd : Nat) : w = w / 2 ^ (lo + wd) * 2 ^ (lo + wd) + w / 2 ^ lo % 2 ^ wd * 2 ^ lo + w % 2 ^ lo := by
  have h1 := Nat.div_add_mod w (2 ^ lo)
  have h2 := Nat.div_add_mod (w / 2 ^ lo) (2 ^ wd)
  rw [Nat.div_div_eq_div_mul, ← pow_add] at h2
  calc w = 2 ^ lo * (w / 2 ^ lo) + w % 2 ^ lo := h1.symm
    _ = 2 ^ lo * (2 ^ wd * (w / 2 ^ (lo + wd)) + w / 2 ^ lo % 2 ^ wd) + w % 2 ^ lo := by rw [h2]
    _ = _ := by rw [pow_add]; ring

theorem put_toNat (f : Fld) (w : Word) (v : Nat) (h : f.lo + f.width ≤ 64) :
    (f.put w v).toNat = w.toNat / 2 ^ (f.lo + f.width) * 2 ^ (f.lo + f.width) + v % 2 ^ f.width * 2 ^ f.lo + w.toNat % 2 ^ f.lo := by
  have hs := nat_split w.toNat f.lo f.width
  have hv : v % 2 ^ f.width < 2 ^ f.width := Nat.mod_lt _ (by positivity)
  have hl : w.toNat % 2 ^ f.lo < 2 ^ f.lo := Nat.mod_lt _ (by positivity)
  have hw : w.toNat < 2 ^ 64 := w.isLt
  have hq : w.toNat / 2 ^ (f.lo + f.width) < 2 ^ (64 - (f.lo + f.width)) := by
    rw [Nat.div_lt_iff_lt_mul (by positivity), ← pow_add, show 64 - (f.lo + f.width) + (f.lo + f.width) = 64 by omega]
    exact hw
  have hm : v % 2 ^ f.width * 2 ^ f.lo + w.toNat % 2 ^ f.lo < 2 ^ (f.lo + f.width) := by
    calc v % 2 ^ f.width * 2 ^ f.lo + w.toNat % 2 ^ f.lo < v % 2 ^ f.width * 2 ^ f.lo + 2 ^ f.lo := by omega
      _ = (v % 2 ^ f.width + 1) * 2 ^ f.lo := by ring
      _ ≤ 2 ^ f.width * 2 ^ f.lo := Nat.mul_le_mul_right _ hv
      _ = 2 ^ (f.lo + f.width) := by rw [pow_add]; ring
  have ht : w.toNat / 2 ^ (f.lo + f.width) * 2 ^ (f.lo + f.width) + (v % 2 ^ f.width * 2 ^ f.lo + w.toNat % 2 ^ f.lo) < 2 ^ 64 := by
    calc _ < w.toNat / 2 ^ (f.lo + f.width) * 2 ^ (f.lo + f.width) + 2 ^ (f.lo + f.width) := by omega
      _ = (w.toNat / 2 ^ (f.lo + f.width) + 1) * 2 ^ (f.lo + f.width) := by ring
      _ ≤ 2 ^ (64 - (f.lo + f.width)) * 2 ^ (f.lo + f.width) := Nat.mul_le_mul_right _ hq
      _ = 2 ^ 64 := by rw [← pow_add]; congr 1; omega
  unfold Fld.put Fld.of
  rw [BitVec.toNat_ofNat, Nat.mod_eq_of_lt]
  · omega
  · omega

/-- A field reads back as it was put. -/
theorem of_put (f : Fld) (w : Word) (v : Nat) (h : f.lo + f.width ≤ 64) : f.of (f.put w v) = v % 2 ^ f.width := by
  have hv : v % 2 ^ f.width < 2 ^ f.width := Nat.mod_lt _ (by positivity)
  have hl : w.toNat % 2 ^ f.lo < 2 ^ f.lo := Nat.mod_lt _ (by positivity)
  rw [Fld.of, put_toNat f w v h,
    show w.toNat / 2 ^ (f.lo + f.width) * 2 ^ (f.lo + f.width) + v % 2 ^ f.width * 2 ^ f.lo + w.toNat % 2 ^ f.lo =
      w.toNat % 2 ^ f.lo + 2 ^ f.lo * (w.toNat / 2 ^ (f.lo + f.width) * 2 ^ f.width + v % 2 ^ f.width) by rw [pow_add]; ring,
    Nat.add_mul_div_left _ _ (by positivity), Nat.div_eq_of_lt hl, Nat.zero_add, Nat.mul_comm, Nat.mul_add_mod, Nat.mod_eq_of_lt hv]

/-- A field that does not overlap the one put reads as before. -/
theorem of_put_ne (f g : Fld) (w : Word) (v : Nat) (h : f.lo + f.width ≤ 64) (hd : f.lo + f.width ≤ g.lo ∨ g.lo + g.width ≤ f.lo) :
    g.of (f.put w v) = g.of w := by
  have hl : w.toNat % 2 ^ f.lo < 2 ^ f.lo := Nat.mod_lt _ (by positivity)
  have hv : v % 2 ^ f.width < 2 ^ f.width := Nat.mod_lt _ (by positivity)
  have hm : v % 2 ^ f.width * 2 ^ f.lo + w.toNat % 2 ^ f.lo < 2 ^ (f.lo + f.width) := by
    calc v % 2 ^ f.width * 2 ^ f.lo + w.toNat % 2 ^ f.lo < v % 2 ^ f.width * 2 ^ f.lo + 2 ^ f.lo := by omega
      _ = (v % 2 ^ f.width + 1) * 2 ^ f.lo := by ring
      _ ≤ 2 ^ f.width * 2 ^ f.lo := Nat.mul_le_mul_right _ hv
      _ = 2 ^ (f.lo + f.width) := by rw [pow_add]; ring
  unfold Fld.of
  rw [put_toNat f w v h]
  rcases hd with hd | hd
  · have e : (2 : Nat) ^ g.lo = 2 ^ (f.lo + f.width) * 2 ^ (g.lo - (f.lo + f.width)) := by rw [← pow_add]; congr 1; omega
    rw [e, ← Nat.div_div_eq_div_mul, ← Nat.div_div_eq_div_mul, Nat.add_assoc, Nat.mul_comm (w.toNat / _), Nat.mul_add_div (by positivity),
      Nat.div_eq_of_lt hm, Nat.add_zero]
  · have e : (2 : Nat) ^ f.lo = 2 ^ (g.lo + g.width) * 2 ^ (f.lo - (g.lo + g.width)) := by rw [← pow_add]; congr 1; omega
    have key (x : Nat) : x / 2 ^ g.lo % 2 ^ g.width = x % 2 ^ (g.lo + g.width) / 2 ^ g.lo := by
      rw [pow_add, Nat.mod_mul_right_div_self]
    rw [key, key]
    congr 1
    have e2 : (2 : Nat) ^ (f.lo + f.width) = 2 ^ f.lo * 2 ^ f.width := pow_add _ _ _
    rw [show w.toNat / 2 ^ (f.lo + f.width) * 2 ^ (f.lo + f.width) + v % 2 ^ f.width * 2 ^ f.lo + w.toNat % 2 ^ f.lo =
        2 ^ (g.lo + g.width) * (2 ^ (f.lo - (g.lo + g.width)) * (w.toNat / 2 ^ (f.lo + f.width) * 2 ^ f.width + v % 2 ^ f.width)) +
          w.toNat % 2 ^ f.lo by rw [← Nat.mul_assoc, ← e, e2]; ring,
      Nat.mul_add_mod]
    exact Nat.mod_mod_of_dvd _ ⟨_, e⟩

/-! ### Addresses -/

/-- The farthest a register's elements lie from its base within one path's view of the space. -/
def spanLow : List (Nat × Nat) → Nat
  | [] => 0
  | (n, stride) :: t => (if stride = 0x2000000 then 0 else (n - 1) * stride) + spanLow t

/-- What divides every offset of an array. -/
def strideGcd : List (Nat × Nat) → Nat
  | [] => 0
  | (_, stride) :: t => Nat.gcd stride (strideGcd t)

/-- How far a register's elements reach within a repetition of M: the dimensions whose stride is no multiple of M. -/
def spanMod (M : Nat) : List (Nat × Nat) → Nat
  | [] => 0
  | (n, stride) :: t => (if stride % M = 0 then 0 else (n - 1) * stride) + spanMod M t

/-- Two registers lie in different places of a repetition of M. -/
def Reg.apartMod (r s : Reg) (M : Nat) : Bool :=
  let a := r.spec
  let b := s.spec
  decide (a.base % M + spanMod M a.dims < M) && decide (b.base % M + spanMod M b.dims < M) &&
    (decide (a.base % M + spanMod M a.dims < b.base % M) || decide (b.base % M + spanMod M b.dims < a.base % M))

/-- Two registers share no offset: their ranges lie apart, or their elements never fall together. -/
def Reg.apart (r s : Reg) : Bool :=
  let a := r.spec
  let b := s.spec
  let g := Nat.gcd (strideGcd a.dims) (strideGcd b.dims)
  (a.dims.all fun d => decide (0 < d.1)) && (b.dims.all fun d => decide (0 < d.1)) &&
  ((decide (a.base + spanLow a.dims < 0x2000000) && decide (b.base + spanLow b.dims < 0x2000000) &&
    (decide (a.base + spanLow a.dims < b.base) || decide (b.base + spanLow b.dims < a.base))) || decide (a.base % g ≠ b.base % g) ||
    a.dims.any fun d => r.apartMod s d.2)

theorem dimsOffset_dvd (dims : List (Nat × Nat)) (i : Nat) : strideGcd dims ∣ (dimsOffset dims i).1 := by
  induction dims generalizing i with
  | nil => simp [dimsOffset, strideGcd]
  | cons d t ih =>
    obtain ⟨n, stride⟩ := d
    simp only [dimsOffset, strideGcd]
    exact Dvd.dvd.add (dvd_trans (Nat.gcd_dvd_right _ _) (ih i)) (Dvd.dvd.mul_left (Nat.gcd_dvd_left _ _) _)

theorem dimsOffset_low (dims : List (Nat × Nat)) (i : Nat) (h : dims.all (fun d => decide (0 < d.1)) = true) :
    ∃ q low, (dimsOffset dims i).1 = 0x2000000 * q + low ∧ low ≤ spanLow dims := by
  induction dims generalizing i with
  | nil => exact ⟨0, 0, by simp [dimsOffset], by simp⟩
  | cons d t ih =>
    obtain ⟨n, stride⟩ := d
    simp only [List.all_cons, Bool.and_eq_true, decide_eq_true_eq] at h
    obtain ⟨q, low, e, hl⟩ := ih i h.2
    have hn : (dimsOffset t i).2 % n < n := Nat.mod_lt _ h.1
    by_cases hs : stride = 0x2000000
    · refine ⟨q + (dimsOffset t i).2 % n, low, ?_, ?_⟩
      · simp only [dimsOffset, e, hs]; ring
      · simp [spanLow, hs]; exact hl
    · refine ⟨q, low + (dimsOffset t i).2 % n * stride, ?_, ?_⟩
      · simp only [dimsOffset, e]; ring
      · have : (dimsOffset t i).2 % n * stride ≤ (n - 1) * stride := Nat.mul_le_mul_right _ (by omega)
        simp only [spanLow, hs, if_false]; omega

theorem dimsOffset_mod (M : Nat) (dims : List (Nat × Nat)) (i : Nat) (h : dims.all (fun d => decide (0 < d.1)) = true) :
    ∃ q low, (dimsOffset dims i).1 = M * q + low ∧ low ≤ spanMod M dims := by
  induction dims generalizing i with
  | nil => exact ⟨0, 0, by simp [dimsOffset], by simp⟩
  | cons d t ih =>
    obtain ⟨n, stride⟩ := d
    simp only [List.all_cons, Bool.and_eq_true, decide_eq_true_eq] at h
    obtain ⟨q, low, e, hl⟩ := ih i h.2
    have hn : (dimsOffset t i).2 % n < n := Nat.mod_lt _ h.1
    by_cases hs : stride % M = 0
    · obtain ⟨k, hk⟩ := Nat.dvd_of_mod_eq_zero hs
      refine ⟨q + (dimsOffset t i).2 % n * k, low, ?_, ?_⟩
      · simp only [dimsOffset, e]; rw [hk]; ring
      · simp [spanMod, hs]; exact hl
    · refine ⟨q, low + (dimsOffset t i).2 % n * stride, ?_, ?_⟩
      · simp only [dimsOffset, e]; ring
      · have : (dimsOffset t i).2 % n * stride ≤ (n - 1) * stride := Nat.mul_le_mul_right _ (by omega)
        simp only [spanMod, hs, if_false]; omega

theorem addr_mod (r : Reg) (M i : Nat) (hM : r.spec.base % M + spanMod M r.spec.dims < M)
    (h : r.spec.dims.all (fun d => decide (0 < d.1)) = true) :
    r.spec.base % M ≤ r.addr i % M ∧ r.addr i % M ≤ r.spec.base % M + spanMod M r.spec.dims := by
  obtain ⟨q, low, e, hl⟩ := dimsOffset_mod M r.spec.dims i h
  have hb := Nat.div_add_mod r.spec.base M
  have e2 : r.addr i % M = r.spec.base % M + low := by
    have : r.addr i = M * (r.spec.base / M + q) + (r.spec.base % M + low) := by
      unfold Reg.addr
      rw [e, Nat.mul_add]
      omega
    rw [this, Nat.mul_add_mod, Nat.mod_eq_of_lt (by omega)]
  omega

theorem addr_ne (r s : Reg) (i j : Nat) (h : r.apart s = true) : r.addr i ≠ s.addr j := by
  intro e
  simp only [Reg.apart, Bool.and_eq_true, Bool.or_eq_true, decide_eq_true_eq] at h
  obtain ⟨⟨ha, hb⟩, hc⟩ := h
  rcases hc with (⟨⟨h1, h2⟩, h3⟩ | h3) | h3
  · obtain ⟨q, low, e1, l1⟩ := dimsOffset_low r.spec.dims i ha
    obtain ⟨q', low', e2, l2⟩ := dimsOffset_low s.spec.dims j hb
    simp only [Reg.addr, e1, e2] at e
    omega
  · apply h3
    have d1 := dimsOffset_dvd r.spec.dims i
    have d2 := dimsOffset_dvd s.spec.dims j
    have g1 := dvd_trans (Nat.gcd_dvd_left (strideGcd r.spec.dims) (strideGcd s.spec.dims)) d1
    have g2 := dvd_trans (Nat.gcd_dvd_right (strideGcd r.spec.dims) (strideGcd s.spec.dims)) d2
    simp only [Reg.addr] at e
    obtain ⟨a, ea⟩ := g1
    obtain ⟨b, eb⟩ := g2
    rw [ea, eb] at e
    have := congrArg (· % Nat.gcd (strideGcd r.spec.dims) (strideGcd s.spec.dims)) e
    simpa [Nat.add_mul_mod_self_left] using this
  · obtain ⟨d, -, h3⟩ := List.any_eq_true.mp h3
    simp only [Reg.apartMod, Bool.and_eq_true, Bool.or_eq_true, decide_eq_true_eq] at h3
    have a1 := addr_mod r d.2 i h3.1.1 ha
    have a2 := addr_mod s d.2 j h3.1.2 hb
    rw [e] at a1
    omega

theorem apart_symm (r s : Reg) (h : r.apart s = true) (i j : Nat) : s.addr j ≠ r.addr i := (addr_ne r s i j h).symm

/-! ### Registers -/

@[simp] theorem rd_wr (m : Mod) (r : Reg) (i : Nat) (w : Word) : (m.wr r i w).rd r i = w := by
  unfold Mod.wr Mod.rd
  rw [lookupD_storeUnless, if_pos rfl]

theorem rd_wr_addr (m : Mod) (r s : Reg) (i j : Nat) (w : Word) (h : s.addr j ≠ r.addr i) : (m.wr r i w).rd s j = m.rd s j := by
  unfold Mod.wr Mod.rd
  exact lookupD_storeUnless_ne _ _ _ _ h

theorem rd_wr_ne (m : Mod) (r s : Reg) (i j : Nat) (w : Word) (h : s.apart r = true) : (m.wr r i w).rd s j = m.rd s j :=
  rd_wr_addr m r s i j w (addr_ne s r j i h)

theorem rd_set_ne (m : Mod) (f : Fld) (s : Reg) (i j v : Nat) (h : s.apart f.reg = true) : (m.set f i v).rd s j = m.rd s j :=
  rd_wr_ne m f.reg s i j _ h

theorem get_set (m : Mod) (f : Fld) (i v : Nat) (h : f.lo + f.width ≤ 64) : (m.set f i v).get f i = v % 2 ^ f.width := by
  unfold Mod.get Mod.set
  rw [rd_wr, of_put _ _ _ h]

/-- Another field of the register written reads as before. -/
theorem get_set_field (m : Mod) (f g : Fld) (i v : Nat) (hr : g.reg = f.reg) (h : f.lo + f.width ≤ 64)
    (hd : f.lo + f.width ≤ g.lo ∨ g.lo + g.width ≤ f.lo) : (m.set f i v).get g i = m.get g i := by
  unfold Mod.get Mod.set
  rw [hr, rd_wr, of_put_ne f g _ _ h hd]

theorem get_set_ne (m : Mod) (f g : Fld) (i j v : Nat) (h : g.reg.apart f.reg = true) : (m.set f i v).get g j = m.get g j := by
  unfold Mod.get
  rw [rd_set_ne m f g.reg i j v h]

/-- A write of a register keeps the register file's keys strictly rising. -/
theorem wr_rising (m : Mod) (r : Reg) (i : Nat) (w : Word) (h : risingFrom 0 m.regs = true) : risingFrom 0 (m.wr r i w).regs = true :=
  storeUnless_rising _ _ _ _ h

end Sys2Proof.Machine
end

