-- ==== Sys2Proof/Laws/Events.lean ====
section
/-! SUPPORT. What raising an event, a counter or a cause can touch: the event registers, the counters, the event, SDRAM, integrity and
engine parts, and nothing else. -/

namespace Sys2Proof.Machine

/-- The module without what an event can touch. -/
def Mod.quiet (m : Mod) : Mod := { m with regs := [], ctrs := [], evt := {}, drm := {}, int := {}, eng := {} }

/-- From m to n only what events touch has changed. -/
def Told (m n : Mod) : Prop := n.quiet = m.quiet ∧ ∀ r i, evtReg r = false → n.rd r i = m.rd r i

theorem Told.refl (m : Mod) : Told m m := ⟨rfl, fun _ _ _ => rfl⟩

theorem Told.trans {a b c : Mod} (h : Told a b) (k : Told b c) : Told a c :=
  ⟨k.1.trans h.1, fun r i hr => (k.2 r i hr).trans (h.2 r i hr)⟩

theorem Told.foldl {β : Type} (f : Mod → β → Mod) (h : ∀ m b, Told m (f m b)) (l : List β) (m : Mod) : Told m (l.foldl f m) := by
  induction l generalizing m with
  | nil => exact Told.refl m
  | cons b t ih => exact (h m b).trans (ih (f m b))

theorem told_of {m n : Mod} (h : n.quiet = m.quiet) (hr : n.regs = m.regs) : Told m n :=
  ⟨h, fun r i _ => by unfold Mod.rd; rw [hr]⟩

theorem apart_ring_prod (r : Reg) (h : evtReg r = false) : r.apart .EVT_RING_PROD = true := by
  cases r <;> first | rfl | exact absurd h (by decide)

theorem apart_ring_status (r : Reg) (h : evtReg r = false) : r.apart .EVT_RING_STATUS = true := by
  cases r <;> first | rfl | exact absurd h (by decide)

theorem apart_irq_status (r : Reg) (h : evtReg r = false) : r.apart .EVT_IRQ_STATUS = true := by
  cases r <;> first | rfl | exact absurd h (by decide)

theorem apart_drm_event (r : Reg) (h : evtReg r = false) : r.apart .DRM_EVENT = true := by
  cases r <;> first | rfl | exact absurd h (by decide)

theorem apart_int_event (r : Reg) (h : evtReg r = false) : r.apart .INT_EVENT = true := by
  cases r <;> first | rfl | exact absurd h (by decide)

theorem apart_grf_event (r : Reg) (h : evtReg r = false) : r.apart .GRF_EVENT = true := by
  cases r <;> first | rfl | exact absurd h (by decide)

theorem apart_glb_event (r : Reg) (h : r ≠ .GLB_EVENT) : r.apart .GLB_EVENT = true := by
  cases r <;> first | rfl | exact absurd rfl h

theorem apart_guard_status (r : Reg) (h : r ≠ .GLB_GUARD_STATUS) : r.apart .GLB_GUARD_STATUS = true := by
  cases r <;> first | rfl | exact absurd rfl h

theorem apart_cfg_drift (r : Reg) (h : r ≠ .CFG_DRIFT) : r.apart .CFG_DRIFT = true := by
  cases r <;> first | rfl | exact absurd rfl h

theorem apart_dmp_event (r : Reg) (h : r ≠ .DMP_EVENT) : r.apart .DMP_EVENT = true := by
  cases r <;> first | rfl | exact absurd rfl h

theorem told_wr (m : Mod) (r : Reg) (i : Nat) (w : Word) (h : ∀ s, evtReg s = false → s.apart r = true) : Told m (m.wr r i w) :=
  ⟨by simp [Mod.quiet], fun s j hs => rd_wr_ne m r s i j w (h s hs)⟩

theorem told_set (m : Mod) (f : Fld) (i v : Nat) (h : ∀ s, evtReg s = false → s.apart f.reg = true) : Told m (m.set f i v) := by
  unfold Mod.set
  exact told_wr m f.reg i _ h

theorem told_satAdd (m : Mod) (f : Fld) (i n : Nat) (h : ∀ s, evtReg s = false → s.apart f.reg = true) : Told m (m.satAdd f i n) := by
  unfold Mod.satAdd
  exact told_set m f i _ h

theorem told_sqcBit (m : Mod) (f : Fld) (k i : Nat) (h : ∀ s, evtReg s = false → s.apart f.reg = true) : Told m (m.sqcBit f k i) := by
  unfold Mod.sqcBit
  exact told_wr m f.reg i _ h

theorem told_pfCause (m : Mod) (v : Nat) : Told m (m.pfCause v) := by
  unfold Mod.pfCause
  exact (told_sqcBit m EVT_IRQ_STATUS_PEND v 0 apart_irq_status).trans (told_of (by simp [Mod.quiet]) (by simp))

theorem told_hedgeCause (m : Mod) (h n : Nat) : Told m (m.hedgeCause h n) := by
  unfold Mod.hedgeCause
  split
  · exact told_pfCause m h
  · exact told_of (by simp [Mod.quiet]) (by simp)

theorem told_vjoin (m : Mod) (ch h : Nat) : Told m (m.vjoin ch h) := by
  unfold Mod.vjoin
  split
  · exact Told.refl m
  · exact told_of (by simp [Mod.quiet]) (by simp)

theorem told_writeModes (m : Mod) (ch : Nat) : Told m (m.writeModes ch) := by
  unfold Mod.writeModes
  refine Told.foldl _ ?_ _ _
  intro m s
  extract_lets
  split
  · exact Told.refl m
  · exact told_of (by simp [Mod.quiet]) (by simp)

theorem told_drmQueue (m : Mod) (who : Requester) (h a : Nat) (w : Bool) (ch : Nat) : Told m (m.drmQueue who h a w ch) := by
  unfold Mod.drmQueue
  extract_lets _ _ n
  split
  · exact Told.refl m
  · have h1 : Told m n := by
      show Told m (if _ then _ else _)
      split
      · exact Told.refl m
      · exact told_vjoin m ch h
    exact (h1.trans (told_of (by simp [Mod.quiet]) (by simp))).trans (told_writeModes _ ch)

theorem told_drmPost (m : Mod) (who : Requester) (h a : Nat) (bs : List Byte) : Told m (m.drmPost who h a bs) := by
  unfold Mod.drmPost
  refine Told.trans ?_ (Told.foldl _ ?_ _ _)
  · exact told_of (by simp [Mod.quiet]) (by simp)
  · intro m b
    exact Told.foldl _ (fun m c => told_drmQueue m _ _ _ _ _) _ _

theorem told_ringStore (m : Mod) (h off : Nat) (bs : List Byte) : Told m (m.ringStore h off bs) := by
  unfold Mod.ringStore
  extract_lets
  split
  · exact told_drmPost _ _ _ _ _
  · split
    · exact told_of (by simp [Mod.quiet]) (by simp)
    · exact Told.refl m
  · split
    · exact told_of (by simp [Mod.quiet]) (by simp)
    · exact Told.refl m

theorem told_ringWrite (m : Mod) (h : Nat) (e : Ev) : Told m (m.ringWrite h e) := by
  unfold Mod.ringWrite
  extract_lets prod rec128 m1 m2 m3 m4
  have h1 : Told m m1 := told_ringStore _ _ _ _
  have h2 : Told m1 m2 := told_set _ _ _ _ apart_ring_prod
  have h3 : Told m2 m3 := by
    show Told m2 (if _ then _ else _)
    split
    · exact Told.refl _
    · exact told_ringStore _ _ _ _
  have h4 : Told m3 m4 := told_set _ _ _ _ apart_ring_status
  exact (((h1.trans h2).trans h3).trans h4).trans (told_hedgeCause _ _ _)

theorem told_evt (m : Mod) (x : EvtSt) : Told m (m.withEvt x) := told_of (by simp [Mod.quiet]) (by simp)

theorem told_ringOffer (m : Mod) (h : Nat) (e : Ev) : Told m (m.ringOffer h e) := by
  have h1 := told_satAdd m EVT_RING_STATUS_DROPPED h 1 apart_ring_status
  have h2 := told_ringWrite m h e
  unfold Mod.ringOffer
  generalize m.satAdd EVT_RING_STATUS_DROPPED h 1 = a at h1 ⊢
  generalize m.ringWrite h e = b at h2 ⊢
  split
  · exact h1.trans (told_evt a _)
  · exact h2.trans (told_evt b _)

theorem told_eventRings (m : Mod) (e : Ev) : Told m (m.eventRings e) := by
  unfold Mod.eventRings
  extract_lets m1
  have h1 : Told m m1 := Told.foldl _ (fun m b => told_ringOffer m b e) _ m
  split
  · exact h1.trans (told_pfCause _ _)
  · exact h1

/-- What EV_DROP says, when what it raises says no more (R281). -/
theorem told_evDrop (m : Mod) (c : Nat) (say : Mod → Ev → Mod) (h : ∀ m e, Told m (say m e)) : Told m (m.evDrop c say) := by
  unfold Mod.evDrop
  extract_lets k v m1
  have h1 : Told m m1 := told_of (by simp [m1, Mod.quiet]) (by simp [m1])
  split
  · exact h1.trans (h _ _)
  · exact h1

/-- A routed event touches only what events touch (R281). -/
theorem told_eventVia (n : Nat) (m : Mod) (e : Ev) : Told m (Mod.eventVia n m e) := by
  induction n generalizing m e with
  | zero => exact told_of (by simp [Mod.eventVia, Mod.quiet]) (by simp [Mod.eventVia])
  | succ n ih =>
    unfold Mod.eventVia
    split
    · exact told_of (by simp [Mod.quiet]) (by simp)
    · extract_lets c
      split
      · exact told_evDrop _ _ _ fun m e => (told_eventRings m e).trans (ih _ e)
      · exact told_of (by simp [Mod.quiet]) (by simp)

theorem told_eventRoute (m : Mod) (e : Ev) : Told m (m.eventRoute e) := told_eventVia 5 m e

/-- An event touches nothing but what events touch. -/
theorem told_event (m : Mod) (e : Ev) : Told m (m.event e) := (told_eventRings m e).trans (told_eventRoute _ e)

theorem told_halfBit (m : Mod) (c : Ctr) : Told m (m.halfBit c) := by
  unfold Mod.halfBit
  split
  · exact told_sqcBit m _ _ _ apart_drm_event
  · split
    · exact told_sqcBit m _ _ _ apart_int_event
    · split
      · exact told_sqcBit m _ _ _ apart_grf_event
      · exact Told.refl m

theorem told_bump (m : Mod) (c : Ctr) (n : Nat) : Told m (m.bump c n) := by
  unfold Mod.bump
  extract_lets v m1
  have h1 : Told m m1 := told_of (by simp [m1, Mod.quiet]) (by simp [m1])
  split
  · exact (h1.trans (told_halfBit _ c)).trans (told_event _ _)
  · exact h1

theorem told_rateGate (m : Mod) (k : Nat) : Told m (m.rateGate k).2 := by
  unfold Mod.rateGate
  split
  · split
    · exact Told.refl m
    · exact told_of (by simp [Mod.quiet]) (by simp)
  · exact told_of (by simp [Mod.quiet]) (by simp)

theorem told_eventRated (m : Mod) (k : Nat) (e : Ev) : Told m (m.eventRated k e) := by
  unfold Mod.eventRated
  extract_lets g
  split
  · exact (told_rateGate m k).trans (told_event _ _)
  · exact Told.refl m

/-! ### Each part that is left -/

theorem Told.free {m n : Mod} (h : Told m n) : n.free = m.free := by simpa [Mod.quiet] using congrArg Mod.free h.1
theorem Told.tick {m n : Mod} (h : Told m n) : n.tick = m.tick := by simpa [Mod.quiet] using congrArg Mod.tick h.1
theorem Told.win {m n : Mod} (h : Told m n) : n.win = m.win := by simpa [Mod.quiet] using congrArg Mod.win h.1
theorem Told.time {m n : Mod} (h : Told m n) : n.time = m.time := by simpa [Mod.quiet] using congrArg Mod.time h.1
theorem Told.hdg {m n : Mod} (h : Told m n) : n.hdg = m.hdg := by simpa [Mod.quiet] using congrArg Mod.hdg h.1
theorem Told.prt {m n : Mod} (h : Told m n) : n.prt = m.prt := by simpa [Mod.quiet] using congrArg Mod.prt h.1
theorem Told.cls {m n : Mod} (h : Told m n) : n.cls = m.cls := by simpa [Mod.quiet] using congrArg Mod.cls h.1
theorem Told.fwd {m n : Mod} (h : Told m n) : n.fwd = m.fwd := by simpa [Mod.quiet] using congrArg Mod.fwd h.1
theorem Told.buf {m n : Mod} (h : Told m n) : n.buf = m.buf := by simpa [Mod.quiet] using congrArg Mod.buf h.1
theorem Told.sch {m n : Mod} (h : Told m n) : n.sch = m.sch := by simpa [Mod.quiet] using congrArg Mod.sch h.1
theorem Told.clp {m n : Mod} (h : Told m n) : n.clp = m.clp := by simpa [Mod.quiet] using congrArg Mod.clp h.1
theorem Told.pin {m n : Mod} (h : Told m n) : n.pin = m.pin := by simpa [Mod.quiet] using congrArg Mod.pin h.1
theorem Told.pwr {m n : Mod} (h : Told m n) : n.pwr = m.pwr := by simpa [Mod.quiet] using congrArg Mod.pwr h.1
theorem Told.nvm {m n : Mod} (h : Told m n) : n.nvm = m.nvm := by simpa [Mod.quiet] using congrArg Mod.nvm h.1
theorem Told.upd {m n : Mod} (h : Told m n) : n.upd = m.upd := by simpa [Mod.quiet] using congrArg Mod.upd h.1
theorem Told.boot {m n : Mod} (h : Told m n) : n.boot = m.boot := by simpa [Mod.quiet] using congrArg Mod.boot h.1
theorem Told.dmp {m n : Mod} (h : Told m n) : n.dmp = m.dmp := by simpa [Mod.quiet] using congrArg Mod.dmp h.1
theorem Told.arm {m n : Mod} (h : Told m n) : n.arm = m.arm := by simpa [Mod.quiet] using congrArg Mod.arm h.1

@[simp] theorem event_free (m : Mod) (e : Ev) : (m.event e).free = m.free := (told_event m e).free
@[simp] theorem event_tick (m : Mod) (e : Ev) : (m.event e).tick = m.tick := (told_event m e).tick
@[simp] theorem event_win (m : Mod) (e : Ev) : (m.event e).win = m.win := (told_event m e).win
@[simp] theorem event_time (m : Mod) (e : Ev) : (m.event e).time = m.time := (told_event m e).time
@[simp] theorem event_hdg (m : Mod) (e : Ev) : (m.event e).hdg = m.hdg := (told_event m e).hdg
@[simp] theorem event_prt (m : Mod) (e : Ev) : (m.event e).prt = m.prt := (told_event m e).prt
@[simp] theorem event_cls (m : Mod) (e : Ev) : (m.event e).cls = m.cls := (told_event m e).cls
@[simp] theorem event_fwd (m : Mod) (e : Ev) : (m.event e).fwd = m.fwd := (told_event m e).fwd
@[simp] theorem event_buf (m : Mod) (e : Ev) : (m.event e).buf = m.buf := (told_event m e).buf
@[simp] theorem event_sch (m : Mod) (e : Ev) : (m.event e).sch = m.sch := (told_event m e).sch
@[simp] theorem event_clp (m : Mod) (e : Ev) : (m.event e).clp = m.clp := (told_event m e).clp
@[simp] theorem event_pin (m : Mod) (e : Ev) : (m.event e).pin = m.pin := (told_event m e).pin
@[simp] theorem event_pwr (m : Mod) (e : Ev) : (m.event e).pwr = m.pwr := (told_event m e).pwr
@[simp] theorem event_nvm (m : Mod) (e : Ev) : (m.event e).nvm = m.nvm := (told_event m e).nvm
@[simp] theorem event_upd (m : Mod) (e : Ev) : (m.event e).upd = m.upd := (told_event m e).upd
@[simp] theorem event_boot (m : Mod) (e : Ev) : (m.event e).boot = m.boot := (told_event m e).boot
@[simp] theorem event_dmp (m : Mod) (e : Ev) : (m.event e).dmp = m.dmp := (told_event m e).dmp
@[simp] theorem event_arm (m : Mod) (e : Ev) : (m.event e).arm = m.arm := (told_event m e).arm
theorem event_rd (m : Mod) (e : Ev) (r : Reg) (i : Nat) (hr : evtReg r = false) : (m.event e).rd r i = m.rd r i :=
  (told_event m e).2 r i hr
theorem event_get (m : Mod) (e : Ev) (f : Fld) (i : Nat) (hr : evtReg f.reg = false) : (m.event e).get f i = m.get f i :=
  congrArg f.of ((told_event m e).2 f.reg i hr)

@[simp] theorem bump_free (m : Mod) (c : Ctr) (n : Nat) : (m.bump c n).free = m.free := (told_bump m c n).free
@[simp] theorem bump_tick (m : Mod) (c : Ctr) (n : Nat) : (m.bump c n).tick = m.tick := (told_bump m c n).tick
@[simp] theorem bump_win (m : Mod) (c : Ctr) (n : Nat) : (m.bump c n).win = m.win := (told_bump m c n).win
@[simp] theorem bump_time (m : Mod) (c : Ctr) (n : Nat) : (m.bump c n).time = m.time := (told_bump m c n).time
@[simp] theorem bump_hdg (m : Mod) (c : Ctr) (n : Nat) : (m.bump c n).hdg = m.hdg := (told_bump m c n).hdg
@[simp] theorem bump_prt (m : Mod) (c : Ctr) (n : Nat) : (m.bump c n).prt = m.prt := (told_bump m c n).prt
@[simp] theorem bump_cls (m : Mod) (c : Ctr) (n : Nat) : (m.bump c n).cls = m.cls := (told_bump m c n).cls
@[simp] theorem bump_fwd (m : Mod) (c : Ctr) (n : Nat) : (m.bump c n).fwd = m.fwd := (told_bump m c n).fwd
@[simp] theorem bump_buf (m : Mod) (c : Ctr) (n : Nat) : (m.bump c n).buf = m.buf := (told_bump m c n).buf
@[simp] theorem bump_sch (m : Mod) (c : Ctr) (n : Nat) : (m.bump c n).sch = m.sch := (told_bump m c n).sch
@[simp] theorem bump_clp (m : Mod) (c : Ctr) (n : Nat) : (m.bump c n).clp = m.clp := (told_bump m c n).clp
@[simp] theorem bump_pin (m : Mod) (c : Ctr) (n : Nat) : (m.bump c n).pin = m.pin := (told_bump m c n).pin
@[simp] theorem bump_pwr (m : Mod) (c : Ctr) (n : Nat) : (m.bump c n).pwr = m.pwr := (told_bump m c n).pwr
@[simp] theorem bump_nvm (m : Mod) (c : Ctr) (n : Nat) : (m.bump c n).nvm = m.nvm := (told_bump m c n).nvm
@[simp] theorem bump_upd (m : Mod) (c : Ctr) (n : Nat) : (m.bump c n).upd = m.upd := (told_bump m c n).upd
@[simp] theorem bump_boot (m : Mod) (c : Ctr) (n : Nat) : (m.bump c n).boot = m.boot := (told_bump m c n).boot
@[simp] theorem bump_dmp (m : Mod) (c : Ctr) (n : Nat) : (m.bump c n).dmp = m.dmp := (told_bump m c n).dmp
@[simp] theorem bump_arm (m : Mod) (c : Ctr) (n : Nat) : (m.bump c n).arm = m.arm := (told_bump m c n).arm
theorem bump_rd (m : Mod) (c : Ctr) (n : Nat) (r : Reg) (i : Nat) (hr : evtReg r = false) : (m.bump c n).rd r i = m.rd r i :=
  (told_bump m c n).2 r i hr
theorem bump_get (m : Mod) (c : Ctr) (n : Nat) (f : Fld) (i : Nat) (hr : evtReg f.reg = false) : (m.bump c n).get f i = m.get f i :=
  congrArg f.of ((told_bump m c n).2 f.reg i hr)

@[simp] theorem eventRated_free (m : Mod) (k : Nat) (e : Ev) : (m.eventRated k e).free = m.free := (told_eventRated m k e).free
@[simp] theorem eventRated_tick (m : Mod) (k : Nat) (e : Ev) : (m.eventRated k e).tick = m.tick := (told_eventRated m k e).tick
@[simp] theorem eventRated_win (m : Mod) (k : Nat) (e : Ev) : (m.eventRated k e).win = m.win := (told_eventRated m k e).win
@[simp] theorem eventRated_time (m : Mod) (k : Nat) (e : Ev) : (m.eventRated k e).time = m.time := (told_eventRated m k e).time
@[simp] theorem eventRated_hdg (m : Mod) (k : Nat) (e : Ev) : (m.eventRated k e).hdg = m.hdg := (told_eventRated m k e).hdg
@[simp] theorem eventRated_prt (m : Mod) (k : Nat) (e : Ev) : (m.eventRated k e).prt = m.prt := (told_eventRated m k e).prt
@[simp] theorem eventRated_cls (m : Mod) (k : Nat) (e : Ev) : (m.eventRated k e).cls = m.cls := (told_eventRated m k e).cls
@[simp] theorem eventRated_fwd (m : Mod) (k : Nat) (e : Ev) : (m.eventRated k e).fwd = m.fwd := (told_eventRated m k e).fwd
@[simp] theorem eventRated_buf (m : Mod) (k : Nat) (e : Ev) : (m.eventRated k e).buf = m.buf := (told_eventRated m k e).buf
@[simp] theorem eventRated_sch (m : Mod) (k : Nat) (e : Ev) : (m.eventRated k e).sch = m.sch := (told_eventRated m k e).sch
@[simp] theorem eventRated_clp (m : Mod) (k : Nat) (e : Ev) : (m.eventRated k e).clp = m.clp := (told_eventRated m k e).clp
@[simp] theorem eventRated_pin (m : Mod) (k : Nat) (e : Ev) : (m.eventRated k e).pin = m.pin := (told_eventRated m k e).pin
@[simp] theorem eventRated_pwr (m : Mod) (k : Nat) (e : Ev) : (m.eventRated k e).pwr = m.pwr := (told_eventRated m k e).pwr
@[simp] theorem eventRated_nvm (m : Mod) (k : Nat) (e : Ev) : (m.eventRated k e).nvm = m.nvm := (told_eventRated m k e).nvm
@[simp] theorem eventRated_upd (m : Mod) (k : Nat) (e : Ev) : (m.eventRated k e).upd = m.upd := (told_eventRated m k e).upd
@[simp] theorem eventRated_boot (m : Mod) (k : Nat) (e : Ev) : (m.eventRated k e).boot = m.boot := (told_eventRated m k e).boot
@[simp] theorem eventRated_dmp (m : Mod) (k : Nat) (e : Ev) : (m.eventRated k e).dmp = m.dmp := (told_eventRated m k e).dmp
@[simp] theorem eventRated_arm (m : Mod) (k : Nat) (e : Ev) : (m.eventRated k e).arm = m.arm := (told_eventRated m k e).arm
theorem eventRated_rd (m : Mod) (k : Nat) (e : Ev) (r : Reg) (i : Nat) (hr : evtReg r = false) : (m.eventRated k e).rd r i = m.rd r i :=
  (told_eventRated m k e).2 r i hr
theorem eventRated_get (m : Mod) (k : Nat) (e : Ev) (f : Fld) (i : Nat) (hr : evtReg f.reg = false) : (m.eventRated k e).get f i = m.get f i :=
  congrArg f.of ((told_eventRated m k e).2 f.reg i hr)

@[simp] theorem pfCause_free (m : Mod) (v : Nat) : (m.pfCause v).free = m.free := (told_pfCause m v).free
@[simp] theorem pfCause_tick (m : Mod) (v : Nat) : (m.pfCause v).tick = m.tick := (told_pfCause m v).tick
@[simp] theorem pfCause_win (m : Mod) (v : Nat) : (m.pfCause v).win = m.win := (told_pfCause m v).win
@[simp] theorem pfCause_time (m : Mod) (v : Nat) : (m.pfCause v).time = m.time := (told_pfCause m v).time
@[simp] theorem pfCause_hdg (m : Mod) (v : Nat) : (m.pfCause v).hdg = m.hdg := (told_pfCause m v).hdg
@[simp] theorem pfCause_prt (m : Mod) (v : Nat) : (m.pfCause v).prt = m.prt := (told_pfCause m v).prt
@[simp] theorem pfCause_cls (m : Mod) (v : Nat) : (m.pfCause v).cls = m.cls := (told_pfCause m v).cls
@[simp] theorem pfCause_fwd (m : Mod) (v : Nat) : (m.pfCause v).fwd = m.fwd := (told_pfCause m v).fwd
@[simp] theorem pfCause_buf (m : Mod) (v : Nat) : (m.pfCause v).buf = m.buf := (told_pfCause m v).buf
@[simp] theorem pfCause_sch (m : Mod) (v : Nat) : (m.pfCause v).sch = m.sch := (told_pfCause m v).sch
@[simp] theorem pfCause_clp (m : Mod) (v : Nat) : (m.pfCause v).clp = m.clp := (told_pfCause m v).clp
@[simp] theorem pfCause_pin (m : Mod) (v : Nat) : (m.pfCause v).pin = m.pin := (told_pfCause m v).pin
@[simp] theorem pfCause_pwr (m : Mod) (v : Nat) : (m.pfCause v).pwr = m.pwr := (told_pfCause m v).pwr
@[simp] theorem pfCause_nvm (m : Mod) (v : Nat) : (m.pfCause v).nvm = m.nvm := (told_pfCause m v).nvm
@[simp] theorem pfCause_upd (m : Mod) (v : Nat) : (m.pfCause v).upd = m.upd := (told_pfCause m v).upd
@[simp] theorem pfCause_boot (m : Mod) (v : Nat) : (m.pfCause v).boot = m.boot := (told_pfCause m v).boot
@[simp] theorem pfCause_dmp (m : Mod) (v : Nat) : (m.pfCause v).dmp = m.dmp := (told_pfCause m v).dmp
@[simp] theorem pfCause_arm (m : Mod) (v : Nat) : (m.pfCause v).arm = m.arm := (told_pfCause m v).arm
theorem pfCause_rd (m : Mod) (v : Nat) (r : Reg) (i : Nat) (hr : evtReg r = false) : (m.pfCause v).rd r i = m.rd r i :=
  (told_pfCause m v).2 r i hr
theorem pfCause_get (m : Mod) (v : Nat) (f : Fld) (i : Nat) (hr : evtReg f.reg = false) : (m.pfCause v).get f i = m.get f i :=
  congrArg f.of ((told_pfCause m v).2 f.reg i hr)

end Sys2Proof.Machine
end

