-- ==== Sys2Proof/Laws/Access.lean ====
section
/-! SUPPORT. What a command's outcome is made of, and what a write that reaches its block does. -/

namespace Sys2Proof.Machine

theorem act_next (s : State) (f : Mod → Mod) (h : s.Running) : s.act f = .next { s with m := f s.m } := by
  unfold State.act; rw [if_pos (show s.m.dieUp = true from h)]

theorem actPc_next (s : State) (f : Mod → Mod) (h : s.Powered) : s.actPc f = .next { s with m := f s.m } := by
  unfold State.actPc; rw [if_pos (show s.m.pcUp = true from h)]

theorem actLocks_next (s : State) (f : BitVec 5 → Mod → BitVec 5 × Mod) (h : s.Running) :
    s.actLocks f = .next { s with locks := (f s.locks s.m).1, m := (f s.locks s.m).2 } := by
  unfold State.actLocks; rw [if_pos (show s.m.dieUp = true from h)]

theorem lock_open (s : State) (r : Reg) (h : ∀ g, lockGroup r = some g → s.locks.getLsbD g = false) :
    (lockGroup r).filter (fun g => s.locks.getLsbD g) = none := by
  cases hg : lockGroup r with
  | none => rfl
  | some g => simp [Option.filter, h g hg]

theorem fieldWrite_taken (m : Mod) (s : State) (p : Path) (r : Reg) (j : Nat) (v : Word) (x : Option Found)
    (hl : ∀ g, lockGroup r = some g → s.locks.getLsbD g = false)
    (hd : ∀ f ∈ settable r, ((definedFields r (m.rdStaged r j) v).any fun d => d.lo == f.lo) = true)
    (hp : isCluster p = false ∨ m.flag GLB_STATUS_HEADLESS = false) :
    m.fieldWrite s.locks p r j v x =
      { took := .taken, locks := s.locks, m := m.took r j (m.blockWrite s.locks (wholeWrite p r j v) x) } := by
  have hbar (b : Bool) : (m.flag GLB_STATUS_HEADLESS && isCluster p && b) = false := by
    rcases hp with hp | hp <;> simp [hp]
  have hj : (settable r).filter (fun f => !((definedFields r (m.rdStaged r j) v).any fun d => d.lo == f.lo)) = [] := by
    rw [List.filter_eq_nil_iff]; intro f hf; simp [hd f hf]
  have ht : (settable r).filter (fun f => (definedFields r (m.rdStaged r j) v).any fun d => d.lo == f.lo) = settable r := by
    rw [List.filter_eq_self]; exact hd
  unfold Mod.fieldWrite
  simp only [lock_open s r hl, Option.isSome_none, Bool.false_and, if_false, Bool.false_eq_true]
  unfold settable at hj ht
  simp only [hj, ht, List.isEmpty_nil, Bool.not_true, Bool.and_false, if_true, if_false, Bool.false_eq_true, hbar]
  rfl

/-- A granted write is its block's answer. -/
theorem put_granted (s : State) (p : Path) (r : Reg) (i j : Nat) (v : Word) (x : Option Found) (h : s.Granted p r i j v) :
    s.put p r i v x =
      .next { s with m := (s.m.spent p r).took r j ((s.m.spent p r).blockWrite s.locks (wholeWrite p r j v) x) } := by
  have hw : (s.m.fabricWrite s.locks p (r.addr i) 8 v x none) =
      { took := .taken, locks := s.locks, m := (s.m.spent p r).took r j ((s.m.spent p r).blockWrite s.locks (wholeWrite p r j v) x) } := by
    unfold Mod.fabricWrite
    have ha := h.aligned
    simp only [h.arrives, h.placed, ha.1, Bool.true_eq_false, if_false, ne_eq, not_true_eq_false, or_self]
    rw [if_neg (by omega), if_neg (by omega)]
    have hdec : s.m.decodedWrite s.locks p (r.addr i) r j v x none = s.m.plainWrite s.locks p r j v x := by
      have hs := h.special
      unfold Mod.decodedWrite
      split
      · exact absurd rfl hs.1
      · exact absurd rfl hs.2.1
      · rw [hs.2.2]
    rw [hdec]
    have hf := fieldWrite_taken (s.m.spent p r) s p r j v x h.open_ h.defined h.present
    have hr := h.right
    have hg := h.guard
    unfold Mod.plainWrite
    cases hk : keyGroup r with
    | none =>
      simp only [Mod.spent, hk] at hf hr ⊢
      rw [hr]
      simp only [h.noSqc, Bool.false_eq_true, if_false]
      exact hf
    | some g =>
      simp only [Mod.spent, hk, Option.any_some] at hf hr ⊢
      have hg := hg g hk
      simp only [Mod.spent, hk] at hg
      generalize (if s.m.isArmed p g = true then s.m.disarm p g else s.m) = M at hf hr hg ⊢
      rw [hr]
      simp only [h.noSqc, Bool.false_eq_true, if_false]
      rcases hg with hg | ⟨ha', hv⟩
      · rw [hg]; simp only [if_true]; exact hf
      · simp only [ha', hv, Option.isSome_none, Bool.true_eq_false, Bool.false_eq_true, if_false, ite_self]; exact hf
  unfold State.put State.write
  rw [actLocks_next s _ h.running]
  simp only [Access.pair, hw]

/-- A window command that is not GRF_CMD and reaches its block. -/
theorem put_opened (s : State) (p : Path) (r : Reg) (i j : Nat) (w : WinId) (v : Word) (x : Option Found) (h : s.Opened p r i j w v)
    (hr : r ≠ .GRF_CMD) :
    s.put p r i v x =
      .next { s with m := (s.m.winCommand p r j (writable r (s.m.rd r j) v) true []).winDrift s.m p r v } := by
  have hw : (s.m.fabricWrite s.locks p (r.addr i) 8 v x none) =
      { took := .taken, locks := s.locks, m := (s.m.winCommand p r j (writable r (s.m.rd r j) v) true []).winDrift s.m p r v } := by
    unfold Mod.fabricWrite
    have ha := h.aligned
    simp only [h.arrives, h.placed, ha.1, Bool.true_eq_false, if_false, ne_eq, not_true_eq_false, or_self]
    rw [if_neg (by omega), if_neg (by omega)]
    have hdec : s.m.decodedWrite s.locks p (r.addr i) r j v x none = s.m.winWrite s.locks p w true r j v x := by
      have hs := h.special
      unfold Mod.decodedWrite
      split
      · exact absurd rfl hs.1
      · exact absurd rfl hs.2.1
      · rw [hs.2.2]
        simp only [h.free.1, h.free.2, Bool.or_self, Bool.false_eq_true, if_false]
    rw [hdec]
    unfold Mod.winWrite
    rw [h.right]
    simp only [hr, false_and, if_false]
    unfold Mod.windowWrite
    simp only [Bool.true_eq_false, if_false, h.defined, Bool.false_eq_true, h.present, h.named]
  unfold State.put State.write
  rw [actLocks_next s _ h.running]
  simp only [Access.pair, hw]

end Sys2Proof.Machine
end

