-- ==== Sys2Proof/Laws/Exec.lean ====
section
/-! SUPPORT. Each command's outcome as its meaning gives it, by rfl. -/

namespace Sys2Proof.Machine

theorem exec_registerWrite (p : Path) (off : Nat) (len : Nat) (v : Word) (s : State) :
    exec (.registerWrite p off len v) s = s.write p off len v none := rfl

theorem exec_sequenceClear (p : Path) (off : Nat) (v : Word) (s : State) :
    exec (.sequenceClear p off v) s = s.write p off 8 v none := rfl

theorem exec_unlock (p : Path) (group : BitVec 4) (key : BitVec 16) (s : State) :
    exec (.unlock p group key) s = s.put p .GLB_UNLOCK 0 (GLB_UNLOCK_KEY.put (GLB_UNLOCK_GROUP.put 0 group.toNat) key.toNat) none := rfl

theorem exec_lock (p : Path) (bits : BitVec 5) (s : State) :
    exec (.lock p bits) s = s.put p .GLB_LOCK 0 (GLB_LOCK_LOCK.put 0 bits.toNat) none := rfl

theorem exec_jtagLowWrite (v : BitVec 32) (s : State) :
    exec (.jtagLowWrite v) s = s.act (·.jtagLow v) := rfl

theorem exec_jtagHighWrite (off : Nat) (v : BitVec 32) (s : State) :
    exec (.jtagHighWrite off v) s = s.actLocks fun l m => (m.jtagHigh l off v).pair := rfl

theorem exec_jtagInstruction (pinControl resetLow : Bool) (code : BitVec 8) (s : State) :
    exec (.jtagInstruction pinControl resetLow code) s = s.act (·.tapLoads pinControl resetLow code) := rfl

theorem exec_tickCommit (s : State) :
    exec (.tickCommit) s = s.actLocks fun l m => m.tickCommit l := rfl

theorem exec_tickPeriodWrite (p : Path) (period : BitVec 4) (s : State) :
    exec (.tickPeriodWrite p period) s = s.put p .GLB_TICK_CFG 0 (s.revised GLB_TICK_CFG_PERIOD 0 period.toNat) none := rfl

theorem exec_periodChange (s : State) :
    exec (.periodChange) s = s.act (·.periodChange) := rfl

theorem exec_tickJobDue (s : State) :
    exec (.tickJobDue) s = s.act (·.tickJobsDue) := rfl

theorem exec_fence (p : Path) (token : BitVec 32) (s : State) :
    exec (.fence p token) s = s.put p .GLB_FENCE 0 (GLB_FENCE_TOKEN.put 0 token.toNat) none := rfl

theorem exec_fenceDone (s : State) :
    exec (.fenceDone) s = s.act (·.fenceDone) := rfl

theorem exec_tickFence (p : Path) (token : BitVec 32) (s : State) :
    exec (.tickFence p token) s = s.put p .GLB_TICK_FENCE 0 (GLB_TICK_FENCE_TOKEN.put 0 token.toNat) none := rfl

theorem exec_frameReceived (p : Fin 128) (octets : List Byte) (line : LineErrs) (ago : Nat) (s : State) :
    exec (.frameReceived p octets line ago) s = s.act fun m => (m.fecSeen p.val line).frameReceived p.val octets line.symbol ago := rfl

theorem exec_ctIngressDecision (p : Fin 128) (octets : List Byte) (line : LineErrs) (ago : Nat) (s : State) :
    exec (.ctIngressDecision p octets line ago) s = s.act fun m => (m.fecSeen p.val line).ctIngressDecision p.val octets line.symbol ago := rfl

theorem exec_ctFrameEnd (p : Fin 128) (fault : ReadFault) (s : State) :
    exec (.ctFrameEnd p fault) s = s.act (·.ctFrameEnd p.val fault) := rfl

theorem exec_internalInject (w : Injected) (s : State) :
    exec (.internalInject w) s = s.act fun m => (m.internalInject w).settleEnds := rfl

theorem exec_egressSelect (d : Fin 134) (fault : ReadFault) (s : State) :
    exec (.egressSelect d fault) s = s.act (·.egressSelect d.val fault) := rfl

theorem exec_copyDeparted (d : Fin 134) (s : State) :
    exec (.copyDeparted d) s = s.act (·.copyDeparted d.val) := rfl

theorem exec_pfcSend (p : Fin 128) (s : State) :
    exec (.pfcSend p) s = s.act (·.pfcSend p.val) := rfl

theorem exec_pfcRefresh (p : Fin 128) (s : State) :
    exec (.pfcRefresh p) s = s.act (·.pfcRefresh p.val) := rfl

theorem exec_pauseReceived (p : Fin 128) (octets : List Byte) (s : State) :
    exec (.pauseReceived p octets) s = s.act (·.pauseReceived p.val octets) := rfl

theorem exec_pauseExpiry (p : Fin 128) (c : Fin 8) (s : State) :
    exec (.pauseExpiry p c) s = s.act (·.pauseExpiry p.val c.val) := rfl

theorem exec_lpiEntry (p : Fin 128) (s : State) :
    exec (.lpiEntry p) s = s.act (·.lpiEntry p.val) := rfl

theorem exec_rxLpiEntry (p : Fin 128) (s : State) :
    exec (.rxLpiEntry p) s = s.act (·.rxLpiEntry p.val) := rfl

theorem exec_portCfgWrite (path : Path) (p : Fin 128) (v : Word) (s : State) :
    exec (.portCfgWrite path p v) s = s.put path .PRT_PORT_CFG p.val v none := rfl

theorem exec_anRestart (p : Fin 128) (s : State) :
    exec (.anRestart p) s = s.act (·.anRestart p.val) := rfl

theorem exec_trainingFail (p lane : Fin 128) (s : State) :
    exec (.trainingFail p lane) s = s.act (·.trainingFail p.val lane.val) := rfl

theorem exec_linkUp (p : Fin 128) (s : State) :
    exec (.linkUp p) s = s.act (·.linkUp p.val) := rfl

theorem exec_linkDown (p : Fin 128) (why : LinkLoss) (s : State) :
    exec (.linkDown p why) s = s.act (·.linkDown p.val why) := rfl

theorem exec_portSleep (path : Path) (p : Fin 128) (s : State) :
    exec (.portSleep path p) s = s.put path .PRT_PORT_CFG p.val (s.revised PRT_PORT_CFG_ADMIN p.val 2) none := rfl

theorem exec_tileStateRequest (path : Path) (t : Fin 8) (v : Word) (s : State) :
    exec (.tileStateRequest path t v) s = s.put path .PRT_TILE_CTL t.val v none := rfl

theorem exec_hostWake (path : Path) (u : PortOrTile) (s : State) :
    exec (.hostWake path u) s = (match u with
  | .port p => s.put path .PRT_PORT_CFG p.val (s.revised PRT_PORT_CFG_ADMIN p.val 1) none
  | .tile t => s.put path .PRT_TILE_CTL t.val (s.revised PRT_TILE_CTL_STATE_REQ t.val 0) none) := rfl

theorem exec_remoteWake (lane : Fin 128) (s : State) :
    exec (.remoteWake lane) s = s.act (·.remoteWake lane.val) := rfl

theorem exec_wakeDone (u : PortOrTile) (s : State) :
    exec (.wakeDone u) s = s.act (·.wakeDone u) := rfl

theorem exec_drainDone (u : PortOrTile) (s : State) :
    exec (.drainDone u) s = s.act (·.drainDone u) := rfl

theorem exec_drainLimit (u : PortOrTile) (s : State) :
    exec (.drainLimit u) s = s.act (·.drainLimit u) := rfl

theorem exec_laneThreshold (lane : Fin 128) (s : State) :
    exec (.laneThreshold lane) s = s.act (·.laneThreshold lane.val) := rfl

theorem exec_laneTestDone (p : Fin 128) (failing : List (Fin 128)) (s : State) :
    exec (.laneTestDone p failing) s = s.act (·.laneTestDone p.val (failing.map Fin.val)) := rfl

theorem exec_parseWrite (path : Path) (v : Word) (s : State) :
    exec (.parseWrite path v) s = s.put path .PAR_WIN_CMD 0 (withOp PAR_WIN_CMD_OP v 1) none := rfl

theorem exec_parseRead (path : Path) (v : Word) (s : State) :
    exec (.parseRead path v) s = s.put path .PAR_WIN_CMD 0 (withOp PAR_WIN_CMD_OP v 2) none := rfl

theorem exec_ruleWrite (path : Path) (v : Word) (s : State) :
    exec (.ruleWrite path v) s = s.put path .CLS_RULE_CMD 0 (withOp CLS_RULE_CMD_OP v 1) none := rfl

theorem exec_ruleRead (path : Path) (v : Word) (s : State) :
    exec (.ruleRead path v) s = s.put path .CLS_RULE_CMD 0 (withOp CLS_RULE_CMD_OP v 2) none := rfl

theorem exec_ruleInvalidate (path : Path) (v : Word) (s : State) :
    exec (.ruleInvalidate path v) s = s.put path .CLS_RULE_CMD 0 (withOp CLS_RULE_CMD_OP v 3) none := rfl

theorem exec_sliceCfgWrite (path : Path) (slice : Fin 24) (v : Word) (s : State) :
    exec (.sliceCfgWrite path slice v) s = s.put path .CLS_SLICE_CFG slice.val v none := rfl

theorem exec_windowCommandDone (w : Window) (s : State) :
    exec (.windowCommandDone w) s = s.actLocks fun l m => settledPair (m.windowCommandDone l (winId w)) := rfl

theorem exec_learnInsert (s : State) :
    exec (.learnInsert) s = s.act (·.learnInsert) := rfl

theorem exec_fdbInsert (path : Path) (v : Word) (s : State) :
    exec (.fdbInsert path v) s = s.put path .FDB_WIN_CMD 0 (withOp FDB_WIN_CMD_OP v 1) none := rfl

theorem exec_fdbDelete (path : Path) (v : Word) (s : State) :
    exec (.fdbDelete path v) s = s.put path .FDB_WIN_CMD 0 (withOp FDB_WIN_CMD_OP v 2) none := rfl

theorem exec_fdbSearch (path : Path) (v : Word) (s : State) :
    exec (.fdbSearch path v) s = s.put path .FDB_WIN_CMD 0 (withOp FDB_WIN_CMD_OP v 3) none := rfl

theorem exec_fdbRead (path : Path) (v : Word) (s : State) :
    exec (.fdbRead path v) s = s.put path .FDB_WIN_CMD 0 (withOp FDB_WIN_CMD_OP v 4) none := rfl

theorem exec_fdbWrite (path : Path) (v : Word) (s : State) :
    exec (.fdbWrite path v) s = s.put path .FDB_WIN_CMD 0 (withOp FDB_WIN_CMD_OP v 5) none := rfl

theorem exec_flush (path : Path) (v : Word) (s : State) :
    exec (.flush path v) s = s.put path .FDB_WIN_CMD 0 (withOp FDB_WIN_CMD_OP v 6) none := rfl

theorem exec_bucketRead (path : Path) (v : Word) (s : State) :
    exec (.bucketRead path v) s = s.put path .FDB_WIN_CMD 0 (withOp FDB_WIN_CMD_OP v 7) none := rfl

theorem exec_bucketReadClear (path : Path) (v : Word) (s : State) :
    exec (.bucketReadClear path v) s = s.put path .FDB_WIN_CMD 0 (withOp FDB_WIN_CMD_OP v 8) none := rfl

theorem exec_tableWrite (path : Path) (v : Word) (s : State) :
    exec (.tableWrite path v) s = s.put path .FDB_TBL_CMD 0 (withOp FDB_TBL_CMD_OP v 1) none := rfl

theorem exec_tableRead (path : Path) (v : Word) (s : State) :
    exec (.tableRead path v) s = s.put path .FDB_TBL_CMD 0 (withOp FDB_TBL_CMD_OP v 2) none := rfl

theorem exec_prunerStep (s : State) :
    exec (.prunerStep) s = s.act (·.prunerStep) := rfl

theorem exec_frerReset (f : Fin 16384) (s : State) :
    exec (.frerReset f) s = s.act (·.frerReset f.val) := rfl

theorem exec_lpmWrite (path : Path) (v : Word) (s : State) :
    exec (.lpmWrite path v) s = s.put path .LPM_WIN_CMD 0 (withOp LPM_WIN_CMD_OP v 1) none := rfl

theorem exec_lpmRead (path : Path) (v : Word) (s : State) :
    exec (.lpmRead path v) s = s.put path .LPM_WIN_CMD 0 (withOp LPM_WIN_CMD_OP v 2) none := rfl

theorem exec_clearNode (path : Path) (v : Word) (s : State) :
    exec (.clearNode path v) s = s.put path .LPM_WIN_CMD 0 (withOp LPM_WIN_CMD_OP v 3) none := rfl

theorem exec_graceEnd (s : State) :
    exec (.graceEnd) s = s.act (·.graceEnd) := rfl

theorem exec_voqReadOccupancy (path : Path) (v : Word) (s : State) :
    exec (.voqReadOccupancy path v) s = s.put path .QUE_VOQ_CMD 0 (withOp QUE_VOQ_CMD_OP v 1) none := rfl

theorem exec_voqReadHead (path : Path) (v : Word) (s : State) :
    exec (.voqReadHead path v) s = s.put path .QUE_VOQ_CMD 0 (withOp QUE_VOQ_CMD_OP v 2) none := rfl

theorem exec_templateWrite (path : Path) (v : Word) (s : State) :
    exec (.templateWrite path v) s = s.put path .QUE_EDIT_CMD 0 (withOp QUE_EDIT_CMD_OP v 1) none := rfl

theorem exec_templateRead (path : Path) (v : Word) (s : State) :
    exec (.templateRead path v) s = s.put path .QUE_EDIT_CMD 0 (withOp QUE_EDIT_CMD_OP v 2) none := rfl

theorem exec_hedgeWalkDone (h : Fin 16) (s : State) :
    exec (.hedgeWalkDone h) s = s.act (·.hedgeWalkDone h.val) := rfl

theorem exec_policerWrite (path : Path) (v : Word) (s : State) :
    exec (.policerWrite path v) s = s.put path .POL_WIN_CMD 0 (withOp POL_WIN_CMD_OP v 1) none := rfl

theorem exec_policerRead (path : Path) (v : Word) (s : State) :
    exec (.policerRead path v) s = s.put path .POL_WIN_CMD 0 (withOp POL_WIN_CMD_OP v 2) none := rfl

theorem exec_policerReadBuckets (path : Path) (v : Word) (s : State) :
    exec (.policerReadBuckets path v) s = s.put path .POL_WIN_CMD 0 (withOp POL_WIN_CMD_OP v 3) none := rfl

theorem exec_streamShaperWrite (path : Path) (v : Word) (s : State) :
    exec (.streamShaperWrite path v) s = s.put path .SHP_WIN_CMD 0 (withOp SHP_WIN_CMD_OP v 1) none := rfl

theorem exec_streamShaperRead (path : Path) (v : Word) (s : State) :
    exec (.streamShaperRead path v) s = s.put path .SHP_WIN_CMD 0 (withOp SHP_WIN_CMD_OP v 2) none := rfl

theorem exec_shaperReadTokens (path : Path) (v : Word) (s : State) :
    exec (.shaperReadTokens path v) s = s.put path .SHP_WIN_CMD 0 (withOp SHP_WIN_CMD_OP v 3) none := rfl

theorem exec_gateEntryWrite (path : Path) (v : Word) (s : State) :
    exec (.gateEntryWrite path v) s = s.put path .SCH_GATE_WIN_CMD 0 (withOp SCH_GATE_WIN_CMD_OP v 1) none := rfl

theorem exec_gateEntryRead (path : Path) (v : Word) (s : State) :
    exec (.gateEntryRead path v) s = s.put path .SCH_GATE_WIN_CMD 0 (withOp SCH_GATE_WIN_CMD_OP v 2) none := rfl

theorem exec_cycleStart (p : Fin 128) (s : State) :
    exec (.cycleStart p) s = s.act (·.cycleStart p.val) := rfl

theorem exec_gateEntryBegin (p : Fin 128) (s : State) :
    exec (.gateEntryBegin p) s = s.act (·.gateEntryBegin p.val) := rfl

theorem exec_launchQueueEntry (source : Fin 134) (p : Fin 128) (c : Fin 8) (s : State) :
    exec (.launchQueueEntry source p c) s = s.act (·.launchEntry source.val p.val c.val) := rfl

theorem exec_launchDue (p : Fin 128) (c : Fin 8) (s : State) :
    exec (.launchDue p c) s = s.act (·.launchDue p.val c.val) := rfl

theorem exec_adjAuto (path : Path) (v : Word) (s : State) :
    exec (.adjAuto path v) s = s.put path .TIM_ADJ 0 (withOp TIM_ADJ_MODE v 0) none := rfl

theorem exec_adjStep (path : Path) (v : Word) (s : State) :
    exec (.adjStep path v) s = s.put path .TIM_ADJ 0 (withOp TIM_ADJ_MODE v 1) none := rfl

theorem exec_adjSlew (path : Path) (v : Word) (s : State) :
    exec (.adjSlew path v) s = s.put path .TIM_ADJ 0 (withOp TIM_ADJ_MODE v 2) none := rfl

theorem exec_adjSet (path : Path) (v : Word) (s : State) :
    exec (.adjSet path v) s = s.put path .TIM_ADJ 0 (withOp TIM_ADJ_MODE v 3) none := rfl

theorem exec_slewDone (s : State) :
    exec (.slewDone) s = s.act (·.slewDone) := rfl

theorem exec_freqWrite (path : Path) (v : Word) (s : State) :
    exec (.freqWrite path v) s = s.put path .TIM_FREQ 0 v none := rfl

theorem exec_refPrioWrite (path : Path) (v : Word) (s : State) :
    exec (.refPrioWrite path v) s = s.put path .TIM_REF_PRIO 0 v none := rfl

theorem exec_ptpMeasWrite (path : Path) (v : Word) (s : State) :
    exec (.ptpMeasWrite path v) s = s.put path .TIM_PTP_MEAS 0 v none := rfl

theorem exec_monitorWindow (x : MonMeas) (s : State) :
    exec (.monitorWindow x) s = s.act (·.monitorWindow x) := rfl

theorem exec_referenceLoss (r : Fin 4) (s : State) :
    exec (.referenceLoss r) s = s.act (·.referenceLoss r.val) := rfl

theorem exec_ovenReady (b : Bool) (s : State) :
    exec (.ovenReady b) s = s.act (·.ovenReady (if b then 3 else 2)) := rfl

theorem exec_servoTimeout (s : State) :
    exec (.servoTimeout) s = s.act (·.servoTimeout) := rfl

theorem exec_holdoverExpiry (s : State) :
    exec (.holdoverExpiry) s = s.act (·.holdoverExpiry) := rfl

theorem exec_ppsEdge (ago cycles : Nat) (ref10 : Bool) (s : State) :
    exec (.ppsEdge ago cycles ref10) s = s.act (·.ppsEdge ago cycles ref10) := rfl

theorem exec_ppsTodWrite (path : Path) (v : Word) (s : State) :
    exec (.ppsTodWrite path v) s = s.put path .TIM_PPS_TOD 0 v none := rfl

theorem exec_ppsOutPulse (s : State) :
    exec (.ppsOutPulse) s = s.act (·.ppsOutPulse) := rfl

theorem exec_ppsOutEnd (s : State) :
    exec (.ppsOutEnd) s = s.act (·.ppsOutEnd) := rfl

theorem exec_island (path : Path) (v : Word) (s : State) :
    exec (.island path v) s = s.put path .TIM_ISLAND 0 v none := rfl

theorem exec_recordWrite (c : Fin 2) (s : State) :
    exec (.recordWrite c) s = s.act (·.recordWrite c.val) := rfl

theorem exec_ringCfgWrite (path : Path) (h : Fin 16) (v : Word) (s : State) :
    exec (.ringCfgWrite path h v) s = s.put path .CLP_RING_CFG h.val v none := rfl

theorem exec_consWrite (path : Path) (h : Fin 16) (cons : BitVec 32) (s : State) :
    exec (.consWrite path h cons) s = s.put path .CLP_RING_CONS h.val (CLP_RING_CONS_CONS.put 0 cons.toNat) none := rfl

theorem exec_hostBaseWrite (path : Path) (h : Fin 16) (v : Word) (s : State) :
    exec (.hostBaseWrite path h v) s = s.put path .CLP_HOST_BASE h.val v none := rfl

theorem exec_clippingsFlush (h : Fin 16) (c : Fin 4) (n : Nat) (s : State) :
    exec (.clippingsFlush h c n) s = s.act (·.clippingsFlush h.val c.val n) := rfl

theorem exec_jobStart (c : Fin 4) (s : State) :
    exec (.jobStart c) s = s.act (·.jobStart c.val) := rfl

theorem exec_aluNop (x : AluArgs) (s : State) :
    exec (.aluNop x) s = s.act (·.aluIdle x) := rfl

theorem exec_aluPass (x : AluArgs) (s : State) :
    exec (.aluPass x) s = s.act (·.aluRow (.aluPass x) x opPass) := rfl

theorem exec_aluAdd (x : AluArgs) (s : State) :
    exec (.aluAdd x) s = s.act (·.aluRow (.aluAdd x) x opAdd) := rfl

theorem exec_aluSub (x : AluArgs) (s : State) :
    exec (.aluSub x) s = s.act (·.aluRow (.aluSub x) x opSub) := rfl

theorem exec_aluAnd (x : AluArgs) (s : State) :
    exec (.aluAnd x) s = s.act (·.aluRow (.aluAnd x) x opAnd) := rfl

theorem exec_aluOr (x : AluArgs) (s : State) :
    exec (.aluOr x) s = s.act (·.aluRow (.aluOr x) x opOr) := rfl

theorem exec_aluXor (x : AluArgs) (s : State) :
    exec (.aluXor x) s = s.act (·.aluRow (.aluXor x) x opXor) := rfl

theorem exec_aluAndn (x : AluArgs) (s : State) :
    exec (.aluAndn x) s = s.act (·.aluRow (.aluAndn x) x opAndn) := rfl

theorem exec_aluShl (x : AluArgs) (s : State) :
    exec (.aluShl x) s = s.act (·.aluRow (.aluShl x) x opShl) := rfl

theorem exec_aluShr (x : AluArgs) (s : State) :
    exec (.aluShr x) s = s.act (·.aluRow (.aluShr x) x opShr) := rfl

theorem exec_aluSar (x : AluArgs) (s : State) :
    exec (.aluSar x) s = s.act (·.aluRow (.aluSar x) x opSar) := rfl

theorem exec_aluRor (x : AluArgs) (s : State) :
    exec (.aluRor x) s = s.act (·.aluRow (.aluRor x) x opRor) := rfl

theorem exec_aluExt (x : AluArgs) (s : State) :
    exec (.aluExt x) s = s.act (·.aluRow (.aluExt x) x opExt) := rfl

theorem exec_aluMin (x : AluArgs) (s : State) :
    exec (.aluMin x) s = s.act (·.aluRow (.aluMin x) x opMin) := rfl

theorem exec_aluMax (x : AluArgs) (s : State) :
    exec (.aluMax x) s = s.act (·.aluRow (.aluMax x) x opMax) := rfl

theorem exec_aluCmp (x : AluArgs) (s : State) :
    exec (.aluCmp x) s = s.act (·.aluRow (.aluCmp x) x opCmp) := rfl

theorem exec_aluTest (x : AluArgs) (s : State) :
    exec (.aluTest x) s = s.act (·.aluRow (.aluTest x) x opTest) := rfl

theorem exec_aluAddc (x : AluArgs) (s : State) :
    exec (.aluAddc x) s = s.act (·.aluRow (.aluAddc x) x opAddc) := rfl

theorem exec_aluBswap (x : AluArgs) (s : State) :
    exec (.aluBswap x) s = s.act (·.aluRow (.aluBswap x) x opBswap) := rfl

theorem exec_aluPopcnt (x : AluArgs) (s : State) :
    exec (.aluPopcnt x) s = s.act (·.aluRow (.aluPopcnt x) x opPopcnt) := rfl

theorem exec_aluClz (x : AluArgs) (s : State) :
    exec (.aluClz x) s = s.act (·.aluRow (.aluClz x) x opClz) := rfl

theorem exec_aluMul (x : AluArgs) (s : State) :
    exec (.aluMul x) s = s.act (·.aluRow (.aluMul x) x opMul) := rfl

theorem exec_aluCsum (x : AluArgs) (s : State) :
    exec (.aluCsum x) s = s.act (·.aluRow (.aluCsum x) x opCsum) := rfl

theorem exec_aluCrc32 (x : AluArgs) (s : State) :
    exec (.aluCrc32 x) s = s.act (·.aluRow (.aluCrc32 x) x opCrc32) := rfl

theorem exec_aluSel (x : AluArgs) (s : State) :
    exec (.aluSel x) s = s.act (·.aluRow (.aluSel x) x opSel) := rfl

theorem exec_seqNext (x : SeqArgs) (s : State) :
    exec (.seqNext x) s = s.act fun m => (m.seqPart (.seqNext x) x false goNext).settleEnds := rfl

theorem exec_seqJump (x : SeqArgs) (s : State) :
    exec (.seqJump x) s = s.act fun m => (m.seqPart (.seqJump x) x false (goJump x)).settleEnds := rfl

theorem exec_seqBranch (x : SeqArgs) (s : State) :
    exec (.seqBranch x) s = s.act fun m => (m.seqPart (.seqBranch x) x false (goBranch x)).settleEnds := rfl

theorem exec_seqDispatch (x : SeqArgs) (s : State) :
    exec (.seqDispatch x) s = s.act fun m => (m.seqPart (.seqDispatch x) x false (goDispatch x)).settleEnds := rfl

theorem exec_seqCall (x : SeqArgs) (s : State) :
    exec (.seqCall x) s = s.act fun m => (m.seqPart (.seqCall x) x false (goCall x)).settleEnds := rfl

theorem exec_seqReturn (x : SeqArgs) (s : State) :
    exec (.seqReturn x) s = s.act fun m => (m.seqPart (.seqReturn x) x false goReturn).settleEnds := rfl

theorem exec_seqYield (x : SeqArgs) (s : State) :
    exec (.seqYield x) s = s.act fun m => (m.yieldPart x).settleEnds := rfl

theorem exec_seqEnd (x : SeqArgs) (s : State) :
    exec (.seqEnd x) s = s.actLocks fun l m => m.endPart l x := rfl

theorem exec_seqFenceNext (x : SeqArgs) (s : State) :
    exec (.seqFenceNext x) s = s.act fun m => (m.seqPart (.seqFenceNext x) x true goNext).settleEnds := rfl

theorem exec_memoryFence (t : ThreadRef) (s : State) :
    exec (.memoryFence t) s = s.act (·.fencePart (.memoryFence t) t 1) := rfl

theorem exec_queueFence (t : ThreadRef) (s : State) :
    exec (.queueFence t) s = s.act (·.fencePart (.queueFence t) t 2) := rfl

theorem exec_globalFence (t : ThreadRef) (s : State) :
    exec (.globalFence t) s = s.act (·.fencePart (.globalFence t) t 3) := rfl

theorem exec_rd8 (x : MemArgs) (s : State) :
    exec (.rd8 x) s = s.actLocks fun l m => m.memPart l (.rd8 x) x 1 := rfl

theorem exec_rd16 (x : MemArgs) (s : State) :
    exec (.rd16 x) s = s.actLocks fun l m => m.memPart l (.rd16 x) x 2 := rfl

theorem exec_rd32 (x : MemArgs) (s : State) :
    exec (.rd32 x) s = s.actLocks fun l m => m.memPart l (.rd32 x) x 3 := rfl

theorem exec_rd64 (x : MemArgs) (s : State) :
    exec (.rd64 x) s = s.actLocks fun l m => m.memPart l (.rd64 x) x 4 := rfl

theorem exec_rd128 (x : MemArgs) (s : State) :
    exec (.rd128 x) s = s.actLocks fun l m => m.memPart l (.rd128 x) x 5 := rfl

theorem exec_wr8 (x : MemArgs) (s : State) :
    exec (.wr8 x) s = s.actLocks fun l m => m.memPart l (.wr8 x) x 6 := rfl

theorem exec_wr16 (x : MemArgs) (s : State) :
    exec (.wr16 x) s = s.actLocks fun l m => m.memPart l (.wr16 x) x 7 := rfl

theorem exec_wr32 (x : MemArgs) (s : State) :
    exec (.wr32 x) s = s.actLocks fun l m => m.memPart l (.wr32 x) x 8 := rfl

theorem exec_wr64 (x : MemArgs) (s : State) :
    exec (.wr64 x) s = s.actLocks fun l m => m.memPart l (.wr64 x) x 9 := rfl

theorem exec_wr128 (x : MemArgs) (s : State) :
    exec (.wr128 x) s = s.actLocks fun l m => m.memPart l (.wr128 x) x 10 := rfl

theorem exec_aadd64 (x : MemArgs) (s : State) :
    exec (.aadd64 x) s = s.actLocks fun l m => m.memPart l (.aadd64 x) x 11 := rfl

theorem exec_aor64 (x : MemArgs) (s : State) :
    exec (.aor64 x) s = s.actLocks fun l m => m.memPart l (.aor64 x) x 12 := rfl

theorem exec_cas64 (x : MemArgs) (s : State) :
    exec (.cas64 x) s = s.actLocks fun l m => m.memPart l (.cas64 x) x 13 := rfl

theorem exec_swap64 (x : MemArgs) (s : State) :
    exec (.swap64 x) s = s.actLocks fun l m => m.memPart l (.swap64 x) x 14 := rfl

theorem exec_readReturn (t : ThreadRef) (s : State) :
    exec (.readReturn t) s = s.act fun m => (m.readReturn (threadKey t)).settleEnds := rfl

theorem exec_hdrView (t : ThreadRef) (upper : Bool) (s : State) :
    exec (.hdrView t upper) s = s.act (·.hdrPart (.hdrView t upper) t (viewSet upper)) := rfl

theorem exec_hdrWriteA (t : ThreadRef) (word : Fin 16) (s : State) :
    exec (.hdrWriteA t word) s = s.act (·.hdrPart (.hdrWriteA t word) t (headerSet false word.val)) := rfl

theorem exec_hdrWriteB (t : ThreadRef) (word : Fin 16) (s : State) :
    exec (.hdrWriteB t word) s = s.act (·.hdrPart (.hdrWriteB t word) t (headerSet true word.val)) := rfl

theorem exec_qopEnqueue (t : ThreadRef) (mad : Fin 64) (imm : BitVec 16) (s : State) :
    exec (.qopEnqueue t mad imm) s = s.act (·.qopPart (.qopEnqueue t mad imm) t mad.val imm 1) := rfl

theorem exec_qopReinject (t : ThreadRef) (mad : Fin 64) (imm : BitVec 16) (s : State) :
    exec (.qopReinject t mad imm) s = s.act (·.qopPart (.qopReinject t mad imm) t mad.val imm 2) := rfl

theorem exec_qopDiscard (t : ThreadRef) (mad : Fin 64) (imm : BitVec 16) (s : State) :
    exec (.qopDiscard t mad imm) s = s.act (·.qopPart (.qopDiscard t mad imm) t mad.val imm 3) := rfl

theorem exec_qopException (t : ThreadRef) (mad : Fin 64) (imm : BitVec 16) (s : State) :
    exec (.qopException t mad imm) s = s.act (·.qopPart (.qopException t mad imm) t mad.val imm 4) := rfl

theorem exec_qopClip (t : ThreadRef) (mad : Fin 64) (imm : BitVec 16) (s : State) :
    exec (.qopClip t mad imm) s = s.act (·.qopPart (.qopClip t mad imm) t mad.val imm 5) := rfl

theorem exec_qopCopy (t : ThreadRef) (mad : Fin 64) (imm : BitVec 16) (s : State) :
    exec (.qopCopy t mad imm) s = s.act (·.qopPart (.qopCopy t mad imm) t mad.val imm 6) := rfl

theorem exec_tmrAlloc (t : ThreadRef) (s : State) :
    exec (.tmrAlloc t) s = s.act (·.tmrPart (.tmrAlloc t) t fun m c h _ _ => m.timerAlloc c h) := rfl

theorem exec_tmrArm (t : ThreadRef) (s : State) :
    exec (.tmrArm t) s = s.act (·.tmrPart (.tmrArm t) t fun m c h a b => m.timerArm c h a b) := rfl

theorem exec_timerCancel (t : ThreadRef) (s : State) :
    exec (.timerCancel t) s = s.act (·.tmrPart (.timerCancel t) t fun m c h a _ => m.timerCancel c h a) := rfl

theorem exec_timerRead (t : ThreadRef) (s : State) :
    exec (.timerRead t) s = s.act (·.tmrPart (.timerRead t) t fun m c h a _ => m.timerRead c h a) := rfl

theorem exec_tmrFree (t : ThreadRef) (s : State) :
    exec (.tmrFree t) s = s.act (·.tmrPart (.tmrFree t) t fun m c h a _ => m.timerFree c h a) := rfl

theorem exec_wait (t : ThreadRef) (s : State) :
    exec (.wait t) s = s.act (·.waitPart t) := rfl

theorem exec_beginCommit (t : ThreadRef) (s : State) :
    exec (.beginCommit t) s = s.act (·.beginCommitPart t) := rfl

theorem exec_start0 (t : ThreadRef) (s : State) :
    exec (.start0 t) s = s.act (·.cntPart (.start0 t) t 1) := rfl

theorem exec_stop0 (t : ThreadRef) (s : State) :
    exec (.stop0 t) s = s.act (·.cntPart (.stop0 t) t 2) := rfl

theorem exec_start1 (t : ThreadRef) (s : State) :
    exec (.start1 t) s = s.act (·.cntPart (.start1 t) t 3) := rfl

theorem exec_stop1 (t : ThreadRef) (s : State) :
    exec (.stop1 t) s = s.act (·.cntPart (.stop1 t) t 4) := rfl

theorem exec_count (t : ThreadRef) (s : State) :
    exec (.count t) s = s.act (·.cntPart (.count t) t 5) := rfl

theorem exec_watchdog (t : ThreadRef) (s : State) :
    exec (.watchdog t) s = s.act (·.watchdog (threadKey t)) := rfl

theorem exec_timerExpiry (c : Fin 4) (s : State) :
    exec (.timerExpiry c) s = s.act (·.timerExpiry c.val) := rfl

theorem exec_doorbell (path : Path) (c : Fin 4) (v : Word) (s : State) :
    exec (.doorbell path c v) s = s.put path .ENG_DOORBELL c.val v none := rfl

theorem exec_exchangeRequest (path : Path) (c : Fin 4) (v : Word) (s : State) :
    exec (.exchangeRequest path c v) s = s.put path .ENG_XCHG_CTL c.val (withOp ENG_XCHG_CTL_REQ v 1) none := rfl

theorem exec_exchangeLoadDone (c : Fin 4) (fault : Option (Fin 4)) (s : State) :
    exec (.exchangeLoadDone c fault) s = s.act (·.exchangeLoadDone c.val (fault.map Fin.val)) := rfl

theorem exec_clusterOffline (path : Path) (c : Fin 4) (rehome : Fin 4) (s : State) :
    exec (.clusterOffline path c rehome) s = s.put path .ENG_CLUSTER_CTL c.val (ENG_CLUSTER_CTL_REHOME.put (s.revised ENG_CLUSTER_CTL_STATE_REQ c.val 1) rehome.val) none := rfl

theorem exec_clusterRun (path : Path) (c : Fin 4) (s : State) :
    exec (.clusterRun path c) s = s.put path .ENG_CLUSTER_CTL c.val (s.revised ENG_CLUSTER_CTL_STATE_REQ c.val 0) none := rfl

theorem exec_clusterLost (c : Fin 4) (s : State) :
    exec (.clusterLost c) s = s.act (·.clusterLost c.val) := rfl

theorem exec_controlStoreRead (path : Path) (c : Fin 4) (v : Word) (s : State) :
    exec (.controlStoreRead path c v) s = s.put path .ENG_CS_WIN_CMD c.val (withOp ENG_CS_WIN_CMD_OP v 1) none := rfl

theorem exec_controlStoreWrite (path : Path) (c : Fin 4) (v : Word) (s : State) :
    exec (.controlStoreWrite path c v) s = s.put path .ENG_CS_WIN_CMD c.val (withOp ENG_CS_WIN_CMD_OP v 2) none := rfl

theorem exec_epcCtrWrite (path : Path) (c : Fin 4) (phys : Fin 17) (n : Fin 8) (v : Word) (s : State) :
    exec (.epcCtrWrite path c phys n v) s = s.put path .EPC_CTR ((c.val * 17 + phys.val) * 8 + n.val) v none := rfl

theorem exec_epcSelWrite (path : Path) (c : Fin 4) (phys : Fin 17) (n : Fin 8) (v : Word) (s : State) :
    exec (.epcSelWrite path c phys n v) s = s.put path .EPC_SEL ((c.val * 17 + phys.val) * 8 + n.val) v none := rfl

theorem exec_freeze (path : Path) (c : Fin 4) (on : Bool) (s : State) :
    exec (.freeze path c on) s = s.put path .EPC_CTL c.val (EPC_CTL_FREEZE.put 0 (if on then 1 else 0)) none := rfl

theorem exec_sampleRecord (t : ThreadRef) (s : State) :
    exec (.sampleRecord t) s = s.act (·.sampleRecord (threadKey t)) := rfl

theorem exec_sampleRead (path : Path) (c : Fin 4) (index : Fin 1024) (s : State) :
    exec (.sampleRead path c index) s = s.put path .EPC_SAMPLE_CMD c.val (EPC_SAMPLE_CMD_INDEX.put 0 index.val) none := rfl

theorem exec_sampleConsWrite (path : Path) (c : Fin 4) (v : Word) (s : State) :
    exec (.sampleConsWrite path c v) s = s.put path .EPC_SAMPLE_IDX c.val v none := rfl

theorem exec_sdramRead (path : Path) (v : Word) (s : State) :
    exec (.sdramRead path v) s = s.put path .DRM_WIN_CMD 0 (withOp DRM_WIN_CMD_OP v 1) none := rfl

theorem exec_sdramWrite (path : Path) (v : Word) (s : State) :
    exec (.sdramWrite path v) s = s.put path .DRM_WIN_CMD 0 (withOp DRM_WIN_CMD_OP v 2) none := rfl

theorem exec_sdramRequestDone (id : Nat) (how : BurstEnd) (hit : Bool) (s : State) :
    exec (.sdramRequestDone id how hit) s = s.act fun m => (m.drmDone id how hit).settleEnds := rfl

theorem exec_requestPromoted (id : Nat) (s : State) :
    exec (.requestPromoted id) s = s.act (·.requestPromoted id) := rfl

theorem exec_refresh (k : Fin 4) (s : State) :
    exec (.refresh k) s = s.act (·.refresh k.val) := rfl

theorem exec_refresh2x (k : Fin 4) (hot : Bool) (s : State) :
    exec (.refresh2x k hot) s = s.act (·.refresh2x k.val hot) := rfl

theorem exec_dqsTrack (_c : Fin 2) (s : State) :
    exec (.dqsTrack _c) s = s.act id := rfl

theorem exec_marginSweep (k : Fin 4) (margin : Nat) (s : State) :
    exec (.marginSweep k margin) s = (s.act fun m =>
    let m := m.marginSweep k.val margin
    m.marginMeasured (33 + k.val / 2) (m.get DRM_CH_STATUS_MARGIN_PS (k.val / 2))) := rfl

theorem exec_rowRetire (repaired : Bool) (s : State) :
    exec (.rowRetire repaired) s = s.act (·.rowRetired repaired) := rfl

theorem exec_channelLost (c : Fin 2) (writes : Bool) (s : State) :
    exec (.channelLost c writes) s = s.act (·.channelLost c.val (if writes then 2 else 1)) := rfl

theorem exec_channelOffline (path : Path) (c : Fin 2) (s : State) :
    exec (.channelOffline path c) s = s.put path .DRM_CH_CTL c.val (s.revised DRM_CH_CTL_STATE_REQ c.val 1) none := rfl

theorem exec_channelReturn (path : Path) (c : Fin 2) (trained : Bool) (s : State) :
    exec (.channelReturn path c trained) s = s.put path .DRM_CH_CTL c.val (s.revised DRM_CH_CTL_STATE_REQ c.val 0) (some (foundTest trained [])) := rfl

theorem exec_channelReturnDone (c : Fin 2) (s : State) :
    exec (.channelReturnDone c) s = s.act (·.channelReturnDone c.val) := rfl

theorem exec_portOwnerWrite (path : Path) (p : Fin 128) (h : Fin 16) (s : State) :
    exec (.portOwnerWrite path p h) s = s.put path .HDG_PORT_OWNER p.val (HDG_PORT_OWNER_HEDGE.put 0 h.val) none := rfl

theorem exec_rootFloorWrite (path : Path) (v : Word) (s : State) :
    exec (.rootFloorWrite path v) s = s.put path .HDG_ROOT_FLOOR 0 v none := rfl

theorem exec_gapWrite (path : Path) (g : Fin 64) (second : Bool) (v : Word) (s : State) :
    exec (.gapWrite path g second v) s = s.put path (if second then .HDG_GAP_CFG1 else .HDG_GAP_CFG0) g.val v none := rfl

theorem exec_functionLevelReset (fn : Fin 17) (s : State) :
    exec (.functionLevelReset fn) s = s.act (·.functionReset fn.val) := rfl

theorem exec_evtCfgWrite (path : Path) (h : Fin 16) (v : Word) (s : State) :
    exec (.evtCfgWrite path h v) s = s.put path .HDG_EVT_CFG h.val v none := rfl

theorem exec_swint (path : Path) (h : Fin 16) (raise : BitVec 4) (s : State) :
    exec (.swint path h raise) s = s.put path .HDG_SWINT h.val (HDG_SWINT_RAISE.put 0 raise.toNat) none := rfl

theorem exec_vectorMessage (fn : Fin 17) (v : Fin 32) (s : State) :
    exec (.vectorMessage fn v) s = s.act (·.vectorMessage fn.val v.val) := rfl

theorem exec_softReset (path : Path) (h : Fin 16) (s : State) :
    exec (.softReset path h) s = s.put path .HDG_RESET h.val (HDG_RESET_KIND.put 0 1) none := rfl

theorem exec_reloadReset (path : Path) (h : Fin 16) (s : State) :
    exec (.reloadReset path h) s = s.put path .HDG_RESET h.val (HDG_RESET_KIND.put 0 2) none := rfl

theorem exec_eventConsWrite (path : Path) (h : Fin 16) (cons : BitVec 32) (s : State) :
    exec (.eventConsWrite path h cons) s = s.put path .EVT_RING_CONS h.val (EVT_RING_CONS_CONS.put 0 cons.toNat) none := rfl

theorem exec_pfSwint (path : Path) (raise : BitVec 8) (s : State) :
    exec (.pfSwint path raise) s = s.put path .EVT_PF_SWINT 0 (EVT_PF_SWINT_RAISE.put 0 raise.toNat) none := rfl

theorem exec_dmpRead (frame : List Byte) (s : State) :
    exec (.dmpRead frame) s = s.actLocks fun l m => m.dmpRead l frame := rfl

theorem exec_dmpWrite (frame : List Byte) (s : State) :
    exec (.dmpWrite frame) s = s.actLocks fun l m => m.dmpWrite l frame := rfl

theorem exec_dmpAck (frame : List Byte) (s : State) :
    exec (.dmpAck frame) s = s.actLocks fun l m => m.dmpAck l frame := rfl

theorem exec_dmpEvents (h : Fin 16) (s : State) :
    exec (.dmpEvents h) s = s.act (·.dmpNext 0 h.val) := rfl

theorem exec_dmpClippings (h : Fin 16) (s : State) :
    exec (.dmpClippings h) s = s.act (·.dmpNext 1 h.val) := rfl

theorem exec_dmpResend (clippings : Bool) (h : Fin 16) (s : State) :
    exec (.dmpResend clippings h) s = s.act (·.dmpResend (if clippings then 1 else 0) h.val) := rfl

theorem exec_hello (s : State) :
    exec (.hello) s = s.act (·.hello) := rfl

theorem exec_attestReq (frame : List Byte) (s : State) :
    exec (.attestReq frame) s = s.actLocks fun l m => m.attestReq l frame := rfl

theorem exec_updBegin (frame : List Byte) (s : State) :
    exec (.updBegin frame) s = s.actLocks fun l m => m.updBegin l frame := rfl

theorem exec_updData (frame : List Byte) (s : State) :
    exec (.updData frame) s = s.actLocks fun l m => m.updData l frame := rfl

theorem exec_updEnd (frame : List Byte) (s : State) :
    exec (.updEnd frame) s = s.actLocks fun l m => m.updEnd l frame := rfl

theorem exec_updOp (frame : List Byte) (s : State) :
    exec (.updOp frame) s = s.actLocks fun l m => m.updOpMessage l frame := rfl

theorem exec_powerOn (f : Fin 2) (vin : Nat) (x : StartFound) (s : State) :
    exec (.powerOn f vin x) s = s.actStart fun l m => m.powerOn l f.val vin x := rfl

theorem exec_porst (x : StartFound) (s : State) :
    exec (.porst x) s = s.actStart fun l m => m.porst l x := rfl

theorem exec_deviceReset (x : StartFound) (s : State) :
    exec (.deviceReset x) s = s.actLocks fun l m => m.deviceReset l x := rfl

theorem exec_perst (low : Bool) (s : State) :
    exec (.perst low) s = s.actAny fun m => if m.dieUp then m.perst low else m.withPin { m.pin with perstN := !low } := rfl

theorem exec_lockstepDivergence (s : State) :
    exec (.lockstepDivergence) s = s.act (·.lockstepDivergence) := rfl

theorem exec_supervisorRestart (s : State) :
    exec (.supervisorRestart) s = s.actLocks fun l m => (l, m.supervisorRestart l) := rfl

theorem exec_degraded (s : State) :
    exec (.degraded) s = s.act (·.degraded) := rfl

theorem exec_supervisorWatchdog (s : State) :
    exec (.supervisorWatchdog) s = s.actLocks fun l m => (l, m.supervisorWatchdog l) := rfl

theorem exec_nvmRetry (s : State) :
    exec (.nvmRetry) s = s.actLocks fun l m => m.nvmRetry l := rfl

theorem exec_check (path : Path) (s : State) :
    exec (.check path) s = s.put path .UPD_CTL 0 (s.revised UPD_CTL_OP 0 1) none := rfl

theorem exec_start (path : Path) (s : State) :
    exec (.start path) s = s.put path .UPD_CTL 0 (s.revised UPD_CTL_OP 0 2) none := rfl

theorem exec_slotWriteDone (good : Bool) (s : State) :
    exec (.slotWriteDone good) s = s.act (·.slotWriteDone good) := rfl

theorem exec_confirm (path : Path) (s : State) :
    exec (.confirm path) s = s.put path .UPD_CTL 0 (s.revised UPD_CTL_OP 0 3) none := rfl

theorem exec_abort (path : Path) (s : State) :
    exec (.abort path) s = s.put path .UPD_CTL 0 (s.revised UPD_CTL_OP 0 4) none := rfl

theorem exec_cancel (path : Path) (s : State) :
    exec (.cancel path) s = s.put path .UPD_CTL 0 (s.revised UPD_CTL_OP 0 5) none := rfl

theorem exec_clearStaging (path : Path) (s : State) :
    exec (.clearStaging path) s = s.put path .UPD_CTL 0 (s.revised UPD_CTL_OP 0 6) none := rfl

theorem exec_settleDone (s : State) :
    exec (.settleDone) s = s.actLocks fun l m => (l, m.settleDone l) := rfl

theorem exec_confirmTimeout (s : State) :
    exec (.confirmTimeout) s = s.act (·.confirmTimeout) := rfl

theorem exec_revoke (path : Path) (stage : BitVec 4) (s : State) :
    exec (.revoke path stage) s = s.put path .UPD_REVOKE 0 (UPD_REVOKE_STAGE.put 0 stage.toNat) none := rfl

theorem exec_gaspTrigger (s : State) :
    exec (.gaspTrigger) s = s.actPc (·.gaspTrigger) := rfl

theorem exec_nvmWalk (failing : List Nat) (s : State) :
    exec (.nvmWalk failing) s = s.act (·.nvmWalk failing) := rfl

theorem exec_scrubSlice (run : ScrubRun) (s : State) :
    exec (.scrubSlice run) s = s.act (·.scrubbed run.finds run.cut) := rfl

theorem exec_controlStoreReloadDone (c : Fin 4) (group : Fin 132) (s : State) :
    exec (.controlStoreReloadDone c group) s = s.act (·.storeReloaded c.val group.val) := rfl

theorem exec_tableRestore (code index : Nat) (entry : Option (List Word)) (s : State) :
    exec (.tableRestore code index entry) s = s.act (·.tableRestore code index entry) := rfl

theorem exec_bucketDecay (cls : Fin 6) (s : State) :
    exec (.bucketDecay cls) s = s.act (·.bucketDecay cls.val) := rfl

theorem exec_graftStart (s : State) :
    exec (.graftStart) s = s.act (·.graftStart) := rfl

theorem exec_graftDone (s : State) :
    exec (.graftDone) s = s.act fun m => m.graftDone.graftLoads m.int.graft := rfl

theorem exec_graftPartial (left : List (Nat × Nat)) (s : State) :
    exec (.graftPartial left) s = s.act fun m => (m.graftPartial left).graftLoads m.int.graft := rfl

theorem exec_grfRetire (path : Path) (cls : Fin 8) (loc : BitVec 32) (s : State) :
    exec (.grfRetire path cls loc) s = s.put path .GRF_CMD 0 (grfWord 1 cls.val loc.toNat) none := rfl

theorem exec_grfReturn (path : Path) (loc : BitVec 32) (passed : Bool) (s : State) :
    exec (.grfReturn path loc passed) s = s.put path .GRF_CMD 0 (grfWord 2 0 loc.toNat) (some (foundTest passed [])) := rfl

theorem exec_spareTestNow (path : Path) (failing : List Nat) (s : State) :
    exec (.spareTestNow path failing) s = s.put path .GRF_CMD 0 (grfWord 3 0 0) (some (foundTest true failing)) := rfl

theorem exec_spareTest (failing bad : List Nat) (s : State) :
    exec (.spareTest failing bad) s = s.act (·.spareTest failing bad) := rfl

theorem exec_avsStep (domain : Fin 25) (slack : Int) (s : State) :
    exec (.avsStep domain slack) s = s.act (·.avsStep domain.val slack) := rfl

theorem exec_forecast (month : Nat) (eyes : List (Fin 128 × BitVec 8)) (s : State) :
    exec (.forecast month eyes) s = s.act (·.forecast month eyes) := rfl

theorem exec_lifeUpdate (tj tcp : Int) (s : State) :
    exec (.lifeUpdate tj tcp) s = s.act (·.lifeUpdate tj tcp) := rfl

theorem exec_lifeRecord (s : State) :
    exec (.lifeRecord) s = s.act (·.lifeRecord) := rfl

theorem exec_coreFatal (why : ResetCause) (x : StartFound) (s : State) :
    exec (.coreFatal why x) s = s.actLocks fun l m => m.coreFatal l why x := rfl

theorem exec_feedState (f : Fin 2) (state : Fin 5) (vin : Nat) (s : State) :
    exec (.feedState f state vin) s = s.actPc (·.feedState f.val state.val vin) := rfl

theorem exec_transferOnLoss (vin : Nat) (s : State) :
    exec (.transferOnLoss vin) s = s.actPc (·.transferOnLoss vin) := rfl

theorem exec_transferCommand (path : Path) (s : State) :
    exec (.transferCommand path) s = s.put path .PWR_CMD 0 (PWR_CMD_OP.put 0 1) none := rfl

theorem exec_revert (s : State) :
    exec (.revert) s = s.actPc (·.revert) := rfl

theorem exec_holdEnd (s : State) :
    exec (.holdEnd) s = s.actPc (·.holdEnds) := rfl

theorem exec_selfTest (a b : FeedTest) (s : State) :
    exec (.selfTest a b) s = s.actPc (·.selfTest a b) := rfl

theorem exec_selfTestNow (path : Path) (a b : FeedTest) (s : State) :
    exec (.selfTestNow path a b) s = s.put path .PWR_CMD 0 (PWR_CMD_OP.put 0 2) (some (foundFeeds a b)) := rfl

theorem exec_holdupMeasure (cap esr hold vbank : Nat) (s : State) :
    exec (.holdupMeasure cap esr hold vbank) s = s.actPc (·.holdupMeasure cap esr hold vbank) := rfl

theorem exec_dip (s : State) :
    exec (.dip) s = s.actPc (·.dip) := rfl

theorem exec_pcRestart (s : State) :
    exec (.pcRestart) s = s.actPc (·.pcRestarts) := rfl

theorem exec_page (write : Option (BitVec 8)) (s : State) :
    exec (.page write) s = s.actPc (·.pagePm (write.map BitVec.toNat)) := rfl

theorem exec_clearFaults (s : State) :
    exec (.clearFaults) s = s.actPc (·.clearFaults) := rfl

theorem exec_capability (s : State) :
    exec (.capability) s = s.actPc (·.onPages [0, 1, 2] (·.reply [0xA0])) := rfl

theorem exec_statusByte (s : State) :
    exec (.statusByte) s = s.actPc (·.onPages [0, 1, 2] fun m => m.reply [m.pmWord % 256]) := rfl

theorem exec_statusWord (s : State) :
    exec (.statusWord) s = s.actPc (·.onPages [0, 1, 2] fun m => m.replyWord m.pmWord) := rfl

theorem exec_statusInput (s : State) :
    exec (.statusInput) s = s.actPc (·.onPages [0, 1] fun m => m.reply [m.pmInput]) := rfl

theorem exec_statusTemperature (s : State) :
    exec (.statusTemperature) s = s.actPc (·.onPages [2] fun m => m.reply [m.pmTemp]) := rfl

theorem exec_statusCml (s : State) :
    exec (.statusCml) s = s.actPc (·.onPages [0, 1, 2] fun m => m.reply [m.pmCml]) := rfl

theorem exec_statusMfrSpecific (s : State) :
    exec (.statusMfrSpecific) s = s.actPc (·.onPages [0, 1, 2] fun m => m.reply [m.pmMfr]) := rfl

theorem exec_readVin (s : State) :
    exec (.readVin) s = s.actPc (·.onPages [0, 1] fun m => m.replyWord (linear11 (m.get PWR_FEED_VIN m.pwr.page) 100)) := rfl

theorem exec_readIin (s : State) :
    exec (.readIin) s = s.actPc (·.onPages [0, 1] fun m => m.replyWord (linear11 (m.get PWR_FEED_IIN m.pwr.page) 1000)) := rfl

theorem exec_readTemperature1 (s : State) :
    exec (.readTemperature1) s = s.actPc (·.onPages [2] fun m => m.replyWord (linear11 (signed 16 (m.get AGE_TEMP_COLD_PLATE)) 10)) := rfl

theorem exec_readTemperature2 (s : State) :
    exec (.readTemperature2) s = s.actPc (·.onPages [2] fun m => m.replyWord (linear11 (signed 16 (m.get AGE_TEMP_TJ_MAX)) 10)) := rfl

theorem exec_readPin (s : State) :
    exec (.readPin) s = s.actPc (·.onPages [0, 1, 2] fun m => m.replyWord (linear11 m.pinOf 100000)) := rfl

theorem exec_pmbusRevision (s : State) :
    exec (.pmbusRevision) s = s.actPc (·.onPages [0, 1, 2] (·.reply [0x33])) := rfl

theorem exec_mfrId (s : State) :
    exec (.mfrId) s = s.actPc (·.onPages [0, 1, 2] (·.replyBlock [0x44, 0x55, 0x4E, 0x51, 0x55, 0x45, 0x4C])) := rfl

theorem exec_mfrModel (s : State) :
    exec (.mfrModel) s = s.actPc (·.onPages [0, 1, 2] (·.replyBlock orderingCode)) := rfl

theorem exec_mfrRevision (s : State) :
    exec (.mfrRevision) s = s.actPc (·.onPages [0, 1, 2] fun m => m.replyBlock (toBytes 2 (compVersion (lookupD m.upd.running 0 [])))) := rfl

theorem exec_mfrSerial (s : State) :
    exec (.mfrSerial) s = s.actPc (·.onPages [0, 1, 2] (·.replyBlock Config.serial)) := rfl

theorem exec_mfrFeedActive (write : Option (BitVec 8)) (s : State) :
    exec (.mfrFeedActive write) s = s.actPc (·.mfrFeedActive (write.map BitVec.toNat)) := rfl

theorem exec_mfrFeedHealth (s : State) :
    exec (.mfrFeedHealth) s = s.actPc (·.onPages [0, 1] fun m => m.replyWord ((m.healthShown m.pwr.page).toNat % 65536)) := rfl

theorem exec_mfrHoldupUs (s : State) :
    exec (.mfrHoldupUs) s = s.actPc (·.onPages [2] fun m => m.replyWord (m.get PWR_HOLDUP_HOLD_US)) := rfl

theorem exec_invalidCommand (why : BadCommand) (s : State) :
    exec (.invalidCommand why) s = s.actPc (·.invalidCommand why) := rfl

theorem exec_trigEdge (pin : Fin 4) (rising : Bool) (ago : Nat) (s : State) :
    exec (.trigEdge pin rising ago) s = s.act (·.trigEdge pin.val rising ago) := rfl

theorem exec_trigPop (path : Path) (pin : Fin 4) (index : BitVec 16) (s : State) :
    exec (.trigPop path pin index) s = s.put path .TRG_IN_POP pin.val (TRG_IN_POP_INDEX.put 0 index.toNat) none := rfl

theorem exec_trgOutCfgWrite (path : Path) (pin : Fin 4) (v : Word) (s : State) :
    exec (.trgOutCfgWrite path pin v) s = s.put path .TRG_OUT_CFG pin.val v none := rfl

theorem exec_trgOutLevelWrite (path : Path) (pin : Fin 4) (level : Bool) (s : State) :
    exec (.trgOutLevelWrite path pin level) s = s.put path .TRG_OUT_LEVEL pin.val (TRG_OUT_LEVEL_LEVEL.put 0 (if level then 1 else 0)) none := rfl

theorem exec_thermalState (tj tcp : Int) (s : State) :
    exec (.thermalState tj tcp) s = s.act (·.thermalState tj tcp) := rfl

theorem exec_thermalTrip (tj tcp : Int) (s : State) :
    exec (.thermalTrip tj tcp) s = s.act (·.thermalTrip tj tcp) := rfl

theorem exec_tripRecovery (tcp : Int) (x : StartFound) (s : State) :
    exec (.tripRecovery tcp x) s = s.actStart fun l m => m.tripRecovery l tcp x := rfl

theorem exec_anDone (p : Fin 128) (s : State) :
    exec (.anDone p) s = s.act (·.anDone p.val) := rfl

theorem exec_rxLpiExit (p : Fin 128) (s : State) :
    exec (.rxLpiExit p) s = s.act (·.rxLpiExit p.val) := rfl

theorem exec_domainFailure (domain : Fin 25) (s : State) :
    exec (.domainFailure domain) s = s.act (·.domainFailure domain.val) := rfl

theorem exec_domainReturn (domain : Fin 25) (s : State) :
    exec (.domainReturn domain) s = s.act (·.domainReturn domain.val) := rfl

theorem exec_deviceLost (device : Fin 2) (s : State) :
    exec (.deviceLost device) s = s.act (·.deviceLost device.val) := rfl

theorem exec_writeProtectChange (high : Bool) (s : State) :
    exec (.writeProtectChange high) s = s.actAny fun m => if m.dieUp then m.writeProtect high else m.withPin { m.pin with nvmWpN := high } := rfl

theorem exec_unitExchange (s : State) :
    exec (.unitExchange) s = s.act (·.unitExchange) := rfl

theorem exec_pcieConfigWrite (w : PcieWrite) (s : State) :
    exec (.pcieConfigWrite w) s = s.act (·.pcieWrite w) := rfl

end Sys2Proof.Machine
end

