-- ==== Sys2Proof/Laws/Locks.lean ====
section
/-! SUPPORT. What each operation that carries the LOCK bits does with them: none clears one (R363). -/

namespace Sys2Proof.Machine

theorem LocksKept.refl (a) : LocksKept a a := fun _ h => h

theorem LocksKept.trans {a b c} (h : LocksKept a b) (k : LocksKept b c) : LocksKept a c := fun g x => k g (h g x)

theorem LocksKept.or (a b) : LocksKept a (a ||| b) := fun g h => by simp [h]

/-- A write past its right and guard leaves the LOCK bits. -/
theorem fieldWrite_locks (m : Mod) (l p r i v x) : (m.fieldWrite l p r i v x).locks = l := by
  unfold Mod.fieldWrite; rfl

theorem plainWrite_locks (m : Mod) (l p r i v x) : (m.plainWrite l p r i v x).locks = l := by
  unfold Mod.plainWrite
  extract_lets group armed n
  generalize n = m
  split
  · rfl
  · rfl
  · split
    · rfl
    · cases group with
      | none => exact fieldWrite_locks _ _ _ _ _ _ _
      | some g =>
        dsimp only
        repeat' first | split | rfl

theorem winWrite_locks (m : Mod) (l p w c r i v x) : (m.winWrite l p w c r i v x).locks = l := by
  unfold Mod.winWrite
  repeat' first | split | rfl

/-- A write clears no LOCK bit: GLB_LOCK sets some, every other register leaves them. -/
theorem decodedWrite_locks (m : Mod) (l p o r i v x t) : LocksKept l (m.decodedWrite l p o r i v x t).locks := by
  unfold Mod.decodedWrite
  split
  · exact LocksKept.refl _
  · split
    · exact LocksKept.or _ _
    · exact LocksKept.refl _
  · split
    · split
      · exact LocksKept.refl _
      · rw [winWrite_locks]; exact LocksKept.refl _
    · rw [plainWrite_locks]; exact LocksKept.refl _

theorem fabricWrite_locks (m : Mod) (l p o n v x t) : LocksKept l (m.fabricWrite l p o n v x t).locks := by
  unfold Mod.fabricWrite
  extract_lets
  repeat' first | split | exact LocksKept.refl _ | exact decodedWrite_locks _ _ _ _ _ _ _ _ _

theorem foldl_locks {α : Type} {β : Type} (f : BitVec 5 × β → α → BitVec 5 × β) (h : ∀ s a, LocksKept s.1 (f s a).1) (l : List α) (s) : LocksKept s.1 (l.foldl f s).1 := by
  induction l generalizing s with
  | nil => exact LocksKept.refl _
  | cons a t ih => exact (h s a).trans (ih _)

theorem heldTaken_locks (m : Mod) (l w) : LocksKept l (m.heldTaken l w).1 := by
  unfold Mod.heldTaken
  extract_lets
  refine foldl_locks _ ?_ _ (l, _)
  intro s h
  exact fabricWrite_locks _ _ _ _ _ _ _ _

theorem windowCommandDone_locks (m : Mod) (l w) : LocksKept l (m.windowCommandDone l w).1 := by
  unfold Mod.windowCommandDone
  split
  · exact heldTaken_locks _ _ _
  · exact LocksKept.refl _

theorem jtagHigh_locks (m : Mod) (l o v) : LocksKept l (m.jtagHigh l o v).locks := by
  unfold Mod.jtagHigh
  split
  · extract_lets
    split
    · exact fabricWrite_locks _ _ _ _ _ _ _ _
    · exact LocksKept.refl _
  · exact LocksKept.refl _

theorem partApplied_locks (m : Mod) (l rs i) : LocksKept l (m.partApplied l rs i).1 := by
  unfold Mod.partApplied; extract_lets
  show LocksKept l (if _ then _ else _)
  split
  · exact LocksKept.or _ _
  · exact LocksKept.refl _

theorem tcCommit_locks (m : Mod) (l) : LocksKept l (m.tcCommit l).1 := by
  unfold Mod.tcCommit
  split
  · exact LocksKept.refl _
  · extract_lets
    split
    · exact LocksKept.refl _
    · split
      · exact LocksKept.refl _
      · split
        · exact LocksKept.refl _
        · split
          · exact LocksKept.refl _
          · extract_lets a
            exact partApplied_locks m l _ _

theorem tickCommit_locks (m : Mod) (l) : LocksKept l (m.tickCommit l).1 := by
  unfold Mod.tickCommit; extract_lets; exact tcCommit_locks _ _

/-- Issuing leaves the LOCK bits to what the part does. -/
theorem issueLocks_locks (m : Mod) (l c) (f : Thread → BitVec 5 × Mod) (h : ∀ t, LocksKept l (f t).1) : LocksKept l (m.issueLocks l c f).1 := by
  unfold Mod.issueLocks
  split
  · exact LocksKept.refl _
  · split
    · exact h _
    · exact LocksKept.refl _

theorem regOp_locks (m : Mod) (l key t x op addr b) : LocksKept l (m.regOp l key t x op addr b).1 := by
  unfold Mod.regOp
  split
  · exact LocksKept.refl _
  · split
    · split
      · exact LocksKept.refl _
      · exact LocksKept.refl _
    · split
      · exact LocksKept.refl _
      · exact fabricWrite_locks _ _ _ _ _ _ _ _

theorem memPart_locks (m : Mod) (l c x op) : LocksKept l (m.memPart l c x op).1 := by
  unfold Mod.memPart
  refine issueLocks_locks _ _ _ _ fun t => ?_
  extract_lets
  split
  · exact LocksKept.refl _
  · split <;> first | exact LocksKept.refl _ | exact regOp_locks _ _ _ _ _ _ _ _

theorem release_locks (s : BitVec 5 × Mod) (k h o) : LocksKept s.1 (Mod.release s k h o).1 := by
  unfold Mod.release
  split <;> first | exact LocksKept.refl _ | exact fabricWrite_locks _ _ _ _ _ _ _ _

theorem endPart_locks (m : Mod) (l x) : LocksKept l (m.endPart l x).1 := by
  unfold Mod.endPart
  refine issueLocks_locks _ _ _ _ fun t => ?_
  split
  · exact LocksKept.refl _
  · exact foldl_locks (fun s o => Mod.release s _ _ o) (fun s o => release_locks _ _ _ _) _ (l, _)

theorem dmpMessage_locks (m : Mod) (l fr ty b f) (h : ∀ m k p, LocksKept l (f m k p).1) : LocksKept l (m.dmpMessage l fr ty b f).1 := by
  unfold Mod.dmpMessage
  split
  · exact LocksKept.refl _
  · extract_lets
    split
    · exact LocksKept.refl _
    · split
      · exact LocksKept.refl _
      · exact h _ _ _

theorem dmpRead_locks (m : Mod) (l f) : LocksKept l (m.dmpRead l f).1 := by
  refine dmpMessage_locks _ _ _ _ _ _ ?_
  intro m k p
  repeat' first | split | exact LocksKept.refl _

theorem dmpWrite_locks (m : Mod) (l f) : LocksKept l (m.dmpWrite l f).1 := by
  refine dmpMessage_locks _ _ _ _ _ _ ?_
  intro m k p
  split
  · exact LocksKept.refl _
  · split
    · exact LocksKept.refl _
    · extract_lets one r ign m1
      have h1 : LocksKept l r.1.2 := by
        have : ∀ (L : List (Nat × Word)) (s : (List Nat × BitVec 5) × Mod), LocksKept s.1.2 (L.foldl one s).1.2 := by
          intro L; induction L with
          | nil => exact fun s => LocksKept.refl _
          | cons a t ih =>
            intro s
            refine LocksKept.trans ?_ (ih _)
            show LocksKept s.1.2 (if _ then _ else _ : (List Nat × BitVec 5) × Mod).1.2
            split
            · exact LocksKept.refl _
            · exact fabricWrite_locks _ _ _ _ _ _ _ _
        exact this _ (([], l), m)
      refine h1.trans (foldl_locks (β := Mod) _ ?_ _ (r.1.2, m1))
      intro s a; exact fabricWrite_locks _ _ _ _ _ _ _ _

theorem dmpAck_locks (m : Mod) (l f) : LocksKept l (m.dmpAck l f).1 := by
  refine dmpMessage_locks _ _ _ _ _ _ ?_
  intro m k p
  repeat' first | split | exact LocksKept.refl _

theorem attestReq_locks (m : Mod) (l f) : LocksKept l (m.attestReq l f).1 := by
  refine dmpMessage_locks _ _ _ _ _ _ ?_
  intro m k p
  extract_lets early
  generalize early = e
  split <;> exact LocksKept.refl _

theorem updBegin_locks (m : Mod) (l f) : LocksKept l (m.updBegin l f).1 := by
  refine dmpMessage_locks _ _ _ _ _ _ ?_
  intro m k p; exact LocksKept.refl _

theorem updData_locks (m : Mod) (l f) : LocksKept l (m.updData l f).1 := by
  refine dmpMessage_locks _ _ _ _ _ _ ?_
  intro m k p; dsimp only; split <;> exact LocksKept.refl _

theorem updEnd_locks (m : Mod) (l f) : LocksKept l (m.updEnd l f).1 := by
  refine dmpMessage_locks _ _ _ _ _ _ ?_
  intro m k p; exact LocksKept.refl _

theorem updOpMessage_locks (m : Mod) (l f) : LocksKept l (m.updOpMessage l f).1 := by
  refine dmpMessage_locks _ _ _ _ _ _ ?_
  intro m k p; exact LocksKept.refl _

theorem act_locks (s t : State) (f) (h : s.act f = .next t) : LocksKept s.locks t.locks := by
  unfold State.act at h; cases h; exact LocksKept.refl _

theorem actPc_locks (s t : State) (f) (h : s.actPc f = .next t) : LocksKept s.locks t.locks := by
  unfold State.actPc at h; cases h; exact LocksKept.refl _

theorem actAny_locks (s t : State) (f) (h : s.actAny f = .next t) : LocksKept s.locks t.locks := by
  unfold State.actAny at h; cases h; exact LocksKept.refl _

theorem actLocks_locks (s t : State) (f) (h : s.actLocks f = .next t) (k : LocksKept s.locks (f s.locks s.m).1) : LocksKept s.locks t.locks := by
  unfold State.actLocks at h; cases h
  split
  · exact k
  · exact LocksKept.refl _

theorem put_locks (s t : State) (p r i v x) (h : s.put p r i v x = .next t) : LocksKept s.locks t.locks := by
  unfold State.put State.write at h
  exact actLocks_locks _ _ _ h (fabricWrite_locks _ _ _ _ _ _ _ _)

theorem write_locks (s t : State) (p r i v x) (h : s.write p r i v x = .next t) : LocksKept s.locks t.locks := by
  unfold State.write at h
  exact actLocks_locks _ _ _ h (fabricWrite_locks _ _ _ _ _ _ _ _)


end Sys2Proof.Machine
end

