-- ==== Sys2Proof/Tests/Slice0.lean ====
section
/-! SUPPORT. Tests: ill-formed commands that WellFormed refuses, one step of a few commands, and for every statement with hypotheses a
state and operands that meet them, clause by clause, at the ends of their ranges. -/

namespace Sys2Proof.Tests

open Sys2Proof.Machine

set_option Elab.async false

/-! ### Small states -/

/-- A state with a field of a register set. -/
def fld (f : Fld) (i v : Nat) (s : State) : State := { s with m := s.m.set f i v }

/-- A state whose module is changed. -/
def on (f : Mod → Mod) (s : State) : State := { s with m := f s.m }

/-- The module without power. -/
def dark : State := on (fun m => { m with pwr := { m.pwr with down := .rails } }) State.reset

/-- The write arrives at element j of register r: what Granted and Opened ask alike. -/
abbrev Arrives (s : State) (p : Path) (r : Reg) (i j : Nat) (win : Option (WinId × Bool)) : Prop :=
  (s.m.dieUp = true ∧ s.m.pathUp p = true) ∧ (regAt (pathNum p) (r.addr i) = some (r, j) ∧ r.addr i % 8 = 0 ∧ r.addr i < 0x1000000) ∧
    r ≠ .GLB_UNLOCK ∧ r ≠ .GLB_LOCK ∧ windowOf (pathNum p) r j = win

/-- The key guard and the lock of the register, and its reserved encodings, let the write through. -/
abbrev Unbarred (s : State) (p : Path) (r : Reg) (j : Nat) (v : Word) : Prop :=
  ((∀ g ∈ (keyGroup r).toList, (s.m.spent p r).guardChanges r j v = false ∨ (s.m.isArmed p g = true ∧ vfHedge p = none)) ∧
    ∀ g ∈ (lockGroup r).toList, s.locks.getLsbD g = false) ∧
  ∀ f ∈ settable r, ((definedFields r ((s.m.spent p r).rdStaged r j) v).any fun d => d.lo == f.lo) = true

/-- The checks that Granted makes, computed. -/
def grantedB (s : State) (p : Path) (r : Reg) (i j : Nat) (v : Word) : Bool :=
  decide (Arrives s p r i j none) && decide (Unbarred s p r j v) &&
    decide (((s.m.spent p r).writeRight p (blockId r.spec.base) r j v = .may ∧ r.spec.fields.any (·.acc == .sqc) = false) ∧
      (isCluster p = false ∨ (s.m.spent p r).flag GLB_STATUS_HEADLESS = false))

theorem granted_of {s : State} {p : Path} {r : Reg} {i j : Nat} {v : Word} (h : grantedB s p r i j v = true) : s.Granted p r i j v := by
  unfold grantedB at h
  rw [Bool.and_eq_true, Bool.and_eq_true, decide_eq_true_iff, decide_eq_true_iff, decide_eq_true_iff] at h
  obtain ⟨⟨⟨up, at_, special⟩, ⟨keys, defined⟩⟩, ⟨may, present⟩⟩ := h
  exact { running := up.1, arrives := up.2, placed := at_.1, aligned := at_.2, special, right := may.1, noSqc := may.2,
          guard := fun g hg => keys.1 g (by simp [hg]), open_ := fun g hg => keys.2 g (by simp [hg]), defined, present }

/-- The checks that Opened makes, computed. -/
def openedB (s : State) (p : Path) (r : Reg) (i j : Nat) (w : WinId) (v : Word) : Bool :=
  decide (Arrives s p r i j (some (w, true))) &&
    decide ((s.m.winBusy w = false ∧ (s.m.win.held.any fun h => h.win == w) = false) ∧ s.m.writeRight p (blockId r.spec.base) r j v = .may) &&
    decide ((r = .GRF_CMD → s.locks.getLsbD 0 = false) ∧ cmdReserved r v = false ∧ s.m.stagedBarred p r v = false ∧
      ((winOp r).any fun f => f.of v == 0) = false)

theorem opened_of {s : State} {p : Path} {r : Reg} {i j : Nat} {w : WinId} {v : Word} (h : openedB s p r i j w v = true) :
    s.Opened p r i j w v := by
  unfold openedB at h
  rw [Bool.and_eq_true, Bool.and_eq_true, decide_eq_true_iff, decide_eq_true_iff, decide_eq_true_iff] at h
  obtain ⟨⟨⟨up, at_, special⟩, takes⟩, rest⟩ := h
  exact { running := up.1, arrives := up.2, placed := at_.1, aligned := at_.2, special, free := takes.1, right := takes.2, open_ := rest.1,
          defined := rest.2.1, present := rest.2.2.1, named := rest.2.2.2 }

/-! ### The queue, accesses and locks -/

theorem met_EmptyQueueLetsTimePass : (dark.pending = [] ∧ dark.m.dieUp = false) ∧
    (State.reset.pending = [] ∧ State.reset.m.dieUp = true ∧ State.reset.m.time.slew = 0) := by decide +kernel

theorem met_LockBitsOnlyRise : ∃ t, step { State.reset with pending := [.lock .pf 31] } = .next t ∧
    startsModule (.lock .pf 31) = false := ⟨_, rfl, rfl⟩

theorem met_RegisterHoldsWhatIsWritten : (State.reset.Granted .pf .PRT_EEE_CFG 127 127 0xFFFF ∧ holdsWritten .PRT_EEE_CFG = true) ∧
    State.reset.Granted .dmp .TRG_IN_CFG 3 3 0x103 ∧ holdsWritten .TRG_IN_CFG = true :=
  ⟨⟨granted_of (by decide +kernel), by decide⟩, granted_of (by decide +kernel), by decide⟩

theorem met_BadAccessIsIgnoredAndCounted : State.reset.m.dieUp = true ∧ State.reset.m.pathUp .pf = true ∧
    ((7 : Nat) ≠ 8) ∧ 4 % 8 ≠ 0 ∧ 0x2000000 ≤ 0x2000000 ∧ (0xFFFFF8 < 0x1000000 ∧ regAt (pathNum .pf) 0xFFFFF8 = none) := by decide +kernel

theorem met_SequenceClearNeedsTheCurrentSeq :
    (State.reset.m.dieUp = true ∧ State.reset.m.pathUp .pf = true ∧ regAt (pathNum .pf) (Reg.GLB_EVENT.addr 0) = some (.GLB_EVENT, 0) ∧
      Reg.GLB_EVENT.addr 0 % 8 = 0 ∧ Reg.GLB_EVENT.addr 0 < 0x1000000 ∧ (Reg.GLB_EVENT.spec.fields.any fun f => f.acc == .sqc) = true) ∧
    (State.reset.m.writeRight .pf (blockId Reg.GLB_EVENT.spec.base) .GLB_EVENT 0 1 = .may ∧
      (seqField .GLB_EVENT).of 1 = (seqField .GLB_EVENT).of (State.reset.m.rd .GLB_EVENT 0)) ∧
    State.reset.m.writeRight .pf (blockId Reg.GLB_EVENT.spec.base) .GLB_EVENT 0 0x1000000000001 = .may ∧
      (seqField .GLB_EVENT).of 0x1000000000001 ≠ (seqField .GLB_EVENT).of (State.reset.m.rd .GLB_EVENT 0) := by decide +kernel

theorem met_UnlockAndLock : State.reset.m.dieUp = true ∧ State.reset.m.pathUp .pf = true ∧ moduleWide .pf = true ∧
    (0x5EED#16 = 0x5EED#16 ∧ (3#4).toNat < 4) ∧ 0x5EEC#16 ≠ 0x5EED#16 ∧ 4 ≤ (4#4).toNat := by decide +kernel

theorem met_LockedRegisterKeepsItsValue :
    State.reset.m.dieUp = true ∧ State.reset.m.pathUp .pf = true ∧ regAt (pathNum .pf) (Reg.GLB_FUSE_SHADOW.addr 0) = some (.GLB_FUSE_SHADOW, 0) ∧
      Reg.GLB_FUSE_SHADOW.addr 0 % 8 = 0 ∧ Reg.GLB_FUSE_SHADOW.addr 0 < 0x1000000 ∧ windowOf (pathNum .pf) .GLB_FUSE_SHADOW 0 = none ∧
      lockGroup .GLB_FUSE_SHADOW = some 1 ∧ State.reset.locks.getLsbD 1 = true ∧ (settable .GLB_FUSE_SHADOW).all (·.acc == .rwl) = true ∧
      (settable .GLB_FUSE_SHADOW).isEmpty = false ∧ (Reg.GLB_FUSE_SHADOW.spec.fields.any fun f => f.acc == .sqc) = false ∧
      State.reset.m.writeRight .pf (blockId Reg.GLB_FUSE_SHADOW.spec.base) .GLB_FUSE_SHADOW 0 1 = .may := by decide +kernel

theorem met_UnarmedGuardedWriteChangesNothing :
    State.reset.m.dieUp = true ∧ State.reset.m.pathUp .pf = true ∧ regAt (pathNum .pf) (Reg.TIM_REF_PRIO.addr 0) = some (.TIM_REF_PRIO, 0) ∧
      Reg.TIM_REF_PRIO.addr 0 % 8 = 0 ∧ Reg.TIM_REF_PRIO.addr 0 < 0x1000000 ∧ windowOf (pathNum .pf) .TIM_REF_PRIO 0 = none ∧
      keyGroup .TIM_REF_PRIO = some 3 ∧ State.reset.m.isArmed .pf 3 = false ∧
      (Reg.TIM_REF_PRIO.spec.fields.any fun f => f.acc == .sqc) = false ∧
      State.reset.m.writeRight .pf (blockId Reg.TIM_REF_PRIO.spec.base) .TIM_REF_PRIO 0 1 = .may ∧
      State.reset.m.guardChanges .TIM_REF_PRIO 0 1 = true := by decide +kernel

theorem met_JtagWritesBothHalvesAtOnce : State.reset.m.dieUp = true ∧ State.reset.m.pathUp .jtag = true ∧ 4 % 8 = 4 := by decide +kernel

/-! ### Fences and the tick -/

/-- A state with n fences of token 0xFFFFFFFF outstanding, which wait for a tick commit. -/
def fenced (n commit : Nat) : State :=
  on (fun m => { m with tick := { m.tick with fences := List.replicate n ⟨0xFFFFFFFF, 0, commit, 0⟩ } }) State.reset

theorem met_FencesAreTakenAndCompleteInOrder :
    State.reset.Granted .pf .GLB_FENCE 0 0 (GLB_FENCE_TOKEN.put 0 0) ∧ ((0 : BitVec 32) = 0) ∧
    (fenced 16 1).Granted .pf .GLB_FENCE 0 0 (GLB_FENCE_TOKEN.put 0 0xFFFFFFFF) ∧ 16 ≤ (fenced 16 1).m.tick.fences.length ∧
    (fenced 15 1).Granted .pf .GLB_FENCE 0 0 (GLB_FENCE_TOKEN.put 0 1) ∧ (fenced 15 1).m.tick.fences.length < 16 ∧
    ((fenced 15 1).m.tick.fences = ⟨0xFFFFFFFF, 0, 1, 0⟩ :: (List.replicate 14 ⟨0xFFFFFFFF, 0, 1, 0⟩ : List FenceWait) ∧
      (fenced 15 1).m.fenceReady ⟨0xFFFFFFFF, 0, 1, 0⟩ = false) ∧ (fenced 16 0).m.fenceReady ⟨0xFFFFFFFF, 0, 0, 0⟩ = true :=
  by
  and_intros
  all_goals first
    | exact granted_of (by decide +kernel)
    | decide +kernel

theorem met_FenceMarksEveryRingAndQueue :
    (fenced 15 1).Granted .sup .GLB_FENCE 0 0 (GLB_FENCE_TOKEN.put 0 1) ∧ (fenced 15 1).m.tick.fences.length < 16 ∧
    ((fenced 15 1).m.cl 3).queueFull 3 = false ∧
    ((on (fun m => m.setCl 3 { m.cl 3 with db := List.replicate 4096 (fenceJob 3 7) }) State.reset).m.cl 3).queueFull 3 = true :=
  ⟨granted_of (by decide +kernel), by decide +kernel⟩

/-- A state whose tick period changes now. -/
def waits (s : State) : State := on (fun m => { m with tick := { m.tick with periodPend := some (15, m.time.net) } }) s

theorem met_TickRegistersWait :
    State.reset.Granted .pf .GLB_TICK_FENCE 0 0 (GLB_TICK_FENCE_TOKEN.put 0 1) ∧
    (State.reset.Granted .pf .GLB_TICK_CFG 0 0 (State.reset.revised GLB_TICK_CFG_PERIOD 0 7) ∧ State.reset.m.schedulesRun = false) ∧
    ((fld SCH_PORT_CFG_GATE_EN 127 1 State.reset).Granted .pf .GLB_TICK_CFG 0 0
        ((fld SCH_PORT_CFG_GATE_EN 127 1 State.reset).revised GLB_TICK_CFG_PERIOD 0 1) ∧
      (fld SCH_PORT_CFG_GATE_EN 127 1 State.reset).m.schedulesRun = true) ∧
    (∃ s : State, s.m.dieUp = true ∧ s.m.tick.periodPend = some (15, s.m.time.net) ∧ 15 < 16 ∧ s.m.schedulesRun = false) ∧
    (∃ s : State, s.m.dieUp = true ∧ s.m.tick.periodPend = some (15, s.m.time.net) ∧ s.m.schedulesRun = true) ∧ State.reset.m.tick.periodPend = none :=
  by
  refine ⟨?_, ?_, ?_, ⟨waits State.reset, ?_⟩, ⟨waits (fld SCH_PORT_CFG_LAUNCH_EN 0 1 State.reset), ?_⟩, ?_⟩
  all_goals and_intros
  all_goals first
    | exact granted_of (by decide +kernel)
    | decide +kernel

/-- The clusters run. -/
def served : State := (List.range 4).foldl (fun s c => fld ENG_CLUSTER_STATUS_STATE c 0 s) State.reset

theorem met_QuietTickCommitCounts : served.m.dieUp = true ∧ served.m.tick.jobsDue = [] ∧ served.m.tick.timersDue = [] ∧
    served.m.tick.periodPend = none ∧ served.m.tick.now = [] ∧ served.m.time.adj = none ∧ served.m.time.slew = 0 ∧
    served.m.hdg.resets = [] ∧ served.m.upd.tc = none ∧ (∀ c, (served.m.cl c).quiesce = none) ∧
    (∀ c, c < 4 → served.m.get ENG_CLUSTER_STATUS_STATE c < 3) ∧
    served.m.time.net ≤ served.m.tick.boundary ∧ served.m.tick.fenceTok < 2 ^ 32 ∧
    (fld GLB_TICK_FENCE_BUSY 0 1 served).m.flag GLB_TICK_FENCE_BUSY = true :=
  by
  and_intros
  all_goals first
    | exact fun c => by unfold Mod.cl; rcases c with _ | _ | _ | c <;> rfl
    | decide +kernel

/-- A write of parser node 63 is staged for this commit. -/
def stagedNode (lost : Bool) : State :=
  on (fun m => { m with tick := { m.tick with now := [⟨.node 63, 2 ^ 127⟩], nowLost := lost } }) served

theorem met_StagedParserWriteCommits : ∀ lost, (stagedNode lost).m.dieUp = true ∧ (stagedNode lost).m.tick.jobsDue = [] ∧
    (stagedNode lost).m.tick.timersDue = [] ∧ (stagedNode lost).m.tick.periodPend = none ∧ (stagedNode lost).m.tick.now = [⟨.node 63, 2 ^ 127⟩] ∧
    (stagedNode lost).m.time.adj = none ∧ (stagedNode lost).m.time.slew = 0 ∧ (stagedNode lost).m.hdg.resets = [] ∧
    (stagedNode lost).m.upd.tc = none ∧ (stagedNode lost).m.tick.nowLost = lost ∧ (stagedNode lost).m.time.net ≤ (stagedNode lost).m.tick.boundary ∧
    (∀ c, c < 4 → (stagedNode lost).m.get ENG_CLUSTER_STATUS_STATE c < 3) ∧
    (∀ c, ((stagedNode lost).m.cl c).quiesce = none) := by
  intro lost; cases lost <;> and_intros
  all_goals first | decide +kernel | exact fun c => by unfold Mod.cl; rcases c with _ | _ | _ | c <;> rfl

/-! ### Ill-formed commands: each check of WellFormed refuses one -/

/-- What a start finds, with four times. -/
def found (a b c d : Nat) : StartFound := ⟨a, b, c, d, 3, 15, [], [], []⟩

theorem test_registerWrite_ill : (Instr.registerWrite .pf (2 ^ 32) 8 0).wellFormed = false ∧ (Instr.registerWrite .pf 0 0 0).wellFormed = false ∧
    (Instr.registerWrite .pf 0 9 0).wellFormed = false ∧ (Instr.registerWrite .pf (2 ^ 32 - 1) 8 0).wellFormed = true := by decide

theorem test_offset_ill : (Instr.sequenceClear .pf (2 ^ 32) 0).wellFormed = false ∧ (Instr.jtagHighWrite (2 ^ 32) 0).wellFormed = false := by decide

theorem test_octets_ill : (Instr.frameReceived 0 [] {} 0).wellFormed = false ∧ (Instr.ctIngressDecision 0 [] {} 0).wellFormed = false ∧
    (Instr.pauseReceived 0 []).wellFormed = false ∧ (Instr.internalInject (.host 0 0 [])).wellFormed = false ∧
    (Instr.internalInject (.sup 0 0 [])).wellFormed = false ∧ (Instr.frameReceived 0 [0] {} 0).wellFormed = true := by decide

theorem test_start_ill : (Instr.powerOn 0 65536 (found 1 2 3 4)).wellFormed = false ∧ (Instr.powerOn 0 0 (found 2 1 3 4)).wellFormed = false ∧
    (Instr.porst (found 1 3 2 4)).wellFormed = false ∧ (Instr.deviceReset (found 1 2 4 3)).wellFormed = false ∧
    (Instr.coreFatal .pll (found 2 1 3 4)).wellFormed = false ∧ (Instr.tripRecovery 0 (found 2 1 3 4)).wellFormed = false ∧
    (Instr.powerOn 0 65535 (found 1 2 3 4)).wellFormed = true := by decide

/-- What a test of a feed's path finds, at an input voltage. -/
def passed (volts : Nat) : FeedTest := { volts := volts, rippleMv := 0, pulseMa := 0, droopMv := 0, reverseMa := 0, responds := true, dropMv := 0 }

theorem test_measurement_ill : (Instr.feedState 0 0 65536).wellFormed = false ∧ (Instr.transferOnLoss 65536).wellFormed = false ∧
    (Instr.selfTest ⟨65536, 0, 0, 0, 0, true, 0, 0⟩ (passed 0)).wellFormed = false ∧
    (Instr.selfTestNow .pf (passed 0) ⟨0, 65536, 0, 0, 0, true, 0, 0⟩).wellFormed = false ∧
    (Instr.holdupMeasure 65536 0 0 0).wellFormed = false ∧ (Instr.holdupMeasure 0 65536 0 0).wellFormed = false ∧
    (Instr.holdupMeasure 0 0 65536 0).wellFormed = false ∧ (Instr.holdupMeasure 0 0 0 65536).wellFormed = false := by decide

/-! ### Frames -/

/-- A frame of 64 octets with a good FCS, and one that PAUSES class 7 by 65,535 quanta. -/
def good : List Byte := sealFrame false (List.replicate 60 0x11)

def pfcFrame (q : Byte) : List Byte :=
  sealFrame false (List.replicate 12 0x11 ++ [0x88, 0x08, 0x01, 0x01, 0, 0x80] ++ List.replicate 14 0 ++ [q, q] ++ List.replicate 26 0)

/-- A port whose link is up. -/
def linked (p : Nat) (s : State) : State := fld PRT_PORT_STATUS_STATE p 2 s

/-- Ports 0 and 1 are up at one rate, VLAN 1 is valid, and the address that a frame of one plain parser node shows lies at port 1. -/
def wired : State :=
  State.reset |> linked 0 |> linked 1 |> fld PRT_PORT_CFG_TYPE 0 1 |> fld PRT_PORT_CFG_TYPE 1 1 |> fld BUF_CAPACITY_USABLE 0 393216 |> on fun m =>
    { m with
      cls := { m.cls with nodes := [(0, (BitVec.ofNat 64 (1 + 13 * 2 ^ 16 + 2 ^ 49), 0))] },
      fwd := { m.fwd with tbl := [(tblKey 0 1, 2 ^ 63)], fdb := [(4 * m.fdbBucket 0 0, 2 ^ 127 + 2 ^ 64 + 2 ^ 43)] } }

/-- A frame is arriving at port 0. -/
def coming (received : List Byte) (gone ct : Bool) : State :=
  wired |> on fun m => { m with buf := { m.buf with arriving :=
    [(0, { frame := m.internalFrame 0 0 1 (List.replicate 60 0x11), group := false, targets := [(1, none)], received := received,
           symErr := false, gone := gone, ct := ct, maxFrame := 1518 })] } }

/-- What an arriving frame's decision is. -/
def decision (s : State) (p : Nat) (o : List Byte) : Option Decision × Mod :=
  s.m.ingress { s.m.arrived p o false (s.m.rxStamp 0).1 with octets := o.take (s.m.get PRT_PORT_CFG_MAX_FRAME p), early := true } none false
    (s.m.rxStamp 0).2

/-- The path of a frame that its decision lets go on, as CT_INGRESS_DECISION asks for it. -/
def openPath (d : Decision) (m : Mod) : Option (Nat × Frame) :=
  m.ctDecide { d with frame := { d.frame with early := false, epoch := m.get BUF_HEDGE_STATUS_EPOCH d.frame.hedge } }

theorem decided_of {x : Option Decision × Mod} {P : Decision → Mod → Bool} (h : (x.1.any fun d => P d x.2) = true) :
    ∃ d m1, x = (some d, m1) ∧ P d m1 = true := by
  obtain ⟨o, m1⟩ := x
  cases o with
  | none => simp at h
  | some d => exact ⟨d, m1, rfl, by simpa using h⟩

theorem drawn_of {m : Mod} {p : Nat} (h : p < 128) (n : m.get CLP_PORT_SAMPLE_IN_N p = 1) : (m.drawIn p).1 = true := by
  simp [Mod.drawIn, Mod.sampleDraw, Nat.not_le.mpr h, n, Nat.mod_one]

/-- A port of eight lanes with FEC. -/
def coded (p : Nat) : State := linked p State.reset |> fld PRT_PORT_CFG_TYPE p 9 |> fld PRT_PORT_CFG_FEC p 3

theorem met_BadFrameGoesNoFurther : State.reset.m.dieUp = true ∧ State.reset.m.portUp 127 = false ∧
    ((linked 127 State.reset).m.portUp 127 = true ∧ lookup (linked 127 State.reset).m.buf.arriving 127 = none ∧
      (linked 127 State.reset).m.rxClass 127 good true = .errored ∧ (linked 127 State.reset).m.rxClass 127 (good.take 63) false = .fragment) ∧
    State.reset.m.get PRT_PORT_CFG_FEC 127 = 0 ∧
    ((coded 0).m.portUp 0 = true ∧ (coded 0).m.get PRT_PORT_CFG_FEC 0 ≠ 0 ∧ (coded 0).m.portOfLane 0 = some 0) ∧
    ((coded 120).m.portUp 120 = true ∧ (coded 120).m.get PRT_PORT_CFG_FEC 120 ≠ 0 ∧ (coded 120).m.portOfLane 127 = some 120) := by
  decide +kernel

/-- R61, R441: codewords are counted; an uncorrectable one fills its lane's bucket by INC_MINOR. -/
theorem test_fec : ((coded 120).m.fecSeen 120 ⟨false, 3, [127, 119]⟩).ctr ((coded 120).m.prtCtr 120 35).off = 3 ∧
    ((coded 120).m.fecSeen 120 ⟨false, 3, [127, 119]⟩).ctr ((coded 120).m.prtCtr 120 36).off = 1 ∧
    ((coded 120).m.fecSeen 120 ⟨false, 3, [127, 119]⟩).bucket 0 127 = (coded 120).m.get INT_BUCKET_CFG_INC_MINOR 0 := by decide +kernel

theorem met_GoodFrameEntersThePipeline :
    wired.m.dieUp = true ∧ wired.m.portUp 0 = true ∧ lookup wired.m.buf.arriving 0 = none ∧
    (wired.m.rxClass 0 good false = .good ∧ isControl good = false) ∧ (fld PRT_PORT_CFG_MAX_FRAME 0 63 wired).m.rxClass 0 good false = .oversize ∧
    (wired.m.rxClass 0 (pfcFrame 0xFF) false = .good ∧ isControl (pfcFrame 0xFF) = true) ∧
    (64 ≤ good.length ∧ (decision (linked 127 State.reset) 127 good).1 = none) := by decide +kernel

/-- Cut-through is allowed for class 0 of Hedge 0, with an ingress sampler of one frame in n at port 0. -/
def cutter (n : Nat) : State := wired |> fld BUF_HEDGE_CLASS_CT_EN 0 255 |> fld CLP_PORT_SAMPLE_IN_N 0 n

theorem met_CutThroughStarts :
    (∀ n ∈ [0, 1], (cutter n).m.dieUp = true ∧ (cutter n).m.portUp 0 = true ∧ lookup (cutter n).m.buf.arriving 0 = none ∧ 64 ≤ good.length ∧
      isControl good = false) ∧
    (∃ d m1, decision (cutter 0) 0 good = (some d, m1) ∧ ((openPath d m1).isSome && !(m1.drawIn 0).1) = true) ∧
    (∃ d m1, decision (fld BUF_HEDGE_CLASS_CT_EN 0 0 wired) 0 good = (some d, m1) ∧ (openPath d m1).isNone = true) ∧
    (∃ d m1, decision (cutter 1) 0 good = (some d, m1) ∧ (openPath d m1).isSome = true ∧ (m1.drawIn 0).1 = true) := by
  refine ⟨by decide +kernel, decided_of (by decide +kernel), decided_of (by decide +kernel), ?_⟩
  obtain ⟨d, m1, h, k⟩ := decided_of (x := decision (cutter 1) 0 good)
    (P := fun d m => (openPath d m).isSome && m.get CLP_PORT_SAMPLE_IN_N 0 == 1) (by decide +kernel)
  simp only [Bool.and_eq_true, beq_iff_eq] at k
  exact ⟨d, m1, h, k.1, drawn_of (by decide) k.2⟩

theorem met_CutThroughEnds :
    lookup wired.m.buf.arriving 0 = none ∧
    (∀ o ∈ [good, good.take 63], ∀ gone ∈ [true, false], ∀ ct ∈ [true, false],
      (coming o gone ct).m.dieUp = true ∧ (lookup (coming o gone ct).m.buf.arriving 0).map (fun a => (a.gone, a.ct)) = some (gone, ct)) ∧
    (lookup (coming good false false).m.buf.arriving 0).map (fun a => rxClassOf a.maxFrame a.received a.symErr) = some .good ∧
    (lookup (coming (good.take 63) false false).m.buf.arriving 0).map (fun a => rxClassOf a.maxFrame a.received a.symErr) = some .fragment ∧
    (∀ e ∈ [0, 1], (lookup (fld BUF_HEDGE_STATUS_EPOCH 0 e (coming good false false)).m.buf.arriving 0).map (fun a =>
      decide (a.frame.epoch = (fld BUF_HEDGE_STATUS_EPOCH 0 e (coming good false false)).m.get BUF_HEDGE_STATUS_EPOCH a.frame.hedge)) = some (e == 0)) := by
  decide +kernel

theorem met_Injection :
    State.reset.m.hdg.busMaster.contains 16 = false ∧ State.reset.m.flag GLB_STATUS_HEADLESS = false ∧
    (on (fun m => { m with hdg := { m.hdg with busMaster := [16] } }) State.reset).m.hdg.busMaster.contains (15 + 1) = true ∧
    (fld GLB_STATUS_HEADLESS 0 1 State.reset).m.flag GLB_STATUS_HEADLESS = true ∧
    (∀ i j : Inject, ∀ m : Mod, (m.withBuf { m.buf with inject := [(130, j), (133, i)] }).buf.inject = [(130, j)] ++ (133, i) :: [] ∧
      ∀ e ∈ [((130 : Nat), j)], e.1 ≠ 130 + 3) ∧ ∀ e ∈ State.reset.m.buf.inject, e.1 ≠ 130 + 0 :=
  ⟨by decide, by decide +kernel, by decide, by decide +kernel, fun i j m => ⟨rfl, by simp⟩, by decide⟩

/-- A copy of frame 0, from source 0, of class 0 waits for port 1. -/
def waiting (launch : Option Nat) (waited : Bool) : State :=
  wired |> on fun m => { m with buf := { m.buf with
    frames := [(0, m.internalFrame 0 0 1 (List.replicate 60 0x11))], voqs := [(voqKey 0 1 0, [⟨0, 0, 0, launch, waited⟩])] } }

/-- Port 1's shaper lacks tokens; a launch time at port 1 is near. -/
def shaped : State := on (fun m => { m.wr .SHP_PORT 1 (BitVec.ofNat 64 (2 ^ 62)) with sch := { m.sch with ptok := [(1, ⟨-1, 0⟩)] } }) (waiting none false)

def guarded : State :=
  waiting none false |> fld SCH_PORT_CFG_LAUNCH_GUARD 1 1 |> fld TIM_STATUS_USABLE 0 1 |> on fun m =>
    { m with sch := { m.sch with launch := [(8 * 1 + 0, [⟨0, 0, 0, some (m.time.net + 1), false⟩])] } }

/-- A queued copy that the port shaper holds, with a launch head that is due, and perhaps one whose launch time is near. -/
def launches (near : Bool) : State :=
  shaped |> fld SCH_CLASS_CFG_LEVEL 8 0 |> fld SCH_CLASS_CFG_LEVEL 9 7 |> fld SCH_PORT_CFG_LAUNCH_GUARD 1 1 |> fld TIM_STATUS_USABLE 0 1 |> on fun m =>
    { m with sch := { m.sch with launch := [(8 * 1 + 1, [⟨0, 0, 1, some m.time.net, false⟩])] ++
      (if near then [(8 * 1 + 2, [⟨0, 0, 2, some (m.time.net + 1), false⟩])] else []) } }

/-- Port d transmits frame 0. -/
def sending (d : Nat) (ct : Bool) : State :=
  waiting none false |> on fun m => { m with buf := { m.buf with
    tx := [(d, { copy := ⟨0, 0, 0, none, false⟩, octets := good, ends := 8, start := 0, tagged := false, ct := ct, read := m.frame 0 })],
    arriving := if ct then (coming good false true).m.buf.arriving else [] } }

/-- Port 1 owes a PFC frame. -/
def owing : State := on (fun m => { m with prt := { m.prt with pfcOwed := [(1, 0)] } }) wired

/-- The copy that port d would start, if it is as P says. -/
def chooses (s : State) (d : Nat) (only : Bool) (P : Candidate → Bool) : Bool := (s.m.choose d only).1.any P

theorem chosen_of {s : State} {d : Nat} {only : Bool} {P : Candidate → Bool} (h : chooses s d only P = true) :
    ∃ c m1, s.m.choose d only = (some c, m1) ∧ P c = true := by
  unfold chooses at h
  generalize s.m.choose d only = x at h
  obtain ⟨o, m1⟩ := x
  cases o with
  | none => simp at h
  | some c => exact ⟨c, m1, rfl, by simpa using h⟩

/-- Nothing holds a copy at port d. -/
def unheld (s : State) (d : Nat) (c : Candidate) : Bool := !(s.m.portShaperHolds d c) && !(s.m.guardHolds d c)

theorem met_SchedulerStartsTheChosenCopy :
    (State.reset.m.dieUp = true ∧ State.reset.m.transmitterFree 127 = false) ∧ (owing.m.transmitterFree 1 = true ∧ owing.m.pfcDue 1 = true) ∧
    (wired.m.transmitterFree 1 = true ∧ wired.m.pfcDue 1 = false ∧ (wired.m.choose 1).1 = none) ∧
    (∀ lpi ∈ [0, 1], (fld PRT_PORT_STATUS_LPI_TX 1 lpi (waiting none false)).m.flag PRT_PORT_STATUS_LPI_TX 1 = (lpi == 1) ∧
      (fld PRT_PORT_STATUS_LPI_TX 1 lpi (waiting none false)).m.transmitterFree 1 = true ∧
      chooses (fld PRT_PORT_STATUS_LPI_TX 1 lpi (waiting none false)) 1 false
        (unheld (fld PRT_PORT_STATUS_LPI_TX 1 lpi (waiting none false)) 1) = true) ∧
    (chooses shaped 1 false (fun c => shaped.m.portShaperHolds 1 c && c.source.isSome) = true ∧ (shaped.m.choose 1 true).1 = none) ∧
    chooses guarded 1 false (fun c => !(guarded.m.portShaperHolds 1 c) && guarded.m.guardHolds 1 c) = true ∧
    (∀ near ∈ [true, false],
      chooses (launches near) 1 false (fun c => (launches near).m.portShaperHolds 1 c && c.source.isSome) = true ∧
      chooses (launches near) 1 true (fun y => (launches near).m.guardHolds 1 y == near) = true ∧
      (launches near).m.flag PRT_PORT_STATUS_LPI_TX 1 = false) ∧
    (lookup (sending 128 false).m.buf.tx 128).isSome = true ∧ 130 ≤ (Fin.ofNat 134 133).val := by decide +kernel

theorem met_DepartedFrameIsOnTheWire :
    lookup State.reset.m.buf.tx 127 = none ∧
    ((sending 127 true).m.buf.arriving.any fun e => e.2.ct && e.2.id == 0) = true ∧
    (∀ d ∈ [127, 128], ((sending d false).m.buf.arriving.any fun e => e.2.ct && e.2.id == 0) = false ∧
      ((lookup (sending d false).m.buf.tx d).bind (·.read)).isSome = true) := by decide +kernel
/-! ### Ports and tiles -/

/-- Ports of the state whose port timers are p. -/
def timed (f : PrtSt → PrtSt) (s : State) : State := on (fun m => { m with prt := f m.prt }) s

/-- Port 127 obeys PFC for class 7. -/
def obeying : State := linked 127 State.reset |> fld PRT_FC_CFG_MODE 127 2 |> fld PRT_FC_CFG_OBEY 127 128

/-- Port 127 may go to low-power idle. -/
def resting : State := linked 127 State.reset |> fld PRT_PORT_CFG_TYPE 127 3 |> fld PRT_PORT_CFG_EEE_EN 127 1 |> fld PRT_EEE_CFG_IDLE_US 127 0

/-- The same, with a copy waiting at it. -/
def roused : State := resting |> on fun m => { m with buf := { m.buf with
    frames := [(0, m.internalFrame 0 0 1 (List.replicate 60 0x11))], voqs := [(voqKey 0 127 0, [⟨0, 0, 0, none, false⟩])] } }

theorem met_PauseAndPfc :
    (State.reset.m.dieUp = true ∧ lookup State.reset.m.prt.pauseEnd (8 * 127 + 7) = none) ∧
    lookup (timed (fun q => { q with pauseEnd := [(1023, 5)] }) State.reset).m.prt.pauseEnd (8 * 127 + 7) = some 5 ∧
    (∀ q ∈ [(0 : Byte), 0xFF], obeying.m.portUp 127 = true ∧ lookup obeying.m.buf.arriving 127 = none ∧ isControl (pfcFrame q) = true ∧
      obeying.m.rxClass 127 (pfcFrame q) false = .good ∧ fieldAt (pfcFrame q) 14 2 = 0x0101 ∧ obeying.m.get PRT_FC_CFG_MODE 127 = 2 ∧
      (fieldAt (pfcFrame q) 16 2 % 256).testBit 7 = true ∧ (obeying.m.get PRT_FC_CFG_OBEY 127).testBit 7 = true) ∧
    lookup State.reset.m.prt.pfcOwed 127 = none ∧ lookup State.reset.m.prt.refreshAt 127 = none ∧
    (∀ xoff ∈ [0, 255], lookup (timed (fun q => { q with pfcOwed := [(127, 255)] }) (fld PRT_PORT_STATUS_XOFF 127 xoff (linked 127 State.reset))).m.prt.pfcOwed
        127 = some 255 ∧
      (timed (fun q => { q with pfcOwed := [(127, 255)] }) (fld PRT_PORT_STATUS_XOFF 127 xoff (linked 127 State.reset))).m.transmitterFree 127 = true ∧
      (fld PRT_PORT_STATUS_XOFF 127 xoff (linked 127 State.reset)).m.flag SCH_PORT_CFG_GATE_EN 127 = false ∧
      (fld PRT_PORT_STATUS_XOFF 127 xoff (linked 127 State.reset)).m.flag PRT_PORT_STATUS_LPI_TX 127 = false) ∧
    (lookup (timed (fun q => { q with refreshAt := [(127, 0)] }) State.reset).m.prt.refreshAt 127 = some 0 ∧ 0 ≤ State.reset.m.now) ∧
    ((linked 127 State.reset).m.portUp 127 = true ∧ (linked 127 State.reset).m.flag PRT_PORT_STATUS_LPI_RX 127 = false) ∧
    (∀ s ∈ [resting, roused], s.m.portUp 127 = true ∧ s.m.flag PRT_PORT_CFG_EEE_EN 127 = true ∧ 3 ≤ s.m.portType 127 ∧ s.m.portType 127 ≤ 6 ∧
      s.m.flag PRT_PORT_STATUS_LPI_TX 127 = false ∧ lookup s.m.buf.tx 127 = none ∧ lookup s.m.prt.pfcOwed 127 = none ∧
      lookupD s.m.prt.idleSince 127 0 + s.m.get PRT_EEE_CFG_IDLE_US 127 * 1000 ≤ s.m.now) ∧
    (resting.m.choose 127).1.isSome = false ∧ (roused.m.choose 127).1.isSome = true := by decide +kernel

/-- What a write of PRT_PORT_CFG by a path asks of port p, and its check. -/
def asked (s : State) (path : Path) (p : Nat) (v : Word) : Word := (wholeWrite path .PRT_PORT_CFG p v).onto (s.m.rd .PRT_PORT_CFG p)

def checkOf (s : State) (path : Path) (p : Nat) (v : Word) : Nat :=
  s.m.cfgCheck (vfHedge path).isSome p (s.m.rd .PRT_PORT_CFG p) (asked s path p v)

/-- A configuration of a port of TYPE t, down. -/
def portOf (s : State) (p t : Nat) : Word := PRT_PORT_CFG_TYPE.put (s.m.rd .PRT_PORT_CFG p) t

/-- Port 127 has TYPE 1 and ADMIN a. -/
def typed (a : Nat) : State := State.reset |> fld PRT_PORT_CFG_TYPE 127 1 |> fld PRT_PORT_CFG_ADMIN 127 a

/-- Port 127 has a wake under way. -/
def waking (s : State) : State := timed (fun q => { q with portWake := [(127, ⟨0, false, true⟩)] }) s

/-- Port 127 of TYPE 1 is up, with its PCS lock. -/
def serving : State := fld PRT_PORT_STATUS_PCS_LOCK 127 1 (linked 127 (typed 1))

def Checked (s : State) (v : Word) : Prop := s.Granted .pf .PRT_PORT_CFG 127 127 v ∧ checkOf s .pf 127 v = 0

theorem met_PortConfigurationIsChecked :
    (State.reset.Granted .pf .PRT_PORT_CFG 127 127 (portOf State.reset 127 9) ∧
      asked State.reset .pf 127 (portOf State.reset 127 9) ≠ State.reset.m.rd .PRT_PORT_CFG 127 ∧
      checkOf State.reset .pf 127 (portOf State.reset 127 9) ≠ 0) ∧
    (State.reset.Granted .pf .PRT_PORT_CFG 127 127 (portOf State.reset 127 1) ∧
      asked State.reset .pf 127 (portOf State.reset 127 1) ≠ State.reset.m.rd .PRT_PORT_CFG 127 ∧
      checkOf State.reset .pf 127 (portOf State.reset 127 1) = 0 ∧ State.reset.m.linked 127 = false ∧
      lookup State.reset.m.prt.portWake 127 = none) ∧
    (Checked (waking (typed 1)) ((waking (typed 1)).revised PRT_PORT_CFG_ADMIN 127 2) ∧ (lookup (waking (typed 1)).m.prt.portWake 127).isSome = true) ∧
    (Checked serving (serving.revised PRT_PORT_CFG_ADMIN 127 2) ∧ lookup serving.m.prt.portWake 127 = none ∧
      serving.m.portType 127 ≠ 0 ∧ serving.m.portUp 127 = true ∧ serving.m.linked 127 = true ∧
      lookup serving.m.prt.portDrain 127 = none ∧ serving.m.flag BUF_TILE_CFG_DOWN_POLICY (tileOf 127) = false) ∧
    (∀ a : Nat, ∀ s, s = fld PRT_PORT_STATUS_STATE 127 a (typed 2) → a ∈ [2, 3] →
      Checked s (s.revised PRT_PORT_CFG_ADMIN 127 1) ∧ s.m.portType 127 ≠ 0 ∧ s.m.get PRT_PORT_CFG_ADMIN 127 ≠ 0 ∧
        s.m.get PRT_PORT_STATUS_STATE 127 = a ∧ lookup s.m.prt.portWake 127 = none) ∧
    (Checked (waking (fld PRT_PORT_STATUS_STATE 127 4 (typed 2))) ((waking (fld PRT_PORT_STATUS_STATE 127 4 (typed 2))).revised PRT_PORT_CFG_ADMIN 127 1) ∧
      (waking (fld PRT_PORT_STATUS_STATE 127 4 (typed 2))).m.get PRT_PORT_STATUS_STATE 127 = 4) := by
  refine ⟨?_, ?_, ?_, ?_, fun a s hs ha => ?_, ?_⟩
  on_goal 5 =>
    simp only [List.mem_cons, List.not_mem_nil, or_false] at ha
    rcases ha with rfl | rfl <;> subst hs
  all_goals and_intros
  all_goals first
    | exact granted_of (by decide +kernel)
    | decide +kernel

/-- Tile 7 in a state. -/
def tiled (a : Nat) : State := fld PRT_TILE_STATUS_STATE 7 a State.reset

theorem met_TileTakesTheStateAskedFor :
    ∀ a ∈ [0, 2, 3, 4], (tiled a).Granted .pf .PRT_TILE_CTL 7 7 (PRT_TILE_CTL_STATE_REQ.put 0 2) ∧ PRT_TILE_CTL_STATE_REQ.of (PRT_TILE_CTL_STATE_REQ.put 0 2) ≠ 0 ∧
      (tiled a).m.get PRT_TILE_STATUS_STATE 7 = a ∧ (tiled a).m.flag BUF_TILE_CFG_DOWN_POLICY 7 = false ∧
      (tiled a).Granted .pf .PRT_TILE_CTL 7 7 ((tiled a).revised PRT_TILE_CTL_STATE_REQ 7 0) ∧ lookup (tiled a).m.prt.tileWake 7 = none := by
  intro a ha
  simp only [List.mem_cons, List.not_mem_nil, or_false] at ha
  rcases ha with rfl | rfl | rfl | rfl
  all_goals and_intros
  all_goals first
    | exact granted_of (by decide +kernel)
    | decide +kernel

/-- Port 127 is in LINKING, with autonegotiation on or off. -/
def linkingUp (an lt : Nat) : State :=
  fld PRT_PORT_STATUS_STATE 127 1 State.reset |> fld PRT_PORT_CFG_TYPE 127 1 |> fld PRT_PORT_CFG_AN_EN 127 an |> fld PRT_PORT_CFG_LT_EN 127 lt

/-- Its negotiation, if it has one, is done, and it trains. -/
def negotiated (an : Nat) : State := fld PRT_PORT_STATUS_AN_DONE 127 an (linkingUp an 1)

theorem met_LinkComesUpAndGoesDown :
    ((linkingUp 1 0).m.dieUp = true ∧ (linkingUp 1 0).m.linking 127 = true ∧ (linkingUp 1 0).m.flag PRT_PORT_CFG_AN_EN 127 = true ∧
      (linkingUp 1 0).m.flag PRT_PORT_STATUS_AN_DONE 127 = false ∧ lookupD (linkingUp 1 0).m.prt.anRetry 127 0 ≤ (linkingUp 1 0).m.now) ∧
    (∀ an ∈ [0, 1], (negotiated an).m.linking 127 = true ∧
      ((negotiated an).m.flag PRT_PORT_CFG_AN_EN 127 = false ∨ (negotiated an).m.flag PRT_PORT_STATUS_AN_DONE 127 = true) ∧
      (negotiated an).m.flag PRT_PORT_CFG_LT_EN 127 = true ∧ (groupOf 127 ((negotiated an).m.portType 127)).contains 127 = true) ∧
    (State.reset.m.linking 127 = false ∧ State.reset.m.portUp 127 = false ∧ State.reset.m.linked 127 = false) ∧
    (∀ s ∈ [serving, fld PRT_PORT_STATUS_STATE 127 6 serving], (s.m.portUp 127 || s.m.linked 127) = true ∧
      (fld FDB_PORT_CFG_FLUSH_ON_DOWN 127 0 s).m.flag FDB_PORT_CFG_FLUSH_ON_DOWN 127 = false) := by
  decide +kernel

/-- Tile 7 or port 127 drains; a copy waits for port 127. -/
def draining (queued : Bool) : State :=
  (if queued then roused else State.reset) |> timed fun q => { q with tileDrain := [(7, ⟨0, 3⟩)], portDrain := [(127, ⟨0, 3⟩)] }

/-- Lane 127 of port 127, of TYPE 1, asleep. -/
def asleep : State := fld PRT_PORT_STATUS_STATE 127 3 (typed 2)

theorem met_DrainsEndAndWakesComplete :
    (State.reset.m.dieUp = true ∧ State.reset.m.drainOf (.tile 7) = none ∧ State.reset.m.drainOf (.port 127) = none) ∧
    ((draining true).m.drainOf (.tile 7) = some ⟨0, 3⟩ ∧ ((unitDests (.tile 7)).all fun p => (draining true).m.queuedTo p == 0) = false) ∧
    ((draining false).m.drainOf (.tile 7) = some ⟨0, 3⟩ ∧ ((unitDests (.tile 7)).all fun p => (draining false).m.queuedTo p == 0) = true ∧
      (∀ p ∈ tilePorts 7, (draining false).m.portType p = 0) ∧ (3 < 8)) ∧
    ((draining false).m.drainOf (.port 127) = some ⟨0, 3⟩ ∧ ((unitDests (.port 127)).all fun p => (draining false).m.queuedTo p == 0) = true ∧
      (draining false).m.linked 127 = false ∧ 0 ≤ (draining false).m.now) ∧
    State.reset.m.portOfLane 127 = none ∧
    (asleep.m.portOfLane 127 = some 127 ∧ asleep.m.get PRT_PORT_CFG_ADMIN 127 = 2 ∧ asleep.m.portRetired 127 = false ∧
      asleep.m.get PRT_TILE_STATUS_STATE (127 / 16) = 0 ∧ asleep.m.get PRT_PORT_STATUS_STATE 127 = 3 ∧ lookup asleep.m.prt.portWake 127 = none) ∧
    (lookup (waking asleep).m.prt.portWake 127 = some ⟨0, false, true⟩ ∧ (waking asleep).m.get PRT_TILE_STATUS_STATE (tileOf 127) = 0) ∧
    ((fld INT_BUCKET_CFG_THRESH 0 0 (typed 1)).m.portOfLane 127 = some 127 ∧
      (fld INT_BUCKET_CFG_THRESH 0 0 (typed 1)).m.get INT_BUCKET_CFG_THRESH 0 ≤ (fld INT_BUCKET_CFG_THRESH 0 0 (typed 1)).m.bucket 0 127 ∧
      (typed 1).m.linked 127 = false) ∧
    lookup State.reset.m.prt.testing 127 = none ∧ (lookup (timed (fun q => { q with testing := [(127, 1)] }) (typed 1)).m.prt.testing 127).isSome = true ∧
    (∀ l ∈ [Fin.ofNat 128 126], l.val ∉ groupOf 127 ((typed 1).m.portType 127)) := by decide +kernel

/-! ### Tables and windows -/

/-- A state with a register's value. -/
def reg (r : Reg) (i : Nat) (v : Word) (s : State) : State := on (·.wr r i v) s

/-- A parse-graph command word. -/
def parWord (table index : Nat) : Word := PAR_WIN_CMD_TABLE.put (PAR_WIN_CMD_INDEX.put 0 index) table

/-- Staging is open and has room. -/
def Staging (s : State) (x : Staged) : Prop :=
  s.m.stageClosed = false ∧ s.m.tick.nowLost = false ∧ stagedSize (stagedWith s.m.tick.now x) ≤ stageDepth

theorem met_ParseGraphWindow : vfHedge .pf = none ∧
    (∀ v ∈ [parWord 0 63, parWord 0 64, parWord 1 1023], State.reset.Opened .pf .PAR_WIN_CMD 0 0 .par (withOp PAR_WIN_CMD_OP v 1) ∧
      State.reset.Opened .pf .PAR_WIN_CMD 0 0 .par (withOp PAR_WIN_CMD_OP v 2)) ∧
    (PAR_WIN_CMD_INDEX.of (parWord 0 63) = 63 ∧ PAR_WIN_CMD_TABLE.of (parWord 0 63) = 0 ∧ PAR_WIN_CMD_INDEX.of (parWord 0 64) = 64 ∧
      PAR_WIN_CMD_TABLE.of (parWord 1 1023) = 1) ∧
    (Staging State.reset ⟨.node 63, 0 &&& nodeMask⟩ ∧ nodeReserved (State.reset.m.rd .PAR_WIN_W0).toNat = false) ∧
    (nodeReserved (0xE0001 + 0 * 2 ^ 64) = true ∧ ((reg .PAR_WIN_W0 0 0xE0001 State.reset).m.rd .PAR_WIN_W0).toNat = 0xE0001 ∧
      (reg .PAR_WIN_W0 0 0xE0001 State.reset).Opened .pf .PAR_WIN_CMD 0 0 .par (withOp PAR_WIN_CMD_OP (parWord 0 63) 1)) ∧
    Staging State.reset ⟨.transition 1023, 0⟩ := by
  refine ⟨rfl, fun v hv => ?_, ?_⟩
  · simp only [List.mem_cons, List.not_mem_nil, or_false] at hv
    rcases hv with rfl | rfl | rfl <;> and_intros <;> exact opened_of (by decide +kernel)
  · and_intros
    all_goals first
      | exact opened_of (by decide +kernel)
      | decide +kernel

/-- A rule command word. -/
def ruleCmd (slice index force : Nat) : Word := CLS_RULE_CMD_SLICE.put (CLS_RULE_CMD_INDEX.put (CLS_RULE_CMD_FORCE.put 0 force) index) slice

/-- Rule 2047 of slice 23 is valid. -/
def ruled : State := on (fun m => { m with cls := { m.cls with rules := [(2048 * 23 + 2047, ⟨1, 1, 0, true⟩)] } }) State.reset

/-- Slice 23 is enabled. -/
def enabled : State := fld CLS_SLICE_CFG_EN 23 1 State.reset

/-- A write of slice 23 for an owner, by a path armed or not. -/
def ownedBy (h : Nat) : Word := CLS_SLICE_CFG_OWNER.put 0 h
def armed (g : Nat) (s : State) : State := on (fun m => { m with arm := { m.arm with armed := [(pathNum .pf, g)] } }) s

theorem met_ClassifierRulesAtOnce :
    (∀ s ∈ [State.reset, ruled], ∀ op ∈ [1, 2, 3], ∀ f ∈ [0, 1],
      openedB s .pf .CLS_RULE_CMD 0 0 (.cls 0) (withOp CLS_RULE_CMD_OP (ruleCmd 23 2047 f) op) = true) ∧
    (vfHedge .pf = none ∧ 0 = pathNum .pf ∧ 23 = CLS_RULE_CMD_SLICE.of (ruleCmd 23 2047 0) ∧ 2047 = CLS_RULE_CMD_INDEX.of (ruleCmd 23 2047 0) ∧
      State.reset.m.pairedOdd 23 = false ∧ State.reset.m.flag CLS_SLICE_CFG_PAIR 23 = false ∧ actReserved (State.reset.m.rd .CLS_RULE_ACT 0) = false ∧
      State.reset.m.rule 23 2047 = none ∧ CLS_RULE_CMD_FORCE.of (ruleCmd 23 2047 1) = 1 ∧ (ruled.m.rule 23 2047).isSome = true ∧
      CLS_RULE_CMD_FORCE.of (ruleCmd 23 2047 0) = 0) ∧
    (24 ≤ CLS_RULE_CMD_SLICE.of (ruleCmd 24 0 0) ∧ openedB State.reset .pf .CLS_RULE_CMD 0 0 (.cls 0) (withOp CLS_RULE_CMD_OP (ruleCmd 24 0 0) 3) = true) ∧
    (grantedB (armed 0 enabled) .pf .CLS_SLICE_CFG 23 23 (ownedBy 15) = true ∧
      grantedB enabled .pf .CLS_SLICE_CFG 23 23 (enabled.m.rd .CLS_SLICE_CFG 23 ||| 4) = true ∧ enabled.m.isArmed .pf 0 = false) ∧
    grantedB State.reset .pf .CLS_SLICE_CFG 23 23 (State.reset.m.rd .CLS_SLICE_CFG 23) = true ∧ State.reset.m.isArmed .pf 0 = false ∧
    (State.reset.m.sliceBar 23 (State.reset.m.asWritten (wholeWrite .pf .CLS_SLICE_CFG 23 (State.reset.m.rd .CLS_SLICE_CFG 23))) = 0 ∧
      CLS_SLICE_CFG_OWNER.of (State.reset.m.asWritten (wholeWrite .pf .CLS_SLICE_CFG 23 (State.reset.m.rd .CLS_SLICE_CFG 23))) =
        State.reset.m.get CLS_SLICE_CFG_OWNER 23) ∧
    enabled.m.sliceBar 23 (enabled.m.asWritten (wholeWrite .pf .CLS_SLICE_CFG 23 (CLS_SLICE_CFG_FMT.put (enabled.m.rd .CLS_SLICE_CFG 23) 5))) ≠ 0 ∧
    grantedB enabled .pf .CLS_SLICE_CFG 23 23 (CLS_SLICE_CFG_FMT.put (enabled.m.rd .CLS_SLICE_CFG 23) 5) = true ∧
    (grantedB (armed 0 State.reset) .pf .CLS_SLICE_CFG 23 23 (ownedBy 15) = true ∧
      (armed 0 State.reset).m.sliceBar 23 ((armed 0 State.reset).m.asWritten (wholeWrite .pf .CLS_SLICE_CFG 23 (ownedBy 15))) = 0 ∧
      CLS_SLICE_CFG_OWNER.of ((armed 0 State.reset).m.asWritten (wholeWrite .pf .CLS_SLICE_CFG 23 (ownedBy 15))) ≠
        (armed 0 State.reset).m.get CLS_SLICE_CFG_OWNER 23) := by decide +kernel

/-- FDB states: one entry in the home bucket of FID 0 and address 0; a full quota; no free location. -/
def homed (quota : Nat) : State :=
  fld FDB_HEDGE_CFG_QUOTA 0 quota State.reset |> on fun m => { m with fwd := { m.fwd with fdb := [(4 * m.fdbBucket 0 0, 2 ^ 127)] } }

def crowd (bucket : Nat) : List (Nat × Nat) :=
  (List.range 4).map (fun k => (4 * bucket + k, 2 ^ 127 + 2 ^ 112)) ++ (List.range 4096).map fun k => (thicket + k, 2 ^ 127 + 2 ^ 112)

def crowded : State :=
  fld FDB_HEDGE_CFG_QUOTA 0 8191 State.reset |> on fun m => { m with fwd := { m.fwd with fdb := crowd (m.fdbBucket 0 1) } }

/-- Data registers of the FDB window: an entry of address a, kind k. -/
def fdbAsk (a k : Nat) (s : State) : State :=
  s |> reg .FDB_WIN_DATA0 0 (BitVec.ofNat 64 ((2 ^ 127 + a * 2 ^ 65 + k * 2 ^ 55) % 2 ^ 64)) |>
    reg .FDB_WIN_DATA1 0 (BitVec.ofNat 64 ((2 ^ 127 + a * 2 ^ 65 + k * 2 ^ 55) / 2 ^ 64))

/-- The entry that an FDB command of the PF has. -/
def fdbHas (s : State) : Nat := (2 ^ 127 ||| s.m.fdbData 0) &&& fdbMask

/-- An FDB command that is let through. -/
def fdbOpen (s : State) (loc op : Nat) : Bool :=
  openedB s .pf .FDB_WIN_CMD 0 0 (.fdb 0) (withOp FDB_WIN_CMD_OP (FDB_WIN_CMD_LOC.put 0 loc) op)

theorem met_FdbByKeyAndByLocation :
    vfHedge .pf = none ∧ 0 = pathNum .pf ∧
    (fdbOpen (fdbAsk 0 5 State.reset) 0 1 = true ∧ 5 ≤ feKind (fdbHas (fdbAsk 0 5 State.reset))) ∧
    (fdbOpen (fdbAsk 0 4 (homed 1)) 0 1 = true ∧ feKind (fdbHas (fdbAsk 0 4 (homed 1))) = 4 ∧
      (homed 1).m.fdbFind (feFid (fdbHas (fdbAsk 0 4 (homed 1)))) (feMac (fdbHas (fdbAsk 0 4 (homed 1)))) =
        some (4 * (homed 1).m.fdbBucket 0 0, 2 ^ 127)) ∧
    (fdbOpen (fdbAsk 1 4 (homed 1)) 0 1 = true ∧ (homed 1).m.fdbFind 0 1 = none ∧ feMac (fdbHas (fdbAsk 1 4 (homed 1))) = 1 ∧
      (homed 1).m.get FDB_HEDGE_CFG_QUOTA (fidHedge 0) ≤ (homed 1).m.fdbCount (fidHedge 0)) ∧
    (fdbOpen (fdbAsk 1 4 (homed 2)) 0 1 = true ∧ (homed 2).m.fdbFind 0 1 = none ∧
      (homed 2).m.fdbCount (fidHedge 0) < (homed 2).m.get FDB_HEDGE_CFG_QUOTA (fidHedge 0) ∧
      (homed 2).m.fdbFree ((homed 2).m.fdbBucket 0 1) = some (4 * (homed 2).m.fdbBucket 0 1)) ∧
    (fdbOpen (fdbAsk 1 4 crowded) 0 1 = true ∧ crowded.m.fdbFind 0 1 = none ∧
      crowded.m.fdbCount (fidHedge 0) < crowded.m.get FDB_HEDGE_CFG_QUOTA (fidHedge 0) ∧ crowded.m.fdbFree (crowded.m.fdbBucket 0 1) = none) ∧
    (∀ op ∈ [2, 3], fdbOpen (homed 1) 0 op = true ∧ (homed 1).m.fdbFind (feFid ((homed 1).m.fdbData 0)) (feMac ((homed 1).m.fdbData 0)) =
        some (4 * (homed 1).m.fdbBucket 0 0, 2 ^ 127) ∧ fdbOpen State.reset 0 op = true ∧
      State.reset.m.fdbFind (feFid (State.reset.m.fdbData 0)) (feMac (State.reset.m.fdbData 0)) = none) ∧
    (266239 < fdbLocations ∧ fdbOpen State.reset 266239 4 = true ∧ fdbOpen (fdbAsk 0 4 State.reset) 266239 5 = true ∧
      feValid ((fdbAsk 0 4 State.reset).m.fdbData 0 &&& fdbMask) = true ∧ feKind ((fdbAsk 0 4 State.reset).m.fdbData 0 &&& fdbMask) < 5 ∧
      (fdbAsk 0 4 State.reset).m.fdbFind 0 0 = none ∧ fdbOpen (fdbAsk 0 4 (homed 1)) 266239 5 = true ∧
      (fdbAsk 0 4 (homed 1)).m.fdbFind 0 0 = some (4 * (homed 1).m.fdbBucket 0 0, 2 ^ 127) ∧ 4 * (homed 1).m.fdbBucket 0 0 ≠ 266239) ∧
    (∀ fl ∈ [0, 1], ∀ k ∈ [4, 7], openedB (fdbAsk 0 k State.reset) .pf .FDB_WIN_CMD 0 0 (.fdb 0)
        (withOp FDB_WIN_CMD_OP (FDB_WIN_CMD_FL_DEST.put 0 fl) 6) = true ∧ FDB_WIN_CMD_FL_DEST.of (FDB_WIN_CMD_FL_DEST.put 0 fl) = fl ∧
      feKind ((fdbAsk 0 k State.reset).m.fdbData 0) = k) ∧ (65535 < 65536 ∧ fdbOpen State.reset 65535 7 = true ∧ fdbOpen State.reset 65535 8 = true) := by decide +kernel

/-- Table and route command words. -/
def tblCmd (t i : Nat) : Word := FDB_TBL_CMD_TABLE.put (FDB_TBL_CMD_INDEX.put 0 i) t
def lpmCmd (sp node entry : Nat) : Word := LPM_WIN_CMD_SPACE.put (LPM_WIN_CMD_NODE.put (LPM_WIN_CMD_ENTRY.put 0 entry) node) sp

theorem met_TablesAndRoutesByIndex :
    vfHedge .pf = none ∧ 0 = pathNum .pf ∧
    (∀ x ∈ [(0, 65535), (12, 1023)], x.1 = FDB_TBL_CMD_TABLE.of (tblCmd x.1 x.2) ∧ x.2 = FDB_TBL_CMD_INDEX.of (tblCmd x.1 x.2) ∧ x.1 < 13 ∧
      x.2 < (tblShape x.1).1 ∧
      (∀ op ∈ [1, 2], openedB State.reset .pf .FDB_TBL_CMD 0 0 (.tbl 0) (withOp FDB_TBL_CMD_OP (tblCmd x.1 x.2) op) = true) ∧
      tblReserved x.1 (State.reset.m.dataWords .FDB_TBL_DATA 0 (tblShape x.1).2 &&& tblMask x.1) = false ∧
      bit (State.reset.m.dataWords .FDB_TBL_DATA 0 (tblShape x.1).2 &&& tblMask x.1) 63 = false) ∧
    (∀ x ∈ [(0, 39, 0), (1, 32767, 255), (2, 0, 32767)], ∀ op ∈ [1, 2, 3],
      openedB State.reset .pf .LPM_WIN_CMD 0 0 (.lpm 0) (withOp LPM_WIN_CMD_OP (lpmCmd x.1 x.2.1 x.2.2) op) = true ∧
      LPM_WIN_CMD_SPACE.of (lpmCmd x.1 x.2.1 x.2.2) = x.1 ∧ LPM_WIN_CMD_NODE.of (lpmCmd x.1 x.2.1 x.2.2) = x.2.1 ∧
      LPM_WIN_CMD_ENTRY.of (lpmCmd x.1 x.2.1 x.2.2) = x.2.2) ∧
    (State.reset.m.rd .LPM_WIN_DATA 0).toNat = 0 ∧ (bit 0 62 && bits 0 46 45 == 3) = false ∧
    (bit 0 63 && bits 0 49 48 == 3) = false ∧ bit 0 58 = false := by decide +kernel

/-- A window set busy with a command. -/
def busyWith (c : WinCmd) : State := on (fun m => { m with win := { m.win with seq := 1, busy := [c] } }) State.reset

/-- A parse-graph read with its answer, and a forced write of rule 2047 of slice 23. -/
def parAnswer : WinCmd := ⟨.par, 0, .PAR_WIN_CMD, 0, 63, [(.PAR_WIN_W0, 0, 5)], 0, none⟩

def ruleForced : WinCmd := ⟨.cls (pathNum .jtag), 0, .CLS_RULE_CMD, pathNum .jtag, 63, [], 0, some (23, 2047, ⟨2 ^ 320, 1, 0, true⟩)⟩

theorem met_WindowCommandCompletes :
    ((busyWith parAnswer).m.dieUp = true ∧ (busyWith parAnswer).m.win.busy.find? (·.win == winId .par) = some parAnswer ∧
      (busyWith parAnswer).m.winAwaits (winId .par) = false ∧
      (∀ h ∈ (busyWith parAnswer).m.win.held, h.win ≠ winId .par) ∧ (∀ e ∈ (busyWith parAnswer).m.eng.threads, e.2.ending = none) ∧ 63 < 64) ∧
    ((busyWith ruleForced).m.win.busy.find? (·.win == winId (.cls .jtag)) = some ruleForced ∧
      (busyWith ruleForced).m.flag CLS_SLICE_CFG_PAIR 23 = false ∧ (busyWith ruleForced).m.winAwaits (winId (.cls .jtag)) = false ∧
      (∀ h ∈ (busyWith ruleForced).m.win.held, h.win ≠ winId (.cls .jtag)) ∧ ∀ e ∈ (busyWith ruleForced).m.eng.threads, e.2.ending = none) ∧
    State.reset.m.winBusy (winId .grf) = false ∧ (∀ e ∈ State.reset.m.eng.threads, e.2.ending = none) ∧
    (on (fun m => { m with drm := { m.drm with stores := [(pathNum .pf, 0, 0, [])] } }) State.reset).m.winAwaits (winId (.dram .pf)) = true := by decide +kernel

/-- A learn request waits, its destination new. -/
def learning (fdb : List (Nat × Nat)) (quota : Nat) : State :=
  fld FDB_HEDGE_CFG_QUOTA 0 quota State.reset |> on fun m => { m with fwd := { m.fwd with fdb := fdb, learn := [⟨0, 2 ^ 48 - 1, 4, 4095⟩] } }

/-- An entry of that address in its home bucket, with more bits. -/
def learned (more : Nat) : List (Nat × Nat) := [(4 * State.reset.m.fdbBucket 0 (2 ^ 48 - 1), 2 ^ 127 + (2 ^ 48 - 1) * 2 ^ 65 + more)]

/-- FRER entry 16383 is valid, with a reset time-out of t ms. -/
def frerSt (t : Nat) : State := on (fun m => { m with fwd := { m.fwd with tbl := [(tblKey 9 16383, 2 ^ 127 + t * 2 ^ 104)] } }) State.reset

/-- FDB location 9 and parser node 14 are invalid, with or without the supervisor. -/
def hollow (headless : Nat) : State :=
  fld GLB_STATUS_HEADLESS 0 headless (on (fun m => { m with int := { m.int with invalid := [(13, 9), (18, 14)] } }) State.reset)

/-- A TC component of one section GLOBAL with one record, of 15 parser nodes. -/
def nodesImage : List Byte :=
  List.replicate 32 0 ++ [0, 0, 2, 0] ++ List.replicate 476 0 ++ [0x54, 0x4F, 0x50, 0x49, 0, 0, 1, 0] ++ List.replicate 24 0 ++
    [0, 0, 2, 0, 0, 1] ++ List.replicate 218 0 ++ [1, 0xFF, 0, 0, 0, 0, 0, 0xF8] ++ [2, 0x50, 0, 15, 0, 0, 0, 0] ++ List.replicate 240 0

/-- The same, with that image running. -/
def imaged : State := on (fun m => { m with upd := { m.upd with running := [(4, nodesImage)] } }) (hollow 0)

/-- Cluster 0 runs the Pruner, of one bucket in every tick. -/
def pruning : State :=
  served |> fld FDB_PRUNE_CFG_BUCKETS 0 1 |> fld FDB_PRUNE_CFG_STEP_TICKS 0 1 |> fld ENG_TICKJOB0_VALID 0 1 |> fld ENG_TICKJOB0_OPCODE 0 0x12

theorem met_TableTasksRun :
    (State.reset.m.dieUp = true ∧ State.reset.m.fwd.learn = []) ∧
    ((learning (learned (2 ^ 64)) 1).m.fwd.learn = [⟨0, 2 ^ 48 - 1, 4, 4095⟩] ∧
      ((learning (learned (2 ^ 64)) 1).m.fdbFind 0 (2 ^ 48 - 1)).any (fun x => feStatic x.2) = true ∧
      ((learning (learned 0) 1).m.fdbFind 0 (2 ^ 48 - 1)).any (fun x => !(feStatic x.2 || feSticky x.2) && feValid x.2) = true ∧
      ((learning [] 0).m.fdbFind 0 (2 ^ 48 - 1) = none ∧ (learning [] 0).m.get FDB_HEDGE_CFG_QUOTA (fidHedge 0) ≤ (learning [] 0).m.fdbCount (fidHedge 0)) ∧
      ((learning [] 1).m.fdbFind 0 (2 ^ 48 - 1) = none ∧ (learning [] 1).m.fdbCount (fidHedge 0) < (learning [] 1).m.get FDB_HEDGE_CFG_QUOTA (fidHedge 0) ∧
        ((learning [] 1).m.fdbFree ((learning [] 1).m.fdbBucket 0 (2 ^ 48 - 1))).isSome = true)) ∧
    (State.reset.m.pruneDue = false ∧ pruning.m.dieUp = true ∧ pruning.m.pruneDue = true) ∧
    ((frerSt 1).m.tbl 9 16383 = 2 ^ 127 + 1 * 2 ^ 104 ∧ bits (2 ^ 127 + 1 * 2 ^ 104) 119 104 ≠ 0 ∧ bit (2 ^ 127 + 1 * 2 ^ 104) 100 = false ∧
      lookupD (frerSt 1).m.fwd.frerLast 16383 0 + bits (2 ^ 127 + 1 * 2 ^ 104) 119 104 * 1000000 ≤
        (on (fun m => { m with time := { m.time with cycles := 1000000 } }) (frerSt 1)).m.now) ∧
    (frerSt 0).m.tbl 9 16383 = 2 ^ 127 ∧ State.reset.m.flag LPM_STATUS_GRACE = false ∧ (fld LPM_STATUS_GRACE 0 1 State.reset).m.flag LPM_STATUS_GRACE = true ∧
    State.reset.m.int.invalid.contains (13, 9) = false ∧ (hollow 1).m.int.invalid.contains (13, 9) = true ∧
    (hollow 1).m.flag GLB_STATUS_HEADLESS = true ∧ (hollow 0).m.flag GLB_STATUS_HEADLESS = false ∧
    (imagePlace 18 14 = some (0x50, 14) ∧ imaged.m.int.invalid.contains (18, 14) = true ∧ imaged.m.imageEntry 0x50 14 = some 0) ∧
    (((imagePlace 13 9).bind fun e => (hollow 0).m.imageEntry e.1 e.2) = none) ∧ feValid (wordsNat [0, BitVec.ofNat 64 (2 ^ 63)]) = true := by
  decide +kernel

/-! ### Queues, shapers, gates and launches -/

def voqWord (src dest cls : Nat) : Word := QUE_VOQ_CMD_SRC.put (QUE_VOQ_CMD_DEST.put (QUE_VOQ_CMD_CLASS.put 0 cls) dest) src
/-- All 16 virtual functions are there. -/
def vfs : State := on (fun m => { m with hdg := { m.hdg with numVfs := 16 } }) State.reset

def editWord (i : Nat) : Word := QUE_EDIT_CMD_INDEX.put 0 i

theorem met_QueueTemplateAndShaperWindows :
    vfHedge .pf = none ∧ 0 = pathNum .pf ∧ QUE_VOQ_CMD_SRC.of (voqWord 133 133 7) < 134 ∧ QUE_VOQ_CMD_DEST.of (voqWord 133 133 7) < 134 ∧
    134 ≤ QUE_VOQ_CMD_SRC.of (voqWord 134 133 7) ∧
    (∀ x ∈ [133, 134], ∀ op ∈ [1, 2], openedB State.reset .pf .QUE_VOQ_CMD 0 0 .voq (withOp QUE_VOQ_CMD_OP (voqWord x 133 7) op) = true) ∧
    (∀ op ∈ [1, 2], ∀ p ∈ [Path.pf, .vf 15], openedB vfs p .QUE_EDIT_CMD 0 0 .edit (withOp QUE_EDIT_CMD_OP (editWord 1) op) = true) ∧
    templateReserved (vfs.m.rd .QUE_EDIT_DATA 12).toNat = false ∧ (vfHedge (.vf 15)).isSome = true ∧
    (∀ op ∈ [1, 2, 3], openedB State.reset .pf .POL_WIN_CMD 0 0 (.pol 0) (withOp POL_WIN_CMD_OP (POL_WIN_CMD_INDEX.put 0 65535) op) = true ∧
      openedB State.reset .pf .SHP_WIN_CMD 0 0 (.shp 0) (withOp SHP_WIN_CMD_OP (SHP_WIN_CMD_INDEX.put 0 8191) op) = true ∧
      openedB (reg .SHP_WIN_DATA 0 (BitVec.ofNat 64 (2 ^ 63)) State.reset) .pf .SHP_WIN_CMD 0 0 (.shp 0) (withOp SHP_WIN_CMD_OP 0 op) = true) ∧
    Staging State.reset ⟨.policer 65535, 0 &&& policerMask⟩ ∧ Staging State.reset ⟨.streamShaper 8191, 0⟩ ∧
    shKind (State.reset.m.rd .SHP_WIN_DATA 0).toNat < 2 ∧ -32 ≤ shOverhead (State.reset.m.rd .SHP_WIN_DATA 0).toNat ∧
    shOverhead (2 ^ 60) < -32 ∧ openedB (reg .SHP_WIN_DATA 0 (BitVec.ofNat 64 (2 ^ 60)) State.reset) .pf .SHP_WIN_CMD 0 0 (.shp 0) (withOp SHP_WIN_CMD_OP 0 1) = true ∧
    2 ≤ shKind ((reg .SHP_WIN_DATA 0 (BitVec.ofNat 64 (2 ^ 63)) State.reset).m.rd .SHP_WIN_DATA 0).toNat := by
  unfold Staging; decide +kernel

def gateWord (port bank e : Nat) : Word := SCH_GATE_WIN_CMD_PORT.put (SCH_GATE_WIN_CMD_BANK.put (SCH_GATE_WIN_CMD_ENTRY.put 0 e) bank) port

/-- Port 127 has gates on, two entries of its bank 0 that begin at b and 9, and a gate state. -/
def gating (b : Nat) (g : Option GateSt) : State :=
  State.reset |> fld SCH_PORT_CFG_GATE_EN 127 1 |> fld SCH_GATE_BANK_LEN 254 2 |> fld SCH_GATE_BANK_PHASE 254 0 |> on fun m =>
    { m with sch := { m.sch with
        gateEntries := [(254 * 1024, BitVec.ofNat 64 b), (254 * 1024 + 1, 9)],
        gates := match g with
          | some x => [(127, x)]
          | none => [] } }

theorem met_GateListsOpenAndClose :
    vfHedge .pf = none ∧ 0 = pathNum .pf ∧ (∀ op ∈ [1, 2], ∀ b ∈ [0, 1], openedB State.reset .pf .SCH_GATE_WIN_CMD 0 0 (.gate 0)
      (withOp SCH_GATE_WIN_CMD_OP (gateWord 127 b 1023) op) = true) ∧ State.reset.m.bankActive 127 1 = false ∧ State.reset.m.bankActive 127 0 = true ∧
    (State.reset.m.flag SCH_PORT_CFG_GATE_EN 127 = false ∧ State.reset.m.flag SCH_PORT_STATUS_SWITCH_PEND 127 = false) ∧
    (∀ b ∈ [0, 1], (gating b none).m.dieUp = true ∧ (gating b none).m.flag SCH_PORT_CFG_GATE_EN 127 = true ∧
      (gating b none).m.flag SCH_PORT_STATUS_SWITCH_PEND 127 = false ∧ lookup (gating b none).m.sch.gates 127 = none ∧
      (gating b none).m.get SCH_PORT_STATUS_CUR_BANK 127 = 0 ∧ (gating b none).m.cycleTick 127 0 ((gating b none).m.tick.boundary / ((gating b none).m.period * unitsPerNs)) = true ∧
      (gating b none).m.beginGrain 127 0 0 = b ∧ 0 < (gating b none).m.bankLen 127 0 ∧ 0 < (gating b none).m.beginGrain 127 0 1) ∧
    (fld SCH_GATE_BANK_CYCLE_TICKS 254 2 (gating 0 none)).m.cycleTick 127 0
      ((gating 0 none).m.tick.boundary / ((gating 0 none).m.period * unitsPerNs)) = false ∧
    State.reset.m.gateSt 127 = none ∧
    (∃ g : GateSt, g.cycle = some 0 ∧ (gating 0 (some g)).m.gateSt 127 = some g ∧ (gating 0 (some g)).m.bankLen 127 0 ≤ g.next) ∧
    (∃ g : GateSt, g.cycle = some 0 ∧ (gating 0 (some g)).m.gateSt 127 = some g ∧ g.cycleEnd ≤ 0 + (gating 0 (some g)).m.beginGrain 127 0 g.next * grain) ∧
    (∃ g : GateSt, g.cycle = some 0 ∧ (gating 0 (some g)).m.gateSt 127 = some g ∧ g.next < (gating 0 (some g)).m.bankLen 127 0 ∧
      0 + (gating 0 (some g)).m.beginGrain 127 0 g.next * grain < g.cycleEnd ∧
      0 + (gating 0 (some g)).m.beginGrain 127 0 g.next * grain ≤ (gating 0 (some g)).m.time.net ∧
      (gating 0 (some g)).m.beginGrain 127 0 g.next < (gating 0 (some g)).m.beginGrain 127 0 (g.next + 1)) := by
  and_intros
  all_goals first
    | decide +kernel
    | exact ⟨⟨some 0, 1, 2, 0⟩, by decide +kernel⟩
    | exact ⟨⟨some 0, 0, 0, 0⟩, by decide +kernel⟩
    | exact ⟨⟨some 0, 1, 0, 0⟩, by decide +kernel⟩

/-- Port 127, its gates off, is to switch to bank 1 at the next tick, where that bank has a cycle start. -/
def switching : State :=
  gating 0 none |> fld SCH_PORT_CFG_GATE_EN 127 0 |> fld SCH_PORT_STATUS_SWITCH_PEND 127 1 |> fld SCH_GATE_CTL_REQ_BANK 127 1 |>
    fld SCH_GATE_BANK_LEN 255 2 |> fld SCH_GATE_BANK_CYCLE_TICKS 255 1

/-- The tick that begins next. -/
def nextTick (s : State) : Nat := s.m.tick.boundary / (s.m.period * unitsPerNs)

theorem met_BankSwitches : switching.m.dieUp = true ∧ switching.m.flag SCH_PORT_CFG_GATE_EN 127 = false ∧
    switching.m.flag SCH_PORT_STATUS_SWITCH_PEND 127 = true ∧ (switching.m.rd .SCH_GATE_SWITCH 127).toNat ≤ nextTick switching ∧
    switching.m.cycleTick 127 (switching.m.get SCH_GATE_CTL_REQ_BANK 127) (nextTick switching) = true := by decide +kernel

/-- Copies of source 133 to port 127, class 7; the port's launch queues with n copies. -/
def launching (launch : Option Nat) (waited : Bool) (fill : Nat) : State :=
  fld SCH_PORT_STATUS_LQ_FILL 127 fill State.reset |> on fun m => { m with
    buf := { m.buf with voqs := [(voqKey 133 127 7, [⟨0, 133, 7, launch, waited⟩])] },
    sch := { m.sch with launch := [(8 * 127 + 7, [⟨1, 0, 7, some 9, false⟩])] } }

theorem met_LaunchQueueFillsAndFalls :
    (State.reset.m.dieUp = true ∧ State.reset.m.voq (voqKey 133 127 7) = []) ∧
    (launching none false 0).m.voq (voqKey 133 127 7) = [⟨0, 133, 7, none, false⟩] ∧
    ((launching (some 4) false 4095).m.voq (voqKey 133 127 7) = [⟨0, 133, 7, some 4, false⟩] ∧
      (launching (some 4) false 4095).m.get SCH_PORT_STATUS_LQ_FILL 127 < 4096) ∧
    4096 ≤ (launching (some 4) false 4096).m.get SCH_PORT_STATUS_LQ_FILL 127 ∧ 4096 ≤ (launching (some 4) true 4096).m.get SCH_PORT_STATUS_LQ_FILL 127 ∧
    (([⟨0, 0, 0, some 1, false⟩, ⟨1, 0, 0, some 1, false⟩] : List Copy).map fun c => c.launch.getD 0).Pairwise (· ≤ ·) ∧
    State.reset.m.launchQ 127 7 = [] ∧
    ((launching none false 1).m.launchQ 127 7 = [⟨1, 0, 7, some 9, false⟩] ∧ (launching none false 1).m.time.slew = 0) := by decide +kernel

/-! ### Time -/

/-- A TIM_ADJ word. -/
def adjWord (off mode : Nat) : Word := withOp TIM_ADJ_MODE (TIM_ADJ_OFFSET.put 0 off) mode

/-- A range error of a step by an offset, as a mode asks for it. -/
def stepBeyond (s : State) (off mode : Nat) : Bool := outOfRange (s.m.commitNet + signed 62 (TIM_ADJ_OFFSET.of (adjWord off mode)) * offsetUnits)

/-- TIM_SET holds a time. -/
def setTo (sec ns : Nat) : State := fld TIM_SET_SEC_SEC 0 sec (fld TIM_SET_NS_NS 0 ns State.reset)

/-- The time that TIM_SET names, in time units. -/
def setTime (s : State) : Nat :=
  s.m.get TIM_SET_SEC_SEC * unitsPerS + s.m.get TIM_SET_NS_NS * unitsPerNs + s.m.get TIM_SET_NS_FRAC * 100000000

theorem met_TimeIsSteeredAsAsked :
    (∀ off ∈ [0, 2 ^ 61 - 1, 2 ^ 61], ∀ mode ∈ [0, 1, 2, 3], grantedB State.reset .pf .TIM_ADJ 0 0 (adjWord off mode) = true) ∧
    (stepBeyond State.reset 0 1 = false ∧ stepBeyond State.reset (2 ^ 61) 1 = true) ∧
    (fld TIM_SERVO_CFG_STEP_EN 0 0 State.reset).m.flag TIM_SERVO_CFG_STEP_EN = false ∧
    (∃ s : State, s = (fld TIM_SERVO_CFG_STEP_EN 0 1 State.reset) ∧ grantedB s .pf .TIM_ADJ 0 0 (adjWord (2 ^ 61 - 1) 0) = true ∧
      s.m.flag TIM_SERVO_CFG_STEP_EN = true ∧ s.m.get TIM_SERVO_CFG_STEP_US * 1000 * 65536 < (signed 62 (TIM_ADJ_OFFSET.of (adjWord (2 ^ 61 - 1) 0))).natAbs ∧
      stepBeyond s (2 ^ 61 - 1) 0 = false) ∧
    (∀ s ∈ [setTo 0 999999999, setTo (2 ^ 48 - 1) 999999999, setTo 0 1000000000], grantedB s .pf .TIM_ADJ 0 0 (adjWord 0 3) = true) ∧
    ((setTo 0 999999999).m.get TIM_SET_NS_NS < 1000000000 ∧
      outOfRange ((setTime (setTo 0 999999999) : Int) + ((setTo 0 999999999).m.commitNet - (setTo 0 999999999).m.time.net)) = false) ∧
    ((setTo (2 ^ 48 - 1) 999999999).m.get TIM_SET_NS_NS < 1000000000 ∧ outOfRange ((setTime (setTo (2 ^ 48 - 1) 999999999) : Int) +
      ((setTo (2 ^ 48 - 1) 999999999).m.commitNet - (setTo (2 ^ 48 - 1) 999999999).m.time.net)) = true) ∧
    1000000000 ≤ (setTo 0 1000000000).m.get TIM_SET_NS_NS ∧
    State.reset.m.dieUp = true ∧ (fld TIM_SERVO_CFG_SLEW_10PPB 0 1 State.reset).m.slewRate ≠ 0 ∧
    (fld TIM_SERVO_CFG_SLEW_10PPB 0 0 State.reset).m.slewRate = 0 := by
  and_intros
  all_goals first | decide +kernel | exact ⟨_, rfl, by decide +kernel⟩

/-- A state of TIM_STATUS.TSTATE n, with a reference selected or none. -/
def inState (n sel : Nat) : State := State.reset |> fld TIM_STATUS_TSTATE 0 n |> fld TIM_STATUS_SEL_VALID 0 (if sel < 4 then 1 else 0) |> fld TIM_STATUS_SELECTED 0 sel

theorem met_TimeRegistersAndPps :
    (∀ s ∈ [inState 3 2, inState 2 1, inState 0 4], grantedB s .pf .TIM_FREQ 0 0 0 = true) ∧
    (inState 3 2).m.freqFrozen = true ∧ (inState 0 4).m.freqFrozen = false ∧ (inState 2 1).m.freqFrozen = false ∧
    (grantedB (armed 3 State.reset) .pf .TIM_REF_PRIO 0 0 (TIM_REF_PRIO_ORDER.put 0 0x1B) = true ∧
      orderGood ((wholeWrite .pf .TIM_REF_PRIO 0 (TIM_REF_PRIO_ORDER.put 0 0x1B)).onto ((armed 3 State.reset).m.rd .TIM_REF_PRIO)) = true) ∧
    (grantedB (armed 3 State.reset) .pf .TIM_REF_PRIO 0 0 (TIM_REF_PRIO_ORDER.put 0 0) = true ∧
      orderGood ((wholeWrite .pf .TIM_REF_PRIO 0 (TIM_REF_PRIO_ORDER.put 0 0)).onto ((armed 3 State.reset).m.rd .TIM_REF_PRIO)) = false) ∧
    grantedB State.reset .pf .TIM_PTP_MEAS 0 0 1 = true ∧ grantedB State.reset .pf .TIM_PPS_TOD 0 0 1 = true ∧
    (grantedB State.reset .pf .TIM_ISLAND 0 0 (State.reset.m.rd .TIM_ISLAND) = true ∧
      (wholeWrite .pf .TIM_ISLAND 0 (State.reset.m.rd .TIM_ISLAND)).onto (State.reset.m.rd .TIM_ISLAND) = State.reset.m.rd .TIM_ISLAND) ∧
    (grantedB State.reset .pf .TIM_ISLAND 0 0 (TIM_ISLAND_MASTER.put (State.reset.m.rd .TIM_ISLAND) 1) = true ∧
      (wholeWrite .pf .TIM_ISLAND 0 (TIM_ISLAND_MASTER.put (State.reset.m.rd .TIM_ISLAND) 1)).onto (State.reset.m.rd .TIM_ISLAND) ≠ State.reset.m.rd .TIM_ISLAND ∧
      State.reset.m.inHoldover = false) ∧
    (State.reset.m.dieUp = true ∧ State.reset.m.time.slew = 0 ∧ State.reset.m.time.ppsAt = none ∧ State.reset.m.time.ppsOutEnd = none) ∧
    (∀ mode ∈ [0, 1], (fld TIM_PPS_CFG_OUT_MODE 0 mode State.reset).m.get TIM_PPS_CFG_OUT_MODE = mode) ∧
    (on (fun m => { m with time := { m.time with ppsOutEnd := some 0 } }) State.reset).m.time.ppsOutEnd = some 0 := by decide +kernel

/-- Reference 0 (or 1) is in STATE 2 and selected, and the module is locked to it. -/
def lockedTo (r : Nat) : State := fld TIM_REF_STATUS_STATE r 2 (inState 2 r) |> on fun m => { m with time := { m.time with cycles := 10 ^ 15 } }

theorem met_TimeStatesFollowTheReferences :
    (State.reset.m.dieUp = true ∧ State.reset.m.get TIM_REF_STATUS_STATE 3 = 0) ∧
    (∀ r ∈ [0, 1], (lockedTo r).m.get TIM_REF_STATUS_STATE r ≠ 0 ∧ (lockedTo r).m.time.ref0.lastSeen + 3 * oneSecond ≤ (lockedTo r).m.now ∧
      (lockedTo r).m.selRef = r ∧ (∀ x ∈ (lockedTo r).m.goodRefs, x = r) ∧ (lockedTo r).m.tstate = 2 ∧ (lockedTo r).m.flag TIM_ISLAND_MASTER = false ∧
      (lockedTo r).m.time.adjAt + (lockedTo r).m.get TIM_SERVO_CFG_SERVO_TO_S * oneSecond ≤ (lockedTo r).m.now) ∧
    State.reset.m.tstate ≠ 2 ∧ State.reset.m.tstate ≠ 3 ∧ (fld TIM_ISLAND_MASTER 0 1 State.reset).m.flag TIM_ISLAND_MASTER = true ∧
    ((fld TIM_STATUS_TSTATE 0 3 (lockedTo 0)).m.tstate = 3 ∧ (fld TIM_STATUS_TSTATE 0 3 (lockedTo 0)).m.time.holdAt +
      (lockedTo 0).m.get TIM_HOLD_CFG_HOLD_MAX_MIN * 60 * oneSecond ≤ (fld TIM_STATUS_TSTATE 0 3 (lockedTo 0)).m.now) ∧
    State.reset.m.time.monitorUp = true ∧ (on (fun m => { m with time := { m.time with monitorUp := false } }) State.reset).m.time.monitorUp = false := by
  decide +kernel

/-! ### Clippings and Hedges -/

/-- A Clipping for Hedge 15 waits for writer 1, with its ring of n records. -/
def clipping (n : Nat) : State :=
  fld CLP_RING_CFG_SIZE 15 n State.reset |> on fun m => { m with clp := { m.clp with recs := [⟨15, 1, 5, false⟩] } }

/-- The write queue of channel 1 is full. -/
def full : State := on (fun m => { m with drm := { m.drm with
  reqs := List.replicate 125 { id := 0, who := .clippings, write := true, channel := 1, addr := 0, len := 64, hedge := 0, since := 0 } } }) (clipping 1024)

/-- Hedge 15's Clippings go to a host, which has 2^k places for them; one waits. -/
def delivering (k cons : Nat) : State :=
  served |> fld CLP_HEDGE_CFG_EN 15 1 |> fld CLP_HEDGE_CFG_DELIVER 15 1 |> fld CLP_RING_PROD_PROD 15 1 |> fld CLP_HOST_BASE_LOG2_SIZE 15 k |>
    fld CLP_HOST_IDX_CONS 15 cons |> fld CLP_HOST_IDX_PROD 15 0 |> on fun m => { m with hdg := { m.hdg with busMaster := [16] } }

/-- A CLP_RING_CFG word that asks for n blocks of records from block 1. -/
def ringWord (n : Nat) : Word := CLP_RING_CFG_SIZE.put 1 n

theorem met_ClippingsRings :
    (State.reset.m.dieUp = true ∧ State.reset.m.nextRecord 1 = none) ∧
    2 ≤ (on (fun m => { m with clp := { m.clp with lost := [0, 1] } }) State.reset).m.clp.lost.length ∧ full.m.writerBlocked 1 = true ∧
    ((clipping 1024).m.writerBlocked 1 = false ∧ (clipping 1024).m.nextRecord 1 = some ⟨15, 1, 5, false⟩ ∧ (clipping 1024).m.clipFull 15 = false ∧
      (clipping 1024).m.clp.lost.length < 2 ∧ (clipping 1024).m.clp.markers = []) ∧
    4 ≤ (fld GLB_TICK_CFG_SHED_LEVEL 0 4 State.reset).m.get GLB_TICK_CFG_SHED_LEVEL ∧ (fld CLP_HEDGE_CFG_EN 15 0 State.reset).m.flag CLP_HEDGE_CFG_EN 15 = false ∧
    ((fld ENG_CLUSTER_STATUS_STATE 3 3 State.reset).m.get ENG_CLUSTER_STATUS_STATE 3 ≠ 0 ∧ (on (fun m => m.setCl 3 { m.cl 3 with lost := true }) served).m.get ENG_CLUSTER_STATUS_STATE 3 = 0 ∧
      ((on (fun m => m.setCl 3 { m.cl 3 with lost := true }) served).m.cl 3).lost = true) ∧
    ((delivering 0 0).m.get ENG_CLUSTER_STATUS_STATE 3 = 0 ∧ ((delivering 0 0).m.cl 3).lost = false ∧
      (delivering 0 0).m.flushedNow 3 < (delivering 0 0).m.flushBudget ∧ (delivering 0 0).m.get GLB_TICK_CFG_SHED_LEVEL < 4 ∧ (delivering 0 0).m.flag CLP_HEDGE_CFG_EN 15 = true ∧
      (delivering 0 0).m.get CLP_HEDGE_CFG_DELIVER 15 = 1 ∧ 0 < (delivering 0 0).m.clipFill 15 ∧ (delivering 0 0).m.hdg.busMaster.contains (15 + 1) = true ∧
      (delivering 0 0).m.clp.markers = [] ∧ (0 + 2 ^ 32 - (delivering 0 0).m.get CLP_HOST_IDX_CONS 15) % 2 ^ 32 < 2 ^ (delivering 0 0).m.get CLP_HOST_BASE_LOG2_SIZE 15) ∧
    (grantedB (armed 0 State.reset) .pf .CLP_RING_CFG 15 15 (ringWord 8192) = true ∧
      State.reset.m.clipOverlap 15 ((wholeWrite .pf .CLP_RING_CFG 15 (ringWord 8192)).onto (State.reset.m.rd .CLP_RING_CFG 15)) = true) ∧
    (grantedB (armed 0 State.reset) .pf .CLP_RING_CFG 15 15 0 = true ∧
      State.reset.m.clipOverlap 15 ((wholeWrite .pf .CLP_RING_CFG 15 0).onto (State.reset.m.rd .CLP_RING_CFG 15)) = false) ∧
    (∀ p ∈ [Path.pf, .cluster 3], grantedB (clipping 1) p .CLP_RING_CONS 15 15 (CLP_RING_CONS_CONS.put 0 0) = true ∧
      grantedB (delivering 0 0) .pf .CLP_RING_CONS 15 15 (CLP_RING_CONS_CONS.put 0 1) = true ∧
      grantedB (delivering 0 0) p .CLP_RING_CONS 15 15 (CLP_RING_CONS_CONS.put 0 2) = true) ∧
    (isCluster (.cluster 3) = true ∧ isCluster .pf = false ∧ (delivering 0 0).m.get CLP_HEDGE_CFG_DELIVER 15 ≠ 0 ∧
      consAccepts ((delivering 0 0).m.get CLP_RING_PROD_PROD 15) ((delivering 0 0).m.get CLP_RING_CONS_CONS 15) 1 = true ∧
      consAccepts ((delivering 0 0).m.get CLP_RING_PROD_PROD 15) ((delivering 0 0).m.get CLP_RING_CONS_CONS 15) 2 = false) ∧
    grantedB State.reset .pf .CLP_HOST_BASE 15 15 20 = true := by decide +kernel

/-- A reset of Hedge 15 is walking. -/
def resetting (reload : Bool) : State := on (fun m => { m with hdg := { m.hdg with resets := [{ hedge := 15, reload := reload, phase := .walk }] } }) State.reset

/-- A Topiary image is there. -/
def imaged_ : State := on (fun m => { m with boot := { m.boot with topLen := 1 } }) State.reset

theorem met_HedgeResetEmptiesItsHedge :
    (∀ k ∈ [1, 2], ∀ h ∈ [0, 15], ∀ s ∈ [State.reset, imaged_], grantedB s .pf .HDG_RESET h h (HDG_RESET_KIND.put 0 k) = true) ∧
    State.reset.m.hdg.resets.find? (·.hedge == 15) = none ∧ State.reset.m.boot.topLen = 0 ∧ imaged_.m.boot.topLen ≠ 0 ∧
    State.reset.m.hdg.resets.find? (·.phase == .walk) = none ∧
    (∀ r ∈ [false, true], (resetting r).m.hdg.resets.find? (·.phase == .walk) = some { hedge := 15, reload := r, phase := .walk }) ∧ 15 ≠ 0 := by decide +kernel

/-- The word that a whole write of register r at element j leaves. -/
def left (s : State) (r : Reg) (j : Nat) (v : Word) : Word := (wholeWrite .pf r j v).onto (s.m.rd r j)

/-- Hedge 15's event configuration has drifted from the image. -/
def drifted : State := armed 1 (fld (CFG_DRIFT_DRIFT.bitAt (1 + 15)) 0 1 State.reset)

/-- An event ring's place at address a. -/
def evtWord (a : Nat) : Word := HDG_EVT_CFG_ADDR.put 8 a

/-- Gap words: one valid from a Hedge to itself, one not valid. -/
def gapWord (valid : Nat) : Word := HDG_GAP_CFG0_VALID.put 0 valid

theorem met_HedgeConfigurationIsGuarded :
    (∀ a ∈ [0, 1], grantedB (fld PRT_PORT_CFG_ADMIN 127 a State.reset) .pf .HDG_PORT_OWNER 127 127 (HDG_PORT_OWNER_HEDGE.put 0 15) = true ∧
      (fld PRT_PORT_CFG_ADMIN 127 a State.reset).m.owner 127 ≠ 15 ∧
      (fld PRT_PORT_CFG_ADMIN 127 a State.reset).m.overCommits .HDG_PORT_OWNER 127
        (left (fld PRT_PORT_CFG_ADMIN 127 a State.reset) .HDG_PORT_OWNER 127 (HDG_PORT_OWNER_HEDGE.put 0 15)) = false ∧
      (fld PRT_PORT_CFG_ADMIN 127 a State.reset).m.get PRT_PORT_CFG_ADMIN 127 = a ∧ State.reset.m.get BUF_PORT_STATUS_OUT_USED 127 = 0) ∧
    (grantedB State.reset .pf .HDG_ROOT_FLOOR 0 0 (HDG_ROOT_FLOOR_GUAR_MIN.put 0 (2 ^ 19 - 1)) = true ∧
      State.reset.m.floorAbove (left State.reset .HDG_ROOT_FLOOR 0 (HDG_ROOT_FLOOR_GUAR_MIN.put 0 (2 ^ 19 - 1))) = true ∧
      grantedB State.reset .pf .HDG_ROOT_FLOOR 0 0 0 = true ∧ State.reset.m.floorAbove (left State.reset .HDG_ROOT_FLOOR 0 0) = false) ∧
    (∀ n ∈ [0, 1], grantedB (armed 2 State.reset) .pf .HDG_GAP_CFG0 63 63 (gapWord n) = true ∧ grantedB (armed 2 State.reset) .pf .HDG_GAP_CFG1 63 63 0 = true) ∧
    ((armed 2 State.reset).m.gapCheck (left (armed 2 State.reset) .HDG_GAP_CFG0 63 (gapWord 1)) ≠ 0 ∧
      (armed 2 State.reset).m.gapCheck (left (armed 2 State.reset) .HDG_GAP_CFG0 63 (gapWord 0)) = 0) ∧
    (∀ a ∈ [0, 2 ^ 52 - 1], grantedB drifted .pf .HDG_EVT_CFG 15 15 (evtWord a) = true) ∧
    (drifted.m.ringOverlap 15 (left drifted .HDG_EVT_CFG 15 (evtWord (2 ^ 52 - 1))) = true ∧
      drifted.m.ringOverlap 15 (left drifted .HDG_EVT_CFG 15 (evtWord 0)) = false ∧
      drifted.m.flag (CFG_DRIFT_DRIFT.bitAt (1 + 15)) = true ∧ lookup drifted.m.evt.lost 15 = none ∧ drifted.m.evt.markers = []) := by decide +kernel

/-- Function 0 has vector 31 pending, function 16 vector 7; both may be bus masters. -/
def signalling : State := on (fun m => { m with
    hdg := { m.hdg with numVfs := 16, busMaster := [0, 16] }, evt := { m.evt with pfPend := [31], vecPend := [127] } }) State.reset

/-- Event ring 15 holds one record; the DMP carries it or not. -/
def eventful (sel : Nat) : State := State.reset |> fld EVT_RING_PROD_PROD 15 1 |> fld EVT_DMP_SEL_SEL 0 sel

/-- PCI Express is out. -/
def unplugged : State := on (fun m => { m with boot := { m.boot with domOut := [18] } }) State.reset

theorem met_HedgeSignals :
    grantedB State.reset .pf .HDG_SWINT 15 15 (HDG_SWINT_RAISE.put 0 15) = true ∧ grantedB State.reset .pf .EVT_PF_SWINT 0 0 (EVT_PF_SWINT_RAISE.put 0 255) = true ∧
    (State.reset.m.dieUp = true ∧ State.reset.m.hdg.busMaster.contains 16 = false ∧ unplugged.m.pcieOut = true ∧ State.reset.m.evt.pfPend.contains 31 = false) ∧
    (signalling.m.hdg.busMaster.contains 0 = true ∧ signalling.m.pcieOut = false ∧ signalling.m.evt.pfPend.contains 31 = true ∧
      signalling.m.evt.pfMask.contains 31 = false ∧ lookup signalling.m.evt.pfLast 31 = none) ∧
    (signalling.m.hdg.busMaster.contains 16 = true ∧ signalling.m.evt.vecPend.contains (8 * (16 - 1) + 7) = true ∧
      signalling.m.evt.vecMask.contains 127 = false ∧ lookup signalling.m.evt.vecLast 127 = none) ∧
    (∀ c ∈ [1, 2], ∀ sel ∈ [0, 2 ^ 15], ∀ p ∈ [Path.pf, .dmp], grantedB (eventful sel) p .EVT_RING_CONS 15 15 (EVT_RING_CONS_CONS.put 0 c) = true) ∧
    ((eventful 0).m.dmpCarries 15 = false ∧ (eventful (2 ^ 15)).m.dmpCarries 15 = true ∧
      consAccepts ((eventful 0).m.get EVT_RING_PROD_PROD 15) ((eventful 0).m.get EVT_RING_CONS_CONS 15) 1 = true ∧
      consAccepts ((eventful 0).m.get EVT_RING_PROD_PROD 15) ((eventful 0).m.get EVT_RING_CONS_CONS 15) 2 = false) ∧
    (unplugged.m.dieUp = true ∧ State.reset.m.pcieOut = false ∧ State.reset.m.hdg.numVfs < 16 ∧ 16 ≤ signalling.m.hdg.numVfs ∧
      (fld HDG_CFG_FLR_RESETS 15 0 signalling).m.flag HDG_CFG_FLR_RESETS 15 = false ∧ 16 = 15 + 1 ∧ State.reset.m.hdg.numVfs = 0 ∧ dark.m.dieUp = false) := by
  decide +kernel


/-! ### Threads: ALU, sequencer, memory -/

/-- A thread that holds an event job of Hedge 0, at the last microaddress; every W register holds 5. -/
def thr : Thread := { job := { desc := 0, hedge := 0, kind := .event }, w := List.replicate 32 5, pc := 32767 }

/-- The last thread of cluster 3. -/
def lastThread : ThreadRef := ⟨3, 15, 47⟩

/-- That thread is t, and the last microword of its cluster's control store is w. -/
def threaded (t : Thread) (w : Nat := 0) : State :=
  State.reset |> on (fun m => m.setCl 3 { m.cl 3 with store := [(32767, w)] }) |>
    on fun m => { m with eng := { m.eng with threads := [(threadKey lastThread, t)] } }

/-- A microword's fields, from the encoding of R253: an ALU part, a sequencing part, a memory part, a queue part; of the other parts the code. -/
def aluBits (op : Nat) (x : AluArgs) : Nat :=
  (match x.unit with
    | .a => op * 2 ^ 98 + x.srcA.val * 2 ^ 92 + x.srcB.val * 2 ^ 86 + x.dest.val * 2 ^ 81
    | .b => op * 2 ^ 75 + x.srcA.val * 2 ^ 69 + x.srcB.val * 2 ^ 63 + x.dest.val * 2 ^ 58) + x.cnd.val * 2 ^ 104 + x.imm.toNat * 2 ^ 42

def seqBits (nxt : Nat) (x : SeqArgs) : Nat :=
  nxt * 2 ^ 124 + x.tgt.val * 2 ^ 109 + x.cnd.val * 2 ^ 104 + x.srcA.val * 2 ^ 92 + x.imm.toNat * 2 ^ 42 + x.fen.val * 2 ^ 10

def memBits (op : Nat) (x : MemArgs) : Nat := op * 2 ^ 37 + x.mad.val * 2 ^ 31 + x.msp.val * 2 ^ 28 + x.imm.toNat * 2 ^ 42

def qopBits (op mad imm : Nat) : Nat := op * 2 ^ 18 + mad * 2 ^ 31 + imm * 2 ^ 42

/-- The thread issues the command, and P holds of it. -/
def issues (s : State) (c : Instr) (P : Thread → Bool := fun _ => true) : Bool := (s.m.issuing c).any P

/-- The thread does not issue the command: its microword is another, or holds a reserved encoding. -/
def idles (s : State) (c : Instr) : Bool := (s.m.issuing c).isNone && (s.m.badWord c).isNone

def faults (s : State) (c : Instr) : Bool := (s.m.badWord c).isSome

/-- R292's example: bits 127 to 0 of PASS on ALU B, AADD64 and BEGIN_COMMIT. -/
def exampleWord : Nat := 0x0000000000000E20_1400056110000200

/-- R292, R253: what the example's word spells. -/
theorem test_example_word :
    issues (threaded thr exampleWord) (.aluPass ⟨lastThread, .b, Fin.ofNat 64 (exampleWord / 2 ^ 69 % 64), Fin.ofNat 64 (exampleWord / 2 ^ 63 % 64),
      Fin.ofNat 32 (exampleWord / 2 ^ 58 % 32), BitVec.ofNat 16 (exampleWord / 2 ^ 42), 0, false⟩) = true ∧
    issues (threaded thr exampleWord) (.beginCommit lastThread) = true ∧ faults (threaded thr exampleWord) (.beginCommit lastThread) = false := by
  decide +kernel

def alu (u : AluUnit) (a b cnd : Nat) (bad : Bool) : AluArgs := ⟨lastThread, u, Fin.ofNat 64 a, Fin.ofNat 64 b, 31, 7, Fin.ofNat 32 cnd, bad⟩

/-- The ALU rows with their codes. -/
def aluRows : List ((AluArgs → Instr) × Nat) :=
  [Instr.aluNop, .aluPass, .aluAdd, .aluSub, .aluAnd, .aluOr, .aluXor, .aluAndn, .aluShl, .aluShr, .aluSar, .aluRor, .aluExt, .aluMin, .aluMax,
    .aluCmp, .aluTest, .aluAddc, .aluBswap, .aluPopcnt, .aluClz, .aluMul, .aluCsum, .aluCrc32, .aluSel].zipIdx

theorem met_AluResults : (threaded thr).m.dieUp = true ∧
    (∀ e ∈ aluRows, ∀ u ∈ [AluUnit.a, .b], issues (threaded thr (aluBits e.2 (alu u 31 63 23 false))) (e.1 (alu u 31 63 23 false)) = true) ∧
    (issues (threaded thr (aluBits 24 (alu .b 31 48 23 true))) (.aluSel (alu .b 31 48 23 true)) = true ∧
      (alu .b 31 48 23 true).srcA.val < 32 ∧ 48 ≤ (alu .b 31 48 23 true).srcB.val) := by decide +kernel

theorem met_AluFlagsAndReservedForms :
    (∀ e ∈ aluRows, idles State.reset (e.1 (alu .b 31 63 23 false)) = true ∧
      faults (threaded thr (aluBits e.2 (alu .b 31 63 24 false))) (e.1 (alu .b 31 63 24 false)) = true ∧
      faults (threaded thr 255) (e.1 (alu .b 31 63 23 false)) = true) ∧
    (∀ x ∈ [alu .a 32 0 0 true, alu .b 0 47 0 true], ∀ e ∈ aluRows, issues (threaded thr (aluBits e.2 x)) (e.1 x) = true) := by decide +kernel

def seq (tgt cnd fen : Nat) : SeqArgs := ⟨lastThread, Fin.ofNat 32768 tgt, Fin.ofNat 32 cnd, 0, 7, Fin.ofNat 4 fen⟩

/-- The sequencing rows with their codes. -/
def seqRows : List ((SeqArgs → Instr) × Nat) :=
  [Instr.seqNext, .seqJump, .seqBranch, .seqDispatch, .seqCall, .seqReturn, .seqYield, .seqEnd, .seqFenceNext].zipIdx

/-- FEN is for END and FENCE_NEXT. -/
def fenOf (nxt : Nat) : Nat := if nxt < 7 then 0 else 3

/-- Dispatch entry 5 of cluster 3 is valid or not; tick entry 1023 has a budget. -/
def dispatching (valid budget : Nat) (t : Thread) : State :=
  threaded t (seqBits 3 (seq 0 0 0)) |> fld ENG_DISPATCH_VALID (256 * 3 + 5) valid |> fld ENG_TICKJOB0_BUDGET 1023 budget

/-- The thread with a return stack of n addresses, or with a tick job of entry 1023 that has used its budget or not. -/
def stacked (n : Nat) : Thread := { thr with stack := List.replicate n 9 }
def ticking (spent : Bool) : Thread := { thr with job := { thr.job with kind := .tick 1023, spent := spent } }

theorem met_ThreadsContinueAsNxtSays :
    (∀ e ∈ seqRows, issues (threaded (stacked 7) (seqBits e.2 (seq 32767 23 (fenOf e.2)))) (e.1 (seq 32767 23 (fenOf e.2)))
      (fun t => t.job.kind == .event && decide (t.stack.length < 8 ∧ t.stack = 9 :: List.replicate 6 9)) = true ∧
      idles State.reset (e.1 (seq 0 0 0)) = true ∧ faults (threaded thr (seqBits e.2 (seq 0 24 0))) (e.1 (seq 0 24 0)) = true) ∧
    issues (threaded (stacked 8) (seqBits 4 (seq 0 0 0))) (.seqCall (seq 0 0 0)) (fun t => decide (8 ≤ t.stack.length)) = true ∧
    issues (threaded thr (seqBits 5 (seq 0 0 0))) (.seqReturn (seq 0 0 0)) (fun t => t.stack == []) = true ∧
    (∀ b ∈ [false, true], issues (fld ENG_TICKJOB0_BUDGET 1023 60000 (threaded (ticking b) (seqBits 6 (seq 0 0 0)))) (.seqYield (seq 0 0 0)) (fun t =>
      t.job.kind == .tick 1023 && ((fld ENG_TICKJOB0_BUDGET 1023 60000 (threaded (ticking b))).m.jobAfter t).spent == b) = true) ∧
    (∀ v ∈ [0, 1], issues (dispatching v 0 thr) (.seqDispatch (seq 0 0 0)) (fun t =>
      decide (256 * (threadKey lastThread / 768) + ((dispatching v 0 thr).m.source (threadKey lastThread) t 7 0).1.toNat % 256 = 256 * 3 + 5 ∧
        (dispatching v 0 thr).m.flag ENG_DISPATCH_VALID (256 * 3 + 5) = decide (v = 1))) = true) := by decide +kernel

/-- The thread ENDs, its section holding operations; a frame it re-entered waits to be injected, or none. -/
def committing (l : List HeldOp) : State := threaded { thr with held := l, inCommit := true } (seqBits 7 (seq 0 23 3))
def awaited (s : State) : State := on (fun m => { m with buf := { m.buf with
    inject := [(133, { frame := m.internalFrame 0 0 1 [], thread := threadKey lastThread })] } }) s

/-- Both SDRAM channels serve. -/
def trained (s : State) : State := s |> fld DRM_CH_STATUS_STATE 0 0 |> fld DRM_CH_STATUS_STATE 1 0

/-- SDRAM's write queues are full. -/
def clogged (s : State) : State := trained <| on (fun m => { m with drm := { m.drm with
    reqs := (List.range 256).map fun k => { id := k, channel := k % 2, write := true, addr := 64 * k, len := 64, hedge := 0, who := .window 0, since := 0 } } }) s

/-- END, and the commands that only mark the thread, with the words that spell them. -/
def endWithFence : Instr := .seqEnd (seq 0 23 3)
def marks : List (Instr × Nat) :=
  [(.memoryFence lastThread, 2 ^ 10 + seqBits 8 (seq 0 0 0)), (.queueFence lastThread, 2 * 2 ^ 10 + seqBits 8 (seq 0 0 0)),
    (.globalFence lastThread, seqBits 7 (seq 0 0 3)), (.wait lastThread, 2 ^ 8), (.beginCommit lastThread, 2 * 2 ^ 8),
    (.start0 lastThread, 2 ^ 12), (.stop0 lastThread, 2 * 2 ^ 12), (.start1 lastThread, 3 * 2 ^ 12), (.stop1 lastThread, 4 * 2 ^ 12),
    (.count lastThread, 5 * 2 ^ 12)]

theorem met_JobsEndAndMarkersAreNoted :
    issues (clogged (committing [.store 3 0x40000000 8 0])) endWithFence
      (fun t => !((clogged (committing [.store 3 0x40000000 8 0])).m.releasable t)) = true ∧
    issues (committing [.push 3 9]) endWithFence (fun t => (committing [.push 3 9]).m.releasable t) = true ∧
    (issues (committing []) endWithFence (fun t => t.held == []) = true ∧ (committing []).m.fenceMet (threadKey lastThread) 3 = true) ∧
    (issues (awaited (committing [])) endWithFence (fun t => t.held == []) = true ∧ (awaited (committing [])).m.fenceMet (threadKey lastThread) 3 = false) ∧
    (idles State.reset endWithFence = true ∧ faults (threaded thr (seqBits 7 (seq 0 31 0))) endWithFence = true) ∧
    (∀ e ∈ marks, issues (threaded thr e.2) e.1 = true ∧ idles State.reset e.1 = true ∧ faults (threaded thr (e.2 + 1)) e.1 = true) ∧
    (threaded thr).m.dieUp = true := by decide +kernel

def mem (msp : Nat) (bad : Bool) : MemArgs := ⟨lastThread, 0, 7, Fin.ofNat 8 msp, bad⟩

/-- The thread with an address in W0; in a commit section with n held operations, or not. -/
def at_ (ad : Nat) (held : Nat := 0) (inCommit : Bool := false) : Thread :=
  { thr with w := List.replicate 32 (BitVec.ofNat 64 ad), held := List.replicate held (.push 0 0), inCommit := inCommit }

/-- The memory rows with their codes. -/
def memRows : List ((MemArgs → Instr) × Nat) :=
  [Instr.rd8, .rd16, .rd32, .rd64, .rd128, .wr8, .wr16, .wr32, .wr64, .wr128, .aadd64, .aor64, .cas64, .swap64].zipIdx 1

/-- The thread t, in a state that f makes, issues memory row e of a space with address ad in W0. -/
def addresses (f : State → State) (e : (MemArgs → Instr) × Nat) (msp ad : Nat) (t : Thread) (bad : Bool := false) : Bool :=
  issues (f (threaded t (memBits e.2 (mem msp bad)))) (e.1 (mem msp bad)) fun t =>
    decide ((f (threaded t (memBits e.2 (mem msp bad)))).m.source (threadKey lastThread) t 7 0 |>.1.toNat = ad)

/-- SHARED word 5 of cluster 3 is poisoned. -/
def poisoned (s : State) : State := on (fun m => m.setCl 3 { m.cl 3 with poisoned := [5] }) s

theorem met_MemoryRowsAccessLocalAndShared :
    (∀ e ∈ memRows, ∀ a ∈ [(0, 0), (0, 1008), (0, 1024), (1, 0x3FFFF0), (1, 0x400000), (0, 9)], addresses id e a.1 a.2 (at_ a.2) = true) ∧
    (∀ e ∈ memRows, addresses id e 0 1008 (at_ 1008) true = true ∧ addresses poisoned e 1 40 (at_ 40) = true ∧
      addresses id e 1 0x3FFFF0 (at_ 0x3FFFF0 15 true) = true ∧ idles State.reset (e.1 (mem 0 false)) = true ∧
      faults (threaded thr (memBits e.2 (mem 6 false))) (e.1 (mem 6 false)) = true ∧
      faults (threaded thr (memBits e.2 (mem 0 false) + 2 ^ 18)) (e.1 (mem 0 false)) = true) ∧
    (1008 % 16 = 0 ∧ 1008 + 16 ≤ 1024 ∧ 1024 < 1024 + 1 ∧ 0x3FFFF0 % 16 = 0 ∧ 0x3FFFF0 + 16 ≤ 0x400000 ∧ 0x400000 < 0x400000 + 1 ∧ 9 % 8 ≠ 0) ∧
    (((threaded thr).m.cl 3).poisonedAt 0x3FFFF0 16 = false ∧ ((poisoned (threaded thr)).m.cl 3).poisonedAt 40 8 = true ∧
      (threaded thr).m.holds (threadKey lastThread) (at_ 0) = false ∧
      (threaded thr).m.holds (threadKey lastThread) (at_ 0x3FFFF0 15 true) = true ∧ (at_ 0x3FFFF0 15 true).held.length < 16) := by
  decide +kernel

/-- Queue IJ of cluster 3 is full. -/
def fullIJ (s : State) : State := on (fun m => m.setCl 3 { m.cl 3 with ij := List.replicate 4096 thr.job }) s

theorem met_TablesRegistersAndQueuesFromMicrocode :
    (∀ a ∈ [(2, 13 * 2 ^ 32 + 266239 * 64 + 8), (2, 14 * 2 ^ 32), (4, 0x1FFFFF8), (5, 0x118), (3, 0x7A0000000)],
      addresses id (.rd64, 4) a.1 a.2 (at_ a.2) = true) ∧
    (addresses id (.wr64, 9) 4 0x1FFFFF8 (at_ 0x1FFFFF8) = true ∧ addresses id (.wr128, 10) 5 0x30 (at_ 0x30) = true ∧
      addresses fullIJ (.wr128, 10) 5 0x30 (at_ 0x30) = true) ∧
    (State.reset.m.tableEntry (13 * 2 ^ 32 + 266239 * 64 + 8) = some (0, 2) ∧ (13 * 2 ^ 32 + 266239 * 64 + 8) / 8 % 8 < 2) ∧
    State.reset.m.tableEntry (14 * 2 ^ 32) = none ∧ (0x1FFFFF8 < 0x2000000 ∧ State.reset.m.readHeld (clusterPath (threadKey lastThread)) 0x1FFFFF8 = false) ∧
    (0x118 % 8 = 0 ∧ 0x100 ≤ 0x118 ∧ 0x118 < 0x120) ∧ (0x30 % 16 = 0 ∧ 0x30 < 0x40) ∧
    ((threaded thr).m.cl (0x30 / 16)).queueFull 2 = false ∧ ((fullIJ (threaded thr)).m.cl (0x30 / 16)).queueFull 2 = true ∧
    State.reset.m.drmMay (.job 0) false 0x7A0000000 8 = false ∧ (fld DRM_CH_STATUS_STATE 0 1 (fld DRM_CH_STATUS_STATE 1 1 State.reset)).m.drmServed 0 = false ∧
    ((threaded thr).m.thread (threadKey lastThread)).any (fun t => t.read.isNone && t.ending.isNone) = true ∧
    ((threaded { thr with read := some ⟨16, some (2 ^ 128 - 1), true, 0⟩ }).m.thread (threadKey lastThread)).any (fun t =>
      (t.read.any fun q => q.data == some (2 ^ 128 - 1)) && !t.mw.reads && t.ending.isNone) = true := by decide +kernel

/-! ### Frame and timer parts, jobs, clusters -/

/-- The thread's job holds frame 0, and its microword is w; it is in a commit section, or not. -/
def holding (p : Nat) (inCommit : Bool) (w : Nat) : State :=
  threaded { at_ p 15 inCommit with job := { thr.job with frame := some 0 }, held := if inCommit then List.replicate 15 (.push 0 0) else [] } w |>
    on fun m => { m with buf := { m.buf with frames := [(0, m.internalFrame 0 0 1 (List.replicate 60 0x11))] } }

/-- The header rows, the queue rows and the timer rows, with the words that spell them. -/
def hdrRows : List (Instr × Nat) :=
  [(.hdrView lastThread false, 2 ^ 26), (.hdrView lastThread true, 2 ^ 26 + 2 ^ 22), (.hdrWriteA lastThread 15, 2 * 2 ^ 26 + 15 * 2 ^ 22),
    (.hdrWriteB lastThread 15, 3 * 2 ^ 26 + 15 * 2 ^ 22)]

def qopRows : List (Instr × Nat) :=
  [(.qopEnqueue lastThread 0 7, qopBits 1 0 7), (.qopReinject lastThread 0 7, qopBits 2 0 7), (.qopDiscard lastThread 0 7, qopBits 3 0 7),
    (.qopException lastThread 0 7, qopBits 4 0 7), (.qopClip lastThread 0 7, qopBits 5 0 7), (.qopCopy lastThread 0 7, qopBits 6 0 7)]

def tmrRows : List (Instr × Nat) :=
  [(.tmrAlloc lastThread, 2 ^ 15), (.tmrArm lastThread, 2 * 2 ^ 15), (.timerCancel lastThread, 3 * 2 ^ 15), (.timerRead lastThread, 4 * 2 ^ 15),
    (.tmrFree lastThread, 5 * 2 ^ 15)]

/-- A frame of 16,001 octets. -/
def long : Frame := { octets := List.replicate 16001 0, source := 0, hedge := 0, sender := 0 }

/-- ALU A's result names timer 4095. -/
def named : AluRes := { value := 4095, write := true, dest := 31, flags := 0 }

/-- Timer 4095 of cluster 3 is allocated to Hedge h; Hedge 0 may take timers from the pool, or none is left. -/
def timing (h w : Nat) (armed : Option (Nat × Nat × Nat)) : State :=
  on (fun m => m.setCl 3 { m.cl 3 with timers := [(4095, { hedge := h, fromPool := true, armed := armed })] })
    (threaded { thr with mw := { resA := some named } } w)

def timersGone : State :=
  on (fun m => m.setCl 3 { m.cl 3 with timers := (List.range 4096).map fun k => (k, { hedge := 1, fromPool := true }) }) (threaded thr (2 ^ 15))

theorem met_FramePartsAndTimerParts :
    (∀ e ∈ hdrRows ++ qopRows ++ tmrRows, idles State.reset e.1 = true ∧ issues (threaded thr e.2) e.1 (fun t => t.job.frame.isNone) = true) ∧
    (∀ e ∈ hdrRows ++ qopRows, faults (threaded thr (e.2 + 1)) e.1 = true ∧ issues (holding 0 false e.2) e.1 (fun t => t.job.frame.isSome) = true) ∧
    (∀ e ∈ qopRows, ∀ c ∈ [false, true], issues (holding 256 c e.2) e.1 (fun t =>
      t.job.frame == some 0 && (holding 256 c e.2).m.holds (threadKey lastThread) t == c && decide (t.held.length < 16)) = true) ∧
    ((holding 256 false 0).m.frame 0).any (fun f => decide (assembledLength f 256 ≤ 15996) && decide (bits 256 8 0 ≤ 256) && !f.poison &&
      decide (carryOf f f.octets = f.carry)) = true ∧
    (((threaded thr (2 ^ 15)).m.allocTimer 3 0).isSome = true ∧ timersGone.m.allocTimer 3 0 = none ∧
      issues timersGone (.tmrAlloc lastThread) = true) ∧
    (∀ h ∈ [0, 15], ∀ e ∈ tmrRows, (lookup ((timing h e.2 (some (9, 255, 1))).m.cl 3).timers 4095).any (fun tm => tm.hedge == h) = true ∧
      issues (timing h e.2 none) e.1 (fun t => t.mw.resA.any fun r => r.write && r.value.toNat % 4096 == 4095) = true) := by
  decide +kernel

theorem met_FrameTooLong : 15996 < assembledLength long 0 := by
  have h : long.octets.length = 16001 := List.length_replicate
  unfold assembledLength; rw [h]; decide

/-- A doorbell job waits in cluster 3, with the dispatch entry of its opcode valid or not. -/
def queued (opcode valid : Nat) : State :=
  fld ENG_DISPATCH_VALID (256 * 3 + opcode) valid <| on (fun m => m.setCl 3 { m.cl 3 with
    db := [{ desc := BitVec.ofNat 128 opcode, hedge := 0, kind := .doorbell }] }) State.reset

/-- Tick entry 1023 is due at every tick; a job of it lives or not. -/
def duly (live : Bool) : State :=
  State.reset |> fld ENG_TICKJOB0_VALID 1023 1 |> fld ENG_TICKJOB0_PERIOD 1023 1 |> on fun m => { m with
    tick := { m.tick with jobsDue := [3] },
    eng := { m.eng with threads := if live then [(3071, ticking false)] else [] } }

/-- Timer 4095 of cluster 3 expires now. -/
def expiring : State := on (fun m => { m.setCl 3 { m.cl 3 with timers := [(4095, { hedge := 15, fromPool := false, armed := some (0, 255, 1) })] } with
    tick := { m.tick with timersDue := [3] } }) State.reset

/-- The doorbell queue of cluster 3 is full. -/
def fullDB (s : State) : State := on (fun m => m.setCl 3 { m.cl 3 with db := List.replicate 4096 thr.job }) s

theorem met_JobsStartAndFallDue :
    ((fld ENG_CLUSTER_STATUS_STATE 3 3 State.reset).m.startsJobs 3 = false ∧ State.reset.m.startsJobs 3 = true ∧
      ((State.reset.m.cl 3).restarts.find? fun j => State.reset.m.mayStart 3 j.hedge) = none ∧
      ([0, 1, 2, 3].find? fun k => (((State.reset.m.cl 3).queue k).head?).any fun j => State.reset.m.mayStart 3 j.hedge) = none ∧
      State.reset.m.intakeHead 3 = none) ∧
    (∀ x ∈ [(255, 1), (255, 0), (0, 1)], (queued x.1 x.2).m.startsJobs 3 = true ∧ ((queued x.1 x.2).m.cl 3).restarts = [] ∧
      ([0, 1, 2, 3].find? fun k => ((((queued x.1 x.2).m.cl 3).queue k).head?).any fun j => (queued x.1 x.2).m.mayStart 3 j.hedge) = some 3 ∧
      ((queued x.1 x.2).m.cl 3).queue 3 = [{ desc := BitVec.ofNat 128 x.1, hedge := 0, kind := .doorbell }] ∧
      ((queued x.1 x.2).m.placeThread 3).isSome = true ∧ (queued x.1 x.2).m.flag ENG_DISPATCH_VALID (256 * 3 + x.1) = decide (x.2 = 1)) ∧
    State.reset.m.tick.jobsDue = [] ∧ State.reset.m.tick.timersDue.contains 3 = false ∧
    (∀ live ∈ [false, true], (duly live).m.tick.jobsDue = [3] ∧ (∀ k ∈ (List.range 255).map (768 + ·), (duly live).m.flag ENG_TICKJOB0_VALID k = false) ∧
      (duly live).m.flag ENG_TICKJOB0_VALID 1023 = true ∧ ((duly live).m.dueAt 1023 (duly live).m.tickNum || (duly live).m.dueSkipped 1023) = true ∧
      (duly live).m.get ENG_TICKJOB0_SHED 1023 = 0 ∧ ((duly live).m.cl 3).queueFull 0 = false ∧ (duly live).m.tickJobLives 1023 = live) ∧
    (expiring.m.tick.timersDue.contains 3 = true ∧ lookup (expiring.m.cl 3).timers 4095 = some { hedge := 15, fromPool := false, armed := some (0, 255, 1) } ∧
      0 ≤ expiring.m.commits ∧ (expiring.m.cl 3).queueFull 0 = false) ∧
    (∀ op ∈ [0xBF, 0xC0], grantedB (fullDB vfs) .pf .ENG_DOORBELL 3 3 (BitVec.ofNat 64 op) = true ∧
      grantedB vfs (.vf 15) .ENG_DOORBELL 3 3 (BitVec.ofNat 64 op) = true) ∧
    ((vfHedge (.vf 15)).isSome = true ∧ vfHedge .pf = none ∧ ((fullDB vfs).m.cl 3).queueFull 3 = true ∧ (vfs.m.cl 3).queueFull 3 = false) ∧
    (State.reset.m.thread 3071 = none ∧ (fld ENG_JOB_LIMIT_MAX_CYCLES 3 0 State.reset).m.get ENG_JOB_LIMIT_MAX_CYCLES 3 = 0 ∧
      ((fld ENG_JOB_LIMIT_MAX_CYCLES 3 3 (threaded thr)).m.thread 3071).any (fun t => decide
        (t.since + ceilDiv (2 * (fld ENG_JOB_LIMIT_MAX_CYCLES 3 3 (threaded thr)).m.get ENG_JOB_LIMIT_MAX_CYCLES 3) 3 ≤
          (on (fun m => { m with time := { m.time with cycles := 2 } }) (threaded thr)).m.now)) = true) ∧
    (((threaded thr).m.thread 3071).any (fun t => t.tagged.isNone) = true ∧
      ((threaded { thr with tagged := some (0, 0, 0, 0) }).m.thread 3071).any (fun t => t.tagged.isSome && t.read.isNone) = true ∧
      (fld EPC_SAMPLE_CFG_STOP_FULL 3 0 State.reset).m.flag EPC_SAMPLE_CFG_STOP_FULL 3 = false) := by decide +kernel

/-- Cluster 3 waits for an exchange's load, or is in STATE n. -/
def exchanging : State := fld ENG_XCHG_STATUS_PHASE 3 2 <| on (fun m => m.setCl 3 { m.cl 3 with quiesce := some (.exchange 0) }) State.reset
def clustered (n : Nat) : State := fld ENG_CLUSTER_STATUS_STATE 3 n State.reset

/-- Row groups 0 and 128 of cluster 3 are being reloaded. -/
def reloading_ : State := on (fun m => m.setCl 3 { m.cl 3 with reloading := [0, 128] }) State.reset

/-- Cluster 3 is lost. -/
def clusterGone : State := on (fun m => m.setCl 3 { m.cl 3 with lost := true }) State.reset

theorem met_ClustersChangeHands :
    (grantedB State.reset .pf .ENG_XCHG_CTL 3 3 (withOp ENG_XCHG_CTL_REQ 0 1) = true ∧ State.reset.m.stageClosed = false ∧ State.reset.m.tick.nowLost = false ∧
      stagedSize State.reset.m.tick.now + 2 ≤ stageDepth) ∧
    ((State.reset.m.cl 3).quiesce = none ∧ (exchanging.m.cl 3).quiesce = some (.exchange 0) ∧ exchanging.m.get ENG_XCHG_STATUS_PHASE 3 = 2 ∧
      (exchanging.m.cl 3).loaded = none) ∧
    (0 ∈ (reloading_.m.cl 3).reloading ∧ 128 ∈ (reloading_.m.cl 3).reloading ∧ 131 ∉ (reloading_.m.cl 3).reloading) ∧
    (∀ d ∈ [3, 0], grantedB State.reset .pf .ENG_CLUSTER_CTL 3 3 (ENG_CLUSTER_CTL_REHOME.put (State.reset.revised ENG_CLUSTER_CTL_STATE_REQ 3 1) d) = true ∧
      State.reset.m.get ENG_CLUSTER_STATUS_STATE d = 0) ∧
    (grantedB (fld ENG_CLUSTER_CTL_REHOME 3 0 (clustered 3)) .pf .ENG_CLUSTER_CTL 3 3
        ((fld ENG_CLUSTER_CTL_REHOME 3 0 (clustered 3)).revised ENG_CLUSTER_CTL_STATE_REQ 3 0) = true ∧
      (fld ENG_CLUSTER_CTL_REHOME 3 0 (clustered 3)).m.get ENG_CLUSTER_CTL_REHOME 3 = 0 ∧ (clustered 3).m.get ENG_CLUSTER_STATUS_STATE 0 = 0 ∧
      (fld ENG_CLUSTER_CTL_REHOME 3 0 (clustered 3)).m.get ENG_CLUSTER_STATUS_STATE 3 = 3) ∧
    (State.reset.m.dieUp = true ∧ (clusterGone.m.cl 3).lost = true ∧ (State.reset.m.cl 3).lost = false) ∧
    (∀ op ∈ [1, 2], ∀ n ∈ [0, 3], openedB (clustered n) .pf .ENG_CS_WIN_CMD 3 3 (.cs 3) (withOp ENG_CS_WIN_CMD_OP (ENG_CS_WIN_CMD_ADDR.put 0 32767) op) = true ∧
      (clustered n).m.get ENG_CLUSTER_STATUS_STATE 3 = n) ∧
    (543 = (3 * 17 + 16) * 8 + 7 ∧ grantedB State.reset .pf .EPC_CTR 543 543 (BitVec.ofNat 64 (2 ^ 48 - 1)) = true ∧ grantedB State.reset .pf .EPC_SEL 543 543 1 = true) ∧
    (∀ on_ ∈ [0, 1], grantedB State.reset .pf .EPC_CTL 3 3 (EPC_CTL_FREEZE.put 0 on_) = true) ∧ State.reset.m.flag EPC_CTL_FROZEN 3 = false ∧
    openedB State.reset .pf .EPC_SAMPLE_CMD 3 3 (.sample 3) (EPC_SAMPLE_CMD_INDEX.put 0 1023) = true ∧
    grantedB State.reset .pf .EPC_SAMPLE_IDX 3 3 0x10000 = true ∧ ((State.reset.m.cl 3).prod + 2 ^ 32 - (State.reset.m.cl 3).cons) % 2 ^ 32 < 1 := by decide +kernel

/-! ### SDRAM -/

/-- A command word of the SDRAM window for the granule of an address. -/
def dramCmd (a op : Nat) : Word := withOp DRM_WIN_CMD_OP (DRM_WIN_CMD_ADDR.put 0 (a / 64)) op

/-- Request n of a window for the last granule, which reads or writes, and holds a slot or not. -/
def request (n : Nat) (write slot : Bool) : DrmReq := ⟨n, 0x79FFFFFC0 / 256 % 2, write, 0x79FFFFFC0, 64, [], false, 0, .window 0, slot, 0, false⟩

/-- That request waits, for 4 µs now. -/
def requesting (n : Nat) (write slot : Bool) : State :=
  trained State.reset |> on fun m => { m with drm := { m.drm with nextId := 8, reqs := [request n write slot], wmode := [0, 1, 2, 3] }, time := { m.time with cycles := 4000 } }

/-- The same read, with an older one of its bank. -/
def later : State := on (fun m => { m with drm := { m.drm with reqs := [request 6 false true, request 7 false true] } }) (requesting 7 false true)

/-- A write of a granule waits in the queue. -/
def forwarding : State := requesting 0 true true

/-- A row of class 6 is being retired. -/
def retiring (cls : Nat) : State := on (fun m => { m with int := { m.int with graft := some ⟨cls, 2 ^ 26 - 1, 0⟩ } }) State.reset

/-- Channels 0 and 1 in STATES a and b. -/
def channels (a b : Nat) : State := State.reset |> fld DRM_CH_STATUS_STATE 0 a |> fld DRM_CH_STATUS_STATE 1 b

/-- Channel 1 is offline, with n failed trainings in a row. -/
def offline (n : Nat) : State := on (fun m => { m with drm := { m.drm with trainFails := [(1, n)] } }) (channels 0 2)

theorem met_SdramAnswersAndFolds :
    (∀ op ∈ [1, 2], ∀ a ∈ [0, 0x79FFFFFC0, 0x7A0000000], openedB (trained State.reset) .pf .DRM_WIN_CMD 0 0 (.dram 0) (dramCmd a op) = true ∧
      DRM_WIN_CMD_ADDR.of (dramCmd a op) * 64 = a) ∧
    (regionOf 0x7A0000000 = none ∧ (regionOf 0).isSome = true ∧ (trained State.reset).m.drmMay (pathRole .pf) true 0 64 = false ∧
      (channels 3 3).m.drmServed 0 = false ∧ openedB (channels 3 3) .pf .DRM_WIN_CMD 0 0 (.dram 0) (dramCmd 0 2) = true ∧ (∀ w ∈ [false, true], (trained State.reset).m.drmMay (pathRole .pf) w 0x79FFFFFC0 64 = true) ∧
      (trained State.reset).m.drmServed 0x79FFFFFC0 = true ∧ (trained State.reset).m.writeRoom 0x79FFFFFC0 = true ∧ (clogged State.reset).m.writeRoom 0x79FFFFFC0 = false ∧
      openedB (clogged State.reset) .pf .DRM_WIN_CMD 0 0 (.dram 0) (dramCmd 0x79FFFFFC0 2) = true ∧ (clogged State.reset).m.drmServed 0x79FFFFFC0 = true ∧ (trained State.reset).m.drmForwards 0x79FFFFFC0 = none) ∧
    (openedB forwarding .pf .DRM_WIN_CMD 0 0 (.dram 0) (dramCmd 0x79FFFFFC0 1) = true ∧ (forwarding.m.drmForwards 0x79FFFFFC0).isSome = true ∧
      forwarding.m.drmMay (pathRole .pf) false 0x79FFFFFC0 64 = true ∧ forwarding.m.drmServed 0x79FFFFFC0 = true) ∧
    (State.reset.m.drm.reqs.find? fun r => r.id == 7) = none ∧
    (∀ w ∈ [false, true], ((requesting 7 w true).m.drm.reqs.find? fun r => r.id == 7) = some (request 7 w true) ∧
      (requesting 7 w true).m.drmCandidate (request 7 w true) = true ∧ (requesting 7 w true).m.outranked (request 7 w true) true = false ∧
      (requesting 7 w true).m.drm.stores = [] ∧ (request 7 w true).channel < 2 ∧
      (requesting 7 w true).m.int.badGranules.contains (0x79FFFFFC0 / 64) = false ∧ (request 7 w true).since + 4000 ≤ (requesting 7 w true).m.now) ∧
    (((requesting 7 false false).m.drm.reqs.find? fun r => r.id == 7) = some (request 7 false false) ∧
      (requesting 7 false false).m.drmCandidate (request 7 false false) = false) ∧
    (State.reset.m.int.graft = none ∧ (retiring 6).m.int.graft = some ⟨6, 2 ^ 26 - 1, 0⟩ ∧ (retiring 1).m.int.graft = some ⟨1, 2 ^ 26 - 1, 0⟩) ∧
    (∀ x ∈ [(0, 3), (0, 0), (0, 4), (0, 2)], (channels x.1 x.2).m.get DRM_CH_STATUS_STATE 1 = x.2 ∧ (channels x.1 x.2).m.get DRM_CH_STATUS_STATE (1 - 1) = 0) ∧
    (∀ x ∈ [(0, 0), (3, 0), (0, 2), (0, 3)], grantedB (channels x.1 x.2) .pf .DRM_CH_CTL 1 1 ((channels x.1 x.2).revised DRM_CH_CTL_STATE_REQ 1 1) = true ∧
      grantedB (channels x.1 x.2) .pf .DRM_CH_CTL 1 1 ((channels x.1 x.2).revised DRM_CH_CTL_STATE_REQ 1 0) = true ∧
      (channels x.1 x.2).m.get DRM_CH_STATUS_STATE 0 = x.1) := by decide +kernel

theorem met_SdramRequestsAndTraining :
    ((later.m.drm.reqs.find? fun r => r.id == 7) = some (request 7 false true) ∧ later.m.drmCandidate (request 7 false true) = true ∧
      later.m.outranked (request 7 false true) false = true ∧ later.m.outranked (request 7 false true) true = false) ∧
    (∀ t ∈ [2, 9], (offline t).m.retrains 1 = true ∧ lookupD (offline t).m.drm.trainFails 1 0 = t) ∧ (channels 0 4).m.retrains 1 = false ∧
    (lookup (on (fun m => { m with drm := { m.drm with trainFails := [(1, 1)] } }) (channels 0 4)).m.drm.trainFails 1).isSome = true := by decide +kernel

/-! ### DMP -/

/-- A DMP message from the station at 0.0.0.0 to the module at 0.0.0.0, with key 1 (no octets), counter 1 and a payload of 16 octets that
starts with b: its header and payload, the whole with its tag (R404), and the frame around it. -/
def dmpBody (type : Nat) (b : Byte) : List Byte := [0x44, 0x4D, 1, BitVec.ofNat 8 type, 0, 1, 0, 16, 0, 0, 0, 0, 0, 0, 0, 1, b] ++ List.replicate 15 0
def dmpMsg (type : Nat) (b : Byte) (tag : List Byte) : List Byte := dmpBody type b ++ tag
def dmpHead : List Byte := List.replicate 12 0 ++ [8, 0, 0x45] ++ List.replicate 8 0 ++ [17] ++ List.replicate 14 0 ++ [0, 72, 0, 0]
def dmpFrame (type : Nat) (b : Byte) (tag : List Byte) : List Byte := dmpHead ++ dmpMsg type b tag
def tagOf (type : Nat) (b : Byte) : List Byte := toBytes 32 (Config.hmacSha256 [] (dmpBody type b)).toNat

/-- DMP is enabled, with those addresses and that key. -/
def talking : State :=
  State.reset |> fld DMP_CFG_EN 0 1 |> fld DMP_ADDR_VID 0 0 |> fld DMP_ADDR_IPV4 0 0 |> fld DMP_CFG_UDP_PORT 0 0 |> fld DMP_STATION_IPV4 0 0 |> on fun m =>
    { m with dmp := { m.dmp with keys := [(1, [])] } }

/-- What talking gives a state. -/
structure Talks (s : State) : Prop where
  up : s.m.dieUp = true ∧ s.m.dmpUp = true
  addr : s.m.get DMP_ADDR_VID = 0 ∧ s.m.get DMP_ADDR_IPV4 = 0 ∧ s.m.get DMP_CFG_UDP_PORT = 0 ∧ s.m.get DMP_STATION_IPV4 = 0
  key : s.m.dmpKey 1 = some []

theorem toBytes_length (n v : Nat) : (toBytes n v).length = n := by
  induction n with
  | zero => rfl
  | succ n ih => simp [toBytes, ih]

theorem datagram_of {s : State} (h : Talks s) (type : Nat) (b : Byte) (tag : List Byte) (ht : tag.length = 32) :
    s.m.dmpDatagram (dmpFrame type b tag) = some (0, dmpMsg type b tag) := by
  obtain ⟨h1, h2, h3, -⟩ := h.addr
  have hl : (dmpMsg type b tag).length = 64 := by rw [dmpMsg, List.length_append, ht]; rfl
  have hd : List.drop 42 (dmpFrame type b tag) = dmpMsg type b tag := List.drop_left' rfl
  have ha : fieldAt (dmpFrame type b tag) 12 2 = 0x0800 := rfl
  have hv : fieldAt (dmpFrame type b tag) 14 1 = 0x45 := rfl
  have hp : fieldAt (dmpFrame type b tag) 23 1 = 17 := rfl
  have hs : fieldAt (dmpFrame type b tag) 26 4 = 0 := rfl
  have hx : fieldAt (dmpFrame type b tag) 30 4 = 0 := rfl
  have hu : fieldAt (dmpFrame type b tag) 36 2 = 0 := rfl
  have hn : fieldAt (dmpFrame type b tag) 38 2 = 72 := rfl
  simp [Mod.dmpDatagram, h1, h2, h3, ha, hv, hp, hs, hx, hu, hn, hd, List.take_of_length_le, hl]

theorem fault_of {s : State} (h : Talks s) (type : Nat) (b : Byte) (tag : List Byte) (ht : tag.length = 32) (hty : type ∈ dmpTypes) :
    s.m.dmpFault 0 (dmpMsg type b tag) = if tagOf type b != tag then 3 else if !(s.m.dmpFresh 1) then 4 else 0 := by
  have hl : (dmpMsg type b tag).length = 64 := by rw [dmpMsg, List.length_append, ht]; rfl
  have h0 : fieldAt (dmpMsg type b tag) 0 2 = 0x444D := rfl
  have h2 : fieldAt (dmpMsg type b tag) 2 1 = 1 := rfl
  have h3 : fieldAt (dmpMsg type b tag) 3 1 = type := by
    simp only [dmpTypes, List.mem_cons, List.not_mem_nil, or_false] at hty
    rcases hty with rfl | rfl | rfl | rfl | rfl | rfl | rfl | rfl <;> rfl
  have h4 : fieldAt (dmpMsg type b tag) 4 2 = 1 := rfl
  have h6 : fieldAt (dmpMsg type b tag) 6 2 = 16 := rfl
  have h8 : fieldAt (dmpMsg type b tag) 8 8 = 1 := rfl
  have htk : (dmpMsg type b tag).take 32 = dmpBody type b := List.take_left' rfl
  have hdr : (dmpMsg type b tag).drop 32 = tag := List.drop_left' rfl
  have hc : dmpTypes.contains type = true := by simpa using hty
  simp only [Mod.dmpFault, h.addr.2.2.2, h0, h2, h3, h4, h6, h8, hl, hc, h.key, htk, hdr, tagOf]
  simp

theorem heard_of {s : State} (h : Talks s) (hf : s.m.dmpFresh 1 = true) (type : Nat) (b : Byte) (hty : type ∈ dmpTypes) :
    s.Heard (dmpFrame type b (tagOf type b)) type 1 1 (b :: List.replicate 15 0) := by
  refine ⟨h.up.1, h.up.2, 0, dmpMsg type b (tagOf type b), datagram_of h _ _ _ (toBytes_length _ _), ?_, ?_, rfl, rfl, ?_⟩
  · rw [fault_of h type b (tagOf type b) (toBytes_length _ _) hty]; simp [hf]
  · simp only [dmpTypes, List.mem_cons, List.not_mem_nil, or_false] at hty
    rcases hty with rfl | rfl | rfl | rfl | rfl | rfl | rfl | rfl <;> rfl
  · rfl

/-- Talks, computed. -/
def talksB (s : State) : Bool :=
  decide ((s.m.dieUp = true ∧ s.m.dmpUp = true) ∧ (s.m.get DMP_ADDR_VID = 0 ∧ s.m.get DMP_ADDR_IPV4 = 0 ∧ s.m.get DMP_CFG_UDP_PORT = 0 ∧
    s.m.get DMP_STATION_IPV4 = 0) ∧ s.m.dmpKey 1 = some [])

theorem talks_of {s : State} (h : talksB s = true) : Talks s := by
  obtain ⟨h1, h2, h3⟩ := of_decide_eq_true h
  exact ⟨h1, h2, h3⟩

/-- A state hears the message of a type that starts with b. -/
def Hears (s : State) (type : Nat) (b : Byte) : Prop := s.Heard (dmpFrame type b (tagOf type b)) type 1 1 (b :: List.replicate 15 0)

theorem hears_of {s : State} {type : Nat} {b : Byte} (h : (talksB s && s.m.dmpFresh 1 && dmpTypes.contains type) = true) : Hears s type b := by
  simp only [Bool.and_eq_true] at h
  exact heard_of (talks_of h.1.1) h.1.2 type b (by simpa using h.2)

/-- Attestation was asked for at time a. -/
def attested (a now : Nat) : State :=
  on (fun m => { m with dmp := { m.dmp with attestAt := some a }, time := { m.time with cycles := now } }) talking

/-- An update in state n takes a bundle of 8 octets, which has come or not. -/
def updating (n got headless : Nat) : State :=
  talking |> fld UPD_STATUS_STATE 0 n |> fld GLB_STATUS_HEADLESS 0 headless |> on fun m =>
    { m with upd := { m.upd with dmpLen := 8, got := [(0, got)] } }

/-- Hedge 15's events and Clippings go to DMP; n of each wait, and were last sent long ago. -/
def carrying (n : Nat) : State :=
  talking |> fld EVT_DMP_SEL_SEL 0 (2 ^ 15) |> fld EVT_RING_PROD_PROD 15 n |> fld CLP_HEDGE_CFG_EN 15 1 |> fld CLP_HEDGE_CFG_DELIVER 15 2 |>
    fld CLP_RING_PROD_PROD 15 n |> on fun m => { m with
      dmp := { m.dmp with sent := [(15, (n, 0)), (31, (n, 0))] }, time := { m.time with cycles := 10 ^ 11 } }

theorem met_DmpMessagesAreCheckedAndAnswered :
    (State.reset.m.dieUp = true ∧ (fld DMP_CFG_EN 0 0 talking).m.dmpUp = false ∧ talking.m.dmpDatagram [] = none) ∧
    (talking.m.dmpUp = true ∧ talking.m.dmpDatagram (dmpFrame 5 0 (List.replicate 32 0)) = some (0, dmpMsg 5 0 (List.replicate 32 0)) ∧
      talking.m.dmpFault 0 (dmpMsg 5 0 (List.replicate 32 0)) = 1 ∧
      (on (fun m => { m with dmp := { m.dmp with keys := [] } }) talking).m.dmpFault 0 (dmpMsg 1 0 (List.replicate 32 0)) = 2) ∧
    (∃ tag : List Byte, tag.length = 32 ∧ talking.m.dmpDatagram (dmpFrame 1 0 tag) = some (0, dmpMsg 1 0 tag) ∧ talking.m.dmpFault 0 (dmpMsg 1 0 tag) = 3) ∧
    (fld DMP_RX_HIGH_COUNTER 0 65 talking).m.dmpFault 0 (dmpMsg 1 0 (tagOf 1 0)) = 4 ∧
    (Hears talking 1 0 ∧ Hears talking 2 0 ∧ Hears talking 3 0 ∧ (0 :: List.replicate 15 0 : List Byte).length = 16) ∧
    (Hears (attested 0 (oneSecond - 1)) 4 0 ∧ (attested 0 (oneSecond - 1)).m.now < 0 + oneSecond ∧ Hears (attested 0 oneSecond) 4 0 ∧
      0 + oneSecond ≤ (attested 0 oneSecond).m.now) ∧
    ((Hears (updating 0 0 0) 0x10 0 ∧ (updating 0 0 0).m.updBusy = false) ∧ Hears (updating 8 0 0) 0x10 0 ∧ (updating 8 0 0).m.updBusy = true) ∧
    ((Hears (updating 0 0 0) 0x11 0 ∧ (updating 0 0 0).m.updState ≠ 1) ∧ Hears (updating 1 0 0) 0x11 0 ∧ (updating 1 0 0).m.updState = 1 ∧
      0 + (16 - 8) ≤ (updating 1 0 0).m.upd.dmpLen) ∧
    ((Hears (updating 1 8 0) 0x12 0 ∧ (updating 1 8 0).m.upd.dmpLen ≤ (updating 1 8 0).m.gotLength) ∧
      (Hears (updating 1 8 1) 0x12 1 ∧ (updating 1 8 1).m.flag GLB_STATUS_HEADLESS = true) ∧
      Hears (updating 1 7 0) 0x12 0 ∧ (updating 1 7 0).m.gotLength < (updating 1 7 0).m.upd.dmpLen) ∧ Hears talking 0x13 0 ∧
    (∀ k ∈ [0, 1], (carrying 65).m.firstKey = some 1 ∧ (carrying 65).m.dmpUp = true ∧ (carrying 65).m.dmpDelivers k 15 = true ∧
      (carrying 65).m.dmpFrom k 15 ≠ (carrying 65).m.dmpCons k 15 ∧ (carrying 65).m.dmpCons k 15 ≠ (carrying 65).m.dmpProd k 15 ∧
      ((carrying 65).m.dmpSent k 15).2 + 100000000 ≤ (carrying 65).m.now ∧ State.reset.m.dmpFrom k 15 = State.reset.m.dmpCons k 15 ∧
      (let s := on (fun m => { m with dmp := { m.dmp with sent := [] } }) (carrying 65); s.m.dmpDelivers k 15 = true ∧ s.m.firstKey = some 1 ∧
        0 < (s.m.dmpProd k 15 + 2 ^ 32 - s.m.dmpFrom k 15) % 2 ^ 32)) ∧
    (State.reset.m.firstKey = none ∧ talking.m.dmp.heard = false ∧ talking.m.dmp.helloAt = none ∧ talking.m.firstKey = some 1) := by
  have ht : Talks talking := talks_of (by decide +kernel)
  refine ⟨by decide +kernel, by decide +kernel, ?_, ?_, ?_⟩
  on_goal 3 =>
    repeat' first
      | with_reducible refine hears_of ?_
      | with_reducible apply And.intro
    all_goals decide +kernel
  · by_cases h : tagOf 1 0 = List.replicate 32 0
    · refine ⟨List.replicate 32 1, rfl, datagram_of ht _ _ _ rfl, ?_⟩
      rw [fault_of ht _ _ _ rfl (by decide), h]; rfl
    · refine ⟨List.replicate 32 0, rfl, datagram_of ht _ _ _ rfl, ?_⟩
      rw [fault_of ht _ _ _ rfl (by decide), if_pos (bne_iff_ne.mpr h)]
  · rw [fault_of (talks_of (by decide +kernel)) 1 0 (tagOf 1 0) (toBytes_length _ _) (by decide)]
    rw [if_neg (by simp), if_pos (by decide +kernel)]

/-! ### Starts, the supervisor, loss and heat -/

/-- A state whose power controller or boot state is changed. -/
def powered (f : PwrSt → PwrSt) (s : State) : State := on (fun m => { m with pwr := f m.pwr }) s
def booted (f : BootSt → BootSt) (s : State) : State := on (fun m => { m with boot := f m.boot }) s

/-- The die is down for a reason. -/
def downFor (d : Down) : State := powered (fun q => { q with down := d }) State.reset

/-- The supervisor's component is absent, and its slots were read a minute ago. -/
def svAbsent (s : State) : State := fld BOOT_STATUS_ABSENT 0 8 s |> on fun m => { m with time := { m.time with cycles := 60 * oneSecond } }

/-- An SV component without a body, key 0 signing it, in slot 0. -/
def svImage : List Byte :=
  [0x54, 0x57, 0x48, 0x43, 3, 0] ++ List.replicate 38 0 ++ toBytes 48 (Config.sha384 []).toNat ++ List.replicate 164 0 ++ [1] ++ List.replicate 255 0
def svSlotted : State := on (fun m => { m with nvm := { m.nvm with slots := [(6, svImage)] } }) State.reset

/-- Its signature verifies: the keys and the curve are free constants of Config. -/
def SvSigned : Prop := Config.ecdsaVerifies (Config.publicKey 0) (svImage.take 256) (sliceBytes svImage 264 96) = true

theorem sv_good {m : Mod} (h : SvSigned) (hs : m.slot 3 0 = some svImage) (hk : m.keyRevoked 0 = false) : m.slotReason [] 3 0 = 0 := by
  have h1 : compFormed 3 svImage = true := by decide +kernel
  have h2 : sigEntries svImage 256 = some [(0, sliceBytes svImage 264 96)] := rfl
  have h3 : carryCheck (compBody svImage) = fieldAt svImage 36 8 := by decide +kernel
  have h4 : compBody svImage = [] := rfl
  have h5 : compDigest svImage = toBytes 48 (Config.sha384 []).toNat := rfl
  have h6 : ∀ b, m.sigFault svImage b = 0 := by
    intro b
    have h' : Config.ecdsaVerifies (Config.publicKey 0) (svImage.take 256) (sliceBytes svImage 264 96) = true := h
    simp [Mod.sigFault, h2, hk, h']
  have h7 : m.compGood 3 svImage = true := by
    rw [h4] at h3
    simp [Mod.compGood, h1, h6, h4, h5, h3]
  simp [Mod.slotReason, hs, h1, h6, h7]

/-- With a good slot 0, the supervisor restarts from slot 0. -/
theorem met_SupervisorSlot (h : SvSigned) : svSlotted.m.slotReason [] 3 0 = 0 ∧ svSlotted.m.boot.domOut.contains 13 = false ∧
    svSlotted.m.supervisorLost.svSlot false = some 0 ∧ svSlotted.m.svSlot true = some 0 ∧
    (svAbsent svSlotted).m.slotReason [] 3 0 = 0 := by
  have hs : ∀ m : Mod, m.slot 3 0 = some svImage → m.keyRevoked 0 = false → m.slotReason [] 3 0 = 0 := fun m => sv_good h
  have h0 := hs svSlotted.m rfl (by decide +kernel)
  have h1 : svSlotted.m.slotReason [] 3 1 = 1 := rfl
  have h2 := hs svSlotted.m.supervisorLost rfl (by decide +kernel)
  have f2 : svSlotted.m.supervisorLost.svFirst false = 0 := by decide +kernel
  have f1 : svSlotted.m.svFirst true = 1 := by decide +kernel
  refine ⟨h0, by decide +kernel, ?_, ?_, hs _ rfl (by decide +kernel)⟩
  · rw [Mod.svSlot, f2, if_pos h2]
  · rw [Mod.svSlot, f1, if_neg (by rw [h1]; decide), if_pos h0]

theorem met_StartsAndTheSupervisor :
    (State.reset.m.pwr.down ≠ .rails ∧ (downFor .rails).m.pwr.down = .rails ∧ 3799 < 3800 ∧ 6200 < 6201 ∧ (downFor .trip).m.pwr.down = .trip ∧
      (downFor .trip).m.dieUp = false ∧ State.reset.m.pwr.down ≠ .trip ∧ State.reset.m.dieUp = true) ∧
    ((State.reset.m.pwr.fatals.filter fun t => decide (State.reset.m.absNow < t + 86400 * oneSecond)).length < 2 ∧
      2 ≤ ((powered (fun q => { q with fatals := [0, 0] }) State.reset).m.pwr.fatals.filter fun t =>
        decide (State.reset.m.absNow < t + 86400 * oneSecond)).length) ∧
    (451 : Int) > 450 ∧ (450 : Int) ≤ 450 ∧ State.reset.m.compAbsent 3 = false ∧
    ((svAbsent State.reset).m.compAbsent 3 = true ∧ (svAbsent State.reset).m.boot.nvmReadAt + 60 * oneSecond ≤ (svAbsent State.reset).m.absNow ∧
      (svAbsent State.reset).m.slotReason [] 3 0 ≠ 0 ∧ (svAbsent State.reset).m.slotReason [] 3 1 ≠ 0) ∧
    (∀ h ∈ [0, 1], (fld GLB_STATUS_HEADLESS 0 h State.reset).m.flag GLB_STATUS_HEADLESS = decide (h = 1)) ∧
    ((booted (fun b => { b with domOut := [13] }) State.reset).m.boot.domOut.contains 13 = true ∧ State.reset.m.supervisorLost.svSlot false = none ∧
      State.reset.m.boot.absentAt = none ∧ State.reset.m.svSlot true = none) ∧
    (∃ s : State, s = booted (fun b => { b with absentAt := some 0 }) (svAbsent State.reset) ∧ s.m.boot.absentAt = some 0 ∧ s.m.boot.watchdogUsed = false ∧
      s.m.boot.domOut.contains 13 = false ∧ s.m.aonOut = false ∧ 0 + 5 * oneSecond ≤ s.m.absNow ∧ s.m.flag GLB_STATUS_DEGRADED = false ∧
      0 + 600 * oneSecond ≤ (on (fun m => { m with time := { m.time with cycles := 600 * oneSecond } }) s).m.absNow) := by
  and_intros
  all_goals first
    | decide +kernel
    | exact ⟨_, rfl, by decide +kernel⟩

/-- Domain d is out. -/
def without (d : Nat) : State := booted (fun b => { b with domOut := [d] }) State.reset

theorem met_LossAndHeat :
    (State.reset.m.pcUp = true ∧ State.reset.m.dieUp = true ∧ State.reset.m.aonOut = false ∧ State.reset.m.deviceOk 0 = true ∧ State.reset.m.nvm.gaspA = none) ∧
    ((without 21).m.aonOut = true ∧ (1179 : Int) < 1180 ∧ (649 : Int) < 650 ∧ (1180 : Int) ≤ 1180 ∧ (650 : Int) ≤ 650) ∧
    (∀ d ∈ [0, 14, 17], (without d).m.boot.domOut.contains d = true) ∧
    (∀ d ∈ [1, 8, 9, 12, 13, 18, 19, 23, 24], State.reset.m.boot.domOut.contains d = false ∧ d ≠ 0 ∧ ¬ (14 ≤ d ∧ d ≤ 17) ∧
      (without d).m.boot.domOut.contains d = true) ∧ (14 ≤ 14 ∧ 17 ≤ 17) ∧ (State.reset.m.cl 3).lost = false ∧
    (∀ r ∈ [0, 1], (fld PRT_TILE_CTL_STATE_REQ 7 r (without 8)).m.get PRT_TILE_CTL_STATE_REQ (8 - 1) = r ∧
      (fld PRT_TILE_CTL_STATE_REQ 7 r (without 8)).m.boot.domOut.contains 8 = true) ∧
    (State.reset.m.nvmLost 1 = false ∧ (on (fun m => { m with int := { m.int with nvmLost := [1] } }) State.reset).m.nvmLost 1 = true) := by decide +kernel

/-! ### Updates -/

/-- An update in STATE n at component c, unit u; the bundle takes len octets. -/
def updates (n c u len : Nat) : State :=
  State.reset |> fld UPD_STATUS_STATE 0 n |> fld UPD_STATUS_COMP 0 c |> fld UPD_STATUS_UNIT 0 u |> fld UPD_CTL_LEN 0 len |>
    on fun m => { m with upd := { m.upd with walked := true } }

/-- A bundle of one component, of code 0, without a body. -/
def bundleOctets : List (Nat × Byte) :=
  [(0, 0x54), (1, 0x57), (2, 0x48), (3, 0x42), (5, 1), (7, 1), (10, 18), (30, 16), (256, 1), (4096, 0x54), (4097, 0x57), (4098, 0x48), (4099, 0x43)]

def bundled : State :=
  updates 4 0 0 4608 |> on fun m => { m with drm := { m.drm with mem := bundleOctets.map fun e => (bundleArea + e.1, e.2) } }

/-- The module as UPD_CTL's write finds it, and the word that names operation op. -/
def updMod (s : State) : Mod := s.m.set UPD_CTL_LEN 0 (UPD_CTL_LEN.of (s.m.rdStaged .UPD_CTL 0))
def updGrant (s : State) (op : Nat) : Bool := grantedB s .pf .UPD_CTL 0 0 (s.revised UPD_CTL_OP 0 op)

/-- Which components would run. -/
def runs (s : State) : List Nat := (((bundleComps (updMod s).bundle).getD []).filter fun c => !((updMod s).compSkipped c)).map (·.1)

/-- The order of components of an update, and a CANCEL. -/
def ordered (l : List Nat) (cancel : Bool) (s : State) : State := on (fun m => { m with upd := { m.upd with order := l, cancel := cancel } }) s

/-- NVM_WP_N is low; a deadline that has passed; microcode that faulted; a tick-job entry whose job has not run. -/
def unprotected (n : Nat) : State := on (fun m => { m with pin := { m.pin with nvmWpN := false } }) (updates n 0 0 0)
def lapsed (s : State) : State := on (fun m => { m with upd := { m.upd with deadline := some 0 } }) s
def faulted (s : State) : State := on (fun m => { m with upd := { m.upd with jobFault := true } }) s
def unserved (s : State) : State := fld ENG_TICKJOB0_VALID 5 1 s

theorem met_UpdatesRunInSteps :
    ((∀ op ∈ [1, 2, 6], updGrant (updates 8 0 0 0) op = true) ∧ (updMod (updates 8 0 0 0)).updBusy = true) ∧
    (updGrant (fld GLB_STATUS_HEADLESS 0 1 State.reset) 1 = true ∧ (updMod (fld GLB_STATUS_HEADLESS 0 1 State.reset)).updBusy = false) ∧
    ((∀ op ∈ [1, 2, 3, 4, 5, 6], updGrant State.reset op = true) ∧ (updMod State.reset).updBusy = false ∧ State.reset.m.flag GLB_STATUS_HEADLESS = false ∧
      (updMod State.reset).updState ≠ 4 ∧ (updMod State.reset).updState ≠ 7 ∧ (updMod State.reset).updState ≠ 6 ∧
      (updMod State.reset).updState ≠ 5) ∧ ((updMod (unserved (updates 7 2 0 0))).criteria 2 = false ∧ (updMod (unserved (updates 7 2 0 0))).updComp = 2) ∧
    (updGrant (updates 4 0 0 0) 2 = true ∧ (updMod (updates 4 0 0 0)).updState = 4 ∧ runs (updates 4 0 0 0) = [] ∧ updGrant bundled 2 = true ∧
      (updMod bundled).updState = 4 ∧ runs bundled = [0]) ∧
    (∀ l ∈ [[3], [3, 4]], ∀ c ∈ [false, true], updGrant (ordered l c (updates 7 3 0 0)) 3 = true ∧ (updMod (ordered l c (updates 7 3 0 0))).updState = 7 ∧
      (updMod (ordered l c (updates 7 3 0 0))).updComp = 3 ∧ (updMod (ordered l c (updates 7 3 0 0))).criteria 3 = true ∧
      (ordered l c (updates 7 3 0 0)).m.flag GLB_STATUS_HEADLESS = false ∧ (ordered l c (updates 7 3 0 0)).m.deviceOk 0 = true) ∧
    (updGrant (updates 5 0 0 0) 4 = true ∧ (updMod (updates 5 0 0 0)).updState = 5) ∧
    (∀ x ∈ [(6, 0), (7, 0), (6, 4), (7, 4)], updGrant (updates x.1 x.2 0 0) 4 = true ∧ (updMod (updates x.1 x.2 0 0)).updState = x.1 ∧
      (updMod (updates x.1 x.2 0 0)).updComp = x.2) ∧
    grantedB State.reset .sup .UPD_REVOKE 0 0 (UPD_REVOKE_STAGE.put 0 15) = true ∧ State.reset.m.keyRevoked 3 = false ∧
    (∀ n ∈ [0, 4], (updates 5 n 0 0).m.updState = 5 ∧ (updates 5 n 0 0).m.updComp = n ∧ (updates 5 n 0 0).m.flag GLB_STATUS_HEADLESS = false ∧
      (updates 5 n 0 0).m.deviceOk (1 - (updates 5 n 0 0).m.upd.prevSlot) = true ∧ n < (updates 5 n 0 0).m.bootRec.states.length) ∧
    ((unprotected 5).m.updState = 5 ∧ (unprotected 5).m.flag GLB_STATUS_HEADLESS = false ∧ (unprotected 5).m.pin.nvmWpN = false) ∧
    (∃ t, (lapsed (updates 7 3 0 0)).m.upd.deadline = some t ∧
      t < (lapsed (updates 7 3 0 0)).m.upd.exchangedAt + (lapsed (updates 7 3 0 0)).m.get UPD_CFG_SETTLE_S * oneSecond) ∧
    (∃ s : State, s = fld UPD_CFG_SETTLE_S 0 0 (updates 7 3 0 0) ∧ s.m.updState = 7 ∧ s.m.updComp < 5 ∧ s.m.criteria s.m.updComp = true ∧
      s.m.flag GLB_STATUS_HEADLESS = false ∧ s.m.upd.exchangedAt + s.m.get UPD_CFG_SETTLE_S * oneSecond ≤ s.m.absNow) ∧
    (∀ x ∈ [(0, 0), (3, 0), (3, 1)], ∀ s ∈ [fld GLB_STATUS_HEADLESS 0 x.2 (lapsed (updates 7 x.1 0 0))], s.m.upd.deadline = some 0 ∧
      s.m.updState = 7 ∧ s.m.updComp = x.1 ∧ (s.m.flag GLB_STATUS_HEADLESS = decide (x.2 = 1)) ∧ 0 ≤ s.m.absNow) ∧
    (∀ x ∈ [(6, 1, 6), (8, 1, 6), (6, 1, 7), (8, 1, 7), (6, 2, 3), (8, 2, 2)], (updates x.1 x.2.1 x.2.2 0).m.updState = x.1 ∧ (updates x.1 x.2.1 x.2.2 0).m.updComp = x.2.1 ∧
      (updates x.1 x.2.1 x.2.2 0).m.get UPD_STATUS_UNIT = x.2.2 ∧
      (updates x.1 x.2.1 x.2.2 0).m.upd.portsUp.all (updates x.1 x.2.1 x.2.2 0).m.portUp = true ∧ (updates x.1 x.2.1 x.2.2 0).m.upd.jobFault = false ∧
      (∀ c, c < 4 → (updates x.1 x.2.1 x.2.2 0).m.get ENG_CLUSTER_STATUS_STATE c = 0 ∧ ((updates x.1 x.2.1 x.2.2 0).m.cl c).quiesce = none)) ∧
    ((updates 6 2 3 0).m.criteria 2 = true ∧ (faulted (updates 6 2 3 0)).m.upd.jobFault = true ∧ (unserved (updates 6 2 3 0)).m.upd.jobFault = false ∧
      (unserved (updates 6 2 3 0)).m.criteria 2 = false) ∧
    (∃ s : State, s = fld UPD_CFG_EM_GAP_S 0 0 (updates 6 2 2 0) ∧ s.m.upd.jobFault = false ∧ s.m.criteria 2 = true ∧ s.m.updState = 6 ∧ s.m.updComp = 2 ∧ s.m.get UPD_STATUS_UNIT = 2 ∧
      s.m.upd.unitAt + s.m.get UPD_CFG_EM_GAP_S * oneSecond ≤ s.m.absNow ∧ ∀ c, c < 4 → s.m.get ENG_CLUSTER_STATUS_STATE c = 0 ∧ (s.m.cl c).quiesce = none) ∧
    (∃ s : State, s = on (fun m => { m with time := { m.time with cycles := 600 * oneSecond } }) (fld ENG_CLUSTER_STATUS_STATE 3 1 (updates 6 2 0 0)) ∧
      s.m.updState = 6 ∧ s.m.updComp = 2 ∧ s.m.get ENG_CLUSTER_STATUS_STATE 3 ≠ 0 ∧ s.m.upd.unitAt + s.m.upd.confirmS * oneSecond ≤ s.m.absNow) ∧
    ((updates 5 0 0 0).m.dieUp = true ∧ (updates 5 0 0 0).m.pin.nvmWpN = true ∧ State.reset.m.updState ≠ 5 ∧ dark.m.dieUp = false) ∧
    (fld INT_SCRUB_CFG_NVM_WALK_H 0 0 State.reset).m.get INT_SCRUB_CFG_NVM_WALK_H = 0 ∧
    (∃ s : State, s = on (fun m => { m with time := { m.time with cycles := 3600 * oneSecond } }) (fld INT_SCRUB_CFG_NVM_WALK_H 0 1 State.reset) ∧
      s.m.flag GLB_STATUS_HEADLESS = false ∧ s.m.get INT_SCRUB_CFG_NVM_WALK_H ≠ 0 ∧
      s.m.int.nvmWalkAt + s.m.get INT_SCRUB_CFG_NVM_WALK_H * 3600 * oneSecond ≤ s.m.now) := by
  and_intros
  all_goals first
    | decide +kernel
    | exact ⟨_, rfl, by decide +kernel⟩

/-! ### Repair, power, pins -/

/-- A find in a memory; a state whose repair unit is changed; a state at a TIME cycle. -/
def find (m : Fin 18) (k : FindKind) : ScrubFind := ⟨m, k, 51, 25, 0⟩
def repaired (f : IntSt → IntSt) (s : State) : State := on (fun m => { m with int := f m.int }) s
def atCycle (t : Nat) (s : State) : State := on (fun m => { m with time := { m.time with cycles := t } }) s

/-- Unit loc of class cls waits for a graft; a graft of it runs; its spares are used; 16 units wait. -/
def wanting (cls loc : Nat) : State := repaired (fun q => { q with queue := [(cls, loc)] }) State.reset
def grafting (cls loc : Nat) : State := repaired (fun q => { q with graft := some ⟨cls, loc, 0⟩ }) State.reset
def spent (s : State) : State := repaired (fun q => { q with used := (List.range 4).map fun k => (spareKey 1 (spareGroup 1 51) k, 0) }) s
def queueFull : State := repaired (fun q => { q with queue := List.replicate 16 (4, 1) }) State.reset

def grfOpen (s : State) (op cls loc : Nat) : Bool := openedB s .pf .GRF_CMD 0 0 .grf (grfWord op cls loc)

theorem met_ScrubbingRepairAndAgeing :
    (State.reset.m.dieUp = true ∧ 1 ≤ (fld GLB_TICK_CFG_SHED_LEVEL 0 1 State.reset).m.get GLB_TICK_CFG_SHED_LEVEL ∧
      State.reset.m.get GLB_TICK_CFG_SHED_LEVEL = 0 ∧ passSlices 0 (State.reset.m.get INT_SCRUB_CFG_SDRAM_SLICE_KIB) ≠ 0 ∧ 0 ∈ scrubbed) ∧
    (∃ s : State, s = fld INT_SCRUB_CFG_EN 0 (2 ^ 18 - 1) State.reset ∧ s.m.get GLB_TICK_CFG_SHED_LEVEL = 0 ∧
      (∀ k ∈ [0, 13, 4, 9], (s.m.get INT_SCRUB_CFG_EN).testBit k = true ∧ k ∈ scrubbed) ∧ s.m.unitOf (find 0 .corrected) = some (1, 51) ∧
      s.m.graftQueued 1 51 = false ∧ s.m.unitGone 1 51 = false ∧ s.m.aonOut = false ∧ s.m.int.scrubAt ≠ some s.m.commits ∧ s.m.int.graft = none ∧
      s.m.tick.stepTick = false) ∧
    ((repaired (fun q => { q with scrubAt := some 0 }) State.reset).m.int.scrubAt = some (repaired (fun q => { q with scrubAt := some 0 }) State.reset).m.commits ∧
      (grafting 3 25).m.int.graft = some ⟨3, 25, 0⟩ ∧ (grafting 3 25).m.unitOf (find 4 .lost) ≠ some (3, 25)) ∧
    (State.reset.m.aonOut = false ∧ State.reset.m.commits < lookupD State.reset.m.int.decayAt 5 0 + Nat.max 1 (State.reset.m.get INT_BUCKET_CFG_DECAY_TICKS 5) ∧
      (without 21).m.aonOut = true ∧ (let s := on (·.wr .GLB_COMMIT_SEQ 0 1) (fld INT_BUCKET_CFG_DECAY_TICKS 5 0 State.reset); s.m.aonOut = false ∧
        lookupD s.m.int.decayAt 5 0 + Nat.max 1 (s.m.get INT_BUCKET_CFG_DECAY_TICKS 5) ≤ s.m.commits)) ∧
    ((grafting 1 51).m.int.graft.isSome = true ∧ (grafting 1 51).m.flag GLB_STATUS_HEADLESS = false ∧ State.reset.m.int.queue = [] ∧
      State.reset.m.int.graft = none) ∧
    (∀ x ∈ [(1, 51), (2, 208), (3, 25), (6, 2 ^ 26 - 1)], (wanting x.1 x.2).m.int.graft = none ∧ (wanting x.1 x.2).m.flag GLB_STATUS_HEADLESS = false ∧
      (wanting x.1 x.2).m.int.queue = [x] ∧ ((wanting x.1 x.2).m.graftWaits x.1 x.2 = false) ∧ (x.1 ≠ 6 → (wanting x.1 x.2).m.spareFor x.1 x.2 = some 0)) ∧
    (fld ENG_CLUSTER_STATUS_STATE 3 1 (wanting 2 208)).m.graftWaits 2 208 = true ∧ (spent (wanting 1 51)).m.spareFor 1 51 = none ∧
    (∀ c ∈ [1, 3, 4, 5], (grafting c 0).m.int.graft = some ⟨c, 0, 0⟩ ∧ (grafting c 0).m.deviceOk 0 = true ∧
      (grafting c 0).m.int.recA.length < 4029 ∧ (grafting c 0).m.int.recB.length < 4029) ∧
    (∀ c ∈ [0, 6], (grafting c 0).m.int.graft = some ⟨c, 0, 0⟩) ∧
    (let s := on (fun m => { m with buf := { m.buf with frames := [(7, { octets := good, source := 0, hedge := 0, sender := 0 })] } }) (grafting 1 51);
      (s.m.frame 7).isSome = true) ∧
    (∀ x ∈ [(1, 52), (6, 2 ^ 26), (0, 128)], grfOpen State.reset 1 x.1 x.2 = true ∧ unitValid x.1 x.2 = false) ∧
    (∀ x ∈ [(0, 127), (1, 51), (6, 2 ^ 26 - 1)], grfOpen State.reset 1 x.1 x.2 = true ∧ unitValid x.1 x.2 = true ∧
      State.reset.m.unitGone x.1 x.2 = false ∧ State.reset.m.graftQueued x.1 x.2 = false ∧ State.reset.m.int.queue.length < 16) ∧
    (∃ s : State, s = fld PRT_LANE_STATUS_RETIRED 127 1 State.reset ∧ grfOpen s 1 0 127 = true ∧ unitValid 0 127 = true ∧ s.m.unitGone 0 127 = true) ∧
    (grfOpen (wanting 1 51) 1 1 51 = true ∧ (wanting 1 51).m.graftQueued 1 51 = true) ∧
    (grfOpen queueFull 1 1 51 = true ∧ queueFull.m.graftQueued 1 51 = false ∧ 16 ≤ queueFull.m.int.queue.length) ∧
    (grfOpen (spent State.reset) 1 1 51 = true ∧ (spent State.reset).m.spareFor 1 51 = none) ∧
    (grfOpen State.reset 2 0 128 = true ∧ unitValid 0 128 = false ∧ grfOpen State.reset 2 0 127 = true ∧
      State.reset.m.flag PRT_LANE_STATUS_RETIRED 127 = false ∧ grfOpen (fld PRT_LANE_STATUS_RETIRED 127 1 State.reset) 2 0 127 = true ∧
      (fld PRT_LANE_STATUS_RETIRED 127 1 State.reset).m.flag PRT_LANE_STATUS_RETIRED 127 = true) ∧ grfOpen State.reset 3 0 0 = true ∧
    (∃ s : State, s = atCycle (3600 * oneSecond) (fld GRF_CFG_SPARE_TEST_H 0 1 State.reset) ∧ s.m.dieUp = true ∧
      s.m.int.spareTestAt + 3600 * oneSecond * s.m.get GRF_CFG_SPARE_TEST_H ≤ s.m.now) ∧
    (∀ n ∈ [0, 9, 10], ∀ s ∈ [repaired (fun q => { q with ample := [(24, 0)] }) (atCycle (86400 * oneSecond)
        (fld AGE_MON_AVS_STEPS 24 n (fld AGE_CFG_AVS_EN 0 1 State.reset)))], s.m.get AGE_MON_AVS_STEPS 24 = n ∧ s.m.flag AGE_CFG_AVS_EN = true ∧
        lookup s.m.int.avsAt 24 = none ∧ lookup s.m.int.ample 24 = some 0 ∧ 0 + 86400 * oneSecond ≤ s.m.now) ∧
    (fld AGE_CFG_AVS_EN 0 0 State.reset).m.flag AGE_CFG_AVS_EN = false ∧ (39 : Int) < 40 ∧ (80 : Int) < 81 ∧
    (∃ s : State, s = atCycle (86400 * oneSecond) State.reset ∧ s.m.dieUp = true ∧ s.m.int.forecastAt + 86400 * oneSecond ≤ s.m.now ∧
      s.m.int.lifeAt + oneSecond ≤ s.m.now ∧ s.m.int.lifeRecAt + 6 * 3600 * oneSecond ≤ s.m.now ∧ s.m.deviceOk 0 = true ∧ s.m.int.recA.length < 4029 ∧ s.m.int.month = State.reset.m.int.month) := by
  and_intros
  all_goals first
    | decide +kernel
    | exact ⟨_, rfl, by decide +kernel⟩
/-- Feed 1 is in state n with the module's feed 0 active; its path, or the window after a transfer, as a test needs. -/
def fed (n : Nat) : State := fld PWR_FEED_STATE 1 n State.reset
def bothGood : State := fld PWR_STATUS_ACTIVE 0 0 (fld PWR_FEED_STATE 0 3 (fed 3))
def settling (s : State) : State := powered (fun q => { q with holdEnd := some 0 }) s
def restarting (s : State) : State := powered (fun q => { q with restartEnd := some 1 }) s

theorem met_FeedsTransfersAndTests :
    (∀ x ∈ [(1, 0, 1999), (0, 1, 2000), (3, 1, 3599), (1, 2, 3800), (1, 2, 6200), (2, 3, 3800), (2, 3, 6200), (3, 4, 6301)], (fed x.1).m.pcUp = true ∧
      (fed x.1).m.feedSt 1 = x.1 ∧ x.2.1 ≠ x.1 ∧ feedMove x.1 x.2.1 x.2.2 = true ∧ x.2.2 < 65536) ∧
    ((fed 1).m.feedSt 1 = 1 ∧ feedMove 1 3 3800 = false ∧ feedMove 1 2 3799 = false ∧ feedMove 1 0 2000 = false ∧ feedMove 3 1 3600 = false) ∧
    (0 + qualifyTime ≤ (powered (fun q => { q with base := qualifyTime }) (fed 2)).m.absNow) ∧
    (bothGood.m.pcUp = true ∧ bothGood.m.activeFeed = 0 ∧ bothGood.m.feedSt 0 ≠ 4 ∧ bothGood.m.feedGood bothGood.m.standbyFeed = true ∧
      (fld PWR_FEED_STATE 1 2 bothGood).m.feedGood (fld PWR_FEED_STATE 1 2 bothGood).m.standbyFeed = false ∧
      (fld PWR_FEED_STATE 0 4 bothGood).m.feedSt (fld PWR_FEED_STATE 0 4 bothGood).m.activeFeed = 4 ∧
      (fld PWR_FEED_STATE 0 4 bothGood).m.feedGood (fld PWR_FEED_STATE 0 4 bothGood).m.standbyFeed = true) ∧
    (grantedB bothGood .pf .PWR_CMD 0 0 (PWR_CMD_OP.put 0 1) = true ∧ bothGood.m.transferBar = 0 ∧
      (∀ s ∈ [settling bothGood, restarting bothGood, fld PWR_FEED_STATE 1 2 bothGood], grantedB s .pf .PWR_CMD 0 0 (PWR_CMD_OP.put 0 1) = true ∧
        s.m.transferBar ≠ 0)) ∧
    (∀ f ∈ [0, 1], ∀ s ∈ [powered (fun q => { q with base := oneSecond, policy := PWR_POLICY_PREFER.put (PWR_POLICY_WTR_S.put 0 1) f })
        (fld PWR_STATUS_ACTIVE 0 (1 - f) bothGood)], s.m.policyGet PWR_POLICY_PREFER = f ∧ s.m.policyGet PWR_POLICY_WTR_S = 1 ∧ f ≠ s.m.activeFeed ∧
        s.m.feedGood f = true ∧ Nat.max (if f = 0 then s.m.pwr.goodA else s.m.pwr.goodB) s.m.pwr.activeAt + 1 * oneSecond ≤ s.m.absNow ∧
        s.m.transferBar = 0 ∧ (settling s).m.transferBar ≠ 0) ∧
    ((powered (fun q => { q with policy := PWR_POLICY_PREFER.put 0 2 }) bothGood).m.policyGet PWR_POLICY_PREFER = 2) ∧
    (bothGood.m.pwr.holdEnd = none ∧ (settling bothGood).m.pwr.holdEnd = some 0 ∧ 0 ≤ (settling bothGood).m.absNow) ∧
    ((updates 7 0 0 0).m.updState = 7 ∧ (updates 7 0 0 0).m.updComp = 0 ∧ (updates 7 1 0 0).m.updComp ≠ 0 ∧ bothGood.m.updState ≠ 7) ∧
    ((restarting bothGood).m.pcRestarting = true ∧ (without 22).m.pwrcOut = true ∧ bothGood.m.pcRestarting = false ∧ bothGood.m.pwrcOut = false ∧
      (∃ s : State, s = fld PWR_TEST_CFG_PERIOD_S 0 0 bothGood ∧ s.m.pwr.testAt + s.m.get PWR_TEST_CFG_PERIOD_S * oneSecond ≤ s.m.absNow ∧
        s.m.pcHold = false ∧ s.m.feedGood 0 = true ∧ s.m.feedGood 1 = true ∧ (settling s).m.pcHold = true)) ∧
    (∀ s ∈ [bothGood, settling bothGood, fld PWR_FEED_STATE 1 2 bothGood], grantedB s .pf .PWR_CMD 0 0 (PWR_CMD_OP.put 0 2) = true) ∧
    (State.reset.m.pwr.holdupAt = none ∧ State.reset.m.pwrcOut = false ∧ 2999 < 3000 ∧ State.reset.m.pwr.holdLow = false ∧
      0 + 86400 * oneSecond ≤ (powered (fun q => { q with base := 86400 * oneSecond, holdupAt := some 0 }) State.reset).m.absNow) := by
  and_intros
  all_goals first
    | decide +kernel
    | exact ⟨_, rfl, by decide +kernel⟩

/-- PMBus PAGE n. -/
def paged (n : Nat) : State := powered (fun q => { q with page := n }) bothGood

theorem met_PmbusCommandsAnswer :
    (∀ n ∈ [0, 1, 2], (paged n).m.pcUp = true ∧ (paged n).m.pmbusUp = true ∧ (paged n).m.pwr.page = n) ∧ (paged 2).m.pwr.page ∉ [0, 1] ∧
    (paged 1).m.pwr.page ∉ [2] ∧ ((restarting bothGood).m.pcUp = true ∧ (restarting bothGood).m.pmbusUp = false ∧ (without 22).m.pmbusUp = false) ∧
    ((2#8).toNat ≤ 2 ∧ 2 < (3#8).toNat ∧ 1 < (2#8).toNat ∧ (1#8).toNat ≤ 1 ∧ (0#8).toNat = bothGood.m.activeFeed ∧ (1#8).toNat ≠ bothGood.m.activeFeed) ∧
    ((powered (fun q => { q with policy := 8 }) bothGood).m.pwr.policy.getLsbD 3 = true ∧
      (powered (fun q => { q with policy := 8 }) bothGood).m.transferBar = 0 ∧
      (powered (fun q => { q with policy := 7 }) bothGood).m.pwr.policy.getLsbD 3 = false) ∧
    (settling bothGood).m.pmbusUp = true ∧ (settling bothGood).m.pcHold = true ∧ bothGood.m.pcHold = false := by decide +kernel

/-- TRIG_IN 3 selects edges e and holds n records; the last event of key k was raised at 0. -/
def capturing (e n : Nat) : State :=
  fld TRG_IN_CFG_EDGE 3 e State.reset |> on fun m => { m with pin := { m.pin with
    trig := [(3, (List.range n).map fun k => ⟨k, 0, true, true⟩)], index := [(3, n)] } }

/-- Captures, from the last edge of the pin. -/
theorem captures_of {s : State} {rising : Bool}
    (h : (s.m.get TRG_IN_CFG_EDGE 3 = 3 ∨ (s.m.get TRG_IN_CFG_EDGE 3 = 1 ∧ rising = true) ∨ (s.m.get TRG_IN_CFG_EDGE 3 = 2 ∧ rising = false)) ∧
      lookup s.m.pin.lastEdge 3 = none) : s.m.Captures 3 rising :=
  ⟨h.1, fun t ht => absurd (h.2.symm.trans ht) (by simp)⟩

theorem met_FullTriggerFifoDropsTheEdge :
    State.reset.m.dieUp = true ∧ ((capturing 3 16).m.Captures 3 false ∧ 16 ≤ ((capturing 3 16).m.trigFifo 3).length) ∧
    ((capturing 1 15).m.Captures 3 true ∧ ((capturing 1 15).m.trigFifo 3).length < 16) ∧
    (∃ s : State, s = on (fun m => { m with evt := { m.evt with lastRaised := [(0x40C0003, 0)] } }) (capturing 3 16) ∧
      lookup s.m.evt.lastRaised 0x40C0003 = some 0 ∧ s.m.now < 0 + oneSecond ∧ 0 + oneSecond ≤ (atCycle oneSecond s).m.now) :=
  ⟨by decide +kernel, ⟨captures_of (by decide +kernel), by decide +kernel⟩, ⟨captures_of (by decide +kernel), by decide +kernel⟩,
    ⟨_, rfl, by decide +kernel⟩⟩

/-- TRG_OUT_CFG with FUNC f, of port p. -/
def outWord (f p : Nat) : Word := TRG_OUT_CFG_FUNC.put (TRG_OUT_CFG_PORT.put (TRG_OUT_CFG_PULSE.put (TRG_OUT_CFG_DIV.put 0 1) 1) p) f
def output (f : Nat) (s : State := State.reset) : State := fld TRG_OUT_CFG_FUNC 3 f s

theorem met_TriggersAreCapturedPoppedAndDriven :
    (¬ (capturing 1 15).m.Captures 3 false ∧ (capturing 2 15).m.Captures 3 false ∧ ((capturing 2 15).m.trigFifo 3).length < 16 ∧
      (fld TRG_IN_CFG_EVT_EN 3 1 (capturing 2 15)).m.flag TRG_IN_CFG_EVT_EN 3 = true) ∧
    ((∀ i ∈ [0, 65535], grantedB (capturing 1 1) .pf .TRG_IN_POP 3 3 (TRG_IN_POP_INDEX.put 0 i) = true) ∧
      (((capturing 1 1).m.trigFifo 3).map (·.index) = [0]) ∧ (65535 : Nat) ≠ 0 ∧ grantedB State.reset .pf .TRG_IN_POP 3 3 (TRG_IN_POP_INDEX.put 0 0) = true ∧
      State.reset.m.trigFifo 3 = []) ∧
    ((∀ f ∈ [0, 2], grantedB (output 2) .pf .TRG_OUT_CFG 3 3 (outWord f 127) = true) ∧ grantedB (output 1) .pf .TRG_OUT_CFG 3 3 (outWord 3 127) = true ∧
      (output 1).m.get TRG_OUT_CFG_FUNC 3 = 1 ∧ grantedB (output 0) .pf .TRG_OUT_CFG 3 3 (outWord 3 127) = true ∧ (output 0).m.portType 127 = 0 ∧
      (let s := output 0 (fld PRT_PORT_CFG_TYPE 127 1 State.reset); grantedB s .pf .TRG_OUT_CFG 3 3 (outWord 3 127) = true ∧ s.m.portType 127 ≠ 0) ∧
      TRG_OUT_CFG_FUNC.of ((wholeWrite .pf .TRG_OUT_CFG 3 (outWord 3 127)).onto ((output 0).m.rd .TRG_OUT_CFG 3)) = 3 ∧
      TRG_OUT_CFG_PORT.of ((wholeWrite .pf .TRG_OUT_CFG 3 (outWord 3 127)).onto ((output 0).m.rd .TRG_OUT_CFG 3)) = 127) ∧
    (∀ b ∈ [false, true], grantedB (output 4) .pf .TRG_OUT_LEVEL 3 3 (TRG_OUT_LEVEL_LEVEL.put 0 (if b then 1 else 0)) = true ∧
      (output 4).m.get TRG_OUT_CFG_FUNC 3 = 4 ∧ (output 1).m.get TRG_OUT_CFG_FUNC 3 ≠ 4 ∧
      grantedB (output 1) .pf .TRG_OUT_LEVEL 3 3 (TRG_OUT_LEVEL_LEVEL.put 0 (if b then 1 else 0)) = true) := by
  refine ⟨⟨?_, captures_of (by decide +kernel), by decide +kernel, by decide +kernel⟩, by decide +kernel, by decide +kernel, by decide +kernel⟩
  intro h
  have : (capturing 1 15).m.get TRG_IN_CFG_EDGE 3 = 1 := by decide +kernel
  obtain ⟨h | ⟨-, h⟩ | ⟨h, -⟩, -⟩ := h <;> simp_all

/-- A step from a state whose GLB_FUSE_SHADOW is locked. -/
theorem met_FuseShadowStaysLockedFromReset : ∃ t, step { State.reset with pending := [.lock .pf 31] } = .next t ∧
    State.reset.locks.getLsbD 1 = true := ⟨_, rfl, rfl⟩

/-! ### One step of a few commands, on values worked out by hand from the rules -/

/-- A value that a step of one command leaves. -/
def after (s : State) (c : Instr) (f : State → Nat) : Option Nat :=
  match step { s with pending := [c] } with
  | .next t => some (f t)
  | _ => none

/-- R363: bits are only set. -/
theorem test_lock : after { State.reset with locks := 2#5 } (.lock .pf 5) (·.locks.toNat) = some 7 := by decide +kernel

/-- R361, R362: only the key of a group arms it. -/
theorem test_unlock : after State.reset (.unlock .pf 3 0x5EED) (fun t => b01 (t.m.isArmed .pf 3)) = some 1 ∧
    after State.reset (.unlock .pf 3 0x5EEE) (fun t => b01 (t.m.isArmed .pf 3)) = some 0 := by decide +kernel

/-- R8: a clear with the current SEQ clears the bits written as 1. -/
theorem test_sequenceClear :
    after (fld ⟨.GLB_EVENT, 1, 3⟩ 0 7 State.reset) (.sequenceClear .pf (Reg.GLB_EVENT.addr 0) 4) (·.m.get ⟨.GLB_EVENT, 1, 3⟩) = some 5 := by
  decide +kernel

/-- What the ALU row of code k on W0 and IMM, which is 7, will write, and to which register; the microword's ALU A part is still to come. -/
def aluRes (k w0 : Nat) : Option (Option (Nat × Nat)) :=
  let x := alu .b 0 49 0 false
  let s := threaded { thr with w := BitVec.ofNat 64 w0 :: List.replicate 31 5 } (aluBits k x + 2 ^ 98)
  match step { s with pending := (aluRows.drop k).head?.toList.map (·.1 x) } with
  | .next t => ((lookup t.m.eng.threads (threadKey lastThread)).bind (·.mw.resB)).map fun r => if r.write then some (r.dest, r.value.toNat) else none
  | _ => none

def w31 (k w0 v : Nat) : Bool := aluRes k w0 == some (some (31, v))

/-- R256, by hand. -/
theorem test_aluAdd : w31 2 (2 ^ 64 - 1) 6 = true := by decide +kernel
theorem test_aluSub : w31 3 5 (2 ^ 64 - 2) = true := by decide +kernel
theorem test_aluAndn : w31 7 0x1F 0x18 = true := by decide +kernel
theorem test_aluSar : w31 10 (2 ^ 63) 0xFF00000000000000 = true := by decide +kernel
theorem test_aluRor : w31 11 0x81 0x0200000000000001 = true := by decide +kernel
theorem test_aluExt : w31 12 (2 ^ 64 - 1) (2 ^ 57 - 1) = true := by decide +kernel
theorem test_aluBswap : w31 18 0x0102030405060708 0x0807060504030201 = true := by decide +kernel
theorem test_aluClz : w31 20 5 61 = true ∧ w31 20 0 64 = true := by decide +kernel
theorem test_aluMul : w31 21 0x1FFFFFFFF (0xFFFFFFFF * 7) = true := by decide +kernel
theorem test_aluCsum : w31 22 0x000100020003FFFF 0x000D = true := by decide +kernel
theorem test_aluCmp : aluRes 15 7 = some none := by decide +kernel

/-- Check values of the FCS (IEEE 802.3) and of the CRCs of R102 and R152 over the octets of 123456789, as their polynomials' catalogues give them. -/
theorem test_crcs : fcs (List.map (BitVec.ofNat 8) [0x31, 0x32, 0x33, 0x34, 0x35, 0x36, 0x37, 0x38, 0x39]) = 0xCBF43926 ∧
    crc32Hash 0xFFFFFFFF (List.map (BitVec.ofNat 8) [0x31, 0x32, 0x33, 0x34, 0x35, 0x36, 0x37, 0x38, 0x39]) = 0x0376E6E7 ∧
    carryCheck (List.map (BitVec.ofNat 8) [0x31, 0x32, 0x33, 0x34, 0x35, 0x36, 0x37, 0x38, 0x39]) = 0x6C40DF5F0B497347 := by decide +kernel

/-- LINEAR11 of 48.00 V and of 0.5 A: 768 × 2⁻⁴ and 512 × 2⁻¹⁰ (R479). -/
theorem test_linear11 : linear11 4800 100 = 0xE300 ∧ linear11 500 1000 = 0xB200 := by decide +kernel

/-- R139: a bank lost with no spare lowers the guarantee of the highest-numbered Hedge that has one. -/
theorem test_capacity :
    let m := ((fld BUF_HEDGE_CFG_GUAR 14 200000 State.reset) |> fld BUF_HEDGE_CFG_GUAR 3 190000).m.capacityLoss 47
    m.get BUF_CAPACITY_USABLE = 385024 ∧ m.get BUF_HEDGE_CFG_GUAR 14 = 195024 ∧ m.get BUF_HEDGE_CFG_GUAR 3 = 190000 ∧ m.flag BUF_EVENT_CAPACITY = true := by
  decide +kernel

/-- R327: hard repair at the start after a soft one counts once; location 0x3000005 lies in subchannel 3. -/
theorem test_ppr_hard :
    let e : RecEntry := { kind := 1, cls := 6, spare := 0xFF, loc := 0x3000005, tick := 0 }
    let m := (State.reset.m.withDrm { State.reset.m.drm with softRepaired := [(0x3000005, 3)] }).replayEntry e
    m.ctr (drmCtr 3 14).off = 1 ∧ (m.replayEntry e).ctr (drmCtr 3 14).off = 1 := by decide +kernel

/-- R322, R330: 2,500 cycles of panic in channel 1 are two microseconds in each of its subchannels. -/
theorem test_panic :
    let m := (fld CLP_STATUS_PANIC1 0 1 State.reset).m.advance 2500
    m.ctr (drmCtr 2 10).off = 2 ∧ m.ctr (drmCtr 3 10).off = 2 ∧ m.ctr (drmCtr 0 10).off = 0 := by decide +kernel
end Sys2Proof.Tests
end

section
/-! SUPPORT. The LOCK bits along a step: which commands keep them all, and that a start leaves the fuse shadow locked (R363, R365). -/

namespace Sys2Proof.Machine

/-! ### Commands that neither start nor reset the module -/

/-- A command's outcome: a next state in which every LOCK bit that was set in s is set. -/
def State.KeepsLocks (s : State) (o : Host.Outcome State Fault Refusal) : Prop := ∃ t, o = .next t ∧ LocksKept s.locks t.locks

theorem keepsLocks_actLocks (s : State) (f : BitVec 5 → Mod → BitVec 5 × Mod) (h : LocksKept s.locks (f s.locks s.m).1) :
    s.KeepsLocks (s.actLocks f) := ⟨_, rfl, actLocks_locks s _ f rfl h⟩

theorem keepsLocks_write (s : State) (p : Path) (off len : Nat) (v : Word) (x : Option Found) : s.KeepsLocks (s.write p off len v x) :=
  keepsLocks_actLocks s _ (fabricWrite_locks s.m s.locks p off len v x none)

/-- A memory operation of microcode, whatever its code, clears no LOCK bit. -/
theorem keepsLocks_memPart (s : State) (c : Instr) (x : MemArgs) (op : Nat) : s.KeepsLocks (s.actLocks fun l m => m.memPart l c x op) :=
  keepsLocks_actLocks s _ (memPart_locks s.m s.locks c x op)

/-- A command that does not start the module clears no LOCK bit. The commands that carry the bits stand one by one, each with the lemma of
its operation; every other command acts on the module alone or writes a register. -/
theorem exec_keepsLocks (c : Instr) (s : State) (hc : startsModule c = false) : s.KeepsLocks (exec c s) := by
  cases c
  case powerOn | porst | deviceReset | coreFatal | tripRecovery | nvmRetry => cases hc
  case rd8 | rd16 | rd32 | rd64 | rd128 | wr8 | wr16 | wr32 | wr64 | wr128 | aadd64 | aor64 | cas64 | swap64 =>
    exact keepsLocks_memPart s _ _ _
  case jtagHighWrite off v => exact keepsLocks_actLocks s (fun l m => (m.jtagHigh l off v).pair) (jtagHigh_locks s.m s.locks off v)
  case tickCommit => exact keepsLocks_actLocks s (fun l m => m.tickCommit l) (tickCommit_locks s.m s.locks)
  case windowCommandDone w =>
    exact keepsLocks_actLocks s (fun l m => settledPair (m.windowCommandDone l (winId w))) (windowCommandDone_locks s.m s.locks (winId w))
  case seqEnd x => exact keepsLocks_actLocks s (fun l m => m.endPart l x) (endPart_locks s.m s.locks x)
  case dmpRead frame => exact keepsLocks_actLocks s (fun l m => m.dmpRead l frame) (dmpRead_locks s.m s.locks frame)
  case dmpWrite frame => exact keepsLocks_actLocks s (fun l m => m.dmpWrite l frame) (dmpWrite_locks s.m s.locks frame)
  case dmpAck frame => exact keepsLocks_actLocks s (fun l m => m.dmpAck l frame) (dmpAck_locks s.m s.locks frame)
  case attestReq frame => exact keepsLocks_actLocks s (fun l m => m.attestReq l frame) (attestReq_locks s.m s.locks frame)
  case updBegin frame => exact keepsLocks_actLocks s (fun l m => m.updBegin l frame) (updBegin_locks s.m s.locks frame)
  case updData frame => exact keepsLocks_actLocks s (fun l m => m.updData l frame) (updData_locks s.m s.locks frame)
  case updEnd frame => exact keepsLocks_actLocks s (fun l m => m.updEnd l frame) (updEnd_locks s.m s.locks frame)
  case updOp frame => exact keepsLocks_actLocks s (fun l m => m.updOpMessage l frame) (updOpMessage_locks s.m s.locks frame)
  case supervisorRestart => exact keepsLocks_actLocks s (fun l m => (l, m.supervisorRestart l)) (LocksKept.refl s.locks)
  case supervisorWatchdog => exact keepsLocks_actLocks s (fun l m => (l, m.supervisorWatchdog l)) (LocksKept.refl s.locks)
  case settleDone => exact keepsLocks_actLocks s (fun l m => (l, m.settleDone l)) (LocksKept.refl s.locks)
  case unlock | lock | tickPeriodWrite | fence | tickFence | portCfgWrite | portSleep | tileStateRequest | parseWrite | parseRead |
      ruleWrite | ruleRead | ruleInvalidate | sliceCfgWrite | fdbInsert | fdbDelete | fdbSearch | fdbRead | fdbWrite | flush |
      bucketRead | bucketReadClear | tableWrite | tableRead | lpmWrite | lpmRead | clearNode | voqReadOccupancy | voqReadHead |
      templateWrite | templateRead | policerWrite | policerRead | policerReadBuckets | streamShaperWrite | streamShaperRead |
      shaperReadTokens | gateEntryWrite | gateEntryRead | adjAuto | adjStep | adjSlew | adjSet | freqWrite | refPrioWrite | ptpMeasWrite
      | ppsTodWrite | island | ringCfgWrite | consWrite | hostBaseWrite | doorbell | exchangeRequest | clusterOffline | clusterRun |
      controlStoreRead | controlStoreWrite | epcCtrWrite | epcSelWrite | freeze | sampleRead | sampleConsWrite | sdramRead | sdramWrite
      | channelOffline | channelReturn | portOwnerWrite | rootFloorWrite | gapWrite | evtCfgWrite | swint | softReset | reloadReset |
      eventConsWrite | pfSwint | check | start | confirm | abort | cancel | clearStaging | revoke | grfRetire | grfReturn | spareTestNow
      | transferCommand | selfTestNow | trigPop | trgOutCfgWrite | trgOutLevelWrite | registerWrite | sequenceClear =>
    exact keepsLocks_write s _ _ _ _ _
  case hostWake path u => cases u <;> exact keepsLocks_write s path _ _ _ _
  all_goals exact ⟨_, rfl, LocksKept.refl s.locks⟩

/-! ### Starts and resets -/

/-- The LOCK bits that stand beside a module: every one of k is set. -/
def Locked (k : BitVec 5) (a : BitVec 5 × Mod) : Prop := LocksKept k a.1

theorem Locked.pair {k l : BitVec 5} (h : LocksKept k l) (m : Mod) : Locked k (l, m) := h

/-- The image's locks come on top of those that stand (R392). -/
theorem applyImage_locked (m : Mod) (l : BitVec 5) (image : List Byte) : Locked l (m.applyImage l image) := LocksKept.or _ _

/-- A start that finds an SV component begins with the fuse shadow locked alone, and its image can only lock more. -/
theorem startRest_locked (m : Mod) (c : Chosen) (x : StartFound) : Locked 2 (m.startRest c x) := by
  unfold Mod.startRest
  extract_lets _ _ _ _ _ _ _ tc _ _ _ _ _ _ n a
  have ha : Locked 2 a := by
    clear_value tc n
    cases tc with
    | none => exact .pair (LocksKept.refl 2) _
    | some slot => exact applyImage_locked n 2 _
  exact .pair ha _

/-- A start leaves the fuse shadow locked, whatever stood before it (R365). -/
theorem dieStart_locked (m : Mod) (cause : Nat) (x : StartFound) : Locked 2 (m.dieStart cause x) := by
  unfold Mod.dieStart
  extract_lets
  split
  · exact .pair (LocksKept.refl 2) _
  · exact .pair (startRest_locked _ _ _) _

section
variable {l : BitVec 5} (hl : LocksKept 2 l)
include hl

theorem powerOn_locked (m : Mod) (f vin : Nat) (x : StartFound) : Locked 2 (m.powerOn l f vin x) := by
  unfold Mod.powerOn
  split
  · exact .pair hl _
  · exact dieStart_locked _ _ _

theorem porst_locked (m : Mod) (x : StartFound) : Locked 2 (m.porst l x) := by
  unfold Mod.porst
  split
  · exact .pair hl _
  · exact .pair hl _
  · exact dieStart_locked _ _ _

theorem deviceReset_locked (m : Mod) (x : StartFound) : Locked 2 (m.deviceReset l x) := by
  unfold Mod.deviceReset
  split
  · exact dieStart_locked _ _ _
  · exact .pair hl _

theorem coreFatal_locked (m : Mod) (why : ResetCause) (x : StartFound) : Locked 2 (m.coreFatal l why x) := by
  unfold Mod.coreFatal
  split
  · exact .pair hl _
  · extract_lets
    split
    · exact .pair hl _
    · exact dieStart_locked _ _ _

theorem tripRecovery_locked (m : Mod) (tcp : Int) (x : StartFound) : Locked 2 (m.tripRecovery l tcp x) := by
  unfold Mod.tripRecovery
  split
  · exact .pair hl _
  · exact dieStart_locked _ _ _

theorem nvmRetry_locked (m : Mod) : Locked 2 (m.nvmRetry l) := by
  unfold Mod.nvmRetry
  split
  · exact .pair hl _
  · extract_lets
    split
    · exact .pair hl _
    · exact dieStart_locked _ _ _

end

theorem actStart_locked {k : BitVec 5} (s t : State) (f : BitVec 5 → Mod → BitVec 5 × Mod) (h : s.actStart f = .next t)
    (hf : Locked k (f s.locks s.m)) : LocksKept k t.locks := by
  unfold State.actStart at h
  cases h
  exact hf

theorem actLocks_locked {k : BitVec 5} (s t : State) (f : BitVec 5 → Mod → BitVec 5 × Mod) (h : s.actLocks f = .next t)
    (hs : LocksKept k s.locks) (hf : Locked k (f s.locks s.m)) : LocksKept k t.locks := by
  unfold State.actLocks at h
  cases h
  split
  · exact hf
  · exact hs

/-- A start or reset of the module leaves the fuse shadow locked, run or not. -/
theorem exec_start_locked (c : Instr) (s t : State) (hc : startsModule c = true) (h : exec c s = .next t) (hs : LocksKept 2 s.locks) :
    LocksKept 2 t.locks := by
  cases c
  case powerOn f vin x =>
    rw [exec_powerOn] at h
    exact actStart_locked s t _ h (powerOn_locked hs s.m f.val vin x)
  case porst x =>
    rw [exec_porst] at h
    exact actStart_locked s t _ h (porst_locked hs s.m x)
  case deviceReset x =>
    rw [exec_deviceReset] at h
    exact actLocks_locked s t _ h hs (deviceReset_locked hs s.m x)
  case coreFatal why x =>
    rw [exec_coreFatal] at h
    exact actLocks_locked s t _ h hs (coreFatal_locked hs s.m why x)
  case tripRecovery tcp x =>
    rw [exec_tripRecovery] at h
    exact actStart_locked s t _ h (tripRecovery_locked hs s.m tcp x)
  case nvmRetry =>
    rw [exec_nvmRetry] at h
    exact actLocks_locked s t _ h hs (nvmRetry_locked hs s.m)
  all_goals cases hc

/-! ### A step -/

/-- No command unlocks the fuse shadow. -/
theorem exec_locked (c : Instr) (s t : State) (h : exec c s = .next t) (hs : LocksKept 2 s.locks) : LocksKept 2 t.locks := by
  cases hc : startsModule c with
  | true => exact exec_start_locked c s t hc h hs
  | false =>
    obtain ⟨u, hu, hk⟩ := exec_keepsLocks c s hc
    cases hu.symm.trans h
    exact hs.trans hk

/-- No step unlocks the fuse shadow: the front command does not, and the passing of time leaves the LOCK bits. -/
theorem step_locked (s t : State) (h : step s = .next t) (hs : LocksKept 2 s.locks) : LocksKept 2 t.locks := by
  unfold step at h
  split at h
  · rename_i c rest _
    exact exec_locked c { s with pending := rest } t h hs
  · cases h
    exact hs

/-- The LOCK bit of the fuse shadow alone is the word 2. -/
theorem locksKept_two_iff (a : BitVec 5) : LocksKept 2 a ↔ a.getLsbD 1 = true := by
  constructor
  · intro h
    exact h 1 rfl
  · intro h g hg
    have only : ∀ g < 5, (2 : BitVec 5).getLsbD g = true → g = 1 := by decide
    rw [only g (BitVec.lt_of_getLsbD hg) hg]
    exact h

/-! ### The reset state -/

theorem reset_cl (c : Nat) : State.reset.m.cl c = {} := by
  unfold Mod.cl EngSt.cl
  split <;> rfl

/-- At reset every job queue of every cluster is empty. -/
theorem reset_queue (c j : Nat) : (State.reset.m.cl c).queue j = [] := by
  rw [reset_cl]
  unfold Cluster.queue
  split <;> rfl

/-- Settles O60: the first part is State.reset itself, the second step_locked. -/
theorem fuseShadowStaysLockedFromReset : Obligations.FuseShadowStaysLockedFromReset :=
  ⟨⟨rfl, rfl, rfl, rfl, rfl, rfl, rfl, rfl, rfl, rfl, fun c j _ _ => reset_queue c j⟩, fun s t h hs =>
    (locksKept_two_iff t.locks).mp (step_locked s t h ((locksKept_two_iff s.locks).mpr hs))⟩

end Sys2Proof.Machine
end

section
/-! SUPPORT. Registers that hold what is written (R5): what their write does to the register, and what drift from the image (R402) adds. -/

namespace Sys2Proof.Machine

/-! ### Registers without a rule of their block -/

theorem holdsWritten_iff (r : Reg) : holdsWritten r = true ↔
    blockRules.contains r = false ∧ (settable r).isEmpty = false ∧ ∀ f ∈ settable r, f.acc = .rw ∨ f.acc = .rwk ∨ f.acc = .rwl := by
  simp [holdsWritten, and_assoc, or_assoc]

theorem settable_ne_rwt {r : Reg} (h : holdsWritten r = true) : ∀ f ∈ settable r, f.acc ≠ .rwt := by
  obtain ⟨-, -, hacc⟩ := (holdsWritten_iff r).mp h
  intro f hf e
  have := hacc f hf
  simp [e] at this

/-- No field of such a register is staged. -/
theorem rwtFields_of_holdsWritten {r : Reg} (h : holdsWritten r = true) : rwtFields r = [] := by
  unfold rwtFields
  split
  · exact absurd h (by decide)
  · exact absurd h (by decide)
  · rw [List.map_eq_nil_iff, List.filter_eq_nil_iff]
    intro f hf e
    have hacc : f.acc = .rwt := by simpa using e
    exact settable_ne_rwt h f (List.mem_filter.mpr ⟨hf, by simp [hacc]⟩) hacc

/-- A write of all of such a register's fields is stored at once. -/
theorem regStore_wholeWrite {r : Reg} (h : holdsWritten r = true) (m : Mod) (p : Path) (j : Nat) (v : Word) :
    m.regStore (wholeWrite p r j v) = m.wr r j ((wholeWrite p r j v).onto (m.rd r j)) := by
  obtain ⟨-, hne, -⟩ := (holdsWritten_iff r).mp h
  have hnow : (settable r).filter (fun f => f.acc != .rwt) = settable r :=
    List.filter_eq_self.mpr fun f hf => by simpa using settable_ne_rwt h f hf
  unfold Mod.regStore
  simp [wholeWrite, hnow, hne, rwtFields_of_holdsWritten h]

/-- The block of such a register takes its write and stores it. -/
theorem blockWrite_of_holdsWritten {r : Reg} (h : holdsWritten r = true) (m : Mod) (l : BitVec 5) (p : Path) (j : Nat) (v : Word)
    (x : Option Found) : m.blockWrite l (wholeWrite p r j v) x = (true, m.regStore (wholeWrite p r j v)) := by
  obtain ⟨hrule, hne, -⟩ := (holdsWritten_iff r).mp h
  have hfields : (wholeWrite p r j v).fields.isEmpty = false := hne
  have hr : (wholeWrite p r j v).r = r := rfl
  unfold Mod.blockWrite
  rw [if_neg (by simp [hfields])]
  rw [← hr] at hrule
  split
  case h_50 => rfl
  all_goals
    rename_i e
    rw [e] at hrule
    exact absurd hrule (by decide)

/-- Such a register is none that events write, nor one that shows drift from the image. -/
theorem holdsWritten_not_told {r : Reg} (h : holdsWritten r = true) : evtReg r = false ∧ r ≠ .CFG_DRIFT ∧ r ≠ .DMP_EVENT := by
  refine ⟨?_, ?_, ?_⟩
  · unfold evtReg
    split
    case h_7 => rfl
    all_goals exact absurd h (by decide)
  · rintro rfl
    exact absurd h (by decide)
  · rintro rfl
    exact absurd h (by decide)

/-! ### Drift -/

/-- From m to n only CFG_DRIFT, DMP_EVENT and what events touch have changed. -/
def DriftTold (m n : Mod) : Prop :=
  n.quiet = m.quiet ∧ ∀ r i, evtReg r = false → r ≠ .CFG_DRIFT → r ≠ .DMP_EVENT → n.rd r i = m.rd r i

theorem DriftTold.refl (m : Mod) : DriftTold m m := ⟨rfl, fun _ _ _ _ _ => rfl⟩

theorem DriftTold.trans {a b c : Mod} (h : DriftTold a b) (k : DriftTold b c) : DriftTold a c :=
  ⟨k.1.trans h.1, fun r i he hc hd => (k.2 r i he hc hd).trans (h.2 r i he hc hd)⟩

theorem Told.driftTold {m n : Mod} (h : Told m n) : DriftTold m n := ⟨h.1, fun r i he _ _ => h.2 r i he⟩

theorem driftTold_set (m : Mod) (f : Fld) (i v : Nat) (hf : f.reg = .CFG_DRIFT) : DriftTold m (m.set f i v) :=
  ⟨by simp [Mod.quiet], fun r k _ hc _ => rd_set_ne m f r i k v (hf ▸ apart_cfg_drift r hc)⟩

theorem driftTold_sqc (m : Mod) (f : Fld) (i : Nat) (hf : f.reg = .DMP_EVENT) : DriftTold m (m.sqc f i) :=
  ⟨by simp [Mod.quiet], fun r k _ _ hd => rd_wr_ne m f.reg r i k _ (hf ▸ apart_dmp_event r hd)⟩

/-- Drift of a Hedge's configuration, or of the global one, shows in CFG_DRIFT, and in DMP_EVENT with its event (R402). -/
theorem driftTold_drifted (m : Mod) (hedge : Option Nat) : DriftTold m (m.drifted hedge) := by
  unfold Mod.drifted
  extract_lets b f rings
  split
  · exact DriftTold.refl m
  · exact ((driftTold_set m f 0 1 rfl).trans (driftTold_sqc _ DMP_EVENT_DRIFT 0 rfl)).trans (told_event _ _).driftTold

theorem driftTold_took (m : Mod) (r : Reg) (j : Nat) (d : Bool × Mod) : DriftTold d.2 (m.took r j d) := by
  unfold Mod.took
  split
  · exact driftTold_drifted d.2 _
  · exact DriftTold.refl d.2

/-! ### The write -/

/-- What a write spends is its path's arming alone (R367). -/
theorem spent_eq_withArm (m : Mod) (p : Path) (r : Reg) : ∃ x, m.spent p r = m.withArm x := by
  unfold Mod.spent
  split
  · split
    · exact ⟨_, rfl⟩
    · exact ⟨m.arm, rfl⟩
  · exact ⟨m.arm, rfl⟩

/-- A granted write of such a register stores its word in the module with its arming spent, and nothing more but drift from the image. -/
theorem granted_write_stores {s : State} {p : Path} {r : Reg} {i : Nat} {v : Word} (hg : s.Granted p r i i v)
    (h : holdsWritten r = true) :
    ∃ x n, exec (.registerWrite p (r.addr i) 8 v) s = .next { s with m := n } ∧
      DriftTold ((s.m.withArm x).wr r i ((wholeWrite p r i v).onto (s.m.rd r i))) n := by
  obtain ⟨x, hx⟩ := spent_eq_withArm s.m p r
  refine ⟨x, _, (exec_registerWrite p _ 8 v s).trans (put_granted s p r i i v none hg), ?_⟩
  rw [blockWrite_of_holdsWritten h, regStore_wholeWrite h, hx]
  exact driftTold_took _ r i (true, (s.m.withArm x).wr r i _)

/-- Settles O5: the register's block stores the word, and what drift from the image and its event touch are other registers and parts. -/
theorem registerHoldsWhatIsWritten : Obligations.RegisterHoldsWhatIsWritten := by
  intro s p r i v hg h
  obtain ⟨x, n, hexec, hquiet, hrd⟩ := granted_write_stores hg h
  obtain ⟨hevt, hcfg, hdmp⟩ := holdsWritten_not_told h
  have part {α : Type} (g : Mod → α) := congrArg g hquiet
  refine ⟨_, hexec, ?_, rfl, ?_, part Mod.time, part Mod.buf, part Mod.fwd, part Mod.cls, part Mod.prt, part Mod.tick, part Mod.sch,
    part Mod.hdg⟩
  · rw [hrd r i hevt hcfg hdmp, rd_wr]
  · intro r' i' hevt' hcfg' hdmp' hne
    exact (hrd r' i' hevt' hcfg' hdmp').trans (rd_wr_addr _ r r' i i' _ hne)

end Sys2Proof.Machine
end

section
/-! SUPPORT. How a claim about a command is met, and what a chain of updates keeps of the module. -/

namespace Sys2Proof.Machine

/-! ### Commands of the die and of the power controller -/

theorem does_act {c : Instr} {s : State} {f : Mod → Mod} {n : Mod} (hc : exec c s = s.act f) (h : s.Running) (hn : f s.m = n) :
    Does c s n := by
  subst hn
  exact hc.trans (act_next s f h)

theorem does_actPc {c : Instr} {s : State} {f : Mod → Mod} {n : Mod} (hc : exec c s = s.actPc f) (h : s.Powered) (hn : f s.m = n) :
    Does c s n := by
  subst hn
  exact hc.trans (actPc_next s f h)

theorem yields_of_does {c : Instr} {s : State} {n : Mod} {P : State → Prop} (h : Does c s n) (hP : P { s with m := n }) :
    Yields c s P := ⟨_, h, hP⟩

/-! ### Reads of registers -/

theorem rd_of_regs {m n : Mod} (h : n.regs = m.regs) (r : Reg) (i : Nat) : n.rd r i = m.rd r i := by
  unfold Mod.rd
  rw [h]

theorem get_of_regs {m n : Mod} (h : n.regs = m.regs) (f : Fld) (i : Nat) : n.get f i = m.get f i :=
  congrArg f.of (rd_of_regs h f.reg i)

theorem flag_of_get {m : Mod} {f : Fld} {i v : Nat} (h : m.get f i = v) : m.flag f i = (v == 1) := by
  unfold Mod.flag
  rw [h]

/-- A bit set in an SQC field reads 1 (R369). -/
theorem get_sqcBit_self (m : Mod) (f : Fld) (k i : Nat) (h : f.lo + k + 1 ≤ (seqField f.reg).lo)
    (hs : (seqField f.reg).lo + (seqField f.reg).width ≤ 64) : (m.sqcBit f k i).get ⟨f.reg, f.lo + k, 1⟩ i = 1 := by
  unfold Mod.sqcBit Mod.get
  rw [rd_wr, of_put_ne _ _ _ _ hs (.inr h), of_put _ _ _ (by simp only; omega)]
  rfl

theorem get_sqcBit_ne (m : Mod) (f g : Fld) (k i j : Nat) (h : g.reg.apart f.reg = true) : (m.sqcBit f k i).get g j = m.get g j :=
  congrArg g.of (rd_wr_ne m f.reg g.reg i j _ h)

/-! ### What a chain of updates keeps -/

/-- From m to n what g shows of the module has stayed. -/
def Keeps {α : Type} (g : Mod → α) (m n : Mod) : Prop := g n = g m

section
variable {α : Type} {g : Mod → α}

theorem Keeps.refl (m : Mod) : Keeps g m m := rfl

theorem Keeps.trans {a b c : Mod} (h : Keeps g a b) (k : Keeps g b c) : Keeps g a c := Eq.trans k h

theorem Keeps.ite {m a b : Mod} (c : Prop) [Decidable c] (ha : Keeps g m a) (hb : Keeps g m b) :
    Keeps g m (if c then a else b) := by
  split
  · exact ha
  · exact hb

theorem Keeps.foldl {β : Type} (f : Mod → β → Mod) (h : ∀ m b, Keeps g m (f m b)) (l : List β) (m : Mod) :
    Keeps g m (l.foldl f m) := by
  induction l generalizing m with
  | nil => exact Keeps.refl m
  | cons b t ih => exact (h m b).trans (ih (f m b))

end

end Sys2Proof.Machine
end

section
/-! SUPPORT. A received frame: what the FEC codewords of its line (R61, R441) and its counters (R51) touch, and what FRAME_RECEIVED,
PAUSE_RECEIVED and CT_INGRESS_DECISION then do. -/

namespace Sys2Proof.Machine

/-! ### What the codewords of a line touch -/

theorem apart_lane_status (r : Reg) (h : r ≠ .PRT_LANE_STATUS) : r.apart .PRT_LANE_STATUS = true := by
  cases r <;> first | rfl | exact absurd rfl h

/-- The module without what events touch and PRT_LANE_STATUS. -/
def laneless (m : Mod) : Mod × ({ r : Reg // evtReg r = false ∧ r ≠ .PRT_LANE_STATUS } → Nat → Word) :=
  (m.quiet, fun r i => m.rd r.val i)

theorem keeps_laneless_iff {m n : Mod} : Keeps laneless m n ↔
    n.quiet = m.quiet ∧ ∀ r i, evtReg r = false → r ≠ .PRT_LANE_STATUS → n.rd r i = m.rd r i := by
  constructor
  · intro h
    exact ⟨congrArg Prod.fst h, fun r i he hl => congrFun (congrFun (congrArg Prod.snd h) ⟨r, he, hl⟩) i⟩
  · rintro ⟨hquiet, hrd⟩
    exact Prod.ext hquiet (funext fun r => funext fun i => hrd r.val i r.property.1 r.property.2)

theorem Told.laneless {m n : Mod} (h : Told m n) : Keeps laneless m n := keeps_laneless_iff.mpr ⟨h.1, fun r i he _ => h.2 r i he⟩

/-- A lane's bucket shows in PRT_LANE_STATUS (R441). -/
theorem setBucket_lane (m : Mod) (lane v : Nat) : m.setBucket 0 lane v =
    (m.withInt { m.int with buckets := storeUnless 0 m.int.buckets (bucketKey 0 lane) v }).set PRT_LANE_STATUS_BUCKET lane v := by
  simp [Mod.setBucket]

theorem laneless_setBucket (m : Mod) (lane v : Nat) : Keeps laneless m (m.setBucket 0 lane v) := by
  rw [setBucket_lane]
  exact keeps_laneless_iff.mpr ⟨by simp [Mod.quiet], fun r i _ hl =>
      rd_set_ne _ PRT_LANE_STATUS_BUCKET r lane i v (apart_lane_status r hl)⟩

theorem told_grfEvent (m : Mod) (code loc unit q : Nat) : Told m (m.grfEvent code loc unit q) := by
  unfold Mod.grfEvent
  exact (told_sqcBit m _ _ _ apart_grf_event).trans (told_event _ _)

/-- A lane's permanent fault is counted and raised; R65 decides what comes of it. -/
theorem told_thresholdReached_lane (m : Mod) (lane : Nat) : Told m (m.thresholdReached 0 lane) := by
  unfold Mod.thresholdReached
  rw [if_pos rfl]
  exact (told_bump m _ _).trans (told_grfEvent _ _ _ _ _)

theorem laneless_unitError (m : Mod) (lane : Nat) (major : Bool) : Keeps laneless m (m.unitError 0 lane major) := by
  unfold Mod.unitError
  split
  · exact Keeps.refl m
  · extract_lets _ _ _ _ n
    have h : Keeps laneless m n := laneless_setBucket m lane _
    split
    · exact h.trans (told_thresholdReached_lane n lane).laneless
    · simpa using h

theorem laneless_fecSeen (m : Mod) (p : Nat) (line : LineErrs) : Keeps laneless m (m.fecSeen p line) := by
  unfold Mod.fecSeen
  split
  · exact Keeps.refl m
  · extract_lets _ n
    have h : Keeps laneless m n := by
      show Keeps laneless m (if _ then _ else _)
      split
      · exact Keeps.refl m
      · exact (told_bump m _ _).laneless
    exact h.trans (Keeps.foldl _ (fun m l => (told_bump m _ _).laneless.trans (laneless_unitError _ l false)) _ n)

/-! ### What the codewords of a line count -/

theorem fecSeen_down {m : Mod} {p : Nat} (h : m.portUp p = false) (line : LineErrs) : m.fecSeen p line = m := by
  simp [Mod.fecSeen, h]

theorem fecSeen_without_fec {m : Mod} {p : Nat} (h : m.get PRT_PORT_CFG_FEC p = 0) (line : LineErrs) : m.fecSeen p line = m := by
  simp [Mod.fecSeen, h]

/-- A line without codewords in error tells of none. -/
theorem fecSeen_clean (m : Mod) (p : Nat) : m.fecSeen p {} = m := by
  simp [Mod.fecSeen]

/-- An uncorrectable codeword is counted at its port, and is a minor error of its lane (R61, R441). -/
theorem fecSeen_uncorrectable {m : Mod} {p : Nat} {line : LineErrs} {lane : Fin 128} (hup : m.portUp p = true)
    (hfec : m.get PRT_PORT_CFG_FEC p ≠ 0) (hlane : m.portOfLane lane.val = some p) (hcorr : line.corrected = 0)
    (hunc : line.uncorrectable = [lane]) : m.fecSeen p line = (m.bump (m.prtCtr p 36)).unitError 0 lane.val false := by
  simp [Mod.fecSeen, hup, hfec, hcorr, hunc, hlane]

theorem fecSeen_portUp (m : Mod) (p q : Nat) (line : LineErrs) : (m.fecSeen p line).portUp q = m.portUp q := by
  unfold Mod.portUp Mod.get
  rw [(keeps_laneless_iff.mp (laneless_fecSeen m p line)).2 _ q rfl (by decide)]

theorem fecSeen_buf (m : Mod) (p : Nat) (line : LineErrs) : (m.fecSeen p line).buf = m.buf := by
  have h := congrArg Mod.buf (keeps_laneless_iff.mp (laneless_fecSeen m p line)).1
  exact h

/-! ### Counting a received frame -/

/-- The counters of a received frame touch what events touch alone (R51, R61 to R63). -/
theorem told_countRx (m : Mod) (p : Nat) (o : List Byte) (symErr : Bool) (c : RxClass) : Told m (m.countRx p o symErr c) := by
  unfold Mod.countRx
  extract_lets n up m1 sym ok
  have hup (m : Mod) (i k : Nat) : Told m (up m i k) := told_bump m _ k
  have hm1 : Told m m1 := (hup _ _ _).trans (hup _ _ _)
  have hsym (m : Mod) : Told m (sym m) := by
    unfold sym
    split
    · exact hup _ _ _
    · exact Told.refl m
  have hok (m : Mod) : Told m (ok m) := by
    unfold ok
    extract_lets n
    have hn : Told m n := ((hup _ _ _).trans (hup _ _ _)).trans (hup _ _ _)
    split
    · exact hn.trans (hup _ _ _)
    · exact hn
  refine hm1.trans ?_
  cases c with
  | runt => exact hup _ _ _
  | fragment => exact (hup _ _ _).trans (hsym _)
  | errored =>
    refine Told.trans ?_ (hup _ _ _)
    split <;> exact hup _ _ _
  | good => exact (hok _).trans (hup _ _ _)
  | oversize => exact ((hok _).trans (hup _ _ _)).trans (hup _ _ _)
  | jabber => exact (hup _ _ _).trans (hsym _)

/-! ### FRAME_RECEIVED -/

theorem frameReceived_down {m : Mod} {p : Nat} (h : m.portUp p = false) (o : List Byte) (symErr : Bool) (ago : Nat) :
    m.frameReceived p o symErr ago = m := by
  simp [Mod.frameReceived, h]

section
variable {m : Mod} {p : Nat} (hup : m.portUp p = true) (hfree : lookup m.buf.arriving p = none) (o : List Byte) (symErr : Bool) (ago : Nat)
include hup hfree

theorem frameReceived_bad (hg : m.rxClass p o symErr ≠ .good) (ho : m.rxClass p o symErr ≠ .oversize) :
    m.frameReceived p o symErr ago = m.countRx p o symErr (m.rxClass p o symErr) := by
  simp [Mod.frameReceived, hup, hfree, hg, ho]

theorem frameReceived_data {c : RxClass} (hc : m.rxClass p o symErr = c) (hgood : c = .good ∨ c = .oversize)
    (hctl : isControl o = false) : m.frameReceived p o symErr ago =
      admitted ((m.countRx p o symErr c).ingress
        ((m.countRx p o symErr c).arrived p o (decide (c = .oversize)) ((m.countRx p o symErr c).rxStamp ago).1) none false
        ((m.countRx p o symErr c).rxStamp ago).2) := by
  subst hc
  simp [Mod.frameReceived, hup, hfree, hgood, hctl]

/-- A good MAC control frame is a candidate of the ingress sampler, and acts on its port (R47, R237; log 79). -/
theorem frameReceived_control {m1 : Mod} (hm1 : m1 = m.countRx p o symErr .good) (hc : m.rxClass p o symErr = .good)
    (hctl : isControl o = true) : m.frameReceived p o symErr ago =
      (m1.clipIngress (m1.owner p) (m1.arrived p o false (m1.rxStamp ago).1) none 255).macControl p o := by
  subst hm1
  rw [← hc]
  simp [Mod.frameReceived, hup, hfree, hc, hctl]

/-- A header window whose frame the pipeline discards: the frame arrives on, until its end (R147, R150). -/
theorem ctIngressDecision_discarded (hlen : 64 ≤ o.length) (hctl : isControl o = false)
    (hnone : (m.ingress { m.arrived p o false (m.rxStamp ago).1 with
      octets := o.take (m.get PRT_PORT_CFG_MAX_FRAME p), early := true } none false (m.rxStamp ago).2).1 = none) :
    ∃ a : Arriving, lookup (m.ctIngressDecision p o symErr ago).buf.arriving p = some a ∧
      a.received = o ∧ a.symErr = symErr ∧ a.gone = true ∧ a.ct = false := by
  unfold Mod.ctIngressDecision
  rw [if_neg (by simp [hup, hfree]), if_neg (by simp [hctl]; omega)]
  extract_lets s maxFrame f r n a
  have hr : r.1 = none := hnone
  simp only [hr]
  exact ⟨a, lookup_store_self _ p a, rfl, rfl, rfl, rfl⟩

end

theorem pauseReceived_control {m : Mod} {o : List Byte} (h : isControl o = true) (p : Nat) :
    m.pauseReceived p o = m.frameReceived p o false 0 := by
  simp [Mod.pauseReceived, h]

/-! ### The obligations -/

/-- Settles O17: the codewords leave the port's state, so the counters of the frame's class are all that
FRAME_RECEIVED adds; the codewords are the operand of log 8. -/
theorem badFrameGoesNoFurther : Obligations.BadFrameGoesNoFurther := by
  intro s p o e ago m0 hs hm0
  subst hm0
  have hexec := exec_frameReceived p o e ago s
  refine ⟨fun hdown => ?_, fun hup hfree hg ho => ?_, fun hfec => fecSeen_without_fec hfec e,
    fun l hup hfec hl hcorr hunc => fecSeen_uncorrectable hup hfec hl hcorr hunc⟩
  · refine does_act hexec hs ?_
    rw [fecSeen_down hdown, frameReceived_down hdown]
  · have hup' := (fecSeen_portUp s.m p.val p.val e).trans hup
    have hfree' : lookup (s.m.fecSeen p.val e).buf.arriving p.val = none := by rw [fecSeen_buf, hfree]
    refine yields_of_does (does_act hexec hs (frameReceived_bad hup' hfree' o e.symbol ago hg ho)) ?_
    have counted := told_countRx (s.m.fecSeen p.val e) p.val o e.symbol ((s.m.fecSeen p.val e).rxClass p.val o e.symbol)
    obtain ⟨hquiet, hrd⟩ := keeps_laneless_iff.mp ((laneless_fecSeen s.m p.val e).trans counted.laneless)
    have part {α : Type} (g : Mod → α) := congrArg g hquiet
    exact ⟨rfl, rfl, part Mod.buf, part Mod.fwd, part Mod.cls, part Mod.sch, part Mod.prt, part Mod.time, hrd⟩

/-- Settles O18: each case is FRAME_RECEIVED's, PAUSE_RECEIVED's or CT_INGRESS_DECISION's meaning after the codewords. -/
theorem goodFrameEntersThePipeline : Obligations.GoodFrameEntersThePipeline := by
  intro s p o e ago m0 hs hm0 hup hfree
  subst hm0
  have hup' := (fecSeen_portUp s.m p.val p.val e).trans hup
  have hfree' : lookup (s.m.fecSeen p.val e).buf.arriving p.val = none := by rw [fecSeen_buf, hfree]
  refine ⟨fun c hc hgood hctl => ?_, fun m1 hm1 hc hctl => ⟨?_, ?_⟩, fun hlen hctl hnone => ?_⟩
  · exact does_act (exec_frameReceived p o e ago s) hs (frameReceived_data hup' hfree' o e.symbol ago hc hgood hctl)
  · refine does_act (exec_pauseReceived p o s) hs ?_
    rw [pauseReceived_control hctl]
    exact frameReceived_control hup hfree o false 0 hm1 hc hctl
  · refine does_act (exec_frameReceived p o {} ago s) hs ?_
    rw [fecSeen_clean]
    exact frameReceived_control hup hfree o false ago hm1 hc hctl
  · obtain ⟨a, ha, hreceived, hsym, hgone, hct⟩ := ctIngressDecision_discarded hup' hfree' o e.symbol ago hlen hctl hnone
    refine yields_of_does (does_act (exec_ctIngressDecision p o e ago s) hs rfl) ?_
    simp only [ha, Option.map_some, hreceived, hsym, hgone, hct]

end Sys2Proof.Machine
end

section
/-! SUPPORT. A tile's state stays as it is while its ports leave the up state: no discard of their queues, release of cells, XOFF signal or
flush of the FDB writes PRT_TILE_STATUS (R57, R161, R112, R144, R148). -/

namespace Sys2Proof.Machine

/-- Every tile's PRT_TILE_STATUS. -/
def tileStates (m : Mod) (t : Nat) : Word := m.rd .PRT_TILE_STATUS t

theorem get_of_tileStates {m n : Mod} (h : Keeps tileStates m n) (t : Nat) :
    n.get PRT_TILE_STATUS_STATE t = m.get PRT_TILE_STATUS_STATE t := congrArg PRT_TILE_STATUS_STATE.of (congrFun h t)

theorem tileStates_of_regs {m n : Mod} (h : n.regs = m.regs) : Keeps tileStates m n := funext fun t => rd_of_regs h _ t

theorem Told.tileStates {m n : Mod} (h : Told m n) : Keeps tileStates m n := funext fun t => h.2 _ t rfl

theorem tileStates_set (m : Mod) (f : Fld) (i v : Nat) (h : Reg.apart .PRT_TILE_STATUS f.reg = true) :
    Keeps tileStates m (m.set f i v) := funext fun t => rd_set_ne m f _ i t v h

theorem tileStates_sqc (m : Mod) (f : Fld) (i : Nat) (h : Reg.apart .PRT_TILE_STATUS f.reg = true) :
    Keeps tileStates m (m.sqc f i) := funext fun t => rd_wr_ne m f.reg _ i t _ h

/-! ### Clippings of a discarded copy -/

theorem tileStates_clipDrop (m : Mod) (h ctr : Nat) : Keeps tileStates m (m.clipDrop h ctr) :=
  (told_bump m (clpCtr h ctr) 1).tileStates.trans (tileStates_of_regs rfl)

theorem tileStates_writerLevels (m : Mod) : Keeps tileStates m m.writerLevels := by
  unfold Mod.writerLevels
  extract_lets level
  have hlevel (m : Mod) (fill panic : Fld) (c : Nat) (hf : Reg.apart .PRT_TILE_STATUS fill.reg = true)
      (hp : Reg.apart .PRT_TILE_STATUS panic.reg = true) : Keeps tileStates m (level m fill panic c) :=
    (tileStates_set m fill 0 _ hf).trans
      (.ite _ (tileStates_set _ panic 0 1 hp) (.ite _ (tileStates_set _ panic 0 0 hp) (.refl _)))
  exact (hlevel _ _ _ _ rfl rfl).trans (hlevel _ _ _ _ rfl rfl)

theorem tileStates_clipOffer (m : Mod) (h w : Nat) : Keeps tileStates m (m.clipOffer h w) := by
  unfold Mod.clipOffer
  extract_lets t _ n c
  have hn : Keeps tileStates m n := tileStates_of_regs rfl
  refine .ite _ (.refl m) (.ite _ (tileStates_clipDrop m h 5) (.ite _ (tileStates_clipDrop m h 2)
    (.ite _ (tileStates_clipDrop m h 1) (hn.trans (.ite _ ?_ ?_)))))
  · exact ((tileStates_clipDrop n h 2).trans (tileStates_sqc _ _ _ rfl)).trans (told_eventRated _ _ _).tileStates
  · exact (tileStates_of_regs rfl).trans (tileStates_writerLevels _)

theorem tileStates_clipCopyDiscard (m : Mod) (f : Frame) (d n carry : Nat) :
    Keeps tileStates m (m.clipCopyDiscard f d n carry) := by
  unfold Mod.clipCopyDiscard
  exact .ite _ (.refl m) (tileStates_clipOffer m _ _)

/-! ### XOFF signals -/

theorem tileStates_xoffRelease (m : Mod) (key : Nat) : Keeps tileStates m (m.xoffRelease key) := by
  unfold Mod.xoffRelease
  extract_lets p n _ m1
  have hm1 : Keeps tileStates m m1 := tileStates_of_regs rfl
  exact hm1.trans (.ite _ ((tileStates_set m1 PRT_PORT_STATUS_XOFF p _ rfl).trans (tileStates_of_regs rfl)) (.refl m1))

theorem tileStates_xoffAssert (m : Mod) (key : Nat) : Keeps tileStates m (m.xoffAssert key) := by
  unfold Mod.xoffAssert
  extract_lets p n _ m1
  have hm1 : Keeps tileStates m m1 := by
    refine Keeps.trans ?_ (told_bump _ _ _).tileStates
    exact tileStates_of_regs rfl
  exact hm1.trans (.ite _ ((tileStates_set m1 PRT_PORT_STATUS_XOFF p _ rfl).trans (tileStates_of_regs rfl)) (.refl m1))

theorem tileStates_xoffUpdate (m : Mod) : Keeps tileStates m m.xoffUpdate := by
  unfold Mod.xoffUpdate
  refine .foldl _ (fun m key => ?_) _ m
  unfold Mod.xoffOne
  extract_lets p used low
  exact .ite _ (.ite _ (tileStates_xoffRelease m key) (.refl m)) (.ite _ (tileStates_xoffAssert m key) (.refl m))

/-! ### Cells and queues -/

theorem tileStates_lower (m : Mod) (f : Fld) (i n : Nat) (h : Reg.apart .PRT_TILE_STATUS f.reg = true) :
    Keeps tileStates m (m.lower f i n) := tileStates_set m f i _ h

theorem tileStates_account (m : Mod) (f : Frame) (on : Bool) : Keeps tileStates m (m.account f on) := by
  unfold Mod.account
  extract_lets mv tb key m1 m2 m3 m4 m5
  have hmv (m : Mod) (fl : Fld) (i n : Nat) (h : Reg.apart .PRT_TILE_STATUS fl.reg = true) : Keeps tileStates m (mv m fl i n) :=
    .ite _ (.refl m) (.ite _ (tileStates_set m fl i _ h) (tileStates_set m fl i _ h))
  have h4 : Keeps tileStates m m4 :=
    (((hmv m _ _ _ rfl).trans (hmv m1 _ _ _ rfl)).trans (hmv m2 _ _ _ rfl)).trans (hmv m3 _ _ _ rfl)
  have h5 : Keeps tileStates m4 m5 := by
    unfold m5
    split
    · exact hmv m4 _ _ _ rfl
    · exact .refl m4
  exact (h4.trans h5).trans (tileStates_of_regs rfl)

theorem tileStates_deref (m : Mod) (id : Nat) : Keeps tileStates m (m.deref id) := by
  unfold Mod.deref
  split
  · exact .refl m
  · refine .ite _ ?_ (tileStates_of_regs rfl)
    extract_lets _ n
    have hn : Keeps tileStates m n := tileStates_of_regs rfl
    exact ((hn.trans (tileStates_lower n BUF_HEDGE_STATUS_COPIES _ _ rfl)).trans (tileStates_account _ _ false)).trans
      (tileStates_xoffUpdate _)

theorem tileStates_unqueue (m : Mod) (d : Nat) (f : Frame) : Keeps tileStates m (m.unqueue d f) :=
  (tileStates_lower m BUF_PORT_STATUS_OUT_USED d f.cells rfl).trans (tileStates_of_regs rfl)

theorem tileStates_dropCopy (m : Mod) (d : Nat) (c : Copy) (code carry : Nat) : Keeps tileStates m (m.dropCopy d c code carry) := by
  unfold Mod.dropCopy
  split
  · exact .refl m
  · rename_i f _
    extract_lets n
    have hn : Keeps tileStates m n := (told_bump m _ _).tileStates.trans (told_bump _ _ _).tileStates
    exact ((hn.trans (tileStates_clipCopyDiscard n f d code carry)).trans (tileStates_unqueue _ d f)).trans
      (tileStates_deref _ c.frame)

theorem tileStates_setLaunchQ (m : Mod) (p c : Nat) (q : List Copy) : Keeps tileStates m (m.setLaunchQ p c q) :=
  Keeps.trans (tileStates_of_regs rfl) (tileStates_set _ SCH_PORT_STATUS_LQ_FILL p _ rfl)

theorem tileStates_flushQueued (m : Mod) (d code : Nat) (which : Frame → Bool) :
    Keeps tileStates m (m.flushQueued d code which) := by
  have drops (l : List Copy) (m : Mod) : Keeps tileStates m (l.foldl (fun m' c => m'.dropCopy d c code 3) m) :=
    .foldl _ (fun m c => tileStates_dropCopy m d c code 3) l m
  unfold Mod.flushQueued
  extract_lets pick m1
  have h1 : Keeps tileStates m m1 := .foldl _ (fun m k =>
    Keeps.trans (b := m.setVoq k ((m.voq k).filter fun c => !(pick m c))) (tileStates_of_regs rfl) (drops _ _)) _ m
  refine h1.trans (.ite _ (.refl m1) (.foldl _ (fun m c => ?_) _ m1))
  exact .ite _ (.refl m) ((tileStates_setLaunchQ m d c _).trans (drops _ _))

/-! ### A port that leaves the up state -/

theorem tileStates_fdbFlush (m : Mod) (which : Nat → Bool) : Keeps tileStates m (m.fdbFlush which) := by
  unfold Mod.fdbFlush
  extract_lets gone _ m1
  have h1 : Keeps tileStates m m1 := tileStates_of_regs rfl
  exact h1.trans (.foldl _ (fun m h => .ite _ (.refl m) (told_bump m _ _).tileStates) _ m1)

theorem tileStates_flushOnDown (m : Mod) (p : Nat) : Keeps tileStates m (m.flushOnDown p) := by
  unfold Mod.flushOnDown
  extract_lets names own m1 n alive
  have h1 : Keeps tileStates m m1 := tileStates_fdbFlush m own
  exact .ite _ (h1.trans (.ite _ (.ite _ (.refl m1) (tileStates_fdbFlush m1 _)) (.refl m1))) (.refl m)

theorem tileStates_clearLink (m : Mod) (p : Nat) (signalToo : Bool) : Keeps tileStates m (m.clearLink p signalToo) := by
  unfold Mod.clearLink
  extract_lets m1
  have h1 : Keeps tileStates m m1 :=
    (((((tileStates_set m _ p 0 rfl).trans (tileStates_set _ _ p 0 rfl)).trans (tileStates_set _ _ p 0 rfl)).trans
      (tileStates_set _ _ p 0 rfl)).trans (tileStates_set _ _ p 0 rfl)).trans (tileStates_set _ _ p 0 rfl)
  refine h1.trans (.ite _ ?_ (.refl m1))
  exact (tileStates_set m1 PRT_PORT_STATUS_SIGNAL p 0 rfl).trans (.foldl _ (fun m l =>
    (tileStates_set m PRT_LANE_STATUS_SIGNAL l 0 rfl).trans (tileStates_set _ PRT_LANE_STATUS_CDR_LOCK l 0 rfl)) _ _)

theorem tileStates_leaveUp (m : Mod) (p q code : Nat) : Keeps tileStates m (m.leaveUp p q code) := by
  unfold Mod.leaveUp
  extract_lets m1 m2
  have h1 : Keeps tileStates m m1 :=
    (tileStates_set m PRT_PORT_STATUS_STATE p _ rfl).trans (tileStates_clearLink _ p _)
  have h2 : Keeps tileStates m1 m2 :=
    ((tileStates_sqc m1 PRT_PORT_EVENT_LINK_DOWN p rfl).trans (told_bump _ _ _).tileStates).trans
      (told_event _ _).tileStates
  exact (((h1.trans h2).trans (tileStates_flushQueued m2 p code _)).trans (tileStates_flushOnDown _ p)).trans
    (tileStates_xoffUpdate _)

theorem tileStates_rest (m : Mod) (p code : Nat) : Keeps tileStates m (m.rest p code) := by
  unfold Mod.rest
  exact .ite _ (tileStates_leaveUp m p 4 code) (((tileStates_set m PRT_PORT_STATUS_STATE p _ rfl).trans
    (tileStates_set _ PRT_PORT_STATUS_AN_DONE p 0 rfl)).trans (tileStates_set _ PRT_PORT_STATUS_LT_DONE p 0 rfl))

/-! ### The tile -/

theorem setTile_state (m : Mod) (t state : Nat) (h : state < 8) : (m.setTile t state).get PRT_TILE_STATUS_STATE t = state := by
  unfold Mod.setTile
  split
  · assumption
  · have kept : Keeps tileStates (m.set PRT_TILE_STATUS_STATE t state)
        (((m.set PRT_TILE_STATUS_STATE t state).sqc PRT_TILE_EVENT_STATE_CHANGE t).event
          { blk := 0x05, code := 0x08, hedge := m.owner (16 * t), detail := 16 * t * 256 + state, rings := [m.owner (16 * t), 0] }) :=
      (tileStates_sqc _ PRT_TILE_EVENT_STATE_CHANGE t rfl).trans (told_event _ _).tileStates
    rw [get_of_tileStates kept t, get_set _ _ _ _ (by decide)]
    exact Nat.mod_eq_of_lt h

/-- A tile that stops takes its state, and its ports' rest leaves it (R57). -/
theorem tileStops_state (m : Mod) (t state : Nat) (h : state < 8) : (m.tileStops t state).get PRT_TILE_STATUS_STATE t = state := by
  unfold Mod.tileStops
  extract_lets _ m1
  refine (get_of_tileStates (.foldl _ (fun m p => .ite _ (.refl m) ?_) _ m1) t).trans (setTile_state _ t state h)
  refine Keeps.trans ?_ (tileStates_rest _ p 10)
  exact tileStates_of_regs rfl

end Sys2Proof.Machine
end

section
/-! SUPPORT. The gasp, the temperature, the clock domains and the NVM devices (R16, R430, R431, R477, R522, R523): what each part of
GASP_TRIGGER, THERMAL_STATE, THERMAL_TRIP, DOMAIN_FAILURE, DOMAIN_RETURN and DEVICE_LOST leaves of the state. -/

namespace Sys2Proof.Machine

/-! ### REFCLK, the paths and the latched status -/

@[simp] theorem setRefclk_regs (m : Mod) (on : Bool) : (m.setRefclk on).regs = m.regs := by
  unfold Mod.setRefclk
  split <;> simp

@[simp] theorem setRefclk_pwr (m : Mod) (on : Bool) : (m.setRefclk on).pwr = m.pwr := by
  unfold Mod.setRefclk
  split <;> simp

@[simp] theorem setRefclk_nvm (m : Mod) (on : Bool) : (m.setRefclk on).nvm = m.nvm := by
  unfold Mod.setRefclk
  split <;> simp

@[simp] theorem setRefclk_refclk (m : Mod) (on : Bool) : (m.setRefclk on).pin.refclk = on := by
  unfold Mod.setRefclk
  split <;> simp [*]

@[simp] theorem setPath_pwr (m : Mod) (f : Nat) (out inp : Bool) : (m.setPath f out inp).pwr = m.pwr := by simp [Mod.setPath]

@[simp] theorem setPath_nvm (m : Mod) (f : Nat) (out inp : Bool) : (m.setPath f out inp).nvm = m.nvm := by simp [Mod.setPath]

theorem get_setPath_out (m : Mod) (f : Nat) (out inp : Bool) : (m.setPath f out inp).get PWR_FEED_OUT_ON f = b01 out := by
  unfold Mod.setPath
  rw [get_set_field (f := PWR_FEED_IN_ON) (g := PWR_FEED_OUT_ON) (hr := rfl) (h := by decide) (hd := by decide),
    get_set _ _ _ _ (by decide)]
  cases out <;> rfl

theorem get_setPath_in (m : Mod) (f : Nat) (out inp : Bool) : (m.setPath f out inp).get PWR_FEED_IN_ON f = b01 inp := by
  unfold Mod.setPath
  rw [get_set _ _ _ _ (by decide)]
  cases inp <;> rfl

/-- The path of one feed is not the other's. -/
theorem get_setPath_other (m : Mod) {f g : Nat} (out inp : Bool) (fl : Fld) (h : fl.reg.addr g ≠ Reg.addr .PWR_FEED f) :
    (m.setPath f out inp).get fl g = m.get fl g := by
  unfold Mod.setPath Mod.get
  congr 1
  exact (rd_wr_addr _ .PWR_FEED _ f g _ h).trans (rd_wr_addr _ .PWR_FEED _ f g _ h)

/-- The latch of the STATUS bits touches these bits alone (R471, R479). -/
theorem statusLatch_eq (m : Mod) : ∃ a b t ma mb mm, m.statusLatch =
    m.withPwr { m.pwr with inputA := a, inputB := b, temp := t, mfrA := ma, mfrB := mb, mfrM := mm } := by
  unfold Mod.statusLatch
  split
  · exact ⟨m.pwr.inputA, m.pwr.inputB, m.pwr.temp, m.pwr.mfrA, m.pwr.mfrB, m.pwr.mfrM, rfl⟩
  · exact ⟨_, _, _, _, _, _, rfl⟩

@[simp] theorem statusLatch_regs (m : Mod) : m.statusLatch.regs = m.regs := by
  obtain ⟨a, b, t, ma, mb, mm, h⟩ := statusLatch_eq m
  rw [h, withPwr_regs]

@[simp] theorem statusLatch_nvm (m : Mod) : m.statusLatch.nvm = m.nvm := by
  obtain ⟨a, b, t, ma, mb, mm, h⟩ := statusLatch_eq m
  rw [h, withPwr_nvm]

@[simp] theorem statusLatch_int (m : Mod) : m.statusLatch.int = m.int := by
  obtain ⟨a, b, t, ma, mb, mm, h⟩ := statusLatch_eq m
  rw [h, withPwr_int]

@[simp] theorem statusLatch_boot (m : Mod) : m.statusLatch.boot = m.boot := by
  obtain ⟨a, b, t, ma, mb, mm, h⟩ := statusLatch_eq m
  rw [h, withPwr_boot]

/-- The latch leaves what runs, and the marks of the temperature (R522). -/
theorem statusLatch_marks (m : Mod) : m.statusLatch.pwr.down = m.pwr.down ∧ m.statusLatch.pwr.warmTj = m.pwr.warmTj ∧
    m.statusLatch.pwr.warmTcp = m.pwr.warmTcp ∧ m.statusLatch.pwr.hotTj = m.pwr.hotTj ∧ m.statusLatch.pwr.hotTcp = m.pwr.hotTcp := by
  obtain ⟨a, b, t, ma, mb, mm, h⟩ := statusLatch_eq m
  rw [h, withPwr_pwr]
  exact ⟨rfl, rfl, rfl, rfl, rfl⟩

/-! ### The gasp record -/

/-- The gasp sector of NVM-A, and what says whether the device answers. -/
def gaspState (m : Mod) : Option (List Byte) × IntSt × BootSt := (m.nvm.gaspA, m.int, m.boot)

theorem keeps_gaspState_iff {m n : Mod} :
    Keeps gaspState m n ↔ n.nvm.gaspA = m.nvm.gaspA ∧ n.int = m.int ∧ n.boot = m.boot := by
  simp [Keeps, gaspState]

theorem gaspState_worn (m : Mod) (d first n : Nat) : Keeps gaspState m (m.worn d first n) := by
  simp [keeps_gaspState_iff, Mod.worn]

theorem gaspState_journalAt (m : Mod) (d used seq : Nat) : Keeps gaspState m (m.journalAt d used seq) := by
  unfold Mod.journalAt
  by_cases h : d = 0 <;> simp [keeps_gaspState_iff, h]

theorem gaspState_journalled (m : Mod) (d : Nat) : Keeps gaspState m (m.journalled d) := by
  unfold Mod.journalled
  extract_lets used seq sect other
  split
  · exact gaspState_journalAt m d used seq
  · refine ((gaspState_worn m d (2 + other) 1).trans (gaspState_journalAt _ d 1 (seq + 3))).trans ?_
    simp [keeps_gaspState_iff]

theorem gaspState_slotCut (m : Mod) (n s : Nat) (l : List Byte) : Keeps gaspState m (m.slotCut n s l) := by
  unfold Mod.slotCut
  extract_lets r n1
  have h0 : Keeps gaspState m r.2 := by simp [keeps_gaspState_iff, r]
  have h1 : Keeps gaspState r.2 n1 := (gaspState_worn _ _ _ _).trans (gaspState_journalled _ s)
  exact (h0.trans h1).trans (keeps_gaspState_iff.mpr ⟨rfl, rfl, rfl⟩)

/-- A write in progress that is cut short leaves the gasp sectors (R427, R430). -/
theorem gaspState_writeCut (m : Mod) : Keeps gaspState m m.writeCut := by
  unfold Mod.writeCut
  split
  · split
    · exact Keeps.refl m
    · exact gaspState_slotCut m _ _ _
  · exact Keeps.refl m

theorem deviceOk_of_gaspState {m n : Mod} (h : Keeps gaspState m n) (d : Nat) : n.deviceOk d = m.deviceOk d := by
  obtain ⟨-, hint, hboot⟩ := keeps_gaspState_iff.mp h
  unfold Mod.deviceOk Mod.nvmLost
  rw [hint, hboot]

/-- What a gasp needs of NVM-A it still has. -/
theorem gaspReady_of_gaspState {m n : Mod} (h : Keeps gaspState m n) (hok : m.deviceOk 0 = true) (hblank : m.nvm.gaspA = none) :
    n.deviceOk 0 = true ∧ n.nvm.gaspA = none :=
  ⟨(deviceOk_of_gaspState h 0).trans hok, (keeps_gaspState_iff.mp h).1.trans hblank⟩

/-- The blank sector of an NVM-A in service takes the record (R430). -/
theorem gaspWritten_takes {m : Mod} (hok : m.deviceOk 0 = true) (hblank : m.nvm.gaspA = none) :
    m.gaspWritten.nvm.gaspA.isSome = true := by
  obtain ⟨hok', hblank'⟩ := gaspReady_of_gaspState (gaspState_writeCut m) hok hblank
  simp [Mod.gaspWritten, hok', hblank']

/-! ### GASP_TRIGGER -/

@[simp] theorem pwrEvent_nvm (m : Mod) (code feed q : Nat) : (m.pwrEvent code feed q).nvm = m.nvm := by
  unfold Mod.pwrEvent
  split <;> simp

theorem holdRelease_eq (m : Mod) : m.holdRelease =
    (((m.withPwr { m.pwr with holdEnd := none }).set PWR_STATUS_HOLD 0 0).set PWR_STATUS_TRANSFER 0 0).statusLatch := rfl

/-- The release of the held outputs leaves NVM and what runs (R471, R472). -/
theorem gaspState_holdRelease (m : Mod) : Keeps gaspState m m.holdRelease := by
  rw [holdRelease_eq]
  simp [keeps_gaspState_iff]

theorem holdRelease_down (m : Mod) : m.holdRelease.pwr.down = m.pwr.down := by
  rw [holdRelease_eq, (statusLatch_marks _).1, set_pwr, set_pwr, withPwr_pwr]

/-- The module as the rails shut down. -/
def Mod.railsDown (m : Mod) : Mod :=
  let n := m.withPwr { m.pwr with down := .rails, page := 2, holdEnd := none, restartEnd := none, fatals := [] }
  (((n.setPath 0 false false).setPath 1 false false).set BOOT_STATUS_STAGE 0 0).setRefclk false

@[simp] theorem railsDown_nvm (m : Mod) : m.railsDown.nvm = m.nvm := by simp [Mod.railsDown]

theorem railsDown_pwr (m : Mod) : m.railsDown.pwr =
    { m.pwr with down := .rails, page := 2, holdEnd := none, restartEnd := none, fatals := [] } := by simp [Mod.railsDown]

theorem railsDown_stage (m : Mod) : m.railsDown.get BOOT_STATUS_STAGE = 0 := by
  unfold Mod.railsDown
  rw [get_of_regs (setRefclk_regs _ _), get_set _ _ _ _ (by decide), Nat.zero_mod]

/-- Both stages of both paths are open (R477). -/
theorem railsDown_paths (m : Mod) {f : Nat} (hf : f < 2) :
    m.railsDown.flag PWR_FEED_OUT_ON f = false ∧ m.railsDown.flag PWR_FEED_IN_ON f = false := by
  have two : f = 0 ∨ f = 1 := by omega
  have past (n : Mod) (fl : Fld) (h : fl.reg.apart .BOOT_STATUS = true) (g : Nat) :
      ((n.set BOOT_STATUS_STAGE 0 0).setRefclk false).get fl g = n.get fl g :=
    (get_of_regs (setRefclk_regs _ _) fl g).trans (get_set_ne n _ fl 0 g 0 h)
  unfold Mod.railsDown
  rcases two with rfl | rfl
  · refine ⟨flag_of_get (v := 0) ?_, flag_of_get (v := 0) ?_⟩
    · rw [past _ _ rfl, get_setPath_other _ _ _ _ (by decide), get_setPath_out]; rfl
    · rw [past _ _ rfl, get_setPath_other _ _ _ _ (by decide), get_setPath_in]; rfl
  · refine ⟨flag_of_get (v := 0) ?_, flag_of_get (v := 0) ?_⟩
    · rw [past _ _ rfl, get_setPath_out]; rfl
    · rw [past _ _ rfl, get_setPath_in]; rfl

/-- The held outputs released, and what the die still does: the record, which the AON domain builds, and BOTH_LOST. -/
def Mod.lastGasp (m : Mod) : Mod :=
  let n := if m.pcHold then m.holdRelease else m
  if !n.dieUp then n else (if n.aonOut then n else n.gaspWritten).pwrEvent 0x06 0 0

theorem gaspTrigger_eq {m : Mod} (h : m.pwr.down ≠ .rails) : m.gaspTrigger = m.lastGasp.railsDown := by
  unfold Mod.gaspTrigger
  rw [if_neg h]
  rfl

theorem lastGasp_takes {m : Mod} (hdie : m.dieUp = true) (haon : m.aonOut = false) (hok : m.deviceOk 0 = true)
    (hblank : m.nvm.gaspA = none) : m.lastGasp.nvm.gaspA.isSome = true := by
  unfold Mod.lastGasp
  extract_lets n
  have kept : Keeps gaspState m n := by
    unfold n
    split
    · exact gaspState_holdRelease m
    · exact Keeps.refl m
  have hdown : n.pwr.down = m.pwr.down := by
    unfold n
    split
    · exact holdRelease_down m
    · rfl
  have hdie' : n.dieUp = true := by rw [← hdie, Mod.dieUp, Mod.dieUp, hdown]
  have haon' : n.aonOut = false := by rw [← haon, Mod.aonOut, Mod.aonOut, (keeps_gaspState_iff.mp kept).2.2]
  obtain ⟨hok', hblank'⟩ := gaspReady_of_gaspState kept hok hblank
  simpa [hdie', haon'] using gaspWritten_takes hok' hblank'

/-! ### THERMAL_STATE and THERMAL_TRIP -/

theorem unsigned_lt (w : Nat) (i : Int) : unsigned w i < 2 ^ w := by
  unfold unsigned
  have := Int.emod_lt_of_pos i (b := ((2 ^ w : Nat) : Int)) (by positivity)
  have := Int.emod_nonneg i (b := ((2 ^ w : Nat) : Int)) (by positivity)
  omega

theorem tempShown_get (m : Mod) (tj tcp : Int) : (m.tempShown tj tcp).get AGE_TEMP_TJ_MAX = unsigned 16 tj ∧
    (m.tempShown tj tcp).get AGE_TEMP_COLD_PLATE = unsigned 16 tcp := by
  unfold Mod.tempShown
  rw [get_set_field (f := AGE_TEMP_COLD_PLATE) (g := AGE_TEMP_TJ_MAX) (hr := rfl) (h := by decide) (hd := by decide),
    get_set _ _ _ _ (by decide), get_set _ _ _ _ (by decide)]
  exact ⟨Nat.mod_eq_of_lt (unsigned_lt 16 tj), Nat.mod_eq_of_lt (unsigned_lt 16 tcp)⟩

theorem thermalState_suspended {m : Mod} (h : m.aonOut = true) (tj tcp : Int) : m.thermalState tj tcp = m := by
  simp [Mod.thermalState, h]

theorem thermalTrip_suspended {m : Mod} (h : m.aonOut = true) (tj tcp : Int) : m.thermalTrip tj tcp = m := by
  simp [Mod.thermalTrip, h]

theorem thermalTrip_cool {tj tcp : Int} (hj : tj < 1180) (hc : tcp < 650) (m : Mod) : m.thermalTrip tj tcp = m := by
  simp [Mod.thermalTrip, hj, hc]

/-- The module as a trip shuts the die down (R523). -/
def Mod.tripped (m : Mod) : Mod := ((m.withPwr { m.pwr with down := .trip }).statusLatch).setRefclk false

theorem tripped_down (m : Mod) : m.tripped.pwr.down = .trip := by
  rw [Mod.tripped, setRefclk_pwr, (statusLatch_marks _).1, withPwr_pwr]

theorem tripped_nvm (m : Mod) : m.tripped.nvm = m.nvm := by
  rw [Mod.tripped, setRefclk_nvm, statusLatch_nvm, withPwr_nvm]

theorem tripped_refclk (m : Mod) : m.tripped.pin.refclk = false := setRefclk_refclk _ false

theorem thermalTrip_eq (m : Mod) (tj tcp : Int) : m.thermalTrip tj tcp =
    if !m.dieUp || m.aonOut || (decide (tj < 1180) && decide (tcp < 650)) then m
    else (m.tempShown tj tcp).gaspWritten.tripped := rfl

theorem thermalTrip_hot {m : Mod} (hdie : m.dieUp = true) (haon : m.aonOut = false) {tj tcp : Int} (h : 1180 ≤ tj ∨ 650 ≤ tcp) :
    m.thermalTrip tj tcp = (m.tempShown tj tcp).gaspWritten.tripped := by
  have hot : (decide (tj < 1180) && decide (tcp < 650)) = false := by
    simp only [Bool.and_eq_false_iff, decide_eq_false_iff_not, not_lt]
    exact h
  rw [thermalTrip_eq, hdie, haon, hot, if_neg (by decide)]

/-- What shows the temperatures leaves what the gasp record needs. -/
theorem gaspState_tempShown (m : Mod) (tj tcp : Int) : Keeps gaspState m (m.tempShown tj tcp) := by
  simp [keeps_gaspState_iff, Mod.tempShown]

/-- The marks of the temperature, each with its hysteresis (R522). -/
def PwrSt.marked (p : PwrSt) (tj tcp : Int) : PwrSt :=
  { p with warmTj := beyond p.warmTj tj 950, warmTcp := beyond p.warmTcp tcp 450,
           hotTj := beyond p.hotTj tj 1050, hotTcp := beyond p.hotTcp tcp 550 }

theorem thermalState_eq (m : Mod) (tj tcp : Int) : m.thermalState tj tcp =
    if m.aonOut then m else ((m.tempShown tj tcp).withPwr (m.pwr.marked tj tcp)).statusLatch := rfl

theorem thermalState_shown {m : Mod} (haon : m.aonOut = false) (tj tcp : Int) :
    m.thermalState tj tcp = ((m.tempShown tj tcp).withPwr (m.pwr.marked tj tcp)).statusLatch := by
  rw [thermalState_eq, haon, if_neg (by decide)]

/-! ### DOMAIN_FAILURE -/

theorem contains_insertNat (l : List Nat) (x : Nat) : (insertNat l x).contains x = true := by
  induction l with
  | nil => simp [insertNat]
  | cons y t ih =>
    unfold insertNat
    split
    · simp
    · split
      · simp [*]
      · simp only [List.contains_cons, ih, Bool.or_true]

theorem contains_eraseNat (l : List Nat) (x : Nat) : (eraseNat l x).contains x = false := by
  simp [eraseNat]

/-- The module with domain d out of service. -/
def Mod.domainOut (m : Mod) (d : Nat) : Mod := m.withBoot { m.boot with domOut := insertNat m.boot.domOut d }

/-- The module with domain d back in service. -/
def Mod.domainBack (m : Mod) (d : Nat) : Mod := m.withBoot { m.boot with domOut := eraseNat m.boot.domOut d }

theorem domainFailure_none {m : Mod} {d : Nat} (h : m.boot.domOut.contains d = true ∨ d = 0 ∨ (14 ≤ d ∧ d ≤ 17)) :
    m.domainFailure d = m := by
  unfold Mod.domainFailure
  exact if_pos h

/-- What the loss of domain d takes with it. -/
def Mod.clocksLost (m : Mod) (d : Nat) : Mod :=
  if d ≤ 8 then m.tileStops (d - 1) 3
  else if d ≤ 12 then m.clusterLost (d - 9)
  else match d with
    | 13 => m.supervisorLost
    | 18 => m.functionReset 0
    | 24 => m.withTime { m.time with monitorUp := false }
    | _ => m

/-- A domain that is in service, and whose loss no other command brings, fails (R16, R482). -/
theorem domainFailure_eq {m : Mod} {d : Nat} (hin : m.boot.domOut.contains d = false) (h0 : d ≠ 0) (hoth : ¬ (14 ≤ d ∧ d ≤ 17)) :
    m.domainFailure d = (m.domainOut d).clocksLost d := by
  unfold Mod.domainFailure
  rw [if_neg (by rw [hin]; simp only [Bool.false_eq_true, h0, hoth, or_self, not_false_eq_true])]
  rfl

theorem clocksLost_tile {d : Nat} (h : d ≤ 8) (m : Mod) : m.clocksLost d = m.tileStops (d - 1) 3 := by
  unfold Mod.clocksLost
  exact if_pos h

theorem clocksLost_cluster {d : Nat} (h9 : 9 ≤ d) (h12 : d ≤ 12) (m : Mod) : m.clocksLost d = m.clusterLost (d - 9) := by
  unfold Mod.clocksLost
  exact (if_neg (by omega)).trans (if_pos h12)

theorem clocksLost_supervisor (m : Mod) : m.clocksLost 13 = m.supervisorLost := by
  simp [Mod.clocksLost]

theorem clocksLost_pcie (m : Mod) : m.clocksLost 18 = m.functionReset 0 := by
  simp [Mod.clocksLost]

theorem clocksLost_reference (m : Mod) : m.clocksLost 24 = m.withTime { m.time with monitorUp := false } := by
  simp [Mod.clocksLost]

/-- The other domains suspend what they clock, and nothing more happens at once (R16). -/
theorem clocksLost_none {d : Nat} (h19 : 19 ≤ d) (h24 : d ≠ 24) (m : Mod) : m.clocksLost d = m := by
  unfold Mod.clocksLost
  refine (if_neg (by omega)).trans ((if_neg (by omega)).trans ?_)
  split
  · omega
  · omega
  · omega
  · rfl

theorem headless_raised (m : Mod) (e : Ev) :
    (((m.set GLB_STATUS_HEADLESS 0 1).sqc GLB_EVENT_DEGRADED).event e).flag GLB_STATUS_HEADLESS = true := by
  refine flag_of_get (v := 1) ?_
  rw [event_get _ _ _ _ rfl, Mod.sqc, get_sqcBit_ne _ _ _ _ _ _ rfl, get_set _ _ _ _ (by decide)]
  rfl

theorem headless_raised_boot (m : Mod) (e : Ev) :
    (((m.set GLB_STATUS_HEADLESS 0 1).sqc GLB_EVENT_DEGRADED).event e).boot = m.boot := by
  rw [event_boot, sqc_boot, set_boot]

theorem supervisorLost_eq (m : Mod) : m.supervisorLost = if m.flag GLB_STATUS_HEADLESS then m else
    (((m.withBoot { m.boot with absentAt := some m.absNow }).set GLB_STATUS_HEADLESS 0 1).sqc GLB_EVENT_DEGRADED).event
      (glbEv 0x0B 1) := rfl

theorem supervisorLost_headless (m : Mod) : m.supervisorLost.flag GLB_STATUS_HEADLESS = true := by
  rw [supervisorLost_eq]
  split
  · assumption
  · exact headless_raised _ _

theorem supervisorLost_domOut (m : Mod) : m.supervisorLost.boot.domOut = m.boot.domOut := by
  rw [supervisorLost_eq]
  split
  · rfl
  · rw [headless_raised_boot, withBoot_boot]

/-- The loss of the supervisor, or of what a domain from 19 on clocks, leaves the domains that are out. -/
theorem clocksLost_domOut {d : Nat} (h : d = 13 ∨ 19 ≤ d) (m : Mod) : (m.clocksLost d).boot.domOut = m.boot.domOut := by
  rcases h with rfl | h
  · rw [clocksLost_supervisor, supervisorLost_domOut]
  · by_cases h24 : d = 24
    · rw [h24, clocksLost_reference, withTime_boot]
    · rw [clocksLost_none (by omega) h24]

/-- A cluster takes the state it says it takes (R291). -/
theorem setClusterState_state (m : Mod) (c : Nat) {st : Nat} (h : st < 8) :
    (m.setClusterState c st).get ENG_CLUSTER_STATUS_STATE c = st := by
  unfold Mod.setClusterState Mod.engEvent
  rw [event_get _ _ _ _ rfl, Mod.sqc, get_sqcBit_ne _ _ _ _ _ _ rfl, get_set _ _ _ _ (by decide)]
  exact Nat.mod_eq_of_lt h

theorem clusterLost_state {m : Mod} {c : Nat} (h : (m.cl c).lost = false) :
    (m.clusterLost c).get ENG_CLUSTER_STATUS_STATE c = 4 := by
  unfold Mod.clusterLost
  rw [if_neg (by simp [h])]
  exact setClusterState_state _ c (by decide)

end Sys2Proof.Machine
end

section
/-! SUPPORT. What a new selection of the time reference leaves (R16, R203, R210, R216),
and that no event brings an NVM device back (R431). -/

namespace Sys2Proof.Machine

/-! ### The selection of a reference -/

/-- The boot state, which holds the domains, and the monitor of REF. -/
def monitorState (m : Mod) : BootSt × Bool := (m.boot, m.time.monitorUp)

theorem keeps_monitorState_iff {m n : Mod} :
    Keeps monitorState m n ↔ n.boot = m.boot ∧ n.time.monitorUp = m.time.monitorUp := by
  simp [Keeps, monitorState]

theorem Told.monitorState {m n : Mod} (h : Told m n) : Keeps monitorState m n :=
  keeps_monitorState_iff.mpr ⟨h.boot, congrArg TimeSt.monitorUp h.time⟩

theorem monitorState_set (m : Mod) (f : Fld) (i v : Nat) : Keeps monitorState m (m.set f i v) := by
  simp [keeps_monitorState_iff]

theorem monitorState_sqc (m : Mod) (f : Fld) (i : Nat) : Keeps monitorState m (m.sqc f i) := by
  simp [keeps_monitorState_iff]

theorem monitorState_withTime (m : Mod) {x : TimeSt} (h : x.monitorUp = m.time.monitorUp) : Keeps monitorState m (m.withTime x) := by
  simp [keeps_monitorState_iff, h]

theorem monitorState_withSch (m : Mod) (x : SchSt) : Keeps monitorState m (m.withSch x) := rfl

theorem monitorState_setWord (m : Mod) (w : Int) : Keeps monitorState m (m.setWord w) := monitorState_withTime m rfl

theorem monitorState_holdWord (m : Mod) (code : Nat) (word : Int) : Keeps monitorState m (m.holdWord code word) := by
  unfold Mod.holdWord
  extract_lets words w
  exact (monitorState_setWord m w).trans (monitorState_set _ _ _ _)

theorem monitorState_pllUpdate (m : Mod) : Keeps monitorState m m.pllUpdate := by
  unfold Mod.pllUpdate
  extract_lets old new n word
  have hn : Keeps monitorState m n := monitorState_set m _ _ _
  exact .ite _ (.refl m) (hn.trans (.ite _ (.refl n) (.ite _ (monitorState_holdWord n new word) (monitorState_setWord n word))))

theorem monitorState_gateOverruns (m before : Mod) (p : Nat) : Keeps monitorState m (m.gateOverruns before p) := by
  unfold Mod.gateOverruns
  split
  · extract_lets c
    refine .ite _ ?_ (.refl m)
    exact ((told_bump m _ _).monitorState.trans (monitorState_sqc _ _ _)).trans (told_eventRated _ _ _).monitorState
  · exact .refl m

theorem monitorState_holdUpdate (m : Mod) (p : Nat) : Keeps monitorState m (m.holdUpdate p) := by
  unfold Mod.holdUpdate
  extract_lets want m1 _ m2
  have h1 : Keeps monitorState m m1 := monitorState_set m _ _ _
  have h2 : Keeps monitorState m1 m2 := .ite _ (monitorState_withSch m1 _) (.refl m1)
  exact .ite _ (.refl m) (((h1.trans h2).trans (monitorState_sqc m2 _ _)).trans (told_event _ _).monitorState)

theorem monitorState_ppsGate (m : Mod) : Keeps monitorState m m.ppsGate := by
  unfold Mod.ppsGate
  exact .ite _ (.refl m) (monitorState_withTime m rfl)

theorem monitorState_usableUpdate (m : Mod) : Keeps monitorState m m.usableUpdate := by
  unfold Mod.usableUpdate
  extract_lets before m1 m2
  have h1 : Keeps monitorState m m1 := monitorState_set m _ _ _
  have h2 : Keeps monitorState m1 m2 := .foldl _ (fun m (e : Nat × Tx) => monitorState_gateOverruns m before e.1) _ m1
  exact ((h1.trans h2).trans (.foldl _ monitorState_holdUpdate _ m2)).trans (monitorState_ppsGate _)

theorem monitorState_setTstate (m : Mod) (new : Nat) : Keeps monitorState m (m.setTstate new) := by
  unfold Mod.setTstate
  extract_lets old m1 _ m2 m3 _ m4
  have h2 : Keeps monitorState m m2 := (monitorState_set m _ _ _).trans (monitorState_withTime m1 rfl)
  have h4 : Keeps monitorState m2 m4 := by
    refine .ite _ ?_ (.refl m2)
    exact (((told_bump m2 _ _).monitorState.trans (monitorState_set _ _ _ _)).trans (monitorState_withTime m3 rfl)).trans
      (monitorState_holdWord _ _ _)
  exact .ite _ (.refl m) ((((h2.trans h4).trans (monitorState_usableUpdate m4)).trans (monitorState_sqc _ _ _)).trans
    (told_event _ _).monitorState)

theorem monitorState_selectRef (m : Mod) (new : Nat) : Keeps monitorState m (m.selectRef new) := by
  unfold Mod.selectRef
  extract_lets old m1 _ m2 m3 _ m4
  have h1 : Keeps monitorState m m1 := (monitorState_set m _ _ _).trans (monitorState_set _ _ _ _)
  have h2 : Keeps monitorState m1 m2 := monitorState_withTime m1 rfl
  have h3 : Keeps monitorState m2 m3 := .ite _ (monitorState_setWord m2 _) (.refl m2)
  have h4 : Keeps monitorState m3 m4 := monitorState_withTime m3 rfl
  exact .ite _ (.refl m) (((((h1.trans h2).trans h3).trans h4).trans
    ((told_bump m4 _ _).monitorState.trans (monitorState_sqc _ _ _))).trans (told_event _ _).monitorState)

theorem monitorState_lostReference (m : Mod) : Keeps monitorState m m.lostReference := by
  unfold Mod.lostReference
  exact .ite _ (.refl m) (.ite _ (monitorState_setTstate m 0) (.ite _ (monitorState_setTstate m 3) (.refl m)))

theorem monitorState_reselect (m : Mod) : Keeps monitorState m m.reselect := by
  unfold Mod.reselect
  exact .ite _ (((monitorState_selectRef m _).trans (monitorState_lostReference _)).trans (monitorState_pllUpdate _)) (.refl m)

/-! ### DOMAIN_RETURN -/

theorem domainReturn_eq (m : Mod) (d : Nat) : m.domainReturn d =
    if !(m.boot.domOut.contains d) then m
    else if 1 ≤ d ∧ d ≤ 8 then
      (if (m.domainBack d).get PRT_TILE_CTL_STATE_REQ (d - 1) = 0 then (m.domainBack d).tileWakeReq (d - 1) true else m.domainBack d)
    else if d = 24 then ((m.domainBack d).withTime { m.time with monitorUp := true }).reselect
    else m.domainBack d := rfl

theorem domainReturn_none {m : Mod} {d : Nat} (h : m.boot.domOut.contains d = false) : m.domainReturn d = m := by
  rw [domainReturn_eq, h, if_pos (by decide)]

theorem setTile_boot (m : Mod) (t state : Nat) : (m.setTile t state).boot = m.boot := by
  unfold Mod.setTile
  split
  · rfl
  · rw [event_boot, sqc_boot, set_boot]

theorem tileWakeReq_boot (m : Mod) (t : Nat) (host : Bool) : (m.tileWakeReq t host).boot = m.boot := by
  unfold Mod.tileWakeReq
  split
  · rw [withPrt_boot]
  · extract_lets _ n
    rw [setTile_boot, wr_boot]
    exact withPrt_boot m _

section
variable {m : Mod} {d : Nat} (hout : m.boot.domOut.contains d = true)
include hout

theorem domainReturn_plain (hd : d = 0 ∨ 9 ≤ d) (h24 : d ≠ 24) : m.domainReturn d = m.domainBack d := by
  rw [domainReturn_eq, hout, if_neg (by decide), if_neg (by omega), if_neg h24]

theorem domainReturn_reference (h24 : d = 24) :
    m.domainReturn d = ((m.domainBack d).withTime { m.time with monitorUp := true }).reselect := by
  rw [domainReturn_eq, hout, if_neg (by decide), if_neg (by omega), if_pos h24]

theorem domainReturn_tile (h1 : 1 ≤ d) (h8 : d ≤ 8) : m.domainReturn d =
    if m.get PRT_TILE_CTL_STATE_REQ (d - 1) = 0 then (m.domainBack d).tileWakeReq (d - 1) true else m.domainBack d := by
  rw [domainReturn_eq, hout, if_neg (by decide), if_pos ⟨h1, h8⟩]
  rfl

end

/-! ### NVM devices -/

/-- The devices that have stopped answering. -/
def lostDevices (m : Mod) : List Nat := m.int.nvmLost

theorem nvmLost_of_lostDevices {m n : Mod} (h : Keeps lostDevices m n) (d : Nat) : n.nvmLost d = m.nvmLost d :=
  congrArg (List.contains · d) h

theorem lostDevices_of_int {m n : Mod} (h : n.int = m.int) : Keeps lostDevices m n := congrArg IntSt.nvmLost h

theorem lostDevices_writeModes (m : Mod) (ch : Nat) : Keeps lostDevices m (m.writeModes ch) := by
  unfold Mod.writeModes
  refine .foldl _ (fun m s => ?_) _ m
  extract_lets
  exact .ite _ (.refl m) (lostDevices_of_int rfl)

theorem lostDevices_drmQueue (m : Mod) (who : Requester) (h a : Nat) (w : Bool) (ch : Nat) :
    Keeps lostDevices m (m.drmQueue who h a w ch) := by
  unfold Mod.drmQueue
  extract_lets g r n
  have hn : Keeps lostDevices m n := by
    refine .ite _ (.refl m) ?_
    unfold Mod.vjoin
    exact .ite _ (.refl m) (lostDevices_of_int rfl)
  refine .ite _ (.refl m) (hn.trans (Keeps.trans ?_ (lostDevices_writeModes _ ch)))
  exact lostDevices_of_int rfl

/-- A store in SDRAM mends granules, and no device (R437). -/
theorem lostDevices_drmPost (m : Mod) (who : Requester) (h a : Nat) (bs : List Byte) : Keeps lostDevices m (m.drmPost who h a bs) := by
  unfold Mod.drmPost
  refine Keeps.trans ?_ (.foldl _ (fun m k => .foldl _ (fun m c => lostDevices_drmQueue m _ _ _ _ c) _ m) _ _)
  exact Eq.refl m.int.nvmLost

theorem lostDevices_ringStore (m : Mod) (h off : Nat) (bs : List Byte) : Keeps lostDevices m (m.ringStore h off bs) := by
  unfold Mod.ringStore
  extract_lets
  split
  · exact lostDevices_drmPost m _ _ _ bs
  · exact .ite _ (lostDevices_of_int (emit_int m _)) (.refl m)
  · exact .ite _ (lostDevices_of_int (emit_int m _)) (.refl m)

theorem lostDevices_set (m : Mod) (f : Fld) (i v : Nat) : Keeps lostDevices m (m.set f i v) := lostDevices_of_int (set_int m f i v)

theorem lostDevices_withEvt (m : Mod) (x : EvtSt) : Keeps lostDevices m (m.withEvt x) := rfl

theorem lostDevices_pfCause (m : Mod) (v : Nat) : Keeps lostDevices m (m.pfCause v) :=
  (lostDevices_of_int (sqcBit_int m EVT_IRQ_STATUS_PEND v 0)).trans (lostDevices_withEvt _ _)

theorem lostDevices_hedgeCause (m : Mod) (h n : Nat) : Keeps lostDevices m (m.hedgeCause h n) := by
  unfold Mod.hedgeCause
  exact .ite _ (lostDevices_pfCause m h) (lostDevices_withEvt m _)

theorem lostDevices_ringOffer (m : Mod) (h : Nat) (e : Ev) : Keeps lostDevices m (m.ringOffer h e) := by
  have written : Keeps lostDevices m (m.ringWrite h e) := by
    unfold Mod.ringWrite
    extract_lets prod rec128 m1 m2 m3 m4
    have h2 : Keeps lostDevices m m2 := (lostDevices_ringStore m _ _ _).trans (lostDevices_set m1 _ _ _)
    have h3 : Keeps lostDevices m2 m3 := .ite _ (.refl m2) (lostDevices_ringStore m2 _ _ _)
    have h4 : Keeps lostDevices m3 m4 := lostDevices_set m3 _ _ _
    exact ((h2.trans h3).trans h4).trans (lostDevices_hedgeCause m4 h 0)
  unfold Mod.ringOffer
  exact .ite _ ((lostDevices_of_int (satAdd_int m EVT_RING_STATUS_DROPPED h 1)).trans (lostDevices_withEvt _ _))
    (written.trans (lostDevices_withEvt _ _))

theorem lostDevices_eventRings (m : Mod) (e : Ev) : Keeps lostDevices m (m.eventRings e) := by
  unfold Mod.eventRings
  extract_lets m1
  have h1 : Keeps lostDevices m m1 := .foldl _ (fun m h => lostDevices_ringOffer m h e) _ m
  split
  · exact h1.trans (lostDevices_pfCause m1 _)
  · exact h1

theorem lostDevices_evDrop (m : Mod) (c : Nat) (say : Mod → Ev → Mod) (h : ∀ m e, Keeps lostDevices m (say m e)) :
    Keeps lostDevices m (m.evDrop c say) := by
  unfold Mod.evDrop
  extract_lets k v m1
  have h1 : Keeps lostDevices m m1 := lostDevices_of_int (setCtr_int m _ _)
  exact .ite _ (h1.trans (h m1 _)) h1

theorem lostDevices_eventVia (n : Nat) (m : Mod) (e : Ev) : Keeps lostDevices m (Mod.eventVia n m e) := by
  induction n generalizing m e with
  | zero => exact Keeps.refl m
  | succ n ih =>
    unfold Mod.eventVia
    split
    · exact Keeps.refl m
    · extract_lets c
      refine .ite _ (lostDevices_evDrop m c _ fun m e => (lostDevices_eventRings m e).trans (ih _ e)) ?_
      exact lostDevices_of_int (setCl_int m c _)

/-- No event brings a device back. -/
theorem lostDevices_event (m : Mod) (e : Ev) : Keeps lostDevices m (m.event e) :=
  (lostDevices_eventRings m e).trans (lostDevices_eventVia 5 _ e)

/-! ### DEVICE_LOST -/

/-- The module with device d no longer answering. -/
def Mod.deviceGone (m : Mod) (d : Nat) : Mod := m.withInt { m.int with nvmLost := insertNat m.int.nvmLost d }

theorem deviceLost_again {m : Mod} {d : Nat} (h : m.nvmLost d = true) : m.deviceLost d = m := by
  unfold Mod.deviceLost
  exact if_pos h

theorem deviceLost_eq {m : Mod} {d : Nat} (h : m.nvmLost d = false) : m.deviceLost d = (m.deviceGone d).nvmEvent 4 d d := by
  unfold Mod.deviceLost
  rw [h, if_neg (by decide)]
  rfl

theorem nvmEvent_nvm (m : Mod) (code what q high : Nat) : (m.nvmEvent code what q high).nvm = m.nvm := by
  unfold Mod.nvmEvent
  rw [event_nvm, sqcBit_nvm]

theorem lostDevices_nvmEvent (m : Mod) (code what q high : Nat) : Keeps lostDevices m (m.nvmEvent code what q high) := by
  unfold Mod.nvmEvent
  exact (lostDevices_of_int (sqcBit_int m _ _ _)).trans (lostDevices_event _ _)

/-- Its bit of NVM_EVENT tells of an NVM event (R431). -/
theorem nvmEvent_told (m : Mod) (what q high : Nat) : (m.nvmEvent 4 what q high).flag ⟨.NVM_EVENT, 3, 1⟩ = true := by
  refine flag_of_get (v := 1) ?_
  unfold Mod.nvmEvent
  rw [event_get _ _ _ _ rfl]
  exact get_sqcBit_self m NVM_EVENT_EVENTS 3 0 (by decide) (by decide)

theorem deviceLost_lost {m : Mod} {d : Nat} (h : m.nvmLost d = false) : (m.deviceLost d).nvmLost d = true := by
  rw [deviceLost_eq h, nvmLost_of_lostDevices (lostDevices_nvmEvent (m.deviceGone d) 4 d d 0)]
  exact contains_insertNat m.int.nvmLost d

/-- Every slot of a device that does not answer reads as absent (R431). -/
theorem slot_of_nvmLost {m : Mod} {d : Nat} (h : m.nvmLost d = true) (n : Nat) : m.slot n d = none := by
  simp [Mod.slot, Mod.deviceOk, h]

end Sys2Proof.Machine
end

section
/-! SUPPORT. The gasp, the temperature, the clock domains and the NVM devices
do what their loss means (R16, R430, R431, R477, R522, R523). -/

namespace Sys2Proof.Machine

/-- Settles O54: each command is the power controller's or the die's meaning of it, whose parts the
lemmas before give; the numbers of the clock domains are log 42's. -/
theorem lossAndHeat : Obligations.LossAndHeat := by
  refine ⟨fun s hs => ?_, fun s tj tcp hs => ⟨fun haon => ⟨?_, ?_⟩, fun hj hc => ?_, fun haon hhot => ?_, fun haon => ?_⟩,
    fun s d hs => ⟨fun h => ?_, fun hin h0 hoth => ?_, fun hin => ?_, fun hout hd h24 => ?_, fun hout h24 => ?_,
      fun hout h1 h8 hreq => ?_, fun hout h1 h8 hreq => ?_⟩, fun s d hs => ⟨fun h => ?_, fun h => ?_⟩⟩
  · have hup : s.m.pwr.down ≠ .rails := by simpa [State.Powered, Mod.pcUp] using hs
    refine yields_of_does (does_actPc (exec_gaspTrigger s) hs (gaspTrigger_eq hup)) ?_
    have pwr {α : Type} (g : PwrSt → α) := congrArg g (railsDown_pwr s.m.lastGasp)
    refine ⟨pwr PwrSt.down, pwr PwrSt.page, pwr PwrSt.fatals, pwr PwrSt.holdEnd, railsDown_stage _, fun f hf => railsDown_paths _ hf,
      setRefclk_refclk _ false, rfl, fun hdie haon hok hblank => ?_⟩
    simp only [railsDown_nvm, lastGasp_takes hdie haon hok hblank]
  · exact does_act (exec_thermalState tj tcp s) hs (thermalState_suspended haon tj tcp)
  · exact does_act (exec_thermalTrip tj tcp s) hs (thermalTrip_suspended haon tj tcp)
  · exact does_act (exec_thermalTrip tj tcp s) hs (thermalTrip_cool hj hc s.m)
  · refine yields_of_does (does_act (exec_thermalTrip tj tcp s) hs (thermalTrip_hot hs haon hhot)) ?_
    refine ⟨tripped_down _, by rw [Mod.dieUp, tripped_down]; rfl, tripped_refclk _, rfl, fun hok hblank => ?_⟩
    obtain ⟨hok', hblank'⟩ := gaspReady_of_gaspState (gaspState_tempShown s.m tj tcp) hok hblank
    simp only [tripped_nvm, gaspWritten_takes hok' hblank']
  · refine yields_of_does (does_act (exec_thermalState tj tcp s) hs (thermalState_shown haon tj tcp)) ?_
    obtain ⟨htj, htcp⟩ := tempShown_get s.m tj tcp
    obtain ⟨hdown, hwarmTj, hwarmTcp, hhotTj, hhotTcp⟩ := statusLatch_marks ((s.m.tempShown tj tcp).withPwr (s.m.pwr.marked tj tcp))
    have hregs : (((s.m.tempShown tj tcp).withPwr (s.m.pwr.marked tj tcp)).statusLatch).regs = (s.m.tempShown tj tcp).regs := by
      rw [statusLatch_regs, withPwr_regs]
    exact ⟨(get_of_regs hregs _ 0).trans htj, (get_of_regs hregs _ 0).trans htcp, hwarmTj, hwarmTcp, hhotTj, hhotTcp, hdown, rfl⟩
  · exact does_act (exec_domainFailure d s) hs (domainFailure_none h)
  · refine yields_of_does (does_act (exec_domainFailure d s) hs (domainFailure_eq hin h0 hoth)) ?_
    refine ⟨fun h => ?_, fun ⟨_, h8⟩ => ?_, fun ⟨h9, h12⟩ hl => ?_, fun h => ?_,
      fun h => ?_, fun ⟨h19, h23⟩ => ?_, fun h => ?_, rfl⟩
    · simp only [h, clocksLost_supervisor, supervisorLost_headless]
    · simp only [clocksLost_tile h8]
      exact tileStops_state _ _ 3 (by decide)
    · simp only [clocksLost_cluster h9 h12]
      exact clusterLost_state hl
    · simp only [h, clocksLost_reference, withTime_time]
    · simp only [h, clocksLost_pcie]
      rfl
    · exact clocksLost_none h19 (by omega) _
    · exact clocksLost_domOut h _
  · exact does_act (exec_domainReturn d s) hs (domainReturn_none hin)
  · exact does_act (exec_domainReturn d s) hs (domainReturn_plain hout hd h24)
  · refine yields_of_does (does_act (exec_domainReturn d s) hs (domainReturn_reference hout h24)) ?_
    obtain ⟨hboot, hmon⟩ := keeps_monitorState_iff.mp
      (monitorState_reselect ((s.m.domainBack d.val).withTime { s.m.time with monitorUp := true }))
    refine ⟨?_, hmon, rfl⟩
    simp only [hboot, withTime_boot, ← h24]
    exact contains_eraseNat s.m.boot.domOut d.val
  · refine does_act (exec_domainReturn d s) hs ?_
    rw [domainReturn_tile hout h1 h8, if_neg hreq]
    rfl
  · refine yields_of_does (does_act (exec_domainReturn d s) hs (domainReturn_tile hout h1 h8)) ?_
    simp only [if_pos hreq, tileWakeReq_boot]
    exact contains_eraseNat s.m.boot.domOut d.val
  · exact does_act (exec_deviceLost d s) hs (deviceLost_again h)
  · have hlost := deviceLost_lost h
    refine yields_of_does (does_act (exec_deviceLost d s) hs rfl) ⟨hlost, slot_of_nvmLost hlost, ?_, ?_, rfl⟩
    · simp only [deviceLost_eq h, nvmEvent_nvm]
      rfl
    · simp only [deviceLost_eq h, nvmEvent_told]

end Sys2Proof.Machine
end

section
/-! SUPPORT. What events leave of the packet engines: every thread, and every cluster but for its event queue, into which a routed event
pushes a job (R281). -/

namespace Sys2Proof.Machine

/-! ### Rings -/

theorem eng_writeModes (m : Mod) (ch : Nat) : Keeps Mod.eng m (m.writeModes ch) := by
  unfold Mod.writeModes
  refine .foldl _ (fun m s => ?_) _ m
  extract_lets
  exact .ite _ (.refl m) rfl

theorem eng_drmQueue (m : Mod) (who : Requester) (h a : Nat) (w : Bool) (ch : Nat) : Keeps Mod.eng m (m.drmQueue who h a w ch) := by
  unfold Mod.drmQueue
  extract_lets g r n
  have hn : Keeps Mod.eng m n := by
    refine .ite _ (.refl m) ?_
    unfold Mod.vjoin
    exact .ite _ (.refl m) rfl
  refine .ite _ (.refl m) (hn.trans (Keeps.trans ?_ (eng_writeModes _ ch)))
  exact Eq.refl n.eng

theorem eng_drmPost (m : Mod) (who : Requester) (h a : Nat) (bs : List Byte) : Keeps Mod.eng m (m.drmPost who h a bs) := by
  unfold Mod.drmPost
  refine Keeps.trans ?_ (.foldl _ (fun m k => .foldl _ (fun m c => eng_drmQueue m _ _ _ _ c) _ m) _ _)
  exact Eq.refl m.eng

theorem eng_ringStore (m : Mod) (h off : Nat) (bs : List Byte) : Keeps Mod.eng m (m.ringStore h off bs) := by
  unfold Mod.ringStore
  extract_lets
  split
  · exact eng_drmPost m _ _ _ bs
  · exact .ite _ (emit_eng m _) (.refl m)
  · exact .ite _ (emit_eng m _) (.refl m)

theorem eng_withEvt (m : Mod) (x : EvtSt) : Keeps Mod.eng m (m.withEvt x) := rfl

theorem eng_pfCause (m : Mod) (v : Nat) : Keeps Mod.eng m (m.pfCause v) :=
  Keeps.trans (sqcBit_eng m EVT_IRQ_STATUS_PEND v 0) (eng_withEvt _ _)

theorem eng_ringWrite (m : Mod) (h : Nat) (e : Ev) : Keeps Mod.eng m (m.ringWrite h e) := by
  unfold Mod.ringWrite
  extract_lets prod rec128 m1 m2 m3 m4
  have h2 : Keeps Mod.eng m m2 := (eng_ringStore m _ _ _).trans (set_eng m1 _ _ _)
  have h3 : Keeps Mod.eng m2 m3 := .ite _ (.refl m2) (eng_ringStore m2 _ _ _)
  have h4 : Keeps Mod.eng m3 m4 := set_eng m3 _ _ _
  refine ((h2.trans h3).trans h4).trans ?_
  unfold Mod.hedgeCause
  exact .ite _ (eng_pfCause m4 h) rfl

theorem eng_eventRings (m : Mod) (e : Ev) : Keeps Mod.eng m (m.eventRings e) := by
  unfold Mod.eventRings
  extract_lets m1
  have h1 : Keeps Mod.eng m m1 := .foldl _ (fun m h => by
    unfold Mod.ringOffer
    exact .ite _ (Keeps.trans (satAdd_eng m EVT_RING_STATUS_DROPPED h 1) (eng_withEvt _ _))
      ((eng_ringWrite m h e).trans (eng_withEvt _ _))) _ m
  split
  · exact h1.trans (eng_pfCause m1 _)
  · exact h1

/-! ### Events -/

/-- The engines, but for the event queue of each cluster. -/
def engHeld (m : Mod) : EngSt :=
  { m.eng with
    cl0 := { m.eng.cl0 with ev := [] }, cl1 := { m.eng.cl1 with ev := [] },
    cl2 := { m.eng.cl2 with ev := [] }, cl3 := { m.eng.cl3 with ev := [] } }

theorem engHeld_of_eng {m n : Mod} (h : n.eng = m.eng) : Keeps engHeld m n := by
  unfold Keeps engHeld
  rw [h]

theorem engHeld_cl (m : Mod) (c : Nat) : (engHeld m).cl c = { m.cl c with ev := [] } := by
  unfold Mod.cl EngSt.cl
  split <;> rfl

/-- An event's job joins the event queue alone. -/
theorem engHeld_pushEvent (m : Mod) (c : Nat) (j : Job) : Keeps engHeld m (m.setCl c ((m.cl c).push 1 j)) :=
  match c with
  | 0 => rfl
  | 1 => rfl
  | 2 => rfl
  | _ + 3 => rfl

theorem engHeld_eventVia (n : Nat) (m : Mod) (e : Ev) : Keeps engHeld m (Mod.eventVia n m e) := by
  induction n generalizing m e with
  | zero => exact Keeps.refl m
  | succ n ih =>
    unfold Mod.eventVia
    split
    · exact Keeps.refl m
    · extract_lets c
      refine .ite _ ?_ (engHeld_pushEvent m c _)
      unfold Mod.evDrop
      extract_lets k v m1
      have h1 : Keeps engHeld m m1 := engHeld_of_eng (setCtr_eng m _ _)
      exact .ite _ (h1.trans ((engHeld_of_eng (eng_eventRings m1 _)).trans (ih _ _))) h1

/-- From m to n events and counts have been raised: only what they touch has changed, and of the engines only event queues. -/
def Announced (m n : Mod) : Prop := Told m n ∧ Keeps engHeld m n

theorem Announced.refl (m : Mod) : Announced m m := ⟨Told.refl m, Keeps.refl m⟩

theorem Announced.trans {a b c : Mod} (h : Announced a b) (k : Announced b c) : Announced a c := ⟨h.1.trans k.1, h.2.trans k.2⟩

theorem announced_event (m : Mod) (e : Ev) : Announced m (m.event e) :=
  ⟨told_event m e, (engHeld_of_eng (eng_eventRings m e)).trans (engHeld_eventVia 5 _ e)⟩

theorem announced_pfCause (m : Mod) (v : Nat) : Announced m (m.pfCause v) := ⟨told_pfCause m v, engHeld_of_eng (eng_pfCause m v)⟩

theorem announced_bump (m : Mod) (c : Ctr) (n : Nat) : Announced m (m.bump c n) := by
  refine ⟨told_bump m c n, ?_⟩
  unfold Mod.bump
  extract_lets v m1
  have h1 : Keeps engHeld m m1 := engHeld_of_eng (setCtr_eng m _ _)
  have half : Keeps engHeld m1 (m1.halfBit c) := by
    unfold Mod.halfBit
    exact .ite _ (engHeld_of_eng (sqcBit_eng m1 _ _ _)) (.ite _ (engHeld_of_eng (sqcBit_eng m1 _ _ _))
      (.ite _ (engHeld_of_eng (sqcBit_eng m1 _ _ _)) (.refl m1)))
  exact .ite _ (h1.trans (half.trans (announced_event _ _).2)) h1

theorem announced_eventRated (m : Mod) (k : Nat) (e : Ev) : Announced m (m.eventRated k e) := by
  refine ⟨told_eventRated m k e, ?_⟩
  unfold Mod.eventRated
  extract_lets g
  have hg : Keeps engHeld m g.2 := by
    unfold g Mod.rateGate
    split
    · split <;> rfl
    · rfl
  split
  · exact hg.trans (announced_event g.2 e).2
  · exact .refl m

/-! ### What that leaves of a cluster -/

theorem queue_of_engHeld {m n : Mod} (h : Keeps engHeld m n) (c : Nat) {j : Nat} (hj : j ≠ 1) :
    (n.cl c).queue j = (m.cl c).queue j := by
  have held (k : Cluster) : Cluster.queue { k with ev := [] } j = k.queue j := by
    unfold Cluster.queue
    split <;> first | rfl | exact absurd rfl hj
  have := congrArg (fun e : EngSt => (e.cl c).queue j) h
  simpa only [engHeld_cl, held] using this

theorem markers_of_engHeld {m n : Mod} (h : Keeps engHeld m n) (c : Nat) : (n.cl c).markers = (m.cl c).markers := by
  simpa only [engHeld_cl] using congrArg (fun e : EngSt => (e.cl c).markers) h

theorem queueFull_of_engHeld {m n : Mod} (h : Keeps engHeld m n) (c : Nat) {j : Nat} (hj : j ≠ 1) :
    (n.cl c).queueFull j = (m.cl c).queueFull j := by
  unfold Cluster.queueFull
  rw [queue_of_engHeld h c hj, markers_of_engHeld h c]

theorem quiesce_of_engHeld {m n : Mod} (h : Keeps engHeld m n) (c : Nat) : (n.cl c).quiesce = (m.cl c).quiesce := by
  simpa only [engHeld_cl] using congrArg (fun e : EngSt => (e.cl c).quiesce) h

end Sys2Proof.Machine
end

section
/-! SUPPORT. Fences and the tick's registers (R26, R37 to R39): what the writes to them do, and what they leave. -/

namespace Sys2Proof.Machine

/-! ### Writes to registers of GLB -/

/-- A register without a key guard spends no arming. -/
theorem spent_unguarded {r : Reg} (h : keyGroup r = none) (m : Mod) (p : Path) : m.spent p r = m := by
  unfold Mod.spent
  rw [h]

/-- A granted write to a register without a key guard is its block's answer and the drift from the image. -/
theorem does_put_unguarded {c : Instr} {s : State} {p : Path} {r : Reg} {i j : Nat} {v : Word} (hc : exec c s = s.put p r i v none)
    (hg : s.Granted p r i j v) (hk : keyGroup r = none) : Does c s (s.m.took r j (s.m.blockWrite s.locks (wholeWrite p r j v) none)) := by
  have h := put_granted s p r i j v none hg
  rw [spent_unguarded hk] at h
  exact hc.trans h

/-- A write to a register that the image does not hold causes no drift (R402). -/
theorem took_unimaged {r : Reg} (h : imaged r = false) (m : Mod) (j : Nat) (d : Bool × Mod) : m.took r j d = d.2 := by
  unfold Mod.took
  rw [h, Bool.and_false]
  rfl

/-! ### The write to GLB_FENCE -/

theorem blockWrite_fence (m : Mod) (l : BitVec 5) (p : Path) (v : Word) (x : Option Found) :
    m.blockWrite l (wholeWrite p .GLB_FENCE 0 v) x = m.fence (GLB_FENCE_TOKEN.of v) := by
  unfold Mod.blockWrite
  exact if_neg (show ¬ (settable .GLB_FENCE).isEmpty = true by decide)

theorem does_fence {s : State} {p : Path} {k : BitVec 32} (hg : s.Granted p .GLB_FENCE 0 0 (GLB_FENCE_TOKEN.put 0 k.toNat)) :
    Does (.fence p k) s (s.m.fence k.toNat).2 := by
  have h := does_put_unguarded (exec_fence p k s) hg rfl
  rw [took_unimaged (by decide), blockWrite_fence, of_put _ _ _ (by decide)] at h
  rwa [show k.toNat % 2 ^ GLB_FENCE_TOKEN.width = k.toNat from Nat.mod_eq_of_lt k.isLt] at h

/-- What a fence's markers leave as it was: every part without rings and queues, and GLB_FENCE_DONE. -/
def fenceless (m : Mod) : (TickSt × WinSt × TimeSt × BufSt × FwdSt) × (ClsSt × PrtSt × SchSt) × Word :=
  ((m.tick, m.win, m.time, m.buf, m.fwd), (m.cls, m.prt, m.sch), m.rd .GLB_FENCE_DONE)

theorem keeps_fenceless_iff {m n : Mod} : Keeps fenceless m n ↔
    (n.tick = m.tick ∧ n.win = m.win ∧ n.time = m.time ∧ n.buf = m.buf ∧ n.fwd = m.fwd) ∧
      (n.cls = m.cls ∧ n.prt = m.prt ∧ n.sch = m.sch) ∧ n.rd .GLB_FENCE_DONE = m.rd .GLB_FENCE_DONE := by
  simp [Keeps, fenceless]

theorem Told.fenceless {m n : Mod} (h : Told m n) : Keeps fenceless m n := by
  unfold Keeps Machine.fenceless
  rw [h.tick, h.win, h.time, h.buf, h.fwd, h.cls, h.prt, h.sch, h.2 _ _ rfl]

theorem fenceless_set (m : Mod) (f : Fld) (i v : Nat) (h : Reg.apart .GLB_FENCE_DONE f.reg = true) : Keeps fenceless m (m.set f i v) := by
  unfold Keeps fenceless
  rw [rd_set_ne m f _ i 0 v h]
  rfl

/-- A fence's markers leave the cluster's queues that no event can reach, but for what fenceQueue does. -/
def ringsMarked (m n : Mod) : Prop := Keeps fenceless m n ∧ Keeps engHeld m n

theorem ringsMarked.trans {a b c : Mod} (h : ringsMarked a b) (k : ringsMarked b c) : ringsMarked a c := ⟨h.1.trans k.1, h.2.trans k.2⟩

theorem ringsMarked_fenceRing (m : Mod) (token h : Nat) : ringsMarked m (m.fenceRing token h) := by
  unfold Mod.fenceRing
  split
  · exact ⟨(told_evt m _).fenceless, rfl⟩
  · exact ⟨(told_ringWrite m h _).fenceless, engHeld_of_eng (eng_ringWrite m h _)⟩

theorem engHeld_writerLevels (m : Mod) : Keeps engHeld m m.writerLevels := by
  unfold Mod.writerLevels
  extract_lets level
  have hlevel (m : Mod) (fill panic : Fld) (c : Nat) : Keeps engHeld m (level m fill panic c) :=
    (engHeld_of_eng (set_eng m fill 0 _)).trans
      (.ite _ (engHeld_of_eng (set_eng _ panic 0 1)) (.ite _ (engHeld_of_eng (set_eng _ panic 0 0)) (.refl _)))
  exact (hlevel _ _ _ _).trans (hlevel _ _ _ _)

theorem fenceless_writerLevels (m : Mod) : Keeps fenceless m m.writerLevels := by
  unfold Mod.writerLevels
  extract_lets level
  have hlevel (m : Mod) (fill panic : Fld) (c : Nat) (hf : Reg.apart .GLB_FENCE_DONE fill.reg = true)
      (hp : Reg.apart .GLB_FENCE_DONE panic.reg = true) : Keeps fenceless m (level m fill panic c) :=
    (fenceless_set m fill 0 _ hf).trans
      (.ite _ (fenceless_set _ panic 0 1 hp) (.ite _ (fenceless_set _ panic 0 0 hp) (.refl _)))
  exact (hlevel _ _ _ _ rfl rfl).trans (hlevel _ _ _ _ rfl rfl)

theorem ringsMarked_clipFence (m : Mod) (h token : Nat) : ringsMarked m (m.clipFence h token) := by
  unfold Mod.clipFence
  split
  · exact ⟨.refl m, .refl m⟩
  · split
    · have hb := announced_bump m (clpCtr h 5) 1
      exact ⟨hb.1.fenceless.trans rfl, hb.2.trans rfl⟩
    · extract_lets word
      split
      · exact ⟨rfl, rfl⟩
      · unfold Mod.fenceEnter
        extract_lets r
        exact ⟨Keeps.trans (b := m.withClp { m.clp with recs := m.clp.recs ++ [r] }) rfl (fenceless_writerLevels _),
          Keeps.trans (b := m.withClp { m.clp with recs := m.clp.recs ++ [r] }) rfl (engHeld_writerLevels _)⟩

/-- The fence's markers in every event ring and every Clippings ring. -/
def Mod.ringsFenced (m : Mod) (token : Nat) : Mod := (List.range 16).foldl (fun m h => (m.fenceRing token h).clipFence h token) m

theorem ringsMarked_ringsFenced (m : Mod) (token : Nat) : ringsMarked m (m.ringsFenced token) := by
  have step (m : Mod) (h : Nat) := (ringsMarked_fenceRing m token h).trans (ringsMarked_clipFence _ h token)
  exact ⟨.foldl _ (fun m h => (step m h).1) _ m, .foldl _ (fun m h => (step m h).2) _ m⟩

/-! ### The job queues -/

/-- The fence job in queue k of a cluster, or its marker that waits for a place. -/
def Cluster.fenced (cl : Cluster) (token k : Nat) : Cluster :=
  if cl.queueFull k then { cl with markers := cl.markers ++ [(k, token)] } else cl.push k (fenceJob k token)

theorem fenceQueue_eq (m : Mod) (token c k : Nat) : m.fenceQueue token c k = m.setCl c ((m.cl c).fenced token k) := by
  unfold Mod.fenceQueue Cluster.fenced
  extract_lets cl
  exact (apply_ite (m.setCl c) _ _ _).symm

theorem cl_setCl_self (m : Mod) (c : Nat) (k : Cluster) : (m.setCl c k).cl c = k :=
  match c with
  | 0 => rfl
  | 1 => rfl
  | 2 => rfl
  | _ + 3 => rfl

theorem cl_setCl_ne (m : Mod) {c d : Nat} (k : Cluster) (hc : c < 4) (hd : d < 4) (h : d ≠ c) : (m.setCl c k).cl d = m.cl d := by
  interval_cases c <;> interval_cases d <;> first | rfl | exact absurd rfl h

theorem queue_setQueue_self (cl : Cluster) (k : Nat) (q : List Job) : (cl.setQueue k q).queue k = q :=
  match k with
  | 0 => rfl
  | 1 => rfl
  | 2 => rfl
  | _ + 3 => rfl

theorem queue_setQueue_ne (cl : Cluster) {j k : Nat} (q : List Job) (hj : j < 4) (hk : k < 4) (h : j ≠ k) :
    (cl.setQueue k q).queue j = cl.queue j := by
  interval_cases j <;> interval_cases k <;> first | rfl | exact absurd rfl h

theorem markers_setQueue (cl : Cluster) (k : Nat) (q : List Job) : (cl.setQueue k q).markers = cl.markers := by
  unfold Cluster.setQueue
  split <;> rfl

theorem queue_withMarkers (cl : Cluster) (x : List (Nat × Nat)) (j : Nat) : Cluster.queue { cl with markers := x } j = cl.queue j := by
  unfold Cluster.queue
  split <;> rfl

theorem fenced_full {cl : Cluster} {token k : Nat} (h : cl.queueFull k = true) :
    cl.fenced token k = { cl with markers := cl.markers ++ [(k, token)] } := if_pos h

theorem fenced_room {cl : Cluster} {token k : Nat} (h : cl.queueFull k = false) :
    cl.fenced token k = cl.setQueue k (cl.queue k ++ [fenceJob k token]) := if_neg (by simp [h])

/-- Another queue of the cluster is as it was, and takes jobs as it did. -/
theorem fenced_other {cl : Cluster} {token j k : Nat} (hj : j < 4) (hk : k < 4) (h : j ≠ k) :
    (cl.fenced token k).queue j = cl.queue j ∧ (cl.fenced token k).queueFull j = cl.queueFull j := by
  unfold Cluster.queueFull
  cases hfull : cl.queueFull k
  · rw [fenced_room hfull, queue_setQueue_ne _ _ hj hk h, markers_setQueue]
    exact ⟨rfl, rfl⟩
  · rw [fenced_full hfull, queue_withMarkers]
    have hkj : (k == j) = false := beq_false_of_ne h.symm
    simp [hkj]

theorem mem_markers_fenced {cl : Cluster} {token k : Nat} {x : Nat × Nat} (h : x ∈ cl.markers) : x ∈ (cl.fenced token k).markers := by
  cases hfull : cl.queueFull k
  · rw [fenced_room hfull, markers_setQueue]
    exact h
  · rw [fenced_full hfull]
    exact List.mem_append_left _ h

/-- The fence's jobs and markers of the queues in a list. -/
def Cluster.fencedAll (cl : Cluster) (token : Nat) (ks : List Nat) : Cluster := ks.foldl (fun cl k => cl.fenced token k) cl

theorem mem_markers_fencedAll {token : Nat} {x : Nat × Nat} (ks : List Nat) {cl : Cluster} (h : x ∈ cl.markers) :
    x ∈ (cl.fencedAll token ks).markers := by
  induction ks generalizing cl with
  | nil => exact h
  | cons k t ih => exact ih (mem_markers_fenced h)

theorem fencedAll_other {token j : Nat} (hj : j < 4) (ks : List Nat) (hks : ∀ k ∈ ks, k < 4) (h : j ∉ ks) (cl : Cluster) :
    (cl.fencedAll token ks).queue j = cl.queue j ∧ (cl.fencedAll token ks).queueFull j = cl.queueFull j := by
  induction ks generalizing cl with
  | nil => exact ⟨rfl, rfl⟩
  | cons k t ih =>
    obtain ⟨hq, hf⟩ := fenced_other (cl := cl) (token := token) hj (hks k List.mem_cons_self) (List.ne_of_not_mem_cons h)
    obtain ⟨hq', hf'⟩ := ih (fun k hk => hks k (List.mem_cons_of_mem _ hk)) (List.not_mem_of_not_mem_cons h) (cl.fenced token k)
    exact ⟨hq'.trans hq, hf'.trans hf⟩

/-- A queue with room gains the fence's job alone, at its end; a full one keeps its jobs, and the marker waits. -/
theorem fencedAll_queue {token j : Nat} {ks : List Nat} (hks : ∀ k ∈ ks, k < 4) (hn : ks.Nodup) (hj : j ∈ ks) (cl : Cluster) :
    (cl.queueFull j = false → (cl.fencedAll token ks).queue j = cl.queue j ++ [fenceJob j token]) ∧
    (cl.queueFull j = true → (cl.fencedAll token ks).queue j = cl.queue j ∧ (j, token) ∈ (cl.fencedAll token ks).markers) := by
  obtain ⟨a, b, rfl⟩ := List.append_of_mem hj
  obtain ⟨-, hjb, hdisj⟩ := List.nodup_append.mp hn
  have ha : j ∉ a := fun h => hdisj j h j List.mem_cons_self rfl
  have hb : j ∉ b := (List.nodup_cons.mp hjb).1
  obtain ⟨hqa, hfa⟩ := fencedAll_other (token := token) (hks j hj) a (fun k hk => hks k (List.mem_append_left _ hk)) ha cl
  obtain ⟨hqb, -⟩ := fencedAll_other (token := token) (hks j hj) b
    (fun k hk => hks k (List.mem_append_right _ (List.mem_cons_of_mem _ hk))) hb ((cl.fencedAll token a).fenced token j)
  have split : cl.fencedAll token (a ++ j :: b) = ((cl.fencedAll token a).fenced token j).fencedAll token b := by
    simp [Cluster.fencedAll]
  rw [split, hqb]
  refine ⟨fun h => ?_, fun h => ?_⟩
  · rw [fenced_room (hfa.trans h), queue_setQueue_self, hqa]
  · rw [fenced_full (hfa.trans h), queue_withMarkers, hqa]
    exact ⟨rfl, mem_markers_fencedAll b (List.mem_append_right _ (List.mem_singleton_self _))⟩

/-- The fence's jobs and markers in every queue of a cluster. -/
def Mod.clusterFenced (m : Mod) (token c : Nat) : Mod := (List.range 4).foldl (fun m k => m.fenceQueue token c k) m

theorem clusterFenced_eq (m : Mod) (token c : Nat) : m.clusterFenced token c = m.setCl c ((m.cl c).fencedAll token (List.range 4)) := by
  have setCl_setCl (m : Mod) (k l : Cluster) : (m.setCl c k).setCl c l = m.setCl c l :=
    match c with
    | 0 => rfl
    | 1 => rfl
    | 2 => rfl
    | _ + 3 => rfl
  unfold Mod.clusterFenced
  have h (ks : List Nat) (cl : Cluster) :
      ks.foldl (fun m k => m.fenceQueue token c k) (m.setCl c cl) = m.setCl c (cl.fencedAll token ks) := by
    induction ks generalizing cl with
    | nil => rfl
    | cons k t ih =>
      rw [List.foldl_cons, fenceQueue_eq, cl_setCl_self, setCl_setCl]
      exact ih (cl.fenced token k)
  have own : m.setCl c (m.cl c) = m :=
    match c with
    | 0 => rfl
    | 1 => rfl
    | 2 => rfl
    | _ + 3 => rfl
  simpa only [own] using h (List.range 4) (m.cl c)

/-- The fence's jobs and markers in every queue of every cluster. -/
def Mod.clustersFenced (m : Mod) (token : Nat) : Mod := (List.range 4).foldl (fun m c => m.clusterFenced token c) m

theorem fenceless_clustersFenced (m : Mod) (token : Nat) : Keeps fenceless m (m.clustersFenced token) :=
  .foldl _ (fun m c => by
    rw [clusterFenced_eq]
    rfl) _ m

theorem clusterFenced_cl_self (m : Mod) (token c : Nat) : (m.clusterFenced token c).cl c = (m.cl c).fencedAll token (List.range 4) := by
  rw [clusterFenced_eq, cl_setCl_self]

theorem clusterFenced_cl_ne (m : Mod) (token : Nat) {c d : Nat} (hc : c < 4) (hd : d < 4) (h : d ≠ c) :
    (m.clusterFenced token c).cl d = m.cl d := by
  rw [clusterFenced_eq, cl_setCl_ne m _ hc hd h]

theorem clustersFenced_cl (m : Mod) (token : Nat) {c : Nat} (hc : c < 4) :
    (m.clustersFenced token).cl c = (m.cl c).fencedAll token (List.range 4) := by
  have h4 : List.range 4 = [0, 1, 2, 3] := rfl
  unfold Mod.clustersFenced
  rw [h4]
  simp only [List.foldl_cons, List.foldl_nil]
  interval_cases c <;> simp [clusterFenced_cl_self, clusterFenced_cl_ne, h4]

/-! ### A fence accepted -/

/-- The module in which a fence has put its markers into every ring and job queue. -/
def Mod.fenceMarked (m : Mod) (token : Nat) : Mod := (m.ringsFenced token).clustersFenced token

theorem fenceless_fenceMarked (m : Mod) (token : Nat) : Keeps fenceless m (m.fenceMarked token) :=
  (ringsMarked_ringsFenced m token).1.trans (fenceless_clustersFenced _ token)

/-- The job queues but EV, and the markers that wait, once a fence has been accepted. -/
theorem fenceMarked_queue (m : Mod) (token : Nat) {c j : Nat} (hc : c < 4) (hj : j = 0 ∨ j = 2 ∨ j = 3) :
    ((m.cl c).queueFull j = false → ((m.fenceMarked token).cl c).queue j = (m.cl c).queue j ++ [fenceJob j token]) ∧
    ((m.cl c).queueFull j = true → ((m.fenceMarked token).cl c).queue j = (m.cl c).queue j ∧
      (j, token) ∈ ((m.fenceMarked token).cl c).markers) := by
  have hrings := (ringsMarked_ringsFenced m token).2
  have h1 : j ≠ 1 := by omega
  unfold Mod.fenceMarked
  rw [clustersFenced_cl _ _ hc, ← queue_of_engHeld hrings c h1, ← queueFull_of_engHeld hrings c h1]
  exact fencedAll_queue (fun k hk => List.mem_range.mp hk) List.nodup_range (List.mem_range.mpr (by omega)) _

/-! ### The outstanding fences as GLB_FENCE_DONE shows them -/

@[simp] theorem fencesShown_tick (m : Mod) : m.fencesShown.tick = m.tick := set_tick m _ _ _

theorem fencesShown_pending (m : Mod) : m.fencesShown.get GLB_FENCE_DONE_PENDING = m.tick.fences.length % 2 ^ 5 :=
  get_set m GLB_FENCE_DONE_PENDING 0 _ (by decide)

theorem fencesShown_token (m : Mod) : m.fencesShown.get GLB_FENCE_DONE_TOKEN = m.get GLB_FENCE_DONE_TOKEN :=
  get_set_field m GLB_FENCE_DONE_PENDING GLB_FENCE_DONE_TOKEN 0 _ rfl (by decide) (by decide)

theorem withTick_get (m : Mod) (x : TickSt) (f : Fld) (i : Nat) : (m.withTick x).get f i = m.get f i := get_of_regs (withTick_regs m x) f i

/-- The fence joins the outstanding ones, which GLB_FENCE_DONE shows (R38). -/
def Mod.fenceJoins (m : Mod) (f : FenceWait) : Mod := (m.withTick { m.tick with fences := m.tick.fences ++ [f] }).fencesShown

@[simp] theorem fenceJoins_cl (m : Mod) (f : FenceWait) (c : Nat) : (m.fenceJoins f).cl c = m.cl c :=
  congrArg (EngSt.cl · c) (set_eng _ GLB_FENCE_DONE_PENDING 0 _)

theorem fenceJoins_tick (m : Mod) (f : FenceWait) : (m.fenceJoins f).tick = { m.tick with fences := m.tick.fences ++ [f] } := by
  unfold Mod.fenceJoins
  rw [fencesShown_tick, withTick_tick]

theorem fenceJoins_pending (m : Mod) (f : FenceWait) :
    (m.fenceJoins f).get GLB_FENCE_DONE_PENDING = (m.tick.fences.length + 1) % 2 ^ 5 := by
  unfold Mod.fenceJoins
  rw [fencesShown_pending, withTick_tick, List.length_append, List.length_singleton]

theorem fenceJoins_token (m : Mod) (f : FenceWait) : (m.fenceJoins f).get GLB_FENCE_DONE_TOKEN = m.get GLB_FENCE_DONE_TOKEN := by
  unfold Mod.fenceJoins
  rw [fencesShown_token, withTick_get]

/-- The fence that a write to GLB_FENCE makes. -/
def Mod.newFence (m : Mod) (token : Nat) : FenceWait := ⟨token, m.win.seq, m.stagedBy, m.tick.periodSeq⟩

theorem fence_eq (m : Mod) (token : Nat) : m.fence token =
    if token = 0 then (false, m)
    else if 16 ≤ m.tick.fences.length then (false, (m.sqc GLB_TICK_STATUS_FENCE_REFUSED).event (glbEv 0x09 0))
    else (true, (m.fenceMarked token).fenceJoins (m.newFence token)) := by
  unfold Mod.fence Mod.fenceMarked Mod.clustersFenced Mod.clusterFenced Mod.ringsFenced Mod.fenceJoins
  rfl

theorem fence_ignored (m : Mod) : (m.fence 0).2 = m := by
  rw [fence_eq, if_pos rfl]

theorem fence_refused {m : Mod} {token : Nat} (h0 : token ≠ 0) (h16 : 16 ≤ m.tick.fences.length) :
    (m.fence token).2 = (m.sqc GLB_TICK_STATUS_FENCE_REFUSED).event (glbEv 0x09 0) := by
  rw [fence_eq, if_neg h0, if_pos h16]

theorem fence_accepted {m : Mod} {token : Nat} (h0 : token ≠ 0) (h16 : m.tick.fences.length < 16) :
    (m.fence token).2 = (m.fenceMarked token).fenceJoins (m.newFence token) := by
  rw [fence_eq, if_neg h0, if_neg (Nat.not_le.mpr h16)]

/-! ### FENCE_DONE -/

/-- The oldest fence completes: it is no longer outstanding, and GLB_FENCE_DONE shows its token (R38). -/
def Mod.fenceLeaves (m : Mod) (f : FenceWait) (l : List FenceWait) : Mod :=
  (((m.withTick { m.tick with fences := l }).set GLB_FENCE_DONE_TOKEN 0 f.token).fencesShown).pfCause 16

theorem fenceDone_cons {m : Mod} {f : FenceWait} {l : List FenceWait} (h : m.tick.fences = f :: l) :
    m.fenceDone = if m.fenceReady f then m.fenceLeaves f l else m := by
  unfold Mod.fenceDone Mod.fenceLeaves
  rw [h]

theorem fenceLeaves_token (m : Mod) (f : FenceWait) (l : List FenceWait) (hf : f.token < 2 ^ 32) :
    (m.fenceLeaves f l).get GLB_FENCE_DONE_TOKEN = f.token := by
  unfold Mod.fenceLeaves
  rw [pfCause_get _ _ _ _ rfl, fencesShown_token, get_set _ _ _ _ (by decide)]
  exact Nat.mod_eq_of_lt hf

theorem fenceLeaves_pending (m : Mod) (f : FenceWait) (l : List FenceWait) :
    (m.fenceLeaves f l).get GLB_FENCE_DONE_PENDING = l.length % 2 ^ 5 := by
  unfold Mod.fenceLeaves
  rw [pfCause_get _ _ _ _ rfl, fencesShown_pending, set_tick, withTick_tick]

/-- Settles O12: a fence joins the end of the outstanding ones, and FENCE_DONE takes the oldest. That a FENCE_DONE
which is not due changes nothing is log 4's choice. -/
theorem fencesAreTakenAndCompleteInOrder : Obligations.FencesAreTakenAndCompleteInOrder := by
  intro s p k hg
  have written := does_fence hg
  have token_ne (h0 : k ≠ 0) : k.toNat ≠ 0 := fun e => h0 (BitVec.eq_of_toNat_eq e)
  refine ⟨fun h0 => ?_, fun h0 h16 => ?_, fun h0 h16 => ?_, fun f l hl hf => ⟨fun hready => ?_, fun hready => ?_⟩⟩
  · have h : (s.m.fence k.toNat).2 = s.m := by rw [h0]; exact fence_ignored s.m
    rwa [h] at written
  · rwa [fence_refused (token_ne h0) h16] at written
  · rw [fence_accepted (token_ne h0) h16] at written
    refine yields_of_does written ?_
    obtain ⟨⟨htick, -⟩, -, hdone⟩ := keeps_fenceless_iff.mp (fenceless_fenceMarked s.m k.toNat)
    refine ⟨?_, ?_, ?_, ?_⟩
    · simp only [fenceJoins_tick, htick]
      rfl
    · simp only [fenceJoins_tick, htick, List.length_append, List.length_singleton]
      exact h16
    · simp only [fenceJoins_pending, htick]
      exact Nat.mod_eq_of_lt (by omega)
    · simp only [fenceJoins_token]
      exact congrArg GLB_FENCE_DONE_TOKEN.of hdone
  · refine yields_of_does (does_act (exec_fenceDone s) hg.running ((fenceDone_cons hl).trans (if_pos hready))) ?_
    refine ⟨?_, fenceLeaves_token s.m f l hf, fenceLeaves_pending s.m f l, ?_, ?_, ?_⟩ <;> simp [Mod.fenceLeaves, Mod.fencesShown]
  · exact does_act (exec_fenceDone s) hg.running ((fenceDone_cons hl).trans (if_neg (by simp [hready])))

/-- Settles O13: the rings and their events leave the three job queues as they were, and each then takes the fence's job, or the
marker that waits. -/
theorem fenceMarksEveryRingAndQueue : Obligations.FenceMarksEveryRingAndQueue := by
  intro s p k hg h0 h16
  have written := does_fence hg
  rw [fence_accepted (fun e => h0 (BitVec.eq_of_toNat_eq e)) h16] at written
  refine yields_of_does written ?_
  obtain ⟨⟨-, -, htime, hbuf, hfwd⟩, ⟨hcls, hprt, hsch⟩, -⟩ := keeps_fenceless_iff.mp (fenceless_fenceMarked s.m k.toNat)
  refine ⟨fun c j hc hj hroom => ?_, fun c j hc hj hfull => ?_, ?_⟩
  · rw [fenceJoins_cl]
    exact (fenceMarked_queue s.m k.toNat hc hj).1 hroom
  · rw [fenceJoins_cl]
    exact (fenceMarked_queue s.m k.toNat hc hj).2 hfull
  · simp [Mod.fenceJoins, Mod.fencesShown, hbuf, hfwd, hcls, hprt, htime, hsch]

end Sys2Proof.Machine
end

section
/-! SUPPORT. The tick's period and its fence (R26, R39): a period waits for its second, a tick fence for its commit. -/

namespace Sys2Proof.Machine

/-! ### The write to GLB_TICK_CFG -/

theorem blockWrite_tickCfg (m : Mod) (l : BitVec 5) (p : Path) (v : Word) (x : Option Found) :
    m.blockWrite l (wholeWrite p .GLB_TICK_CFG 0 v) x = m.periodWrite (GLB_TICK_CFG_PERIOD.of v) := by
  unfold Mod.blockWrite
  exact if_neg (show ¬ (settable .GLB_TICK_CFG).isEmpty = true by decide)

theorem periodWrite_refused {m : Mod} (h : m.schedulesRun = true) (code : Nat) : m.periodWrite code = (false, m.periodRefused) := if_pos h

/-- The module in which a period waits for the next whole second. -/
def Mod.periodWaits (m : Mod) (code : Nat) : Mod :=
  (m.withTick { m.tick with periodPend := some (code, m.nextSecond), periodSeq := m.tick.periodSeq + 1 }).set GLB_TICK_CFG_PERIOD_PEND 0 1

theorem periodWrite_accepted {m : Mod} (h : m.schedulesRun = false) (code : Nat) : m.periodWrite code = (true, m.periodWaits code) :=
  if_neg (by simp [h])

theorem does_tickPeriodWrite {s : State} {p : Path} {k : BitVec 4}
    (hg : s.Granted p .GLB_TICK_CFG 0 0 (s.revised GLB_TICK_CFG_PERIOD 0 k.toNat)) :
    Does (.tickPeriodWrite p k) s (s.m.took .GLB_TICK_CFG 0 (s.m.periodWrite k.toNat)) := by
  have h := does_put_unguarded (exec_tickPeriodWrite p k s) hg rfl
  rw [blockWrite_tickCfg, State.revised, of_put _ _ _ (by decide)] at h
  rwa [show k.toNat % 2 ^ GLB_TICK_CFG_PERIOD.width = k.toNat from Nat.mod_eq_of_lt k.isLt] at h

/-- What the block of GLB_TICK_CFG accepts drifts from the image's global part (R402). -/
theorem took_tickCfg (m : Mod) (d : Bool × Mod) : m.took .GLB_TICK_CFG 0 d = if d.1 then d.2.drifted none else d.2 := by
  unfold Mod.took
  rw [show imaged .GLB_TICK_CFG = true by decide, Bool.and_true]
  rfl

/-! ### PERIOD_CHANGE -/

/-- The module that no longer waits for a period. -/
def Mod.periodLeaves (m : Mod) : Mod :=
  (m.withTick { m.tick with periodPend := none, periodDone := m.tick.periodSeq }).set GLB_TICK_CFG_PERIOD_PEND 0 0

/-- A period in force, with the first boundary after it (R24, R26). -/
def Mod.periodTaken (m : Mod) (code : Nat) : Mod :=
  let m := m.set GLB_TICK_CFG_PERIOD 0 code
  m.withTick { m.tick with boundary := if m.time.net < m.tick.boundary then boundaryAfter m.time.net m.period else m.tick.boundary }

theorem advanceNet_past {m : Mod} {target : Nat} (h : target ≤ m.time.net) : m.advanceNet target = m := if_pos h

theorem periodChange_none {m : Mod} (h : m.tick.periodPend = none) : m.periodChange = m := by
  unfold Mod.periodChange
  rw [h]

theorem periodChange_due {m : Mod} {code due : Nat} (h : m.tick.periodPend = some (code, due)) (hdue : due ≤ m.time.net) :
    m.periodChange = if m.periodLeaves.schedulesRun then m.periodLeaves.periodRefused else m.periodLeaves.periodTaken code := by
  have past : m.advanceNet (Nat.min due m.nextSecond) = m := advanceNet_past ((Nat.min_le_left _ _).trans hdue)
  unfold Mod.periodChange
  rw [h]
  simp only [past]
  rfl

theorem flag_periodLeaves (m : Mod) (f : Fld) (i : Nat) (h : f.reg.apart .GLB_TICK_CFG = true) : m.periodLeaves.flag f i = m.flag f i := by
  unfold Mod.flag Mod.periodLeaves
  rw [get_set_ne _ _ _ _ _ _ h, withTick_get]

theorem schedulesRun_periodLeaves (m : Mod) : m.periodLeaves.schedulesRun = m.schedulesRun := by
  unfold Mod.schedulesRun
  simp only [flag_periodLeaves _ SCH_PORT_CFG_GATE_EN _ rfl, flag_periodLeaves _ SCH_PORT_CFG_LAUNCH_EN _ rfl]

theorem periodLeaves_pend (m : Mod) : m.periodLeaves.get GLB_TICK_CFG_PERIOD_PEND = 0 := get_set _ _ _ _ (by decide)

theorem periodLeaves_period (m : Mod) : m.periodLeaves.get GLB_TICK_CFG_PERIOD = m.get GLB_TICK_CFG_PERIOD := by
  unfold Mod.periodLeaves
  rw [get_set_field _ GLB_TICK_CFG_PERIOD_PEND GLB_TICK_CFG_PERIOD _ _ rfl (by decide) (by decide), withTick_get]

theorem periodTaken_period (m : Mod) {code : Nat} (h : code < 16) : (m.periodTaken code).get GLB_TICK_CFG_PERIOD = code := by
  unfold Mod.periodTaken
  rw [withTick_get, get_set _ _ _ _ (by decide)]
  exact Nat.mod_eq_of_lt h

theorem periodTaken_pend (m : Mod) (code : Nat) : (m.periodTaken code).get GLB_TICK_CFG_PERIOD_PEND = m.get GLB_TICK_CFG_PERIOD_PEND := by
  unfold Mod.periodTaken
  rw [withTick_get, get_set_field _ GLB_TICK_CFG_PERIOD GLB_TICK_CFG_PERIOD_PEND _ _ rfl (by decide) (by decide)]

/-- A refusal leaves GLB_TICK_CFG as it is. -/
theorem periodRefused_get (m : Mod) (f : Fld) (h : f.reg = .GLB_TICK_CFG) : m.periodRefused.get f = m.get f := by
  unfold Mod.periodRefused
  rw [event_get _ _ _ _ (by rw [h]; rfl)]
  exact get_sqcBit_ne m _ f 0 0 0 (by rw [h]; rfl)

/-- A refusal shows in GLB_TICK_STATUS.PERIOD_REFUSED. -/
theorem periodRefused_told (m : Mod) : m.periodRefused.flag GLB_TICK_STATUS_PERIOD_REFUSED = true := by
  refine flag_of_get (v := 1) ?_
  unfold Mod.periodRefused
  rw [event_get _ _ _ _ rfl]
  exact get_sqcBit_self m GLB_TICK_STATUS_PERIOD_REFUSED 0 0 (by decide) (by decide)

/-! ### The write to GLB_TICK_FENCE -/

theorem blockWrite_tickFence (m : Mod) (l : BitVec 5) (p : Path) (v : Word) (x : Option Found) :
    m.blockWrite l (wholeWrite p .GLB_TICK_FENCE 0 v) x = (true, m.tickFence (GLB_TICK_FENCE_TOKEN.of v)) := by
  unfold Mod.blockWrite
  exact if_neg (show ¬ (settable .GLB_TICK_FENCE).isEmpty = true by decide)

theorem does_tickFence {s : State} {p : Path} {k : BitVec 32}
    (hg : s.Granted p .GLB_TICK_FENCE 0 0 (GLB_TICK_FENCE_TOKEN.put 0 k.toNat)) : Does (.tickFence p k) s (s.m.tickFence k.toNat) := by
  have h := does_put_unguarded (exec_tickFence p k s) hg rfl
  rw [took_unimaged (by decide), blockWrite_tickFence, of_put _ _ _ (by decide)] at h
  rwa [show k.toNat % 2 ^ GLB_TICK_FENCE_TOKEN.width = k.toNat from Nat.mod_eq_of_lt k.isLt] at h

/-- Settles O14: the write's block and PERIOD_CHANGE by whether a schedule runs, and the tick fence by its block. That a
PERIOD_CHANGE with none pending changes nothing is log 4's choice; that one whose schedule has been enabled since is refused is the model's
own choice, which R26 does not state and no log entry does. -/
theorem tickRegistersWait : Obligations.TickRegistersWait := by
  refine ⟨⟨fun s p k hg => ⟨fun hs => ?_, fun hs => ?_⟩, fun s k due hrun hp hdue hk => ⟨fun hs => ?_, fun hs => ?_⟩, fun s hrun hp => ?_⟩,
    fun s p k hg => does_tickFence hg⟩
  · have h := does_tickPeriodWrite hg
    rwa [periodWrite_accepted hs, took_tickCfg, if_pos rfl] at h
  · have h := does_tickPeriodWrite hg
    rwa [periodWrite_refused hs, took_tickCfg, if_neg Bool.false_ne_true] at h
  · have h := periodChange_due hp hdue
    rw [schedulesRun_periodLeaves, if_neg (by simp [hs])] at h
    refine yields_of_does (does_act (exec_periodChange s) hrun h) ⟨periodTaken_period _ hk, ?_, ?_, ?_, ?_, ?_⟩
    · exact (periodTaken_pend _ k).trans (periodLeaves_pend s.m)
    all_goals simp [Mod.periodTaken, Mod.periodLeaves]
  · have h := periodChange_due hp hdue
    rw [schedulesRun_periodLeaves, if_pos hs] at h
    refine yields_of_does (does_act (exec_periodChange s) hrun h) ⟨?_, ?_, ?_, periodRefused_told _, ?_, ?_⟩
    · exact (periodRefused_get _ _ rfl).trans (periodLeaves_period s.m)
    · exact (periodRefused_get _ _ rfl).trans (periodLeaves_pend s.m)
    all_goals simp [Mod.periodRefused, Mod.periodLeaves]
  · exact does_act (exec_periodChange s) hrun (periodChange_none hp)

end Sys2Proof.Machine
end

section
/-! SUPPORT. The parse-graph window (R74, R372): what a command accepted shows, and what its event and its drift leave. -/

namespace Sys2Proof.Machine

/-! ### The command word -/

theorem of_mod (f : Fld) (w : Word) : f.of w % 2 ^ f.width = f.of w := Nat.mod_mod _ _

/-- The word of a command with its operation named, as its block takes it. -/
def parCmd (old v : Word) (op : Nat) : Word := writable .PAR_WIN_CMD old (withOp PAR_WIN_CMD_OP v op)

theorem writable_parWin (old v : Word) :
    writable .PAR_WIN_CMD old v =
      PAR_WIN_CMD_OP.put (PAR_WIN_CMD_TABLE.put (PAR_WIN_CMD_INDEX.put old (PAR_WIN_CMD_INDEX.of v)) (PAR_WIN_CMD_TABLE.of v))
        (PAR_WIN_CMD_OP.of v) := rfl

theorem parCmd_index (old v : Word) (op : Nat) : PAR_WIN_CMD_INDEX.of (parCmd old v op) = PAR_WIN_CMD_INDEX.of v := by
  unfold parCmd withOp
  rw [writable_parWin, of_put_ne PAR_WIN_CMD_OP PAR_WIN_CMD_INDEX _ _ (by decide) (by decide),
    of_put_ne PAR_WIN_CMD_TABLE PAR_WIN_CMD_INDEX _ _ (by decide) (by decide), of_put _ _ _ (by decide), of_mod,
    of_put_ne PAR_WIN_CMD_OP PAR_WIN_CMD_INDEX _ _ (by decide) (by decide)]

theorem parCmd_table (old v : Word) (op : Nat) : PAR_WIN_CMD_TABLE.of (parCmd old v op) = PAR_WIN_CMD_TABLE.of v := by
  unfold parCmd withOp
  rw [writable_parWin, of_put_ne PAR_WIN_CMD_OP PAR_WIN_CMD_TABLE _ _ (by decide) (by decide), of_put _ _ _ (by decide), of_mod,
    of_put_ne PAR_WIN_CMD_OP PAR_WIN_CMD_TABLE _ _ (by decide) (by decide)]

theorem parCmd_op (old v : Word) {op : Nat} (h : op < 4) : PAR_WIN_CMD_OP.of (parCmd old v op) = op := by
  unfold parCmd withOp
  rw [writable_parWin, of_put _ _ _ (by decide), of_mod, of_put _ _ _ (by decide)]
  exact Nat.mod_eq_of_lt h

/-! ### The answer -/

/-- What a window command's event and drift leave: the windows, the parse graph, the staged sets and the command's register. -/
def parShown (m : Mod) : WinSt × ClsSt × TickSt × Word := (m.win, m.cls, m.tick, m.rd .PAR_WIN_CMD)

theorem keeps_parShown_iff {m n : Mod} : Keeps parShown m n ↔
    n.win = m.win ∧ n.cls = m.cls ∧ n.tick = m.tick ∧ n.rd .PAR_WIN_CMD = m.rd .PAR_WIN_CMD := by
  simp [Keeps, parShown]

theorem DriftTold.parShown {m n : Mod} (h : DriftTold m n) : Keeps parShown m n :=
  keeps_parShown_iff.2 ⟨(congrArg Mod.win h.1 :), (congrArg Mod.cls h.1 :), (congrArg Mod.tick h.1 :), h.2 _ _ rfl (by decide) (by decide)⟩

theorem parShown_sqc (m : Mod) (f : Fld) (i : Nat) (h : Reg.apart .PAR_WIN_CMD f.reg = true) : Keeps parShown m (m.sqc f i) := by
  refine keeps_parShown_iff.2 ⟨?_, ?_, ?_, rd_wr_ne m f.reg _ i 0 _ h⟩
  all_goals simp [Mod.sqc]

theorem parShown_winRefused (m : Mod) (p : Path) (w : Word) (status : Nat) : Keeps parShown m (m.winRefused p .par w status) :=
  (parShown_sqc m PAR_EVENT_REFUSED 0 rfl).trans (told_event _ _).driftTold.parShown

theorem driftTold_winDrift (m before : Mod) (p : Path) (r : Reg) (w : Word) : DriftTold m (m.winDrift before p r w) := by
  unfold Mod.winDrift
  extract_lets fine
  split
  · exact .refl m
  · extract_lets routes
    split
    · exact driftTold_drifted m _
    · exact .refl m

/-- The command as the busy windows hold it. -/
def Mod.parAnswer (m : Mod) (w : Word) (status : Nat) (data : List (Reg × Nat × Word)) : WinCmd :=
  { win := .par, seq := m.win.seq + 1, cmd := .PAR_WIN_CMD, idx := 0, busyBit := PAR_WIN_CMD_BUSY.lo,
    result := (.PAR_WIN_CMD, 0, PAR_WIN_CMD_STATUS.put w status) :: data }

theorem replies_of_parAnswer {m n : Mod} {w : Word} {status : Nat} {data : List (Reg × Nat × Word)} (h : status < 4)
    (hlast : n.win.busy.getLast? = some (m.parAnswer w status data)) (hbusy : n.flag PAR_WIN_CMD_BUSY = true) :
    n.replies .par PAR_WIN_CMD_STATUS 0 status data = true := by
  have hst : PAR_WIN_CMD_STATUS.of (PAR_WIN_CMD_STATUS.put w status) = status := by
    rw [of_put _ _ _ (by decide)]
    exact Nat.mod_eq_of_lt h
  have hflag : n.flag ⟨.PAR_WIN_CMD, PAR_WIN_CMD_BUSY.lo, 1⟩ = true := hbusy
  unfold Mod.replies
  rw [hlast]
  simp +contextual [Mod.parAnswer, hflag, hst, show PAR_WIN_CMD_STATUS.reg = .PAR_WIN_CMD from rfl]

/-- The module of a command of the parse-graph window that has been answered. -/
def Mod.parAnswered (m : Mod) (p : Path) (w : Word) (status : Nat) (data : List (Reg × Nat × Word)) : Mod :=
  m.winAnswer p .par .PAR_WIN_CMD 0 PAR_WIN_CMD_BUSY PAR_WIN_CMD_STATUS w status (status != 0) data

/-- A command accepted is the last one of the busy windows, and its register reads BUSY; its event and drift leave both. -/
theorem parAnswered_replies (m before : Mod) (p : Path) (v w : Word) {status : Nat} (h : status < 4) (data : List (Reg × Nat × Word)) :
    ((m.parAnswered p w status data).winDrift before p .PAR_WIN_CMD v).replies .par PAR_WIN_CMD_STATUS 0 status data = true ∧
      ((m.parAnswered p w status data).winDrift before p .PAR_WIN_CMD v).cls = m.cls ∧
      ((m.parAnswered p w status data).winDrift before p .PAR_WIN_CMD v).tick = m.tick := by
  have hkept : Keeps parShown (m.winBegin .par .PAR_WIN_CMD 0 PAR_WIN_CMD_BUSY PAR_WIN_CMD_STATUS w status data)
      ((m.parAnswered p w status data).winDrift before p .PAR_WIN_CMD v) := by
    refine Keeps.trans ?_ (driftTold_winDrift _ _ _ _ _).parShown
    unfold Mod.parAnswered Mod.winAnswer
    exact .ite _ (parShown_winRefused _ p w status) (.refl _)
  obtain ⟨hwin, hcls, htick, hreg⟩ := keeps_parShown_iff.1 hkept
  refine ⟨replies_of_parAnswer (m := m) (w := w) h ?_ ?_, ?_, ?_⟩
  · rw [hwin]
    simp [Mod.winBegin, Mod.parAnswer]
  · refine flag_of_get (v := 1) ?_
    unfold Mod.get
    rw [show PAR_WIN_CMD_BUSY.reg = .PAR_WIN_CMD from rfl, hreg]
    unfold Mod.winBegin
    rw [rd_wr]
    exact of_put _ _ _ (by decide)
  · simp [hcls, Mod.winBegin]
  · simp [htick, Mod.winBegin]

/-! ### The command -/

/-- The module after a command of the parse-graph window has reached its block. -/
def Mod.parReached (m : Mod) (p : Path) (v : Word) (op : Nat) : Mod :=
  (m.parseWindow p (parCmd (m.rd .PAR_WIN_CMD) v op)).winDrift m p .PAR_WIN_CMD (withOp PAR_WIN_CMD_OP v op)

theorem does_parseWrite {s : State} {p : Path} {v : Word} (h : s.Opened p .PAR_WIN_CMD 0 0 .par (withOp PAR_WIN_CMD_OP v 1)) :
    Does (.parseWrite p v) s (s.m.parReached p v 1) :=
  (exec_parseWrite p v s).trans (put_opened s p _ 0 0 _ _ none h (by decide))

theorem does_parseRead {s : State} {p : Path} {v : Word} (h : s.Opened p .PAR_WIN_CMD 0 0 .par (withOp PAR_WIN_CMD_OP v 2)) :
    Does (.parseRead p v) s (s.m.parReached p v 2) :=
  (exec_parseRead p v s).trans (put_opened s p _ 0 0 _ _ none h (by decide))

/-- A staged write in a tick whose set is open and has room. -/
theorem stage_open {m : Mod} {key : StageKey} {x : Nat} (hopen : m.stageClosed = false) (hkept : m.tick.nowLost = false)
    (hroom : stagedSize (stagedWith m.tick.now ⟨key, x⟩) ≤ stageDepth) :
    m.stage key x = m.withTick { m.tick with now := stagedWith m.tick.now ⟨key, x⟩ } := by
  have hfits : ¬ stageDepth < stagedSize (stagedWith m.tick.now ⟨key, x⟩) := Nat.not_lt.2 hroom
  unfold Mod.stage
  simp only [hopen, hkept, hfits, Bool.false_eq_true, if_false]

section
variable {m : Mod} {p : Path} {w : Word} (hp : vfHedge p = none)
include hp

/-- A node of 64 or above is status 1, and stages nothing. -/
theorem parseWindow_noNode (ht : PAR_WIN_CMD_TABLE.of w = 0) (hop : PAR_WIN_CMD_OP.of w = 1) (hi : 64 ≤ PAR_WIN_CMD_INDEX.of w) :
    m.parseWindow p w = m.parAnswered p w 1 [] := by
  simp [Mod.parseWindow, Mod.parAnswered, hp, ht, hi, hop]

/-- A node with a reserved encoding is status 3, and stages nothing. -/
theorem parseWindow_reservedNode (ht : PAR_WIN_CMD_TABLE.of w = 0) (hop : PAR_WIN_CMD_OP.of w = 1) (hi : PAR_WIN_CMD_INDEX.of w < 64)
    (hx : nodeReserved ((m.rd .PAR_WIN_W0).toNat + (m.rd .PAR_WIN_W1).toNat * 2 ^ 64) = true) :
    m.parseWindow p w = m.parAnswered p w 3 [] := by
  simp [Mod.parseWindow, Mod.parAnswered, hp, ht, Nat.not_le.2 hi, hop, hx, -Nat.reducePow]

theorem parseWindow_node (ht : PAR_WIN_CMD_TABLE.of w = 0) (hop : PAR_WIN_CMD_OP.of w = 1) (hi : PAR_WIN_CMD_INDEX.of w < 64)
    (hx : nodeReserved ((m.rd .PAR_WIN_W0).toNat + (m.rd .PAR_WIN_W1).toNat * 2 ^ 64) = false) :
    m.parseWindow p w = (m.stage (.node (PAR_WIN_CMD_INDEX.of w))
      (((m.rd .PAR_WIN_W0).toNat + (m.rd .PAR_WIN_W1).toNat * 2 ^ 64) &&& nodeMask)).parAnswered p w 0 [] := by
  simp [Mod.parseWindow, Mod.parAnswered, hp, ht, Nat.not_le.2 hi, hop, hx, -Nat.reducePow]

theorem parseWindow_transition (ht : PAR_WIN_CMD_TABLE.of w = 1) (hop : PAR_WIN_CMD_OP.of w = 1) :
    m.parseWindow p w =
      (m.stage (.transition (PAR_WIN_CMD_INDEX.of w)) ((m.rd .PAR_WIN_W0).toNat / 2 ^ 16 * 2 ^ 16)).parAnswered p w 0 [] := by
  simp [Mod.parseWindow, Mod.parAnswered, hp, ht, hop]

theorem parseWindow_readNode (ht : PAR_WIN_CMD_TABLE.of w = 0) (hop : PAR_WIN_CMD_OP.of w = 2) (hi : PAR_WIN_CMD_INDEX.of w < 64) :
    m.parseWindow p w = m.parAnswered p w 0
      [(.PAR_WIN_W0, 0, BitVec.ofNat 64 (m.parseEntry false (PAR_WIN_CMD_INDEX.of w))),
        (.PAR_WIN_W1, 0, BitVec.ofNat 64 (m.parseEntry false (PAR_WIN_CMD_INDEX.of w) / 2 ^ 64))] := by
  simp [Mod.parseWindow, Mod.parAnswered, hp, ht, Nat.not_le.2 hi, hop]

theorem parseWindow_readTransition (ht : PAR_WIN_CMD_TABLE.of w = 1) (hop : PAR_WIN_CMD_OP.of w = 2) :
    m.parseWindow p w = m.parAnswered p w 0 [(.PAR_WIN_W0, 0, BitVec.ofNat 64 (m.parseEntry true (PAR_WIN_CMD_INDEX.of w)))] := by
  simp [Mod.parseWindow, Mod.parAnswered, hp, ht, hop]

end

/-- The answer of a command whose block's part is n shows its status and data; the parse graph and the staged sets are n's. -/
theorem parReached_replies {m n : Mod} {p : Path} {v : Word} {op status : Nat} {data : List (Reg × Nat × Word)} (hs : status < 4)
    (h : m.parseWindow p (parCmd (m.rd .PAR_WIN_CMD) v op) = n.parAnswered p (parCmd (m.rd .PAR_WIN_CMD) v op) status data) :
    (m.parReached p v op).replies .par PAR_WIN_CMD_STATUS 0 status data = true ∧ (m.parReached p v op).cls = n.cls ∧
      (m.parReached p v op).tick = n.tick := by
  unfold Mod.parReached
  rw [h]
  exact parAnswered_replies n m p _ _ hs data

/-- Settles O26, by what the block answers in each case; what its event and its drift change is neither the window nor a staged set. -/
theorem parseGraphWindow : Obligations.ParseGraphWindow := by
  intro s p v hp
  have htable (op) := parCmd_table (s.m.rd .PAR_WIN_CMD) v op
  have hindex (op) := parCmd_index (s.m.rd .PAR_WIN_CMD) v op
  have hwrite := parCmd_op (s.m.rd .PAR_WIN_CMD) v (show 1 < 4 by decide)
  have hread := parCmd_op (s.m.rd .PAR_WIN_CMD) v (show 2 < 4 by decide)
  refine ⟨fun ho hopen hkept => ?_, fun ho => ?_⟩
  · refine ⟨fun i x hi hlt ht hx => ⟨fun hfine hroom => ?_, fun hres => ?_⟩, fun hi ht => ?_, fun i x hi ht hx hroom => ?_⟩
    · subst hi hx
      have h := parseWindow_node (m := s.m) hp ((htable 1).trans ht) hwrite ((hindex 1).trans_lt hlt) hfine
      rw [hindex, stage_open hopen hkept hroom] at h
      exact yields_of_does (does_parseWrite ho) (parReached_replies (by decide) h)
    · subst hi hx
      have h := parseWindow_reservedNode (m := s.m) hp ((htable 1).trans ht) hwrite ((hindex 1).trans_lt hlt) hres
      exact yields_of_does (does_parseWrite ho) (parReached_replies (by decide) h)
    · have h := parseWindow_noNode (m := s.m) hp ((htable 1).trans ht) hwrite (hi.trans_eq (hindex 1).symm)
      exact yields_of_does (does_parseWrite ho) (parReached_replies (by decide) h)
    · subst hi hx
      have h := parseWindow_transition (m := s.m) hp ((htable 1).trans ht) hwrite
      rw [hindex, stage_open hopen hkept hroom] at h
      exact yields_of_does (does_parseWrite ho) (parReached_replies (by decide) h)
  · refine ⟨fun ht hlt e he => ?_, fun ht e he => ?_⟩
    · subst he
      have h := parseWindow_readNode (m := s.m) hp ((htable 2).trans ht) hread ((hindex 2).trans_lt hlt)
      rw [hindex] at h
      exact yields_of_does (does_parseRead ho) (parReached_replies (by decide) h)
    · subst he
      have h := parseWindow_readTransition (m := s.m) hp ((htable 2).trans ht) hread
      rw [hindex] at h
      exact yields_of_does (does_parseRead ho) (parReached_replies (by decide) h)

end Sys2Proof.Machine
end

section
/-! SUPPORT. What the passing of time, the discard of a frame, counters and events leave as it was: the staged sets, the windows, the tables, the
clusters' standing, the threads, and the registers of the tick, of the clusters' states and of the tick-job entries. -/

namespace Sys2Proof.Machine

/-! ### The part that stays -/

/-- The registers of the tick, of the clusters' states and of the tick-job entries. -/
def steadyRegs : List Reg :=
  [.GLB_TICK_CFG, .GLB_TICK_NUM, .GLB_COMMIT_SEQ, .GLB_TICK_FENCE, .ENG_CLUSTER_STATUS, .ENG_TICKJOB0, .ENG_TICKJOB1]

/-- A register is none of these. -/
def unsteady (r : Reg) : Bool := steadyRegs.all fun x => x.apart r

/-- What stays of the module, but for its threads and its time. -/
structure Calm where
  tick : TickSt
  parts : WinSt × HdgSt × ClsSt × FwdSt × UpdSt
  inject : List (Nat × Inject)
  quiesce : Nat → Option Quiesce
  regs : { r : Reg // r ∈ steadyRegs } → Nat → Word

/-- The calm part of a module; whether the tick has had an overrun is left out. -/
def calm (m : Mod) : Calm where
  tick := { m.tick with overrun := false }
  parts := (m.win, m.hdg, m.cls, m.fwd, m.upd)
  inject := m.buf.inject
  quiesce c := (m.cl c).quiesce
  regs r i := m.rd r i

/-- The calm part with the time, the threads and the order in which they became ready. -/
def steady (m : Mod) : Calm × TimeSt × List (Nat × Thread) × Nat := (calm m, m.time, m.eng.threads, m.eng.turn)

section
variable {m n : Mod}

theorem keeps_calm_iff : Keeps calm m n ↔
    { n.tick with overrun := false } = { m.tick with overrun := false } ∧
      (n.win = m.win ∧ n.hdg = m.hdg ∧ n.cls = m.cls ∧ n.fwd = m.fwd ∧ n.upd = m.upd) ∧ n.buf.inject = m.buf.inject ∧
      (∀ c, (n.cl c).quiesce = (m.cl c).quiesce) ∧ ∀ r i, r ∈ steadyRegs → n.rd r i = m.rd r i := by
  simp only [Keeps, calm, Calm.mk.injEq, Prod.mk.injEq, funext_iff, Subtype.forall, and_congr_right_iff]
  exact fun _ _ _ _ => ⟨fun h r i hr => h r hr i, fun h r hr i => h r i hr⟩

theorem keeps_steady_iff :
    Keeps steady m n ↔ Keeps calm m n ∧ n.time = m.time ∧ n.eng.threads = m.eng.threads ∧ n.eng.turn = m.eng.turn := by
  simp [Keeps, steady]

theorem Keeps.calm (h : Keeps steady m n) : Keeps Machine.calm m n := (keeps_steady_iff.1 h).1

theorem Keeps.time (h : Keeps steady m n) : n.time = m.time := (keeps_steady_iff.1 h).2.1

theorem Keeps.threads (h : Keeps steady m n) : n.eng.threads = m.eng.threads := (keeps_steady_iff.1 h).2.2.1

theorem Keeps.turn (h : Keeps steady m n) : n.eng.turn = m.eng.turn := (keeps_steady_iff.1 h).2.2.2

theorem rd_of_calm (h : Keeps Machine.calm m n) {r : Reg} (i : Nat) (hr : r ∈ steadyRegs) : n.rd r i = m.rd r i :=
  (keeps_calm_iff.1 h).2.2.2.2 r i hr

theorem get_of_calm (h : Keeps Machine.calm m n) {f : Fld} (i : Nat) (hr : f.reg ∈ steadyRegs) : n.get f i = m.get f i :=
  congrArg f.of (rd_of_calm h i hr)

end

/-! ### Rules -/

theorem apart_of_unsteady {r : Reg} (h : unsteady r = true) {x : Reg} (hx : x ∈ steadyRegs) : x.apart r = true :=
  List.all_eq_true.1 h x hx

theorem steady_wr (m : Mod) (r : Reg) (i : Nat) (w : Word) (h : unsteady r = true) : Keeps steady m (m.wr r i w) :=
  keeps_steady_iff.2 ⟨keeps_calm_iff.2 ⟨rfl, ⟨rfl, rfl, rfl, rfl, rfl⟩, rfl, fun _ => rfl,
    fun x j hx => rd_wr_ne m r x i j w (apart_of_unsteady h hx)⟩, rfl, rfl, rfl⟩

theorem steady_set (m : Mod) (f : Fld) (i v : Nat) (h : unsteady f.reg = true) : Keeps steady m (m.set f i v) := steady_wr m f.reg i _ h

theorem steady_sqcBit (m : Mod) (f : Fld) (k i : Nat) (h : unsteady f.reg = true) : Keeps steady m (m.sqcBit f k i) := by
  unfold Mod.sqcBit
  exact steady_wr m f.reg i _ h

theorem steady_sqc (m : Mod) (f : Fld) (i : Nat) (h : unsteady f.reg = true) : Keeps steady m (m.sqc f i) := steady_sqcBit m f 0 i h

theorem steady_satAdd (m : Mod) (f : Fld) (i n : Nat) (h : unsteady f.reg = true) : Keeps steady m (m.satAdd f i n) := by
  unfold Mod.satAdd
  exact steady_set m f i _ h

theorem not_evt_of_steady {r : Reg} (h : r ∈ steadyRegs) : evtReg r = false := by
  revert r
  decide

/-- What events and counts touch is none of it. -/
theorem Announced.steady {m n : Mod} (h : Announced m n) : Keeps Machine.steady m n := by
  obtain ⟨htold, heng⟩ := h
  refine keeps_steady_iff.2 ⟨keeps_calm_iff.2 ⟨by rw [htold.tick], ⟨htold.win, htold.hdg, htold.cls, htold.fwd, htold.upd⟩, by rw [htold.buf],
    quiesce_of_engHeld heng, fun r i hr => htold.2 r i (not_evt_of_steady hr)⟩, htold.time, ?_, ?_⟩
  · exact (congrArg EngSt.threads heng :)
  · exact (congrArg EngSt.turn heng :)

/-- A cluster of the module after one has been replaced: that one, or as before. -/
theorem cl_setCl_cases (m : Mod) (c d : Nat) (k : Cluster) :
    ((m.setCl c k).cl d = k ∧ m.cl d = m.cl c) ∨ (m.setCl c k).cl d = m.cl d :=
  match c, d with
  | 0, 0 | 1, 1 | 2, 2 | _ + 3, _ + 3 => .inl ⟨rfl, rfl⟩
  | 0, 1 | 0, 2 | 0, _ + 3 | 1, 0 | 1, 2 | 1, _ + 3 | 2, 0 | 2, 1 | 2, _ + 3 | _ + 3, 0 | _ + 3, 1 | _ + 3, 2 => .inr rfl

theorem quiesce_setCl (m : Mod) (c : Nat) {k : Cluster} (h : k.quiesce = (m.cl c).quiesce) (d : Nat) :
    ((m.setCl c k).cl d).quiesce = (m.cl d).quiesce := by
  obtain ⟨hk, hd⟩ | hd := cl_setCl_cases m c d k
  · rw [hk, hd, h]
  · rw [hd]

theorem threads_setCl (m : Mod) (c : Nat) (k : Cluster) : (m.setCl c k).eng.threads = m.eng.threads ∧ (m.setCl c k).eng.turn = m.eng.turn := by
  unfold Mod.setCl EngSt.setCl
  split <;> exact ⟨rfl, rfl⟩

theorem steady_setCl (m : Mod) (c : Nat) (k : Cluster) (h : k.quiesce = (m.cl c).quiesce) : Keeps steady m (m.setCl c k) :=
  keeps_steady_iff.2 ⟨keeps_calm_iff.2 ⟨rfl, ⟨rfl, rfl, rfl, rfl, rfl⟩, rfl, quiesce_setCl m c h, fun _ _ _ => rfl⟩, rfl, threads_setCl m c k⟩

theorem steady_withBuf (m : Mod) {x : BufSt} (h : x.inject = m.buf.inject) : Keeps steady m (m.withBuf x) :=
  keeps_steady_iff.2 ⟨keeps_calm_iff.2 ⟨rfl, ⟨rfl, rfl, rfl, rfl, rfl⟩, h, fun _ => rfl, fun _ _ _ => rfl⟩, rfl, rfl, rfl⟩

theorem steady_withPrt (m : Mod) (x : PrtSt) : Keeps steady m (m.withPrt x) := rfl

theorem steady_withSch (m : Mod) (x : SchSt) : Keeps steady m (m.withSch x) := rfl

theorem steady_withDrm (m : Mod) (x : DrmSt) : Keeps steady m (m.withDrm x) := rfl

theorem steady_withPin (m : Mod) (x : PinSt) : Keeps steady m (m.withPin x) := rfl

theorem steady_freshNat (m : Mod) : Keeps steady m m.freshNat.2 := rfl

theorem steady_fresh (m : Mod) : Keeps steady m m.fresh.2 := rfl

end Sys2Proof.Machine
end

section
/-! SUPPORT. The discard of a frame, and the passing of time, leave the calm part, the threads and (but for its passing) the time. -/

namespace Sys2Proof.Machine

theorem steady_event (m : Mod) (e : Ev) : Keeps steady m (m.event e) := (announced_event m e).steady

theorem steady_bump (m : Mod) (c : Ctr) (n : Nat) : Keeps steady m (m.bump c n) := (announced_bump m c n).steady

theorem steady_eventRated (m : Mod) (k : Nat) (e : Ev) : Keeps steady m (m.eventRated k e) := (announced_eventRated m k e).steady

/-! ### XOFF signals, cells and references -/

theorem steady_xoffRelease (m : Mod) (key : Nat) : Keeps steady m (m.xoffRelease key) := by
  unfold Mod.xoffRelease
  extract_lets p n x m1
  have h1 : Keeps steady m m1 := steady_withBuf m rfl
  exact h1.trans (.ite _ ((steady_set m1 PRT_PORT_STATUS_XOFF p _ rfl).trans (steady_withPrt _ _)) (.refl m1))

theorem steady_xoffAssert (m : Mod) (key : Nat) : Keeps steady m (m.xoffAssert key) := by
  unfold Mod.xoffAssert
  extract_lets p n x m1
  have h1 : Keeps steady m m1 := by
    refine Keeps.trans ?_ (steady_bump _ _ _)
    exact steady_withBuf m rfl
  exact h1.trans (.ite _ ((steady_set m1 PRT_PORT_STATUS_XOFF p _ rfl).trans (steady_withPrt _ _)) (.refl m1))

theorem steady_xoffUpdate (m : Mod) : Keeps steady m m.xoffUpdate := by
  unfold Mod.xoffUpdate
  refine .foldl _ (fun m key => ?_) _ m
  unfold Mod.xoffOne
  extract_lets p used low
  exact .ite _ (.ite _ (steady_xoffRelease m key) (.refl m)) (.ite _ (steady_xoffAssert m key) (.refl m))

theorem steady_account (m : Mod) (f : Frame) (on : Bool) : Keeps steady m (m.account f on) := by
  unfold Mod.account
  extract_lets mv tb key m1 m2 m3 m4 m5
  have hmv (m : Mod) (fl : Fld) (i n : Nat) (h : unsteady fl.reg = true) : Keeps steady m (mv m fl i n) :=
    .ite _ (.refl m) (.ite _ (steady_set m fl i _ h) (steady_set m fl i _ h))
  have h4 : Keeps steady m m4 := (((hmv m _ _ _ rfl).trans (hmv m1 _ _ _ rfl)).trans (hmv m2 _ _ _ rfl)).trans (hmv m3 _ _ _ rfl)
  have h5 : Keeps steady m4 m5 := by
    unfold m5
    split
    · exact hmv m4 _ _ _ rfl
    · exact .refl m4
  exact (h4.trans h5).trans (steady_withBuf m5 rfl)

theorem steady_deref (m : Mod) (id : Nat) : Keeps steady m (m.deref id) := by
  unfold Mod.deref
  split
  · exact .refl m
  · refine .ite _ ?_ (steady_withBuf m rfl)
    extract_lets _ n
    have hn : Keeps steady m n := steady_withBuf m rfl
    exact ((hn.trans (steady_set n BUF_HEDGE_STATUS_COPIES _ _ rfl)).trans (steady_account _ _ false)).trans (steady_xoffUpdate _)

/-- The frame that a job still holds is discarded (R262, R271). -/
theorem steady_orphan (m : Mod) (c : Nat) (j : Job) : Keeps steady m (m.orphan c j) := by
  unfold Mod.orphan
  split
  · exact (steady_bump m _ _).trans (steady_deref _ _)
  · exact .refl m

/-! ### Performance counters -/

theorem steady_epcRaise (m : Mod) (c phys code q : Nat) : Keeps steady m (m.epcRaise c phys code q) :=
  (steady_sqcBit m EPC_EVENT_EVENTS _ c rfl).trans (steady_eventRated _ _ _)

theorem steady_epcAdd (m : Mod) (c phys n k : Nat) : Keeps steady m (m.epcAdd c phys n k) := by
  unfold Mod.epcAdd
  extract_lets i v m1
  have h1 : Keeps steady m m1 := steady_set m EPC_CTR_COUNT i _ rfl
  exact .ite _ (steady_set m EPC_CTR_COUNT i v rfl)
    (h1.trans (.ite _ (.refl m1) ((steady_sqcBit m1 EPC_STATUS_SAT _ _ rfl).trans (steady_epcRaise _ c phys _ _))))

theorem steady_epcCount (m : Mod) (c phys ev k : Nat) (w0 w1 : Bool) : Keeps steady m (m.epcCount c phys ev k w0 w1) := by
  unfold Mod.epcCount
  exact .ite _ (.refl m) (.foldl _ (fun m n => .ite _ (steady_epcAdd m c phys n k) (.refl m)) _ m)

theorem steady_epcThread (m : Mod) (key : Nat) (t : Thread) (ev k : Nat) : Keeps steady m (m.epcThread key t ev k) :=
  steady_epcCount m _ _ ev k _ _

theorem steady_epcRunOne (m : Mod) (k i : Nat) : Keeps steady m (m.epcRunOne k i) := by
  unfold Mod.epcRunOne
  extract_lets c phys sel win ts n
  exact .ite _ (.refl m) (.ite _ (.refl m) (.ite _ (.refl m) (steady_epcAdd m c phys _ n)))

theorem steady_runEpc (m : Mod) (n : Nat) : Keeps steady m (m.runEpc n) := by
  unfold Mod.runEpc
  extract_lets k m1
  have h1 : Keeps steady m m1 := .foldl _ (fun m i => steady_epcRunOne m k i) _ m
  refine h1.trans (.foldl _ (fun m c => .ite _ (.refl m) ?_) _ m1)
  exact steady_setCl m c _ rfl

/-! ### Counters of microseconds -/

theorem steady_runCredits (m : Mod) (n : Nat) : Keeps steady m (m.runCredits n) := by
  unfold Mod.runCredits
  exact .ite _ (.refl m) (steady_withSch m _)

theorem steady_runPauses (m : Mod) (n : Nat) : Keeps steady m (m.runPauses n) := by
  unfold Mod.runPauses
  refine .foldl _ (fun m e => ?_) _ m
  extract_lets r _ m1
  have h1 : Keeps steady m m1 := steady_withPrt m _
  exact h1.trans (.ite _ (.refl m1) (steady_bump m1 _ _))

theorem steady_runLpi (m : Mod) (n : Nat) : Keeps steady m (m.runLpi n) := by
  unfold Mod.runLpi
  refine .foldl _ (fun m e => .ite _ ?_ (.refl m)) _ m
  extract_lets r _ m1
  have h1 : Keeps steady m m1 := steady_withPrt m _
  exact h1.trans (.ite _ (.refl m1) (steady_bump m1 _ _))

theorem steady_runHolds (m : Mod) (n : Nat) : Keeps steady m (m.runHolds n) := by
  unfold Mod.runHolds
  refine .foldl _ (fun m e => .ite _ ?_ (.refl m)) _ m
  extract_lets r _ m1
  have h1 : Keeps steady m m1 := steady_withSch m _
  exact h1.trans (.ite _ (.refl m1) (steady_bump m1 _ _))

theorem steady_panicRuns (m : Mod) (ch n : Nat) : Keeps steady m (m.panicRuns ch n) := by
  unfold Mod.panicRuns
  extract_lets r _ m1
  have h1 : Keeps steady m m1 := steady_withDrm m _
  exact .ite _ (h1.trans (.ite _ (.refl m1) ((steady_bump m1 _ _).trans (steady_bump _ _ _)))) (.refl m)

/-! ### Frames still arriving -/

theorem steady_sharedExhausted (m : Mod) (h : Nat) : Keeps steady m (m.sharedExhausted h) := by
  unfold Mod.sharedExhausted
  exact .ite _ ((steady_sqc m BUF_EVENT_LIMIT 0 rfl).trans (steady_eventRated _ _ _)) (.refl m)

theorem steady_writeCells (m : Mod) (f : Frame) (n : Nat) : Keeps steady m (m.writeCells f n).2.2 := by
  unfold Mod.writeCells
  extract_lets ch part f1
  exact .ite _ (.refl m) (((steady_account m part true).trans (steady_sharedExhausted _ _)).trans (steady_xoffUpdate _))

theorem steady_writeArriving (m : Mod) (p t : Nat) : Keeps steady m (m.writeArriving p t) := by
  unfold Mod.writeArriving
  split
  · exact .refl m
  · extract_lets come n w
    exact .ite _ (.refl m) ((steady_writeCells m _ n).trans (steady_withBuf _ rfl))

/-! ### Time -/

/-- The module as n cycles pass, but for the time itself. -/
def Mod.cyclesPass (m : Mod) (n : Nat) : Mod :=
  ((((((m.runEpc n).runCredits n).runPauses n).runLpi n).runHolds n).runPanics n).writeArrivals (m.now + n)

theorem steady_cyclesPass (m : Mod) (n : Nat) : Keeps steady m (m.cyclesPass n) := by
  have hcounters := ((((steady_runEpc m n).trans (steady_runCredits _ n)).trans (steady_runPauses _ n)).trans (steady_runLpi _ n)).trans
    (steady_runHolds _ n)
  have hpanics := hcounters.trans ((steady_panicRuns _ 0 n).trans (steady_panicRuns _ 1 n))
  exact hpanics.trans (.foldl _ (fun m p => steady_writeArriving m p _) _ _)

theorem advance_zero (m : Mod) : m.advance 0 = m := rfl

theorem advance_pos (m : Mod) {n : Nat} (h : n ≠ 0) :
    m.advance n = (m.cyclesPass n).withTime ((m.cyclesPass n).time.after (m.cyclesPass n).slewRate n) := if_neg h

/-- A slew with no remainder lets a cycle be a nanosecond (R205). -/
theorem after_unslewed {t : TimeSt} (h : t.slew = 0) (rate n : Nat) :
    t.after rate n = { t with cycles := t.cycles + n, net := t.net + n * unitsPerNs } := by
  have happlied : slewApplied t.slew rate n = 0 := by simp [slewApplied, h]
  simp only [TimeSt.after, happlied, Int.add_zero, Int.sub_zero, Int.toNat_natCast]

theorem calm_withTime (m : Mod) (x : TimeSt) : Keeps Machine.calm m (m.withTime x) := rfl

theorem calm_advance (m : Mod) (n : Nat) : Keeps Machine.calm m (m.advance n) := by
  obtain rfl | h := Nat.eq_zero_or_pos n
  · exact .refl m
  · rw [advance_pos m h.ne']
    exact (steady_cyclesPass m n).calm.trans (calm_withTime _ _)

theorem time_advance {m : Mod} (h : m.time.slew = 0) (n : Nat) :
    (m.advance n).time = { m.time with cycles := m.time.cycles + n, net := m.time.net + n * unitsPerNs } := by
  obtain rfl | hn := Nat.eq_zero_or_pos n
  · simp [advance_zero]
  · have htime := (steady_cyclesPass m n).time
    rw [advance_pos m hn.ne', withTime_time, after_unslewed (by rw [htime, h]), htime]

end Sys2Proof.Machine
end

section
/-! SUPPORT. A tick boundary comes (R25, R34, R185): what the overruns and the gate cycles that it brings leave, and the time it takes. -/

namespace Sys2Proof.Machine

/-- What keeps g keeps it over a list, while it keeps what each step needs. -/
theorem Keeps.foldl_while {α β : Type} {g : Mod → α} {P : Mod → Prop} (hP : ∀ m n, Keeps g m n → P m → P n) {f : Mod → β → Mod}
    (h : ∀ m b, P m → Keeps g m (f m b)) (l : List β) {m : Mod} (hm : P m) : Keeps g m (l.foldl f m) := by
  induction l generalizing m with
  | nil => exact Keeps.refl m
  | cons b t ih => exact (h m b hm).trans (ih (hP _ _ (h m b hm) hm))

/-! ### The instant of a boundary -/

theorem ceilDiv_covers (a : Nat) {b : Nat} (hb : 0 < b) : a ≤ ceilDiv a b * b ∧ ceilDiv a b * b < a + b := by
  unfold ceilDiv
  have hmod := Nat.mod_lt (a + b - 1) hb
  have hdiv := Nat.div_add_mod (a + b - 1) b
  rw [Nat.mul_comm] at hdiv
  omega

theorem unitsPerNs_pos : 0 < unitsPerNs := by decide

/-- An instant that has not passed is reached within a nanosecond (R200). -/
theorem advanceNet_reaches {m : Mod} {target : Nat} (hs : m.time.slew = 0) (h : m.time.net ≤ target) :
    Keeps calm m (m.advanceNet target) ∧ target ≤ (m.advanceNet target).time.net ∧
      (m.advanceNet target).time.net < target + unitsPerNs ∧ (m.advanceNet target).time.slew = 0 ∧
      (m.advanceNet target).time.adj = m.time.adj := by
  obtain rfl | hlt := Nat.eq_or_lt_of_le h
  · rw [advanceNet_past le_rfl]
    exact ⟨.refl m, le_rfl, Nat.lt_add_of_pos_right unitsPerNs_pos, hs, rfl⟩
  · have hnet : m.advanceNet target = m.advance (cyclesTo m.time.net target unitsPerNs) := by
      unfold Mod.advanceNet
      rw [if_neg (Nat.not_le.2 hlt), if_pos hs]
    obtain ⟨hreach, hover⟩ := ceilDiv_covers (target - m.time.net) unitsPerNs_pos
    have hcycles : cyclesTo m.time.net target unitsPerNs = ceilDiv (target - m.time.net) unitsPerNs := by
      unfold cyclesTo
      rw [show Nat.max 1 unitsPerNs = unitsPerNs from max_eq_right unitsPerNs_pos]
    rw [hnet, time_advance hs, hcycles]
    generalize ceilDiv (target - m.time.net) unitsPerNs * unitsPerNs = step at hreach hover
    exact ⟨calm_advance m _, by simp only; omega, by simp only; omega, hs, rfl⟩

/-! ### Pulses and overruns -/

theorem steady_trigTick (m : Mod) : Keeps steady m m.trigTick := by
  unfold Mod.trigTick
  exact .foldl _ (fun m n => .ite _ (steady_withPin m _) (.refl m)) _ m

theorem steady_overrunNoted (m : Mod) : Keeps steady m (m.withTick { m.tick with overrun := true }) := rfl

theorem steady_countOverrun (m : Mod) (shed : Nat) : Keeps steady m (m.countOverrun shed) := by
  unfold Mod.countOverrun
  extract_lets m1
  have h1 : Keeps steady m m1 := (steady_satAdd m GLB_TICK_STATUS_OVR_COUNT 0 1 rfl).trans (steady_sqc _ GLB_TICK_STATUS_OVERRUN 0 rfl)
  exact .ite _ (.refl m) ((h1.trans (steady_overrunNoted m1)).trans (steady_event _ _))

theorem calm_withThreads (m : Mod) (l : List (Nat × Thread)) : Keeps calm m (m.withEng { m.eng with threads := l }) := rfl

/-- The jobs that overrun are marked and counted (R34): the calm part and the time stay. -/
theorem calm_boundaryOverruns (m : Mod) : Keeps calm m m.boundaryOverruns ∧ m.boundaryOverruns.time = m.time := by
  unfold Mod.boundaryOverruns
  extract_lets queued late _ m1 m2
  have h1 : Keeps calm m m1 := calm_withThreads m _
  have h2 : Keeps steady m1 m2 := by
    refine .foldl _ (fun m c => ?_) _ m1
    exact steady_setCl m c _ rfl
  have h3 : Keeps steady m2 (late.foldl (fun m j => m.overran j.entry) m2) := .foldl _ (fun m j => steady_countOverrun m _) late m2
  exact ⟨(h1.trans h2.calm).trans h3.calm, h3.time.trans h2.time⟩

/-! ### Gate cycles -/

theorem steady_emptyWindow (m : Mod) (p i : Nat) : Keeps steady m (m.emptyWindow p i) :=
  ((steady_bump m _ 1).trans (steady_sqc _ SCH_EVENT_WINDOW 0 rfl)).trans (steady_eventRated _ _ _)

theorem steady_gateOverruns (m before : Mod) (p : Nat) : Keeps steady m (m.gateOverruns before p) := by
  unfold Mod.gateOverruns
  split
  · extract_lets c
    exact .ite _ (((steady_bump m _ 1).trans (steady_sqc _ SCH_EVENT_WINDOW 0 rfl)).trans (steady_eventRated _ _ _)) (.refl m)
  · exact .refl m

theorem steady_setGates (m : Mod) (p gates entry : Nat) : Keeps steady m (m.setGates p gates entry) := by
  unfold Mod.setGates
  extract_lets before _ m1
  have h1 : Keeps steady m m1 := by
    unfold m1
    split
    · exact steady_withSch m _
    · exact .refl m
  exact ((h1.trans (steady_set m1 SCH_PORT_STATUS_GATES p _ rfl)).trans (steady_set _ SCH_PORT_STATUS_CUR_ENTRY p _ rfl)).trans
    (steady_gateOverruns _ before p)

theorem steady_endCycle (m : Mod) (p : Nat) : Keeps steady m (m.endCycle p) := by
  unfold Mod.endCycle
  split
  · exact .foldl _ (fun m i => steady_emptyWindow m p _) _ m
  · exact .refl m

theorem steady_beginEntry (m : Mod) (p : Nat) (g : GateSt) : Keeps steady m (m.beginEntry p g) := by
  unfold Mod.beginEntry
  extract_lets b n j m1 _ m2
  have h1 : Keeps steady m m1 := .foldl _ (fun m i => steady_emptyWindow m p _) _ m
  have h2 : Keeps steady m1 m2 := steady_withSch m1 _
  exact (h1.trans h2).trans (steady_setGates m2 p _ j)

theorem steady_newCycle (m : Mod) (p start : Nat) : Keeps steady m (m.newCycle p start) := by
  unfold Mod.newCycle
  extract_lets b g0 g
  exact .ite _ (steady_beginEntry m p g) ((steady_withSch m _).trans (steady_setGates _ p 0 0))

theorem steady_switchBank (m : Mod) (p : Nat) (cut : Bool) : Keeps steady m (m.switchBank p cut) := by
  unfold Mod.switchBank
  extract_lets b m1 m2 m3
  have h1 : Keeps steady m m1 := .ite _ (steady_bump m _ 1) (.refl m)
  have h2 : Keeps steady m1 m2 := (steady_set m1 SCH_PORT_STATUS_CUR_BANK p _ rfl).trans (steady_set _ SCH_PORT_STATUS_SWITCH_PEND p _ rfl)
  have h3 : Keeps steady m2 m3 := (steady_bump m2 _ 1).trans (steady_sqc _ SCH_EVENT_SWITCHED 0 rfl)
  exact ((h1.trans h2).trans h3).trans (steady_event m3 _)

/-- A cycle starts, or a bank switches, at a boundary that has come (R185, R189). -/
theorem steady_cycleStart {m : Mod} (p : Nat) (h : m.tick.boundary ≤ m.time.net) : Keeps steady m (m.cycleStart p) := by
  unfold Mod.cycleStart
  extract_lets start n req sw begun m1 cut m2 m3
  have h1 : m1 = m := advanceNet_past h
  have h2 : Keeps steady m m2 := by
    unfold m2
    rw [h1]
    exact .ite _ (.refl m) (steady_endCycle m p)
  have h3 : Keeps steady m m3 := h2.trans (steady_switchBank m2 p cut)
  refine .ite _ (h3.trans (.ite _ (steady_newCycle m3 p start) (.refl m3))) (.ite _ ?_ (.refl m))
  rw [advanceNet_past h]
  exact (steady_endCycle m p).trans (steady_newCycle _ p start)

theorem steady_boundary {m n : Mod} (h : Keeps steady m n) : n.tick.boundary = m.tick.boundary :=
  congrArg (fun c : Calm => c.tick.boundary) h.calm

theorem steady_cyclesStart {m : Mod} (h : m.tick.boundary ≤ m.time.net) : Keeps steady m m.cyclesStart := by
  unfold Mod.cyclesStart
  refine .foldl_while (P := fun m => m.tick.boundary ≤ m.time.net) (fun a b hk ha => ?_) (fun m p hm => ?_) _ h
  · rw [steady_boundary hk, hk.time]
    exact ha
  · exact .ite _ (steady_cycleStart p hm) (.refl m)

end Sys2Proof.Machine
end

section
/-! SUPPORT. The tick commit (R25 to R31, R35, R39) where nothing but staged writes is due. -/

namespace Sys2Proof.Machine

/-! ### What a commit finds -/

/-- Nothing is due from the last commit, and no period, step, quiesce, reset or TC step waits for this one. -/
structure QuietCommit (m : Mod) : Prop where
  due : m.tick.jobsDue = [] ∧ m.tick.timersDue = []
  period : m.tick.periodPend = none
  unstepped : m.time.adj = none ∧ m.time.slew = 0
  resets : m.hdg.resets = []
  tc : m.upd.tc = none
  quiesce : ∀ c, (m.cl c).quiesce = none
  serving : ∀ c, c < 4 → m.get ENG_CLUSTER_STATUS_STATE c < 3
  ahead : m.time.net ≤ m.tick.boundary

/-! ### The boundary -/

/-- The boundary of the tick has come, and the 16 ns to its commit have passed. -/
def Mod.boundaryComes (m : Mod) : Mod := ((m.advanceNet m.tick.boundary).trigTick.boundaryOverruns.cyclesStart).advance 16

theorem boundaryComes_leaves {m : Mod} (h : QuietCommit m) :
    Keeps calm m m.boundaryComes ∧ m.boundaryComes.time.adj = none ∧ m.tick.boundary + 16 * unitsPerNs ≤ m.boundaryComes.time.net ∧
      m.boundaryComes.time.net < m.tick.boundary + 17 * unitsPerNs := by
  obtain ⟨hadj, hslew⟩ := h.unstepped
  obtain ⟨hcalm, hreach, hover, hslew', hadj'⟩ := advanceNet_reaches hslew h.ahead
  unfold Mod.boundaryComes
  generalize m.advanceNet m.tick.boundary = a at *
  have htrig := steady_trigTick a
  obtain ⟨hcalmO, htimeO⟩ := calm_boundaryOverruns a.trigTick
  have hcalmB := (hcalm.trans htrig.calm).trans hcalmO
  have htimeB := htimeO.trans htrig.time
  generalize a.trigTick.boundaryOverruns = b at *
  have hboundary : b.tick.boundary = m.tick.boundary := congrArg (fun c : Calm => c.tick.boundary) hcalmB
  have hcycles : Keeps steady b b.cyclesStart := steady_cyclesStart (by rw [hboundary, htimeB]; exact hreach)
  have htime := hcycles.time.trans htimeB
  generalize b.cyclesStart = c at *
  rw [time_advance (by rw [htime, hslew']), htime]
  refine ⟨(hcalmB.trans hcycles.calm).trans (calm_advance c 16), hadj'.trans hadj, ?_, ?_⟩
  · simp only; omega
  · simp only; omega

/-! ### What stays from the staged writes on -/

/-- The registers of a commit's counts and of the clusters' states. -/
def countRegs : List Reg := [.GLB_COMMIT_SEQ, .GLB_TICK_NUM, .ENG_CLUSTER_STATUS]

/-- What the last parts of a quiet commit leave: the parts they wait for, the time, the staged sets, the parse graph and the counts. -/
def counted (m : Mod) : (HdgSt × UpdSt × TimeSt) × (List Staged × List Staged × Nat) × (List (Nat × Word × Word) × List (Nat × Word)) ×
    ({ r : Reg // r ∈ countRegs } → Nat → Word) :=
  ((m.hdg, m.upd, m.time), (m.tick.now, m.tick.next, m.tick.fenceTok), (m.cls.nodes, m.cls.trans), fun r i => m.rd r i)

theorem keeps_counted_iff {m n : Mod} : Keeps counted m n ↔
    (n.hdg = m.hdg ∧ n.upd = m.upd ∧ n.time = m.time) ∧
      (n.tick.now = m.tick.now ∧ n.tick.next = m.tick.next ∧ n.tick.fenceTok = m.tick.fenceTok) ∧
      (n.cls.nodes = m.cls.nodes ∧ n.cls.trans = m.cls.trans) ∧ ∀ r i, r ∈ countRegs → n.rd r i = m.rd r i := by
  simp only [Keeps, counted, Prod.mk.injEq, funext_iff, Subtype.forall, and_congr_right_iff]
  exact fun _ _ _ => ⟨fun h r i hr => h r hr i, fun h r hr i => h r i hr⟩

theorem steady_of_counted {r : Reg} (h : r ∈ countRegs) : r ∈ steadyRegs := by
  revert r
  decide

theorem Keeps.counted {m n : Mod} (h : Keeps steady m n) : Keeps Machine.counted m n := by
  obtain ⟨htick, ⟨-, hhdg, hcls, -, hupd⟩, -, -, hregs⟩ := keeps_calm_iff.1 h.calm
  exact keeps_counted_iff.2 ⟨⟨hhdg, hupd, h.time⟩,
    ⟨(congrArg TickSt.now htick :), (congrArg TickSt.next htick :), (congrArg TickSt.fenceTok htick :)⟩, by rw [hcls]; exact ⟨rfl, rfl⟩,
    fun r i hr => hregs r i (steady_of_counted hr)⟩

theorem counted_set (m : Mod) (f : Fld) (i v : Nat) (h : (countRegs.all fun r => r.apart f.reg) = true) : Keeps counted m (m.set f i v) :=
  keeps_counted_iff.2 ⟨⟨rfl, rfl, rfl⟩, ⟨rfl, rfl, rfl⟩, ⟨rfl, rfl⟩, fun r j hr => rd_set_ne m f r i j v (List.all_eq_true.1 h r hr)⟩

theorem counted_withTick (m : Mod) {x : TickSt} (h : x.now = m.tick.now ∧ x.next = m.tick.next ∧ x.fenceTok = m.tick.fenceTok) :
    Keeps counted m (m.withTick x) := keeps_counted_iff.2 ⟨⟨rfl, rfl, rfl⟩, h, ⟨rfl, rfl⟩, fun _ _ _ => rfl⟩

/-- The boundary of the next tick (R27). -/
theorem counted_nextBoundary (m : Mod) : Keeps counted m (m.nextBoundary false) := by
  unfold Mod.nextBoundary
  extract_lets per b
  rw [if_neg Bool.false_ne_true]
  exact counted_withTick m ⟨rfl, rfl, rfl⟩

theorem nextBoundary_regs (m : Mod) : (m.nextBoundary false).regs = m.regs := by
  unfold Mod.nextBoundary
  rw [if_neg Bool.false_ne_true, withTick_regs]

theorem counted_tickFenceDone (m : Mod) : Keeps counted m m.tickFenceDone := by
  unfold Mod.tickFenceDone
  exact .ite _ (((counted_set m GLB_TICK_FENCE_TOKEN 0 _ rfl).trans (counted_set _ GLB_TICK_FENCE_BUSY 0 0 rfl)).trans
    (announced_pfCause _ 16).steady.counted) (.refl m)

theorem counted_shedUpdate (m : Mod) : Keeps counted m m.shedUpdate := by
  unfold Mod.shedUpdate
  extract_lets level move _ m1 m2
  have hmove (m : Mod) (new : Nat) : Keeps counted m (move m new) :=
    (counted_set m GLB_TICK_CFG_SHED_LEVEL 0 new rfl).trans (steady_event _ _).counted
  have h1 : Keeps counted m m1 := counted_withTick m ⟨rfl, rfl, rfl⟩
  have h2 : Keeps counted m m2 := counted_withTick m ⟨rfl, rfl, rfl⟩
  exact .ite _ (h1.trans (.ite _ (hmove m1 _) (.refl m1))) (.ite _ (h2.trans (.ite _ (hmove m2 _) (.refl m2)))
    (counted_withTick m ⟨rfl, rfl, rfl⟩))

theorem excRefill_regs (m : Mod) : m.excRefill.regs = m.regs := rfl

theorem counted_excRefill (m : Mod) : Keeps counted m m.excRefill := rfl

/-- What a quiet commit does after its staged writes, but for what it makes due. -/
def Mod.commitEnds (m : Mod) : Mod := (m.nextBoundary false).tickFenceDone.shedUpdate.excRefill

theorem counted_commitEnds (m : Mod) : Keeps counted m m.commitEnds :=
  (((counted_nextBoundary m).trans (counted_tickFenceDone _)).trans (counted_shedUpdate _)).trans (counted_excRefill _)

/-! ### The tick fence -/

/-- The tick fence's register. -/
def tickFenceWord (m : Mod) : Word := m.rd .GLB_TICK_FENCE

theorem tickFenceWord_shedUpdate (m : Mod) : Keeps tickFenceWord m m.shedUpdate := by
  unfold Mod.shedUpdate
  extract_lets level move _ m1 m2
  have hmove (m : Mod) (new : Nat) : Keeps tickFenceWord m (move m new) :=
    (show Keeps tickFenceWord m _ from rd_set_ne m GLB_TICK_CFG_SHED_LEVEL _ 0 0 new rfl).trans
      (rd_of_calm (steady_event _ _).calm 0 (by decide))
  have h1 : Keeps tickFenceWord m m1 := rfl
  have h2 : Keeps tickFenceWord m m2 := rfl
  exact .ite _ (h1.trans (.ite _ (hmove m1 _) (.refl m1))) (.ite _ (h2.trans (.ite _ (hmove m2 _) (.refl m2))) rfl)

/-- A busy tick fence is done: its register shows its token and is not busy (R39). -/
theorem tickFenceDone_shows {m : Mod} (h : m.flag GLB_TICK_FENCE_BUSY = true) (hk : m.tick.fenceTok < 2 ^ 32) :
    m.tickFenceDone.get GLB_TICK_FENCE_BUSY = 0 ∧ m.tickFenceDone.get GLB_TICK_FENCE_TOKEN = m.tick.fenceTok := by
  unfold Mod.tickFenceDone
  rw [if_pos h]
  have hcause (f : Fld) (hf : f.reg ∈ steadyRegs) (m : Mod) : (m.pfCause 16).get f = m.get f :=
    get_of_calm (announced_pfCause m 16).steady.calm 0 hf
  constructor
  · rw [hcause _ (by decide), get_set _ _ _ _ (by decide)]
    rfl
  · rw [hcause _ (by decide), get_set_field _ GLB_TICK_FENCE_BUSY GLB_TICK_FENCE_TOKEN _ _ rfl (by decide) (by decide),
      get_set _ _ _ _ (by decide)]
    exact Nat.mod_eq_of_lt hk

theorem commitEnds_tickFence {m : Mod} (h : m.flag GLB_TICK_FENCE_BUSY = true) (hk : m.tick.fenceTok < 2 ^ 32) :
    m.commitEnds.get GLB_TICK_FENCE_BUSY = 0 ∧ m.commitEnds.get GLB_TICK_FENCE_TOKEN = m.tick.fenceTok := by
  have hregs := nextBoundary_regs m
  have htok : (m.nextBoundary false).tick.fenceTok = m.tick.fenceTok := (keeps_counted_iff.1 (counted_nextBoundary m)).2.1.2.2
  have hbusy : (m.nextBoundary false).flag GLB_TICK_FENCE_BUSY = true := by
    rw [Mod.flag, get_of_regs hregs]
    exact h
  have hdone := tickFenceDone_shows hbusy (htok.trans_lt hk)
  rw [htok] at hdone
  unfold Mod.commitEnds
  generalize (m.nextBoundary false).tickFenceDone = a at hdone
  have hget (f : Fld) (hf : f.reg = .GLB_TICK_FENCE) : a.shedUpdate.excRefill.get f = a.get f := by
    rw [get_of_regs (excRefill_regs _)]
    unfold Mod.get
    rw [hf]
    exact congrArg f.of (tickFenceWord_shedUpdate a)
  rw [hget _ rfl, hget _ rfl]
  exact hdone

/-! ### Staged nodes -/

/-- Every staged write is one of a parse-graph node. -/
def NodesOnly (l : List Staged) : Prop := ∀ x ∈ l, ∃ i, x.key = .node i

theorem stagedRegs_nodes {l : List Staged} (h : NodesOnly l) : stagedRegs l = [] := by
  unfold stagedRegs
  rw [List.filterMap_eq_nil_iff.2]
  · rfl
  · intro x hx
    obtain ⟨i, hi⟩ := h x hx
    simp [hi]

/-- Staged nodes change the nodes of the parse graph alone. -/
theorem applyStaged_nodes {l : List Staged} (h : NodesOnly l) (m : Mod) :
    ∃ x, l.foldl Mod.applyStaged m = m.withCls { m.cls with nodes := x } := by
  induction l generalizing m with
  | nil => exact ⟨m.cls.nodes, rfl⟩
  | cons a t ih =>
    obtain ⟨i, hi⟩ := h a (by simp)
    obtain ⟨x, hx⟩ := ih (fun y hy => h y (by simp [hy])) (m.applyStaged a)
    refine ⟨x, hx.trans ?_⟩
    simp only [Mod.applyStaged, hi]
    rfl

/-- The writes of the tick's set that come into force: none of a set that has been lost (R30). -/
def Mod.stagedNow (m : Mod) : List Staged := if m.tick.nowLost then [] else m.tick.now

theorem commitStaged_nodes {m : Mod} (h : NodesOnly m.stagedNow) :
    m.commitStaged = ((m.stagedNow.foldl Mod.applyStaged m).withTick
      { (m.stagedNow.foldl Mod.applyStaged m).tick with
        now := (m.stagedNow.foldl Mod.applyStaged m).tick.next, next := [],
        nowLost := (m.stagedNow.foldl Mod.applyStaged m).tick.nextLost, nextLost := false }).xoffUpdate := by
  have hregs : stagedRegs (if m.tick.nowLost then [] else m.tick.now) = [] := stagedRegs_nodes h
  simp only [Mod.commitStaged, hregs, List.map_nil, List.foldl_nil]
  rfl

/-- Of a commit of staged nodes, what stays, and the next set in place of the current one. -/
theorem commitStaged_leaves {m : Mod} (h : NodesOnly m.stagedNow) :
    (m.commitStaged.hdg = m.hdg ∧ m.commitStaged.upd = m.upd ∧ m.commitStaged.time = m.time) ∧
      (m.commitStaged.tick.now = m.tick.next ∧ m.commitStaged.tick.next = [] ∧ m.commitStaged.tick.fenceTok = m.tick.fenceTok) ∧
      (m.commitStaged.cls.nodes = (m.stagedNow.foldl Mod.applyStaged m).cls.nodes ∧ m.commitStaged.cls.trans = m.cls.trans) ∧
      ∀ r i, r ∈ steadyRegs → m.commitStaged.rd r i = m.rd r i := by
  obtain ⟨x, hx⟩ := applyStaged_nodes h m
  rw [commitStaged_nodes h, hx]
  have hsteady := steady_xoffUpdate ((m.withCls { m.cls with nodes := x }).withTick
    { m.tick with now := m.tick.next, next := [], nowLost := m.tick.nextLost, nextLost := false })
  obtain ⟨hparts, htick, hcls, -⟩ := keeps_counted_iff.1 hsteady.counted
  exact ⟨hparts, htick, hcls, fun r i hr => rd_of_calm hsteady.calm i hr⟩

/-! ### The counts -/

/-- The commit counts, and the tick's number is that of its boundary (R25, R27); no part and no other register changes. -/
theorem countTick_counts (m : Mod) :
    m.countTick.rd .GLB_COMMIT_SEQ = m.rd .GLB_COMMIT_SEQ + 1 ∧
      m.countTick.rd .GLB_TICK_NUM = BitVec.ofNat 64 (m.tick.boundary / (m.period * unitsPerNs)) ∧
      ∀ r i, r.apart .GLB_TICK_NUM = true → r.apart .GLB_COMMIT_SEQ = true → m.countTick.rd r i = m.rd r i := by
  unfold Mod.countTick
  extract_lets n old _ m1
  have h1 : m1.regs = m.regs := withTick_regs m _
  refine ⟨?_, ?_, fun r i hn hs => ?_⟩
  · rw [rd_wr, rd_of_regs h1]
  · rw [rd_wr_ne _ _ _ _ _ _ rfl, rd_wr]
    exact BitVec.eq_of_toNat_eq (by simp [n])
  · rw [rd_wr_ne _ _ _ _ _ _ hs, rd_wr_ne _ _ _ _ _ _ hn, rd_of_regs h1]

theorem countTick_parts (m : Mod) : m.countTick.hdg = m.hdg ∧ m.countTick.upd = m.upd ∧ m.countTick.time = m.time ∧ m.countTick.cls = m.cls ∧
    (∀ c, m.countTick.cl c = m.cl c) ∧ m.countTick.tick.now = m.tick.now ∧ m.countTick.tick.next = m.tick.next ∧
    m.countTick.tick.nowLost = m.tick.nowLost ∧ m.countTick.tick.fenceTok = m.tick.fenceTok := by
  simp [Mod.countTick, Mod.cl]

/-- The module as its staged writes come into force: 16 ns past the boundary, and counted. -/
def Mod.commitBegins (m : Mod) : Mod := m.boundaryComes.countTick

section
variable {m : Mod} (h : QuietCommit m)
include h

theorem commitBegins_parts : m.commitBegins.hdg = m.hdg ∧ m.commitBegins.upd = m.upd ∧ m.commitBegins.cls = m.cls ∧
    ∀ c, (m.commitBegins.cl c).quiesce = none := by
  obtain ⟨hhdg, hupd, -, hcls, hcl, -⟩ := countTick_parts m.boundaryComes
  obtain ⟨-, ⟨-, hhdg', hcls', -, hupd'⟩, -, hquiesce, -⟩ := keeps_calm_iff.1 (boundaryComes_leaves h).1
  exact ⟨hhdg.trans hhdg', hupd.trans hupd', hcls.trans hcls', fun c => by rw [Mod.commitBegins, hcl, hquiesce, h.quiesce]⟩

theorem commitBegins_tick : m.commitBegins.tick.next = m.tick.next ∧ m.commitBegins.tick.fenceTok = m.tick.fenceTok ∧
    m.commitBegins.stagedNow = m.stagedNow := by
  obtain ⟨-, -, -, -, -, hnow, hnext, hlost, htok⟩ := countTick_parts m.boundaryComes
  obtain ⟨htick, -⟩ := keeps_calm_iff.1 (boundaryComes_leaves h).1
  have hnow' : m.boundaryComes.tick.now = m.tick.now := (congrArg TickSt.now htick :)
  have hlost' : m.boundaryComes.tick.nowLost = m.tick.nowLost := (congrArg TickSt.nowLost htick :)
  refine ⟨hnext.trans (congrArg TickSt.next htick :), htok.trans (congrArg TickSt.fenceTok htick :), ?_⟩
  unfold Mod.stagedNow Mod.commitBegins
  rw [hnow, hnow', hlost, hlost']

theorem commitBegins_time : m.commitBegins.time.adj = none ∧ m.tick.boundary + 16 * unitsPerNs ≤ m.commitBegins.time.net ∧
    m.commitBegins.time.net < m.tick.boundary + 17 * unitsPerNs := by
  unfold Mod.commitBegins
  rw [(countTick_parts m.boundaryComes).2.2.1]
  exact (boundaryComes_leaves h).2

theorem commitBegins_regs : m.commitBegins.rd .GLB_COMMIT_SEQ = m.rd .GLB_COMMIT_SEQ + 1 ∧
    m.commitBegins.rd .GLB_TICK_NUM = BitVec.ofNat 64 (m.tick.boundary / (m.period * unitsPerNs)) ∧
    (∀ c, m.commitBegins.rd .ENG_CLUSTER_STATUS c = m.rd .ENG_CLUSTER_STATUS c) ∧
    m.commitBegins.rd .GLB_TICK_FENCE = m.rd .GLB_TICK_FENCE := by
  obtain ⟨hseq, hnum, hother⟩ := countTick_counts m.boundaryComes
  have hcalm := (boundaryComes_leaves h).1
  have hperiod : m.boundaryComes.period = m.period := congrArg periodNs (get_of_calm hcalm 0 (by decide))
  have hboundary : m.boundaryComes.tick.boundary = m.tick.boundary := congrArg (fun c : Calm => c.tick.boundary) hcalm
  rw [rd_of_calm hcalm 0 (by decide)] at hseq
  rw [hboundary, hperiod] at hnum
  exact ⟨hseq, hnum, fun c => (hother _ c rfl rfl).trans (rd_of_calm hcalm c (by decide)),
    (hother _ 0 rfl rfl).trans (rd_of_calm hcalm 0 (by decide))⟩

end

/-! ### The commit -/

/-- A module with the tick jobs and the timers of all clusters due (R276, R279). -/
def Mod.allDue (m : Mod) : Mod := m.withTick { m.tick with jobsDue := [0, 1, 2, 3], timersDue := [0, 1, 2, 3] }

theorem entriesMove_serving {m : Mod} {c : Nat} (h : m.get ENG_CLUSTER_STATUS_STATE c < 3) (locks : BitVec 5) : m.entriesMove locks c = m := by
  have h3 : (m.get ENG_CLUSTER_STATUS_STATE c == 3) = false := by simp; omega
  have h4 : (m.get ENG_CLUSTER_STATUS_STATE c == 4) = false := by simp; omega
  simp [Mod.entriesMove, h3, h4]

theorem entriesMove_all {m : Mod} (h : ∀ c, c < 4 → m.get ENG_CLUSTER_STATUS_STATE c < 3) (locks : BitVec 5) :
    (List.range 4).foldl (fun m c => m.entriesMove locks c) m = m := by
  simp [List.range_succ, entriesMove_serving (h _ _)]

/-- With no slew, step, reset or TC step the parts of the commit that wait for one do nothing. -/
theorem applyAdj_none {m : Mod} (h : m.time.adj = none) : m.applyAdj = (false, m) := by
  unfold Mod.applyAdj
  rw [h]

theorem resetsCommit_none {m : Mod} (h : m.hdg.resets = []) (locks : BitVec 5) (room : Nat) :
    (m.reloadCommit locks room).resetCommit = m := by
  have hreload : m.reloadCommit locks room = m := by
    unfold Mod.reloadCommit
    rw [h]
    rfl
  rw [hreload]
  unfold Mod.resetCommit
  rw [h]
  rfl

theorem tcCommit_none {m : Mod} (h : m.upd.tc = none) (locks : BitVec 5) : m.tcCommit locks = (locks, m) := by
  unfold Mod.tcCommit
  rw [h]

theorem quiesceCommit_all {m : Mod} (h : ∀ c, (m.cl c).quiesce = none) : (List.range 4).foldl Mod.quiesceCommit m = m := by
  have hone (c : Nat) : m.quiesceCommit c = m := by
    unfold Mod.quiesceCommit
    extract_lets k
    rw [h c]
  simp [List.range_succ, hone]

theorem finishDue_none {m : Mod} (h : QuietCommit m) : m.finishDue.periodReached = m := by
  have hdue : m.finishDue = m := by
    unfold Mod.finishDue
    rw [h.due.1]
    simp [h.due.2]
  rw [hdue]
  unfold Mod.periodReached
  rw [h.period]

/-- The parts of a commit that wait for something, at one for which nothing waits. -/
theorem tickCommit_eq {m a b c : Mod} {locks : BitVec 5} (h : QuietCommit m) (ha : a = m.commitBegins)
    (hq : ∀ k, (a.cl k).quiesce = none) (hb : b = a.commitStaged) (hadj : b.time.adj = none) (hc : c = b.commitEnds) (hr : c.hdg.resets = [])
    (hs : ∀ k, k < 4 → c.get ENG_CLUSTER_STATUS_STATE k < 3) (ht : c.upd.tc = none) : m.tickCommit locks = (locks, c.allDue) := by
  have htc := tcCommit_none (m := c.allDue) ht locks
  subst ha hb hc
  rw [← htc]
  unfold Mod.tickCommit
  extract_lets m0 m1 m2 room m3 m4 r m5 m6 m7 _ m8
  have h1 : m1 = m.boundaryComes := by unfold m1 Mod.boundaryComes; rw [show m0 = m from finishDue_none h]
  have h3 : m3 = m.commitBegins := by unfold m3 m2; rw [h1]; exact quiesceCommit_all hq
  have h5 : m5 = m.commitBegins.commitStaged.nextBoundary false := by
    unfold m5 r m4
    rw [h3, applyAdj_none hadj]
  have h7 : m7 = m.commitBegins.commitStaged.commitEnds := by
    unfold m7 m6
    rw [h5, ← Mod.commitEnds, resetsCommit_none hr]
    exact entriesMove_all hs locks
  have h8 : m8 = m7.allDue := rfl
  rw [h8, h7]

/-- The module after a quiet commit. -/
def Mod.quietlyCommitted (m : Mod) : Mod := m.commitBegins.commitStaged.commitEnds.allDue

section
variable {m : Mod} (h : QuietCommit m) (hn : NodesOnly m.stagedNow)
include h hn

theorem tickCommit_quiet (locks : BitVec 5) : m.tickCommit locks = (locks, m.quietlyCommitted) := by
  obtain ⟨hhdg, hupd, -, hquiesce⟩ := commitBegins_parts h
  obtain ⟨hadj, -⟩ := commitBegins_time h
  obtain ⟨-, -, hstatus, -⟩ := commitBegins_regs h
  obtain ⟨⟨hhdgS, hupdS, htimeS⟩, -, -, hregsS⟩ := commitStaged_leaves (m := m.commitBegins) ((commitBegins_tick h).2.2 ▸ hn)
  obtain ⟨⟨hhdgE, hupdE, -⟩, -, -, hregsE⟩ := keeps_counted_iff.1 (counted_commitEnds m.commitBegins.commitStaged)
  refine tickCommit_eq h rfl hquiesce rfl ?_ rfl ?_ (fun c hc => ?_) ?_
  · rw [htimeS, hadj]
  · rw [hhdgE, hhdgS, hhdg, h.resets]
  · have hget := h.serving c hc
    unfold Mod.get at hget ⊢
    rw [hregsE _ c (by decide), hregsS _ c (by decide)]
    exact (congrArg ENG_CLUSTER_STATUS_STATE.of (hstatus c)).trans_lt hget
  · rw [hupdE, hupdS, hupd, h.tc]

/-- From the staged writes on, a quiet commit keeps what has been counted. -/
theorem quietlyCommitted_leaves :
    (m.quietlyCommitted.time = m.commitBegins.time ∧ ∀ r i, r ∈ countRegs → m.quietlyCommitted.rd r i = m.commitBegins.rd r i) ∧
      (m.quietlyCommitted.tick.now = m.tick.next ∧ m.quietlyCommitted.tick.next = []) ∧
      m.quietlyCommitted.cls.nodes = (m.stagedNow.foldl Mod.applyStaged m.commitBegins).cls.nodes ∧
      m.quietlyCommitted.cls.trans = m.cls.trans := by
  obtain ⟨-, -, hcls, -⟩ := commitBegins_parts h
  obtain ⟨hnext, -, hnow⟩ := commitBegins_tick h
  obtain ⟨⟨-, -, htimeS⟩, ⟨hnowS, hnextS, -⟩, ⟨hnodesS, htransS⟩, hregsS⟩ := commitStaged_leaves (m := m.commitBegins) (hnow ▸ hn)
  have hdue : Keeps counted m.commitBegins.commitStaged.commitEnds m.quietlyCommitted := counted_withTick _ ⟨rfl, rfl, rfl⟩
  obtain ⟨⟨-, -, htimeE⟩, ⟨hnowE, hnextE, -⟩, ⟨hnodesE, htransE⟩, hregsE⟩ := keeps_counted_iff.1 ((counted_commitEnds _).trans hdue)
  rw [hnow] at hnodesS
  exact ⟨⟨htimeE.trans htimeS, fun r i hr => (hregsE r i hr).trans (hregsS r i (steady_of_counted hr))⟩,
    ⟨hnowE.trans (hnowS.trans hnext), hnextE.trans hnextS⟩, hnodesE.trans hnodesS, htransE.trans (htransS.trans (by rw [hcls]))⟩

theorem quietlyCommitted_tickFence (hb : m.flag GLB_TICK_FENCE_BUSY = true) (hk : m.tick.fenceTok < 2 ^ 32) :
    m.quietlyCommitted.get GLB_TICK_FENCE_BUSY = 0 ∧ m.quietlyCommitted.get GLB_TICK_FENCE_TOKEN = m.tick.fenceTok := by
  obtain ⟨-, htok, hnow⟩ := commitBegins_tick h
  obtain ⟨-, -, -, hfence⟩ := commitBegins_regs h
  obtain ⟨-, ⟨-, -, htokS⟩, -, hregsS⟩ := commitStaged_leaves (m := m.commitBegins) (hnow ▸ hn)
  have htok' := htokS.trans htok
  have hbusy : m.commitBegins.commitStaged.flag GLB_TICK_FENCE_BUSY = true := by
    have hword := (hregsS .GLB_TICK_FENCE 0 (by decide)).trans hfence
    unfold Mod.flag Mod.get at hb ⊢
    rw [show GLB_TICK_FENCE_BUSY.reg = .GLB_TICK_FENCE from rfl] at hb ⊢
    rw [hword]
    exact hb
  have hends := commitEnds_tickFence hbusy (htok' ▸ hk)
  rw [htok'] at hends
  unfold Mod.quietlyCommitted Mod.allDue
  rw [withTick_get, withTick_get]
  exact hends

end

theorem does_tickCommit_quiet {s : State} (hrun : s.Running) (h : QuietCommit s.m) (hn : NodesOnly s.m.stagedNow) :
    Does .tickCommit s s.m.quietlyCommitted := by
  unfold Does
  rw [exec_tickCommit, actLocks_next s _ hrun, tickCommit_quiet h hn]

theorem nodesOnly_nil : NodesOnly [] := fun _ h => absurd h List.not_mem_nil

theorem nodesOnly_single (i v : Nat) : NodesOnly [⟨.node i, v⟩] := fun x hx => ⟨i, by rw [List.mem_singleton.1 hx]⟩

/-- Settles O15: the parts of the commit that wait for something do nothing, and each other one is followed for what it leaves. -/
theorem quietTickCommitCounts : Obligations.QuietTickCommitCounts := by
  intro s hrun hjobs htimers hperiod hnow hadj hslew hresets htc hquiesce hserving hahead htok
  have h : QuietCommit s.m := ⟨⟨hjobs, htimers⟩, hperiod, ⟨hadj, hslew⟩, hresets, htc, hquiesce, hserving, hahead⟩
  have hn : NodesOnly s.m.stagedNow := by
    unfold Mod.stagedNow
    rw [hnow, ite_self]
    exact nodesOnly_nil
  obtain ⟨-, hreach, hover⟩ := commitBegins_time h
  obtain ⟨hseq, hnum, -⟩ := commitBegins_regs h
  obtain ⟨⟨htime, hregs⟩, ⟨hcur, hnext⟩, -⟩ := quietlyCommitted_leaves h hn
  refine yields_of_does (does_tickCommit_quiet hrun h hn) ⟨htime ▸ hreach, htime ▸ hover, (hregs _ 0 (by decide)).trans hseq, (hregs _ 0 (by decide)).trans hnum, fun hb => ?_, rfl, rfl,
    hcur, hnext, rfl⟩
  exact quietlyCommitted_tickFence h hn hb htok

/-- Settles O16: the staged node is what the commit's set applies, and nothing else in the commit touches the parse graph. -/
theorem stagedParserWriteCommits : Obligations.StagedParserWriteCommits := by
  intro s i v hrun hjobs htimers hperiod hnow hadj hslew hresets htc hquiesce hserving hahead
  have h : QuietCommit s.m := ⟨⟨hjobs, htimers⟩, hperiod, ⟨hadj, hslew⟩, hresets, htc, hquiesce, hserving, hahead⟩
  have hlist : s.m.stagedNow = if s.m.tick.nowLost then [] else [⟨.node i, v⟩] := by
    unfold Mod.stagedNow
    rw [hnow]
  have hn : NodesOnly s.m.stagedNow := by
    rw [hlist]
    split
    · exact nodesOnly_nil
    · exact nodesOnly_single i v
  obtain ⟨-, -, hcls, -⟩ := commitBegins_parts h
  obtain ⟨-, -, hnodes, htrans⟩ := quietlyCommitted_leaves h hn
  have hnodes' : s.m.quietlyCommitted.cls.nodes = if s.m.tick.nowLost then s.m.cls.nodes
      else storeUnless (0, 0) s.m.cls.nodes i (BitVec.ofNat 64 v, BitVec.ofNat 64 (v / 2 ^ 64)) := by
    rw [hnodes, hlist, ← hcls]
    split <;> rfl
  refine yields_of_does (does_tickCommit_quiet hrun h hn) ⟨fun hl => ?_, fun hl => ?_, fun j hj => ?_, htrans⟩ <;> simp only [hnodes']
  · rw [if_neg (by simp [hl]), lookupD_storeUnless, if_pos rfl]
  · rw [if_pos hl]
  · split
    · rfl
    · rw [lookupD_storeUnless_ne _ _ _ _ hj]

end Sys2Proof.Machine
end

section
/-! SUPPORT. Fences that settle (R260): a thread that waits moves on when its fence is satisfied, and every other thread stays as it is. -/

namespace Sys2Proof.Machine

/-! ### What settling leaves -/

/-- From m to n threads other than the one of a key may have ended or moved on: the calm part and the time stay, and the order of the ready
threads goes on. -/
structure Settles (m n : Mod) : Prop where
  calm : Keeps calm m n
  time : n.time = m.time
  turn : m.eng.turn ≤ n.eng.turn

theorem Settles.refl (m : Mod) : Settles m m := ⟨.refl m, rfl, le_rfl⟩

theorem Settles.trans {a b c : Mod} (h : Settles a b) (k : Settles b c) : Settles a c :=
  ⟨h.calm.trans k.calm, k.time.trans h.time, h.turn.trans k.turn⟩

theorem Keeps.settles {m n : Mod} (h : Keeps steady m n) : Settles m n := ⟨h.calm, h.time, h.turn.ge⟩

theorem settles_freeThread (m : Mod) (key : Nat) : Settles m (m.freeThread key) := ⟨rfl, rfl, le_rfl⟩

theorem settles_joinReady (m : Mod) (key : Nat) (t : Thread) : Settles m (m.joinReady key t) := ⟨rfl, rfl, Nat.le_succ _⟩

theorem thread_freeThread (m : Mod) (key k : Nat) : (m.freeThread key).thread k = if k = key then none else m.thread k :=
  lookup_remove _ _ _

theorem thread_joinReady (m : Mod) (key k : Nat) (t : Thread) :
    (m.joinReady key t).thread k = if k = key then some { t with turn := m.eng.turn } else m.thread k := lookup_store _ _ _ _

theorem thread_of_steady {m n : Mod} (h : Keeps steady m n) (k : Nat) : n.thread k = m.thread k := by
  unfold Mod.thread
  rw [h.threads]

/-- A job that ends leaves its thread free. -/
theorem jobEnds_leaves (m : Mod) (key : Nat) :
    Settles m (m.jobEnds key) ∧ ∀ k, k ≠ key → (m.jobEnds key).thread k = m.thread k := by
  unfold Mod.jobEnds
  split
  · exact ⟨.refl m, fun _ _ => rfl⟩
  · rename_i t _
    have h := ((steady_orphan (m.freeThread key) (key / 768) t.job).trans (steady_bump _ (engCtr (key / 768) 1) 1)).trans
      (steady_epcThread _ key t 12 1)
    refine ⟨(settles_freeThread m key).trans h.settles, fun k hk => ?_⟩
    rw [thread_of_steady h, thread_freeThread, if_neg hk]

theorem settleThread_leaves (m : Mod) (key : Nat) :
    Settles m (m.settleThread key) ∧ ∀ k, k ≠ key → (m.settleThread key).thread k = m.thread k := by
  have kept : Settles m m ∧ ∀ k, k ≠ key → m.thread k = m.thread k := ⟨.refl m, fun _ _ => rfl⟩
  unfold Mod.settleThread
  split
  · exact kept
  · rename_i t _
    split
    · split
      · exact jobEnds_leaves m key
      · exact kept
    · split
      · exact ⟨settles_joinReady m key _, fun k hk => by rw [thread_joinReady, if_neg hk]⟩
      · exact kept

theorem settleThread_none {m : Mod} {key : Nat} (h : m.thread key = none) : m.settleThread key = m := by
  unfold Mod.settleThread
  rw [h]

/-- A thread whose fence is satisfied is ready behind the others; one whose fence is not waits on. -/
theorem settleThread_going {m : Mod} {key : Nat} {t : Thread} (h : m.thread key = some t) (he : t.ending = none) :
    m.settleThread key = if t.fence ≠ 0 ∧ m.fenceMet key t.fence = true then m.joinReady key { t with fence := 0 } else m := by
  unfold Mod.settleThread
  rw [h]
  simp [he]

/-- A key without a thread has none afterwards. -/
theorem settleEnds_none {m : Mod} {key : Nat} (h : m.thread key = none) :
    Settles m m.settleEnds ∧ m.settleEnds.thread key = none := by
  unfold Mod.settleEnds
  generalize m.eng.threads.map (·.1) = l
  induction l generalizing m with
  | nil => exact ⟨.refl m, h⟩
  | cons k l ih =>
    obtain ⟨hleaves, hother⟩ := settleThread_leaves m k
    have hnone : (m.settleThread k).thread key = none := by
      by_cases hk : key = k
      · rw [← hk, settleThread_none h, h]
      · rw [hother key hk, h]
    obtain ⟨hrest, hkey⟩ := ih hnone
    exact ⟨hleaves.trans hrest, hkey⟩

/-! ### A fence -/

/-- What the thread of a key holds back while a commit section is open. -/
def Thread.withholds (t : Thread) : Bool := t.inCommit && !t.held.isEmpty

theorem fenceMet_congr {m n : Mod} (h : Keeps calm m n) {key : Nat} {t u : Thread} (hm : m.thread key = some t) (hn : n.thread key = some u)
    (hw : u.withholds = t.withholds) (f : Nat) : n.fenceMet key f = m.fenceMet key f := by
  obtain ⟨-, ⟨hwin, -⟩, hinject, -⟩ := keeps_calm_iff.1 h
  unfold Thread.withholds at hw
  simp [Mod.fenceMet, hm, hn, hw, hwin, hinject]

/-- What a fence leaves to wait for: nothing once it is satisfied. -/
def Mod.fenceLeft (m : Mod) (key f : Nat) : Nat := if m.fenceMet key f then 0 else f

theorem fenceLeft_zero (m : Mod) (key : Nat) : m.fenceLeft key 0 = 0 := ite_self 0

theorem fenceLeft_idem (m : Mod) (key f : Nat) : m.fenceLeft key (m.fenceLeft key f) = m.fenceLeft key f := by
  unfold Mod.fenceLeft
  split
  · exact ite_self 0
  · rfl

theorem mem_keys_of_lookup {α : Type} {l : List (Nat × α)} {k : Nat} {a : α} (h : lookup l k = some a) : k ∈ l.map (·.1) := by
  induction l with
  | nil => simp [lookup] at h
  | cons e t ih =>
    by_cases hk : e.1 = k
    · simp [hk]
    · simp only [lookup, hk, if_false] at h
      simp [ih h]

/-! ### A thread that goes on -/

/-- From m to n the thread t of a key has stayed but for its fence and its turn, which is b or later. -/
def Stands (m : Mod) (key : Nat) (t : Thread) (b f : Nat) (n : Mod) : Prop :=
  Settles m n ∧ ∃ k, b ≤ k ∧ n.thread key = some { t with fence := f, turn := k }

section
variable {m : Mod} {key b : Nat} {t : Thread} (ht : m.thread key = some t) (he : t.ending = none) (hb : b ≤ m.eng.turn)

theorem stands_settleThread_ne {n : Mod} {f k : Nat} (hk : key ≠ k) (h : Stands m key t b f n) : Stands m key t b f (n.settleThread k) := by
  obtain ⟨hs, j, hj, hu⟩ := h
  obtain ⟨hleaves, hother⟩ := settleThread_leaves n k
  exact ⟨hs.trans hleaves, j, hj, (hother key hk).trans hu⟩

include ht he hb

theorem stands_settleThread {n : Mod} {f : Nat} (h : Stands m key t b f n) :
    Stands m key t b (m.fenceLeft key f) (n.settleThread key) := by
  obtain ⟨hs, j, hj, hu⟩ := h
  have hmet : n.fenceMet key f = m.fenceMet key f := fenceMet_congr hs.calm ht hu rfl f
  have hleaves := (settleThread_leaves n key).1
  refine ⟨hs.trans hleaves, ?_⟩
  rw [settleThread_going hu he]
  simp only [hmet]
  unfold Mod.fenceLeft
  by_cases hf : m.fenceMet key f = true
  · rw [if_pos hf]
    by_cases h0 : f = 0
    · subst h0
      exact ⟨j, hj, by rw [if_neg (by simp), hu]⟩
    · refine ⟨n.eng.turn, hb.trans hs.turn, ?_⟩
      rw [if_pos ⟨h0, hf⟩, thread_joinReady, if_pos rfl]
  · rw [if_neg hf]
    exact ⟨j, hj, by rw [if_neg (fun hp => hf hp.2), hu]⟩

theorem stands_settleThreads (l : List Nat) {n : Mod} {f : Nat} (h : Stands m key t b f n) :
    Stands m key t b (if key ∈ l then m.fenceLeft key f else f) (l.foldl Mod.settleThread n) := by
  induction l generalizing n f with
  | nil => exact h
  | cons k l ih =>
    by_cases hk : key = k
    · subst hk
      have hrest := ih (stands_settleThread ht he hb h)
      rw [fenceLeft_idem, ite_self] at hrest
      rwa [if_pos List.mem_cons_self]
    · have hrest := ih (stands_settleThread_ne hk h)
      rwa [if_congr (show key ∈ k :: l ↔ key ∈ l by simp [hk]) rfl rfl]

/-- A thread that goes on has its fence settled with the others. -/
theorem stands_settleEnds (hturn : b ≤ t.turn) : Stands m key t b (m.fenceLeft key t.fence) m.settleEnds := by
  have h := stands_settleThreads ht he hb (m.eng.threads.map (·.1)) (n := m) (f := t.fence) ⟨.refl m, t.turn, hturn, ht⟩
  rwa [if_pos (mem_keys_of_lookup ht)] at h

end

end Sys2Proof.Machine
end

section
/-! SUPPORT. A microword completes (R257, R259): what its thread then holds, and what its marker, its issue slot, its sample and a spent
budget leave. -/

namespace Sys2Proof.Machine

/-! ### The thread -/

/-- The thread u is t with its microword completed: its ALU results are written, and its job, its END and its commit section stay. -/
structure Completes (t u : Thread) : Prop where
  job : u.job = t.job
  mw : u.mw = {}
  issued : u.issued = t.issued + 1
  w : u.w = ((t.put t.mw.resA).put t.mw.resB).w
  flagsA : u.flagsA = (t.mw.resA.map (·.flags)).getD t.flagsA
  flagsB : u.flagsB = (t.mw.resB.map (·.flags)).getD t.flagsB
  ending : u.ending = t.ending
  withholds : u.withholds = t.withholds

/-- An ALU result changes a thread's registers alone (R257). -/
theorem put_eq (t : Thread) (r : Option AluRes) : t.put r = { t with w := (t.put r).w } := by
  unfold Thread.put
  split
  · split <;> rfl
  · rfl

theorem put_w_congr {t u : Thread} (h : u.w = t.w) (r : Option AluRes) : (u.put r).w = (t.put r).w := by
  unfold Thread.put
  split
  · split
    · exact congrArg (fun w => setAt w _ _) h
    · exact h
  · exact h

theorem completes_written (t : Thread) (hdr : Word) : Completes t (t.written hdr) := by
  have hput (u : Thread) (hw : u.w = t.w) : ((u.put t.mw.resA).put t.mw.resB).w = ((t.put t.mw.resA).put t.mw.resB).w :=
    put_w_congr (put_w_congr hw _) _
  unfold Thread.written
  extract_lets x u v
  have hu : u = { t with hdr := u.hdr } := by
    unfold u
    split <;> rfl
  have hv : v = { t with hdr := u.hdr, w := v.w } := by
    refine Eq.trans ?_ (congrArg (fun u : Thread => { u with w := v.w }) hu)
    unfold v
    rw [put_eq (u.put x.resA), put_eq u]
  have hheld : v.withholds = t.withholds := (congrArg Thread.withholds hv :)
  exact {
    job := (congrArg Thread.job hv :)
    mw := rfl
    issued := congrArg (· + 1) (congrArg Thread.issued hv :)
    w := hput u (congrArg Thread.w hu :)
    flagsA := congrArg (t.mw.resA.map (·.flags)).getD (congrArg Thread.flagsA hv :)
    flagsB := congrArg (t.mw.resB.map (·.flags)).getD (congrArg Thread.flagsB hv :)
    ending := (congrArg Thread.ending hv :)
    withholds := hheld }

/-! ### The module -/

theorem marker_completes {t u : Thread} (h : Completes t u) (m : Mod) (key cnt : Nat) :
    Completes t (m.marker key u cnt).1 ∧ Keeps steady m (m.marker key u cnt).2 := by
  unfold Mod.marker
  extract_lets c phys inverted
  have hinv (n : Nat) : Keeps steady m (inverted n) := (steady_sqcBit m EPC_STATUS_INVERTED n _ rfl).trans (steady_epcRaise _ c phys _ n)
  have hwin0 (b : Bool) : Completes t { u with win0 := b } := ⟨h.job, h.mw, h.issued, h.w, h.flagsA, h.flagsB, h.ending, h.withholds⟩
  have hwin1 (b : Bool) : Completes t { u with win1 := b } := ⟨h.job, h.mw, h.issued, h.w, h.flagsA, h.flagsB, h.ending, h.withholds⟩
  split
  · exact ⟨hwin0 true, .refl m⟩
  · exact ⟨hwin0 false, .ite _ (.refl m) (hinv 0)⟩
  · exact ⟨hwin1 true, .refl m⟩
  · exact ⟨hwin1 false, .ite _ (.refl m) (hinv 1)⟩
  · exact ⟨h, steady_epcThread m key u 42 1⟩
  · exact ⟨h, .refl m⟩

theorem steady_sampleDrawn (m : Mod) (c phys : Nat) : Keeps steady m (m.sampleDrawn c phys) := by
  unfold Mod.sampleDrawn
  extract_lets n r
  have hr : Keeps steady m r.2 := steady_freshNat m
  exact hr.trans (steady_setCl r.2 c _ rfl)

theorem steady_sampleIssue (m : Mod) (key : Nat) (memory : Bool) : Keeps steady m (m.sampleIssue key memory).2 := by
  unfold Mod.sampleIssue
  extract_lets c phys m1 left waits due _ m2
  have h1 : Keeps steady m m1 := .ite _ (.refl m) (steady_sampleDrawn m c phys)
  have h2 : Keeps steady m1 m2 := .ite _ (steady_sampleDrawn m1 c phys) (steady_setCl m1 c _ rfl)
  have h := h1.trans h2
  split
  · exact .refl m
  · split
    · exact h
    · split
      · exact h.trans (steady_setCl m2 c _ rfl)
      · exact h.trans (steady_setCl m2 c _ rfl)

theorem steady_sampleIdx (m : Mod) (c : Nat) : Keeps steady m (m.sampleIdx c) :=
  (steady_set m EPC_SAMPLE_IDX_PROD c _ rfl).trans (steady_set _ EPC_SAMPLE_IDX_CONS c _ rfl)

theorem steady_sampleStore (m : Mod) (key : Nat) (x : Sample) : Keeps steady m (m.sampleStore key x) := by
  unfold Mod.sampleStore
  extract_lets c k phys fill m1
  have h1 : Keeps steady m m1 := steady_satAdd m EPC_SAMPLE_IDX_LOST c 1 rfl
  refine .ite _ (h1.trans (.ite _ (.refl m1) ?_)) ?_
  · refine Keeps.trans (Keeps.trans ?_ (steady_sqcBit _ EPC_EVENT_EVENTS 1 c rfl)) (steady_event _ _)
    exact steady_setCl m1 c _ rfl
  · refine Keeps.trans ?_ (steady_sampleIdx _ c)
    exact steady_setCl m c _ rfl

theorem steady_resultOf (m : Mod) (r : Option AluRes) : Keeps steady m (m.resultOf r).2 := by
  unfold Mod.resultOf
  split
  · split
    · exact .refl m
    · exact steady_fresh m
  · exact steady_fresh m

theorem completed_completes (m : Mod) (key : Nat) (t : Thread) :
    Completes t (m.completed key t).1 ∧ Keeps steady m (m.completed key t).2 := by
  unfold Mod.completed
  extract_lets c phys x v cnt m1 _ m2 s m3 issue tm
  have hv : Keeps steady m v.2 := by
    unfold v
    split
    · exact steady_resultOf m _
    · exact .refl m
  obtain ⟨ht, hcnt⟩ := marker_completes (completes_written t v.1) v.2 key x.cnt
  have h2 : Keeps steady cnt.2 m2 := (steady_epcThread cnt.2 key t 2 1).trans (steady_setCl m1 c _ rfl)
  have h3 : Keeps steady m m3 := ((hv.trans hcnt).trans h2).trans (steady_sampleIssue m2 key _)
  split
  · exact ⟨ht, h3⟩
  · split
    · exact ⟨⟨ht.job, ht.mw, ht.issued, ht.w, ht.flagsA, ht.flagsB, ht.ending, ht.withholds⟩, h3⟩
    · exact ⟨ht, h3.trans (steady_sampleStore m3 key _)⟩

/-! ### The budget of a tick job -/

theorem budget_of_calm {m n : Mod} (h : Keeps calm m n) (i : Nat) : n.budget i = m.budget i := by
  unfold Mod.budget Mod.period
  rw [get_of_calm h i (by decide), get_of_calm h 0 (by decide)]

theorem spent_self {j : Job} (h : j.spent = true) : { j with spent := true } = j := by
  rw [← h]

/-- A budget that is used up now makes the job a spent one; otherwise the job is as it was (R34, R277). -/
theorem jobAfter_cases (m : Mod) (t : Thread) :
    (∃ i, t.job.kind = .tick i ∧ (!t.job.spent && decide (m.budget i ≤ t.issued + 1)) = true ∧ m.jobAfter t = { t.job with spent := true }) ∨
      ((∀ i, t.job.kind = .tick i → (!t.job.spent && decide (m.budget i ≤ t.issued + 1)) = false) ∧ m.jobAfter t = t.job) := by
  unfold Mod.jobAfter
  split
  · rename_i i hk
    cases hs : t.job.spent
    · by_cases hb : m.budget i ≤ t.issued + 1
      · exact .inl ⟨i, hk, by simp [hb], by simp [hb]⟩
      · exact .inr ⟨fun j hj => by cases hk.symm.trans hj; simp [hb], by simp [hb, ← hs]⟩
    · exact .inr ⟨fun _ _ => by simp, by rw [Bool.true_or]; exact spent_self hs⟩
  · rename_i hk
    exact .inr ⟨fun i hi => absurd hi (hk i), rfl⟩

/-- A thread whose microword has completed, its tick job's budget seen to. -/
theorem spends_jobAfter {m n : Mod} {t u : Thread} (hu : Completes t u) (hn : Keeps calm m n) :
    (n.spends u).1 = { u with job := m.jobAfter t } ∧ Keeps steady n (n.spends u).2 := by
  have hself (h : m.jobAfter t = t.job) : u = { u with job := m.jobAfter t } := by rw [h, ← hu.job]
  have hcond (i : Nat) : (!u.job.spent && decide (n.budget i ≤ u.issued)) = (!t.job.spent && decide (m.budget i ≤ t.issued + 1)) := by
    rw [hu.job, hu.issued, budget_of_calm hn]
  unfold Mod.spends
  split
  · rename_i i hk
    rw [hu.job] at hk
    rw [hcond]
    obtain ⟨j, hj, hnow, hafter⟩ | ⟨hnot, hafter⟩ := jobAfter_cases m t
    · cases hk.symm.trans hj
      rw [hnow, if_pos rfl, hafter, hu.job]
      exact ⟨rfl, steady_countOverrun n _⟩
    · rw [hnot i hk, if_neg Bool.false_ne_true]
      exact ⟨hself hafter, .refl n⟩
  · rename_i hk
    obtain ⟨j, hj, -⟩ | ⟨-, hafter⟩ := jobAfter_cases m t
    · exact absurd (hu.job ▸ hj) (hk j)
    · exact ⟨hself hafter, .refl n⟩

end Sys2Proof.Machine
end

section
/-! SUPPORT. The sequencing rows (R259): a thread that issues one completes its microword and goes on where the row says. -/

namespace Sys2Proof.Machine

/-! ### The part of a command -/

/-- The command is a part of a microword of the thread that it names. -/
def PartAt (c : Instr) (r : ThreadRef) : Prop := ∃ p, partOf c = some p ∧ p.ref = r

/-- A thread that its engine issues from holds a job, whose END has not issued (R251). -/
theorem issuer_thread {m : Mod} {key : Nat} {u : Thread} (h : m.issuer key = some u) : m.thread key = some u ∧ u.ending = none := by
  obtain ⟨hu, hready⟩ := Option.filter_eq_some_iff.1 h
  simp only [Mod.ready, Mod.threadReady, Bool.and_eq_true, Option.isNone_iff_eq_none] at hready
  obtain ⟨⟨⟨⟨⟨⟨-, hend⟩, -⟩, -⟩, -⟩, -⟩, -⟩ := hready
  exact ⟨hu, hend⟩

section
variable {m : Mod} {c : Instr} {r : ThreadRef} (hc : PartAt c r)
include hc

/-- A thread that issues a part is the issuer, with its flags noted; its microword holds no reserved encoding. -/
theorem issuing_issuer {t : Thread} (h : m.issuing c = some t) :
    ∃ u f, m.issuer (threadKey r) = some u ∧ t = { u with mw := { u.mw with flags := f } } ∧
      mwReserved (m.microword (threadKey r) u) = false := by
  obtain ⟨p, hp, rfl⟩ := hc
  unfold Mod.issuing at h
  rw [hp] at h
  simp only [Option.bind_some, Option.map_eq_some_iff, Option.filter_eq_some_iff, Bool.and_eq_true, Bool.not_eq_true'] at h
  obtain ⟨u, ⟨hu, ⟨hword, -⟩, -⟩, rfl⟩ := h
  exact ⟨u, _, hu, rfl, hword⟩

theorem badWord_issuer {k : Nat} (h : m.badWord c = some k) :
    k = threadKey r ∧ ∃ u, m.issuer (threadKey r) = some u ∧ mwReserved (m.microword (threadKey r) u) = true := by
  obtain ⟨p, hp, rfl⟩ := hc
  unfold Mod.badWord at h
  rw [hp] at h
  simp only [Option.bind_some, Option.map_eq_some_iff, Option.filter_eq_some_iff] at h
  obtain ⟨u, ⟨hu, hword⟩, rfl⟩ := h
  exact ⟨rfl, u, hu, hword⟩

theorem badWord_of_issuing {t : Thread} (h : m.issuing c = some t) : m.badWord c = none := by
  obtain ⟨u, f, hu, -, hword⟩ := issuing_issuer hc h
  refine Option.eq_none_iff_forall_ne_some.2 fun k hk => ?_
  obtain ⟨-, v, hv, hbad⟩ := badWord_issuer hc hk
  cases hu.symm.trans hv
  exact absurd (hword.symm.trans hbad) Bool.false_ne_true

theorem issuing_of_badWord (h : (m.badWord c).isSome = true) : m.issuing c = none := by
  refine Option.eq_none_iff_forall_ne_some.2 fun t ht => ?_
  rw [badWord_of_issuing hc ht] at h
  exact absurd h Bool.false_ne_true

theorem issuing_thread {t : Thread} (h : m.issuing c = some t) :
    t.ending = none ∧ ∃ u, m.thread (threadKey r) = some u ∧ t.withholds = u.withholds := by
  obtain ⟨u, f, hu, rfl, -⟩ := issuing_issuer hc h
  obtain ⟨hthread, hend⟩ := issuer_thread hu
  exact ⟨hend, u, hthread, rfl⟩

theorem issue_issuing {t : Thread} (h : m.issuing c = some t) (f : Thread → Mod) : m.issue c f = f t := by
  unfold Mod.issue
  rw [badWord_of_issuing hc h, h]

theorem issue_bad (h : (m.badWord c).isSome = true) (f : Thread → Mod) : m.issue c f = m.jobFault (threadKey r) 4 := by
  obtain ⟨k, hk⟩ := Option.isSome_iff_exists.1 h
  unfold Mod.issue
  rw [hk, (badWord_issuer hc hk).1]

end

theorem issue_none {m : Mod} {c : Instr} (h : m.issuing c = none) (hb : m.badWord c = none) (f : Thread → Mod) : m.issue c f = m := by
  unfold Mod.issue
  rw [hb, h]

/-! ### A row -/

/-- The thread u sent on: with its job, to a microaddress, with a return stack, a fence to wait for and a turn. -/
def Thread.sent (u : Thread) (j : Job) (pc : Nat) (stack : List Nat) (fence turn : Nat) : Thread :=
  { u with job := j, pc := pc, stack := stack, fence := fence, turn := turn }

/-- The thread t of a key has completed its microword, and been sent on. -/
def Continues (m : Mod) (key : Nat) (t : Thread) (pc : Nat) (stack : List Nat) (fence : Nat) (n : Mod) : Prop :=
  Settles m n ∧ ∃ u k, Completes t u ∧ m.eng.turn ≤ k ∧ n.thread key = some (u.sent (m.jobAfter t) pc stack fence k)

/-- A row whose thread issues it, and goes on. -/
theorem seqPart_continues {m : Mod} {c : Instr} {x : SeqArgs} {fence : Bool} {go : Thread → Mod → Except Nat (Nat × List Nat)} {t : Thread}
    {pc : Nat} {stack : List Nat} (hc : PartAt c x.t) (h : m.issuing c = some t) (hgo : go t m = .ok (pc, stack)) :
    Continues m (threadKey x.t) t pc stack (if fence then x.fen.val else 0) (m.seqPart c x fence go) := by
  unfold Mod.seqPart
  extract_lets key
  rw [issue_issuing hc h, hgo]
  obtain ⟨hu, hm⟩ := completed_completes m key t
  obtain ⟨hjob, hs⟩ := spends_jobAfter hu hm.calm
  have hsettles := (hm.trans hs).settles
  refine ⟨hsettles.trans (settles_joinReady _ _ _), _, _, hu, hsettles.turn, ?_⟩
  refine (thread_joinReady _ _ _ _).trans ((if_pos rfl).trans ?_)
  rw [hjob]
  rfl

theorem seqPart_fault {m : Mod} {c : Instr} {x : SeqArgs} {fence : Bool} {go : Thread → Mod → Except Nat (Nat × List Nat)} {t : Thread}
    {kind : Nat} (hc : PartAt c x.t) (h : m.issuing c = some t) (hgo : go t m = .error kind) :
    m.seqPart c x fence go = m.jobFault (threadKey x.t) kind := by
  unfold Mod.seqPart
  extract_lets key
  rw [issue_issuing hc h, hgo]

/-- The fences are settled with the row: the thread goes on, and waits only for a fence that is not satisfied. -/
theorem continuesAt_settleEnds {s : State} {key : Nat} {t u : Thread} {pc fence : Nat} {stack : List Nat} {n : Mod}
    (hthread : s.m.thread key = some u) (he : t.ending = none) (hw : t.withholds = u.withholds) (h : Continues s.m key t pc stack fence n) :
    s.ContinuesAt { s with m := n.settleEnds } key t pc stack (s.m.fenceLeft key fence) := by
  obtain ⟨hn, v, k, hv, hk, hsent⟩ := h
  have hmet : n.fenceLeft key fence = s.m.fenceLeft key fence := by
    unfold Mod.fenceLeft
    rw [fenceMet_congr hn.calm hthread hsent (hv.withholds.trans hw)]
  obtain ⟨hs, j, hj, hlast⟩ := stands_settleEnds hsent (hv.ending.trans he) hn.turn hk
  have hleaves := hn.trans hs
  obtain ⟨-, ⟨-, hhdg, hcls, hfwd, -⟩, -⟩ := keeps_calm_iff.1 hleaves.calm
  refine ⟨_, hlast, rfl, rfl, hmet, rfl, hv.mw, hv.issued, hj, hv.w, hv.flagsA, hv.flagsB, rfl, hcls, hfwd, hleaves.time, hhdg⟩

end Sys2Proof.Machine
end

section
/-! SUPPORT. YIELD (R259, R277), and the rows together. -/

namespace Sys2Proof.Machine

/-! ### YIELD -/

theorem jobAfter_kind (m : Mod) (t : Thread) : (m.jobAfter t).kind = t.job.kind := by
  unfold Mod.jobAfter
  split <;> rfl

/-- YIELD as a row, before a tick job that is past its budget or its tick is stopped. -/
def Mod.yielded (m : Mod) (x : SeqArgs) : Mod := m.seqPart (.seqYield x) x false fun t _ => .ok (x.tgt.val, t.stack)

/-- A thread of a key stopped, with its tick entry i to resume at a microaddress. -/
def Mod.stoppedAt (m : Mod) (key : Nat) (j : Job) (i pc : Nat) : Mod :=
  (((m.freeThread key).orphan (key / 768) j).set ENG_TICKJOB1_RESUME i pc).set ENG_TICKJOB1_RESUME_VALID i 1

theorem yieldPart_none {m : Mod} {x : SeqArgs} (h : m.issuing (.seqYield x) = none) : m.yieldPart x = m.yielded x := by
  unfold Mod.yieldPart
  rw [h]
  rfl

theorem yieldPart_goes {m : Mod} {x : SeqArgs} {t v : Thread} (h : m.issuing (.seqYield x) = some t)
    (hv : (m.yielded x).thread (threadKey x.t) = some v) (hj : (∀ i, v.job.kind ≠ .tick i) ∨ v.job.spent = false) :
    m.yieldPart x = m.yielded x := by
  unfold Mod.yieldPart
  extract_lets key m1
  rw [h, Option.bind_some, show m1.thread key = some v from hv]
  simp only
  split
  · rename_i i hk hs
    obtain hkind | hspent := hj
    · exact absurd hk (hkind i)
    · exact absurd (hs.symm.trans hspent) (by decide)
  · rfl

theorem yieldPart_stops {m : Mod} {x : SeqArgs} {t v : Thread} {i : Nat} (h : m.issuing (.seqYield x) = some t)
    (hv : (m.yielded x).thread (threadKey x.t) = some v) (hk : v.job.kind = .tick i) (hs : v.job.spent = true) :
    m.yieldPart x = (m.yielded x).stoppedAt (threadKey x.t) v.job i x.tgt.val := by
  unfold Mod.yieldPart
  extract_lets key m1
  rw [h, Option.bind_some, show m1.thread key = some v from hv]
  simp only [hk, hs]
  rfl

theorem thread_stoppedAt (m : Mod) (key : Nat) (j : Job) (i pc : Nat) : (m.stoppedAt key j i pc).thread key = none := by
  unfold Mod.stoppedAt Mod.thread
  rw [set_eng, set_eng]
  exact (thread_of_steady (steady_orphan _ _ j) key).trans ((thread_freeThread m key key).trans (if_pos rfl))

theorem get_stoppedAt (m : Mod) (key : Nat) (j : Job) (i : Nat) {pc : Nat} (h : pc < 32768) :
    (m.stoppedAt key j i pc).get ENG_TICKJOB1_RESUME i = pc ∧ (m.stoppedAt key j i pc).flag ENG_TICKJOB1_RESUME_VALID i = true := by
  unfold Mod.stoppedAt
  constructor
  · rw [get_set_field _ ENG_TICKJOB1_RESUME_VALID ENG_TICKJOB1_RESUME _ _ rfl (by decide) (by decide), get_set _ _ _ _ (by decide)]
    exact Nat.mod_eq_of_lt h
  · exact flag_of_get (v := 1) (get_set _ _ _ _ (by decide))

/-- A thread stopped stays free as the fences settle, and its entry still resumes where it was told. -/
theorem stoppedAt_settleEnds (m : Mod) (key : Nat) (j : Job) (i : Nat) {pc : Nat} (h : pc < 32768) :
    lookup (m.stoppedAt key j i pc).settleEnds.eng.threads key = none ∧
      (m.stoppedAt key j i pc).settleEnds.get ENG_TICKJOB1_RESUME i = pc ∧
      (m.stoppedAt key j i pc).settleEnds.flag ENG_TICKJOB1_RESUME_VALID i = true := by
  obtain ⟨hsettles, hnone⟩ := settleEnds_none (thread_stoppedAt m key j i pc)
  obtain ⟨hget, hflag⟩ := get_stoppedAt m key j i h
  refine ⟨hnone, (get_of_calm hsettles.calm i (by decide)).trans hget, ?_⟩
  unfold Mod.flag at hflag ⊢
  rwa [get_of_calm hsettles.calm i (by decide)]

/-! ### The rows -/

section
variable {s : State} {c : Instr} {x : SeqArgs} {fence : Bool} {go : Thread → Mod → Except Nat (Nat × List Nat)} {t : Thread}
  (hexec : exec c s = s.act fun m => (m.seqPart c x fence go).settleEnds) (hs : s.Running) (hc : PartAt c x.t)
include hexec hs hc

/-- A row that its thread issues, and that goes on. -/
theorem row_continues {pc : Nat} {stack : List Nat} (h : s.m.issuing c = some t) (hgo : go t s.m = .ok (pc, stack)) :
    Yields c s fun u => s.ContinuesAt u (threadKey x.t) t pc stack (s.m.fenceLeft (threadKey x.t) (if fence then x.fen.val else 0)) := by
  obtain ⟨hend, u, hu, hw⟩ := issuing_thread hc h
  exact yields_of_does (does_act hexec hs rfl) (continuesAt_settleEnds hu hend hw (seqPart_continues hc h hgo))

/-- A row that its thread issues, and that is a job fault. -/
theorem row_faults {kind : Nat} (h : s.m.issuing c = some t) (hgo : go t s.m = .error kind) :
    Does c s (s.m.jobFault (threadKey x.t) kind).settleEnds :=
  does_act hexec hs (congrArg Mod.settleEnds (seqPart_fault hc h hgo))

/-- A row that its thread does not issue: fences settle, after a job fault where the microword holds a reserved encoding. -/
theorem row_not_issued : (s.m.issuing c = none → s.m.badWord c = none → Does c s s.m.settleEnds) ∧
    ((s.m.badWord c).isSome = true → Does c s (s.m.jobFault (threadKey x.t) 4).settleEnds) :=
  ⟨fun h hb => does_act hexec hs (congrArg Mod.settleEnds (issue_none h hb _)),
    fun hb => does_act hexec hs (congrArg Mod.settleEnds (issue_bad hc hb _))⟩

end

theorem partAt_yield (x : SeqArgs) : PartAt (.seqYield x) x.t := ⟨_, rfl, rfl⟩

/-- A row without a fence, that its thread issues and that goes on. -/
theorem row_continues_unfenced {s : State} {c : Instr} {x : SeqArgs} {go : Thread → Mod → Except Nat (Nat × List Nat)} {t : Thread} {pc : Nat}
    {stack : List Nat} (hexec : exec c s = s.act fun m => (m.seqPart c x false go).settleEnds) (hs : s.Running) (hc : PartAt c x.t)
    (h : s.m.issuing c = some t) (hgo : go t s.m = .ok (pc, stack)) :
    Yields c s fun u => s.ContinuesAt u (threadKey x.t) t pc stack 0 := by
  have hrow := row_continues hexec hs hc h hgo
  rwa [if_neg Bool.false_ne_true, fenceLeft_zero] at hrow

/-! ### YIELD as a row -/

section
variable {s : State} {x : SeqArgs} {t : Thread} (h : s.m.issuing (.seqYield x) = some t)
include h

/-- The thread of a YIELD that has been issued. -/
theorem yielded_continues : Continues s.m (threadKey x.t) t x.tgt.val t.stack 0 (s.m.yielded x) :=
  seqPart_continues (partAt_yield x) h rfl

theorem yield_continues (hs : s.Running) (hj : (∀ i, t.job.kind ≠ .tick i) ∨ (s.m.jobAfter t).spent = false) :
    Yields (.seqYield x) s fun u => s.ContinuesAt u (threadKey x.t) t x.tgt.val t.stack 0 := by
  obtain ⟨hend, u, hu, hw⟩ := issuing_thread (partAt_yield x) h
  have hgoes := yielded_continues h
  obtain ⟨-, v, k, -, -, hv⟩ := id hgoes
  have hpart : s.m.yieldPart x = s.m.yielded x := yieldPart_goes h hv (hj.imp_left fun hk i => (jobAfter_kind s.m t).symm ▸ hk i)
  have hat := continuesAt_settleEnds hu hend hw hgoes
  rw [fenceLeft_zero] at hat
  exact yields_of_does (does_act (exec_seqYield x s) hs (congrArg Mod.settleEnds hpart)) hat

theorem yield_stops (hs : s.Running) {i : Nat} (hk : t.job.kind = .tick i) (hspent : (s.m.jobAfter t).spent = true) :
    Yields (.seqYield x) s fun u => lookup u.m.eng.threads (threadKey x.t) = none ∧ u.m.get ENG_TICKJOB1_RESUME i = x.tgt.val ∧
      u.m.flag ENG_TICKJOB1_RESUME_VALID i = true := by
  obtain ⟨-, v, k, -, -, hv⟩ := yielded_continues h
  have hpart := yieldPart_stops h hv ((jobAfter_kind s.m t).trans hk) hspent
  exact yields_of_does (does_act (exec_seqYield x s) hs (congrArg Mod.settleEnds hpart)) (stoppedAt_settleEnds _ _ _ i x.tgt.isLt)

end

theorem yield_not_issued {s : State} (x : SeqArgs) (hs : s.Running) :
    (s.m.issuing (.seqYield x) = none → s.m.badWord (.seqYield x) = none → Does (.seqYield x) s s.m.settleEnds) ∧
      ((s.m.badWord (.seqYield x)).isSome = true → Does (.seqYield x) s (s.m.jobFault (threadKey x.t) 4).settleEnds) := by
  refine ⟨fun h hb => ?_, fun hb => ?_⟩
  · have hpart := (yieldPart_none h).trans (issue_none h hb _)
    exact does_act (exec_seqYield x s) hs (congrArg Mod.settleEnds hpart)
  · have hpart := (yieldPart_none (issuing_of_badWord (partAt_yield x) hb)).trans (issue_bad (partAt_yield x) hb _)
    exact does_act (exec_seqYield x s) hs (congrArg Mod.settleEnds hpart)

/-- Settles O44: each row is its microword's completion, sent on where the row says, with the fences settled behind it. That a row
is a part of its microword, and without effect for a thread that does not issue it, is log 7's choice. -/
theorem threadsContinueAsNxtSays : Obligations.ThreadsContinueAsNxtSays := by
  refine ⟨fun s x t key hs hkey _ => ?_, fun s x hs c hc => ?_⟩
  · subst hkey
    refine ⟨fun h => ?_, fun h => ?_, fun h => ?_, fun h => ⟨fun hl => ?_, fun hl => ?_⟩, fun h => ⟨fun a l hst => ?_, fun hst => ?_⟩,
      fun h => ⟨fun hj => ?_, fun i hk hspent => ?_⟩, fun h => ?_, fun h i hi => ⟨fun hv => ?_, fun hv => ?_⟩⟩
    · exact row_continues_unfenced (exec_seqNext x s) hs ⟨_, rfl, rfl⟩ h rfl
    · exact row_continues_unfenced (exec_seqJump x s) hs ⟨_, rfl, rfl⟩ h rfl
    · refine row_continues_unfenced (exec_seqBranch x s) hs ⟨_, rfl, rfl⟩ h ?_
      unfold goBranch
      split <;> rfl
    · exact row_continues_unfenced (exec_seqCall x s) hs ⟨_, rfl, rfl⟩ h (if_neg (Nat.not_le.2 hl))
    · exact row_faults (exec_seqCall x s) hs ⟨_, rfl, rfl⟩ h (if_pos hl)
    · refine row_continues_unfenced (exec_seqReturn x s) hs ⟨_, rfl, rfl⟩ h ?_
      unfold goReturn
      rw [hst]
    · refine row_faults (exec_seqReturn x s) hs ⟨_, rfl, rfl⟩ h ?_
      unfold goReturn
      rw [hst]
    · exact yield_continues h hs hj
    · exact yield_stops h hs hk hspent
    · exact row_continues (exec_seqFenceNext x s) hs ⟨_, rfl, rfl⟩ h rfl
    · subst hi
      exact row_continues_unfenced (exec_seqDispatch x s) hs ⟨_, rfl, rfl⟩ h (if_pos hv)
    · subst hi
      exact row_faults (exec_seqDispatch x s) hs ⟨_, rfl, rfl⟩ h (if_neg (by simp [hv]))
  · fin_cases hc
    · exact row_not_issued (exec_seqNext x s) hs ⟨_, rfl, rfl⟩
    · exact row_not_issued (exec_seqJump x s) hs ⟨_, rfl, rfl⟩
    · exact row_not_issued (exec_seqBranch x s) hs ⟨_, rfl, rfl⟩
    · exact row_not_issued (exec_seqDispatch x s) hs ⟨_, rfl, rfl⟩
    · exact row_not_issued (exec_seqCall x s) hs ⟨_, rfl, rfl⟩
    · exact row_not_issued (exec_seqReturn x s) hs ⟨_, rfl, rfl⟩
    · exact yield_not_issued x hs
    · exact row_not_issued (exec_seqFenceNext x s) hs ⟨_, rfl, rfl⟩

end Sys2Proof.Machine
end

section
/-! SUPPORT. Fields of the registers that ports and tiles show: what a write or a status bit of one field leaves of another. -/

namespace Sys2Proof.Machine

/-! ### Fields apart -/

/-- A write of field f leaves field g: it lies in another register, or elsewhere in the same one. -/
def Fld.clearOf (f g : Fld) : Bool :=
  g.reg.apart f.reg ||
    (decide (g.reg = f.reg) && decide (f.lo + f.width ≤ 64) && (decide (f.lo + f.width ≤ g.lo) || decide (g.lo + g.width ≤ f.lo)))

/-- A field of one bit, below the SEQ that a sequence-clear register has (R369). -/
def Fld.isBit (f : Fld) : Bool := f.width == 1 && decide (f.lo + 1 ≤ 48)

theorem get_set_clear (m : Mod) {f g : Fld} (i v : Nat) (h : f.clearOf g = true) : (m.set f i v).get g i = m.get g i := by
  simp only [Fld.clearOf, Bool.or_eq_true, Bool.and_eq_true, decide_eq_true_eq] at h
  obtain h | ⟨⟨hr, h64⟩, hd⟩ := h
  · exact get_set_ne m f g i i v h
  · exact get_set_field m f g i v hr h64 hd

theorem flag_set_clear (m : Mod) {f g : Fld} (i v : Nat) (h : f.clearOf g = true) : (m.set f i v).flag g i = m.flag g i :=
  congrArg (· == 1) (get_set_clear m i v h)

theorem isBit_iff (f : Fld) : f.isBit = true ↔ f.width = 1 ∧ f.lo + 1 ≤ 48 := by
  simp [Fld.isBit]

theorem get_set_bit (m : Mod) {f : Fld} (i v : Nat) (h : f.isBit = true) : (m.set f i v).get f i = v % 2 := by
  obtain ⟨hw, hlo⟩ := (isBit_iff f).1 h
  rw [get_set _ _ _ _ (by omega), hw, pow_one]

theorem flag_set_bit (m : Mod) {f : Fld} (i v : Nat) (h : f.isBit = true) : (m.set f i v).flag f i = (v % 2 == 1) :=
  congrArg (· == 1) (get_set_bit m i v h)

/-- A status bit set in a sequence-clear register reads 1 (R369). -/
theorem flag_sqc_bit (m : Mod) {f : Fld} (i : Nat) (h : f.isBit = true) : (m.sqc f i).flag f i = true := by
  obtain ⟨hw, hlo⟩ := (isBit_iff f).1 h
  have hf : f = ⟨f.reg, f.lo + 0, 1⟩ := by rw [← hw]; rfl
  refine flag_of_get (v := 1) ?_
  conv_lhs => rw [hf]
  exact get_sqcBit_self m f 0 i hlo le_rfl

/-- A status bit set leaves what is neither that bit nor its register's SEQ. -/
theorem get_sqc_clear (m : Mod) {f g : Fld} (i : Nat) (hb : f.isBit = true) (h : f.clearOf g = true)
    (hs : (seqField f.reg).clearOf g = true) : (m.sqc f i).get g i = m.get g i := by
  obtain ⟨hw, -⟩ := (isBit_iff f).1 hb
  have hone : (⟨f.reg, f.lo + 0, 1⟩ : Fld).clearOf g = true := by rw [← hw]; exact h
  simp only [Fld.clearOf, Bool.or_eq_true, Bool.and_eq_true, decide_eq_true_eq] at hone hs
  by_cases hap : g.reg.apart f.reg = true
  · exact get_sqcBit_ne m f g 0 i i hap
  · obtain ⟨⟨hr, h64⟩, hd⟩ := hone.resolve_left hap
    obtain ⟨⟨-, hs64⟩, hsd⟩ := hs.resolve_left hap
    unfold Mod.sqc Mod.sqcBit Mod.get
    rw [hr, rd_wr, of_put_ne _ _ _ _ hs64 hsd, of_put_ne _ _ _ _ h64 hd]

theorem flag_sqc_clear (m : Mod) {f g : Fld} (i : Nat) (hb : f.isBit = true) (h : f.clearOf g = true)
    (hs : (seqField f.reg).clearOf g = true) : (m.sqc f i).flag g i = m.flag g i := congrArg (· == 1) (get_sqc_clear m i hb h hs)

theorem get_sqc_ne (m : Mod) (f g : Fld) (i j : Nat) (h : g.reg.apart f.reg = true) : (m.sqc f i).get g j = m.get g j :=
  get_sqcBit_ne m f g 0 i j h

theorem rd_sqc_ne (m : Mod) (f : Fld) (r : Reg) (i j : Nat) (h : r.apart f.reg = true) : (m.sqc f i).rd r j = m.rd r j :=
  rd_wr_ne m f.reg r i j _ h

/-! ### Other elements of the same register -/

/-- Elements at one offset are one register, where what it boots to does not depend on the element. -/
theorem rd_of_addr (m : Mod) {r : Reg} {i j : Nat} (h : r.addr i = r.addr j) (hb : r.boot i = r.boot j) : m.rd r i = m.rd r j := by
  unfold Mod.rd
  rw [h, hb]

/-- A field of a register reads as before, whichever element has another of its fields written. -/
theorem get_set_elsewhere (m : Mod) {f g : Fld} (i j v : Nat) (hr : g.reg = f.reg) (h : f.clearOf g = true)
    (hb : ∀ i j, f.reg.boot i = f.reg.boot j) : (m.set f i v).get g j = m.get g j := by
  by_cases ha : f.reg.addr j = f.reg.addr i
  · have same (n : Mod) : n.get g j = n.get g i := by
      unfold Mod.get
      rw [hr, rd_of_addr n ha (hb j i)]
    rw [same, same, get_set_clear m i v h]
  · unfold Mod.get Mod.set
    rw [hr, rd_wr_addr m f.reg f.reg i j _ ha]

/-- A bit that is set in one element stays set, or is set, in every element where it was. -/
theorem flag_set_one_mono (m : Mod) {f : Fld} {i j : Nat} (h : f.isBit = true) (hb : ∀ i j, f.reg.boot i = f.reg.boot j)
    (hj : j = i ∨ m.flag f j = true) : (m.set f i 1).flag f j = true := by
  by_cases ha : f.reg.addr j = f.reg.addr i
  · have same : (m.set f i 1).flag f j = (m.set f i 1).flag f i := by
      unfold Mod.flag Mod.get
      rw [rd_of_addr _ ha (hb j i)]
    rw [same, flag_set_bit m i 1 h]
    rfl
  · have hne : j ≠ i := fun e => ha (by rw [e])
    have kept : (m.set f i 1).flag f j = m.flag f j := by
      unfold Mod.flag Mod.get Mod.set
      rw [rd_wr_addr m f.reg f.reg i j _ ha]
    rw [kept]
    exact hj.resolve_left hne

/-! ### What events leave -/

theorem Told.get {m n : Mod} (h : Told m n) {f : Fld} (i : Nat) (hf : evtReg f.reg = false) : n.get f i = m.get f i :=
  congrArg f.of (h.2 f.reg i hf)

theorem Told.flag {m n : Mod} (h : Told m n) {f : Fld} (i : Nat) (hf : evtReg f.reg = false) : n.flag f i = m.flag f i :=
  congrArg (· == 1) (h.get i hf)

theorem told_prtEvent (m : Mod) (code p q : Nat) (root : Bool) : Told m (m.prtEvent code p q root) := told_event m _

theorem told_drainEvent (m : Mod) (code t : Nat) : Told (m.sqc BUF_EVENT_DRAIN) (m.drainEvent code t) := told_event _ _

end Sys2Proof.Machine
end

section
/-! SUPPORT. What counters, records, cell charges, discards and the passing of time leave, for any relation between modules that their parts
meet: an equality of what a module shows, or that what has left the module has left it. -/

namespace Sys2Proof.Machine

/-! ### The parts -/

/-- The registers in which counters, records, charges and discards show, beside those that events write and PRT_PORT_STATUS.XOFF. -/
def minorRegs : List Reg :=
  [.CLP_STATUS, .CLP_EVENT, .BUF_EVENT, .BUF_HEDGE_STATUS, .BUF_PORT_STATUS, .HDG_GAP_STATUS, .SCH_PORT_STATUS, .EPC_CTR, .EPC_STATUS,
   .EPC_EVENT, .TIM_EVENT]

/-- The relation holds across what counters, samplers, records and queues of their own change. -/
structure Minor (R : Mod → Mod → Prop) : Prop where
  refl : ∀ m, R m m
  trans : ∀ {a b c}, R a b → R b c → R a c
  bump : ∀ m c n, R m (m.bump c n)
  event : ∀ m e, R m (m.event e)
  rated : ∀ m k e, R m (m.eventRated k e)
  wr : ∀ m {r} i w, r ∈ minorRegs → R m (m.wr r i w)
  clp : ∀ m x, R m (m.withClp x)
  sch : ∀ m x, R m (m.withSch x)
  drm : ∀ m x, R m (m.withDrm x)
  prt : ∀ m a b c, R m (m.withPrt { m.prt with pauseRem := a, lpiRem := b, pfcOwed := c })
  cl : ∀ m c k, R m (m.setCl c k)
  free : ∀ m, R m m.freshNat.2

/-- It holds across the charge and the release of cells as well, with the XOFF signals that follow (R145, R148). -/
structure Charges (R : Mod → Mod → Prop) : Prop extends Minor R where
  cellBuf : ∀ m x, x.tx = m.buf.tx → x.frames = m.buf.frames → x.arriving = m.buf.arriving → R m (m.withBuf x)
  xoff : ∀ m p v, R m (m.set PRT_PORT_STATUS_XOFF p v)

/-- It holds across the discard of copies and frames as well. -/
structure Discards (R : Mod → Mod → Prop) : Prop extends Charges R where
  buf : ∀ m x, x.tx = m.buf.tx → R m (m.withBuf x)

theorem rel_ite {R : Mod → Mod → Prop} {m a b : Mod} {c : Prop} [Decidable c] (ha : R m a) (hb : R m b) : R m (if c then a else b) := by
  split
  · exact ha
  · exact hb

section
variable {R : Mod → Mod → Prop} (hR : Minor R)
include hR

theorem Minor.foldl {β : Type} (f : Mod → β → Mod) (h : ∀ m b, R m (f m b)) (l : List β) (m : Mod) : R m (l.foldl f m) := by
  induction l generalizing m with
  | nil => exact hR.refl m
  | cons b t ih => exact hR.trans (h m b) (ih (f m b))

theorem Minor.set (m : Mod) {f : Fld} (i v : Nat) (h : f.reg ∈ minorRegs) : R m (m.set f i v) := hR.wr m i _ h

theorem Minor.sqcBit (m : Mod) {f : Fld} (k i : Nat) (h : f.reg ∈ minorRegs) : R m (m.sqcBit f k i) := by
  unfold Mod.sqcBit
  exact hR.wr m i _ h

theorem Minor.sqc (m : Mod) {f : Fld} (i : Nat) (h : f.reg ∈ minorRegs) : R m (m.sqc f i) := hR.sqcBit m 0 i h

/-! ### Clippings -/

theorem Minor.clipDrop (m : Mod) (h ctr : Nat) : R m (m.clipDrop h ctr) := hR.trans (hR.bump m (clpCtr h ctr) 1) (hR.clp _ _)

theorem Minor.writerLevels (m : Mod) : R m m.writerLevels := by
  unfold Mod.writerLevels
  extract_lets level
  have hlevel (m : Mod) (fill panic : Fld) (c : Nat) (hf : fill.reg ∈ minorRegs) (hp : panic.reg ∈ minorRegs) : R m (level m fill panic c) :=
    hR.trans (hR.set m 0 _ hf) (rel_ite (hR.set _ 0 1 hp) (rel_ite (hR.set _ 0 0 hp) (hR.refl _)))
  exact hR.trans (hlevel _ _ _ _ (by decide) (by decide)) (hlevel _ _ _ _ (by decide) (by decide))

theorem Minor.clipOffer (m : Mod) (h w : Nat) : R m (m.clipOffer h w) := by
  unfold Mod.clipOffer
  extract_lets t t' n c
  have hn : R m n := hR.clp m _
  refine rel_ite (hR.refl m) (rel_ite (hR.clipDrop m h 5) (rel_ite (hR.clipDrop m h 2) (rel_ite (hR.clipDrop m h 1)
    (hR.trans hn (rel_ite ?_ ?_)))))
  · exact hR.trans (hR.trans (hR.clipDrop n h 2) (hR.sqc _ 0 (by decide))) (hR.rated _ _ _)
  · exact hR.trans (hR.clp n _) (hR.writerLevels _)

theorem Minor.clipCopyDiscard (m : Mod) (f : Frame) (d n carry : Nat) : R m (m.clipCopyDiscard f d n carry) := by
  unfold Mod.clipCopyDiscard
  exact rel_ite (hR.refl m) (hR.clipOffer m _ _)

theorem Minor.sampleDraw (m : Mod) (n : Nat) : R m (m.sampleDraw n).2 := by
  unfold Mod.sampleDraw
  split
  · exact hR.refl m
  · exact hR.free m

theorem Minor.drawIn (m : Mod) (p : Nat) : R m (m.drawIn p).2 := by
  unfold Mod.drawIn
  split
  · exact hR.refl m
  · exact hR.sampleDraw m _

theorem Minor.countIn (m : Mod) (p : Nat) (taken : Bool) : R m (m.countIn p taken) := by
  unfold Mod.countIn
  extract_lets n
  have hn : R m n := hR.bump m _ 1
  exact rel_ite (hR.refl m) (hR.trans hn (rel_ite (hR.bump n _ 1) (hR.refl n)))

theorem Minor.sampleIn (m : Mod) (p : Nat) (drawn : Option Bool) : R m (m.sampleIn p drawn).2 := by
  unfold Mod.sampleIn
  split
  · exact hR.countIn m p _
  · exact hR.trans (hR.drawIn m p) (hR.countIn _ p _)

theorem Minor.sampleOut (m : Mod) (p : Nat) : R m (m.sampleOut p).2 := by
  unfold Mod.sampleOut
  split
  · exact hR.refl m
  · extract_lets n r
    have hr : R m r.2 := hR.trans (hR.bump m _ 1) (hR.sampleDraw n _)
    exact hR.trans hr (rel_ite (hR.bump _ _ 1) (hR.refl _))

/-- The record of a frame at the ingress point, and the sampler's draw (R235 to R238). -/
theorem Minor.clipIngress (m : Mod) (h : Nat) (f : Frame) (disc : Option (Nat × Nat)) (dest : Nat) : R m (m.clipIngress h f disc dest) := by
  unfold Mod.clipIngress
  extract_lets d _ s n trunc classifier
  have hn : R m n := by
    unfold n s
    split
    · exact hR.refl m
    · exact hR.sampleIn m _ _
  refine rel_ite (hR.refl m) (rel_ite (hR.clp m _) (hR.trans hn ?_))
  split
  · exact hR.refl n
  · exact hR.clipOffer n _ _

/-- The record of a copy that left (R235). -/
theorem Minor.clipCopyLeft (m : Mod) (f : Frame) (d : Nat) (stamp : Option (Nat × Nat)) (carry : Nat) (o : List Byte) (ttx : Nat) :
    R m (m.clipCopyLeft f d stamp carry o ttx) := by
  unfold Mod.clipCopyLeft
  extract_lets s n st
  have hn : R m n := hR.sampleOut m d
  refine rel_ite (hR.refl m) (hR.trans hn ?_)
  split
  · exact hR.refl n
  · exact hR.clipOffer n _ _

/-- The transmit counters of a frame (R61). -/
theorem Minor.countTx (m : Mod) (p : Nat) (o : List Byte) (tagged : Bool) : R m (m.countTx p o tagged) := by
  unfold Mod.countTx
  extract_lets n m1 m2 m3
  have h2 : R m m2 := hR.trans (hR.trans (hR.bump m _ _) (hR.bump _ _ _)) (hR.bump m1 _ _)
  have h3 : R m2 m3 := rel_ite (hR.bump m2 _ _) (hR.refl m2)
  exact hR.trans (hR.trans h2 h3) (hR.bump m3 _ _)

/-! ### The counters of the passing of time -/

theorem Minor.epcAdd (m : Mod) (c phys n k : Nat) : R m (m.epcAdd c phys n k) := by
  unfold Mod.epcAdd
  extract_lets i v m1
  have h1 : R m m1 := hR.set m i _ (by decide)
  have raised (m : Mod) : R m (m.epcRaise c phys 1 n) := hR.trans (hR.sqcBit m _ c (by decide)) (hR.rated _ _ _)
  exact rel_ite (hR.set m i v (by decide))
    (hR.trans h1 (rel_ite (hR.refl m1) (hR.trans (hR.sqcBit m1 _ _ (by decide)) (raised _))))

theorem Minor.runEpc (m : Mod) (n : Nat) : R m (m.runEpc n) := by
  unfold Mod.runEpc
  extract_lets k m1
  have hone (m : Mod) (i : Nat) : R m (m.epcRunOne k i) := by
    unfold Mod.epcRunOne
    extract_lets c phys sel win ts n
    exact rel_ite (hR.refl m) (rel_ite (hR.refl m) (rel_ite (hR.refl m) (hR.epcAdd m c phys _ n)))
  have h1 : R m m1 := hR.foldl _ hone _ m
  exact hR.trans h1 (hR.foldl _ (fun m c => rel_ite (hR.refl m) (hR.cl m c _)) _ m1)

theorem Minor.runCredits (m : Mod) (n : Nat) : R m (m.runCredits n) := by
  unfold Mod.runCredits
  exact rel_ite (hR.refl m) (hR.sch m _)

theorem Minor.runPauses (m : Mod) (n : Nat) : R m (m.runPauses n) := by
  unfold Mod.runPauses
  refine hR.foldl _ (fun m e => ?_) _ m
  extract_lets r _ m1
  have h1 : R m m1 := hR.prt m _ _ _
  exact hR.trans h1 (rel_ite (hR.refl m1) (hR.bump m1 _ _))

theorem Minor.runLpi (m : Mod) (n : Nat) : R m (m.runLpi n) := by
  unfold Mod.runLpi
  refine hR.foldl _ (fun m e => rel_ite ?_ (hR.refl m)) _ m
  extract_lets r _ m1
  have h1 : R m m1 := hR.prt m _ _ _
  exact hR.trans h1 (rel_ite (hR.refl m1) (hR.bump m1 _ _))

theorem Minor.runHolds (m : Mod) (n : Nat) : R m (m.runHolds n) := by
  unfold Mod.runHolds
  refine hR.foldl _ (fun m e => rel_ite ?_ (hR.refl m)) _ m
  extract_lets r _ m1
  have h1 : R m m1 := hR.sch m _
  exact hR.trans h1 (rel_ite (hR.refl m1) (hR.bump m1 _ _))

theorem Minor.panicRuns (m : Mod) (ch n : Nat) : R m (m.panicRuns ch n) := by
  unfold Mod.panicRuns
  extract_lets r _ m1
  have h1 : R m m1 := hR.drm m _
  exact rel_ite (hR.trans h1 (rel_ite (hR.refl m1) (hR.trans (hR.bump m1 _ _) (hR.bump _ _ _)))) (hR.refl m)

/-- The counters that n cycles run on; the frames still arriving come after them. -/
def Mod.countersRun (m : Mod) (n : Nat) : Mod := (((((m.runEpc n).runCredits n).runPauses n).runLpi n).runHolds n).runPanics n

theorem Minor.countersRun (m : Mod) (n : Nat) : R m (m.countersRun n) :=
  hR.trans (hR.trans (hR.trans (hR.trans (hR.trans (hR.runEpc m n) (hR.runCredits _ n)) (hR.runPauses _ n)) (hR.runLpi _ n))
    (hR.runHolds _ n)) (hR.trans (hR.panicRuns _ 0 n) (hR.panicRuns _ 1 n))

end

theorem cyclesPass_eq (m : Mod) (n : Nat) : m.cyclesPass n = (m.countersRun n).writeArrivals (m.now + n) := rfl

section
variable {R : Mod → Mod → Prop} (hR : Charges R)
include hR

/-! ### Cells and XOFF signals -/

theorem Charges.xoffRelease (m : Mod) (key : Nat) : R m (m.xoffRelease key) := by
  unfold Mod.xoffRelease
  extract_lets p n x m1
  have h1 : R m m1 := hR.cellBuf m _ rfl rfl rfl
  exact hR.trans h1 (rel_ite (hR.trans (hR.xoff m1 p _) (hR.prt _ _ _ _)) (hR.refl m1))

theorem Charges.xoffAssert (m : Mod) (key : Nat) : R m (m.xoffAssert key) := by
  unfold Mod.xoffAssert
  extract_lets p n x m1
  have h1 : R m m1 := by
    refine hR.trans ?_ (hR.bump _ _ _)
    exact hR.cellBuf m _ rfl rfl rfl
  exact hR.trans h1 (rel_ite (hR.trans (hR.xoff m1 p _) (hR.prt _ _ _ _)) (hR.refl m1))

theorem Charges.xoffUpdate (m : Mod) : R m m.xoffUpdate := by
  unfold Mod.xoffUpdate
  refine hR.foldl _ (fun m key => ?_) _ m
  unfold Mod.xoffOne
  extract_lets p used low
  exact rel_ite (rel_ite (hR.xoffRelease m key) (hR.refl m)) (rel_ite (hR.xoffAssert m key) (hR.refl m))

theorem Charges.account (m : Mod) (f : Frame) (on : Bool) : R m (m.account f on) := by
  unfold Mod.account
  extract_lets mv tb key m1 m2 m3 m4 m5
  have hmv (m : Mod) (fl : Fld) (i n : Nat) (h : fl.reg ∈ minorRegs) : R m (mv m fl i n) :=
    rel_ite (hR.refl m) (rel_ite (hR.set m i _ h) (hR.set m i _ h))
  have h4 : R m m4 := hR.trans (hR.trans (hR.trans (hmv m _ _ _ (by decide)) (hmv m1 _ _ _ (by decide))) (hmv m2 _ _ _ (by decide)))
    (hmv m3 _ _ _ (by decide))
  have h5 : R m4 m5 := by
    unfold m5
    split
    · exact hmv m4 _ _ _ (by decide)
    · exact hR.refl m4
  exact hR.trans (hR.trans h4 h5) (hR.cellBuf m5 _ rfl rfl rfl)

theorem Charges.sharedExhausted (m : Mod) (h : Nat) : R m (m.sharedExhausted h) := by
  unfold Mod.sharedExhausted
  exact rel_ite (hR.trans (hR.sqc m 0 (by decide)) (hR.rated _ _ _)) (hR.refl m)

/-- Cells of a frame are written (R145, R148). -/
theorem Charges.writeCells (m : Mod) (f : Frame) (n : Nat) : R m (m.writeCells f n).2.2 := by
  unfold Mod.writeCells
  extract_lets ch part f1
  exact rel_ite (hR.refl m) (hR.trans (hR.trans (hR.account m part true) (hR.sharedExhausted _ _)) (hR.xoffUpdate _))

end

section
variable {R : Mod → Mod → Prop} (hR : Discards R)
include hR

/-! ### The discard of copies -/

theorem Discards.setVoq (m : Mod) (k : Nat) (q : List Copy) : R m (m.setVoq k q) := hR.buf m _ rfl

theorem Discards.deref (m : Mod) (id : Nat) : R m (m.deref id) := by
  unfold Mod.deref
  split
  · exact hR.refl m
  · refine rel_ite ?_ (hR.buf m _ rfl)
    extract_lets _ n
    have hn : R m n := hR.buf m _ rfl
    exact hR.trans (hR.trans (hR.trans hn (hR.set n _ _ (by decide))) (hR.account _ _ false)) (hR.xoffUpdate _)

theorem Discards.dropCopy (m : Mod) (d : Nat) (c : Copy) (code carry : Nat) : R m (m.dropCopy d c code carry) := by
  unfold Mod.dropCopy
  split
  · exact hR.refl m
  · rename_i f _
    extract_lets n
    have hn : R m n := hR.trans (hR.bump m _ _) (hR.bump _ _ _)
    have unqueued (m : Mod) : R m (m.unqueue d f) := hR.trans (hR.set m d _ (by decide)) (hR.buf _ _ rfl)
    exact hR.trans (hR.trans (hR.trans hn (hR.clipCopyDiscard n f d code carry)) (unqueued _)) (hR.deref _ c.frame)

/-- Copies queued to a destination are discarded (R160, R161). -/
theorem Discards.flushQueued (m : Mod) (d code : Nat) (which : Frame → Bool) : R m (m.flushQueued d code which) := by
  have drops (l : List Copy) (m : Mod) : R m (l.foldl (fun m' c => m'.dropCopy d c code 3) m) :=
    hR.foldl _ (fun m c => hR.dropCopy m d c code 3) l m
  unfold Mod.flushQueued
  extract_lets pick m1
  have h1 : R m m1 := hR.foldl _ (fun m k => hR.trans (hR.setVoq m k _) (drops _ _)) _ m
  refine hR.trans h1 (rel_ite (hR.refl m1) (hR.foldl _ (fun m c => ?_) _ m1))
  have relaunched (m : Mod) (q : List Copy) : R m (m.setLaunchQ d c q) := hR.trans (hR.sch m _) (hR.set _ d _ (by decide))
  exact rel_ite (hR.refl m) (hR.trans (relaunched m _) (drops _ _))

/-! ### Frames still arriving -/

theorem Discards.writeArriving (m : Mod) (p t : Nat) : R m (m.writeArriving p t) := by
  unfold Mod.writeArriving
  split
  · exact hR.refl m
  · extract_lets come n w
    exact rel_ite (hR.refl m) (hR.trans (hR.writeCells m _ n) (hR.buf _ _ rfl))

theorem Discards.cyclesPass (m : Mod) (n : Nat) : R m (m.cyclesPass n) := by
  rw [cyclesPass_eq]
  exact hR.trans (hR.countersRun m n) (hR.foldl _ (fun m p => hR.writeArriving m p _) _ _)

end

end Sys2Proof.Machine
end

section
/-! SUPPORT. What the passing of time, records, discards and departures leave of the buffer, the ports and what has left the module. -/

namespace Sys2Proof.Machine

/-! ### Parts that stay -/

/-- What a view has to leave out for its equality to be kept. -/
structure Overlooks {α : Type} (g : Mod → α) : Prop where
  told : ∀ {m n}, Told m n → Keeps g m n
  wr : ∀ m {r} i w, r ∈ minorRegs → Keeps g m (m.wr r i w)
  clp : ∀ m x, Keeps g m (m.withClp x)
  sch : ∀ m x, Keeps g m (m.withSch x)
  drm : ∀ m x, Keeps g m (m.withDrm x)
  prt : ∀ m a b c, Keeps g m (m.withPrt { m.prt with pauseRem := a, lpiRem := b, pfcOwed := c })
  cl : ∀ m c k, Keeps g m (m.setCl c k)
  free : ∀ m, Keeps g m m.freshNat.2

theorem Overlooks.minor {α : Type} {g : Mod → α} (h : Overlooks g) : Minor (Keeps g) where
  refl := Keeps.refl
  trans := Keeps.trans
  bump m c n := h.told (told_bump m c n)
  event m e := h.told (told_event m e)
  rated m k e := h.told (told_eventRated m k e)
  wr := h.wr
  clp := h.clp
  sch := h.sch
  drm := h.drm
  prt := h.prt
  cl := h.cl
  free := h.free

/-- No register of a list is one in which charges and discards show. -/
def majorReg (x : Reg) : Bool := minorRegs.all fun r => x.apart r

theorem rd_wr_minor (m : Mod) {x r : Reg} (i j : Nat) (w : Word) (hx : majorReg x = true) (hr : r ∈ minorRegs) :
    (m.wr r i w).rd x j = m.rd x j := rd_wr_ne m r x i j w (List.all_eq_true.1 hx r hr)

/-! ### What is held in the buffer -/

/-- The frames held, those still arriving and the copies in transmission. -/
def heldFrames (m : Mod) : List (Nat × Frame) × List (Nat × Arriving) × List (Nat × Tx) := (m.buf.frames, m.buf.arriving, m.buf.tx)

theorem heldFrames_buf {m n : Mod} (h : n.buf = m.buf) : Keeps heldFrames m n := by
  unfold Keeps heldFrames
  rw [h]

theorem charges_heldFrames : Charges (Keeps heldFrames) where
  toMinor := Overlooks.minor {
    told := fun h => heldFrames_buf h.buf
    wr := fun m _ i w _ => heldFrames_buf (wr_buf m _ i w)
    clp := fun m x => heldFrames_buf (withClp_buf m x)
    sch := fun m x => heldFrames_buf (withSch_buf m x)
    drm := fun m x => heldFrames_buf (withDrm_buf m x)
    prt := fun m _ _ _ => heldFrames_buf (withPrt_buf m _)
    cl := fun m c k => heldFrames_buf (setCl_buf m c k)
    free := fun m => heldFrames_buf (freshNat_buf m) }
  cellBuf m x htx hframes harriving := by unfold Keeps heldFrames; simp [htx, hframes, harriving]
  xoff m p v := heldFrames_buf (set_buf m _ p v)

/-! ### What time and departures leave -/

/-- The copies in transmission, the pauses in force, the tables, the parse graph and rules, and the TIME cycle. -/
def lasting (m : Mod) : List (Nat × Tx) × List (Nat × Nat) × FwdSt × ClsSt × Nat := (m.buf.tx, m.prt.pauseEnd, m.fwd, m.cls, m.now)

theorem keeps_lasting_iff {m n : Mod} : Keeps lasting m n ↔
    n.buf.tx = m.buf.tx ∧ n.prt.pauseEnd = m.prt.pauseEnd ∧ n.fwd = m.fwd ∧ n.cls = m.cls ∧ n.now = m.now := by
  simp [Keeps, lasting]

theorem discards_lasting : Discards (Keeps lasting) where
  toMinor := Overlooks.minor {
    told := fun h => keeps_lasting_iff.2 ⟨by rw [h.buf], by rw [h.prt], h.fwd, h.cls, by unfold Mod.now; rw [h.time]⟩
    wr := by simp [keeps_lasting_iff, Mod.now]
    clp := by simp [keeps_lasting_iff, Mod.now]
    sch := by simp [keeps_lasting_iff, Mod.now]
    drm := by simp [keeps_lasting_iff, Mod.now]
    prt := by simp [keeps_lasting_iff, Mod.now]
    cl := by simp [keeps_lasting_iff, Mod.now]
    free := by simp [keeps_lasting_iff, Mod.now] }
  cellBuf m x htx _ _ := keeps_lasting_iff.2 ⟨htx, rfl, rfl, rfl, rfl⟩
  xoff := by simp [keeps_lasting_iff, Mod.now]
  buf m x htx := keeps_lasting_iff.2 ⟨htx, rfl, rfl, rfl, rfl⟩

/-- Time that passes leaves all of it but the TIME cycle (R200). -/
theorem advance_lasting (m : Mod) (n : Nat) : (m.advance n).buf.tx = m.buf.tx ∧ (m.advance n).prt.pauseEnd = m.prt.pauseEnd ∧
    (m.advance n).fwd = m.fwd ∧ (m.advance n).cls = m.cls ∧ (m.advance n).now = m.now + n := by
  obtain rfl | h := Nat.eq_zero_or_pos n
  · exact ⟨rfl, rfl, rfl, rfl, rfl⟩
  · obtain ⟨htx, hpause, hfwd, hcls, hnow⟩ := keeps_lasting_iff.1 (discards_lasting.cyclesPass m n)
    rw [advance_pos m h.ne']
    exact ⟨htx, hpause, hfwd, hcls, congrArg (· + n) hnow⟩

theorem now_advanceTo (m : Mod) (e : Nat) : (m.advanceTo e).now = Nat.max m.now e := by
  unfold Mod.advanceTo
  rw [(advance_lasting m _).2.2.2.2]
  show m.now + (e - m.now) = max m.now e
  omega

/-- An instant that has come lets no time pass. -/
theorem advanceTo_past {m : Mod} {e : Nat} (h : e ≤ m.now) : m.advanceTo e = m := by
  unfold Mod.advanceTo
  rw [Nat.sub_eq_zero_of_le h, advance_zero]

/-! ### What records leave -/

/-- The buffer, the time and the registers that tell a port's rate and what pauses it obeys. -/
def pauseRules (m : Mod) : BufSt × TimeSt × (Nat → Word) × (Nat → Word) := 
  (m.buf, m.time, fun p => m.rd .PRT_FC_CFG p, fun p => m.rd .PRT_PORT_CFG p)

theorem keeps_pauseRules_iff {m n : Mod} : Keeps pauseRules m n ↔
    n.buf = m.buf ∧ n.time = m.time ∧ (∀ p, n.rd .PRT_FC_CFG p = m.rd .PRT_FC_CFG p) ∧
    ∀ p, n.rd .PRT_PORT_CFG p = m.rd .PRT_PORT_CFG p := by
  simp [Keeps, pauseRules, funext_iff]

theorem pauseRules_rd {m n : Mod} (h : n.regs = m.regs) :
    (∀ p, n.rd .PRT_FC_CFG p = m.rd .PRT_FC_CFG p) ∧ ∀ p, n.rd .PRT_PORT_CFG p = m.rd .PRT_PORT_CFG p :=
  ⟨rd_of_regs h _, rd_of_regs h _⟩

theorem pauseRules_told {m n : Mod} (h : Told m n) : Keeps pauseRules m n :=
  keeps_pauseRules_iff.2 ⟨h.buf, h.time, fun p => h.2 _ p rfl, fun p => h.2 _ p rfl⟩

theorem minor_pauseRules : Minor (Keeps pauseRules) := Overlooks.minor {
  told := pauseRules_told
  wr := fun m _ i w hr => keeps_pauseRules_iff.2
    ⟨wr_buf m _ i w, wr_time m _ i w, fun p => rd_wr_minor m i p w (by decide) hr, fun p => rd_wr_minor m i p w (by decide) hr⟩
  clp := fun m x => keeps_pauseRules_iff.2 ⟨withClp_buf m x, withClp_time m x, pauseRules_rd rfl⟩
  sch := fun m x => keeps_pauseRules_iff.2 ⟨withSch_buf m x, withSch_time m x, pauseRules_rd rfl⟩
  drm := fun m x => keeps_pauseRules_iff.2 ⟨withDrm_buf m x, withDrm_time m x, pauseRules_rd rfl⟩
  prt := fun m _ _ _ => keeps_pauseRules_iff.2 ⟨withPrt_buf m _, withPrt_time m _, pauseRules_rd rfl⟩
  cl := fun m c k => keeps_pauseRules_iff.2 ⟨setCl_buf m c k, setCl_time m c k, pauseRules_rd rfl⟩
  free := fun m => keeps_pauseRules_iff.2 ⟨freshNat_buf m, freshNat_time m, pauseRules_rd rfl⟩ }

/-- While no frame arrives, the passing of time leaves the buffer. -/
theorem advance_buf {m : Mod} (h : m.buf.arriving = []) (n : Nat) : (m.advance n).buf = m.buf := by
  obtain rfl | hn := Nat.eq_zero_or_pos n
  · rfl
  · have hbuf : (m.countersRun n).buf = m.buf := (keeps_pauseRules_iff.1 (minor_pauseRules.countersRun m n)).1
    rw [advance_pos m hn.ne', withTime_buf, cyclesPass_eq]
    unfold Mod.writeArrivals
    rw [hbuf, h]
    exact hbuf

/-! ### What a port that leaves the up state keeps -/

/-- The state and the link of every port, its events, what the FDB does when it goes down, and the FDB. -/
def linkShown (m : Mod) : (Nat → Nat) × (Nat → Nat) × (Nat → Nat) × (Nat → Word) × (Nat → Word) × List (Nat × Nat) :=
  (fun p => m.get PRT_PORT_STATUS_STATE p, fun p => m.get PRT_PORT_STATUS_PCS_LOCK p, fun p => m.get PRT_PORT_STATUS_AN_DONE p,
    fun p => m.rd .PRT_PORT_EVENT p, fun p => m.rd .FDB_PORT_CFG p, m.fwd.fdb)

theorem keeps_linkShown_iff {m n : Mod} : Keeps linkShown m n ↔
    (∀ p, n.get PRT_PORT_STATUS_STATE p = m.get PRT_PORT_STATUS_STATE p) ∧
    (∀ p, n.get PRT_PORT_STATUS_PCS_LOCK p = m.get PRT_PORT_STATUS_PCS_LOCK p) ∧
    (∀ p, n.get PRT_PORT_STATUS_AN_DONE p = m.get PRT_PORT_STATUS_AN_DONE p) ∧
    (∀ p, n.rd .PRT_PORT_EVENT p = m.rd .PRT_PORT_EVENT p) ∧ (∀ p, n.rd .FDB_PORT_CFG p = m.rd .FDB_PORT_CFG p) ∧
    n.fwd.fdb = m.fwd.fdb := by
  simp [Keeps, linkShown, funext_iff]

theorem linkShown_told {m n : Mod} (h : Told m n) : Keeps linkShown m n :=
  keeps_linkShown_iff.2 ⟨fun p => h.get p rfl, fun p => h.get p rfl, fun p => h.get p rfl, fun p => h.2 _ p rfl, fun p => h.2 _ p rfl,
    by rw [h.fwd]⟩

theorem linkShown_wr (m : Mod) {r : Reg} (i : Nat) (w : Word) (hr : r ∈ minorRegs) : Keeps linkShown m (m.wr r i w) := by
  have hrd {x : Reg} (hx : majorReg x = true) (p : Nat) : (m.wr r i w).rd x p = m.rd x p := rd_wr_minor m i p w hx hr
  have hget {f : Fld} (hx : majorReg f.reg = true) (p : Nat) : (m.wr r i w).get f p = m.get f p := congrArg f.of (hrd hx p)
  exact keeps_linkShown_iff.2 ⟨hget (by decide), hget (by decide), hget (by decide), hrd (by decide), hrd (by decide), by rw [wr_fwd]⟩

theorem linkShown_xoff (m : Mod) (p v : Nat) : Keeps linkShown m (m.set PRT_PORT_STATUS_XOFF p v) := by
  have hget {f : Fld} (hr : f.reg = .PRT_PORT_STATUS) (hf : PRT_PORT_STATUS_XOFF.clearOf f = true) (q : Nat) :
      (m.set PRT_PORT_STATUS_XOFF p v).get f q = m.get f q := get_set_elsewhere m p q v hr hf fun _ _ => rfl
  exact keeps_linkShown_iff.2 ⟨hget rfl (by decide), hget rfl (by decide), hget rfl (by decide),
    fun q => rd_set_ne m _ _ p q v rfl, fun q => rd_set_ne m _ _ p q v rfl, by rw [set_fwd]⟩

theorem linkShown_same {m n : Mod} (hr : n.regs = m.regs) (hf : n.fwd = m.fwd) : Keeps linkShown m n :=
  keeps_linkShown_iff.2 ⟨get_of_regs hr _, get_of_regs hr _, get_of_regs hr _, rd_of_regs hr _, rd_of_regs hr _, by rw [hf]⟩

theorem discards_linkShown : Discards (Keeps linkShown) where
  toMinor := Overlooks.minor {
    told := linkShown_told
    wr := linkShown_wr
    clp := fun m x => linkShown_same (withClp_regs m x) (withClp_fwd m x)
    sch := fun m x => linkShown_same (withSch_regs m x) (withSch_fwd m x)
    drm := fun m x => linkShown_same (withDrm_regs m x) (withDrm_fwd m x)
    prt := fun m _ _ _ => linkShown_same (withPrt_regs m _) (withPrt_fwd m _)
    cl := fun m c k => linkShown_same (setCl_regs m c k) (setCl_fwd m c k)
    free := fun m => linkShown_same (freshNat_regs m) (freshNat_fwd m) }
  cellBuf m x _ _ _ := linkShown_same (withBuf_regs m x) (withBuf_fwd m x)
  xoff := linkShown_xoff
  buf m x _ := linkShown_same (withBuf_regs m x) (withBuf_fwd m x)

end Sys2Proof.Machine
end

section
/-! SUPPORT. What has left the module has left it: events, counters and records put out messages and host writes of their own, and take back
none. -/

namespace Sys2Proof.Machine

/-! ### What has left -/

/-- What had left the module at m has left it at n. -/
def Outlasts (m n : Mod) : Prop := ∀ o ∈ m.evt.out, o ∈ n.evt.out

theorem Outlasts.refl (m : Mod) : Outlasts m m := fun _ h => h

theorem Outlasts.trans {a b c : Mod} (h : Outlasts a b) (k : Outlasts b c) : Outlasts a c := fun o ho => k o (h o ho)

theorem Outlasts.foldl {β : Type} (f : Mod → β → Mod) (h : ∀ m b, Outlasts m (f m b)) (l : List β) (m : Mod) : Outlasts m (l.foldl f m) := by
  induction l generalizing m with
  | nil => exact Outlasts.refl m
  | cons b t ih => exact (h m b).trans (ih (f m b))

theorem outlasts_of {m n : Mod} (h : n.evt.out = m.evt.out) : Outlasts m n := fun _ ho => h ▸ ho

theorem outlasts_evt {m n : Mod} (h : n.evt = m.evt) : Outlasts m n := outlasts_of (congrArg EvtSt.out h)

theorem outlasts_emit (m : Mod) (o : Output) : Outlasts m (m.emit o) := fun _ ho => List.mem_cons_of_mem o ho

theorem mem_emit (m : Mod) (o : Output) : o ∈ (m.emit o).evt.out := List.mem_cons_self

theorem outlasts_wr (m : Mod) (r : Reg) (i : Nat) (w : Word) : Outlasts m (m.wr r i w) := outlasts_evt (wr_evt m r i w)

theorem outlasts_set (m : Mod) (f : Fld) (i v : Nat) : Outlasts m (m.set f i v) := outlasts_wr m f.reg i _

theorem outlasts_sqcBit (m : Mod) (f : Fld) (k i : Nat) : Outlasts m (m.sqcBit f k i) := by
  unfold Mod.sqcBit
  exact outlasts_wr m f.reg i _

/-! ### Causes and rings -/

theorem outlasts_pfCause (m : Mod) (v : Nat) : Outlasts m (m.pfCause v) := by
  unfold Mod.pfCause
  extract_lets n
  have hn : Outlasts m n := outlasts_sqcBit m _ v 0
  exact hn.trans (outlasts_of rfl)

theorem outlasts_hedgeCause (m : Mod) (h n : Nat) : Outlasts m (m.hedgeCause h n) := by
  unfold Mod.hedgeCause
  split
  · exact outlasts_pfCause m h
  · exact outlasts_of rfl

theorem outlasts_vjoin (m : Mod) (ch h : Nat) : Outlasts m (m.vjoin ch h) := by
  unfold Mod.vjoin
  exact rel_ite (Outlasts.refl m) (outlasts_evt (withDrm_evt m _))

theorem outlasts_writeModes (m : Mod) (ch : Nat) : Outlasts m (m.writeModes ch) := by
  unfold Mod.writeModes
  refine Outlasts.foldl _ (fun m s => ?_) _ m
  extract_lets
  exact rel_ite (Outlasts.refl m) (outlasts_evt (withDrm_evt m _))

theorem outlasts_drmQueue (m : Mod) (who : Requester) (h a : Nat) (w : Bool) (ch : Nat) : Outlasts m (m.drmQueue who h a w ch) := by
  unfold Mod.drmQueue
  extract_lets _ _ n
  have hn : Outlasts m n := rel_ite (Outlasts.refl m) (outlasts_vjoin m ch h)
  exact rel_ite (Outlasts.refl m) ((hn.trans (outlasts_evt (withDrm_evt n _))).trans (outlasts_writeModes _ ch))

theorem outlasts_drmPost (m : Mod) (who : Requester) (h a : Nat) (bs : List Byte) : Outlasts m (m.drmPost who h a bs) := by
  unfold Mod.drmPost
  refine Outlasts.trans (outlasts_evt (by simp)) (Outlasts.foldl _ (fun m k => ?_) _ _)
  exact Outlasts.foldl _ (fun m ch => outlasts_drmQueue m _ _ _ _ ch) _ m

theorem outlasts_ringStore (m : Mod) (h off : Nat) (bs : List Byte) : Outlasts m (m.ringStore h off bs) := by
  unfold Mod.ringStore
  extract_lets
  split
  · exact outlasts_drmPost m _ _ _ _
  · exact rel_ite (outlasts_emit m _) (Outlasts.refl m)
  · exact rel_ite (outlasts_emit m _) (Outlasts.refl m)

theorem outlasts_ringWrite (m : Mod) (h : Nat) (e : Ev) : Outlasts m (m.ringWrite h e) := by
  unfold Mod.ringWrite
  extract_lets prod rec128 m1 m2 m3 m4
  have h1 : Outlasts m m1 := outlasts_ringStore m _ _ _
  have h2 : Outlasts m1 m2 := outlasts_set m1 _ _ _
  have h3 : Outlasts m2 m3 := rel_ite (Outlasts.refl m2) (outlasts_ringStore m2 _ _ _)
  have h4 : Outlasts m3 m4 := outlasts_set m3 _ _ _
  exact (((h1.trans h2).trans h3).trans h4).trans (outlasts_hedgeCause m4 h 0)

theorem outlasts_satAdd (m : Mod) (f : Fld) (i n : Nat) : Outlasts m (m.satAdd f i n) := by
  unfold Mod.satAdd
  exact outlasts_set m f i _

theorem outlasts_lost (m : Mod) (l : List (Nat × Nat)) : Outlasts m { m with evt := { m.evt with lost := l } } := outlasts_of rfl

theorem outlasts_ringOffer (m : Mod) (h : Nat) (e : Ev) : Outlasts m (m.ringOffer h e) := by
  unfold Mod.ringOffer
  split
  · exact (outlasts_satAdd m EVT_RING_STATUS_DROPPED h 1).trans (outlasts_lost _ _)
  · exact (outlasts_ringWrite m h e).trans (outlasts_lost _ _)

/-! ### Events and counters -/

theorem outlasts_eventRings (m : Mod) (e : Ev) : Outlasts m (m.eventRings e) := by
  unfold Mod.eventRings
  extract_lets m1
  have h1 : Outlasts m m1 := Outlasts.foldl _ (fun m h => outlasts_ringOffer m h e) _ m
  split
  · exact h1.trans (outlasts_pfCause m1 _)
  · exact h1

theorem outlasts_evDrop (m : Mod) (c : Nat) (say : Mod → Ev → Mod) (h : ∀ m e, Outlasts m (say m e)) : Outlasts m (m.evDrop c say) := by
  unfold Mod.evDrop
  extract_lets k v m1
  have h1 : Outlasts m m1 := outlasts_evt (setCtr_evt m _ _)
  exact rel_ite (h1.trans (h m1 _)) h1

theorem outlasts_eventVia (n : Nat) (m : Mod) (e : Ev) : Outlasts m (Mod.eventVia n m e) := by
  induction n generalizing m e with
  | zero => exact Outlasts.refl m
  | succ n ih =>
    unfold Mod.eventVia
    split
    · exact Outlasts.refl m
    · exact rel_ite (outlasts_evDrop m _ _ fun m e => (outlasts_eventRings m e).trans (ih _ e)) (outlasts_evt (setCl_evt m _ _))

theorem outlasts_event (m : Mod) (e : Ev) : Outlasts m (m.event e) := (outlasts_eventRings m e).trans (outlasts_eventVia 5 _ e)

theorem outlasts_halfBit (m : Mod) (c : Ctr) : Outlasts m (m.halfBit c) := by
  unfold Mod.halfBit
  exact rel_ite (outlasts_sqcBit m _ _ _) (rel_ite (outlasts_sqcBit m _ _ _) (rel_ite (outlasts_sqcBit m _ _ _) (Outlasts.refl m)))

theorem outlasts_bump (m : Mod) (c : Ctr) (n : Nat) : Outlasts m (m.bump c n) := by
  unfold Mod.bump
  extract_lets v m1
  have h1 : Outlasts m m1 := outlasts_evt (setCtr_evt m _ _)
  exact rel_ite (h1.trans ((outlasts_halfBit m1 c).trans (outlasts_event _ _))) h1

theorem outlasts_rateGate (m : Mod) (k : Nat) : Outlasts m (m.rateGate k).2 := by
  unfold Mod.rateGate
  split
  · split
    · exact Outlasts.refl m
    · exact outlasts_of rfl
  · exact outlasts_of rfl

theorem outlasts_eventRated (m : Mod) (k : Nat) (e : Ev) : Outlasts m (m.eventRated k e) := by
  unfold Mod.eventRated
  exact rel_ite ((outlasts_rateGate m k).trans (outlasts_event _ e)) (Outlasts.refl m)

/-- Records, samplers and queues of counters take back nothing that has left. -/
theorem minor_outlasts : Minor Outlasts where
  refl := Outlasts.refl
  trans := Outlasts.trans
  bump := outlasts_bump
  event := outlasts_event
  rated := outlasts_eventRated
  wr m _ i w _ := outlasts_wr m _ i w
  clp m x := outlasts_evt (withClp_evt m x)
  sch m x := outlasts_evt (withSch_evt m x)
  drm m x := outlasts_evt (withDrm_evt m x)
  prt m _ _ _ := outlasts_evt (withPrt_evt m _)
  cl m c k := outlasts_evt (setCl_evt m c k)
  free m := outlasts_evt (freshNat_evt m)

end Sys2Proof.Machine
end

section
/-! SUPPORT. Pauses and PFC frames (R47 to R50): what pausing one class leaves of the others, and the frame that is put on the wire. -/

namespace Sys2Proof.Machine

/-! ### Pausing one class -/

/-- When a class of front port p that is paused now for a number of quanta is free again (R48). -/
def Mod.pauseEnds (m : Mod) (p quanta : Nat) : Option Nat :=
  if quanta = 0 then none else some (m.now + ceilDiv (quanta * 512) (Nat.max 1 (m.rate p)))

theorem pauseRules_setPaused (m : Mod) (p v : Nat) (x : PrtSt) : Keeps pauseRules m ((m.set PRT_PORT_STATUS_PAUSED p v).withPrt x) := by
  refine keeps_pauseRules_iff.2 ⟨(withPrt_buf _ x).trans (set_buf m _ p v), (withPrt_time _ x).trans (set_time m _ p v), fun q => ?_, fun q => ?_⟩
  · exact (rd_of_regs (withPrt_regs _ x) _ q).trans (rd_set_ne m PRT_PORT_STATUS_PAUSED _ p q v rfl)
  · exact (rd_of_regs (withPrt_regs _ x) _ q).trans (rd_set_ne m PRT_PORT_STATUS_PAUSED _ p q v rfl)

theorem keeps_pauseClass (m : Mod) (p c quanta : Nat) : Keeps pauseRules m (m.pauseClass p c quanta) := by
  unfold Mod.pauseClass
  extract_lets k bitNow ends
  exact Keeps.ite _ (pauseRules_setPaused m p _ _) (pauseRules_setPaused m p _ _)

theorem pauseClass_fwd (m : Mod) (p c quanta : Nat) : (m.pauseClass p c quanta).fwd = m.fwd := by
  have hset (v : Nat) (x : PrtSt) : Keeps Mod.fwd m ((m.set PRT_PORT_STATUS_PAUSED p v).withPrt x) :=
    (withPrt_fwd _ x).trans (set_fwd m _ p v)
  unfold Mod.pauseClass
  extract_lets k bitNow ends
  exact Keeps.ite _ (hset _ _) (hset _ _)

theorem lookup_pauseClass (m : Mod) (p c quanta k : Nat) : lookup (m.pauseClass p c quanta).prt.pauseEnd k =
    if k = 8 * p + c then m.pauseEnds p quanta else lookup m.prt.pauseEnd k := by
  unfold Mod.pauseClass Mod.pauseEnds
  by_cases hq : quanta = 0
  · simp [hq, lookup_remove]
  · simp [hq, lookup_store]

theorem pauseEnds_keeps {m n : Mod} (h : Keeps pauseRules m n) (p quanta : Nat) : n.pauseEnds p quanta = m.pauseEnds p quanta := by
  obtain ⟨-, htime, -, hcfg⟩ := keeps_pauseRules_iff.1 h
  unfold Mod.pauseEnds Mod.now Mod.rate Mod.get
  rw [htime, show PRT_PORT_CFG_TYPE.reg = .PRT_PORT_CFG from rfl, hcfg p]

theorem testBit_cleared (v c : Nat) : (if v.testBit c then v - 2 ^ c else v).testBit c = false := by
  split
  next h =>
    have hdiv : (v - 2 ^ c) / 2 ^ c = v / 2 ^ c - 1 := by simpa using Nat.sub_mul_div v (2 ^ c) 1
    rw [Nat.testBit_eq_decide_div_mod_eq] at h ⊢
    rw [hdiv]
    simp only [decide_eq_true_eq] at h
    exact decide_eq_false (by omega)
  next h => exact eq_false_of_ne_true h

/-- A class that is unpaused shows no pause (R48). -/
theorem paused_pauseClass_zero (m : Mod) (p : Nat) {c : Nat} (hc : c < 8) :
    ((m.pauseClass p c 0).get PRT_PORT_STATUS_PAUSED p).testBit c = false := by
  have hget : (m.pauseClass p c 0).get PRT_PORT_STATUS_PAUSED p =
      (if (m.get PRT_PORT_STATUS_PAUSED p).testBit c then m.get PRT_PORT_STATUS_PAUSED p - 2 ^ c
        else m.get PRT_PORT_STATUS_PAUSED p) % 2 ^ 8 := by
    unfold Mod.pauseClass
    rw [if_pos rfl]
    exact (get_of_regs (withPrt_regs _ _) _ p).trans (get_set m PRT_PORT_STATUS_PAUSED p _ (by decide))
  rw [hget, Nat.testBit_mod_two_pow, decide_eq_true hc, Bool.true_and]
  exact testBit_cleared _ c

/-- The classes that one frame pauses: each selected class ends its pause as its own quanta say. -/
theorem lookup_foldl_pauseClass (m0 : Mod) (p c : Nat) (sel : Nat → Prop) [DecidablePred sel] (quanta : Nat → Nat) (hsel : sel c)
    (l : List Nat) (m : Mod) (hm : Keeps pauseRules m0 m)
    (hc : c ∈ l ∨ lookup m.prt.pauseEnd (8 * p + c) = m0.pauseEnds p (quanta c)) :
    lookup (l.foldl (fun m b => if sel b then m.pauseClass p b (quanta b) else m) m).prt.pauseEnd (8 * p + c) =
      m0.pauseEnds p (quanta c) := by
  induction l generalizing m with
  | nil => exact hc.resolve_left List.not_mem_nil
  | cons b t ih =>
    refine ih _ (hm.trans (Keeps.ite _ (keeps_pauseClass m p b _) (Keeps.refl m))) ?_
    beta_reduce
    by_cases hbc : b = c
    · right
      rw [hbc, if_pos hsel, lookup_pauseClass, if_pos rfl, pauseEnds_keeps hm]
    · have ht : c ∈ t ∨ lookup m.prt.pauseEnd (8 * p + c) = m0.pauseEnds p (quanta c) :=
        hc.imp_left fun h => (List.mem_cons.1 h).resolve_left (Ne.symm hbc)
      refine ht.imp_right fun h => ?_
      split
      · rw [lookup_pauseClass, if_neg (by omega), h]
      · exact h

theorem keeps_foldl_pauseClass (p : Nat) (sel : Nat → Prop) [DecidablePred sel] (quanta : Nat → Nat) (l : List Nat) (m : Mod) :
    Keeps pauseRules m (l.foldl (fun m b => if sel b then m.pauseClass p b (quanta b) else m) m) :=
  Keeps.foldl _ (fun m b => Keeps.ite _ (keeps_pauseClass m p b _) (Keeps.refl m)) l m

/-! ### Frames that pause -/

/-- A PFC frame pauses the obeyed classes it names (R47, R48); the counters before it leave the time and what the port obeys. -/
theorem macControl_pfc {m m1 : Mod} (h : Keeps pauseRules m m1) (p c : Nat) (o : List Byte) (hop : fieldAt o 14 2 = 0x0101)
    (hmode : m.get PRT_FC_CFG_MODE p = 2) (hc : c < 8) (hen : (fieldAt o 16 2 % 256).testBit c = true)
    (hobey : (m.get PRT_FC_CFG_OBEY p).testBit c = true) :
    lookup (m1.macControl p o).prt.pauseEnd (8 * p + c) = m.pauseEnds p (fieldAt o (18 + 2 * c) 2) ∧
      Keeps pauseRules m (m1.macControl p o) := by
  obtain ⟨m2, hm2⟩ : ∃ m2, m2 = m1.bump (m1.prtCtr p 8) := ⟨_, rfl⟩
  have h2 : Keeps pauseRules m m2 := hm2 ▸ h.trans (minor_pauseRules.bump m1 _ _)
  have hget (f : Fld) (hf : f.reg = .PRT_FC_CFG) : m2.get f p = m.get f p := by
    obtain ⟨-, -, hfc, -⟩ := keeps_pauseRules_iff.1 h2
    unfold Mod.get
    rw [hf, hfc p]
  obtain ⟨m3, hm3⟩ : ∃ m3, m3 = (List.range 8).foldl
    (fun m c => if (fieldAt o 16 2 % 256).testBit c then m.bump (m.prtCtr p (10 + c)) else m) m2 := ⟨_, rfl⟩
  have h3 : Keeps pauseRules m m3 := hm3 ▸ h2.trans (minor_pauseRules.foldl _ (fun m c => rel_ite (minor_pauseRules.bump m _ _) rfl) _ m2)
  have hsome : fieldAt o 16 2 % 256 &&& m.get PRT_FC_CFG_OBEY p ≠ 0 := fun h0 => by
    have := congrArg (Nat.testBit · c) h0
    simp [hen, hobey] at this
  have hm : m1.macControl p o = (List.range 8).foldl (fun m b =>
      if (fieldAt o 16 2 % 256).testBit b ∧ (m2.get PRT_FC_CFG_OBEY p).testBit b then m.pauseClass p b (fieldAt o (18 + 2 * b) 2) else m) m3 := by
    unfold Mod.macControl
    rw [hop, ← hm2]
    simp only [hget PRT_FC_CFG_MODE rfl, hget PRT_FC_CFG_OBEY rfl, hmode]
    rw [if_pos ⟨trivial, hsome⟩, hm3]
  rw [hm, hget PRT_FC_CFG_OBEY rfl]
  exact ⟨lookup_foldl_pauseClass m p c _ (fun b => fieldAt o (18 + 2 * b) 2) ⟨hen, hobey⟩ _ m3 h3 (.inl (List.mem_range.2 hc)),
    h3.trans (keeps_foldl_pauseClass p _ _ _ m3)⟩

/-! ### The pause that ends -/

theorem pauseExpiry_ends {m : Mod} {p c e : Nat} (hc : c < 8) (h : lookup m.prt.pauseEnd (8 * p + c) = some e) :
    lookup (m.pauseExpiry p c).prt.pauseEnd (8 * p + c) = none ∧ (m.pauseExpiry p c).paused p c = false ∧
    ((m.pauseExpiry p c).get PRT_PORT_STATUS_PAUSED p).testBit c = false ∧ (m.pauseExpiry p c).now = Nat.max m.now e ∧
    (∀ k, k ≠ 8 * p + c → lookup (m.pauseExpiry p c).prt.pauseEnd k = lookup m.prt.pauseEnd k) ∧
    (m.buf.arriving = [] → (m.pauseExpiry p c).buf = m.buf) ∧ (m.pauseExpiry p c).fwd = m.fwd := by
  have heq : m.pauseExpiry p c = (m.advanceTo e).pauseClass p c 0 := by
    unfold Mod.pauseExpiry
    rw [h]
  obtain ⟨hbuf, htime, -, -⟩ := keeps_pauseRules_iff.1 (keeps_pauseClass (m.advanceTo e) p c 0)
  obtain ⟨-, hends, hfwd, -, -⟩ := advance_lasting m (e - m.now)
  have hnone : lookup (m.pauseExpiry p c).prt.pauseEnd (8 * p + c) = none := by
    rw [heq, lookup_pauseClass, if_pos rfl]
    rfl
  refine ⟨hnone, ?_, ?_, ?_, fun k hk => ?_, fun hfree => ?_, ?_⟩
  · unfold Mod.paused
    rw [hnone]
    rfl
  · rw [heq]
    exact paused_pauseClass_zero _ p hc
  · rw [heq]
    exact (congrArg TimeSt.cycles htime).trans (now_advanceTo m e)
  · rw [heq, lookup_pauseClass, if_neg hk]
    exact congrArg (lookup · k) hends
  · rw [heq]
    exact hbuf.trans (advance_buf hfree _)
  · rw [heq, pauseClass_fwd]
    exact hfwd

/-! ### The PFC frame that is owed -/

/-- The PFC frame leaves (R49, R50): on the wire, no longer owed, and due again while XOFF stands. -/
theorem pfcSend_leaves {m : Mod} {p r : Nat} (howed : lookup m.prt.pfcOwed p = some r) (hfree : m.transmitterFree p = true)
    (hgate : m.flag SCH_PORT_CFG_GATE_EN p = false) (hlpi : m.flag PRT_PORT_STATUS_LPI_TX p = false) :
    Output.frame p (sealFrame false (m.pfcOctets p (m.get PRT_PORT_STATUS_XOFF p) r)) ∈ (m.pfcSend p).evt.out ∧
    lookup (m.pfcSend p).prt.pfcOwed p = none ∧
    lookup (m.pfcSend p).prt.refreshAt p =
      (if m.get PRT_PORT_STATUS_XOFF p = 0 then none else some (m.now + m.refreshNs p)) ∧
    (m.pfcSend p).buf = m.buf ∧ (m.pfcSend p).time = m.time := by
  unfold Mod.pfcSend
  simp -zeta only [howed]
  rw [if_neg (by simp [hfree, hgate]), if_neg (by simp [hlpi])]
  extract_lets xoff o m1 m2
  have counted {R : Mod → Mod → Prop} (hR : Minor R) : R (m.emit (.frame p o)) m2 :=
    hR.trans (hR.trans (hR.countTx _ p o false) (hR.bump _ _ _)) (hR.foldl _ (fun m c => rel_ite (hR.bump m _ _) (hR.refl m)) _ m1)
  obtain ⟨hbuf, htime, hfc, hcfg⟩ := keeps_pauseRules_iff.1 (counted minor_pauseRules)
  have hrefresh : m2.refreshNs p = m.refreshNs p := by
    unfold Mod.refreshNs Mod.rate Mod.get
    rw [show PRT_FC_CFG_QUANTA.reg = .PRT_FC_CFG from rfl, show PRT_FC_CFG_REFRESH.reg = .PRT_FC_CFG from rfl,
      show PRT_PORT_CFG_TYPE.reg = .PRT_PORT_CFG from rfl, hfc p, hcfg p]
    rfl
  have hnow : m2.now = m.now := congrArg TimeSt.cycles htime
  refine ⟨?_, ?_, ?_, hbuf, htime⟩
  · exact counted minor_outlasts _ (mem_emit m _)
  · simp [lookup_remove]
  · simp only [withPrt_prt]
    split
    · simp [lookup_remove]
    · simp [lookup_store_self, hnow, hrefresh]

end Sys2Proof.Machine
end

section
/-! SUPPORT. Refreshes of a PFC frame and low-power idle (R49, R55, R56). -/

namespace Sys2Proof.Machine

theorem pfcRefresh_due {m : Mod} {p a : Nat} (h : lookup m.prt.refreshAt p = some a) (ha : a ≤ m.now) :
    lookup (m.pfcRefresh p).prt.refreshAt p = none ∧
    lookup (m.pfcRefresh p).prt.pfcOwed p =
      (if m.get PRT_PORT_STATUS_XOFF p = 0 then lookup m.prt.pfcOwed p else some (lookupD m.prt.pfcOwed p 0)) ∧
    (m.pfcRefresh p).time = m.time ∧ (m.pfcRefresh p).regs = m.regs := by
  unfold Mod.pfcRefresh
  simp only [h, advanceTo_past ha]
  split
  · simp [lookup_remove]
  · simp [lookup_remove, lookup_store_self]

theorem rxLpiEntry_sets {m : Mod} {p : Nat} (hup : m.portUp p = true) (hlpi : m.flag PRT_PORT_STATUS_LPI_RX p = false) :
    (m.rxLpiEntry p).flag PRT_PORT_STATUS_LPI_RX p = true ∧ (m.rxLpiEntry p).prt = m.prt ∧ (m.rxLpiEntry p).buf = m.buf := by
  unfold Mod.rxLpiEntry
  rw [if_pos ⟨hup, hlpi⟩]
  have told := told_bump (m.set PRT_PORT_STATUS_LPI_RX p 1) (m.prtCtr p 37) 1
  exact ⟨(told.flag p rfl).trans (flag_set_bit m p 1 rfl), told.prt.trans (set_prt m _ p 1), told.buf.trans (set_buf m _ p 1)⟩

/-- Front port p enters low-power idle (R55). -/
def Mod.lpiEntered (m : Mod) (p : Nat) : Mod :=
  let m := (m.set PRT_PORT_STATUS_LPI_TX p 1).bump (m.prtCtr p 93)
  (m.withPrt { m.prt with lpiRem := store m.prt.lpiRem p (lookupD m.prt.lpiRem p 0) }).emit (.lpi p true)

/-- LPI_ENTRY of a port that may enter low-power idle and has been idle for IDLE_US (R55). -/
theorem lpiEntry_idle {m : Mod} {p : Nat} (hup : m.portUp p = true) (heee : m.flag PRT_PORT_CFG_EEE_EN p = true) (hlo : 3 ≤ m.portType p)
    (hhi : m.portType p ≤ 6) (hlpi : m.flag PRT_PORT_STATUS_LPI_TX p = false) (htx : lookup m.buf.tx p = none)
    (howed : lookup m.prt.pfcOwed p = none)
    (hidle : lookupD m.prt.idleSince p 0 + m.get PRT_EEE_CFG_IDLE_US p * 1000 ≤ m.now) :
    m.lpiEntry p = if (m.choose p).1.isSome then m else m.lpiEntered p := by
  unfold Mod.lpiEntry
  rw [advanceTo_past hidle]
  exact if_neg (by simp [hup, heee, hlpi, htx, howed]; omega)

theorem lpiEntered_sets (m : Mod) (p : Nat) :
    (m.lpiEntered p).flag PRT_PORT_STATUS_LPI_TX p = true ∧ Output.lpi p true ∈ (m.lpiEntered p).evt.out ∧
    (m.lpiEntered p).buf = m.buf ∧ (m.lpiEntered p).time = m.time := by
  have told := told_bump (m.set PRT_PORT_STATUS_LPI_TX p 1) (m.prtCtr p 93) 1
  unfold Mod.lpiEntered
  extract_lets n
  exact ⟨(told.flag p rfl).trans (flag_set_bit m p 1 rfl), mem_emit _ _, told.buf.trans (set_buf m _ p 1), told.time.trans (set_time m _ p 1)⟩

/-- Settles O21: a pause is one entry of its own among the ends kept, and the counters beside it leave what it is measured by; that
what is not due changes nothing, and that PAUSE_EXPIRY and PFC_REFRESH bring the time to their instant, is log 4's choice. -/
theorem pauseAndPfc : Obligations.PauseAndPfc := by
  refine ⟨⟨fun s p c hs => ⟨fun h => ?_, fun e h => ?_⟩, fun s p c o hs hup hfree hctl hgood hop hmode hen hobey => ?_⟩,
    fun s p hs => ⟨fun h => ?_, fun r howed hfree hgate hlpi => ?_, fun a h ha => ?_, fun h => ?_, fun hup hlpi => ?_, ?_,
      fun hup heee hlo hhi hlpi htx howed hidle => ⟨fun hnone => ?_, fun hsome => ?_⟩⟩⟩
  · refine does_act (exec_pauseExpiry p c s) hs ?_
    unfold Mod.pauseExpiry
    rw [h]
  · exact yields_of_does (does_act (exec_pauseExpiry p c s) hs rfl) (pauseExpiry_ends c.isLt h)
  · refine yields_of_does (does_act (exec_pauseReceived p o s) hs rfl) ?_
    obtain ⟨m1, hm1⟩ : ∃ m1, m1 = s.m.countRx p.val o false .good := ⟨_, rfl⟩
    have counted : Keeps pauseRules s.m m1 := hm1 ▸ pauseRules_told (told_countRx s.m p.val o false .good)
    have sampled := counted.trans (minor_pauseRules.clipIngress m1 (m1.owner p.val) (m1.arrived p.val o false (m1.rxStamp 0).1) none 255)
    rw [pauseReceived_control hctl, frameReceived_control hup hfree o false 0 hm1 hgood hctl]
    obtain ⟨hends, hkept⟩ := macControl_pfc sampled p.val c.val o hop hmode c.isLt hen hobey
    obtain ⟨hbuf, htime, -⟩ := keeps_pauseRules_iff.1 hkept
    exact ⟨hends, hbuf, htime⟩
  · refine does_act (exec_pfcSend p s) hs ?_
    unfold Mod.pfcSend
    rw [h]
  · exact yields_of_does (does_act (exec_pfcSend p s) hs rfl) (pfcSend_leaves howed hfree hgate hlpi)
  · exact yields_of_does (does_act (exec_pfcRefresh p s) hs rfl) (pfcRefresh_due h ha)
  · refine does_act (exec_pfcRefresh p s) hs ?_
    unfold Mod.pfcRefresh
    rw [h]
  · exact yields_of_does (does_act (exec_rxLpiEntry p s) hs rfl) (rxLpiEntry_sets hup hlpi)
  · exact does_act (exec_rxLpiExit p s) hs rfl
  · have hm : s.m.lpiEntry p.val = s.m.lpiEntered p.val :=
      (lpiEntry_idle hup heee hlo hhi hlpi htx howed hidle).trans (if_neg (by simp [hnone]))
    exact yields_of_does (does_act (exec_lpiEntry p s) hs hm) (lpiEntered_sets s.m p.val)
  · refine does_act (exec_lpiEntry p s) hs ?_
    rw [lpiEntry_idle hup heee hlo hhi hlpi htx howed hidle, if_pos hsome]

end Sys2Proof.Machine
end

section
/-! SUPPORT. Negotiation, training, link-up and link-down (R43 to R46, R181): the fields of PRT_PORT_STATUS and PRT_PORT_EVENT that each of
them writes. -/

namespace Sys2Proof.Machine

/-! ### What lanes show apart -/

theorem laneless_get {m n : Mod} (h : Keeps laneless m n) {f : Fld} (i : Nat) (he : evtReg f.reg = false) (hl : f.reg ≠ .PRT_LANE_STATUS) :
    n.get f i = m.get f i := congrArg f.of ((keeps_laneless_iff.1 h).2 f.reg i he hl)

theorem laneless_flag {m n : Mod} (h : Keeps laneless m n) {f : Fld} (i : Nat) (he : evtReg f.reg = false) (hl : f.reg ≠ .PRT_LANE_STATUS) :
    n.flag f i = m.flag f i := congrArg (· == 1) (laneless_get h i he hl)

theorem laneless_part {β : Type} {m n : Mod} (h : Keeps laneless m n) (g : Mod → β) : g n.quiet = g m.quiet :=
  congrArg g (keeps_laneless_iff.1 h).1

theorem laneless_buf {m n : Mod} (h : Keeps laneless m n) : n.buf = m.buf := laneless_part h Mod.buf

theorem laneless_prt {m n : Mod} (h : Keeps laneless m n) : n.prt = m.prt := laneless_part h Mod.prt

theorem laneless_fwd {m n : Mod} (h : Keeps laneless m n) : n.fwd = m.fwd := laneless_part h Mod.fwd

theorem laneless_time {m n : Mod} (h : Keeps laneless m n) : n.time = m.time := laneless_part h Mod.time

theorem laneless_set (m : Mod) (f : Fld) (l v : Nat) (hf : f.reg = .PRT_LANE_STATUS) : Keeps laneless m (m.set f l v) :=
  keeps_laneless_iff.2 ⟨by simp [Mod.quiet], fun r i _ hr => rd_set_ne m f r l i v (hf ▸ apart_lane_status r hr)⟩

/-- The signal and lock bits of a group of lanes. -/
theorem laneless_setLanes (m : Mod) (lanes : List Nat) (v : Nat) :
    Keeps laneless m (lanes.foldl (fun m l => (m.set PRT_LANE_STATUS_SIGNAL l v).set PRT_LANE_STATUS_CDR_LOCK l v) m) :=
  Keeps.foldl _ (fun m l => (laneless_set m PRT_LANE_STATUS_SIGNAL l v rfl).trans (laneless_set _ PRT_LANE_STATUS_CDR_LOCK l v rfl)) _ m

/-! ### Negotiation and training -/

theorem linking_keeps {m n : Mod} {p : Nat} (hstate : n.get PRT_PORT_STATUS_STATE p = m.get PRT_PORT_STATUS_STATE p)
    (htest : n.prt.testing = m.prt.testing) : n.linking p = m.linking p := by
  unfold Mod.linking
  rw [hstate, htest]

/-- A negotiation that fails after its second (R43, R44). -/
theorem anRestart_fails {m : Mod} {p : Nat} (hlink : m.linking p = true) (hen : m.flag PRT_PORT_CFG_AN_EN p = true)
    (hdone : m.flag PRT_PORT_STATUS_AN_DONE p = false) (hpast : lookupD m.prt.anRetry p 0 ≤ m.now) :
    (m.anRestart p).flag PRT_PORT_STATUS_AN_FAIL p = true ∧ lookup (m.anRestart p).prt.anRetry p = some (m.now + oneSecond) ∧
    (m.anRestart p).linking p = true ∧ (m.anRestart p).buf = m.buf ∧ (m.anRestart p).time = m.time := by
  have heq : m.anRestart p =
      (m.set PRT_PORT_STATUS_AN_FAIL p 1).withPrt { m.prt with anRetry := store m.prt.anRetry p (m.now + oneSecond) } := by
    unfold Mod.anRestart
    rw [if_pos ⟨hlink, hen, hdone⟩, advanceTo_past hpast]
  rw [heq]
  refine ⟨flag_set_bit m p 1 rfl, lookup_store_self _ p _, ?_, by simp, by simp⟩
  exact (linking_keeps (get_set_clear m p 1 (by decide)) (by simp)).trans hlink

/-- A negotiation that completes (R43). -/
theorem anDone_completes {m : Mod} {p : Nat} (hlink : m.linking p = true) (hen : m.flag PRT_PORT_CFG_AN_EN p = true) :
    (m.anDone p).flag PRT_PORT_STATUS_AN_DONE p = true ∧ (m.anDone p).flag PRT_PORT_STATUS_AN_FAIL p = false ∧
    lookup (m.anDone p).prt.anRetry p = none ∧ (m.anDone p).linking p = true ∧ (m.anDone p).buf = m.buf ∧ (m.anDone p).time = m.time := by
  have heq : m.anDone p = ((m.set PRT_PORT_STATUS_AN_DONE p 1).set PRT_PORT_STATUS_AN_FAIL p 0).withPrt
      { m.prt with anRetry := remove m.prt.anRetry p } := by
    unfold Mod.anDone
    rw [if_pos ⟨hlink, hen⟩]
  rw [heq]
  refine ⟨?_, flag_set_bit _ p 0 rfl, by simp [lookup_remove], ?_, by simp, by simp⟩
  · exact (flag_set_clear _ p 0 (by decide)).trans (flag_set_bit m p 1 rfl)
  · refine (linking_keeps ?_ (by simp)).trans hlink
    exact (get_set_clear _ p 0 (by decide)).trans (get_set_clear m p 1 (by decide))

/-- A lane that does not train, after the negotiation (R45). -/
theorem trainingFail_counts {m : Mod} {p lane : Nat} (hlink : m.linking p = true) (hlt : m.flag PRT_PORT_CFG_LT_EN p = true)
    (hlane : (groupOf p (m.portType p)).contains lane = true)
    (han : m.flag PRT_PORT_CFG_AN_EN p = true → m.flag PRT_PORT_STATUS_AN_DONE p = true) :
    (m.trainingFail p lane).flag PRT_PORT_EVENT_LINK_DOWN p = true ∧ (m.trainingFail p lane).flag PRT_PORT_STATUS_AN_DONE p = false ∧
    (m.trainingFail p lane).flag PRT_PORT_STATUS_LT_DONE p = false := by
  unfold Mod.trainingFail
  rw [if_pos ⟨hlink, hlt, han, hlane⟩]
  extract_lets n
  have told := (told_bump (n.sqc PRT_PORT_EVENT_LINK_DOWN p) (n.prtCtr p 103) 1).trans (told_prtEvent _ 0x02 p 3 false)
  refine ⟨?_, ?_, ?_⟩
  · exact (told.flag p rfl).trans (flag_sqc_bit n p rfl)
  · refine (told.flag p rfl).trans ((flag_sqc_clear n p rfl (by decide) (by decide)).trans ?_)
    exact (flag_set_clear _ p 0 (by decide)).trans (flag_set_bit _ p 0 rfl)
  · refine (told.flag p rfl).trans ((flag_sqc_clear n p rfl (by decide) (by decide)).trans ?_)
    exact flag_set_bit _ p 0 rfl

/-! ### Link-up -/

/-- The class and port shapers that start change the scheduler alone (R181). -/
theorem keeps_shapersStart {α : Type} {g : Mod → α} (h : ∀ m x, Keeps g m (m.withSch x)) (m : Mod) (p : Nat) :
    Keeps g m (m.shapersStart p) := by
  unfold Mod.shapersStart
  extract_lets n
  have hn : Keeps g m n := Keeps.foldl _ (fun m c => h m _) _ m
  exact hn.trans (h n _)

theorem linkUp_up {m : Mod} {p : Nat} (hlink : m.linking p = true)
    (han : m.flag PRT_PORT_CFG_AN_EN p = false ∨ m.flag PRT_PORT_STATUS_AN_DONE p = true) :
    (m.linkUp p).portUp p = true ∧ (m.linkUp p).flag PRT_PORT_STATUS_SIGNAL p = true ∧
    (m.linkUp p).flag PRT_PORT_STATUS_PCS_LOCK p = true ∧ (m.linkUp p).flag PRT_PORT_STATUS_LINK_FAULT p = false ∧
    (m.linkUp p).flag PRT_PORT_EVENT_LINK_UP p = true ∧ lookup (m.linkUp p).prt.idleSince p = some m.now ∧
    (m.linkUp p).buf = m.buf ∧ (m.linkUp p).fwd = m.fwd := by
  unfold Mod.linkUp
  rw [if_neg (by rcases han with h | h <;> simp [hlink, h])]
  extract_lets m1 m2 m3 m4 m5 _ m6
  have hlanes : Keeps laneless m3 m4 := laneless_setLanes m3 _ 1
  obtain ⟨n, hn⟩ : ∃ n, n = (m4.set PRT_PORT_STATUS_LINK_FAULT p 0).set PRT_PORT_STATUS_STATE p 2 := ⟨_, rfl⟩
  have shapers {α : Type} {g : Mod → α} (h : ∀ m x, Keeps g m (m.withSch x)) : Keeps g n m5 := hn ▸ keeps_shapersStart h _ p
  have hregs : m6.regs = n.regs := (withPrt_regs m5 _).trans (shapers (g := Mod.regs) withSch_regs)
  have told := told_prtEvent (m6.sqc PRT_PORT_EVENT_LINK_UP p) 0x01 p 0 false
  have hget (f : Fld) (hf : f.reg = .PRT_PORT_STATUS) : ((m6.sqc PRT_PORT_EVENT_LINK_UP p).prtEvent 0x01 p 0).get f p = n.get f p := by
    rw [told.get p (by rw [hf]; rfl), get_sqc_ne _ _ _ _ _ (by rw [hf]; rfl), get_of_regs hregs]
  have hflag (f : Fld) (hf : f.reg = .PRT_PORT_STATUS) : ((m6.sqc PRT_PORT_EVENT_LINK_UP p).prtEvent 0x01 p 0).flag f p = n.flag f p :=
    congrArg (· == 1) (hget f hf)
  have hsignal (f : Fld) (hf : f.reg = .PRT_PORT_STATUS) (h1 : PRT_PORT_STATUS_LINK_FAULT.clearOf f = true)
      (h2 : PRT_PORT_STATUS_STATE.clearOf f = true) (h3 : PRT_PORT_STATUS_LT_DONE.clearOf f = true)
      (h4 : PRT_PORT_STATUS_FEC_LOCK.clearOf f = true) : n.flag f p = m1.flag f p := by
    rw [hn, flag_set_clear _ _ _ h2, flag_set_clear _ _ _ h1, laneless_flag hlanes p (by rw [hf]; rfl) (by rw [hf]; decide),
      flag_set_clear _ _ _ h3, flag_set_clear _ _ _ h4]
  have hparts {β : Type} {g : Mod → β} (hset : ∀ m f i v, g (m.set f i v) = g m) (hsch : ∀ m x, g (m.withSch x) = g m)
      (hlane : g m4 = g m3) : g m5 = g m := by
    rw [shapers hsch, hn, hset, hset, hlane, hset, hset, hset, hset]
  have hnow : m5.now = m.now := congrArg TimeSt.cycles (hparts set_time withSch_time (laneless_time hlanes))
  refine ⟨?_, ?_, ?_, ?_, ?_, ?_, ?_, ?_⟩
  · unfold Mod.portUp
    rw [hget _ rfl, hn, get_set _ _ _ _ (by decide)]
    rfl
  · rw [hflag _ rfl, hsignal _ rfl (by decide) (by decide) (by decide) (by decide), flag_set_clear _ _ _ (by decide), flag_set_bit _ _ _ rfl]
    rfl
  · rw [hflag _ rfl, hsignal _ rfl (by decide) (by decide) (by decide) (by decide), flag_set_bit _ _ _ rfl]
    rfl
  · rw [hflag _ rfl, hn, flag_set_clear _ _ _ (by decide), flag_set_bit _ _ _ rfl]
    rfl
  · exact (told.flag p rfl).trans (flag_sqc_bit m6 p rfl)
  · rw [told.prt, sqc_prt, withPrt_prt, hnow]
    exact lookup_store_self _ p _
  · rw [told.buf, sqc_buf, withPrt_buf]
    exact hparts set_buf withSch_buf (laneless_buf hlanes)
  · rw [told.fwd, sqc_fwd, withPrt_fwd]
    exact hparts set_fwd withSch_fwd (laneless_fwd hlanes)

/-! ### Link-down -/

theorem restState_lt (m : Mod) (p : Nat) : m.restState p < 8 := by
  unfold Mod.restState
  split
  · decide
  · split
    · decide
    · split
      · decide
      · split
        · decide
        · decide
        · decide

/-- The bits that a port that leaves the up state shows no more; its state is another field. -/
theorem clearLink_bits (m : Mod) (p : Nat) :
    (m.clearLink p true).get PRT_PORT_STATUS_STATE p = m.get PRT_PORT_STATUS_STATE p ∧
    (m.clearLink p true).flag PRT_PORT_STATUS_PCS_LOCK p = false ∧ (m.clearLink p true).flag PRT_PORT_STATUS_AN_DONE p = false := by
  unfold Mod.clearLink
  rw [if_pos rfl]
  simp only [List.foldl_cons, List.foldl_nil]
  have hlanes (n : Mod) (l : List Nat) := laneless_setLanes n l 0
  rw [laneless_get (hlanes _ _) p rfl (by decide), laneless_flag (hlanes _ _) p rfl (by decide), laneless_flag (hlanes _ _) p rfl (by decide)]
  simp (disch := decide) only [get_set_clear, flag_set_clear, flag_set_bit]
  decide

theorem clearLink_apart (m : Mod) (p : Nat) (on : Bool) {f : Fld} (i : Nat) (he : evtReg f.reg = false)
    (hs : f.reg.apart .PRT_PORT_STATUS = true) (hl : f.reg ≠ .PRT_LANE_STATUS) : (m.clearLink p on).get f i = m.get f i := by
  have hset (m : Mod) (g : Fld) (hg : g.reg = .PRT_PORT_STATUS) : (m.set g p 0).get f i = m.get f i := get_set_ne m g f p i 0 (hg ▸ hs)
  unfold Mod.clearLink
  simp only [List.foldl_cons, List.foldl_nil]
  cases on with
  | false => rw [if_neg (by decide)]; simp (disch := decide) only [hset]
  | true => rw [if_pos rfl, laneless_get (laneless_setLanes _ _ 0) i he hl]; simp (disch := decide) only [hset]

theorem clearLink_fwd (m : Mod) (p : Nat) (on : Bool) : (m.clearLink p on).fwd = m.fwd := by
  unfold Mod.clearLink
  simp only [List.foldl_cons, List.foldl_nil]
  cases on with
  | false => rw [if_neg (by decide)]; simp only [set_fwd]
  | true => rw [if_pos rfl, laneless_fwd (laneless_setLanes _ _ 0)]; simp only [set_fwd]

theorem flushOnDown_off {m : Mod} {p : Nat} (h : m.flag FDB_PORT_CFG_FLUSH_ON_DOWN p = false) : m.flushOnDown p = m := by
  unfold Mod.flushOnDown
  exact if_neg (by simp [h])

/-- A port leaves the up state, where no flush of the FDB is asked for: what its discards, its charges and its XOFF signals leave of the
link is what the loss shows (R46, R112). -/
theorem leaveUp_shows {m : Mod} {p : Nat} (hflush : m.flag FDB_PORT_CFG_FLUSH_ON_DOWN p = false) {q : Nat} (hq : q ≠ 2) (code : Nat) :
    (m.leaveUp p q code).get PRT_PORT_STATUS_STATE p = m.restState p ∧ (m.leaveUp p q code).linked p = false ∧
    (m.leaveUp p q code).flag PRT_PORT_STATUS_AN_DONE p = false ∧ (m.leaveUp p q code).flag PRT_PORT_EVENT_LINK_DOWN p = true ∧
    (m.leaveUp p q code).fwd.fdb = m.fwd.fdb := by
  unfold Mod.leaveUp
  rw [show (q != 2) = true from by simpa using hq]
  extract_lets m1 m2
  obtain ⟨n, hn⟩ : ∃ n, n = m1.sqc PRT_PORT_EVENT_LINK_DOWN p := ⟨_, rfl⟩
  have told : Told n m2 := hn ▸ (told_bump _ _ 1).trans (told_prtEvent _ 0x02 p q false)
  obtain ⟨hstate, hlock, hdone⟩ := clearLink_bits (m.set PRT_PORT_STATUS_STATE p (m.restState p)) p
  have hstatus (f : Fld) (hf : f.reg = .PRT_PORT_STATUS) : m2.get f p = m1.get f p := by
    rw [told.get p (by rw [hf]; rfl), hn, get_sqc_ne _ _ _ _ _ (by rw [hf]; rfl)]
  have hcfg : m2.flag FDB_PORT_CFG_FLUSH_ON_DOWN p = false := by
    have h : m2.get FDB_PORT_CFG_FLUSH_ON_DOWN p = m.get FDB_PORT_CFG_FLUSH_ON_DOWN p := by
      rw [told.get p rfl, hn, get_sqc_ne _ _ _ _ _ rfl]
      exact (clearLink_apart _ p true p rfl rfl (by decide)).trans (get_set_ne m _ _ p p _ rfl)
    exact (congrArg (· == 1) h).trans hflush
  have hfdb : m2.fwd.fdb = m.fwd.fdb := by
    rw [told.fwd, hn, sqc_fwd]
    exact congrArg FwdSt.fdb ((clearLink_fwd _ p true).trans (set_fwd m _ p _))
  have flushed := discards_linkShown.flushQueued m2 p code fun _ => true
  obtain ⟨-, -, -, -, hfdbcfg, -⟩ := keeps_linkShown_iff.1 flushed
  rw [flushOnDown_off ((congrArg (fun w => FDB_PORT_CFG_FLUSH_ON_DOWN.of w == 1) (hfdbcfg p)).trans hcfg)]
  obtain ⟨hs, hl, ha, he, -, hf⟩ := keeps_linkShown_iff.1 (flushed.trans (discards_linkShown.xoffUpdate _))
  have hevent : m2.flag PRT_PORT_EVENT_LINK_DOWN p = true := (told.flag p rfl).trans (hn ▸ flag_sqc_bit m1 p rfl)
  refine ⟨?_, ?_, ?_, ?_, hf.trans hfdb⟩
  · rw [hs, hstatus _ rfl, hstate, get_set _ _ _ _ (by decide)]
    exact Nat.mod_eq_of_lt (restState_lt m p)
  · exact (congrArg (· == 1) ((hl p).trans (hstatus _ rfl))).trans hlock
  · exact (congrArg (· == 1) ((ha p).trans (hstatus _ rfl))).trans hdone
  · exact (congrArg (fun w => PRT_PORT_EVENT_LINK_DOWN.of w == 1) (he p)).trans hevent

/-! ### The obligation -/

/-- Settles O24: each case is the chain of fields its event writes; that an event at a port in another state changes nothing is
log 4's choice. -/
theorem linkComesUpAndGoesDown : Obligations.LinkComesUpAndGoesDown := by
  refine ⟨fun s p hs hlink => ⟨fun hen hdone hpast => ?_, fun hen => ?_, fun han => ?_, fun hen hdone => ?_, fun lane hen hdone => ?_,
    fun lane hlt hlane han => ?_⟩, fun s p lane hs hlink => ⟨?_, ?_, ?_, ?_⟩, fun s p why hs => ⟨fun hdown hlock => ?_,
    fun hup hwhy hflush => ?_⟩⟩
  · exact yields_of_does (does_act (exec_anRestart p s) hs rfl) (anRestart_fails hlink hen hdone hpast)
  · exact yields_of_does (does_act (exec_anDone p s) hs rfl) (anDone_completes hlink hen)
  · exact yields_of_does (does_act (exec_linkUp p s) hs rfl) (linkUp_up hlink han)
  · exact does_act (exec_linkUp p s) hs (if_pos (.inr ⟨hen, hdone⟩))
  · exact does_act (exec_trainingFail p lane s) hs (if_neg (by simp [hen, hdone]))
  · exact yields_of_does (does_act (exec_trainingFail p lane s) hs rfl) (trainingFail_counts hlink hlt hlane han)
  · exact does_act (exec_anRestart p s) hs (if_neg (by simp [hlink]))
  · exact does_act (exec_anDone p s) hs (if_neg (by simp [hlink]))
  · exact does_act (exec_trainingFail p lane s) hs (if_neg (by simp [hlink]))
  · exact does_act (exec_linkUp p s) hs (if_pos (.inl hlink))
  · exact does_act (exec_linkDown p why s) hs (if_neg (by simp [hdown, hlock]))
  · have hm : s.m.linkDown p.val why = s.m.leaveUp p.val 1 9 := by
      rw [hwhy]
      exact if_pos hup
    refine yields_of_does (does_act (exec_linkDown p why s) hs hm) ?_
    exact leaveUp_shows hflush (by decide) 9

end Sys2Proof.Machine
end

section
/-! SUPPORT. Drains that end, wakes and the loopback tests of lanes (R57 to R60, R65, R161): what each leaves of the unit's state and of
the requests in progress. -/

namespace Sys2Proof.Machine

/-! ### The state of a port at rest -/

/-- The state of a port at rest is told by its configuration, its lanes and its tile. -/
theorem restState_of_rd {m n : Mod} (h : ∀ r ∈ [Reg.PRT_PORT_CFG, .PRT_LANE_STATUS, .PRT_TILE_STATUS], ∀ i, n.rd r i = m.rd r i) (p : Nat) :
    n.restState p = m.restState p := by
  have hget (f : Fld) (hf : f.reg ∈ [Reg.PRT_PORT_CFG, .PRT_LANE_STATUS, .PRT_TILE_STATUS]) (i : Nat) : n.get f i = m.get f i :=
    congrArg f.of (h f.reg hf i)
  have hretired : n.portRetired p = m.portRetired p := by
    unfold Mod.portRetired Mod.portType Mod.flag
    simp (disch := decide) only [hget]
  unfold Mod.restState Mod.portType
  rw [hretired]
  simp (disch := decide) only [hget]

theorem restState_of_regs {m n : Mod} (h : n.regs = m.regs) (p : Nat) : n.restState p = m.restState p :=
  restState_of_rd (fun r _ i => rd_of_regs h r i) p

theorem rest_unlinked_eq {m : Mod} {p : Nat} (h : m.linked p = false) (code : Nat) : m.rest p code =
    ((m.set PRT_PORT_STATUS_STATE p (m.restState p)).set PRT_PORT_STATUS_AN_DONE p 0).set PRT_PORT_STATUS_LT_DONE p 0 :=
  if_neg (by simp [h])

/-- A port without its link that rests shows its state of rest (R57). -/
theorem rest_unlinked {m : Mod} {p : Nat} (h : m.linked p = false) (code : Nat) :
    (m.rest p code).get PRT_PORT_STATUS_STATE p = m.restState p ∧ (m.rest p code).prt = m.prt ∧ (m.rest p code).buf = m.buf ∧
    (m.rest p code).fwd = m.fwd := by
  rw [rest_unlinked_eq h]
  refine ⟨?_, by simp, by simp, by simp⟩
  rw [get_set_clear _ _ _ (by decide), get_set_clear _ _ _ (by decide), get_set _ _ _ _ (by decide)]
  exact Nat.mod_eq_of_lt (restState_lt m p)

/-! ### Drains -/

theorem drainEvent_rd (m : Mod) (code t : Nat) (r : Reg) (i : Nat) (he : evtReg r = false) (hr : r.apart .BUF_EVENT = true) :
    (m.drainEvent code t).rd r i = m.rd r i :=
  ((told_drainEvent m code t).2 r i he).trans (rd_sqc_ne m BUF_EVENT_DRAIN r 0 i hr)

theorem drainEvent_prt (m : Mod) (code t : Nat) : (m.drainEvent code t).prt = m.prt :=
  (told_drainEvent m code t).prt.trans (sqc_prt m _ 0)

theorem drainEvent_buf (m : Mod) (code t : Nat) : (m.drainEvent code t).buf = m.buf :=
  (told_drainEvent m code t).buf.trans (sqc_buf m _ 0)

theorem drainEvent_restState (m : Mod) (code t p : Nat) : (m.drainEvent code t).restState p = m.restState p :=
  restState_of_rd (fun r hr i => drainEvent_rd m code t r i
    ((by decide : ∀ r ∈ [Reg.PRT_PORT_CFG, .PRT_LANE_STATUS, .PRT_TILE_STATUS], evtReg r = false) r hr)
    ((by decide : ∀ r ∈ [Reg.PRT_PORT_CFG, .PRT_LANE_STATUS, .PRT_TILE_STATUS], r.apart .BUF_EVENT = true) r hr)) p

/-- A port's drain that ends (R161). -/
theorem drainEnds_port {m : Mod} {p : Fin 128} (d : Drain) (code : Nat) (h : m.linked p.val = false) :
    (m.drainEnds (.port p) d code).get PRT_PORT_STATUS_STATE p.val = m.restState p.val ∧
    lookup (m.drainEnds (.port p) d code).prt.portDrain p.val = none ∧ (m.drainEnds (.port p) d code).buf = m.buf := by
  obtain ⟨n, hn⟩ : ∃ n, n = (m.drainEvent code (tileOf p.val)).withPrt
      { (m.drainEvent code (tileOf p.val)).prt with portDrain := remove (m.drainEvent code (tileOf p.val)).prt.portDrain p.val } := ⟨_, rfl⟩
  have heq : m.drainEnds (.port p) d code = n.rest p.val 10 := by rw [hn]; rfl
  have hregs : n.regs = (m.drainEvent code (tileOf p.val)).regs := by rw [hn, withPrt_regs]
  have hlink : n.linked p.val = false := by
    have hrd := (rd_of_regs hregs .PRT_PORT_STATUS p.val).trans (drainEvent_rd m code (tileOf p.val) _ p.val rfl rfl)
    exact (congrArg (fun w => PRT_PORT_STATUS_PCS_LOCK.of w == 1) hrd).trans h
  obtain ⟨hstate, hprt, hbuf, -⟩ := rest_unlinked hlink 10
  rw [heq, hstate, hprt, hbuf, restState_of_regs hregs, drainEvent_restState, hn]
  exact ⟨rfl, by simp [lookup_remove], (withPrt_buf _ _).trans (drainEvent_buf m code _)⟩

theorem setTile_prt (m : Mod) (t state : Nat) : (m.setTile t state).prt = m.prt := by
  unfold Mod.setTile
  exact Keeps.ite _ (Keeps.refl (g := Mod.prt) m) (by simp [Keeps])

theorem setTile_buf (m : Mod) (t state : Nat) : (m.setTile t state).buf = m.buf := by
  unfold Mod.setTile
  exact Keeps.ite _ (Keeps.refl (g := Mod.buf) m) (by simp [Keeps])

theorem setTile_rd (m : Mod) (t state : Nat) (r : Reg) (i : Nat) (he : evtReg r = false) (hs : r.apart .PRT_TILE_STATUS = true)
    (hv : r.apart .PRT_TILE_EVENT = true) : (m.setTile t state).rd r i = m.rd r i := by
  unfold Mod.setTile
  split
  · rfl
  · exact ((told_event _ _).2 r i he).trans ((rd_sqc_ne _ PRT_TILE_EVENT_STATE_CHANGE r t i hv).trans
      (rd_set_ne m PRT_TILE_STATUS_STATE r t i state hs))

/-- A tile with no port of a type stops alone. -/
theorem tileStops_empty {m : Mod} {t : Nat} (h : ∀ p ∈ tilePorts t, m.portType p = 0) (state : Nat) :
    m.tileStops t state = (m.withPrt { m.prt with tileDrain := remove m.prt.tileDrain t }).setTile t state := by
  unfold Mod.tileStops
  extract_lets _ n
  have htype (p : Nat) (hp : p ∈ tilePorts t) : n.portType p = 0 := by
    have hrd := setTile_rd (m.withPrt { m.prt with tileDrain := remove m.prt.tileDrain t }) t state .PRT_PORT_CFG p rfl rfl rfl
    exact (congrArg PRT_PORT_CFG_TYPE.of (hrd.trans (rd_of_regs (withPrt_regs m _) _ p))).trans (h p hp)
  have hfold (l : List Nat) (hl : ∀ p ∈ l, n.portType p = 0) : l.foldl (fun m p =>
      if m.portType p = 0 then m else (m.withPrt { m.prt with portDrain := remove m.prt.portDrain p }).rest p 10) n = n := by
    induction l with
    | nil => rfl
    | cons p l ih =>
      rw [List.foldl_cons, if_pos (hl p List.mem_cons_self)]
      exact ih fun q hq => hl q (List.mem_cons_of_mem p hq)
  exact hfold _ htype

/-- A tile's drain that ends, of whose ports none has a type (R161). -/
theorem drainEnds_tile {m : Mod} {t : Fin 8} {d : Drain} (code : Nat) (htype : ∀ p ∈ tilePorts t.val, m.portType p = 0) (hd : d.target < 8) :
    (m.drainEnds (.tile t) d code).get PRT_TILE_STATUS_STATE t.val = d.target ∧
    lookup (m.drainEnds (.tile t) d code).prt.tileDrain t.val = none ∧ (m.drainEnds (.tile t) d code).flag BUF_EVENT_DRAIN = true ∧
    (m.drainEnds (.tile t) d code).buf = m.buf := by
  obtain ⟨n, hn⟩ : ∃ n, n = m.drainEvent code t.val := ⟨_, rfl⟩
  have htype' (p : Nat) (hp : p ∈ tilePorts t.val) : n.portType p = 0 :=
    (congrArg PRT_PORT_CFG_TYPE.of (hn ▸ drainEvent_rd m code t.val .PRT_PORT_CFG p rfl rfl)).trans (htype p hp)
  have heq : m.drainEnds (.tile t) d code = (n.withPrt { n.prt with tileDrain := remove n.prt.tileDrain t.val }).setTile t.val d.target := by
    rw [← tileStops_empty htype', hn]
    rfl
  have told : Told (m.sqc BUF_EVENT_DRAIN) n := hn ▸ told_drainEvent m code t.val
  have hdrain : n.flag BUF_EVENT_DRAIN = true := (told.flag 0 rfl).trans (flag_sqc_bit m 0 rfl)
  rw [heq, setTile_prt, setTile_buf, withPrt_buf, hn, drainEvent_buf, ← hn]
  refine ⟨setTile_state _ _ _ hd, by simp [lookup_remove], ?_, rfl⟩
  have hrd := (setTile_rd (n.withPrt { n.prt with tileDrain := remove n.prt.tileDrain t.val }) t.val d.target .BUF_EVENT 0 rfl rfl rfl).trans
    (rd_of_regs (withPrt_regs n _) _ 0)
  exact (congrArg (fun w => BUF_EVENT_DRAIN.of w == 1) hrd).trans hdrain

/-! ### Wakes -/

/-- A request joins the wake in progress (R58). -/
theorem portWakeReq_joins {m : Mod} {p : Nat} {w : Wake} (h : lookup m.prt.portWake p = some w) (host : Bool) :
    lookup (m.portWakeReq p host).prt.portWake p = some { w with host := w.host || host, remote := w.remote || !host } ∧
    (m.portWakeReq p host).buf = m.buf := by
  unfold Mod.portWakeReq
  rw [h]
  exact ⟨lookup_store_self _ p _, rfl⟩

/-- A wake of port p that a request begins: the request is recorded, with the time of the first one (R58). -/
def Mod.wakeBegun (m : Mod) (p : Nat) (host : Bool) : Mod :=
  (m.withPrt { m.prt with portWake := store m.prt.portWake p { since := m.now, host := host, remote := !host } }).wr .PRT_WAKE_TIME p
    (wakeTime m.time.net)

theorem portWakeReq_none {m : Mod} {p : Nat} (h : lookup m.prt.portWake p = none) (host : Bool) : m.portWakeReq p host =
    if (m.wakeBegun p host).get PRT_TILE_STATUS_STATE (tileOf p) = 0 then (m.wakeBegun p host).set PRT_PORT_STATUS_STATE p 4
    else m.wakeBegun p host := by
  unfold Mod.portWakeReq
  rw [h]
  rfl

theorem wakeBegun_shows (m : Mod) (p : Nat) (host : Bool) :
    lookup (m.wakeBegun p host).prt.portWake p = some ⟨m.now, host, !host⟩ ∧
    (m.wakeBegun p host).rd .PRT_WAKE_TIME p = wakeTime m.time.net ∧ (m.wakeBegun p host).buf = m.buf := by
  unfold Mod.wakeBegun
  refine ⟨?_, rd_wr _ .PRT_WAKE_TIME p _, ?_⟩
  · rw [wr_prt]
    exact lookup_store_self _ p _
  · rw [wr_buf, withPrt_buf]

/-- A request begins a wake (R58). -/
theorem portWakeReq_begins {m : Mod} {p : Nat} (h : lookup m.prt.portWake p = none) (host : Bool) :
    lookup (m.portWakeReq p host).prt.portWake p = some ⟨m.now, host, !host⟩ ∧
    (m.portWakeReq p host).rd .PRT_WAKE_TIME p = wakeTime m.time.net ∧ (m.portWakeReq p host).buf = m.buf := by
  rw [portWakeReq_none h]
  split
  · rw [set_prt, set_buf, rd_set_ne _ _ _ _ _ _ rfl]
    exact wakeBegun_shows m p host
  · exact wakeBegun_shows m p host

/-- A drain whose unit has no copy queued ends (R161). -/
theorem drainDone_ends {m : Mod} {u : PortOrTile} {d : Drain} (hd : m.drainOf u = some d)
    (hq : ((unitDests u).all fun p => m.queuedTo p == 0) = true) : m.drainDone u = m.drainEnds u d 0x03 := by
  unfold Mod.drainDone
  simp only [hd, hq, if_true]

theorem get_sqc_if (m : Mod) (c : Prop) [Decidable c] {f g : Fld} (i : Nat) (hb : f.isBit = true) (h : f.clearOf g = true)
    (hs : (seqField f.reg).clearOf g = true) : (if c then m.sqc f i else m).get g i = m.get g i := by
  split
  · exact get_sqc_clear m i hb h hs
  · rfl

theorem flag_sqc_if (m : Mod) (c : Prop) [Decidable c] {f g : Fld} (i : Nat) (hb : f.isBit = true) (h : f.clearOf g = true)
    (hs : (seqField f.reg).clearOf g = true) : (if c then m.sqc f i else m).flag g i = m.flag g i :=
  congrArg (· == 1) (get_sqc_if m c i hb h hs)

theorem flag_sqc_then (m : Mod) {c : Prop} [Decidable c] {f : Fld} (i : Nat) (hb : f.isBit = true) (hc : c) :
    (if c then m.sqc f i else m).flag f i = true := by
  rw [if_pos hc]
  exact flag_sqc_bit m i hb

/-- A wake of tile t that a request begins (R58). -/
def Mod.tileWakeBegun (m : Mod) (t : Nat) (host : Bool) : Mod :=
  (m.withPrt { m.prt with tileWake := store m.prt.tileWake t { since := m.now, host := host, remote := !host } }).wr .PRT_TILE_WAKE_TIME t
    (wakeTime m.time.net)

theorem tileWakeReq_none {m : Mod} {t : Nat} (h : lookup m.prt.tileWake t = none) (host : Bool) :
    m.tileWakeReq t host = (m.tileWakeBegun t host).setTile t 4 := by
  unfold Mod.tileWakeReq
  rw [h]
  rfl

theorem tileWakeReq_some {m : Mod} {t : Nat} {w : Wake} (h : lookup m.prt.tileWake t = some w) (host : Bool) :
    m.tileWakeReq t host = m.withPrt { m.prt with
      tileWake := store m.prt.tileWake t { w with host := w.host || host, remote := w.remote || !host } } := by
  unfold Mod.tileWakeReq
  rw [h]

theorem tileWakeBegun_prt (m : Mod) (t : Nat) (host : Bool) : (m.tileWakeBegun t host).prt =
    { m.prt with tileWake := store m.prt.tileWake t { since := m.now, host := host, remote := !host } } := wr_prt _ _ t _

theorem tileWakeBegun_buf (m : Mod) (t : Nat) (host : Bool) : (m.tileWakeBegun t host).buf = m.buf :=
  (wr_buf _ _ t _).trans (withPrt_buf m _)

/-- A tile's wake leaves those of its ports. -/
theorem tileWakeReq_portWake (m : Mod) (t : Nat) (host : Bool) :
    (m.tileWakeReq t host).prt.portWake = m.prt.portWake ∧ (m.tileWakeReq t host).buf = m.buf := by
  cases h : lookup m.prt.tileWake t with
  | some w =>
    rw [tileWakeReq_some h, withPrt_prt, withPrt_buf]
    exact ⟨rfl, rfl⟩
  | none =>
    rw [tileWakeReq_none h, setTile_prt, setTile_buf, tileWakeBegun_prt, tileWakeBegun_buf]
    exact ⟨rfl, rfl⟩

/-- Signal on a lane of a port whose wake is in progress joins that wake; a tile's wake that it begins is another's (R58, R59). -/
theorem remoteWake_joining {m : Mod} {lane p : Nat} (hport : m.portOfLane lane = some p) (h : (lookup m.prt.portWake p).isSome = true) :
    ∃ c : Bool, m.remoteWake lane = (if c = true then m.tileWakeReq (lane / 16) false else m).portWakeReq p false := by
  unfold Mod.remoteWake
  simp only [hport]
  exact ⟨_, if_pos (.inl h)⟩

theorem remoteWake_joins {m : Mod} {lane p : Nat} {w : Wake} (hport : m.portOfLane lane = some p) (h : lookup m.prt.portWake p = some w) :
    lookup (m.remoteWake lane).prt.portWake p = some { w with remote := true } ∧ (m.remoteWake lane).buf = m.buf := by
  obtain ⟨c, hc⟩ := remoteWake_joining hport (by rw [h]; rfl)
  obtain ⟨n, hn⟩ : ∃ n, n = if c = true then m.tileWakeReq (lane / 16) false else m := ⟨_, rfl⟩
  have hkept : n.prt.portWake = m.prt.portWake ∧ n.buf = m.buf := by
    rw [hn]
    split
    · exact tileWakeReq_portWake m (lane / 16) false
    · exact ⟨rfl, rfl⟩
  obtain ⟨hjoined, hbuf⟩ := portWakeReq_joins ((congrArg (lookup · p) hkept.1).trans h) false
  rw [hc, ← hn]
  exact ⟨by simpa using hjoined, hbuf.trans hkept.2⟩

/-- A wake completes at a port whose tile is on (R58). -/
theorem wakeDone_port {m : Mod} {p : Fin 128} {w : Wake} (h : lookup m.prt.portWake p.val = some w)
    (htile : m.get PRT_TILE_STATUS_STATE (tileOf p.val) = 0) :
    lookup (m.wakeDone (.port p)).prt.portWake p.val = none ∧
    (m.wakeDone (.port p)).get PRT_PORT_STATUS_STATE p.val = (if m.portRetired p.val then 5 else 1) ∧
    (m.wakeDone (.port p)).flag PRT_WAKE_STATUS_DONE p.val = true ∧
    (w.host = true → (m.wakeDone (.port p)).flag PRT_WAKE_STATUS_HOST_REQ p.val = true) ∧
    (w.remote = true → (m.wakeDone (.port p)).flag PRT_WAKE_STATUS_REMOTE_REQ p.val = true) ∧
    (m.wakeDone (.port p)).flag PRT_PORT_EVENT_WAKE_DONE p.val = true ∧ (m.wakeDone (.port p)).buf = m.buf := by
  unfold Mod.wakeDone
  simp -zeta only [h]
  rw [if_neg (by simp [htile])]
  extract_lets _ m1 m2 m3 m4 m5 m6
  have told : Told (m5.sqc PRT_PORT_EVENT_WAKE_DONE p.val) (m6.prtEvent 0x04 p.val (b01 w.host + 2 * b01 w.remote)) :=
    (told_bump _ _ 1).trans (told_prtEvent m6 _ _ _ false)
  have hwake (f : Fld) (hf : f.reg = .PRT_WAKE_STATUS) :
      (m6.prtEvent 0x04 p.val (b01 w.host + 2 * b01 w.remote)).flag f p.val = m5.flag f p.val := by
    rw [told.flag p.val (by rw [hf]; rfl)]
    exact congrArg (· == 1) (get_sqc_ne m5 _ f p.val p.val (by rw [hf]; rfl))
  have hprt : m5.prt = m1.prt := by
    have hif (n : Mod) (c : Prop) [Decidable c] (f : Fld) : (if c then n.sqc f p.val else n).prt = n.prt :=
      Keeps.ite (g := Mod.prt) c (sqc_prt n f p.val) rfl
    exact (hif _ _ _).trans ((hif _ _ _).trans ((sqc_prt _ _ _).trans (set_prt m1 _ _ _)))
  have hbuf : m5.buf = m1.buf := by
    have hif (n : Mod) (c : Prop) [Decidable c] (f : Fld) : (if c then n.sqc f p.val else n).buf = n.buf :=
      Keeps.ite (g := Mod.buf) c (sqc_buf n f p.val) rfl
    exact (hif _ _ _).trans ((hif _ _ _).trans ((sqc_buf _ _ _).trans (set_buf m1 _ _ _)))
  refine ⟨?_, ?_, ?_, fun hhost => ?_, fun hremote => ?_, ?_, ?_⟩
  · rw [told.prt, sqc_prt, hprt]
    simp [m1, lookup_remove]
  · have hif (n : Mod) (c : Prop) [Decidable c] (f : Fld) (hf : f.reg = .PRT_WAKE_STATUS) :
        (if c then n.sqc f p.val else n).get PRT_PORT_STATUS_STATE p.val = n.get PRT_PORT_STATUS_STATE p.val :=
      Keeps.ite (g := fun n => n.get PRT_PORT_STATUS_STATE p.val) c (get_sqc_ne n f _ p.val p.val (by rw [hf]; rfl)) rfl
    have h5 : m5.get PRT_PORT_STATUS_STATE p.val = m2.get PRT_PORT_STATUS_STATE p.val :=
      (hif m4 _ _ rfl).trans ((hif m3 _ _ rfl).trans (get_sqc_ne m2 _ _ _ _ rfl))
    rw [told.get p.val rfl, get_sqc_ne _ _ _ _ _ rfl, h5, get_set _ _ _ _ (by decide)]
    have hretired : m1.portRetired p.val = m.portRetired p.val := rfl
    rw [hretired]
    split
    · rfl
    · rfl
  · rw [hwake _ rfl, flag_sqc_if m4 _ _ (by decide) (by decide) (by decide), flag_sqc_if m3 _ _ (by decide) (by decide) (by decide)]
    exact flag_sqc_bit m2 _ (by decide)
  · rw [hwake _ rfl, flag_sqc_if m4 _ _ (by decide) (by decide) (by decide)]
    exact flag_sqc_then m3 _ (by decide) hhost
  · rw [hwake _ rfl]
    exact flag_sqc_then m4 _ (by decide) hremote
  · exact (told.flag p.val rfl).trans (flag_sqc_bit m5 _ (by decide))
  · rw [told.buf, sqc_buf, hbuf]
    rfl

/-! ### Loopback tests of lanes -/

/-- Lanes that are marked as tested read so (R65). -/
theorem testing_of_foldl (l : List Nat) (m : Mod) {j : Nat} (hj : j ∈ l ∨ m.flag PRT_LANE_STATUS_TESTING j = true) :
    (l.foldl (fun m l => m.set PRT_LANE_STATUS_TESTING l 1) m).flag PRT_LANE_STATUS_TESTING j = true := by
  induction l generalizing m with
  | nil => exact hj.resolve_left List.not_mem_nil
  | cons i t ih =>
    refine ih _ ?_
    rcases hj with hj | hj
    · rcases List.mem_cons.1 hj with rfl | ht
      · exact .inr (flag_set_bit m j 1 (by decide))
      · exact .inl ht
    · exact .inr (flag_set_one_mono m (by decide) (fun _ _ => rfl) (.inr hj))

theorem laneless_foldl_set (m : Mod) (f : Fld) (hf : f.reg = .PRT_LANE_STATUS) (v : Nat) (l : List Nat) :
    Keeps laneless m (l.foldl (fun m l => m.set f l v) m) := Keeps.foldl _ (fun m l => laneless_set m f l v hf) l m

/-- A lane whose bucket is at its threshold puts its port under test (R65). -/
theorem laneThreshold_tests {m : Mod} {lane p : Nat} (hport : m.portOfLane lane = some p)
    (hbucket : m.get INT_BUCKET_CFG_THRESH 0 ≤ m.bucket 0 lane) (hlink : m.linked p = false) :
    lookup (m.laneThreshold lane).prt.testing p = some (m.now + 100000000) ∧
    (∀ l ∈ groupOf p (m.portType p), (m.laneThreshold lane).flag PRT_LANE_STATUS_TESTING l = true) ∧
    (m.laneThreshold lane).buf = m.buf := by
  obtain ⟨n, hn⟩ : ∃ n, n = (groupOf p (m.portType p)).foldl (fun m l => m.set PRT_LANE_STATUS_TESTING l 1) m := ⟨_, rfl⟩
  have heq : m.laneThreshold lane = n.withPrt { n.prt with testing := store n.prt.testing p (n.now + 100000000) } := by
    unfold Mod.laneThreshold
    simp only [if_neg (Nat.not_lt.2 hbucket), hport, hlink, hn]
    rfl
  have hlanes : Keeps laneless m n := hn ▸ laneless_foldl_set m _ rfl 1 _
  rw [heq]
  refine ⟨?_, fun l hl => ?_, (withPrt_buf n _).trans (laneless_buf hlanes)⟩
  · rw [show m.now = n.now from congrArg TimeSt.cycles (laneless_time hlanes).symm]
    exact lookup_store_self _ p _
  · exact hn ▸ testing_of_foldl _ m (.inl hl)

/-- A test that finds no failing lane tells of a fault of the link (R65). -/
theorem laneTestDone_passes {m : Mod} {p : Nat} {failing : List Nat} (htest : (lookup m.prt.testing p).isSome = true)
    (hgood : ∀ l ∈ failing, l ∉ groupOf p (m.portType p)) :
    lookup (m.laneTestDone p failing).prt.testing p = none ∧ (m.laneTestDone p failing).flag PRT_PORT_STATUS_LINK_FAULT p = true ∧
    (m.laneTestDone p failing).flag PRT_PORT_EVENT_LINK_FAULT p = true ∧ (m.laneTestDone p failing).buf = m.buf := by
  have hnone : failing.filter (fun l => (groupOf p (m.portType p)).contains l) = [] :=
    List.filter_eq_nil_iff.2 fun l hl => by simpa using hgood l hl
  unfold Mod.laneTestDone
  rw [if_neg (by simpa [Option.isSome_iff_ne_none] using htest)]
  extract_lets lanes _ m1 bad m2
  rw [if_pos hnone]
  have h1 : Keeps laneless (m.withPrt { m.prt with testing := remove m.prt.testing p }) m1 := laneless_foldl_set _ _ rfl 0 _
  have h2 : Keeps laneless m1 m2 := Keeps.foldl _ (fun m l => laneless_setBucket m l 0) _ m1
  have hlanes := h1.trans h2
  have told := told_prtEvent ((m2.set PRT_PORT_STATUS_LINK_FAULT p 1).sqc PRT_PORT_EVENT_LINK_FAULT p) 0x06 p 0 false
  refine ⟨?_, ?_, ?_, ?_⟩
  · rw [told.prt, sqc_prt, set_prt, laneless_prt hlanes, withPrt_prt]
    simp [lookup_remove]
  · rw [told.flag p rfl, flag_sqc_clear _ _ (by decide) (by decide) (by decide)]
    exact flag_set_bit m2 p 1 (by decide)
  · exact (told.flag p rfl).trans (flag_sqc_bit _ p (by decide))
  · rw [told.buf, sqc_buf, set_buf, laneless_buf hlanes, withPrt_buf]

/-! ### The obligation -/

/-- Settles O25: each case is what its event leaves of the unit's state and of the requests in progress; that an event that cannot happen
changes nothing, and that DRAIN_LIMIT brings the time to its instant, is log 4's choice. -/
theorem drainsEndAndWakesComplete : Obligations.DrainsEndAndWakesComplete := by
  refine ⟨fun s u hs hnone => ⟨?_, ?_⟩, fun s u d hs hd => ⟨fun hq => ?_, fun hq t hu htype htarget => ?_, fun hq p hu hlink => ?_,
    fun hlimit => ?_⟩, fun s lane hs => ⟨fun hport => ?_, fun p hport hadmin hretired htile hstate hwake => ?_, fun p w hport hwake => ?_⟩,
    fun s p hs => ⟨fun hwake => ?_, fun w hwake htile => ?_⟩, fun s lane p hs hport hbucket hlink => ?_,
    fun s p failing hs => ⟨fun htest => ?_, fun htest hgood => ?_⟩⟩
  · refine does_act (exec_drainDone u s) hs ?_
    unfold Mod.drainDone
    rw [hnone]
  · refine does_act (exec_drainLimit u s) hs ?_
    unfold Mod.drainLimit
    rw [hnone]
  · refine does_act (exec_drainDone u s) hs ?_
    unfold Mod.drainDone
    simp only [hd, hq]
    rfl
  · have heq := drainDone_ends hd hq
    rw [show s.m.drainEnds u d 0x03 = s.m.drainEnds (.tile t) d 0x03 from congrArg (s.m.drainEnds · d 0x03) hu] at heq
    exact yields_of_does (does_act (exec_drainDone u s) hs heq) (drainEnds_tile 0x03 htype htarget)
  · have heq := drainDone_ends hd hq
    rw [show s.m.drainEnds u d 0x03 = s.m.drainEnds (.port p) d 0x03 from congrArg (s.m.drainEnds · d 0x03) hu] at heq
    exact yields_of_does (does_act (exec_drainDone u s) hs heq) (drainEnds_port d 0x03 hlink)
  · refine does_act (exec_drainLimit u s) hs ?_
    unfold Mod.drainLimit
    simp only [hd, advanceTo_past hlimit]
  · refine does_act (exec_remoteWake lane s) hs ?_
    unfold Mod.remoteWake
    rw [hport]
  · have heq : s.m.remoteWake lane.val = s.m.portWakeReq p false := by
      unfold Mod.remoteWake
      simp [hport, hadmin, hretired, htile, hstate, hwake]
    refine yields_of_does (does_act (exec_remoteWake lane s) hs heq) (portWakeReq_begins hwake false)
  · exact yields_of_does (does_act (exec_remoteWake lane s) hs rfl) (remoteWake_joins hport hwake)
  · refine does_act (exec_wakeDone (.port p) s) hs ?_
    unfold Mod.wakeDone
    simp only [hwake]
  · exact yields_of_does (does_act (exec_wakeDone (.port p) s) hs rfl) (wakeDone_port hwake htile)
  · exact yields_of_does (does_act (exec_laneThreshold lane s) hs rfl) (laneThreshold_tests hport hbucket hlink)
  · exact does_act (exec_laneTestDone p failing s) hs (if_pos (by simp [htest]))
  · refine yields_of_does (does_act (exec_laneTestDone p failing s) hs rfl) (laneTestDone_passes htest ?_)
    simpa using hgood

end Sys2Proof.Machine
end

section
/-! SUPPORT. Writes to PRT_PORT_CFG and PRT_TILE_CTL that reach the register: the fields of the word asked for, and what the drift from the
image (R402) leaves. -/

namespace Sys2Proof.Machine

/-! ### The word a write asks for -/

/-- Field g is one of those that a write of register r sets, apart from the others. -/
def settableField (r : Reg) (g : Fld) : Bool :=
  (settable r).any (fun f => decide (f.fld r = g)) && (settable r).all fun f =>
    decide ((f.fld r).lo + (f.fld r).width ≤ 64) && (decide (f.fld r = g) ||
      (decide ((f.fld r).lo + (f.fld r).width ≤ g.lo) || decide (g.lo + g.width ≤ (f.fld r).lo)))

theorem of_foldl_put (r : Reg) (v : Word) {g : Fld} (l : List FieldSpec) (w : Word)
    (hl : ∀ f ∈ l, (f.fld r).lo + (f.fld r).width ≤ 64 ∧
      (f.fld r = g ∨ (f.fld r).lo + (f.fld r).width ≤ g.lo ∨ g.lo + g.width ≤ (f.fld r).lo))
    (h : (∃ f ∈ l, f.fld r = g) ∨ g.of w = g.of v) : g.of (l.foldl (fun a f => (f.fld r).put a ((f.fld r).of v)) w) = g.of v := by
  induction l generalizing w with
  | nil => exact h.resolve_left (by simp)
  | cons f t ih =>
    obtain ⟨h64, hf⟩ := hl f List.mem_cons_self
    have hown (e : f.fld r = g) : g.of ((f.fld r).put w ((f.fld r).of v)) = g.of v := by
      rw [e] at h64 ⊢
      rw [of_put g w _ h64, of_mod]
    refine ih _ (fun x hx => hl x (List.mem_cons_of_mem f hx)) ?_
    rcases hf with hf | hd
    · exact .inr (hown hf)
    · rcases h with ⟨x, hx, hxg⟩ | hw
      · rcases List.mem_cons.1 hx with rfl | ht
        · exact .inr (hown hxg)
        · exact .inl ⟨x, ht, hxg⟩
      · exact .inr ((of_put_ne _ g w _ h64 hd).trans hw)

/-- A field that the write sets takes its value in the word written (R5). -/
theorem of_onto (path : Path) {r : Reg} {g : Fld} (j : Nat) (v old : Word) (h : settableField r g = true) :
    g.of ((wholeWrite path r j v).onto old) = g.of v := by
  simp only [settableField, Bool.and_eq_true, List.any_eq_true, List.all_eq_true, Bool.or_eq_true, decide_eq_true_eq] at h
  exact of_foldl_put r v (settable r) old h.2 (.inl h.1)

theorem of_lt (f : Fld) (w : Word) : f.of w < 2 ^ f.width := Nat.mod_lt _ (by positivity)

/-! ### What drift leaves -/

theorem DriftTold.part {β : Type} {m n : Mod} (h : DriftTold m n) (g : Mod → β) : g n.quiet = g m.quiet := congrArg g h.1

theorem DriftTold.prt {m n : Mod} (h : DriftTold m n) : n.prt = m.prt := h.part Mod.prt

theorem DriftTold.buf {m n : Mod} (h : DriftTold m n) : n.buf = m.buf := h.part Mod.buf

theorem DriftTold.fwd {m n : Mod} (h : DriftTold m n) : n.fwd = m.fwd := h.part Mod.fwd

theorem DriftTold.sch {m n : Mod} (h : DriftTold m n) : n.sch = m.sch := h.part Mod.sch

theorem DriftTold.cls {m n : Mod} (h : DriftTold m n) : n.cls = m.cls := h.part Mod.cls

/-- A register of the ports: none that an event or the drift from the image writes. -/
def portReg (r : Reg) : Bool := !(evtReg r) && decide (r ≠ .CFG_DRIFT) && decide (r ≠ .DMP_EVENT)

theorem DriftTold.rd {m n : Mod} (h : DriftTold m n) {r : Reg} (i : Nat) (hr : portReg r = true) : n.rd r i = m.rd r i := by
  simp only [portReg, Bool.and_eq_true, Bool.not_eq_true', decide_eq_true_eq] at hr
  exact h.2 r i hr.1.1 hr.1.2 hr.2

theorem DriftTold.get {m n : Mod} (h : DriftTold m n) {f : Fld} (i : Nat) (hf : portReg f.reg = true) : n.get f i = m.get f i :=
  congrArg f.of (h.rd i hf)

theorem DriftTold.flag {m n : Mod} (h : DriftTold m n) {f : Fld} (i : Nat) (hf : portReg f.reg = true) : n.flag f i = m.flag f i :=
  congrArg (· == 1) (h.get i hf)

/-! ### The write in its block -/

theorem blockWrite_tileCtl (m : Mod) (l : BitVec 5) (path : Path) (t : Nat) (v : Word) (x : Option Found) :
    (m.blockWrite l (wholeWrite path .PRT_TILE_CTL t v) x).2 =
      m.tileCtlWrite t ((wholeWrite path .PRT_TILE_CTL t v).onto (m.rd .PRT_TILE_CTL t)) := by
  unfold Mod.blockWrite
  exact congrArg Prod.snd (if_neg (show ¬ (settable .PRT_TILE_CTL).isEmpty = true by decide))

/-- A write to PRT_TILE_CTL that reaches the register does what R57 to R60 say, and shows as drift (R402). -/
theorem does_tileCtl {c : Instr} {s : State} {path : Path} {t : Nat} {v : Word} (hc : exec c s = s.put path .PRT_TILE_CTL t v none)
    (hg : s.Granted path .PRT_TILE_CTL t t v) : ∃ n, Does c s n ∧
      DriftTold (s.m.tileCtlWrite t ((wholeWrite path .PRT_TILE_CTL t v).onto (s.m.rd .PRT_TILE_CTL t))) n := by
  refine ⟨_, does_put_unguarded hc hg rfl, ?_⟩
  have h := driftTold_took s.m .PRT_TILE_CTL t (s.m.blockWrite s.locks (wholeWrite path .PRT_TILE_CTL t v) none)
  rwa [blockWrite_tileCtl] at h

theorem get_wr (m : Mod) (f : Fld) (i : Nat) (w : Word) : (m.wr f.reg i w).get f i = f.of w := congrArg f.of (rd_wr m f.reg i w)

theorem get_wr_ne (m : Mod) (r : Reg) (f : Fld) (i j : Nat) (w : Word) (h : f.reg.apart r = true) : (m.wr r i w).get f j = m.get f j :=
  congrArg f.of (rd_wr_ne m r f.reg i j w h)

/-! ### PRT_TILE_CTL -/

/-- A request to sleep or stop made during a wake (R60). -/
theorem tileCtlWrite_waking {m : Mod} {t : Nat} {new : Word} (hst : m.get PRT_TILE_STATUS_STATE t = 4)
    (hreq : PRT_TILE_CTL_STATE_REQ.of new ≠ 0) :
    (m.tileCtlWrite t new).get PRT_TILE_CTL_STATE_REQ t = m.get PRT_TILE_CTL_STATE_REQ t ∧
    (m.tileCtlWrite t new).get PRT_TILE_STATUS_STATE t = 4 ∧ (m.tileCtlWrite t new).flag PRT_TILE_WAKE_SLEEP_REFUSED t = true ∧
    (m.tileCtlWrite t new).flag PRT_TILE_EVENT_REQ_REFUSED t = true ∧ (m.tileCtlWrite t new).prt = m.prt ∧
    (m.tileCtlWrite t new).buf = m.buf := by
  unfold Mod.tileCtlWrite
  rw [if_pos ⟨hst, hreq⟩]
  extract_lets n
  have told := told_prtEvent ((n.sqc PRT_TILE_WAKE_SLEEP_REFUSED t).sqc PRT_TILE_EVENT_REQ_REFUSED t) 0x09 (16 * t) 2 true
  have hkept : n.get PRT_TILE_CTL_STATE_REQ t = m.get PRT_TILE_CTL_STATE_REQ t := by
    refine (get_wr m PRT_TILE_CTL_STATE_REQ t _).trans ((of_put _ _ _ (by decide)).trans ?_)
    exact of_mod _ _
  refine ⟨?_, ?_, ?_, ?_, ?_, ?_⟩
  · rw [told.get t rfl, get_sqc_ne _ _ _ _ _ rfl, get_sqc_ne _ _ _ _ _ rfl, hkept]
  · rw [told.get t rfl, get_sqc_ne _ _ _ _ _ rfl, get_sqc_ne _ _ _ _ _ rfl]
    exact (get_wr_ne m _ _ t t _ rfl).trans hst
  · rw [told.flag t rfl]
    exact (congrArg (· == 1) (get_sqc_ne _ _ PRT_TILE_WAKE_SLEEP_REFUSED t t rfl)).trans (flag_sqc_bit n t rfl)
  · exact (told.flag t rfl).trans (flag_sqc_bit _ t rfl)
  · rw [told.prt, sqc_prt, sqc_prt, wr_prt]
  · rw [told.buf, sqc_buf, sqc_buf, wr_buf]

/-- A request to sleep or stop at a tile that is on stops it under its policy (R57, R161). -/
theorem tileCtlWrite_on {m : Mod} {t : Fin 8} {new : Word} (hst : m.get PRT_TILE_STATUS_STATE t.val = 0)
    (hreq : PRT_TILE_CTL_STATE_REQ.of new ≠ 0) :
    m.tileCtlWrite t.val new = (m.wr .PRT_TILE_CTL t.val new).stopUnit (.tile t) (PRT_TILE_CTL_STATE_REQ.of new + 1) := by
  unfold Mod.tileCtlWrite
  rw [if_neg (by omega)]
  split
  · exact absurd ‹_› hreq
  · rw [if_pos hst, Fin.ofNat_val_eq_self]

/-- A request at a tile that sleeps or is stopped takes effect at once (R57). -/
theorem tileCtlWrite_off {m : Mod} {t : Nat} {new : Word} (hst : m.get PRT_TILE_STATUS_STATE t = 2 ∨ m.get PRT_TILE_STATUS_STATE t = 3)
    (hreq : PRT_TILE_CTL_STATE_REQ.of new ≠ 0) :
    m.tileCtlWrite t new = (m.wr .PRT_TILE_CTL t new).setTile t (PRT_TILE_CTL_STATE_REQ.of new + 1) := by
  unfold Mod.tileCtlWrite
  rw [if_neg (by omega)]
  split
  · exact absurd ‹_› hreq
  · rw [if_neg (by omega), if_neg (by omega)]

/-- A host wake of a tile that sleeps or is stopped (R58). -/
theorem tileCtlWrite_wakes {m : Mod} {t : Nat} {new : Word} (hst : m.get PRT_TILE_STATUS_STATE t = 2 ∨ m.get PRT_TILE_STATUS_STATE t = 3)
    (hreq : PRT_TILE_CTL_STATE_REQ.of new = 0) : m.tileCtlWrite t new = (m.wr .PRT_TILE_CTL t new).tileWakeReq t true := by
  unfold Mod.tileCtlWrite
  simp only [hreq]
  rw [if_neg (by simp), if_pos (by omega)]

/-- A host wake of a tile that is on (R59). -/
theorem tileCtlWrite_awake {m : Mod} {t : Nat} {new : Word} (hst : m.get PRT_TILE_STATUS_STATE t = 0)
    (hreq : PRT_TILE_CTL_STATE_REQ.of new = 0) : m.tileCtlWrite t new = (m.wr .PRT_TILE_CTL t new).tileAwake t := by
  unfold Mod.tileCtlWrite
  simp only [hreq, hst]
  rw [if_neg (by simp), if_neg (by simp), if_neg (by simp)]

/-- The drain that a unit of tile t begins now (R161). -/
def Mod.drainFrom (m : Mod) (t target : Nat) : Drain := ⟨m.now + m.get BUF_TILE_CFG_DRAIN_LIMIT_US t * 1000, target⟩

theorem drainFrom_of {m n : Mod} {t : Nat} (hcfg : n.rd .BUF_TILE_CFG t = m.rd .BUF_TILE_CFG t) (htime : n.time = m.time) (target : Nat) :
    n.drainFrom t target = ⟨m.now + m.get BUF_TILE_CFG_DRAIN_LIMIT_US t * 1000, target⟩ := by
  unfold Mod.drainFrom Mod.now Mod.get
  rw [htime, show BUF_TILE_CFG_DRAIN_LIMIT_US.reg = .BUF_TILE_CFG from rfl, hcfg]

/-- A port of a tile that begins to drain takes its state of rest, where a TYPE makes it a port (R57). -/
def atRest (m : Mod) (p : Nat) : Mod := if m.portType p = 0 then m else m.set PRT_PORT_STATUS_STATE p (m.restState p)

theorem stopUnit_tile_eq {m : Mod} {t : Fin 8} (target : Nat) (hpolicy : m.flag BUF_TILE_CFG_DOWN_POLICY t.val = false) :
    m.stopUnit (.tile t) target = (tilePorts t.val).foldl atRest
      ((m.withPrt { m.prt with tileDrain := store m.prt.tileDrain t.val (m.drainFrom t.val target) }).setTile t.val 1) :=
  if_neg (by simp [unitTile, hpolicy])

/-- Under the drain policy, a tile that stops drains first: its drain is recorded, it reads DRAINING, and its ports their states of
rest (R57, R161). -/
theorem stopUnit_tile {m : Mod} {t : Fin 8} (target : Nat) (hpolicy : m.flag BUF_TILE_CFG_DOWN_POLICY t.val = false) :
    lookup (m.stopUnit (.tile t) target).prt.tileDrain t.val = some (m.drainFrom t.val target) ∧
    (m.stopUnit (.tile t) target).get PRT_TILE_STATUS_STATE t.val = 1 ∧
    (m.stopUnit (.tile t) target).rd .PRT_TILE_CTL t.val = m.rd .PRT_TILE_CTL t.val ∧ (m.stopUnit (.tile t) target).buf = m.buf := by
  rw [stopUnit_tile_eq target hpolicy]
  obtain ⟨x, hx⟩ : ∃ x : PrtSt, x = { m.prt with tileDrain := store m.prt.tileDrain t.val (m.drainFrom t.val target) } := ⟨_, rfl⟩
  have hdrain : lookup x.tileDrain t.val = some (m.drainFrom t.val target) := by rw [hx]; exact lookup_store_self _ _ _
  rw [← hx]
  have hports {β : Type} {g : Mod → β} (hset : ∀ m p v, g (m.set PRT_PORT_STATUS_STATE p v) = g m) (n : Mod) :
      g ((tilePorts t.val).foldl atRest n) = g n :=
    Keeps.foldl (g := g) atRest (fun m p => Keeps.ite _ (Keeps.refl m) (hset m p _)) _ n
  refine ⟨?_, ?_, ?_, ?_⟩
  · rw [hports (g := Mod.prt) fun m p v => set_prt m _ p v, setTile_prt, withPrt_prt, hdrain]
  · exact (hports (g := fun m => m.get PRT_TILE_STATUS_STATE t.val) (fun m p v => get_set_ne m _ _ p _ v rfl) _).trans
      (setTile_state _ _ 1 (by decide))
  · exact (hports (g := fun m => m.rd .PRT_TILE_CTL t.val) (fun m p v => rd_set_ne m _ _ p _ v rfl) _).trans
      ((setTile_rd _ _ 1 _ _ rfl rfl rfl).trans (rd_of_regs (withPrt_regs m x) _ _))
  · rw [hports (g := Mod.buf) fun m p v => set_buf m _ p v, setTile_buf, withPrt_buf]

/-- A tile's wake begins (R58). -/
theorem tileWakeReq_begins {m : Mod} {t : Nat} (h : lookup m.prt.tileWake t = none) (host : Bool) :
    lookup (m.tileWakeReq t host).prt.tileWake t = some ⟨m.now, host, !host⟩ ∧
    (m.tileWakeReq t host).get PRT_TILE_STATUS_STATE t = 4 ∧
    (m.tileWakeReq t host).rd .PRT_TILE_WAKE_TIME t = wakeTime m.time.net ∧ (m.tileWakeReq t host).buf = m.buf := by
  rw [tileWakeReq_none h, setTile_prt, setTile_buf, tileWakeBegun_buf, tileWakeBegun_prt, setTile_rd _ _ _ _ _ rfl rfl rfl]
  exact ⟨lookup_store_self _ t _, setTile_state _ t 4 (by decide), rd_wr _ .PRT_TILE_WAKE_TIME t _, rfl⟩

theorem tileAwake_shows (m : Mod) (t : Nat) : (m.tileAwake t).flag PRT_TILE_WAKE_DONE t = true ∧
    (m.tileAwake t).flag PRT_TILE_WAKE_HOST_REQ t = true ∧ (m.tileAwake t).prt = m.prt ∧ (m.tileAwake t).buf = m.buf := by
  unfold Mod.tileAwake
  refine ⟨?_, flag_sqc_bit _ t (by decide), by simp, by simp⟩
  exact (flag_sqc_clear _ t (by decide) (by decide) (by decide)).trans (flag_sqc_bit m t (by decide))

/-! ### The obligation about tiles -/

/-- Settles O23: the word written asks for the state, and each case is what the request does, with the drift from the image beside it. -/
theorem tileTakesTheStateAskedFor : Obligations.TileTakesTheStateAskedFor := by
  refine ⟨fun s path t v hg hreq => ?_, fun s path t hg => ?_⟩
  · obtain ⟨n, hdoes, hdrift⟩ := does_tileCtl (exec_tileStateRequest path t v s) hg
    obtain ⟨new, hnew⟩ : ∃ new, new = (wholeWrite path .PRT_TILE_CTL t.val v).onto (s.m.rd .PRT_TILE_CTL t.val) := ⟨_, rfl⟩
    have hasked : PRT_TILE_CTL_STATE_REQ.of new = PRT_TILE_CTL_STATE_REQ.of v := hnew ▸ of_onto path t.val v _ (by decide)
    have hreq' : PRT_TILE_CTL_STATE_REQ.of new ≠ 0 := hasked ▸ hreq
    rw [← hnew] at hdrift
    refine ⟨fun hst => ?_, fun hst hpolicy => ?_, fun hst => ?_⟩
    · obtain ⟨hctl, hstate, hrefused, hevent, hprt, hbuf⟩ := tileCtlWrite_waking hst hreq'
      refine yields_of_does hdoes ⟨?_, ?_, ?_, ?_, hdrift.prt.trans hprt, hdrift.buf.trans hbuf⟩
      · exact (hdrift.get t.val (by decide)).trans hctl
      · exact (hdrift.get t.val (by decide)).trans hstate
      · exact (hdrift.flag t.val (by decide)).trans hrefused
      · exact (hdrift.flag t.val (by decide)).trans hevent
    · rw [tileCtlWrite_on hst hreq'] at hdrift
      have hcfg : (s.m.wr .PRT_TILE_CTL t.val new).rd .BUF_TILE_CFG t.val = s.m.rd .BUF_TILE_CFG t.val := rd_wr_ne s.m _ _ _ _ new rfl
      have hpolicy' : (s.m.wr .PRT_TILE_CTL t.val new).flag BUF_TILE_CFG_DOWN_POLICY t.val = false :=
        (congrArg (fun w => BUF_TILE_CFG_DOWN_POLICY.of w == 1) hcfg).trans hpolicy
      obtain ⟨hdrain, hstate, hctl, hbuf⟩ := stopUnit_tile (PRT_TILE_CTL_STATE_REQ.of new + 1) hpolicy'
      refine yields_of_does hdoes ⟨?_, ?_, ?_, ?_⟩
      · exact (hdrift.get t.val (by decide)).trans hstate
      · rw [hdrift.get t.val (by decide), ← hasked]
        exact congrArg PRT_TILE_CTL_STATE_REQ.of (hctl.trans (rd_wr s.m .PRT_TILE_CTL t.val new))
      · rw [hdrift.buf, hbuf, wr_buf]
      · rw [hdrift.prt, hdrain, ← hasked]
        exact congrArg some (drainFrom_of hcfg (wr_time s.m _ _ _) _)
    · rw [tileCtlWrite_off hst hreq'] at hdrift
      have hlt : PRT_TILE_CTL_STATE_REQ.of v < 2 ^ 2 := of_lt PRT_TILE_CTL_STATE_REQ v
      refine yields_of_does hdoes ⟨?_, ?_, ?_⟩
      · rw [hdrift.get t.val (by decide), ← hasked]
        exact setTile_state _ _ _ (by omega)
      · rw [hdrift.prt, setTile_prt, wr_prt]
      · rw [hdrift.buf, setTile_buf, wr_buf]
  · obtain ⟨n, hdoes, hdrift⟩ := does_tileCtl (exec_hostWake path (.tile t) s) hg
    obtain ⟨new, hnew⟩ : ∃ new, new = (wholeWrite path .PRT_TILE_CTL t.val (s.revised PRT_TILE_CTL_STATE_REQ t.val 0)).onto
      (s.m.rd .PRT_TILE_CTL t.val) := ⟨_, rfl⟩
    have hasked : PRT_TILE_CTL_STATE_REQ.of new = 0 := by
      rw [hnew, of_onto path t.val _ _ (by decide)]
      exact of_put _ _ _ (by decide)
    rw [← hnew] at hdrift
    refine ⟨fun hst hnone => ?_, fun hst => ?_⟩
    · rw [tileCtlWrite_wakes hst hasked] at hdrift
      obtain ⟨hwake, hstate, htime, hbuf⟩ := tileWakeReq_begins (m := s.m.wr .PRT_TILE_CTL t.val new) (by rw [wr_prt, hnone]) true
      refine yields_of_does hdoes ⟨?_, ?_, ?_, ?_⟩
      · rw [hdrift.prt, hwake, show (s.m.wr .PRT_TILE_CTL t.val new).now = s.m.now from congrArg TimeSt.cycles (wr_time s.m _ _ _)]
        rfl
      · exact (hdrift.get t.val (by decide)).trans hstate
      · rw [hdrift.rd t.val (by decide), htime, wr_time]
      · rw [hdrift.buf, hbuf, wr_buf]
    · rw [tileCtlWrite_awake hst hasked] at hdrift
      obtain ⟨hdone, hreq, hprt, hbuf⟩ := tileAwake_shows (s.m.wr .PRT_TILE_CTL t.val new) t.val
      refine yields_of_does hdoes ⟨?_, ?_, ?_, ?_⟩
      · exact (hdrift.flag t.val (by decide)).trans hdone
      · exact (hdrift.flag t.val (by decide)).trans hreq
      · rw [hdrift.prt, hprt, wr_prt]
      · rw [hdrift.buf, hbuf, wr_buf]

end Sys2Proof.Machine
end

section
/-! SUPPORT. The configuration of a port (R42, R57 to R60): what a refused write, an accepted one and a request to sleep or wake leave. -/

namespace Sys2Proof.Machine

/-! ### The write in its block -/

theorem blockWrite_portCfg (m : Mod) (l : BitVec 5) (path : Path) (p : Nat) (v new : Word) (x : Option Found)
    (hnew : new = (wholeWrite path .PRT_PORT_CFG p v).onto (m.rd .PRT_PORT_CFG p)) :
    m.blockWrite l (wholeWrite path .PRT_PORT_CFG p v) x =
      ((m.portCfgWrite (vfHedge path).isSome p new).rd .PRT_PORT_CFG p == new, m.portCfgWrite (vfHedge path).isSome p new) := by
  subst hnew
  unfold Mod.blockWrite
  exact if_neg (show ¬ (settable .PRT_PORT_CFG).isEmpty = true by decide)

/-- A write to PRT_PORT_CFG that reaches the register: what its block makes of it, and the drift from the image where the word took
effect (R402). -/
theorem does_portCfg {c : Instr} {s : State} {path : Path} {p : Nat} {v new : Word} (hc : exec c s = s.put path .PRT_PORT_CFG p v none)
    (hg : s.Granted path .PRT_PORT_CFG p p v) (hnew : new = (wholeWrite path .PRT_PORT_CFG p v).onto (s.m.rd .PRT_PORT_CFG p)) :
    ∃ n, Does c s n ∧ DriftTold (s.m.portCfgWrite (vfHedge path).isSome p new) n ∧
      ((s.m.portCfgWrite (vfHedge path).isSome p new).rd .PRT_PORT_CFG p ≠ new → n = s.m.portCfgWrite (vfHedge path).isSome p new) := by
  have h := does_put_unguarded hc hg rfl
  rw [blockWrite_portCfg s.m s.locks path p v new none hnew] at h
  refine ⟨_, h, driftTold_took _ _ _ _, fun hne => ?_⟩
  unfold Mod.took
  rw [show ((s.m.portCfgWrite (vfHedge path).isSome p new).rd .PRT_PORT_CFG p == new) = false by simpa using hne]
  rfl

/-! ### A refused write -/

theorem apart_port_event (r : Reg) (h : r ≠ .PRT_PORT_EVENT) : r.apart .PRT_PORT_EVENT = true := by
  cases r with
  | PRT_PORT_EVENT => exact absurd rfl h
  | _ => rfl

/-- A write that the checks refuse leaves the registers beside the event's (R42, R68). -/
theorem portCfgWrite_refused {m : Mod} {vf : Bool} {p : Nat} {new : Word} (h : m.cfgCheck vf p (m.rd .PRT_PORT_CFG p) new ≠ 0) :
    (m.portCfgWrite vf p new).flag PRT_PORT_EVENT_CFG_REFUSED p = true ∧
    (∀ r i, evtReg r = false → r ≠ .PRT_PORT_EVENT → (m.portCfgWrite vf p new).rd r i = m.rd r i) ∧
    (m.portCfgWrite vf p new).prt = m.prt ∧ (m.portCfgWrite vf p new).buf = m.buf ∧ (m.portCfgWrite vf p new).fwd = m.fwd ∧
    (m.portCfgWrite vf p new).sch = m.sch := by
  have heq : m.portCfgWrite vf p new = m.cfgRefused p (m.cfgCheck vf p (m.rd .PRT_PORT_CFG p) new) := if_pos h
  rw [heq]
  have told := told_prtEvent (m.sqc PRT_PORT_EVENT_CFG_REFUSED p) 0x03 p (m.cfgCheck vf p (m.rd .PRT_PORT_CFG p) new) false
  refine ⟨(told.flag p rfl).trans (flag_sqc_bit m p (by decide)), fun r i he hr => ?_, told.prt.trans (sqc_prt m _ p),
    told.buf.trans (sqc_buf m _ p), told.fwd.trans (sqc_fwd m _ p), told.sch.trans (sqc_sch m _ p)⟩
  exact (told.2 r i he).trans (rd_sqc_ne m PRT_PORT_EVENT_CFG_REFUSED r p i (apart_port_event r hr))

/-! ### An accepted write -/

/-- The word stored; the fact of the receiver that a new TYPE or FEC measures, and the state that the port then has (R42, R222). -/
def Mod.portCfgStored (m : Mod) (p : Nat) (new : Word) : Mod :=
  let old := m.rd .PRT_PORT_CFG p
  let m := m.wr .PRT_PORT_CFG p new
  if PRT_PORT_CFG_TYPE.of old ≠ PRT_PORT_CFG_TYPE.of new ∨ PRT_PORT_CFG_FEC.of old ≠ PRT_PORT_CFG_FEC.of new then
    let v := m.fresh
    (v.2.wr .TIM_PORT_FACT p v.1).set PRT_PORT_STATUS_STATE p (v.2.restState p)
  else m

theorem portCfgWrite_accepted {m : Mod} {vf : Bool} {p : Nat} {new : Word} (h : m.cfgCheck vf p (m.rd .PRT_PORT_CFG p) new = 0)
    (hwake : ((lookup m.prt.portWake p).isSome && PRT_PORT_CFG_ADMIN.of new == 2) = false) :
    m.portCfgWrite vf p new = (m.portCfgStored p new).adminWritten p (m.get PRT_PORT_CFG_ADMIN p) (PRT_PORT_CFG_ADMIN.of new) := by
  unfold Mod.portCfgWrite
  simp only [h, hwake]
  rfl

/-- What a port's configuration leaves beside it. -/
def portSettings (p : Nat) (m : Mod) : Word × BufSt × FwdSt × SchSt × ClsSt := (m.rd .PRT_PORT_CFG p, m.buf, m.fwd, m.sch, m.cls)

theorem keeps_portSettings_iff {p : Nat} {m n : Mod} : Keeps (portSettings p) m n ↔
    n.rd .PRT_PORT_CFG p = m.rd .PRT_PORT_CFG p ∧ n.buf = m.buf ∧ n.fwd = m.fwd ∧ n.sch = m.sch ∧ n.cls = m.cls := by
  simp [Keeps, portSettings]

theorem portSettings_wr (m : Mod) {r : Reg} (p i : Nat) (w : Word) (hr : Reg.apart .PRT_PORT_CFG r = true) :
    Keeps (portSettings p) m (m.wr r i w) :=
  keeps_portSettings_iff.2 ⟨rd_wr_ne m r _ i p w hr, wr_buf m r i w, wr_fwd m r i w, wr_sch m r i w, wr_cls m r i w⟩

theorem portSettings_set (m : Mod) {f : Fld} (p i v : Nat) (hf : Reg.apart .PRT_PORT_CFG f.reg = true) :
    Keeps (portSettings p) m (m.set f i v) := portSettings_wr m p i _ hf

theorem portSettings_sqc (m : Mod) {f : Fld} (p i : Nat) (hf : Reg.apart .PRT_PORT_CFG f.reg = true) :
    Keeps (portSettings p) m (m.sqc f i) := by
  unfold Mod.sqc Mod.sqcBit
  exact portSettings_wr m p i _ hf

theorem portSettings_withPrt (m : Mod) (p : Nat) (x : PrtSt) : Keeps (portSettings p) m (m.withPrt x) :=
  keeps_portSettings_iff.2 ⟨rd_of_regs (withPrt_regs m x) _ p, withPrt_buf m x, withPrt_fwd m x, withPrt_sch m x, withPrt_cls m x⟩

theorem portSettings_rest {m : Mod} {p : Nat} (h : m.linked p = false) (code : Nat) : Keeps (portSettings p) m (m.rest p code) := by
  rw [rest_unlinked_eq h]
  exact ((portSettings_set m p p _ rfl).trans (portSettings_set _ p p 0 rfl)).trans (portSettings_set _ p p 0 rfl)

theorem portSettings_portWakeReq (m : Mod) (p : Nat) (host : Bool) : Keeps (portSettings p) m (m.portWakeReq p host) := by
  cases h : lookup m.prt.portWake p with
  | none =>
    rw [portWakeReq_none h]
    have hbegun : Keeps (portSettings p) m (m.wakeBegun p host) := by
      unfold Mod.wakeBegun
      exact (portSettings_withPrt m p _).trans (portSettings_wr _ p p _ rfl)
    exact hbegun.trans (Keeps.ite _ (portSettings_set _ p p 4 rfl) (Keeps.refl _))
  | some w =>
    unfold Mod.portWakeReq
    rw [h]
    exact portSettings_withPrt m p _

theorem linked_withPrt (m : Mod) (x : PrtSt) (p : Nat) : (m.withPrt x).linked p = m.linked p :=
  congrArg (· == 1) (get_of_regs (withPrt_regs m x) _ p)

/-- ADMIN written at a port without its link: no frame, queue or table changes. -/
theorem portSettings_adminWritten {m : Mod} {p : Nat} (h : m.linked p = false) (old new : Nat) :
    Keeps (portSettings p) m (m.adminWritten p old new) := by
  unfold Mod.adminWritten
  refine Keeps.ite _ (Keeps.refl m) ?_
  split
  · exact (portSettings_withPrt m p _).trans (portSettings_rest ((linked_withPrt m _ p).trans h) 9)
  · refine Keeps.ite _ (Keeps.refl m) ?_
    rw [if_neg (by simp [h])]
    exact portSettings_rest h 10
  · refine Keeps.ite _ (portSettings_set m p p _ rfl) (Keeps.ite _ (portSettings_portWakeReq m p true) ?_)
    unfold Mod.portAwake
    exact ((portSettings_withPrt m p _).trans (portSettings_sqc _ p p rfl)).trans (portSettings_sqc _ p p rfl)

theorem portCfgStored_settings (m : Mod) (p : Nat) (new : Word) : Keeps (portSettings p) (m.wr .PRT_PORT_CFG p new) (m.portCfgStored p new) := by
  unfold Mod.portCfgStored
  extract_lets old n v
  have hv : Keeps (portSettings p) n v.2 :=
    keeps_portSettings_iff.2 ⟨rd_of_regs (fresh_regs n) _ p, fresh_buf n, fresh_fwd n, fresh_sch n, fresh_cls n⟩
  exact Keeps.ite _ ((hv.trans (portSettings_wr v.2 p p _ rfl)).trans (portSettings_set _ p p _ rfl)) (Keeps.refl n)

theorem portCfgStored_linked (m : Mod) (p : Nat) (new : Word) : (m.portCfgStored p new).linked p = m.linked p := by
  unfold Mod.portCfgStored
  extract_lets old n v
  have hn : n.flag PRT_PORT_STATUS_PCS_LOCK p = m.flag PRT_PORT_STATUS_PCS_LOCK p := congrArg (· == 1) (get_wr_ne m _ _ p p new rfl)
  have hv : (v.2.wr .TIM_PORT_FACT p v.1).flag PRT_PORT_STATUS_PCS_LOCK p = n.flag PRT_PORT_STATUS_PCS_LOCK p :=
    (congrArg (· == 1) (get_wr_ne v.2 _ PRT_PORT_STATUS_PCS_LOCK p p v.1 rfl)).trans
      (congrArg (fun w => PRT_PORT_STATUS_PCS_LOCK.of w == 1) (rd_of_regs (fresh_regs n) _ p))
  unfold Mod.linked
  split
  · exact (flag_set_clear _ p _ (by decide)).trans (hv.trans hn)
  · exact hn

/-- Where the word keeps TYPE and FEC, it is stored and no more. -/
theorem portCfgStored_plain {m : Mod} {p : Nat} {new : Word} (htype : PRT_PORT_CFG_TYPE.of new = m.get PRT_PORT_CFG_TYPE p)
    (hfec : PRT_PORT_CFG_FEC.of new = m.get PRT_PORT_CFG_FEC p) : m.portCfgStored p new = m.wr .PRT_PORT_CFG p new := by
  unfold Mod.portCfgStored
  have hold : PRT_PORT_CFG_TYPE.of (m.rd .PRT_PORT_CFG p) = PRT_PORT_CFG_TYPE.of new := htype.symm
  have hold' : PRT_PORT_CFG_FEC.of (m.rd .PRT_PORT_CFG p) = PRT_PORT_CFG_FEC.of new := hfec.symm
  exact if_neg (by simp [hold, hold'])

/-! ### Requests to sleep and to wake -/

/-- A word that asks for an ADMIN alone. -/
theorem asked_admin {s : State} {path : Path} {p k : Nat} {new : Word} (hk : k < 4)
    (hnew : new = (wholeWrite path .PRT_PORT_CFG p (s.revised PRT_PORT_CFG_ADMIN p k)).onto (s.m.rd .PRT_PORT_CFG p)) :
    PRT_PORT_CFG_ADMIN.of new = k ∧ PRT_PORT_CFG_TYPE.of new = s.m.get PRT_PORT_CFG_TYPE p ∧
    PRT_PORT_CFG_FEC.of new = s.m.get PRT_PORT_CFG_FEC p := by
  have hstaged : s.m.rdStaged .PRT_PORT_CFG p = s.m.rd .PRT_PORT_CFG p := by
    unfold Mod.rdStaged
    rw [show rwtFields .PRT_PORT_CFG = [] by decide, List.foldl_nil]
  have hput (g : Fld) (hd : PRT_PORT_CFG_ADMIN.lo + PRT_PORT_CFG_ADMIN.width ≤ g.lo ∨ g.lo + g.width ≤ PRT_PORT_CFG_ADMIN.lo) :
      g.of (s.revised PRT_PORT_CFG_ADMIN p k) = g.of (s.m.rd .PRT_PORT_CFG p) :=
    (of_put_ne _ g _ k (by decide) hd).trans (congrArg g.of hstaged)
  rw [hnew, of_onto _ _ _ _ (by decide), of_onto _ _ _ _ (by decide), of_onto _ _ _ _ (by decide)]
  refine ⟨?_, hput _ (by decide), hput _ (by decide)⟩
  exact (of_put _ _ _ (by decide)).trans (Nat.mod_eq_of_lt hk)

/-- A request to sleep made during a wake keeps ADMIN and is refused (R60). -/
theorem portCfgWrite_waking {m : Mod} {vf : Bool} {p : Nat} {new : Word} (h : m.cfgCheck vf p (m.rd .PRT_PORT_CFG p) new = 0)
    (hwake : (lookup m.prt.portWake p).isSome = true) (hadmin : PRT_PORT_CFG_ADMIN.of new = 2)
    (htype : PRT_PORT_CFG_TYPE.of new = m.get PRT_PORT_CFG_TYPE p) (hfec : PRT_PORT_CFG_FEC.of new = m.get PRT_PORT_CFG_FEC p) :
    m.portCfgWrite vf p new =
      (m.wr .PRT_PORT_CFG p (PRT_PORT_CFG_ADMIN.put new (m.get PRT_PORT_CFG_ADMIN p))).sleepRefused p := by
  unfold Mod.portCfgWrite
  have hold : PRT_PORT_CFG_TYPE.of (m.rd .PRT_PORT_CFG p) = PRT_PORT_CFG_TYPE.of new := htype.symm
  have hold' : PRT_PORT_CFG_FEC.of (m.rd .PRT_PORT_CFG p) = PRT_PORT_CFG_FEC.of new := hfec.symm
  have hput (g : Fld) (hd : PRT_PORT_CFG_ADMIN.lo + PRT_PORT_CFG_ADMIN.width ≤ g.lo ∨ g.lo + g.width ≤ PRT_PORT_CFG_ADMIN.lo) (a : Nat) :
      g.of (PRT_PORT_CFG_ADMIN.put new a) = g.of new := of_put_ne _ g _ a (by decide) hd
  simp [h, hwake, hadmin, hold, hold', hput PRT_PORT_CFG_TYPE (by decide), hput PRT_PORT_CFG_FEC (by decide)]
  rfl

theorem sleepRefused_shows (m : Mod) (p : Nat) : (m.sleepRefused p).get PRT_PORT_CFG_ADMIN p = m.get PRT_PORT_CFG_ADMIN p ∧
    (m.sleepRefused p).flag PRT_WAKE_STATUS_SLEEP_REFUSED p = true ∧ (m.sleepRefused p).prt = m.prt ∧ (m.sleepRefused p).buf = m.buf := by
  have told := told_prtEvent (m.sqc PRT_WAKE_STATUS_SLEEP_REFUSED p) 0x09 p 1 false
  exact ⟨(told.get p rfl).trans (get_sqc_ne m _ _ p p rfl), (told.flag p rfl).trans (flag_sqc_bit m p (by decide)),
    told.prt.trans (sqc_prt m _ p), told.buf.trans (sqc_buf m _ p)⟩

/-- A port that is up with its link, asked to sleep under the drain policy, drains first (R57, R161). -/
theorem adminWritten_drains {m : Mod} {p : Fin 128} (old : Nat) (htype : m.portType p.val ≠ 0) (hdrain : lookup m.prt.portDrain p.val = none)
    (hlink : m.linked p.val = true) (hpolicy : m.flag BUF_TILE_CFG_DOWN_POLICY (tileOf p.val) = false) :
    m.adminWritten p.val old 2 =
      m.withPrt { m.prt with portDrain := store m.prt.portDrain p.val (m.drainFrom (tileOf p.val) 3) } := by
  have hstop : m.stopUnit (.port p) 3 = m.withPrt { m.prt with portDrain := store m.prt.portDrain p.val (m.drainFrom (tileOf p.val) 3) } :=
    if_neg (by simp [unitTile, hpolicy])
  unfold Mod.adminWritten
  rw [if_neg htype]
  simp [hdrain, hlink, hstop]

/-- ADMIN = 1 at a port that sleeps or wakes is a host request (R58). -/
theorem adminWritten_wakes {m : Mod} {p old : Nat} (htype : m.portType p ≠ 0) (hold : old ≠ 0)
    (hst : m.get PRT_PORT_STATUS_STATE p = 3 ∨ m.get PRT_PORT_STATUS_STATE p = 4) : m.adminWritten p old 1 = m.portWakeReq p true := by
  unfold Mod.adminWritten
  rw [if_neg htype]
  simp only [hold, if_false]
  exact if_pos (by omega)

/-- ADMIN = 1 at a port that is up is satisfied at once (R59). -/
theorem adminWritten_up {m : Mod} {p old : Nat} (htype : m.portType p ≠ 0) (hold : old ≠ 0)
    (hst : m.get PRT_PORT_STATUS_STATE p = 2) :
    m.adminWritten p old 1 = (m.withPrt { m.prt with portDrain := remove m.prt.portDrain p }).portAwake p := by
  unfold Mod.adminWritten
  rw [if_neg htype]
  simp only [hold, if_false]
  exact if_neg (by omega)

theorem portAwake_shows (m : Mod) (p : Nat) : (m.portAwake p).flag PRT_WAKE_STATUS_DONE p = true ∧
    (m.portAwake p).flag PRT_WAKE_STATUS_HOST_REQ p = true ∧ (m.portAwake p).portUp p = m.portUp p ∧ (m.portAwake p).prt = m.prt ∧
    (m.portAwake p).buf = m.buf := by
  unfold Mod.portAwake
  refine ⟨?_, flag_sqc_bit _ p (by decide), ?_, by simp, by simp⟩
  · exact (flag_sqc_clear _ p (by decide) (by decide) (by decide)).trans (flag_sqc_bit m p (by decide))
  · unfold Mod.portUp
    rw [get_sqc_ne _ _ _ _ _ rfl, get_sqc_ne _ _ _ _ _ rfl]

/-- The state of a port whose wake begins (R58): WAKING where its tile is on. -/
theorem portWakeReq_state {m : Mod} {p : Nat} (h : lookup m.prt.portWake p = none) (host : Bool) :
    (m.portWakeReq p host).get PRT_PORT_STATUS_STATE p =
      if m.get PRT_TILE_STATUS_STATE (tileOf p) = 0 then 4 else m.get PRT_PORT_STATUS_STATE p := by
  have hkept {f : Fld} (i : Nat) (hf : f.reg.apart .PRT_WAKE_TIME = true) : (m.wakeBegun p host).get f i = m.get f i := by
    unfold Mod.wakeBegun
    exact (get_wr_ne _ _ f p i _ hf).trans (get_of_regs (withPrt_regs m _) f i)
  rw [portWakeReq_none h, hkept _ rfl]
  split
  · exact get_set _ _ _ _ (by decide)
  · exact hkept _ rfl

theorem portWakeReq_joined_regs {m : Mod} {p : Nat} {w : Wake} (h : lookup m.prt.portWake p = some w) (host : Bool) :
    (m.portWakeReq p host).regs = m.regs := by
  unfold Mod.portWakeReq
  rw [h]
  rfl

/-! ### The obligation about ports -/

/-- Settles O22: the checks decide; an accepted word is stored, and the port then acts on its ADMIN. -/
theorem portConfigurationIsChecked : Obligations.PortConfigurationIsChecked := by
  refine ⟨fun s path p v new hg hnew hne => ⟨fun hcheck => ?_, fun hcheck hlink hwake => ?_⟩, fun s path p hg hcheck => ?_,
    fun s path p hg hcheck htype hold => ?_⟩
  · obtain ⟨n, hdoes, -, hrefused⟩ := does_portCfg (exec_portCfgWrite path p v s) hg hnew
    obtain ⟨hflag, hrd, hprt, hbuf, hfwd, hsch⟩ := portCfgWrite_refused hcheck
    have hcfg := hrd .PRT_PORT_CFG p.val rfl (by decide)
    obtain rfl := hrefused (by rw [hcfg]; exact hne.symm)
    exact yields_of_does hdoes ⟨hcfg, hflag, hrd, hprt, hbuf, hfwd, hsch, rfl⟩
  · obtain ⟨n, hdoes, hdrift, -⟩ := does_portCfg (exec_portCfgWrite path p v s) hg hnew
    rw [portCfgWrite_accepted hcheck (by simp [hwake])] at hdrift
    have hlink' : (s.m.portCfgStored p.val new).linked p.val = false := (portCfgStored_linked s.m p.val new).trans hlink
    have hkept := (portCfgStored_settings s.m p.val new).trans
      (portSettings_adminWritten hlink' (s.m.get PRT_PORT_CFG_ADMIN p.val) (PRT_PORT_CFG_ADMIN.of new))
    obtain ⟨hcfg, hbuf, hfwd, hsch, hcls⟩ := keeps_portSettings_iff.1 hkept
    refine yields_of_does hdoes ⟨?_, ?_, ?_, ?_, ?_, rfl⟩
    · rw [hdrift.rd p.val (by decide), hcfg, rd_wr]
    · rw [hdrift.buf, hbuf, wr_buf]
    · rw [hdrift.fwd, hfwd, wr_fwd]
    · rw [hdrift.sch, hsch, wr_sch]
    · rw [hdrift.cls, hcls, wr_cls]
  · obtain ⟨new, hnew⟩ : ∃ new, new = (wholeWrite path .PRT_PORT_CFG p.val (s.revised PRT_PORT_CFG_ADMIN p.val 2)).onto
      (s.m.rd .PRT_PORT_CFG p.val) := ⟨_, rfl⟩
    rw [← hnew] at hcheck
    obtain ⟨hadmin, hty, hfec⟩ := asked_admin (by decide) hnew
    obtain ⟨n, hdoes, hdrift, -⟩ := does_portCfg (exec_portSleep path p s) hg hnew
    refine ⟨fun hwake => ?_, fun hwake htype hup hlink hdrain hpolicy => ?_⟩
    · rw [portCfgWrite_waking hcheck hwake hadmin hty hfec] at hdrift
      obtain ⟨hkept, hrefused, hprt, hbuf⟩ :=
        sleepRefused_shows (s.m.wr .PRT_PORT_CFG p.val (PRT_PORT_CFG_ADMIN.put new (s.m.get PRT_PORT_CFG_ADMIN p.val))) p.val
      refine yields_of_does hdoes ⟨?_, ?_, ?_, ?_⟩
      · rw [hdrift.get p.val (by decide), hkept]
        exact (get_wr s.m PRT_PORT_CFG_ADMIN p.val _).trans ((of_put _ _ _ (by decide)).trans (of_mod _ _))
      · exact (hdrift.flag p.val (by decide)).trans hrefused
      · rw [hdrift.prt, hprt, wr_prt]
      · rw [hdrift.buf, hbuf, wr_buf]
    · obtain ⟨m1, hm1⟩ : ∃ m1, m1 = s.m.wr .PRT_PORT_CFG p.val new := ⟨_, rfl⟩
      have hrd {r : Reg} (i : Nat) (h : r.apart .PRT_PORT_CFG = true) : m1.rd r i = s.m.rd r i := hm1 ▸ rd_wr_ne s.m _ r p.val i new h
      have hprt : m1.prt = s.m.prt := hm1 ▸ wr_prt s.m _ _ _
      have htype' : m1.portType p.val = s.m.portType p.val := (hm1 ▸ get_wr s.m PRT_PORT_CFG_TYPE p.val new).trans hty
      have hlink' : m1.linked p.val = true := (congrArg (fun w => PRT_PORT_STATUS_PCS_LOCK.of w == 1) (hrd p.val rfl)).trans hlink
      have hpolicy' : m1.flag BUF_TILE_CFG_DOWN_POLICY (tileOf p.val) = false :=
        (congrArg (fun w => BUF_TILE_CFG_DOWN_POLICY.of w == 1) (hrd (tileOf p.val) rfl)).trans hpolicy
      rw [portCfgWrite_accepted hcheck (by simp [hwake]), portCfgStored_plain hty hfec, hadmin, ← hm1,
        adminWritten_drains _ (htype' ▸ htype) (hprt ▸ hdrain) hlink' hpolicy'] at hdrift
      refine yields_of_does hdoes ⟨?_, ?_, ?_, ?_⟩
      · rw [hdrift.get p.val (by decide), get_of_regs (withPrt_regs _ _), hm1]
        exact (get_wr s.m PRT_PORT_CFG_ADMIN p.val new).trans hadmin
      · have hstatus := (hdrift.rd p.val (by decide)).trans ((rd_of_regs (withPrt_regs _ _) .PRT_PORT_STATUS p.val).trans (hrd p.val rfl))
        exact (congrArg (fun w => PRT_PORT_STATUS_STATE.of w == 2) hstatus).trans hup
      · rw [hdrift.buf, withPrt_buf, hm1, wr_buf]
      · rw [hdrift.prt, withPrt_prt, drainFrom_of (hrd _ rfl) (hm1 ▸ wr_time s.m _ _ _)]
        exact lookup_store_self _ _ _
  · obtain ⟨new, hnew⟩ : ∃ new, new = (wholeWrite path .PRT_PORT_CFG p.val (s.revised PRT_PORT_CFG_ADMIN p.val 1)).onto
      (s.m.rd .PRT_PORT_CFG p.val) := ⟨_, rfl⟩
    rw [← hnew] at hcheck
    obtain ⟨hadmin, hty, hfec⟩ := asked_admin (by decide) hnew
    obtain ⟨n, hdoes, hdrift, -⟩ := does_portCfg (exec_hostWake path (.port p) s) hg hnew
    obtain ⟨m1, hm1⟩ : ∃ m1, m1 = s.m.wr .PRT_PORT_CFG p.val new := ⟨_, rfl⟩
    rw [portCfgWrite_accepted hcheck (by simp [hadmin]), portCfgStored_plain hty hfec, hadmin, ← hm1] at hdrift
    have hrd {r : Reg} (i : Nat) (h : r.apart .PRT_PORT_CFG = true) : m1.rd r i = s.m.rd r i := hm1 ▸ rd_wr_ne s.m _ r p.val i new h
    have hget {f : Fld} (i : Nat) (h : f.reg.apart .PRT_PORT_CFG = true) : m1.get f i = s.m.get f i := congrArg f.of (hrd i h)
    have hprt : m1.prt = s.m.prt := hm1 ▸ wr_prt s.m _ _ _
    have hbuf : m1.buf = s.m.buf := hm1 ▸ wr_buf s.m _ _ _
    have htime : m1.time = s.m.time := hm1 ▸ wr_time s.m _ _ _
    have htype' : m1.portType p.val ≠ 0 := ((hm1 ▸ get_wr s.m PRT_PORT_CFG_TYPE p.val new : m1.portType p.val = _).trans hty) ▸ htype
    refine ⟨fun w hwake hst => ?_, fun hwake hst => ?_, fun hst => ?_⟩
    · rw [adminWritten_wakes htype' hold (.inr ((hget p.val rfl).trans hst))] at hdrift
      have hwake' : lookup m1.prt.portWake p.val = some w := hprt ▸ hwake
      obtain ⟨hjoined, hkept⟩ := portWakeReq_joins hwake' true
      refine yields_of_does hdoes ⟨?_, ?_, hdrift.buf.trans (hkept.trans hbuf)⟩
      · rw [hdrift.prt, hjoined]
        simp
      · rw [hdrift.rd p.val (by decide), rd_of_regs (portWakeReq_joined_regs hwake' true), hrd p.val rfl]
    · rw [adminWritten_wakes htype' hold (.inl ((hget p.val rfl).trans hst))] at hdrift
      have hwake' : lookup m1.prt.portWake p.val = none := hprt ▸ hwake
      obtain ⟨hbegun, hfirst, hkept⟩ := portWakeReq_begins hwake' true
      refine yields_of_does hdoes ⟨?_, ?_, ?_, hdrift.buf.trans (hkept.trans hbuf)⟩
      · rw [hdrift.prt, hbegun, show m1.now = s.m.now from congrArg TimeSt.cycles htime]
        rfl
      · rw [hdrift.rd p.val (by decide), hfirst, htime]
      · rw [hdrift.get p.val (by decide), portWakeReq_state hwake', hget _ rfl, hget _ rfl, hst]
    · rw [adminWritten_up htype' hold ((hget p.val rfl).trans hst)] at hdrift
      obtain ⟨hdone, hreq, hup, hprt', hbuf'⟩ := portAwake_shows (m1.withPrt { m1.prt with portDrain := remove m1.prt.portDrain p.val }) p.val
      refine yields_of_does hdoes ⟨?_, ?_, ?_, ?_, ?_⟩
      · exact (hdrift.flag p.val (by decide)).trans hdone
      · exact (hdrift.flag p.val (by decide)).trans hreq
      · have hstate : n.portUp p.val = m1.portUp p.val :=
          (congrArg (· == 2) (hdrift.get p.val (by decide))).trans (hup.trans (congrArg (· == 2) (get_of_regs (withPrt_regs m1 _) _ _)))
        exact hstate.trans (congrArg (· == 2) ((hget p.val rfl).trans hst))
      · rw [hdrift.prt, hprt', withPrt_prt, hprt]
      · rw [hdrift.buf, hbuf', withPrt_buf, hbuf]

end Sys2Proof.Machine
end

section
/-! SUPPORT. Cut-through and the internal sources (R18, R147, R150, R151): what a frame at its ingress decision leaves of those arriving, the
end of one, and the frame that an internal source brings. -/

namespace Sys2Proof.Machine

/-! ### The ingress decision -/

/-- What an arriving frame is at its decision: its octets, its symbol error, whether it is gone or sent cut-through, and its targets. -/
def Arriving.decided (a : Arriving) : List Byte × Bool × Bool × Bool × List (Nat × Option Nat) :=
  (a.received, a.symErr, a.gone, a.ct, a.targets)

theorem keeps_heldFrames_iff {m n : Mod} : Keeps heldFrames m n ↔
    n.buf.frames = m.buf.frames ∧ n.buf.arriving = m.buf.arriving ∧ n.buf.tx = m.buf.tx := by
  simp [Keeps, heldFrames]

/-- The cells of an arriving frame change its charge alone. -/
theorem writeArriving_decided (m : Mod) (p t : Nat) :
    (m.writeArriving p t).buf.tx = m.buf.tx ∧ (m.writeArriving p t).buf.frames = m.buf.frames ∧
    (lookup (m.writeArriving p t).buf.arriving p).map Arriving.decided = (lookup m.buf.arriving p).map Arriving.decided := by
  unfold Mod.writeArriving
  cases h : lookup m.buf.arriving p with
  | none => exact ⟨rfl, rfl, by rw [h]⟩
  | some a =>
    simp -zeta only
    extract_lets come n w
    obtain ⟨hframes, -, htx⟩ := keeps_heldFrames_iff.1 (charges_heldFrames.writeCells m a.frame n)
    split
    · exact ⟨rfl, rfl, by rw [h]⟩
    · exact ⟨htx, hframes, by rw [withBuf_buf, lookup_store_self]; rfl⟩

/-- A frame that goes on store-and-forward is still arriving, with the targets of its decision. -/
theorem ctHolds_decided (m : Mod) (p : Nat) (a : Arriving) :
    (m.ctHolds p a).buf.tx = m.buf.tx ∧ (m.ctHolds p a).buf.frames = m.buf.frames ∧
    (lookup (m.ctHolds p a).buf.arriving p).map Arriving.decided = some a.decided := by
  unfold Mod.ctHolds
  extract_lets n
  have hn : n.buf = m.buf := Keeps.ite (g := Mod.buf) _ (told_bump m _ _).buf rfl
  have htxs : n.buf.tx = m.buf.tx := congrArg BufSt.tx hn
  have hheld : n.buf.frames = m.buf.frames := congrArg BufSt.frames hn
  obtain ⟨htx, hframes, harriving⟩ :=
    writeArriving_decided (n.withBuf { n.buf with arriving := store n.buf.arriving p a }) p n.now
  rw [withBuf_buf] at htx hframes harriving
  exact ⟨htx.trans htxs, hframes.trans hheld,
    harriving.trans (congrArg (Option.map _) (lookup_store_self _ p a))⟩

/-- Where the path is not open, or the ingress sampler draws the frame (R150, R238). -/
theorem ctSettles_holds {m : Mod} {p : Nat} {d : Decision} (a : Arriving)
    (h : m.ctDecide d = none ∨ ((m.ctDecide d).isSome = true ∧ (m.drawIn p).1 = true)) :
    (m.ctSettles p d a).buf.tx = m.buf.tx ∧ (m.ctSettles p d a).buf.frames = m.buf.frames ∧
    (lookup (m.ctSettles p d a).buf.arriving p).map Arriving.decided = some a.decided := by
  unfold Mod.ctSettles
  rcases h with hnone | ⟨hsome, hdrawn⟩
  · rw [hnone]
    exact ctHolds_decided m p a
  · obtain ⟨⟨dst, g⟩, hdst⟩ := Option.isSome_iff_exists.1 hsome
    rw [hdst]
    simp only [hdrawn, if_true]
    obtain ⟨htx, hframes, harriving⟩ := ctHolds_decided (m.drawIn p).2 p { a with frame := { a.frame with sampled := some true } }
    obtain ⟨hframes', -, htx'⟩ := keeps_heldFrames_iff.1 (charges_heldFrames.toMinor.drawIn m p)
    exact ⟨htx.trans htx', hframes.trans hframes', harriving⟩

/-- Where the path is open and the sampler does not draw it, the frame starts at once (R150). -/
theorem ctSettles_sends {m : Mod} {p dst : Nat} {d : Decision} {g : Frame} (a : Arriving) (h : m.ctDecide d = some (dst, g))
    (hdrawn : (m.drawIn p).1 = false) :
    (m.ctSettles p d a).buf.tx = ((m.drawIn p).2.ctSend { g with sampled := some false } dst).2.buf.tx ∧
    (lookup (m.ctSettles p d a).buf.arriving p).map Arriving.decided = some { a with ct := true }.decided := by
  unfold Mod.ctSettles
  rw [h]
  simp only [hdrawn]
  refine ⟨rfl, ?_⟩
  exact congrArg (Option.map _) (lookup_store_self _ p _)

/-- The ingress decision on a frame that the pipeline lets go on. -/
theorem ctIngressDecision_goesOn {m m1 : Mod} {p : Nat} (hup : m.portUp p = true) (hfree : lookup m.buf.arriving p = none) {o : List Byte}
    (symErr : Bool) {ago : Nat} (hlen : 64 ≤ o.length) (hctl : isControl o = false) {d d1 : Decision}
    (hgoes : m.ingress { m.arrived p o false (m.rxStamp ago).1 with
      octets := o.take (m.get PRT_PORT_CFG_MAX_FRAME p), early := true } none false (m.rxStamp ago).2 = (some d, m1))
    (hd1 : d1 = { d with frame := { d.frame with early := false, epoch := m1.get BUF_HEDGE_STATUS_EPOCH d.frame.hedge } }) :
    ∃ a : Arriving, m.ctIngressDecision p o symErr ago = m1.ctSettles p d1 a ∧ a.decided = (o, symErr, false, false, d.targets) := by
  unfold Mod.ctIngressDecision
  rw [if_neg (by simp [hup, hfree]), if_neg (by simp [hctl]; omega)]
  extract_lets s maxFrame f r n a
  have hsome : r.1 = some d := congrArg Prod.fst hgoes
  have hn : n = m1 := congrArg Prod.snd hgoes
  subst hd1
  simp only [hsome]
  rw [← hn]
  exact ⟨_, rfl, rfl⟩

/-! ### The end of an arriving frame -/

/-- The end of a frame that has had its decision, once it is taken from those arriving (R51, R147, R151). -/
theorem ctFrameEnd_arriving {m m1 : Mod} {p : Nat} {a : Arriving} {c : RxClass} {w f : Frame} (fault : ReadFault)
    (ha : lookup m.buf.arriving p = some a) (hc : rxClassOf a.maxFrame a.received a.symErr = c)
    (hm1 : m1 = (m.countRx p a.received a.symErr c).withBuf { m.buf with arriving := remove m.buf.arriving p })
    (hw : w = m1.arrived p a.received (decide (a.maxFrame < a.received.length)) a.frame.stamp a.maxFrame)
    (hf : f = { a.frame with octets := w.octets, trunc := w.trunc, carry := w.carry, recvLen := w.recvLen }) :
    m.ctFrameEnd p fault =
      if a.gone then m1.goneEnds p w c
      else if a.ct then m1.ctFinish a ((a.targets.map (·.1)).headD 0) f c fault
      else if c ≠ .good ∧ c ≠ .oversize then m1.freeCharge f
      else if f.epoch ≠ m1.get BUF_HEDGE_STATUS_EPOCH f.hedge then (m1.discardFrame f 11).freeCharge f
      else m1.letIn f a.group a.targets a.fail := by
  unfold Mod.ctFrameEnd
  simp -zeta only [ha]
  subst hc hf hw hm1
  rfl

/-! ### Internal sources -/

/-- A cluster's oldest waiting frame enters (R18). -/
theorem internalInject_cluster {m : Mod} {c : Fin 4} {i : Inject} {l1 l2 : List (Nat × Inject)}
    (h : m.buf.inject = l1 ++ (130 + c.val, i) :: l2) (hl1 : ∀ e ∈ l1, e.1 ≠ 130 + c.val) :
    m.internalInject (.cluster c) = (m.withBuf { m.buf with inject := l1 ++ l2 }).enter i.frame i.named i.classed := by
  have hnone : l1.find? (fun e => e.1 == 130 + c.val) = none := List.find?_eq_none.2 fun e he => by simpa using hl1 e he
  have hfind : m.buf.inject.find? (fun e => e.1 == 130 + c.val) = some (130 + c.val, i) := by
    rw [h, List.find?_append, hnone, Option.none_or, List.find?_cons_of_pos (by simp)]
  have herase : m.buf.inject.erase (130 + c.val, i) = l1 ++ l2 := by
    rw [h, List.erase_append_right _ fun hmem => hl1 _ hmem rfl, List.erase_cons_head]
  unfold Mod.internalInject
  simp only [hfind, herase]

theorem internalInject_cluster_none {m : Mod} {c : Fin 4} (h : ∀ e ∈ m.buf.inject, e.1 ≠ 130 + c.val) :
    m.internalInject (.cluster c) = m := by
  have hnone : m.buf.inject.find? (fun e => e.1 == 130 + c.val) = none := List.find?_eq_none.2 fun e he => by simpa using h e he
  unfold Mod.internalInject
  simp only [hnone]

/-! ### The obligation -/

/-- Settles O19: each case is a branch of the ingress decision, of the arriving frame's end or of the source's injection; that CT_FRAME_END
at a port where no frame arrives changes nothing is log 4's choice. -/
theorem cutThroughAndInjection : Obligations.CutThroughAndInjection := by
  refine ⟨⟨fun s p o e ago d d1 m0 m1 hs hm0 hup hfree hlen hctl hgoes hd1 => ?_, fun s p x hs hnone => ?_,
    fun s p x a c m1 w f hs ha hc hm1 hw hf => ?_⟩,
    fun s hs => ⟨fun h vid o => ⟨fun hmaster => ?_, fun hmaster => ?_, fun hsup => ?_, fun hsup => ?_⟩,
    fun c i l1 l2 hwait hl1 => ?_, fun c hnone => ?_⟩⟩
  · subst hm0
    have hup' := (fecSeen_portUp s.m p.val p.val e).trans hup
    have hfree' : lookup (s.m.fecSeen p.val e).buf.arriving p.val = none := by rw [fecSeen_buf, hfree]
    obtain ⟨a, heq, ha⟩ := ctIngressDecision_goesOn hup' hfree' e.symbol hlen hctl hgoes hd1
    have hdoes := does_act (exec_ctIngressDecision p o e ago s) hs heq
    simp only [Arriving.decided, Prod.mk.injEq] at ha
    obtain ⟨hreceived, hsym, hgone, hct, htargets⟩ := ha
    refine ⟨fun dst g hopen hdrawn => ?_, fun hheld => ?_⟩
    · obtain ⟨htx, harriving⟩ := ctSettles_sends a hopen hdrawn
      refine yields_of_does hdoes ⟨htx, harriving.trans ?_⟩
      simp [Arriving.decided, hreceived, hsym, hgone, htargets]
    · obtain ⟨htx, hframes, harriving⟩ := ctSettles_holds a hheld
      refine yields_of_does hdoes ⟨htx, hframes, harriving.trans ?_⟩
      simp [Arriving.decided, hreceived, hsym, hgone, hct, htargets]
  · refine does_act (exec_ctFrameEnd p x s) hs ?_
    unfold Mod.ctFrameEnd
    rw [hnone]
  · have heq := ctFrameEnd_arriving x ha hc hm1 hw hf
    refine ⟨fun hgone => ?_, fun hgone hct => ?_, fun hgone hct hgood hepoch => ?_, fun hgone hct hgood hepoch => ?_, fun hgone hct hg ho => ?_⟩
    · exact does_act (exec_ctFrameEnd p x s) hs (heq.trans (if_pos hgone))
    · exact does_act (exec_ctFrameEnd p x s) hs (by rw [heq]; simp [hgone, hct])
    · exact does_act (exec_ctFrameEnd p x s) hs (by rw [heq]; rcases hgood with rfl | rfl <;> simp [hgone, hct, hepoch])
    · exact does_act (exec_ctFrameEnd p x s) hs (by rw [heq]; rcases hgood with rfl | rfl <;> simp [hgone, hct, hepoch])
    · exact does_act (exec_ctFrameEnd p x s) hs (by rw [heq]; simp [hgone, hct, hg, ho])
  · exact does_act (exec_internalInject (.host h vid o) s) hs (congrArg Mod.settleEnds (if_pos hmaster))
  · exact does_act (exec_internalInject (.host h vid o) s) hs (congrArg Mod.settleEnds (if_neg (by rw [hmaster]; decide)))
  · exact does_act (exec_internalInject (.sup h vid o) s) hs (congrArg Mod.settleEnds (if_neg (by rw [hsup]; decide)))
  · exact does_act (exec_internalInject (.sup h vid o) s) hs (congrArg Mod.settleEnds (if_pos hsup))
  · exact does_act (exec_internalInject (.cluster c) s) hs (congrArg Mod.settleEnds (internalInject_cluster hwait hl1))
  · exact does_act (exec_internalInject (.cluster c) s) hs (congrArg Mod.settleEnds (internalInject_cluster_none hnone))

end Sys2Proof.Machine
end

section
/-! SUPPORT. The scheduler's choice at a front port (R182, R184, R194 to R196) and the departure of a copy (R61, R144, R228). -/

namespace Sys2Proof.Machine

/-! ### What starts -/

theorem starts_none {m m1 : Mod} {p : Nat} (h : m.choose p = (none, m1)) : m.starts p = (none, m1) := by
  unfold Mod.starts
  rw [h]

theorem starts_free {m m1 : Mod} {p : Nat} {c : Candidate} (h : m.choose p = (some c, m1)) (hshaper : m.portShaperHolds p c = false)
    (hguard : m.guardHolds p c = false) : m.starts p = (some c, m1) := by
  unfold Mod.starts
  simp only [h, hshaper, hguard]
  rfl

/-- A copy that is held leaves the boundary to a due launch head; with none, nothing starts (R182, R196). -/
theorem starts_held_empty {m m1 m0 : Mod} {p : Nat} {c : Candidate} (h : m.choose p = (some c, m1))
    (hheld : (m.portShaperHolds p c || m.guardHolds p c) = true) (hm0 : m0 = if m.portShaperHolds p c = true then m else m.countGuard p c)
    (hnone : c.source = none ∨ (m0.choose p true).1 = none) : m.starts p = (none, m0) := by
  unfold Mod.starts
  simp only [h]
  rw [if_neg (by simpa [Bool.or_eq_true, imp_iff_not_or] using hheld), ← hm0]
  rcases hnone with hsource | hlaunch
  · exact if_pos (by rw [hsource]; rfl)
  · obtain ⟨x, hx⟩ : ∃ x, m0.choose p true = (none, x) := ⟨_, Prod.ext hlaunch rfl⟩
    rw [hx]
    exact ite_self _

theorem starts_launch {m m1 m0 m2 : Mod} {p : Nat} {c y : Candidate} (h : m.choose p = (some c, m1))
    (hheld : (m.portShaperHolds p c || m.guardHolds p c) = true) (hm0 : m0 = if m.portShaperHolds p c = true then m else m.countGuard p c)
    (hsource : c.source.isSome = true) (hlaunch : m0.choose p true = (some y, m2)) :
    m.starts p = if m0.guardHolds p y then (none, m0.countGuard p y) else (some y, m2) := by
  unfold Mod.starts
  simp only [h]
  rw [if_neg (by simpa [Bool.or_eq_true, imp_iff_not_or] using hheld), ← hm0,
    if_neg (by simpa [Option.isSome_iff_ne_none] using hsource), hlaunch]

/-! ### EGRESS_SELECT at a front port -/

theorem egressSelect_front {m : Mod} {d : Nat} (hd : d < 128) (x : ReadFault) : m.egressSelect d x = m.selectPort d x := if_pos hd

theorem selectPort_busy {m : Mod} {p : Nat} (h : m.transmitterFree p = false ∨ m.pfcDue p = true) (x : ReadFault) : m.selectPort p x = m :=
  if_pos h

/-- A boundary at which the transmitter is free and no PFC frame leaves is given to what starts (R182). -/
theorem selectPort_none {m n : Mod} {p : Nat} (hfree : m.transmitterFree p = true) (hpfc : m.pfcDue p = false)
    (h : m.starts p = (none, n)) (x : ReadFault) : m.selectPort p x = n := by
  unfold Mod.selectPort
  rw [if_neg (by simp [hfree, hpfc]), h]

theorem selectPort_some {m n : Mod} {p : Nat} {c : Candidate} (hfree : m.transmitterFree p = true) (hpfc : m.pfcDue p = false)
    (h : m.starts p = (some c, n)) (x : ReadFault) : m.selectPort p x =
      if m.flag PRT_PORT_STATUS_LPI_TX p then (m.set PRT_PORT_STATUS_LPI_TX p 0).emit (.lpi p false) else n.sendCandidate p c x := by
  unfold Mod.selectPort
  rw [if_neg (by simp [hfree, hpfc]), h]

/-! ### The departure of a copy -/

/-- The counters, the record and the transmit-stamp job of a copy that has left destination d (R61, R228, R235). -/
def Mod.copyLeft (m : Mod) (d : Nat) (f : Frame) (t : Tx) : Mod :=
  let m := if d < 128 then
      let m := m.countTx d t.octets t.tagged
      let m := if t.launched then m.bump (m.schCtr d 0) else m
      m.withPrt { m.prt with idleSince := store m.prt.idleSince d m.now }
    else if d = 128 ∧ f.exc.isSome then m.hedgeCause f.hedge 1 else m
  let m := m.clipCopyLeft f d t.clip t.carry (t.octets.take (t.octets.length - 4)) t.start
  match f.tsJob with
  | some c => if d < 128 then m.stampJob f d c t.start else m
  | none => m

/-- What leaves destination d: a frame on the wire, or a delivery. -/
def leaving (d : Nat) (f : Frame) (t : Tx) : Output := if d < 128 then .frame d t.octets else .deliver d f.hedge t.octets

/-- Time brought to the end of the transmission at destination d, which transmits nothing afterwards. -/
def Mod.txEnded (m : Mod) (d : Nat) (t : Tx) : Mod :=
  (m.advanceTo t.ends).withBuf { (m.advanceTo t.ends).buf with tx := remove (m.advanceTo t.ends).buf.tx d }

theorem copyDeparted_read {m : Mod} {d : Nat} {t : Tx} {f : Frame} (ht : lookup m.buf.tx d = some t)
    (hct : (t.ct && m.buf.arriving.any fun e => e.2.ct && e.2.id == t.copy.frame) = false) (hf : t.read = some f) :
    m.copyDeparted d = ((m.txEnded d t).emit (leaving d f t)).copyLeft d f t := by
  unfold Mod.copyDeparted
  simp -zeta only [ht]
  rw [if_neg (by simpa [Bool.and_eq_true] using hct)]
  simp -zeta only [hf]
  unfold Mod.copyLeft leaving
  by_cases hd : d < 128
  · simp only [if_pos hd]
    rfl
  · simp only [if_neg hd]
    rfl

/-- What the departure of a copy leaves: as counters and records do, with a Hedge's cause, the port's idle time and the count of stamp
jobs. -/
structure Departs (R : Mod → Mod → Prop) : Prop extends Minor R where
  cause : ∀ m h n, R m (m.hedgeCause h n)
  idle : ∀ m x, R m (m.withPrt { m.prt with idleSince := x })
  stamps : ∀ m x, x.cycles = m.time.cycles → R m (m.withTime x)

section
variable {R : Mod → Mod → Prop} (hR : Departs R)
include hR

theorem Departs.pushIj (m : Mod) (c : Nat) (j : Job) : R m (m.pushIj c j) := by
  unfold Mod.pushIj
  exact rel_ite (hR.bump m _ 1) (hR.cl m _ _)

theorem Departs.stampFields (m : Mod) (f : Frame) : R m (m.stampFields f).2 ∧ (m.stampFields f).2.time = m.time := by
  unfold Mod.stampFields
  split
  · exact ⟨hR.refl m, rfl⟩
  · exact ⟨hR.free m, freshNat_time m⟩

theorem Departs.stampCounted (m : Mod) (f : Frame) (k : Nat) : R m ((m.stampFields f).2.withTime { m.time with stampJobs := k }) := by
  obtain ⟨hids, htime⟩ := hR.stampFields m f
  exact hR.trans hids (hR.stamps _ _ (congrArg TimeSt.cycles htime).symm)

theorem Departs.stampJob (m : Mod) (f : Frame) (p c ttx : Nat) : R m (m.stampJob f p c ttx) := by
  unfold Mod.stampJob
  extract_lets _ n ids job
  have hn : R m n := rel_ite (hR.refl m) (hR.stamps m _ rfl)
  clear_value n
  refine hR.trans hn (rel_ite (rel_ite ?_ ?_) ?_)
  · exact hR.trans (hR.stampFields n f).1 (hR.pushIj ids.2 c job)
  · exact hR.trans (hR.trans (hR.stampCounted n f _) (hR.bump _ _ 1)) (hR.pushIj _ c job)
  · exact hR.trans (hR.trans (hR.bump n _ 1) (hR.sqc _ 0 (by decide))) (hR.rated _ _ _)

theorem Departs.copyLeft (m : Mod) (d : Nat) (f : Frame) (t : Tx) : R m (m.copyLeft d f t) := by
  unfold Mod.copyLeft
  extract_lets m1 m2 _ m3 m4
  have h2 : R m m2 := hR.trans (hR.countTx m d _ _) (rel_ite (hR.bump m1 _ 1) (hR.refl m1))
  have h3 : R m m3 := rel_ite (hR.trans h2 (hR.idle m2 _)) (rel_ite (hR.cause m _ 1) (hR.refl m))
  have h4 : R m m4 := hR.trans h3 (hR.clipCopyLeft m3 f d _ _ _ _)
  split
  · exact rel_ite (hR.trans h4 (hR.stampJob m4 f d _ _)) h4
  · exact h4

end

theorem departs_lasting : Departs (Keeps lasting) where
  toMinor := discards_lasting.toMinor
  cause m h n := by
    have told := told_hedgeCause m h n
    exact keeps_lasting_iff.2 ⟨by rw [told.buf], by rw [told.prt], told.fwd, told.cls, congrArg TimeSt.cycles told.time⟩
  idle m x := keeps_lasting_iff.2 ⟨rfl, rfl, rfl, rfl, rfl⟩
  stamps m x hx := keeps_lasting_iff.2 ⟨rfl, rfl, rfl, rfl, hx⟩

theorem departs_outlasts : Departs Outlasts where
  toMinor := minor_outlasts
  cause := outlasts_hedgeCause
  idle m _ := outlasts_evt (withPrt_evt m _)
  stamps m x _ := outlasts_evt (withTime_evt m x)

/-- The end of a transmission frees its destination (R144). -/
theorem txEnded_shows (m : Mod) (d : Nat) (t : Tx) : lookup (m.txEnded d t).buf.tx d = none ∧ (m.txEnded d t).now = Nat.max m.now t.ends ∧
    (m.txEnded d t).fwd = m.fwd ∧ (m.txEnded d t).cls = m.cls := by
  obtain ⟨-, -, hfwd, hcls, -⟩ := advance_lasting m (t.ends - m.now)
  unfold Mod.txEnded
  exact ⟨by simp [lookup_remove], now_advanceTo m t.ends, hfwd, hcls⟩

/-- A copy that has been read has left: its destination is free, and its octets are out (R144). -/
theorem copyDeparted_leaves {m : Mod} {d : Nat} {t : Tx} {f : Frame} (ht : lookup m.buf.tx d = some t)
    (hct : (t.ct && m.buf.arriving.any fun e => e.2.ct && e.2.id == t.copy.frame) = false) (hf : t.read = some f) :
    lookup (m.copyDeparted d).buf.tx d = none ∧ (m.copyDeparted d).now = Nat.max m.now t.ends ∧
    leaving d f t ∈ (m.copyDeparted d).evt.out ∧ (m.copyDeparted d).fwd = m.fwd ∧ (m.copyDeparted d).cls = m.cls := by
  rw [copyDeparted_read ht hct hf]
  obtain ⟨hfree, hnow, hfwd, hcls⟩ := txEnded_shows m d t
  obtain ⟨htx, -, hfwd', hcls', hnow'⟩ := keeps_lasting_iff.1 (departs_lasting.copyLeft ((m.txEnded d t).emit (leaving d f t)) d f t)
  refine ⟨(congrArg (lookup · d) htx).trans hfree, hnow'.trans hnow, ?_, hfwd'.trans hfwd, hcls'.trans hcls⟩
  exact departs_outlasts.copyLeft _ d f t _ (mem_emit _ _)

/-! ### The obligation -/

/-- Settles O20: what starts at a boundary decides EGRESS_SELECT, and what counters and records leave decides COPY_DEPARTED; that an event
that cannot happen changes nothing, and that COPY_DEPARTED brings the time to its instant, is log 4's choice. -/
theorem copiesLeaveAPort : Obligations.CopiesLeaveAPort := by
  refine ⟨fun s d x hs => ⟨fun hd hbusy => ?_, fun hd hfree hpfc => ⟨fun m1 h => ?_,
      fun c m1 h hshaper hguard => ⟨fun hlpi => ?_, fun hlpi => ?_⟩,
      fun c m1 m0 h hheld hm0 => ⟨fun hnone => ?_, fun y m2 hsource hlaunch => ⟨fun hguard => ?_, fun hguard hlpi => ?_⟩⟩⟩,
    fun hlo hhi htx => ?_, fun hd => ?_⟩,
    fun s d hs => ⟨fun hnone => ?_, fun t ht hct => ?_, fun t f ht hct hf => ?_⟩⟩
  · exact does_act (exec_egressSelect d x s) hs ((egressSelect_front hd x).trans (selectPort_busy hbusy x))
  · exact does_act (exec_egressSelect d x s) hs ((egressSelect_front hd x).trans (selectPort_none hfree hpfc (starts_none h) x))
  · have hstart := selectPort_some hfree hpfc (starts_free h hshaper hguard) x
    exact does_act (exec_egressSelect d x s) hs ((egressSelect_front hd x).trans (hstart.trans (if_pos hlpi)))
  · have hstart := selectPort_some hfree hpfc (starts_free h hshaper hguard) x
    exact does_act (exec_egressSelect d x s) hs ((egressSelect_front hd x).trans (hstart.trans (if_neg (by simp [hlpi]))))
  · have hstart := selectPort_none hfree hpfc (starts_held_empty h hheld hm0 hnone) x
    exact does_act (exec_egressSelect d x s) hs ((egressSelect_front hd x).trans hstart)
  · have hstart := selectPort_none hfree hpfc ((starts_launch h hheld hm0 hsource hlaunch).trans (if_pos hguard)) x
    exact does_act (exec_egressSelect d x s) hs ((egressSelect_front hd x).trans hstart)
  · have hstart := selectPort_some hfree hpfc ((starts_launch h hheld hm0 hsource hlaunch).trans (if_neg (by simp [hguard]))) x
    exact does_act (exec_egressSelect d x s) hs ((egressSelect_front hd x).trans (hstart.trans (if_neg (by simp [hlpi]))))
  · have hint : s.m.egressSelect d.val x = s.m.selectInternal d.val x := (if_neg (by omega)).trans (if_pos hhi)
    exact does_act (exec_egressSelect d x s) hs (hint.trans (if_pos htx))
  · exact does_act (exec_egressSelect d x s) hs ((if_neg (by omega)).trans (if_neg (by omega)))
  · refine does_act (exec_copyDeparted d s) hs ?_
    unfold Mod.copyDeparted
    rw [hnone]
  · refine does_act (exec_copyDeparted d s) hs ?_
    unfold Mod.copyDeparted
    rw [ht]
    exact if_pos (by simpa [Bool.and_eq_true] using hct)
  · obtain ⟨hfree, hnow, hout, hfwd, hcls⟩ := copyDeparted_leaves ht hct hf
    refine yields_of_does (does_act (exec_copyDeparted d s) hs rfl) ⟨hfree, hnow, rfl, fun hd => ?_, fun hd => ?_, hfwd, hcls⟩
    · exact (if_pos hd : leaving d.val f t = _) ▸ hout
    · exact (if_neg (by omega) : leaving d.val f t = _) ▸ hout

end Sys2Proof.Machine
end

section
/-! SUPPORT. Window commands that are accepted (R372): what the command's register and the busy windows then show. -/

namespace Sys2Proof.Machine

/-- A field that a write sets takes its value in a command's word (R5). -/
theorem of_writable {r : Reg} {g : Fld} (old v : Word) (h : settableField r g = true) : g.of (writable r old v) = g.of v :=
  of_onto .pf 0 v old h

/-- BUSY, of one bit, and STATUS are fields of the command register r. -/
def answerFields (r : Reg) (busy st : Fld) : Bool :=
  decide (busy.reg = r) && decide (st.reg = r) && decide (busy.width = 1) && decide (busy.lo + busy.width ≤ 64) &&
    decide (st.lo + st.width ≤ 64)

/-- A command just accepted is the last of the busy windows, and its register reads BUSY: it replies wherever these two have stayed. -/
theorem replies_of_winBegin {m n : Mod} {win : WinId} {r : Reg} {i : Nat} {busy st : Fld} {w : Word} {status : Nat}
    {data : List (Reg × Nat × Word)} {walk : Nat} {rule : Option (Nat × Nat × Rule)} (hf : answerFields r busy st = true)
    (hs : status < 2 ^ st.width) (hwin : n.win = (m.winBegin win r i busy st w status data walk rule).win)
    (hreg : n.rd r i = (m.winBegin win r i busy st w status data walk rule).rd r i) : n.replies win st i status data = true := by
  simp only [answerFields, Bool.and_eq_true, decide_eq_true_eq] at hf
  obtain ⟨⟨⟨⟨hbusy, hst⟩, hbit⟩, hb64⟩, hs64⟩ := hf
  subst hst
  have hshown : n.flag ⟨st.reg, busy.lo, 1⟩ i = true := by
    refine flag_of_get (v := 1) ?_
    have hone : (⟨st.reg, busy.lo, 1⟩ : Fld) = busy := by rw [← hbusy, ← hbit]
    rw [hone, Mod.get, hbusy, hreg]
    unfold Mod.winBegin
    rw [rd_wr, of_put _ _ _ hb64, hbit]
    rfl
  have hstatus : st.of (st.put w status) = status := (of_put _ _ _ hs64).trans (Nat.mod_eq_of_lt hs)
  unfold Mod.replies
  rw [hwin]
  simp +contextual [Mod.winBegin, hshown, hstatus]

end Sys2Proof.Machine
end

section
/-! SUPPORT. The classifier's rules (R81, R87 to R91): what a command of CLS_RULE_CMD does to them, and what its answer shows. -/

namespace Sys2Proof.Machine

/-! ### What refusals, drift and staging leave -/

/-- What the classifier's refusals, drift from the image and staged writes leave: the windows, the classifier, the tables, the buffer, the
slices' configurations and the command registers. -/
def ruleShown (m : Mod) : (WinSt × ClsSt × FwdSt × BufSt) × (Nat → Word) × (Nat → Word) :=
  ((m.win, m.cls, m.fwd, m.buf), fun i => m.rd .CLS_SLICE_CFG i, fun i => m.rd .CLS_RULE_CMD i)

theorem keeps_ruleShown_iff {m n : Mod} : Keeps ruleShown m n ↔
    (n.win = m.win ∧ n.cls = m.cls ∧ n.fwd = m.fwd ∧ n.buf = m.buf) ∧ (∀ i, n.rd .CLS_SLICE_CFG i = m.rd .CLS_SLICE_CFG i) ∧
      ∀ i, n.rd .CLS_RULE_CMD i = m.rd .CLS_RULE_CMD i := by
  simp [Keeps, ruleShown, funext_iff]

theorem DriftTold.tick {m n : Mod} (h : DriftTold m n) : n.tick = m.tick := h.part Mod.tick

theorem DriftTold.ruleShown {m n : Mod} (h : DriftTold m n) : Keeps ruleShown m n :=
  keeps_ruleShown_iff.2 ⟨⟨h.part Mod.win, h.cls, h.fwd, h.buf⟩, fun i => h.rd i rfl, fun i => h.rd i rfl⟩

theorem ruleShown_wr (m : Mod) (r : Reg) (i : Nat) (w : Word) (hs : Reg.apart .CLS_SLICE_CFG r = true)
    (hc : Reg.apart .CLS_RULE_CMD r = true) : Keeps ruleShown m (m.wr r i w) := by
  refine keeps_ruleShown_iff.2 ⟨⟨?_, ?_, ?_, ?_⟩, fun j => rd_wr_ne m r _ i j w hs, fun j => rd_wr_ne m r _ i j w hc⟩
  all_goals simp

/-- A status bit set and its event leave all that, where the bit's register does. -/
theorem ruleShown_sqc_event (m : Mod) (f : Fld) (i : Nat) (e : Ev) (hs : Reg.apart .CLS_SLICE_CFG f.reg = true)
    (hc : Reg.apart .CLS_RULE_CMD f.reg = true) : Keeps ruleShown m ((m.sqc f i).event e) :=
  Keeps.trans (by unfold Mod.sqc Mod.sqcBit; exact ruleShown_wr m f.reg i _ hs hc) (told_event _ e).driftTold.ruleShown

theorem ruleShown_stageOverflow (m : Mod) : Keeps ruleShown m m.stageOverflow :=
  Keeps.trans (by unfold Mod.satAdd Mod.set; exact ruleShown_wr m .GLB_TICK_STATUS 0 _ rfl rfl)
    (ruleShown_sqc_event _ GLB_TICK_STATUS_STAGE_OVERFLOW 0 _ rfl rfl)

theorem ruleShown_stage (m : Mod) (key : StageKey) (value : Nat) : Keeps ruleShown m (m.stage key value) := by
  have hover (x : TickSt) : Keeps ruleShown m (m.withTick x).stageOverflow := ruleShown_stageOverflow (m.withTick x)
  unfold Mod.stage
  exact .ite _ (.ite _ (.refl m) (.ite _ (hover _) rfl)) (.ite _ (.refl m) (.ite _ (hover _) rfl))

/-! ### Rules of a slice that is not paired -/

/-- The module with other rules. -/
def Mod.withRules (m : Mod) (l : List (Nat × Rule)) : Mod := m.withCls { m.cls with rules := l }

/-- A rule as one slice holds it: 320 bits of key and of mask (R81). -/
def Rule.narrow (x : Rule) : Rule := { x with key := x.key % 2 ^ 320, mask := x.mask % 2 ^ 320 }

section
variable {m : Mod} {s : Nat} (h : m.flag CLS_SLICE_CFG_PAIR s = false)
include h

theorem rule_withRules (l : List (Nat × Rule)) (i : Nat) : (m.withRules l).rule s i = lookup l (2048 * s + i) := by
  have hpair : (m.withRules l).flag CLS_SLICE_CFG_PAIR s = false := h
  unfold Mod.rule
  rw [hpair]
  rfl

/-- A rule put in its slice stands there, and no other rule changes (R88). -/
theorem putRule_unpaired (i : Nat) (x : Rule) : (m.putRule s i x).rule s i = some x.narrow ∧
    ∀ k, k ≠ 2048 * s + i → lookup (m.putRule s i x).cls.rules k = lookup m.cls.rules k := by
  have hput : m.putRule s i x = m.withRules (store m.cls.rules (2048 * s + i) x.narrow) := by
    unfold Mod.putRule
    rw [h]
    rfl
  rw [hput]
  exact ⟨(rule_withRules h _ i).trans (lookup_store_self _ _ _), fun k hk => lookup_store_ne _ _ hk⟩

/-- A rule removed is gone, and no other rule changes (R88). -/
theorem dropRule_unpaired (i : Nat) : (m.dropRule s i).rule s i = none ∧
    ∀ k, k ≠ 2048 * s + i → lookup (m.dropRule s i).cls.rules k = lookup m.cls.rules k := by
  have hdrop : m.dropRule s i = m.withRules (remove m.cls.rules (2048 * s + i)) := by
    unfold Mod.dropRule
    rw [h]
    rfl
  rw [hdrop]
  exact ⟨(rule_withRules h _ i).trans ((lookup_remove _ _ _).trans (if_pos rfl)), fun k hk => (lookup_remove _ _ _).trans (if_neg hk)⟩

end

/-! ### What changes rules alone -/

/-- The module without its classifier and its windows. -/
def offRules (m : Mod) : Mod := { m with cls := {}, win := {} }

theorem offRules_putRule (m : Mod) (s i : Nat) (x : Rule) : Keeps offRules m (m.putRule s i x) := by
  unfold Mod.putRule
  exact .ite _ rfl rfl

theorem offRules_dropRule (m : Mod) (s i : Nat) : Keeps offRules m (m.dropRule s i) := by
  unfold Mod.dropRule
  exact .ite _ rfl rfl

theorem offRules_ruleLands (m : Mod) (c : WinCmd) : Keeps offRules m (m.ruleLands c) := by
  unfold Mod.ruleLands
  split
  · exact offRules_putRule m _ _ _
  · exact .refl m

/-- Forced writes that reach their entries change the classifier and the windows alone (R89). -/
theorem offRules_rulesLand (m : Mod) (s : Nat) : Keeps offRules m (m.rulesLand s) :=
  Keeps.trans (Keeps.foldl Mod.ruleLands offRules_ruleLands _ m) rfl

theorem parts_of_offRules {m n : Mod} (h : Keeps offRules m n) : n.regs = m.regs ∧ n.fwd = m.fwd ∧ n.buf = m.buf :=
  ⟨(congrArg Mod.regs h :), (congrArg Mod.fwd h :), (congrArg Mod.buf h :)⟩

theorem rulesLand_regs (m : Mod) (s : Nat) : (m.rulesLand s).regs = m.regs := (parts_of_offRules (offRules_rulesLand m s)).1

theorem rulesLand_flag (m : Mod) (s : Nat) (f : Fld) (i : Nat) : (m.rulesLand s).flag f i = m.flag f i :=
  congrArg (· == 1) (get_of_regs (rulesLand_regs m s) f i)

theorem rulesLand_pairedOdd (m : Mod) (s k : Nat) : (m.rulesLand s).pairedOdd k = m.pairedOdd k :=
  congrArg (k % 2 == 1 && ·) (rulesLand_flag m s CLS_SLICE_CFG_PAIR (k - 1))

theorem rulesLand_ruleWords (m : Mod) (s : Nat) (r : Reg) (n : Nat) : (m.rulesLand s).ruleWords r n = m.ruleWords r n := by
  unfold Mod.ruleWords
  simp only [rd_of_regs (rulesLand_regs m s)]

/-! ### What the block answers -/

/-- The module of a command of CLS_RULE_CMD that has been answered. -/
def Mod.ruleAnswered (m : Mod) (p : Path) (w : Word) (status : Nat) (data : List (Reg × Nat × Word) := [])
    (rule : Option (Nat × Nat × Rule) := none) : Mod :=
  m.winAnswer p (.cls (pathNum p)) .CLS_RULE_CMD (pathNum p) CLS_RULE_CMD_BUSY CLS_RULE_CMD_STATUS w status (status != 0) data
    (rule := rule)

/-- The rule in the registers of path n. -/
def Mod.ruleStaged (m : Mod) (n : Nat) : Rule where
  key := m.ruleWords .CLS_RULE_KEY n
  mask := m.ruleWords .CLS_RULE_MASK n
  act := BitVec.ofNat 64 ((m.rd .CLS_RULE_ACT n).toNat % 2 ^ 16)
  valid := true

theorem rulesLand_ruleStaged (m : Mod) (s n : Nat) : (m.rulesLand s).ruleStaged n = m.ruleStaged n := by
  unfold Mod.ruleStaged
  simp only [rulesLand_ruleWords, rd_of_regs (rulesLand_regs m s)]

/-- A slice of 24 or above is status 4 (R91), once the forced writes to it have landed. -/
theorem ruleWindow_noSlice {m : Mod} (p : Path) {w : Word} (h : 24 ≤ CLS_RULE_CMD_SLICE.of w) :
    m.ruleWindow p w = (m.rulesLand (CLS_RULE_CMD_SLICE.of w)).ruleAnswered p w 4 := by
  simp [Mod.ruleWindow, Mod.ruleAnswered, h]

/-- A command word names entry i of slice s, by a path with module-wide rights; the slice is no odd half of a pair. -/
structure RuleNamed (m : Mod) (p : Path) (w : Word) (s i : Nat) : Prop where
  wide : vfHedge p = none
  slice : CLS_RULE_CMD_SLICE.of w = s
  index : CLS_RULE_CMD_INDEX.of w = i
  below : s < 24
  even : m.pairedOdd s = false

section
variable {m : Mod} {p : Path} {w : Word} {s i : Nat} (h : RuleNamed m p w s i)
include h

theorem ruleWindow_read (hop : CLS_RULE_CMD_OP.of w = 2) : m.ruleWindow p w =
    (m.rulesLand s).ruleAnswered p w 0 (ruleRegs (pathNum p) (((m.rulesLand s).rule s i).getD ⟨0, 0, 0, false⟩)) := by
  obtain ⟨hp, rfl, rfl, hlt, hodd⟩ := h
  simp [Mod.ruleWindow, Mod.ruleAnswered, hp, hop, Nat.not_le.2 hlt, rulesLand_pairedOdd, hodd]

theorem ruleWindow_invalidate (hop : CLS_RULE_CMD_OP.of w = 3) :
    m.ruleWindow p w = ((m.rulesLand s).dropRule s i).ruleAnswered p w 0 := by
  obtain ⟨hp, rfl, rfl, hlt, hodd⟩ := h
  simp [Mod.ruleWindow, Mod.ruleAnswered, hp, hop, Nat.not_le.2 hlt, rulesLand_pairedOdd, hodd]

section
variable (hop : CLS_RULE_CMD_OP.of w = 1) (hact : actReserved (m.rd .CLS_RULE_ACT (pathNum p)) = false)
include hop hact

/-- A WRITE to an entry that is not valid puts the rule there. -/
theorem ruleWindow_write (hold : (m.rulesLand s).rule s i = none) :
    m.ruleWindow p w = ((m.rulesLand s).putRule s i (m.ruleStaged (pathNum p))).ruleAnswered p w 0 := by
  rw [← rulesLand_ruleStaged m s]
  obtain ⟨hp, rfl, rfl, hlt, hodd⟩ := h
  simp [Mod.ruleWindow, Mod.ruleAnswered, Mod.ruleStaged, hp, hop, Nat.not_le.2 hlt, rulesLand_pairedOdd, hodd, hact, hold,
    rd_of_regs (rulesLand_regs m _)]

/-- A WRITE with FORCE to a valid entry removes its rule, and the new one waits (R89). -/
theorem ruleWindow_force (hold : ((m.rulesLand s).rule s i).isSome = true) (hforce : CLS_RULE_CMD_FORCE.of w = 1) :
    m.ruleWindow p w = ((m.rulesLand s).dropRule s i).ruleAnswered p w 0 [] (some (s, i, m.ruleStaged (pathNum p))) := by
  rw [← rulesLand_ruleStaged m s]
  obtain ⟨hp, rfl, rfl, hlt, hodd⟩ := h
  simp [Mod.ruleWindow, Mod.ruleAnswered, Mod.ruleStaged, hp, hop, Nat.not_le.2 hlt, rulesLand_pairedOdd, hodd, hact, hold, hforce,
    rd_of_regs (rulesLand_regs m _)]

/-- A WRITE without FORCE to a valid entry is status 1. -/
theorem ruleWindow_occupied (hold : ((m.rulesLand s).rule s i).isSome = true) (hforce : CLS_RULE_CMD_FORCE.of w = 0) :
    m.ruleWindow p w = (m.rulesLand s).ruleAnswered p w 1 := by
  obtain ⟨hp, rfl, rfl, hlt, hodd⟩ := h
  simp [Mod.ruleWindow, Mod.ruleAnswered, hp, hop, Nat.not_le.2 hlt, rulesLand_pairedOdd, hodd, hact, hold, hforce]

end

end

/-! ### The answer -/

/-- What t shows of a command of path n that the block has answered with the module m: its status and data, the rule it leaves waiting, and
the classifier, tables and buffer of m; a refused one shows in CLS_EVENT. -/
structure RuleReply (m t : Mod) (n status : Nat) (data : List (Reg × Nat × Word)) (rule : Option (Nat × Nat × Rule)) : Prop where
  replies : t.replies (.cls n) CLS_RULE_CMD_STATUS n status data = true
  waits : t.win.busy.getLast?.map (·.rule) = some rule
  cls : t.cls = m.cls
  fwd : t.fwd = m.fwd
  buf : t.buf = m.buf
  slices : ∀ i, t.rd .CLS_SLICE_CFG i = m.rd .CLS_SLICE_CFG i
  refused : status ≠ 0 → t.flag CLS_EVENT_REFUSED = true

theorem RuleReply.rule {m t : Mod} {n status : Nat} {data : List (Reg × Nat × Word)} {rule : Option (Nat × Nat × Rule)}
    (h : RuleReply m t n status data rule) (s i : Nat) : t.rule s i = m.rule s i := by
  have hpair : t.flag CLS_SLICE_CFG_PAIR s = m.flag CLS_SLICE_CFG_PAIR s :=
    congrArg (fun w => CLS_SLICE_CFG_PAIR.of w == 1) (h.slices s)
  unfold Mod.rule
  rw [hpair, h.cls]

theorem RuleReply.entry {m t : Mod} {n status : Nat} {data : List (Reg × Nat × Word)} {rule : Option (Nat × Nat × Rule)}
    (h : RuleReply m t n status data rule) (k : Nat) : lookup t.cls.rules k = lookup m.cls.rules k := by rw [h.cls]

theorem ruleAnswered_reply {m t : Mod} {p : Path} {w : Word} {status : Nat} {data : List (Reg × Nat × Word)}
    {rule : Option (Nat × Nat × Rule)} (hs : status < 8) (h : DriftTold (m.ruleAnswered p w status data rule) t) :
    RuleReply m t (pathNum p) status data rule := by
  have hkept : Keeps ruleShown (m.winBegin (.cls (pathNum p)) .CLS_RULE_CMD (pathNum p) CLS_RULE_CMD_BUSY CLS_RULE_CMD_STATUS w status data
      (rule := rule)) t := by
    refine Keeps.trans ?_ h.ruleShown
    unfold Mod.ruleAnswered Mod.winAnswer
    exact .ite _ (ruleShown_sqc_event _ CLS_EVENT_REFUSED 0 _ rfl rfl) (.refl _)
  obtain ⟨⟨hwin, hcls, hfwd, hbuf⟩, hslices, hcmd⟩ := keeps_ruleShown_iff.1 hkept
  refine ⟨replies_of_winBegin (by decide) hs hwin (hcmd _), ?_, ?_, ?_, ?_, ?_, fun hne => ?_⟩
  · simp [hwin, Mod.winBegin]
  · simp [hcls, Mod.winBegin]
  · simp [hfwd, Mod.winBegin]
  · simp [hbuf, Mod.winBegin]
  · exact fun i => (hslices i).trans (rd_wr_ne _ .CLS_RULE_CMD .CLS_SLICE_CFG _ i _ rfl)
  · have hbit : (status != 0) = true := by simpa using hne
    unfold Mod.ruleAnswered Mod.winAnswer at h
    rw [if_pos hbit] at h
    exact (h.flag 0 rfl).trans (((told_event _ _).flag 0 rfl).trans (flag_sqc_bit _ 0 rfl))

/-! ### The command -/

/-- The word of a command with its operation named, as its block takes it. -/
def ruleWord (old v : Word) (op : Nat) : Word := writable .CLS_RULE_CMD old (withOp CLS_RULE_CMD_OP v op)

theorem ruleWord_slice (old v : Word) (op : Nat) : CLS_RULE_CMD_SLICE.of (ruleWord old v op) = CLS_RULE_CMD_SLICE.of v :=
  (of_writable old _ (by decide)).trans (of_put_ne CLS_RULE_CMD_OP CLS_RULE_CMD_SLICE v op (by decide) (by decide))

theorem ruleWord_index (old v : Word) (op : Nat) : CLS_RULE_CMD_INDEX.of (ruleWord old v op) = CLS_RULE_CMD_INDEX.of v :=
  (of_writable old _ (by decide)).trans (of_put_ne CLS_RULE_CMD_OP CLS_RULE_CMD_INDEX v op (by decide) (by decide))

theorem ruleWord_force (old v : Word) (op : Nat) : CLS_RULE_CMD_FORCE.of (ruleWord old v op) = CLS_RULE_CMD_FORCE.of v :=
  (of_writable old _ (by decide)).trans (of_put_ne CLS_RULE_CMD_OP CLS_RULE_CMD_FORCE v op (by decide) (by decide))

theorem ruleWord_op (old v : Word) {op : Nat} (h : op < 8) : CLS_RULE_CMD_OP.of (ruleWord old v op) = op :=
  (of_writable old _ (by decide)).trans ((of_put CLS_RULE_CMD_OP v op (by decide)).trans (Nat.mod_eq_of_lt h))

/-- A command of CLS_RULE_CMD that reaches its block shows the answer the block gives it. -/
theorem yields_rule {c : Instr} {s : State} {p : Path} {v : Word} {op status : Nat} {m : Mod} {data : List (Reg × Nat × Word)}
    {rule : Option (Nat × Nat × Rule)} {P : State → Prop} (hc : exec c s = s.put p .CLS_RULE_CMD 0 (withOp CLS_RULE_CMD_OP v op) none)
    (ho : s.Opened p .CLS_RULE_CMD 0 (pathNum p) (.cls (pathNum p)) (withOp CLS_RULE_CMD_OP v op)) (hs : status < 8)
    (hw : s.m.ruleWindow p (ruleWord (s.m.rd .CLS_RULE_CMD (pathNum p)) v op) =
      m.ruleAnswered p (ruleWord (s.m.rd .CLS_RULE_CMD (pathNum p)) v op) status data rule)
    (hP : ∀ t : State, RuleReply m t.m (pathNum p) status data rule → P t) : Yields c s P := by
  have hexec := hc.trans (put_opened s p _ 0 _ _ _ none ho (by decide))
  refine ⟨_, hexec, hP _ (ruleAnswered_reply (w := ruleWord (s.m.rd .CLS_RULE_CMD (pathNum p)) v op) hs ?_)⟩
  rw [← hw]
  exact driftTold_winDrift _ s.m p _ _

end Sys2Proof.Machine
end

section
/-! SUPPORT. The write to CLS_SLICE_CFG (R92): what a refused and an accepted one leave. -/

namespace Sys2Proof.Machine

/-- A refused slice configuration shows in CLS_EVENT, and leaves the staged sets, the classifier and the slices. -/
theorem sliceRefused_shows (m : Mod) (s h q : Nat) :
    Keeps ruleShown m (m.sliceRefused s h q) ∧ (m.sliceRefused s h q).tick = m.tick ∧
      (m.sliceRefused s h q).flag CLS_EVENT_SLICE_REFUSED = true := by
  have told := told_event (m.sqc CLS_EVENT_SLICE_REFUSED)
  exact ⟨ruleShown_sqc_event m _ 0 _ rfl rfl, (told _).tick.trans (sqc_tick m _ 0), ((told _).flag 0 rfl).trans (flag_sqc_bit m 0 rfl)⟩

section
variable (m : Mod) (p : Path) (i : Nat) (v : Word)

/-- The owner is stored at once, the other fields are staged (R92): the classifier stays as it is. -/
theorem regStore_slice : (m.regStore (wholeWrite p .CLS_SLICE_CFG i v)).cls = m.cls ∧
    (m.regStore (wholeWrite p .CLS_SLICE_CFG i v)).get CLS_SLICE_CFG_OWNER i = CLS_SLICE_CFG_OWNER.of v := by
  have hkept : Keeps ruleShown (m.wr .CLS_SLICE_CFG i (CLS_SLICE_CFG_OWNER.put (m.rd .CLS_SLICE_CFG i) (CLS_SLICE_CFG_OWNER.of v)))
      (m.regStore (wholeWrite p .CLS_SLICE_CFG i v)) := by
    unfold Mod.regStore
    exact .ite _ (.refl _) (.foldl _ (fun n x => ruleShown_stage n _ _) _ _)
  obtain ⟨⟨-, hcls, -⟩, hslices, -⟩ := keeps_ruleShown_iff.1 hkept
  refine ⟨hcls.trans (wr_cls m _ i _), (congrArg CLS_SLICE_CFG_OWNER.of (hslices i)).trans ?_⟩
  rw [rd_wr, of_put _ _ _ (by decide), of_mod]

theorem blockWrite_slice (l : BitVec 5) (x : Option Found) :
    m.blockWrite l (wholeWrite p .CLS_SLICE_CFG i v) x = m.sliceWrite (wholeWrite p .CLS_SLICE_CFG i v) := by
  unfold Mod.blockWrite
  exact if_neg (show ¬ (settable .CLS_SLICE_CFG).isEmpty = true by decide)

variable {m p i v} {new : Word} (hnew : new = m.asWritten (wholeWrite p .CLS_SLICE_CFG i v))
include hnew

theorem sliceWrite_refused (h : m.sliceBar i new ≠ 0) : m.sliceWrite (wholeWrite p .CLS_SLICE_CFG i v) =
    (false, m.sliceRefused i (m.get CLS_SLICE_CFG_OWNER i) (m.sliceBar i new)) := by
  subst hnew
  exact if_pos h

theorem sliceWrite_sameOwner (h : m.sliceBar i new = 0) (ho : CLS_SLICE_CFG_OWNER.of new = m.get CLS_SLICE_CFG_OWNER i) :
    m.sliceWrite (wholeWrite p .CLS_SLICE_CFG i v) = (true, m.regStore (wholeWrite p .CLS_SLICE_CFG i v)) := by
  subst hnew
  exact (if_neg (not_not.2 h)).trans (congrArg (true, ·) (if_pos ho))

/-- Another owner finds the slice without rules, and no forced write waits for it any more. -/
theorem sliceWrite_newOwner (h : m.sliceBar i new = 0) (ho : CLS_SLICE_CFG_OWNER.of new ≠ m.get CLS_SLICE_CFG_OWNER i) :
    (m.sliceWrite (wholeWrite p .CLS_SLICE_CFG i v)).2.cls = { m.cls with rules := m.cls.rules.filter fun e => e.1 / 2048 != i } ∧
      (m.sliceWrite (wholeWrite p .CLS_SLICE_CFG i v)).2.get CLS_SLICE_CFG_OWNER i = CLS_SLICE_CFG_OWNER.of v := by
  obtain ⟨hcls, howner⟩ := regStore_slice m p i v
  have hw : m.sliceWrite (wholeWrite p .CLS_SLICE_CFG i v) = (true, ((m.regStore (wholeWrite p .CLS_SLICE_CFG i v)).rulesLand i).withCls
      { (m.regStore (wholeWrite p .CLS_SLICE_CFG i v)).cls with
        rules := (m.regStore (wholeWrite p .CLS_SLICE_CFG i v)).cls.rules.filter fun e => e.1 / 2048 != i }) := by
    subst hnew
    exact (if_neg (not_not.2 h)).trans (congrArg (true, ·) (if_neg ho))
  rw [hw]
  exact ⟨by rw [withCls_cls, hcls], (get_of_regs (rulesLand_regs _ i) CLS_SLICE_CFG_OWNER i).trans howner⟩

end

/-- A granted write to CLS_SLICE_CFG is its block's answer in the module with the arming spent, and drift from the image. -/
theorem does_sliceCfg {s : State} {p : Path} {sl : Fin 24} {v : Word} (hg : s.Granted p .CLS_SLICE_CFG sl.val sl.val v) :
    ∃ x n, Does (.sliceCfgWrite p sl v) s n ∧
      DriftTold ((s.m.withArm x).sliceWrite (wholeWrite p .CLS_SLICE_CFG sl.val v)).2 n := by
  obtain ⟨x, hx⟩ := spent_eq_withArm s.m p .CLS_SLICE_CFG
  have h := put_granted s p _ sl.val sl.val v none hg
  rw [hx, blockWrite_slice] at h
  exact ⟨x, _, (exec_sliceCfgWrite p sl v s).trans h, driftTold_took _ _ _ _⟩

section
variable {s : State} {p : Path} {sl : Fin 24} {v new : Word} (hg : s.Granted p .CLS_SLICE_CFG sl.val sl.val v)
  (hnew : new = s.m.asWritten (wholeWrite p .CLS_SLICE_CFG sl.val v))
include hg hnew

/-- A write that the checks refuse leaves the rules, the staged sets and the slice. -/
theorem sliceCfgWrite_refused (hbar : s.m.sliceBar sl.val new ≠ 0) : Yields (.sliceCfgWrite p sl v) s fun t =>
    t.m.cls = s.m.cls ∧ t.m.tick = s.m.tick ∧ t.m.rd .CLS_SLICE_CFG sl.val = s.m.rd .CLS_SLICE_CFG sl.val ∧
      t.m.flag CLS_EVENT_SLICE_REFUSED = true := by
  obtain ⟨x, n, hdoes, hdrift⟩ := does_sliceCfg hg
  rw [sliceWrite_refused (m := s.m.withArm x) hnew hbar] at hdrift
  obtain ⟨hkept, htick, hevent⟩ := sliceRefused_shows (s.m.withArm x) sl.val ((s.m.withArm x).get CLS_SLICE_CFG_OWNER sl.val)
    ((s.m.withArm x).sliceBar sl.val new)
  obtain ⟨⟨-, hcls, -⟩, hslices, -⟩ := keeps_ruleShown_iff.1 (hkept.trans hdrift.ruleShown)
  exact yields_of_does hdoes ⟨hcls, hdrift.tick.trans htick, hslices sl.val, (hdrift.flag 0 rfl).trans hevent⟩

theorem sliceCfgWrite_sameOwner (hfine : s.m.sliceBar sl.val new = 0)
    (ho : CLS_SLICE_CFG_OWNER.of new = s.m.get CLS_SLICE_CFG_OWNER sl.val) :
    Yields (.sliceCfgWrite p sl v) s fun t => t.m.cls = s.m.cls := by
  obtain ⟨x, n, hdoes, hdrift⟩ := does_sliceCfg hg
  rw [sliceWrite_sameOwner (m := s.m.withArm x) hnew hfine ho] at hdrift
  obtain ⟨hcls, -⟩ := regStore_slice (s.m.withArm x) p sl.val v
  exact yields_of_does hdoes (hdrift.cls.trans hcls)

theorem sliceCfgWrite_newOwner (hfine : s.m.sliceBar sl.val new = 0)
    (ho : CLS_SLICE_CFG_OWNER.of new ≠ s.m.get CLS_SLICE_CFG_OWNER sl.val) : Yields (.sliceCfgWrite p sl v) s fun t =>
    t.m.cls = { s.m.cls with rules := s.m.cls.rules.filter fun e => e.1 / 2048 != sl.val } ∧
      t.m.get CLS_SLICE_CFG_OWNER sl.val = CLS_SLICE_CFG_OWNER.of v := by
  obtain ⟨x, n, hdoes, hdrift⟩ := does_sliceCfg hg
  obtain ⟨hcls, howner⟩ := sliceWrite_newOwner (m := s.m.withArm x) hnew hfine ho
  exact yields_of_does hdoes ⟨hdrift.cls.trans hcls, (hdrift.get sl.val rfl).trans howner⟩

end

end Sys2Proof.Machine
end

section
/-! SUPPORT. The classifier's rules and slices (R88, R89, R91, R92): the obligation. -/

namespace Sys2Proof.Machine

/-- Settles O27: the block's answer in each case is the module with the rule put, dropped or left, and what its answer, its event and its
drift change is none of the rules; a slice's new owner finds it without rules. -/
theorem classifierRulesAtOnce : Obligations.ClassifierRulesAtOnce := by
  refine ⟨fun s p v n sl i m0 hp hn hsl hi hm0 hlt hodd hpair => ?_, fun s p v n hn hsl ho => ?_, fun s p sl v hg _ new hnew =>
    ⟨sliceCfgWrite_refused hg hnew, sliceCfgWrite_sameOwner hg hnew⟩, fun s p sl v hg new hnew hfine howner => ?_⟩
  · subst hn hm0
    have named (op) : RuleNamed s.m p (ruleWord (s.m.rd .CLS_RULE_CMD (pathNum p)) v op) sl i :=
      ⟨hp, (ruleWord_slice _ v op).trans hsl.symm, (ruleWord_index _ v op).trans hi.symm, hlt, hodd⟩
    have hop {op} (h : op < 8) := ruleWord_op (s.m.rd .CLS_RULE_CMD (pathNum p)) v h
    have hforce := ruleWord_force (s.m.rd .CLS_RULE_CMD (pathNum p)) v 1
    have hland := offRules_rulesLand s.m sl
    have hsingle := (rulesLand_flag s.m sl CLS_SLICE_CFG_PAIR sl).trans hpair
    obtain ⟨hgone, hothers⟩ := dropRule_unpaired hsingle i
    refine ⟨fun ho hact => ⟨fun hold => ?_, fun hold hf => ?_, fun hold hf => ?_⟩, fun ho => ?_, fun ho => ?_⟩
    · have h := ruleWindow_write (named 1) (hop (by decide)) hact hold
      obtain ⟨hput, hkept⟩ := putRule_unpaired hsingle i (s.m.ruleStaged (pathNum p))
      obtain ⟨-, hfwd, hbuf⟩ := parts_of_offRules (hland.trans (offRules_putRule _ sl i (s.m.ruleStaged (pathNum p))))
      exact yields_rule (exec_ruleWrite p v s) ho (by decide) h fun t ht => ⟨ht.replies, (ht.rule sl i).trans hput,
        fun k hk => (ht.entry k).trans (hkept k hk), ht.fwd.trans hfwd, ht.buf.trans hbuf⟩
    · have h := ruleWindow_force (named 1) (hop (by decide)) hact hold (hforce.trans hf)
      obtain ⟨-, hfwd, hbuf⟩ := parts_of_offRules (hland.trans (offRules_dropRule _ sl i))
      exact yields_rule (exec_ruleWrite p v s) ho (by decide) h fun t ht => ⟨ht.replies, (ht.rule sl i).trans hgone, ht.waits,
        fun k hk => (ht.entry k).trans (hothers k hk), ht.fwd.trans hfwd, ht.buf.trans hbuf⟩
    · have h := ruleWindow_occupied (named 1) (hop (by decide)) hact hold (hforce.trans hf)
      exact yields_rule (exec_ruleWrite p v s) ho (by decide) h fun t ht => ⟨ht.replies, ht.cls, ht.refused (by decide)⟩
    · have h := ruleWindow_read (named 2) (hop (by decide))
      exact yields_rule (exec_ruleRead p v s) ho (by decide) h fun t ht => ⟨ht.replies, ht.cls⟩
    · have h := ruleWindow_invalidate (named 3) (hop (by decide))
      exact yields_rule (exec_ruleInvalidate p v s) ho (by decide) h fun t ht => ⟨ht.replies, (ht.rule sl i).trans hgone,
        fun k hk => (ht.entry k).trans (hothers k hk)⟩
  · subst hn
    have hs := ruleWord_slice (s.m.rd .CLS_RULE_CMD (pathNum p)) v 3
    have h := ruleWindow_noSlice (m := s.m) p (hsl.trans_eq hs.symm)
    rw [hs] at h
    exact yields_rule (exec_ruleInvalidate p v s) ho (by decide) h fun t ht => ⟨ht.replies, ht.cls⟩
  · obtain ⟨t, hexec, hcls, hset⟩ := sliceCfgWrite_newOwner hg hnew hfine howner
    exact ⟨t, hexec, (congrArg ClsSt.rules hcls :), hset, (congrArg ClsSt.nodes hcls :), (congrArg ClsSt.trans hcls :)⟩

end Sys2Proof.Machine
end

section
/-! SUPPORT. INSERT of the FDB window (R107, R108, R372) where it does not answer as R372 says. -/

namespace Sys2Proof.Machine

/-- An INSERT by the physical function reaches the FDB of a module at reset. -/
theorem reset_opens_fdbInsert : State.reset.Opened .pf .FDB_WIN_CMD 0 0 (.fdb 0) (withOp FDB_WIN_CMD_OP 0 1) where
  running := by decide +kernel
  arrives := by decide +kernel
  placed := by decide +kernel
  aligned := by decide +kernel
  special := by decide +kernel
  free := by decide +kernel
  right := by decide +kernel
  open_ := by decide
  defined := by decide +kernel
  present := by decide +kernel
  named := by decide +kernel

/-- A command's next state shows a status of the physical function's FDB window. -/
def fdbStatusShown (o : Host.Outcome State Fault Refusal) (status : Nat) : Bool :=
  match o with
  | .next t => t.m.replies (.fdb 0) FDB_WIN_CMD_STATUS 0 status []
  | _ => false

/-- At reset no Hedge has a quota, and an INSERT of a new key is refused for it: STATUS takes the location 0, and LOC the 3 that STATUS
should take. -/
theorem fdbInsert_reset_status : fdbStatusShown (exec (.fdbInsert .pf 0) State.reset) 3 = false := by decide +kernel

/-- Refutes O28: INSERT answers with its location in STATUS and its status in LOC. A module at reset has no quota for Hedge 0, its FDB holds
no key, and INSERT of the key 0 shows STATUS 0 in the place of 3. -/
theorem not_fdbByKeyAndByLocation : ¬ Obligations.FdbByKeyAndByLocation := by
  intro h
  obtain ⟨hinsert, -⟩ := h State.reset .pf 0 0 (State.reset.m.fdbData 0) rfl rfl rfl
  obtain ⟨-, -, hnew⟩ := hinsert reset_opens_fdbInsert _ rfl
  have hfull : State.reset.m.get FDB_HEDGE_CFG_QUOTA (fidHedge (feFid ((2 ^ 127 ||| State.reset.m.fdbData 0) &&& fdbMask))) ≤
      State.reset.m.fdbCount (fidHedge (feFid ((2 ^ 127 ||| State.reset.m.fdbData 0) &&& fdbMask))) := by decide +kernel
  obtain ⟨hquota, -⟩ := hnew (by decide +kernel) (by decide +kernel)
  obtain ⟨t, hexec, hreply, -⟩ := hquota hfull
  have hshown := fdbInsert_reset_status
  rw [hexec] at hshown
  exact Bool.false_ne_true (hshown.symm.trans hreply)

end Sys2Proof.Machine
end

section
/-! SUPPORT. Sparse tables whose entries are filtered by key, or written past a default. -/

namespace Sys2Proof.Machine

section
variable {α : Type}

/-- A table without the keys that f refuses. -/
theorem lookup_filter_key (f : Nat → Bool) (l : List (Nat × α)) (x : Nat) :
    lookup (l.filter fun e => f e.1) x = if f x then lookup l x else none := by
  induction l with
  | nil => simp [lookup]
  | cons a t ih =>
    obtain ⟨k, v⟩ := a
    by_cases hk : k = x
    · subst hk
      cases hf : f k <;> simp [List.filter, lookup, hf, ih]
    · cases hf : f k <;> simp [List.filter, lookup, hf, hk, ih]

theorem lookup_remove_ne (l : List (Nat × α)) {x y : Nat} (h : y ≠ x) : lookup (remove l x) y = lookup l y := by
  rw [lookup_remove, if_neg h]

theorem lookup_storeUnless_ne [DecidableEq α] (d : α) (l : List (Nat × α)) {x y : Nat} (a : α) (h : y ≠ x) :
    lookup (storeUnless d l x a) y = lookup l y := by
  unfold storeUnless
  split
  · exact lookup_remove_ne l h
  · exact lookup_store_ne l a h

theorem lookupD_storeUnless_self [DecidableEq α] (d : α) (l : List (Nat × α)) (x : Nat) (a : α) :
    lookupD (storeUnless d l x a) x d = a := by rw [lookupD_storeUnless, if_pos rfl]

end

end Sys2Proof.Machine
end

section
/-! SUPPORT. The windows of the direct-indexed tables and of the routes (R372): what an answered command shows, and what its event and its
drift leave. -/

namespace Sys2Proof.Machine

/-- The command registers of these windows, and LPM_STATUS. -/
def tableRegs : List Reg := [.FDB_TBL_CMD, .LPM_WIN_CMD, .LPM_STATUS]

/-- The window sets with their command registers. -/
def tableCommand (win : WinId) (r : Reg) : Bool :=
  match win with
  | .tbl _ => r == .FDB_TBL_CMD
  | .lpm _ => r == .LPM_WIN_CMD
  | _ => false

theorem tableCommand_reg {win : WinId} {r : Reg} (h : tableCommand win r = true) :
    r ∈ tableRegs ∧ Reg.apart .LPM_STATUS r = true := by
  unfold tableCommand at h
  split at h
  · rw [eq_of_beq h]
    decide
  · rw [eq_of_beq h]
    decide
  · exact absurd h Bool.false_ne_true

/-- What a command's event and its drift leave: the windows, the tables and these registers. -/
def tablesShown (m : Mod) : (WinSt × FwdSt) × ({ r : Reg // r ∈ tableRegs } → Nat → Word) := ((m.win, m.fwd), fun r i => m.rd r i)

theorem keeps_tablesShown_iff {m n : Mod} : Keeps tablesShown m n ↔
    (n.win = m.win ∧ n.fwd = m.fwd) ∧ ∀ r ∈ tableRegs, ∀ i, n.rd r i = m.rd r i := by
  simp [Keeps, tablesShown, funext_iff]

theorem portReg_of_tableRegs {r : Reg} (h : r ∈ tableRegs) : portReg r = true := by
  revert r
  decide

theorem DriftTold.tablesShown {m n : Mod} (h : DriftTold m n) : Keeps tablesShown m n :=
  keeps_tablesShown_iff.2 ⟨⟨h.part Mod.win, h.fwd⟩, fun _ hr i => h.rd i (portReg_of_tableRegs hr)⟩

/-- A status bit set in another register, and its event. -/
theorem tablesShown_sqc_event (m : Mod) (f : Fld) (e : Ev) (hr : ∀ r ∈ tableRegs, r.apart f.reg = true) :
    Keeps tablesShown m ((m.sqc f).event e) := by
  refine Keeps.trans ?_ (told_event _ e).driftTold.tablesShown
  exact keeps_tablesShown_iff.2 ⟨⟨sqc_win m f 0, sqc_fwd m f 0⟩, fun r hmem i => rd_sqc_ne m f r 0 i (hr r hmem)⟩

/-- The event of a refused command leaves all that. -/
theorem tablesShown_winRefused (m : Mod) (p : Path) {win : WinId} {r : Reg} (w : Word) (status : Nat) (h : tableCommand win r = true) :
    Keeps tablesShown m (m.winRefused p win w status) := by
  cases win with
  | tbl n => exact tablesShown_sqc_event m FDB_EVENT_REFUSED _ (by decide)
  | lpm n => exact tablesShown_sqc_event m LPM_EVENT_REFUSED _ (by decide)
  | _ => exact absurd h Bool.false_ne_true

/-- What t shows of a command of element i that its block has answered with the module m: its status and data, and the tables of m and
whether GRACE stands. -/
structure TableReply (m t : Mod) (win : WinId) (st : Fld) (i status : Nat) (data : List (Reg × Nat × Word)) : Prop where
  replies : t.replies win st i status data = true
  fwd : t.fwd = m.fwd
  grace : t.flag LPM_STATUS_GRACE = m.flag LPM_STATUS_GRACE

/-- The command just accepted, its event and its drift: what they show. -/
theorem tableReply_of_answer {m t : Mod} {p : Path} {win : WinId} {r : Reg} {i : Nat} {busy st : Fld} {w : Word} {status : Nat}
    {refused : Bool} {data : List (Reg × Nat × Word)} (hwin : tableCommand win r = true) (hf : answerFields r busy st = true)
    (hs : status < 2 ^ st.width) (h : DriftTold (m.winAnswer p win r i busy st w status refused data) t) :
    TableReply m t win st i status data := by
  obtain ⟨hmem, hap⟩ := tableCommand_reg hwin
  have hkept : Keeps tablesShown (m.winBegin win r i busy st w status data) t := by
    refine Keeps.trans ?_ h.tablesShown
    unfold Mod.winAnswer
    exact .ite _ (tablesShown_winRefused _ p w status hwin) (.refl _)
  obtain ⟨⟨hw, hfwd⟩, hregs⟩ := keeps_tablesShown_iff.1 hkept
  have hgrace : t.rd .LPM_STATUS = m.rd .LPM_STATUS :=
    (hregs .LPM_STATUS (by decide) 0).trans (rd_wr_ne _ r .LPM_STATUS i 0 _ hap)
  refine ⟨replies_of_winBegin hf hs hw (hregs r hmem i), ?_, congrArg (fun x => LPM_STATUS_GRACE.of x == 1) hgrace⟩
  simp [hfwd, Mod.winBegin]

/-! ### The command -/

/-- The word of a command with the operation in field f named, as its block takes it. -/
def commandWord (f : Fld) (old v : Word) (op : Nat) : Word := writable f.reg old (withOp f v op)

theorem of_commandWord {f g : Fld} (old v : Word) (op : Nat) (hg : settableField f.reg g = true) (h64 : f.lo + f.width ≤ 64)
    (hd : f.lo + f.width ≤ g.lo ∨ g.lo + g.width ≤ f.lo) : g.of (commandWord f old v op) = g.of v :=
  (of_writable old _ hg).trans (of_put_ne f g v op h64 hd)

theorem op_commandWord {f : Fld} (old v : Word) {op : Nat} (hf : settableField f.reg f = true) (h64 : f.lo + f.width ≤ 64)
    (h : op < 2 ^ f.width) : f.of (commandWord f old v op) = op :=
  (of_writable old _ hf).trans ((of_put f v op h64).trans (Nat.mod_eq_of_lt h))

/-- A command of one of these windows that reaches its block shows the answer the block gives it. -/
theorem yields_table {c : Instr} {s : State} {p : Path} {v w : Word} {win : WinId} {n op status : Nat} {f busy st : Fld} {m : Mod}
    {refused : Bool} {data : List (Reg × Nat × Word)} {P : State → Prop} (hc : exec c s = s.put p f.reg 0 (withOp f v op) none)
    (ho : s.Opened p f.reg 0 n win (withOp f v op)) (hwin : tableCommand win f.reg = true) (hf : answerFields f.reg busy st = true)
    (hs : status < 2 ^ st.width)
    (hw : s.m.winCommand p f.reg n (commandWord f (s.m.rd f.reg n) v op) true [] =
      m.winAnswer p win f.reg n busy st w status refused data)
    (hP : ∀ t : State, TableReply m t.m win st n status data → P t) : Yields c s P := by
  have hgrf : f.reg ≠ .GRF_CMD := by
    intro e
    rw [e] at hwin
    exact absurd (tableCommand_reg hwin).1 (by decide)
  have hdrift : DriftTold (m.winAnswer p win f.reg n busy st w status refused data)
      ((s.m.winCommand p f.reg n (writable f.reg (s.m.rd f.reg n) (withOp f v op)) true []).winDrift s.m p f.reg (withOp f v op)) := by
    rw [← hw]
    exact driftTold_winDrift _ s.m p _ _
  exact ⟨_, hc.trans (put_opened s p _ 0 _ _ _ none ho hgrf), hP _ (tableReply_of_answer hwin hf hs hdrift)⟩

end Sys2Proof.Machine
end


section
/-! SUPPORT. The direct-indexed tables (R101, R137): what a command of FDB_TBL_CMD answers. -/

namespace Sys2Proof.Machine

theorem tbl_setTbl_self (m : Mod) (t i v : Nat) : (m.setTbl t i v).tbl t i = v := lookupD_storeUnless_self _ _ _ _

theorem lookup_setTbl_ne (m : Mod) (t i v : Nat) {k : Nat} (h : k ≠ tblKey t i) : lookup (m.setTbl t i v).fwd.tbl k = lookup m.fwd.tbl k :=
  lookup_storeUnless_ne _ _ _ h

theorem tbl_of_fwd {m n : Mod} (h : n.fwd = m.fwd) (t i : Nat) : n.tbl t i = m.tbl t i := by
  unfold Mod.tbl
  rw [h]

/-- The module of a command of FDB_TBL_CMD that has been answered. -/
def Mod.tblAnswered (m : Mod) (p : Path) (w : Word) (status : Nat) (data : List (Reg × Nat × Word) := []) : Mod :=
  m.winAnswer p (.tbl (pathNum p)) .FDB_TBL_CMD (pathNum p) FDB_TBL_CMD_BUSY FDB_TBL_CMD_STATUS w status (status != 0) data

/-- A command word names entry i of table t, within its range, by a path with module-wide rights. -/
structure EntryNamed (p : Path) (w : Word) (t i : Nat) : Prop where
  wide : vfHedge p = none
  table : FDB_TBL_CMD_TABLE.of w = t
  index : FDB_TBL_CMD_INDEX.of w = i
  below : i < (tblShape t).1

section
variable {m : Mod} {p : Path} {w : Word} {t i : Nat} (h : EntryNamed p w t i)
include h

/-- An entry without a reserved encoding, in the first table with a FID of the same Hedge, is put at its index (R101, R528). -/
theorem tableWindow_write (hop : FDB_TBL_CMD_OP.of w = 1) {e : Nat}
    (he : e = m.dataWords .FDB_TBL_DATA (5 * pathNum p) (tblShape t).2 &&& tblMask t) (hres : tblReserved t e = false)
    (hfid : t = 0 → bit e 63 = true → fidHedge (bits e 62 49) = i / 4096) : m.tableWindow p w = (m.setTbl t i e).tblAnswered p w 0 := by
  obtain ⟨hp, rfl, rfl, hlt⟩ := h
  have hother : (FDB_TBL_CMD_TABLE.of w == 0 && bit e 63 && fidHedge (bits e 62 49) != FDB_TBL_CMD_INDEX.of w / 4096) = false := by
    rw [Bool.and_eq_false_iff, Bool.and_eq_false_iff]
    by_cases ht : FDB_TBL_CMD_TABLE.of w = 0
    · cases hb : bit e 63
      · exact .inl (.inr rfl)
      · exact .inr (by simp [hfid ht hb])
    · exact .inl (.inl (by simpa using ht))
  subst he
  simp only [Mod.tableWindow, Mod.tblAnswered]
  simp only [hp, hop, Nat.not_le.2 hlt, hres, hother, Option.any_none, beq_self_eq_true, Bool.true_and, Bool.false_eq_true, if_false,
    if_true, and_self]
  rfl

theorem tableWindow_read (hop : FDB_TBL_CMD_OP.of w = 2) :
    m.tableWindow p w = m.tblAnswered p w 0 (wordRegs .FDB_TBL_DATA (5 * pathNum p) (tblShape t).2 (m.tbl t i)) := by
  obtain ⟨hp, rfl, rfl, hlt⟩ := h
  simp [Mod.tableWindow, Mod.tblAnswered, hp, hop, Nat.not_le.2 hlt]

end

/-- A command of FDB_TBL_CMD that reaches its block shows the answer the block gives it. -/
theorem yields_tbl {c : Instr} {s : State} {p : Path} {v w : Word} {op : Nat} {m : Mod} {data : List (Reg × Nat × Word)} {P : State → Prop}
    (hc : exec c s = s.put p .FDB_TBL_CMD 0 (withOp FDB_TBL_CMD_OP v op) none)
    (ho : s.Opened p .FDB_TBL_CMD 0 (pathNum p) (.tbl (pathNum p)) (withOp FDB_TBL_CMD_OP v op))
    (hw : s.m.tableWindow p (commandWord FDB_TBL_CMD_OP (s.m.rd .FDB_TBL_CMD (pathNum p)) v op) = m.tblAnswered p w 0 data)
    (hP : ∀ t : State, TableReply m t.m (.tbl (pathNum p)) FDB_TBL_CMD_STATUS (pathNum p) 0 data → P t) : Yields c s P :=
  yields_table (f := FDB_TBL_CMD_OP) (busy := FDB_TBL_CMD_BUSY) hc ho rfl (by decide) (by decide) hw hP

end Sys2Proof.Machine
end

section
/-! SUPPORT. The routes (R131 to R133): what a trie entry, an associative slot and an emptied node leave of the others, and what a command of
LPM_WIN_CMD answers. -/

namespace Sys2Proof.Machine

/-! ### Trie entries -/

theorem grace_shows (m : Mod) : m.grace.flag LPM_STATUS_GRACE = true ∧ m.grace.fwd = { m.fwd with graceEnd := m.now + 1000 } :=
  ⟨flag_set_bit _ 0 1 rfl, set_fwd _ _ _ _⟩

section
variable {m : Mod} {key : Nat} {w : Word}

/-- A trie entry whose child stays is written, and no more (R132). -/
theorem trieWrite_sameChild (h : trieChild (lookupD m.fwd.trie key 0) = trieChild w) :
    m.trieWrite key w = m.withFwd { m.fwd with trie := storeUnless 0 m.fwd.trie key w } := if_pos h

theorem trieWrite_otherChild (h : trieChild (lookupD m.fwd.trie key 0) ≠ trieChild w) :
    m.trieWrite key w = (m.withFwd { m.fwd with trie := storeUnless 0 m.fwd.trie key w }).grace := if_neg h

end

/-- A trie write puts its entry, and changes no more of the tables than the end of the grace. -/
theorem trieWrite_fwd (m : Mod) (key : Nat) (w : Word) :
    ∃ e, (m.trieWrite key w).fwd = { m.fwd with trie := storeUnless 0 m.fwd.trie key w, graceEnd := e } := by
  by_cases h : trieChild (lookupD m.fwd.trie key 0) = trieChild w
  · exact ⟨_, congrArg Mod.fwd (trieWrite_sameChild h)⟩
  · exact ⟨_, (congrArg Mod.fwd (trieWrite_otherChild h)).trans (grace_shows _).2⟩

/-- CLEAR_NODE of a pool node leaves what is not its own (R132). -/
theorem clearPool_trie (m : Mod) (node : Nat) : (m.clearPool node).fwd.trie =
    m.fwd.trie.filter fun e => !(decide (trieKey 1 node 0 ≤ e.1) && decide (e.1 < trieKey 1 node 0 + 256)) := by
  unfold Mod.clearPool
  extract_lets lo gone child x n
  split
  · exact congrArg FwdSt.trie (grace_shows n).2
  · rfl

/-! ### Associative slots -/

/-- A valid associative entry, and a valid one of IPv6 (R133). -/
def slotValid (e : Word × Word × Word) : Bool := bit e.1.toNat 63
/-- See slotValid. -/
def slotSix (e : Word × Word × Word) : Bool := slotValid e && bit e.1.toNat 58

section
variable (m : Mod) (i : Nat) (e : Word × Word × Word)

/-- What an associative write takes of the slots beside it (R133, log 70). -/
def slotsLeft : List (Nat × (Word × Word × Word)) :=
  if slotSix e then m.fwd.assoc.filter fun x => !(decide (i < x.1) && decide (x.1 < i + 4))
  else if slotValid e && decide (i - i % 4 ≠ i) && (lookup m.fwd.assoc (i - i % 4)).any slotSix then remove m.fwd.assoc (i - i % 4)
  else m.fwd.assoc

theorem assocWrite_eq : m.assocWrite i e = m.withFwd { m.fwd with assoc := storeUnless (0, 0, 0) (slotsLeft m i e) i e } := rfl

/-- The slots of another group of four stay. -/
theorem lookup_slotsLeft_apart {k : Nat} (hal : slotSix e = true → i % 4 = 0) (hk : k / 4 ≠ i / 4) :
    lookup (slotsLeft m i e) k = lookup m.fwd.assoc k := by
  unfold slotsLeft
  split
  · rename_i hsix
    have hout : (!(decide (i < k) && decide (k < i + 4))) = true := by
      have := hal hsix
      simp only [Bool.not_eq_true', Bool.and_eq_false_iff, decide_eq_false_iff_not]
      omega
    rw [lookup_filter_key (fun x => !(decide (i < x) && decide (x < i + 4))), if_pos hout]
  · split
    · exact lookup_remove_ne _ (by omega)
    · rfl

/-- A valid IPv6 entry takes the three slots after it. -/
theorem lookup_slotsLeft_six {k : Nat} (hsix : slotSix e = true) (hlo : i < k) (hhi : k < i + 4) : lookup (slotsLeft m i e) k = none := by
  unfold slotsLeft
  rw [if_pos hsix, lookup_filter_key (fun x => !(decide (i < x) && decide (x < i + 4)))]
  simp [hlo, hhi]

/-- An entry that is not valid, or no IPv6 one in a group's first slot, takes no slot. -/
theorem slotsLeft_all (h : slotValid e = false ∨ (slotSix e = false ∧ i % 4 = 0)) : slotsLeft m i e = m.fwd.assoc := by
  unfold slotsLeft
  obtain hv | ⟨hsix, hal⟩ := h
  · simp [slotSix, hv]
  · simp [hsix, hal]

end

/-! ### Words whose low bits are no field -/

theorem div_cleared (a : Nat) {k i : Nat} (h : k ≤ i) : a / 2 ^ k * 2 ^ k / 2 ^ i = a / 2 ^ i := by
  obtain ⟨j, rfl⟩ := Nat.exists_eq_add_of_le h
  rw [pow_add, ← Nat.div_div_eq_div_mul, Nat.mul_div_cancel _ (by positivity), Nat.div_div_eq_div_mul]

/-- A word of a data register with its k low bits cleared. -/
def clearedWord (w : Word) (k : Nat) : Word := BitVec.ofNat 64 (w.toNat / 2 ^ k * 2 ^ k)

section
variable (w : Word) (k : Nat)

theorem clearedWord_toNat : (clearedWord w k).toNat = w.toNat / 2 ^ k * 2 ^ k := by
  rw [clearedWord, BitVec.toNat_ofNat]
  exact Nat.mod_eq_of_lt ((Nat.div_mul_le_self _ _).trans_lt w.isLt)

/-- The bits above them are the register's. -/
theorem bit_clearedWord {i : Nat} (h : k ≤ i) : bit (clearedWord w k).toNat i = bit w.toNat i := by
  rw [clearedWord_toNat, bit, bit, div_cleared _ h]

theorem bits_clearedWord (hi : Nat) {lo : Nat} (h : k ≤ lo) : bits (clearedWord w k).toNat hi lo = bits w.toNat hi lo := by
  rw [clearedWord_toNat, bits, bits, div_cleared _ h]

end

/-! ### Commands -/

/-- The module of a command of LPM_WIN_CMD that has been answered. -/
def Mod.lpmAnswered (m : Mod) (p : Path) (w : Word) (data : List (Reg × Nat × Word) := []) : Mod :=
  m.winAnswer p (.lpm (pathNum p)) .LPM_WIN_CMD (pathNum p) LPM_WIN_CMD_BUSY LPM_WIN_CMD_STATUS w 0 false data

/-- The word of a command carried out, its ENTRY one on under AUTO_INC (R132). -/
def lpmNext (w : Word) : Word :=
  if LPM_WIN_CMD_AUTO_INC.of w = 1 then LPM_WIN_CMD_ENTRY.put w (LPM_WIN_CMD_ENTRY.of w + 1) else w

/-- A command word names a space, a node and an entry, by a path with module-wide rights. -/
structure RouteNamed (p : Path) (w : Word) (sp node entry : Nat) : Prop where
  wide : vfHedge p = none
  space : LPM_WIN_CMD_SPACE.of w = sp
  node : LPM_WIN_CMD_NODE.of w = node
  entry : LPM_WIN_CMD_ENTRY.of w = entry

section
variable {m : Mod} {p : Path} {w : Word} {sp node entry : Nat} (h : RouteNamed p w sp node entry)
include h

section
variable (hr : (sp = 0 ∧ node < 40) ∨ (sp = 1 ∧ node < 32768 ∧ entry < 256))
include hr

theorem lpmWindow_writeTrie (hop : LPM_WIN_CMD_OP.of w = 1)
    (hres : (bit (m.rd .LPM_WIN_DATA (3 * pathNum p)).toNat 62 && bits (m.rd .LPM_WIN_DATA (3 * pathNum p)).toNat 46 45 == 3) = false) :
    m.lpmWindow p w =
      (m.trieWrite (trieKey sp node entry) (clearedWord (m.rd .LPM_WIN_DATA (3 * pathNum p)) 21)).lpmAnswered p (lpmNext w) := by
  obtain ⟨hp, rfl, rfl, rfl⟩ := h
  obtain ⟨hsp, hn⟩ | ⟨hsp, hn, he⟩ := hr
  · simp [Mod.lpmWindow, Mod.lpmAnswered, lpmNext, clearedWord, hp, hop, hsp, hres, Nat.not_le.2 hn]
  · simp [Mod.lpmWindow, Mod.lpmAnswered, lpmNext, clearedWord, hp, hop, hsp, hres, Nat.not_le.2 hn, Nat.not_le.2 he]

theorem lpmWindow_readTrie (hop : LPM_WIN_CMD_OP.of w = 2) :
    m.lpmWindow p w = m.lpmAnswered p (lpmNext w) [(.LPM_WIN_DATA, 3 * pathNum p, lookupD m.fwd.trie (trieKey sp node entry) 0)] := by
  obtain ⟨hp, rfl, rfl, rfl⟩ := h
  obtain ⟨hsp, hn⟩ | ⟨hsp, hn, he⟩ := hr
  · simp [Mod.lpmWindow, Mod.lpmAnswered, lpmNext, hp, hop, hsp, Nat.not_le.2 hn]
  · simp [Mod.lpmWindow, Mod.lpmAnswered, lpmNext, hp, hop, hsp, Nat.not_le.2 hn, Nat.not_le.2 he]

end

theorem lpmWindow_writeSlot (hop : LPM_WIN_CMD_OP.of w = 1) (hsp : sp = 2) (hlt : entry < 32768) {a : Nat}
    (ha : a = (m.rd .LPM_WIN_DATA (3 * pathNum p)).toNat) (hres : (bit a 63 && bits a 49 48 == 3) = false)
    (hal : bit a 58 = true → entry % 4 = 0) :
    m.lpmWindow p w = (m.assocWrite entry (clearedWord (m.rd .LPM_WIN_DATA (3 * pathNum p)) 32, m.rd .LPM_WIN_DATA (3 * pathNum p + 1),
      m.rd .LPM_WIN_DATA (3 * pathNum p + 2))).lpmAnswered p (lpmNext w) := by
  obtain ⟨hp, hspace, rfl, rfl⟩ := h
  subst hsp ha
  have hslot : (bit (m.rd .LPM_WIN_DATA (3 * pathNum p)).toNat 58 && LPM_WIN_CMD_ENTRY.of w % 4 != 0) = false := by
    cases hb : bit (m.rd .LPM_WIN_DATA (3 * pathNum p)).toNat 58
    · rfl
    · simp [hal hb]
  simp [Mod.lpmWindow, Mod.lpmAnswered, lpmNext, clearedWord, hp, hop, hspace, hres, hslot, Nat.not_le.2 hlt]

theorem lpmWindow_clearNode (hop : LPM_WIN_CMD_OP.of w = 3) (hsp : sp = 1) (hn : node < 32768) :
    m.lpmWindow p w = (m.clearPool node).lpmAnswered p w := by
  obtain ⟨hp, hspace, rfl, rfl⟩ := h
  subst hsp
  simp [Mod.lpmWindow, Mod.lpmAnswered, hp, hop, hspace, Nat.not_le.2 hn]

end

/-- A command of LPM_WIN_CMD that reaches its block shows the answer the block gives it. -/
theorem yields_lpm {c : Instr} {s : State} {p : Path} {v w : Word} {op : Nat} {m : Mod} {data : List (Reg × Nat × Word)} {P : State → Prop}
    (hc : exec c s = s.put p .LPM_WIN_CMD 0 (withOp LPM_WIN_CMD_OP v op) none)
    (ho : s.Opened p .LPM_WIN_CMD 0 (pathNum p) (.lpm (pathNum p)) (withOp LPM_WIN_CMD_OP v op))
    (hw : s.m.lpmWindow p (commandWord LPM_WIN_CMD_OP (s.m.rd .LPM_WIN_CMD (pathNum p)) v op) = m.lpmAnswered p w data)
    (hP : ∀ t : State, TableReply m t.m (.lpm (pathNum p)) LPM_WIN_CMD_STATUS (pathNum p) 0 data → P t) : Yields c s P :=
  yields_table (f := LPM_WIN_CMD_OP) (busy := LPM_WIN_CMD_BUSY) hc ho rfl (by decide) (by decide) hw hP

end Sys2Proof.Machine
end

section
/-! SUPPORT. The tables and the routes by their index (R101, R131 to R133, R137): the obligation. -/

namespace Sys2Proof.Machine

/-- What an associative write of IPv6 or not is, by the data register's bits. -/
theorem slotValid_cleared (w a b : Word) : slotValid (clearedWord w 32, a, b) = bit w.toNat 63 := bit_clearedWord w 32 (by decide)

theorem slotSix_cleared (w a b : Word) : slotSix (clearedWord w 32, a, b) = (bit w.toNat 63 && bit w.toNat 58) := by
  rw [slotSix, slotValid_cleared, bit_clearedWord w 32 (by decide)]

section
variable {p : Path} (old v : Word) (op : Nat) (hp : vfHedge p = none)
include hp

theorem entryNamed_commandWord {t i : Nat} (ht : t = FDB_TBL_CMD_TABLE.of v) (hi : i = FDB_TBL_CMD_INDEX.of v) (hlt : i < (tblShape t).1) :
    EntryNamed p (commandWord FDB_TBL_CMD_OP old v op) t i :=
  ⟨hp, (of_commandWord old v op (by decide) (by decide) (by decide)).trans ht.symm,
    (of_commandWord old v op (by decide) (by decide) (by decide)).trans hi.symm, hlt⟩

theorem routeNamed_commandWord {sp node entry : Nat} (hsp : sp = LPM_WIN_CMD_SPACE.of v) (hnode : node = LPM_WIN_CMD_NODE.of v)
    (hentry : entry = LPM_WIN_CMD_ENTRY.of v) : RouteNamed p (commandWord LPM_WIN_CMD_OP old v op) sp node entry :=
  ⟨hp, (of_commandWord old v op (by decide) (by decide) (by decide)).trans hsp.symm,
    (of_commandWord old v op (by decide) (by decide) (by decide)).trans hnode.symm,
    (of_commandWord old v op (by decide) (by decide) (by decide)).trans hentry.symm⟩

end

theorem op_tblWord (old v : Word) {op : Nat} (h : op < 16) : FDB_TBL_CMD_OP.of (commandWord FDB_TBL_CMD_OP old v op) = op :=
  op_commandWord old v (by decide) (by decide) h

theorem op_lpmWord (old v : Word) {op : Nat} (h : op < 4) : LPM_WIN_CMD_OP.of (commandWord LPM_WIN_CMD_OP old v op) = op :=
  op_commandWord old v (by decide) (by decide) h

section
variable {m t : Mod} {win : WinId} {st : Fld} {i status : Nat} {data : List (Reg × Nat × Word)}

/-- A table entry put stands in the reply, and every other one as before. -/
theorem TableReply.setTbl {tt k e : Nat} (h : TableReply (m.setTbl tt k e) t win st i status data) :
    t.tbl tt k = e ∧ (∀ x, x ≠ tblKey tt k → lookup t.fwd.tbl x = lookup m.fwd.tbl x) ∧
      t.fwd.fdb = m.fwd.fdb ∧ t.fwd.trie = m.fwd.trie := by
  refine ⟨(tbl_of_fwd h.fwd tt k).trans (tbl_setTbl_self m tt k e), fun x hx => ?_, ?_, ?_⟩
  · rw [h.fwd]
    exact lookup_setTbl_ne m tt k e hx
  · rw [h.fwd]
    rfl
  · rw [h.fwd]
    rfl

/-- A trie entry written stands in the reply, every other one as before, with the grace of a changed child (R132). -/
theorem TableReply.trieWrite {key : Nat} {x : Word} (h : TableReply (m.trieWrite key x) t win st i status data) :
    lookupD t.fwd.trie key 0 = x ∧ (∀ k, k ≠ key → lookup t.fwd.trie k = lookup m.fwd.trie k) ∧
      (trieChild (lookupD m.fwd.trie key 0) ≠ trieChild x → t.flag LPM_STATUS_GRACE = true ∧ t.fwd.graceEnd = m.now + 1000) ∧
      (trieChild (lookupD m.fwd.trie key 0) = trieChild x → t.fwd.graceEnd = m.fwd.graceEnd) ∧ t.fwd.assoc = m.fwd.assoc := by
  obtain ⟨g, hfwd⟩ := trieWrite_fwd m key x
  refine ⟨?_, fun k hk => ?_, fun hchild => ?_, fun hchild => ?_, ?_⟩
  · rw [h.fwd, hfwd]
    exact lookupD_storeUnless_self _ _ _ _
  · rw [h.fwd, hfwd]
    exact lookup_storeUnless_ne _ _ _ hk
  · rw [trieWrite_otherChild hchild] at h
    obtain ⟨hgrace, hend⟩ := grace_shows (m.withFwd { m.fwd with trie := storeUnless 0 m.fwd.trie key x })
    have hnow : (m.withFwd { m.fwd with trie := storeUnless 0 m.fwd.trie key x }).now = m.now := rfl
    rw [hnow] at hend
    exact ⟨h.grace.trans hgrace, (congrArg FwdSt.graceEnd (h.fwd.trans hend) :)⟩
  · rw [trieWrite_sameChild hchild] at h
    exact (congrArg FwdSt.graceEnd h.fwd :)
  · rw [h.fwd, hfwd]

/-- An associative slot written stands in the reply, with the slots that it takes of its group of four (R133). -/
theorem TableReply.assocWrite {entry : Nat} {e : Word × Word × Word} (h : TableReply (m.assocWrite entry e) t win st i status data)
    (hal : slotSix e = true → entry % 4 = 0) : lookupD t.fwd.assoc entry (0, 0, 0) = e ∧
      (∀ k, k / 4 ≠ entry / 4 → lookup t.fwd.assoc k = lookup m.fwd.assoc k) ∧
      (slotSix e = true → ∀ k, entry < k → k < entry + 4 → lookup t.fwd.assoc k = none) ∧
      ((slotValid e = false ∨ (slotSix e = false ∧ entry % 4 = 0)) →
        ∀ k, k ≠ entry → lookup t.fwd.assoc k = lookup m.fwd.assoc k) ∧
      t.fwd.trie = m.fwd.trie := by
  rw [assocWrite_eq] at h
  have hother {k : Nat} (hk : k ≠ entry) : lookup t.fwd.assoc k = lookup (slotsLeft m entry e) k := by
    rw [h.fwd]
    exact lookup_storeUnless_ne _ _ _ hk
  refine ⟨?_, fun k hk => ?_, fun h6 k hlo hhi => ?_, fun hall k hk => ?_, ?_⟩
  · rw [h.fwd]
    exact lookupD_storeUnless_self _ _ _ _
  · exact (hother fun e => hk (by rw [e])).trans (lookup_slotsLeft_apart _ _ _ hal hk)
  · exact (hother (by omega)).trans (lookup_slotsLeft_six _ _ _ h6 hlo hhi)
  · rw [hother hk, slotsLeft_all m entry e hall]
  · rw [h.fwd]
    rfl

/-- A node emptied shows no entry, and every other node's stand (R132). -/
theorem TableReply.clearPool {node : Nat} (h : TableReply (m.clearPool node) t win st i status data) :
    (∀ k, k < 256 → lookup t.fwd.trie (trieKey 1 node k) = none) ∧
      ∀ k, (k < trieKey 1 node 0 ∨ trieKey 1 node 0 + 256 ≤ k) → lookup t.fwd.trie k = lookup m.fwd.trie k := by
  have hleft (k : Nat) : lookup t.fwd.trie k =
      if !(decide (trieKey 1 node 0 ≤ k) && decide (k < trieKey 1 node 0 + 256)) then lookup m.fwd.trie k else none := by
    rw [h.fwd, clearPool_trie]
    exact lookup_filter_key (fun x => !(decide (trieKey 1 node 0 ≤ x) && decide (x < trieKey 1 node 0 + 256))) _ k
  have hkey (k : Nat) : trieKey 1 node k = trieKey 1 node 0 + k := rfl
  refine ⟨fun k hk => ?_, fun k hk => ?_⟩
  · rw [hleft, hkey k]
    refine if_neg ?_
    simp only [Bool.not_eq_true', Bool.and_eq_false_iff, decide_eq_false_iff_not]
    omega
  · rw [hleft]
    refine if_pos ?_
    simp only [Bool.not_eq_true', Bool.and_eq_false_iff, decide_eq_false_iff_not]
    omega

end

/-- Settles O29: the block's answer in each case is the module with the entry put, the slots taken or the node emptied, and what its answer,
its event and its drift change is none of the tables. That a valid IPv6 entry and its group's other slots exclude each other is log 70. -/
theorem tablesAndRoutesByIndex : Obligations.TablesAndRoutesByIndex := by
  refine ⟨fun s p v n tt i e hp hn htt hi _ hlt => ?_, fun s p v n sp node entry hp hn hsp hnode hentry => ?_⟩
  · subst hn
    have named (op) := entryNamed_commandWord (s.m.rd .FDB_TBL_CMD (pathNum p)) v op hp htt hi hlt
    refine ⟨fun ho he hres hfid => ?_, fun ho => ?_⟩
    · have h := tableWindow_write (named 1) (op_tblWord _ v (by decide)) he hres hfid
      exact yields_tbl (exec_tableWrite p v s) ho h fun t ht => ⟨ht.replies, ht.setTbl⟩
    · have h := tableWindow_read (m := s.m) (named 2) (op_tblWord _ v (by decide))
      exact yields_tbl (exec_tableRead p v s) ho h fun t ht => ⟨ht.replies, ht.fwd⟩
  · subst hn
    have named (op) := routeNamed_commandWord (s.m.rd .LPM_WIN_CMD (pathNum p)) v op hp hsp hnode hentry
    refine ⟨fun ho => ⟨fun x hr hx hres => ?_, fun a hassoc hlt ha hres hal => ?_⟩, fun ho hr => ?_, fun ho hpool hlt => ?_⟩
    · have hword : x = clearedWord (s.m.rd .LPM_WIN_DATA (3 * pathNum p)) 21 := hx
      rw [hword, bit_clearedWord _ _ (by decide), bits_clearedWord _ _ _ (by decide)] at hres
      have h := lpmWindow_writeTrie (named 1) hr (op_lpmWord _ v (by decide)) hres
      rw [← hword] at h
      exact yields_lpm (exec_lpmWrite p v s) ho h fun t ht => ⟨ht.replies, ht.trieWrite⟩
    · have h := lpmWindow_writeSlot (named 1) (op_lpmWord _ v (by decide)) hassoc hlt ha hres hal
      subst ha
      have hvalid := slotValid_cleared (s.m.rd .LPM_WIN_DATA (3 * pathNum p)) (s.m.rd .LPM_WIN_DATA (3 * pathNum p + 1))
        (s.m.rd .LPM_WIN_DATA (3 * pathNum p + 2))
      have hsix := slotSix_cleared (s.m.rd .LPM_WIN_DATA (3 * pathNum p)) (s.m.rd .LPM_WIN_DATA (3 * pathNum p + 1))
        (s.m.rd .LPM_WIN_DATA (3 * pathNum p + 2))
      refine yields_lpm (exec_lpmWrite p v s) ho h fun t ht => ?_
      obtain ⟨hslot, hapart, htaken, hleft, htrie⟩ := ht.assocWrite fun h6 => hal (Bool.and_eq_true_iff.1 (hsix ▸ h6)).2
      refine ⟨ht.replies, hslot, hapart, fun hv h6 => htaken ?_, fun hall => hleft ?_, htrie⟩
      · rw [hsix, hv, h6]
        rfl
      · exact hall.imp hvalid.trans fun hx => ⟨by rw [hsix, hx.1, Bool.and_false], hx.2⟩
    · have h := lpmWindow_readTrie (m := s.m) (named 2) hr (op_lpmWord _ v (by decide))
      exact yields_lpm (exec_lpmRead p v s) ho h fun t ht => ⟨ht.replies, ht.fwd⟩
    · have h := lpmWindow_clearNode (m := s.m) (named 3) (op_lpmWord _ v (by decide)) hpool hlt
      exact yields_lpm (exec_clearNode p v s) ho h fun t ht => ⟨ht.replies, ht.clearPool⟩

end Sys2Proof.Machine
end

section
/-! SUPPORT. What events and counters leave of the integrity state: only the granules that failed, of which a store into SDRAM mends some
(R437). -/

namespace Sys2Proof.Machine

/-- The relation holds across the parts of an event: stores into SDRAM and their queue, rings, causes, counters and jobs. -/
structure EventParts (R : Mod → Mod → Prop) : Prop where
  refl : ∀ m, R m m
  trans : ∀ {a b c}, R a b → R b c → R a c
  wr : ∀ m r i w, R m (m.wr r i w)
  evt : ∀ m x, R m (m.withEvt x)
  drm : ∀ m x, R m (m.withDrm x)
  granules : ∀ m l, R m (m.withInt { m.int with badGranules := l })
  ctr : ∀ m off v, R m (m.setCtr off v)
  cl : ∀ m c k, R m (m.setCl c k)

section
variable {R : Mod → Mod → Prop} (hR : EventParts R)
include hR

theorem EventParts.foldl {β : Type} (f : Mod → β → Mod) (h : ∀ m b, R m (f m b)) (l : List β) (m : Mod) : R m (l.foldl f m) := by
  induction l generalizing m with
  | nil => exact hR.refl m
  | cons b t ih => exact hR.trans (h m b) (ih (f m b))

theorem EventParts.sqcBit (m : Mod) (f : Fld) (k i : Nat) : R m (m.sqcBit f k i) := by
  unfold Mod.sqcBit
  exact hR.wr m _ _ _

theorem EventParts.pfCause (m : Mod) (v : Nat) : R m (m.pfCause v) := hR.trans (hR.sqcBit m EVT_IRQ_STATUS_PEND v 0) (hR.evt _ _)

theorem EventParts.writeModes (m : Mod) (ch : Nat) : R m (m.writeModes ch) := by
  unfold Mod.writeModes
  refine hR.foldl _ (fun m s => ?_) _ m
  extract_lets
  exact rel_ite (hR.refl m) (hR.drm m _)

theorem EventParts.drmQueue (m : Mod) (who : Requester) (h a : Nat) (w : Bool) (ch : Nat) : R m (m.drmQueue who h a w ch) := by
  unfold Mod.drmQueue
  extract_lets g r n
  have hn : R m n := by
    refine rel_ite (hR.refl m) ?_
    unfold Mod.vjoin
    exact rel_ite (hR.refl m) (hR.drm m _)
  exact rel_ite (hR.refl m) (hR.trans hn (hR.trans (hR.drm n _) (hR.writeModes _ ch)))

theorem EventParts.drmPost (m : Mod) (who : Requester) (h a : Nat) (bs : List Byte) : R m (m.drmPost who h a bs) := by
  unfold Mod.drmPost
  exact hR.trans (hR.trans (hR.drm m _) (hR.granules _ _)) (hR.foldl _ (fun m k => hR.foldl _ (fun m c => hR.drmQueue m _ _ _ _ c) _ m) _ _)

theorem EventParts.ringStore (m : Mod) (h off : Nat) (bs : List Byte) : R m (m.ringStore h off bs) := by
  unfold Mod.ringStore
  extract_lets
  split
  · exact hR.drmPost m _ _ _ bs
  · exact rel_ite (hR.evt m _) (hR.refl m)
  · exact rel_ite (hR.evt m _) (hR.refl m)

theorem EventParts.ringWrite (m : Mod) (h : Nat) (e : Ev) : R m (m.ringWrite h e) := by
  unfold Mod.ringWrite
  extract_lets prod rec128 m1 m2 m3 m4
  have h2 : R m m2 := hR.trans (hR.ringStore m _ _ _) (hR.wr m1 _ _ _)
  have h3 : R m2 m3 := rel_ite (hR.refl m2) (hR.ringStore m2 _ _ _)
  have h4 : R m3 m4 := hR.wr m3 _ _ _
  refine hR.trans (hR.trans (hR.trans h2 h3) h4) ?_
  unfold Mod.hedgeCause
  exact rel_ite (hR.pfCause m4 h) (hR.evt m4 _)

theorem EventParts.ringOffer (m : Mod) (h : Nat) (e : Ev) : R m (m.ringOffer h e) := by
  unfold Mod.ringOffer Mod.satAdd
  exact rel_ite (hR.trans (hR.wr m _ _ _) (hR.evt _ _)) (hR.trans (hR.ringWrite m h e) (hR.evt _ _))

theorem EventParts.eventRings (m : Mod) (e : Ev) : R m (m.eventRings e) := by
  unfold Mod.eventRings
  extract_lets m1
  have h1 : R m m1 := hR.foldl _ (fun m h => hR.ringOffer m h e) _ m
  split
  · exact hR.trans h1 (hR.pfCause m1 _)
  · exact h1

theorem EventParts.eventVia (n : Nat) (m : Mod) (e : Ev) : R m (Mod.eventVia n m e) := by
  induction n generalizing m e with
  | zero => exact hR.refl m
  | succ n ih =>
    unfold Mod.eventVia
    split
    · exact hR.refl m
    · refine rel_ite ?_ (hR.cl m _ _)
      unfold Mod.evDrop
      extract_lets k v m1
      have h1 : R m m1 := hR.ctr m _ _
      exact rel_ite (hR.trans h1 (hR.trans (hR.eventRings m1 _) (ih _ _))) h1

theorem EventParts.event (m : Mod) (e : Ev) : R m (m.event e) := hR.trans (hR.eventRings m e) (hR.eventVia 5 _ e)

theorem EventParts.bump (m : Mod) (c : Ctr) (n : Nat) : R m (m.bump c n) := by
  unfold Mod.bump
  extract_lets v m1
  have h1 : R m m1 := hR.ctr m _ _
  have half : R m1 (m1.halfBit c) := by
    unfold Mod.halfBit
    exact rel_ite (hR.sqcBit m1 _ _ _) (rel_ite (hR.sqcBit m1 _ _ _) (rel_ite (hR.sqcBit m1 _ _ _) (hR.refl m1)))
  exact rel_ite (hR.trans h1 (hR.trans half (hR.event _ _))) h1

end

/-- The entries that await the supervisor are none of an event's. -/
theorem eventParts_invalid : EventParts (Keeps fun m => m.int.invalid) where
  refl := Keeps.refl
  trans := Keeps.trans
  wr m r i w := congrArg IntSt.invalid (wr_int m r i w)
  evt _ _ := rfl
  drm _ _ := rfl
  granules _ _ := rfl
  ctr m off v := congrArg IntSt.invalid (setCtr_int m off v)
  cl m c k := congrArg IntSt.invalid (setCl_int m c k)

end Sys2Proof.Machine
end

section
/-! SUPPORT. The FDB's locations, its insertions and its learning (R103, R106 to R108, R110). -/

namespace Sys2Proof.Machine

/-! ### Locations -/

section
variable (m : Mod) (loc : Nat)

theorem fdbSet_fwd (e : Nat) : (m.fdbSet loc e).fwd =
    { m.fwd with fdb := if feValid e then store m.fwd.fdb loc e else remove m.fwd.fdb loc } := rfl

theorem fdbSet_learn (e : Nat) : (m.fdbSet loc e).fwd.learn = m.fwd.learn := rfl

theorem fdbSet_regs (e : Nat) : (m.fdbSet loc e).regs = m.regs := rfl

theorem lookup_fdbSet_self {e : Nat} (h : feValid e = true) : lookup (m.fdbSet loc e).fwd.fdb loc = some e := by
  rw [fdbSet_fwd, if_pos h]
  exact lookup_store_self _ _ _

theorem lookup_fdbSet_ne (e : Nat) {k : Nat} (h : k ≠ loc) : lookup (m.fdbSet loc e).fwd.fdb k = lookup m.fwd.fdb k := by
  rw [fdbSet_fwd]
  split
  · exact lookup_store_ne _ _ h
  · exact lookup_remove_ne _ h

end

/-! ### Entries with a new destination -/

/-- An entry that moves keeps its validity and its key, and takes the destination (R105, R109). -/
theorem moved_entry (e : Nat) {kind dest : Nat} (hk : kind < 8) (hd : dest < 4096) :
    feValid (putBits (putBits e 57 55 kind) 54 43 dest) = feValid e ∧ feKind (putBits (putBits e 57 55 kind) 54 43 dest) = kind ∧
      feDest (putBits (putBits e 57 55 kind) 54 43 dest) = dest ∧ feFid (putBits (putBits e 57 55 kind) 54 43 dest) = feFid e ∧
      feMac (putBits (putBits e 57 55 kind) 54 43 dest) = feMac e := by
  have h : ∀ hi lo, 58 ≤ lo → bits (putBits (putBits e 57 55 kind) 54 43 dest) hi lo = bits e hi lo := by
    intro hi lo hlo
    obtain ⟨j, rfl⟩ := Nat.exists_eq_add_of_le hlo
    have hdiv : putBits (putBits e 57 55 kind) 54 43 dest / 2 ^ 58 = e / 2 ^ 58 := by
      simp only [putBits, bits]
      omega
    rw [bits, bits, pow_add, ← Nat.div_div_eq_div_mul, ← Nat.div_div_eq_div_mul, hdiv]
  refine ⟨?_, ?_, ?_, h _ _ (by decide), h _ _ (by decide)⟩
  · exact congrArg (· == 1) (h 127 127 (by decide))
  · simp only [feKind, putBits, bits]
    omega
  · simp only [feDest, putBits, bits]
    omega

/-- The entry that a learn request makes (R105). -/
theorem learned_entry (r : LearnReq) (hfid : r.fid < 2 ^ 14) (hmac : r.mac < 2 ^ 48) (hk : r.kind < 5) (hd : r.dest < 4096) :
    feValid r.entry = true ∧ feFid r.entry = r.fid ∧ feMac r.entry = r.mac := by
  refine ⟨?_, ?_, ?_⟩
  · simp only [feValid, bit, LearnReq.entry, beq_iff_eq]
    omega
  · simp only [feFid, bits, LearnReq.entry]
    omega
  · simp only [feMac, bits, LearnReq.entry]
    omega

/-! ### Insertion -/

section
variable {m : Mod} {e : Nat} (hnew : m.fdbFind (feFid e) (feMac e) = none)
  (h : m.fdbCount (fidHedge (feFid e)) < m.get FDB_HEDGE_CFG_QUOTA (fidHedge (feFid e)))
include hnew h

/-- A new key within the quota takes the first free location (R107). -/
theorem fdbInsert_free {loc : Nat} (hfree : m.fdbFree (m.fdbBucket (feFid e) (feMac e)) = some loc) :
    m.fdbInsert e = ((loc, insDone), m.fdbSet loc e) := by
  simp only [Mod.fdbInsert, hnew, if_neg (Nat.not_le.2 h), hfree]

end

theorem quotaFull_shows (m : Mod) (h : Nat) : (m.quotaFull h).fwd = m.fwd ∧ (m.quotaFull h).flag FDB_EVENT_QUOTA_FULL = true :=
  ⟨(eventRated_fwd _ _ _).trans (sqc_fwd m _ 0), ((told_eventRated _ _ _).flag 0 rfl).trans (flag_sqc_bit m 0 rfl)⟩

/-! ### Learning -/

/-- The module with the oldest learn request taken away. -/
def Mod.requestTaken (m : Mod) (rest : List LearnReq) : Mod := m.withFwd { m.fwd with learn := rest }

theorem learnInsert_none {m : Mod} (h : m.fwd.learn = []) : m.learnInsert = m := by
  simp only [Mod.learnInsert, h]

section
variable {m : Mod} {r : LearnReq} {rest : List LearnReq} (hl : m.fwd.learn = r :: rest)
include hl

section
variable {loc e : Nat} (hf : m.fdbFind r.fid r.mac = some (loc, e))
include hf

/-- A STATIC or sticky entry is never altered by a request (R110). -/
theorem learnInsert_fixed (h : (feStatic e || feSticky e) = true) : m.learnInsert = m.requestTaken rest := by
  have hf' : (m.requestTaken rest).fdbFind r.fid r.mac = some (loc, e) := hf
  unfold Mod.requestTaken at hf'
  simp only [Mod.learnInsert, Mod.requestTaken, hl, hf', h, if_true]

theorem learnInsert_moves (h : (feStatic e || feSticky e) = false) :
    m.learnInsert = (m.requestTaken rest).fdbSet loc (putBits (putBits e 57 55 r.kind) 54 43 r.dest) := by
  have hf' : (m.requestTaken rest).fdbFind r.fid r.mac = some (loc, e) := hf
  unfold Mod.requestTaken at hf'
  simp only [Mod.learnInsert, Mod.requestTaken, hl, hf', h, Bool.false_eq_true, if_false]

end

section
variable (hf : m.fdbFind r.fid r.mac = none)
include hf

/-- Beyond the quota a request is counted and raised (R108). -/
theorem learnInsert_overQuota (h : m.get FDB_HEDGE_CFG_QUOTA (fidHedge r.fid) ≤ m.fdbCount (fidHedge r.fid)) :
    m.learnInsert = ((m.requestTaken rest).bump (fdbCtr (fidHedge r.fid) 2)).quotaFull (fidHedge r.fid) := by
  have hf' : (m.requestTaken rest).fdbFind r.fid r.mac = none := hf
  have h' : (m.requestTaken rest).get FDB_HEDGE_CFG_QUOTA (fidHedge r.fid) ≤ (m.requestTaken rest).fdbCount (fidHedge r.fid) := h
  unfold Mod.requestTaken at hf' h'
  simp only [Mod.learnInsert, Mod.requestTaken, hl, hf', if_pos h']

theorem learnInsert_new (h : m.fdbCount (fidHedge r.fid) < m.get FDB_HEDGE_CFG_QUOTA (fidHedge r.fid)) {loc : Nat} {n : Mod}
    (hins : (m.requestTaken rest).fdbInsert r.entry = ((loc, insDone), n)) : m.learnInsert = n.bump (fdbCtr (fidHedge r.fid) 0) := by
  have hf' : (m.requestTaken rest).fdbFind r.fid r.mac = none := hf
  have h' : ¬ (m.requestTaken rest).get FDB_HEDGE_CFG_QUOTA (fidHedge r.fid) ≤ (m.requestTaken rest).fdbCount (fidHedge r.fid) :=
    Nat.not_le.2 h
  unfold Mod.requestTaken at hf' h' hins
  simp only [Mod.learnInsert, hl, hf', if_neg h', hins, if_true]

end

/-- LEARN_INSERT of a known key whose entry may move (R106): the entry takes the destination, and no other changes. -/
theorem learnInsert_moves_shows {loc e : Nat} (hf : m.fdbFind r.fid r.mac = some (loc, e)) (h : (feStatic e || feSticky e) = false)
    (hv : feValid e = true) (hk : r.kind < 8) (hd : r.dest < 4096) :
    (lookup m.learnInsert.fwd.fdb loc).map (fun x => (feKind x, feDest x, feFid x, feMac x)) = some (r.kind, r.dest, feFid e, feMac e) ∧
      (∀ k, k ≠ loc → lookup m.learnInsert.fwd.fdb k = lookup m.fwd.fdb k) ∧ m.learnInsert.fwd.learn = rest ∧
      m.learnInsert.regs = m.regs := by
  obtain ⟨hvalid, hkind, hdest, hfid, hmac⟩ := moved_entry e hk hd
  rw [learnInsert_moves hl hf h]
  refine ⟨?_, fun k hk => lookup_fdbSet_ne (m.requestTaken rest) loc _ hk, fdbSet_learn (m.requestTaken rest) loc _,
    fdbSet_regs (m.requestTaken rest) loc _⟩
  rw [lookup_fdbSet_self _ loc (hvalid.trans hv), Option.map_some, hkind, hdest, hfid, hmac]

/-- LEARN_INSERT of a new key within the quota and with room (R106, R107): it makes the entry, and no other changes. -/
theorem learnInsert_new_shows {loc : Nat} (hf : m.fdbFind r.fid r.mac = none)
    (h : m.fdbCount (fidHedge r.fid) < m.get FDB_HEDGE_CFG_QUOTA (fidHedge r.fid)) (hfid : r.fid < 2 ^ 14) (hmac : r.mac < 2 ^ 48)
    (hk : r.kind < 5) (hd : r.dest < 4096) (hfree : m.fdbFree (m.fdbBucket r.fid r.mac) = some loc) :
    lookup m.learnInsert.fwd.fdb loc = some r.entry ∧ (∀ k, k ≠ loc → lookup m.learnInsert.fwd.fdb k = lookup m.fwd.fdb k) ∧
      m.learnInsert.fwd.learn = rest := by
  obtain ⟨hvalid, hef, hem⟩ := learned_entry r hfid hmac hk hd
  have hins := fdbInsert_free (m := m.requestTaken rest) (e := r.entry) (loc := loc) (by rw [hef, hem]; exact hf) (by rw [hef]; exact h)
    (by rw [hef, hem]; exact hfree)
  rw [learnInsert_new hl hf h hins, bump_fwd]
  exact ⟨lookup_fdbSet_self _ loc hvalid, fun k hk => lookup_fdbSet_ne (m.requestTaken rest) loc _ hk,
    fdbSet_learn (m.requestTaken rest) loc _⟩

end

end Sys2Proof.Machine
end

section
/-! SUPPORT. The Pruner's step, the reset of a stream's recovery and the end of the grace (R116, R117, R122, R132). -/

namespace Sys2Proof.Machine

/-! ### The Pruner -/

/-- What the Pruner's sweep leaves: the tables beside the FDB, the parse graph and rules, and the count of commits. -/
def unswept (m : Mod) : (List (Nat × Nat) × List (Nat × Word)) × ClsSt × Nat := ((m.fwd.tbl, m.fwd.trie), m.cls, m.commits)

theorem keeps_unswept_iff {m n : Mod} : Keeps unswept m n ↔
    (n.fwd.tbl = m.fwd.tbl ∧ n.fwd.trie = m.fwd.trie) ∧ n.cls = m.cls ∧ n.commits = m.commits := by
  simp [Keeps, unswept]

theorem unswept_fdbSet (m : Mod) (loc e : Nat) : Keeps unswept m (m.fdbSet loc e) := rfl

theorem unswept_bump (m : Mod) (c : Ctr) (n : Nat) : Keeps unswept m (m.bump c n) :=
  keeps_unswept_iff.2 ⟨by simp, bump_cls m c n, congrArg BitVec.toNat (bump_rd m c n .GLB_COMMIT_SEQ 0 rfl)⟩

theorem unswept_promote (m : Mod) (loc : Nat) : Keeps unswept m (m.promote loc) := by
  unfold Mod.promote
  refine .ite _ (.refl m) ?_
  split
  · exact (unswept_fdbSet m _ 0).trans (unswept_fdbSet _ loc _)
  · exact .refl m

theorem unswept_pruneAt (m : Mod) (loc : Nat) : Keeps unswept m (m.pruneAt loc) := by
  unfold Mod.pruneAt
  split
  · exact .refl m
  · exact .ite _ (.refl m) (.ite _ (unswept_fdbSet m loc _) (.ite _ (unswept_fdbSet m loc _)
      (((unswept_fdbSet m loc 0).trans (unswept_bump _ _ 1)).trans (unswept_promote _ loc))))

theorem unswept_pruneBucket (m : Mod) (b : Nat) : Keeps unswept m (m.pruneBucket b) := by
  unfold Mod.pruneBucket
  extract_lets n
  have hn : Keeps unswept m n := .foldl _ (fun m k => unswept_pruneAt m _) _ m
  exact .ite _ (hn.trans (unswept_pruneAt n _)) hn

theorem unswept_passBegins (m : Mod) : Keeps unswept m m.passBegins := by
  unfold Mod.passBegins
  exact .ite _ (.refl m) rfl

/-- A step in its turn is noted at its commit (R116), and leaves all that. -/
theorem prunerStep_shows {m : Mod} (h : m.pruneDue = true) : m.prunerStep.fwd.prunedAt = some m.commits ∧ Keeps unswept m m.prunerStep := by
  unfold Mod.prunerStep
  rw [if_pos h]
  extract_lets m1 n first m2 f
  have h2 : Keeps unswept m m2 := (unswept_passBegins m).trans (.foldl _ (fun m j => unswept_pruneBucket m _) _ m1)
  have hcommits : m2.commits = m.commits := (keeps_unswept_iff.1 h2).2.2
  refine ⟨?_, h2.trans (.ite _ rfl rfl)⟩
  rw [← hcommits]
  split <;> rfl

/-- A step already taken at this commit is not due. -/
theorem pruneDue_of_pruned {m : Mod} (h : m.fwd.prunedAt = some m.commits) : m.pruneDue = false := by
  unfold Mod.pruneDue
  rw [h]
  simp

/-! ### The reset of a stream's recovery -/

/-- A bit that is clear, set. -/
theorem putBits_setBit {e i : Nat} (h : bit e i = false) : putBits e i i 1 = e + 2 ^ i := by
  have hz : bits e i i = 0 := by
    have hne : ¬ e / 2 ^ i % 2 = 1 := by simpa [bit] using h
    rw [bits, Nat.add_sub_cancel_left, pow_one]
    omega
  simp [putBits, hz]

/-- A table entry put, and counted: every other one stays, and the FDB. -/
theorem setTbl_counted (m : Mod) (t i v : Nat) (c : Ctr) : ((m.setTbl t i v).bump c).tbl t i = v ∧
    (∀ k, k ≠ tblKey t i → lookup ((m.setTbl t i v).bump c).fwd.tbl k = lookup m.fwd.tbl k) ∧
      ((m.setTbl t i v).bump c).fwd.fdb = m.fwd.fdb := by
  have hfwd := bump_fwd (m.setTbl t i v) c 1
  refine ⟨(tbl_of_fwd hfwd t i).trans (tbl_setTbl_self m t i v), fun k hk => ?_, ?_⟩
  · rw [hfwd]
    exact lookup_setTbl_ne m t i v hk
  · rw [hfwd]
    rfl

section
variable {m : Mod} {f e : Nat} (he : m.tbl 9 f = e)
include he

theorem frerReset_silent (hv : bit e 127 = true) (hms : bits e 119 104 ≠ 0) (hany : bit e 100 = false)
    (ht : lookupD m.fwd.frerLast f 0 + bits e 119 104 * 1000000 ≤ m.now) :
    m.frerReset f = (m.setTbl 9 f (e + 2 ^ 100)).bump (frerCtr f 5) := by
  subst he
  rw [← putBits_setBit hany]
  exact if_pos ⟨hv, hms, hany, ht⟩

/-- A recovery that has been silent takes any number next, and no other entry changes (R122). -/
theorem frerReset_shows (hv : bit e 127 = true) (hms : bits e 119 104 ≠ 0) (hany : bit e 100 = false)
    (ht : lookupD m.fwd.frerLast f 0 + bits e 119 104 * 1000000 ≤ m.now) :
    (m.frerReset f).tbl 9 f = e + 2 ^ 100 ∧ (∀ k, k ≠ tblKey 9 f → lookup (m.frerReset f).fwd.tbl k = lookup m.fwd.tbl k) ∧
      (m.frerReset f).fwd.fdb = m.fwd.fdb := by
  rw [frerReset_silent he hv hms hany ht]
  exact setTbl_counted m 9 f (e + 2 ^ 100) _

theorem frerReset_not (h : bit e 127 = false ∨ bits e 119 104 = 0 ∨ bit e 100 = true ∨
    m.now < lookupD m.fwd.frerLast f 0 + bits e 119 104 * 1000000) : m.frerReset f = m := by
  subst he
  refine if_neg ?_
  rintro ⟨hv, hms, hany, ht⟩
  rcases h with h | h | h | h
  · exact Bool.false_ne_true (h.symm.trans hv)
  · exact hms h
  · exact Bool.false_ne_true (hany.symm.trans h)
  · exact Nat.not_le.2 h ht

end

/-! ### The end of the grace -/

/-- GRACE clears as its interval ends (R132): the tables stay. -/
theorem graceEnd_shows {m : Mod} (h : m.flag LPM_STATUS_GRACE = true) :
    m.graceEnd.flag LPM_STATUS_GRACE = false ∧ m.graceEnd.now = Nat.max m.now m.fwd.graceEnd ∧ m.graceEnd.fwd = m.fwd := by
  unfold Mod.graceEnd
  rw [if_pos h]
  refine ⟨flag_set_bit _ 0 0 rfl, ?_, (set_fwd _ _ _ _).trans (advance_lasting m _).2.2.1⟩
  exact (congrArg TimeSt.cycles (set_time _ _ _ _)).trans (now_advanceTo m _)

end Sys2Proof.Machine
end

section
/-! SUPPORT. The supervisor's restore of an invalidated entry (R438). -/

namespace Sys2Proof.Machine

/-- The module with entry i of table code invalid no more. -/
def Mod.validAgain (m : Mod) (code i : Nat) : Mod :=
  m.withInt { m.int with invalid := m.int.invalid.erase (code, i), invalidHedge := remove m.int.invalidHedge (2 ^ 32 * code + i) }

theorem tableRestore_not {m : Mod} {code i : Nat} (x : Option (List Word))
    (h : (m.flag GLB_STATUS_HEADLESS || !(m.int.invalid.contains (code, i))) = true) : m.tableRestore code i x = m := if_pos h

/-- An image that lacks the entry lacks it once it is valid again. -/
theorem imageEntry_validAgain {m : Mod} {code i : Nat} (h : ((imagePlace code i).bind fun e => m.imageEntry e.1 e.2) = none) :
    ((imagePlace code i).bind fun e => ((m.validAgain code i).imageEntry e.1 e.2).map fun v => (e.1, e.2, v)) = none := by
  cases hp : imagePlace code i with
  | none => rfl
  | some e =>
    rw [hp] at h
    exact congrArg (Option.map fun v => (e.1, e.2, v)) h

section
variable {m : Mod} {code i : Nat} (hpend : m.int.invalid.contains (code, i) = true) (hsup : m.flag GLB_STATUS_HEADLESS = false)
include hpend hsup

theorem restore_open : ¬ (m.flag GLB_STATUS_HEADLESS || !(m.int.invalid.contains (code, i))) = true := by
  rw [hpend, hsup]
  decide

/-- An entry that the running image holds is written as it stands there. -/
theorem tableRestore_image (x : Option (List Word)) {place k v : Nat} (hp : imagePlace code i = some (place, k))
    (hv : m.imageEntry place k = some v) : m.tableRestore code i x = (m.validAgain code i).tableWrite place k v := by
  have hv' : (m.validAgain code i).imageEntry place k = some v := hv
  unfold Mod.validAgain at hv'
  simp only [Mod.tableRestore, Mod.validAgain, if_neg (restore_open hpend hsup), hp, Option.bind_some, hv', Option.map_some]

/-- What neither the image nor a copy holds is reported. -/
theorem tableRestore_lost (hnone : ((imagePlace code i).bind fun e => m.imageEntry e.1 e.2) = none) : m.tableRestore code i none =
    ((m.validAgain code i).bump (intCtr 65)).intEvent 0x02 i 0 code [0, lookupD m.int.invalidHedge (2 ^ 32 * code + i) 0] := by
  have h := imageEntry_validAgain hnone
  unfold Mod.validAgain at h
  simp only [Mod.tableRestore, Mod.validAgain, if_neg (restore_open hpend hsup), h, ite_self]

end

/-- An FDB location, of which no image's record tells, takes the copy (R438). -/
theorem tableRestore_fdb {m : Mod} {i : Nat} (hpend : m.int.invalid.contains (13, i) = true) (hsup : m.flag GLB_STATUS_HEADLESS = false)
    (l : List Word) : m.tableRestore 13 i (some l) = (m.validAgain 13 i).fdbSet i (wordsNat l) := by
  have hplace : imagePlace 13 i = none := rfl
  simp only [Mod.tableRestore, if_neg (restore_open hpend hsup), hplace, Option.bind_none]
  rfl

theorem tableRestore_fdb_shows {m : Mod} {i : Nat} (hpend : m.int.invalid.contains (13, i) = true)
    (hsup : m.flag GLB_STATUS_HEADLESS = false) {l : List Word} (hv : feValid (wordsNat l) = true) :
    lookup (m.tableRestore 13 i (some l)).fwd.fdb i = some (wordsNat l) ∧
      (m.tableRestore 13 i (some l)).int.invalid = m.int.invalid.erase (13, i) ∧
        ∀ k, k ≠ i → lookup (m.tableRestore 13 i (some l)).fwd.fdb k = lookup m.fwd.fdb k := by
  rw [tableRestore_fdb hpend hsup]
  exact ⟨lookup_fdbSet_self _ i hv, rfl, fun k hk => lookup_fdbSet_ne (m.validAgain 13 i) i _ hk⟩

/-- A report of a lost entry leaves the tables, and the entries that still await the supervisor. -/
theorem lostReport_shows (m : Mod) (loc unit q : Nat) (rings : List Nat) : ((m.bump (intCtr 65)).intEvent 0x02 loc unit q rings).fwd = m.fwd ∧
    ((m.bump (intCtr 65)).intEvent 0x02 loc unit q rings).cls = m.cls ∧
      ((m.bump (intCtr 65)).intEvent 0x02 loc unit q rings).int.invalid = m.int.invalid := by
  have htold : Told m ((m.bump (intCtr 65)).intEvent 0x02 loc unit q rings) :=
    (told_bump m (intCtr 65) 1).trans ((told_sqcBit _ INT_EVENT_EVENTS 1 0 apart_int_event).trans (told_event _ _))
  have hR := eventParts_invalid
  exact ⟨htold.fwd, htold.cls, (hR.bump m (intCtr 65) 1).trans ((hR.sqcBit _ INT_EVENT_EVENTS 1 0).trans (hR.event _ _))⟩

end Sys2Proof.Machine
end

section
/-! SUPPORT. What the tables' tasks do (R106, R110, R116, R117, R122, R132, R438): the obligation. -/

namespace Sys2Proof.Machine

/-- A command of the die that completes with the module f gives it. -/
theorem yields_act {c : Instr} {s : State} {f : Mod → Mod} {P : State → Prop} (hc : exec c s = s.act f) (h : s.Running)
    (hP : P { s with m := f s.m }) : Yields c s P := yields_of_does (does_act hc h rfl) hP

/-- Settles O31: each task's meaning in its case is one update of the FDB, of a table or of GRACE beside counters and events, which leave
the tables; that a task out of its turn changes nothing is log 4, and the restored FDB location as an operand is log 77. -/
theorem tableTasksRun : Obligations.TableTasksRun := by
  refine ⟨fun s hrun hl => does_act (exec_learnInsert s) hrun (learnInsert_none hl),
    fun s r rest hrun hl => ⟨fun loc e hf => ?_, fun hf hq => ?_, fun loc hf hq hfid hmac hk hd hfree => ?_⟩,
    fun s hrun hdue => does_act (exec_prunerStep s) hrun (if_neg (ne_true_of_eq_false hdue)), fun s hrun hdue => ?_,
    fun s f e hrun he => ?_, fun s hrun => ?_, fun s code i x hrun => ?_⟩
  · exact ⟨fun h => does_act (exec_learnInsert s) hrun (learnInsert_fixed hl hf h),
      fun h hv hk hd => yields_act (exec_learnInsert s) hrun (learnInsert_moves_shows hl hf h hv hk hd)⟩
  · refine yields_act (exec_learnInsert s) hrun ?_
    rw [learnInsert_overQuota hl hf hq]
    obtain ⟨hfwd, hflag⟩ := quotaFull_shows ((s.m.requestTaken rest).bump (fdbCtr (fidHedge r.fid) 2)) (fidHedge r.fid)
    exact ⟨hfwd.trans (bump_fwd _ _ _), hflag⟩
  · exact yields_act (exec_learnInsert s) hrun (learnInsert_new_shows hl hf hq hfid hmac hk hd hfree)
  · obtain ⟨hpruned, hkept⟩ := prunerStep_shows hdue
    obtain ⟨⟨htbl, htrie⟩, hcls, hcommits⟩ := keeps_unswept_iff.1 hkept
    exact yields_act (exec_prunerStep s) hrun ⟨hpruned, pruneDue_of_pruned (by rw [hpruned, hcommits]), htbl, htrie, hcls⟩
  · exact ⟨fun hv hms hany ht => yields_act (exec_frerReset f s) hrun (frerReset_shows he hv hms hany ht),
      fun h => does_act (exec_frerReset f s) hrun (frerReset_not he h)⟩
  · exact ⟨fun h => does_act (exec_graceEnd s) hrun (if_neg (ne_true_of_eq_false h)),
      fun h => yields_act (exec_graceEnd s) hrun (graceEnd_shows h)⟩
  · refine ⟨fun h => does_act (exec_tableRestore code i x s) hrun (tableRestore_not x (by rw [h, Bool.not_false, Bool.or_true])),
      fun _ h => does_act (exec_tableRestore code i x s) hrun (tableRestore_not x (by rw [h, Bool.true_or])),
      fun hpend hsup => ⟨?_, ?_, ?_⟩⟩
    · rintro l rfl rfl hv
      exact yields_act (exec_tableRestore 13 i _ s) hrun (tableRestore_fdb_shows hpend hsup hv)
    · exact fun place k v hp hv => does_act (exec_tableRestore code i x s) hrun (tableRestore_image hpend hsup x hp hv)
    · rintro rfl hnone
      refine yields_act (exec_tableRestore code i none s) hrun ?_
      rw [tableRestore_lost hpend hsup hnone]
      obtain ⟨hfwd, hcls, hinvalid⟩ := lostReport_shows (s.m.validAgain code i) i 0 code
        [0, lookupD s.m.int.invalidHedge (2 ^ 32 * code + i) 0]
      exact ⟨hinvalid, hfwd, hcls⟩

end Sys2Proof.Machine
end

section
/-! SUPPORT. The windows of the queues, the edit templates, the policers and the stream shapers (R372): what an answered command shows, and
what its event and its drift leave. -/

namespace Sys2Proof.Machine

/-- The windows of the queues, the edit templates, the policers and the stream shapers. -/
inductive QueueWin where
  | voq
  | edit
  | pol
  | shp

namespace QueueWin

/-- The window set that a path reaches (R371): policers and shapers have one for each path. -/
def win (p : Path) : QueueWin → WinId
  | voq => .voq
  | edit => .edit
  | pol => .pol (pathNum p)
  | shp => .shp (pathNum p)

/-- The element of the command register that a path reaches. -/
def elem (p : Path) : QueueWin → Nat
  | voq => 0
  | edit => 0
  | pol => pathNum p
  | shp => pathNum p

/-- OP of the command register. -/
def op : QueueWin → Fld
  | voq => QUE_VOQ_CMD_OP
  | edit => QUE_EDIT_CMD_OP
  | pol => POL_WIN_CMD_OP
  | shp => SHP_WIN_CMD_OP

/-- BUSY of the command register. -/
def busy : QueueWin → Fld
  | voq => QUE_VOQ_CMD_BUSY
  | edit => QUE_EDIT_CMD_BUSY
  | pol => POL_WIN_CMD_BUSY
  | shp => SHP_WIN_CMD_BUSY

/-- STATUS of the command register. -/
def st : QueueWin → Fld
  | voq => QUE_VOQ_CMD_STATUS
  | edit => QUE_EDIT_CMD_STATUS
  | pol => POL_WIN_CMD_STATUS
  | shp => SHP_WIN_CMD_STATUS

/-- REFUSED in the event register of the window's block. -/
def refused : QueueWin → Fld
  | voq => QUE_EVENT_REFUSED
  | edit => QUE_EVENT_REFUSED
  | pol => POL_EVENT_REFUSED
  | shp => SHP_EVENT_REFUSED

variable (q : QueueWin)

theorem answer_fields : answerFields q.op.reg q.busy q.st = true := by cases q <;> decide

theorem st_width : q.st.width = 3 := by cases q <;> rfl

theorem not_graft : q.op.reg ≠ .GRF_CMD := by cases q <;> decide

theorem op_portReg : portReg q.op.reg = true := by cases q <;> rfl

theorem op_settable : settableField q.op.reg q.op = true := by cases q <;> decide

theorem op_lo : q.op.lo = 0 := by cases q <;> rfl

theorem four_le_op : 4 ≤ 2 ^ q.op.width := by cases q <;> decide

theorem op_below : q.op.lo + q.op.width ≤ 4 := by cases q <;> decide

theorem op_apart_refused : Reg.apart q.op.reg q.refused.reg = true := by cases q <;> rfl

end QueueWin

/-! ### The answer -/

/-- What a command's event and its drift leave: the windows, the buffer, the scheduler, the staged sets and a command register. -/
def queueShown (r : Reg) (i : Nat) (m : Mod) : (WinSt × BufSt × SchSt × TickSt) × Word := ((m.win, m.buf, m.sch, m.tick), m.rd r i)

theorem keeps_queueShown_iff {r : Reg} {i : Nat} {m n : Mod} : Keeps (queueShown r i) m n ↔
    (n.win = m.win ∧ n.buf = m.buf ∧ n.sch = m.sch ∧ n.tick = m.tick) ∧ n.rd r i = m.rd r i := by
  simp [Keeps, queueShown]

theorem DriftTold.queueShown {m n : Mod} (h : DriftTold m n) {r : Reg} (i : Nat) (hr : portReg r = true) : Keeps (queueShown r i) m n :=
  keeps_queueShown_iff.2 ⟨⟨h.part Mod.win, h.buf, h.sch, h.tick⟩, h.rd i hr⟩

theorem queueShown_sqc {r : Reg} (i : Nat) (m : Mod) {f : Fld} (j : Nat) (h : r.apart f.reg = true) :
    Keeps (queueShown r i) m (m.sqc f j) :=
  keeps_queueShown_iff.2 ⟨⟨sqc_win m f j, sqc_buf m f j, sqc_sch m f j, sqc_tick m f j⟩, rd_sqc_ne m f r j i h⟩

/-- A refused command sets its block's REFUSED bit and raises an event (R372). -/
theorem winRefused_queue (m : Mod) (p : Path) (q : QueueWin) (w : Word) (status : Nat) :
    ∃ e, m.winRefused p (q.win p) w status = (m.sqc q.refused).event e := by cases q <;> exact ⟨_, rfl⟩

/-- The module of a command of one of these windows that has been answered. -/
def Mod.queueAnswered (m : Mod) (p : Path) (q : QueueWin) (w : Word) (status : Nat) (data : List (Reg × Nat × Word) := []) : Mod :=
  m.winAnswer p (q.win p) q.op.reg (q.elem p) q.busy q.st w status (status != 0) data

/-- What t shows of a command that its block has answered with the module m: its status and data, and the buffer, the scheduler and the staged
sets of m. -/
structure QueueReply (m t : Mod) (p : Path) (q : QueueWin) (status : Nat) (data : List (Reg × Nat × Word)) : Prop where
  replies : t.replies (q.win p) q.st (q.elem p) status data = true
  buf : t.buf = m.buf
  sch : t.sch = m.sch
  tick : t.tick = m.tick

section
variable {p : Path} {q : QueueWin} {w : Word} {status : Nat} {data : List (Reg × Nat × Word)}

theorem queueAnswered_reply {m t : Mod} (hs : status < 8) (h : DriftTold (m.queueAnswered p q w status data) t) :
    QueueReply m t p q status data := by
  have hkept : Keeps (queueShown q.op.reg (q.elem p)) (m.winBegin (q.win p) q.op.reg (q.elem p) q.busy q.st w status data) t := by
    refine Keeps.trans ?_ (h.queueShown _ q.op_portReg)
    unfold Mod.queueAnswered Mod.winAnswer
    refine .ite _ ?_ (.refl _)
    obtain ⟨e, he⟩ := winRefused_queue (m.winBegin (q.win p) q.op.reg (q.elem p) q.busy q.st w status data) p q w status
    rw [he]
    exact (queueShown_sqc _ _ 0 q.op_apart_refused).trans ((told_event _ e).driftTold.queueShown _ q.op_portReg)
  obtain ⟨⟨hwin, hbuf, hsch, htick⟩, hreg⟩ := keeps_queueShown_iff.1 hkept
  refine ⟨replies_of_winBegin q.answer_fields (by rwa [q.st_width]) hwin hreg, ?_, ?_, ?_⟩
  · simp [hbuf, Mod.winBegin]
  · simp [hsch, Mod.winBegin]
  · simp [htick, Mod.winBegin]

/-! ### The command -/

/-- The word of a command of this window with its operation named, as its block takes it. -/
def Mod.queueWord (m : Mod) (p : Path) (q : QueueWin) (v : Word) (op : Nat) : Word := commandWord q.op (m.rd q.op.reg (q.elem p)) v op

/-- A command of one of these windows that reaches its block shows the answer the block gives it. -/
theorem yields_queue {c : Instr} {s : State} {v : Word} {op : Nat} {m : Mod} {P : State → Prop} (q : QueueWin)
    (hc : exec c s = s.put p q.op.reg 0 (withOp q.op v op) none) (ho : s.Opened p q.op.reg 0 (q.elem p) (q.win p) (withOp q.op v op))
    (hs : status < 8) (hw : s.m.winCommand p q.op.reg (q.elem p) (s.m.queueWord p q v op) true [] = m.queueAnswered p q w status data)
    (hP : ∀ t : State, QueueReply m t.m p q status data → P t) : Yields c s P := by
  have hdrift : DriftTold (m.queueAnswered p q w status data)
      ((s.m.winCommand p q.op.reg (q.elem p) (s.m.queueWord p q v op) true []).winDrift s.m p q.op.reg (withOp q.op v op)) := by
    rw [← hw]
    exact driftTold_winDrift _ s.m p _ _
  exact ⟨_, hc.trans (put_opened s p _ 0 _ _ _ none ho q.not_graft), hP _ (queueAnswered_reply hs hdrift)⟩

end

section
variable (m : Mod) (p : Path) (q : QueueWin) (v : Word)

theorem op_queueWord {op : Nat} (h : op < 4) : q.op.of (m.queueWord p q v op) = op :=
  op_commandWord _ v q.op_settable (q.op_below.trans (by decide)) (h.trans_le q.four_le_op)

/-- Another field of the command's word is as the command gives it. -/
theorem of_queueWord {g : Fld} (op : Nat) (hg : settableField q.op.reg g = true) (h : q.op.width ≤ g.lo) :
    g.of (m.queueWord p q v op) = g.of v := by
  have hlow : q.op.lo + q.op.width ≤ q.op.width := by rw [q.op_lo, Nat.zero_add]
  exact of_commandWord _ v op hg (q.op_below.trans (by decide)) (.inl (hlow.trans h))

end

end Sys2Proof.Machine
end

section
/-! SUPPORT. The queues and the edit templates (R140, R141, R158, R168): what their commands answer. -/

namespace Sys2Proof.Machine

/-! ### Queues -/

/-- Occupancy of a queue as QUE_VOQ_DATA0 gives it: its copies and their cells (R141). -/
def Mod.voqOccupancy (m : Mod) (q : List Copy) : Word :=
  BitVec.ofNat 64 (q.length * 2 ^ 19 + (q.foldl (fun a c => a + ((m.frame c.frame).map Frame.cells).getD 0) 0) % 2 ^ 19)

section
variable {m : Mod} {p : Path} {w : Word}

theorem voqWindow_outOfRange (h : 134 ≤ QUE_VOQ_CMD_SRC.of w ∨ 134 ≤ QUE_VOQ_CMD_DEST.of w) :
    m.voqWindow p w = m.queueAnswered p .voq w 1 := by
  simp only [Mod.voqWindow, if_pos h]
  rfl

/-- A command word names the queue q, in range, by a path with module-wide rights. -/
structure QueueNamed (m : Mod) (p : Path) (w : Word) (q : List Copy) : Prop where
  wide : vfHedge p = none
  src : QUE_VOQ_CMD_SRC.of w < 134
  dest : QUE_VOQ_CMD_DEST.of w < 134
  queue : q = m.voq (voqKey (QUE_VOQ_CMD_SRC.of w) (QUE_VOQ_CMD_DEST.of w) (QUE_VOQ_CMD_CLASS.of w))

variable {q : List Copy} (h : QueueNamed m p w q)
include h

theorem voqWindow_occupancy (hop : QUE_VOQ_CMD_OP.of w = 1) :
    m.voqWindow p w = m.queueAnswered p .voq w 0 [(.QUE_VOQ_DATA0, 0, m.voqOccupancy q)] := by
  obtain ⟨hp, hs, hd, rfl⟩ := h
  simp only [Mod.voqWindow, hp, hop, Nat.not_le.2 hs, Nat.not_le.2 hd, or_self, if_false, Option.any_none, Bool.false_eq_true, ne_eq,
    not_true_eq_false, if_true]
  rfl

theorem voqWindow_head (hop : QUE_VOQ_CMD_OP.of w = 2) :
    m.voqWindow p w = m.queueAnswered p .voq w 0 [(.QUE_VOQ_DATA1, 0, m.voqHead q)] := by
  obtain ⟨hp, hs, hd, rfl⟩ := h
  simp only [Mod.voqWindow, hp, hop, Nat.not_le.2 hs, Nat.not_le.2 hd, or_self, if_false, Option.any_none, Bool.false_eq_true, ne_eq,
    not_true_eq_false, Nat.reduceEqDiff]
  rfl

end

/-! ### Edit templates -/

/-- The template in the data registers: its last word's field bits alone (R158). -/
def Mod.templateStaged (m : Mod) : List Word :=
  ((List.range 12).map fun k => m.rd .QUE_EDIT_DATA k) ++ [BitVec.ofNat 64 ((m.rd .QUE_EDIT_DATA 12).toNat / 2 ^ 13 * 2 ^ 13)]

/-- The template at index i. -/
def Mod.template (m : Mod) (i : Nat) : List Word := lookupD m.buf.templates i (List.replicate 13 0)

/-- The module with a template at an index. -/
def Mod.setTemplate (m : Mod) (i : Nat) (l : List Word) : Mod :=
  m.withBuf { m.buf with templates := storeUnless (List.replicate 13 0) m.buf.templates i l }

theorem template_setTemplate_self (m : Mod) (i : Nat) (l : List Word) : (m.setTemplate i l).template i = l :=
  lookupD_storeUnless_self _ _ _ _

theorem lookup_setTemplate_ne (m : Mod) (i : Nat) (l : List Word) {k : Nat} (h : k ≠ i) :
    lookup (m.setTemplate i l).buf.templates k = lookup m.buf.templates k := lookup_storeUnless_ne _ _ _ h

section
variable {m : Mod} {p : Path} {w : Word} (hi : QUE_EDIT_CMD_INDEX.of w ≠ 0)
include hi

theorem editWindow_write (hop : QUE_EDIT_CMD_OP.of w = 1) (hp : vfHedge p = none)
    (hres : templateReserved (m.rd .QUE_EDIT_DATA 12).toNat = false) :
    m.editWindow p w = (m.setTemplate (QUE_EDIT_CMD_INDEX.of w) m.templateStaged).queueAnswered p .edit w 0 := by
  simp only [Mod.editWindow, hi, hop, hp, hres, Option.isSome_none, Bool.and_false, Bool.false_eq_true, if_false, and_self, if_true]
  rfl

/-- A virtual function writes no template (R168). -/
theorem editWindow_virtual (hop : QUE_EDIT_CMD_OP.of w = 1) (hp : (vfHedge p).isSome = true) :
    m.editWindow p w = m.queueAnswered p .edit w 2 := by
  simp only [Mod.editWindow, hi, hop, hp, beq_self_eq_true, Bool.and_self, if_false, if_true]
  rfl

theorem editWindow_read (hop : QUE_EDIT_CMD_OP.of w = 2) : m.editWindow p w = m.queueAnswered p .edit w 0
    ((List.range 13).map fun k => (.QUE_EDIT_DATA, k, (m.template (QUE_EDIT_CMD_INDEX.of w)).getD k 0)) := by
  simp only [Mod.editWindow, hi, hop, if_false, Nat.reduceBEq, Bool.false_and, Bool.false_eq_true, Nat.reduceEqDiff,
    if_true, and_false, and_self]
  rfl

end

/-- A template's command that reaches its block names no template 0: that index is a reserved encoding (R528). -/
theorem opened_templateIndex {s : State} {p : Path} {v : Word} {op : Nat}
    (h : s.Opened p .QUE_EDIT_CMD 0 0 .edit (withOp QUE_EDIT_CMD_OP v op)) : QUE_EDIT_CMD_INDEX.of v ≠ 0 := by
  have hindex : QUE_EDIT_CMD_INDEX.of (withOp QUE_EDIT_CMD_OP v op) = QUE_EDIT_CMD_INDEX.of v :=
    of_put_ne QUE_EDIT_CMD_OP QUE_EDIT_CMD_INDEX v op (by decide) (by decide)
  intro h0
  have hres : cmdReserved .QUE_EDIT_CMD (withOp QUE_EDIT_CMD_OP v op) = true := by simp [cmdReserved, hindex, h0]
  exact Bool.false_ne_true (h.defined.symm.trans hres)

/-- A template put stands in the reply, and every other one as before. -/
theorem QueueReply.setTemplate {m t : Mod} {p : Path} {q : QueueWin} {i status : Nat} {l : List Word} {data : List (Reg × Nat × Word)}
    (h : QueueReply (m.setTemplate i l) t p q status data) :
    t.template i = l ∧ (∀ k, k ≠ i → lookup t.buf.templates k = lookup m.buf.templates k) ∧ t.buf.voqs = m.buf.voqs := by
  refine ⟨?_, fun k hk => ?_, ?_⟩
  · exact (congrArg (fun b : BufSt => lookupD b.templates i _) h.buf).trans (template_setTemplate_self m i l)
  · rw [h.buf]
    exact lookup_setTemplate_ne m i l hk
  · rw [h.buf]
    rfl

end Sys2Proof.Machine
end

section
/-! SUPPORT. The policers and the stream shapers (R32, R175, R176, R181): what their commands answer to a path with module-wide rights. -/

namespace Sys2Proof.Machine

/-! ### Policers -/

/-- The policer entry in the data registers of path n. -/
def Mod.policerStaged (m : Mod) (n : Nat) : Nat := ((m.rd .POL_WIN_DATA0 n).toNat + (m.rd .POL_WIN_DATA1 n).toNat * 2 ^ 64) &&& policerMask

/-- The two data registers of path n. -/
def policerRegs (n x y : Nat) : List (Reg × Nat × Word) := [(.POL_WIN_DATA0, n, BitVec.ofNat 64 x), (.POL_WIN_DATA1, n, BitVec.ofNat 64 y)]

/-- The entry that a read of policer i returns: the staged one where one is pending (R32). -/
def Mod.policerSeen (m : Mod) (i : Nat) : Nat := (m.stagedValue (.policer i)).getD (lookupD m.sch.policers i 0)

/-- The buckets of policer i as they stand now (R175). -/
def Mod.policerBuckets (m : Mod) (i : Nat) : Buckets := m.bucketsOf i (lookupD m.sch.policers i 0)

section
variable {m : Mod} {p : Path} {w : Word} (hp : vfHedge p = none)
include hp

theorem policerWindow_write (hop : POL_WIN_CMD_OP.of w = 1) : m.policerWindow p w =
    (m.stage (.policer (POL_WIN_CMD_INDEX.of w)) (m.policerStaged (pathNum p))).queueAnswered p .pol w 0 := by
  simp only [Mod.policerWindow, hop, hp, Option.any_none, Bool.false_eq_true, if_false, and_self, if_true, ne_eq,
    not_true_eq_false, Nat.reduceEqDiff]
  rfl

theorem policerWindow_read (hop : POL_WIN_CMD_OP.of w = 2) : m.policerWindow p w = m.queueAnswered p .pol w 0
    (policerRegs (pathNum p) (m.policerSeen (POL_WIN_CMD_INDEX.of w)) (m.policerSeen (POL_WIN_CMD_INDEX.of w) / 2 ^ 64)) := by
  simp only [Mod.policerWindow, hop, hp, Option.any_none, Bool.false_eq_true, if_false, and_false, if_true, ne_eq,
    not_true_eq_false, Nat.reduceEqDiff]
  rfl

theorem policerWindow_buckets (hop : POL_WIN_CMD_OP.of w = 3) : m.policerWindow p w = m.queueAnswered p .pol w 0
    (policerRegs (pathNum p) ((m.policerBuckets (POL_WIN_CMD_INDEX.of w)).c / 256)
      ((m.policerBuckets (POL_WIN_CMD_INDEX.of w)).pe / 256)) := by
  simp only [Mod.policerWindow, hop, hp, Option.any_none, Bool.false_eq_true, if_false, and_false, if_true, ne_eq,
    not_true_eq_false, Nat.reduceEqDiff]
  rfl

end

/-! ### Stream shapers -/

/-- A shaper entry that holds a reserved encoding (R176). -/
def shaperReserved (x : Nat) : Bool := decide (2 ≤ shKind x) || decide (shOverhead x < -32)

/-- The entry that a read of stream shaper i returns: the staged one where one is pending (R32). -/
def Mod.shaperSeen (m : Mod) (i : Nat) : Nat := (m.stagedValue (.streamShaper i)).getD (lookupD m.sch.shapers i 0).toNat

theorem shaperReserved_false {x : Nat} (hk : shKind x < 2) (ho : -32 ≤ shOverhead x) : shaperReserved x = false := by
  simp [shaperReserved, hk, ho]

theorem shaperReserved_true {x : Nat} (h : 2 ≤ shKind x ∨ shOverhead x < -32) : shaperReserved x = true := by
  simpa [shaperReserved] using h

section
variable {m : Mod} {p : Path} {w : Word} (hp : vfHedge p = none)
include hp

theorem shaperWindow_write (hop : SHP_WIN_CMD_OP.of w = 1) (hx : shaperReserved (m.rd .SHP_WIN_DATA (pathNum p)).toNat = false) :
    m.shaperWindow p w =
      (m.stage (.streamShaper (SHP_WIN_CMD_INDEX.of w)) (m.rd .SHP_WIN_DATA (pathNum p)).toNat).queueAnswered p .shp w 0 := by
  unfold shaperReserved at hx
  simp only [Mod.shaperWindow, hop, hp, hx, Option.isSome_none, Bool.and_false, Bool.false_eq_true, if_false, and_self, if_true, ne_eq,
    not_true_eq_false, Nat.reduceEqDiff]
  rfl

theorem shaperWindow_reserved (hop : SHP_WIN_CMD_OP.of w = 1) (hx : shaperReserved (m.rd .SHP_WIN_DATA (pathNum p)).toNat = true) :
    m.shaperWindow p w = m.queueAnswered p .shp w 3 := by
  unfold shaperReserved at hx
  simp only [Mod.shaperWindow, hop, hp, hx, Option.isSome_none, beq_self_eq_true, Bool.and_self, Bool.false_eq_true, if_false, if_true]
  rfl

theorem shaperWindow_read (hop : SHP_WIN_CMD_OP.of w = 2) : m.shaperWindow p w = m.queueAnswered p .shp w 0
    [(.SHP_WIN_DATA, pathNum p, BitVec.ofNat 64 (m.shaperSeen (SHP_WIN_CMD_INDEX.of w)))] := by
  simp only [Mod.shaperWindow, hop, hp, Option.isSome_none, Nat.reduceBEq, Bool.false_and, Bool.false_eq_true, if_false, and_false,
    if_true, ne_eq,
    not_true_eq_false, Nat.reduceEqDiff]
  rfl

theorem shaperWindow_tokens (hop : SHP_WIN_CMD_OP.of w = 3) : m.shaperWindow p w = m.queueAnswered p .shp w 0
    [(.SHP_WIN_DATA, pathNum p, BitVec.ofNat 64 (unsigned 32 (m.streamTokens (SHP_WIN_CMD_INDEX.of w)).octets))] := by
  simp only [Mod.shaperWindow, hop, hp, Option.isSome_none, Nat.reduceBEq, Bool.false_and, Bool.false_eq_true, if_false, and_false,
    if_true, ne_eq,
    not_true_eq_false, Nat.reduceEqDiff]
  rfl

end

/-! ### Staged writes -/

/-- A write staged in the open set of the tick stands there in the reply, and the scheduler is as before. -/
theorem QueueReply.staged {m t : Mod} {p : Path} {q : QueueWin} {status x : Nat} {key : StageKey} {data : List (Reg × Nat × Word)}
    (h : QueueReply (m.stage key x) t p q status data) (hopen : m.stageClosed = false) (hkept : m.tick.nowLost = false)
    (hroom : stagedSize (stagedWith m.tick.now ⟨key, x⟩) ≤ stageDepth) :
    t.sch = m.sch ∧ t.tick = { m.tick with now := stagedWith m.tick.now ⟨key, x⟩ } := by
  rw [stage_open hopen hkept hroom] at h
  exact ⟨h.sch, h.tick⟩

end Sys2Proof.Machine
end

section
/-! SUPPORT. The queue, template, policer and shaper windows (R32, R140, R141, R158, R168, R175, R176, R181, R372): the obligation. -/

namespace Sys2Proof.Machine

/-- A command of QUE_VOQ_CMD names its queue to the block as the command's word does. -/
theorem queueNamed_queueWord {s : State} {p : Path} {v : Word} {q : List Copy} (hp : vfHedge p = none) (hs : QUE_VOQ_CMD_SRC.of v < 134)
    (hd : QUE_VOQ_CMD_DEST.of v < 134)
    (hq : q = s.m.voq (voqKey (QUE_VOQ_CMD_SRC.of v) (QUE_VOQ_CMD_DEST.of v) (QUE_VOQ_CMD_CLASS.of v))) (op : Nat) :
    QueueNamed s.m p (s.m.queueWord p .voq v op) q := by
  have hsrc := of_queueWord s.m p .voq v (g := QUE_VOQ_CMD_SRC) op (by decide) (by decide)
  have hdest := of_queueWord s.m p .voq v (g := QUE_VOQ_CMD_DEST) op (by decide) (by decide)
  have hclass := of_queueWord s.m p .voq v (g := QUE_VOQ_CMD_CLASS) op (by decide) (by decide)
  exact ⟨hp, hsrc.trans_lt hs, hdest.trans_lt hd, by rw [hsrc, hdest, hclass, hq]⟩

/-- Settles O32: the block's answer in each case is the module with the template put, the entry staged or nothing changed, and what its
answer, its event and its drift change is none of the queues, the templates, the scheduler and the staged sets. -/
theorem queueTemplateAndShaperWindows : Obligations.QueueTemplateAndShaperWindows := by
  refine ⟨⟨fun s p v q hp hs hd hq => ?_, fun s p v hout ho => ?_, fun s p v i last hi hlast => ?_⟩, fun s p v n hp hn => ?_⟩
  · have named := queueNamed_queueWord hp hs hd hq
    refine ⟨fun ho => ?_, fun ho => ?_⟩
    · have h := voqWindow_occupancy (named 1) (op_queueWord s.m p .voq v (by decide))
      exact yields_queue .voq (exec_voqReadOccupancy p v s) ho (by decide) h fun t ht => ⟨ht.replies, ht.buf, ht.sch⟩
    · have h := voqWindow_head (named 2) (op_queueWord s.m p .voq v (by decide))
      exact yields_queue .voq (exec_voqReadHead p v s) ho (by decide) h fun t ht => ⟨ht.replies, ht.buf, ht.sch⟩
  · have hsrc := of_queueWord s.m p .voq v (g := QUE_VOQ_CMD_SRC) 1 (by decide) (by decide)
    have hdest := of_queueWord s.m p .voq v (g := QUE_VOQ_CMD_DEST) 1 (by decide) (by decide)
    rw [← hsrc, ← hdest] at hout
    exact yields_queue .voq (exec_voqReadOccupancy p v s) ho (by decide) (voqWindow_outOfRange hout) fun t ht => ⟨ht.replies, ht.buf⟩
  · subst hi hlast
    have hindex (op) := of_queueWord s.m p .edit v (g := QUE_EDIT_CMD_INDEX) op (by decide) (by decide)
    have hop {op} (h : op < 4) := op_queueWord s.m p .edit v h
    refine ⟨fun ho => ⟨fun hp hres => ?_, fun hp => ?_⟩, fun ho => ?_⟩
    · have h := editWindow_write ((hindex 1).trans_ne (opened_templateIndex ho)) (hop (by decide)) hp hres
      rw [hindex] at h
      exact yields_queue .edit (exec_templateWrite p v s) ho (by decide) h fun t ht => ⟨ht.replies, ht.setTemplate⟩
    · have h := editWindow_virtual (m := s.m) ((hindex 1).trans_ne (opened_templateIndex ho)) (hop (by decide)) hp
      exact yields_queue .edit (exec_templateWrite p v s) ho (by decide) h fun t ht => ⟨ht.replies, ht.buf⟩
    · have h := editWindow_read (m := s.m) (p := p) ((hindex 2).trans_ne (opened_templateIndex ho)) (hop (by decide))
      rw [hindex] at h
      exact yields_queue .edit (exec_templateRead p v s) ho (by decide) h fun t ht => ⟨ht.replies, ht.buf⟩
  · subst hn
    refine ⟨fun i old x hi hold hx => ?_, fun i x hi hx => ?_⟩
    · subst hi hold hx
      have hindex (op) := of_queueWord s.m p .pol v (g := POL_WIN_CMD_INDEX) op (by decide) (by decide)
      have hop {op} (h : op < 4) := op_queueWord s.m p .pol v h
      refine ⟨fun ho hopen hkept hroom => ?_, fun e he ho => ?_, fun ho => ?_⟩
      · have h := policerWindow_write (m := s.m) hp (hop (by decide))
        rw [hindex] at h
        exact yields_queue .pol (exec_policerWrite p v s) ho (by decide) h fun t ht =>
          ⟨ht.replies, ht.staged hopen hkept hroom⟩
      · subst he
        have h := policerWindow_read (m := s.m) hp (hop (by decide))
        rw [hindex] at h
        exact yields_queue .pol (exec_policerRead p v s) ho (by decide) h fun t ht => ⟨ht.replies, ht.sch, ht.tick⟩
      · have h := policerWindow_buckets (m := s.m) hp (hop (by decide))
        rw [hindex] at h
        exact yields_queue .pol (exec_policerReadBuckets p v s) ho (by decide) h fun t ht => ⟨ht.replies, ht.sch, ht.tick⟩
    · subst hi hx
      have hindex (op) := of_queueWord s.m p .shp v (g := SHP_WIN_CMD_INDEX) op (by decide) (by decide)
      have hop {op} (h : op < 4) := op_queueWord s.m p .shp v h
      refine ⟨fun ho => ⟨fun hk hover hopen hkept hroom => ?_, fun hres => ?_⟩, fun ho => ?_, fun ho => ?_⟩
      · have h := shaperWindow_write (m := s.m) hp (hop (by decide)) (shaperReserved_false hk hover)
        rw [hindex] at h
        exact yields_queue .shp (exec_streamShaperWrite p v s) ho (by decide) h fun t ht =>
          ⟨ht.replies, ht.staged hopen hkept hroom⟩
      · have h := shaperWindow_reserved (m := s.m) hp (hop (by decide)) (shaperReserved_true hres)
        exact yields_queue .shp (exec_streamShaperWrite p v s) ho (by decide) h fun t ht => ⟨ht.replies, ht.sch, ht.tick⟩
      · have h := shaperWindow_read (m := s.m) hp (hop (by decide))
        rw [hindex] at h
        exact yields_queue .shp (exec_streamShaperRead p v s) ho (by decide) h fun t ht => ⟨ht.replies, ht.sch, ht.tick⟩
      · have h := shaperWindow_tokens (m := s.m) hp (hop (by decide))
        rw [hindex] at h
        exact yields_queue .shp (exec_shaperReadTokens p v s) ho (by decide) h fun t ht => ⟨ht.replies, ht.sch, ht.tick⟩

end Sys2Proof.Machine
end

section
/-! SUPPORT. The passing of time (R200) leaves what it does not run on: the schedules, the launch queues and the registers that govern them,
for any view of the module that does not show what time runs on. -/

namespace Sys2Proof.Machine

/-! ### Views that time leaves -/

/-- The registers that the passing of time writes, beside those that events write: performance counters, cells and XOFF signals. -/
def passingRegs : List Reg :=
  [.EPC_CTR, .EPC_STATUS, .EPC_EVENT, .BUF_EVENT, .BUF_HEDGE_STATUS, .BUF_PORT_STATUS, .HDG_GAP_STATUS, .PRT_PORT_STATUS]

/-- The view g shows nothing that time runs on. -/
structure Timeless {α : Type} (g : Mod → α) : Prop where
  told : ∀ {m n}, Told m n → Keeps g m n
  wr : ∀ m {r} i w, r ∈ passingRegs → Keeps g m (m.wr r i w)
  sch : ∀ m a b c, Keeps g m (m.withSch { m.sch with ctok := a, csend := b, holdRem := c })
  drm : ∀ m x, Keeps g m (m.withDrm x)
  prt : ∀ m x, Keeps g m (m.withPrt x)
  buf : ∀ m x, Keeps g m (m.withBuf x)
  cl : ∀ m c k, Keeps g m (m.setCl c k)
  time : ∀ m x, Keeps g m (m.withTime x)

section
variable {α : Type} {g : Mod → α} (hg : Timeless g)
include hg

theorem Timeless.bump (m : Mod) (c : Ctr) (n : Nat) : Keeps g m (m.bump c n) := hg.told (told_bump m c n)

theorem Timeless.set (m : Mod) {f : Fld} (i v : Nat) (h : f.reg ∈ passingRegs) : Keeps g m (m.set f i v) := hg.wr m i _ h

theorem Timeless.sqcBit (m : Mod) {f : Fld} (k i : Nat) (h : f.reg ∈ passingRegs) : Keeps g m (m.sqcBit f k i) := by
  unfold Mod.sqcBit
  exact hg.wr m i _ h

/-! ### Counters -/

theorem Timeless.epcAdd (m : Mod) (c phys n k : Nat) : Keeps g m (m.epcAdd c phys n k) := by
  unfold Mod.epcAdd
  extract_lets i v m1
  have h1 : Keeps g m m1 := hg.set m i _ (by decide)
  have raised (m : Mod) : Keeps g m (m.epcRaise c phys 1 n) := (hg.sqcBit m _ c (by decide)).trans (hg.told (told_eventRated _ _ _))
  exact .ite _ (hg.set m i v (by decide)) (h1.trans (.ite _ (.refl m1) ((hg.sqcBit m1 _ _ (by decide)).trans (raised _))))

theorem Timeless.runEpc (m : Mod) (n : Nat) : Keeps g m (m.runEpc n) := by
  unfold Mod.runEpc
  extract_lets k m1
  have hone (m : Mod) (i : Nat) : Keeps g m (m.epcRunOne k i) := by
    unfold Mod.epcRunOne
    extract_lets c phys sel win ts n
    exact .ite _ (.refl m) (.ite _ (.refl m) (.ite _ (.refl m) (hg.epcAdd m c phys _ n)))
  have h1 : Keeps g m m1 := .foldl _ hone _ m
  exact h1.trans (.foldl _ (fun m c => .ite _ (.refl m) (hg.cl m c _)) _ m1)

theorem Timeless.runCredits (m : Mod) (n : Nat) : Keeps g m (m.runCredits n) := by
  unfold Mod.runCredits
  exact .ite _ (.refl m) (hg.sch m _ _ m.sch.holdRem)

theorem Timeless.runPauses (m : Mod) (n : Nat) : Keeps g m (m.runPauses n) := by
  unfold Mod.runPauses
  refine .foldl _ (fun m e => ?_) _ m
  extract_lets r _ m1
  have h1 : Keeps g m m1 := hg.prt m _
  exact h1.trans (.ite _ (.refl m1) (hg.bump m1 _ _))

theorem Timeless.runLpi (m : Mod) (n : Nat) : Keeps g m (m.runLpi n) := by
  unfold Mod.runLpi
  refine .foldl _ (fun m e => .ite _ ?_ (.refl m)) _ m
  extract_lets r _ m1
  have h1 : Keeps g m m1 := hg.prt m _
  exact h1.trans (.ite _ (.refl m1) (hg.bump m1 _ _))

theorem Timeless.runHolds (m : Mod) (n : Nat) : Keeps g m (m.runHolds n) := by
  unfold Mod.runHolds
  refine .foldl _ (fun m e => .ite _ ?_ (.refl m)) _ m
  extract_lets r _ m1
  have h1 : Keeps g m m1 := hg.sch m m.sch.ctok m.sch.csend _
  exact h1.trans (.ite _ (.refl m1) (hg.bump m1 _ _))

theorem Timeless.panicRuns (m : Mod) (ch n : Nat) : Keeps g m (m.panicRuns ch n) := by
  unfold Mod.panicRuns
  extract_lets r _ m1
  have h1 : Keeps g m m1 := hg.drm m _
  exact .ite _ (h1.trans (.ite _ (.refl m1) ((hg.bump m1 _ _).trans (hg.bump _ _ _)))) (.refl m)

/-! ### Cells of the frames still arriving -/

theorem Timeless.xoffUpdate (m : Mod) : Keeps g m m.xoffUpdate := by
  unfold Mod.xoffUpdate
  refine .foldl _ (fun m key => ?_) _ m
  have release : Keeps g m (m.xoffRelease key) := by
    unfold Mod.xoffRelease
    extract_lets p n x m1
    have h1 : Keeps g m m1 := hg.buf m _
    exact h1.trans (.ite _ ((hg.set m1 p _ (by decide)).trans (hg.prt _ _)) (.refl m1))
  have assert : Keeps g m (m.xoffAssert key) := by
    unfold Mod.xoffAssert
    extract_lets p n x m1
    have h1 : Keeps g m m1 := (hg.buf m _).trans (hg.bump _ _ _)
    exact h1.trans (.ite _ ((hg.set m1 p _ (by decide)).trans (hg.prt _ _)) (.refl m1))
  unfold Mod.xoffOne
  extract_lets p used low
  exact .ite _ (.ite _ release (.refl m)) (.ite _ assert (.refl m))

theorem Timeless.account (m : Mod) (f : Frame) (on : Bool) : Keeps g m (m.account f on) := by
  unfold Mod.account
  extract_lets mv tb key m1 m2 m3 m4 m5
  have hmv (m : Mod) (fl : Fld) (i n : Nat) (h : fl.reg ∈ passingRegs) : Keeps g m (mv m fl i n) :=
    .ite _ (.refl m) (.ite _ (hg.set m i _ h) (hg.set m i _ h))
  have h4 : Keeps g m m4 := (((hmv m _ _ _ (by decide)).trans (hmv m1 _ _ _ (by decide))).trans (hmv m2 _ _ _ (by decide))).trans
    (hmv m3 _ _ _ (by decide))
  have h5 : Keeps g m4 m5 := by
    unfold m5
    split
    · exact hmv m4 _ _ _ (by decide)
    · exact .refl m4
  exact (h4.trans h5).trans (hg.buf m5 _)

theorem Timeless.writeCells (m : Mod) (f : Frame) (n : Nat) : Keeps g m (m.writeCells f n).2.2 := by
  have exhausted (m : Mod) (h : Nat) : Keeps g m (m.sharedExhausted h) := by
    unfold Mod.sharedExhausted
    exact .ite _ ((hg.sqcBit m 0 0 (by decide)).trans (hg.told (told_eventRated _ _ _))) (.refl m)
  unfold Mod.writeCells
  extract_lets ch part f1
  exact .ite _ (.refl m) (((hg.account m part true).trans (exhausted _ _)).trans (hg.xoffUpdate _))

theorem Timeless.writeArriving (m : Mod) (p t : Nat) : Keeps g m (m.writeArriving p t) := by
  unfold Mod.writeArriving
  split
  · exact .refl m
  · extract_lets come n w
    exact .ite _ (.refl m) ((hg.writeCells m _ n).trans (hg.buf _ _))

/-! ### Time -/

theorem Timeless.countersRun (m : Mod) (n : Nat) : Keeps g m (m.countersRun n) :=
  (((((hg.runEpc m n).trans (hg.runCredits _ n)).trans (hg.runPauses _ n)).trans (hg.runLpi _ n)).trans (hg.runHolds _ n)).trans
    ((hg.panicRuns _ 0 n).trans (hg.panicRuns _ 1 n))

theorem Timeless.advance (m : Mod) (n : Nat) : Keeps g m (m.advance n) := by
  obtain rfl | h := Nat.eq_zero_or_pos n
  · exact .refl m
  · rw [advance_pos m h.ne', cyclesPass_eq]
    exact ((hg.countersRun m n).trans (.foldl _ (fun m p => hg.writeArriving m p _) _ _)).trans (hg.time _ _)

end

/-- What the passing of cycles brings about, the wait for an instant of network time does (R200, R205). -/
theorem advanceNet_along {R : Mod → Mod → Prop} (hrefl : ∀ m, R m m) (htrans : ∀ {a b c}, R a b → R b c → R a c)
    (h : ∀ m n, R m (m.advance n)) (m : Mod) (target : Nat) : R m (m.advanceNet target) := by
  unfold Mod.advanceNet
  exact rel_ite (hrefl m) (rel_ite (h m _) (rel_ite (h m _) (htrans (h m _) (h _ _))))

theorem Timeless.advanceNet {α : Type} {g : Mod → α} (hg : Timeless g) (m : Mod) (target : Nat) : Keeps g m (m.advanceNet target) :=
  advanceNet_along .refl .trans hg.advance m target

theorem advanceNet_buf {m : Mod} (h : m.buf.arriving = []) (target : Nat) : (m.advanceNet target).buf = m.buf :=
  advanceNet_along (R := fun a b => a.buf.arriving = [] → b.buf = a.buf) (fun _ _ => rfl)
    (fun hab hbc ha => (hbc ((congrArg BufSt.arriving (hab ha)).trans ha)).trans (hab ha)) (fun _ n ha => advance_buf ha n) m target h

/-! ### The schedules -/

/-- The registers of the gates and the launch queues, and the tick's period. -/
def scheduleRegs : List Reg := [.SCH_PORT_CFG, .SCH_PORT_STATUS, .SCH_GATE_CTL, .SCH_GATE_SWITCH, .SCH_GATE_BANK, .GLB_TICK_CFG]

/-- The gate lists, the gates, the launch queues and their registers. -/
def schedules (m : Mod) :
    (List (Nat × Word) × List (Nat × GateSt) × List (Nat × List Copy)) × ({ r : Reg // r ∈ scheduleRegs } → Nat → Word) :=
  ((m.sch.gateEntries, m.sch.gates, m.sch.launch), fun r i => m.rd r i)

section
variable {m n : Mod}

theorem keeps_schedules_iff : Keeps schedules m n ↔
    (n.sch.gateEntries = m.sch.gateEntries ∧ n.sch.gates = m.sch.gates ∧ n.sch.launch = m.sch.launch) ∧
      ∀ r ∈ scheduleRegs, ∀ i, n.rd r i = m.rd r i := by
  simp [Keeps, schedules, funext_iff]

theorem schedules_of_regs (hs : n.sch = m.sch) (hr : n.regs = m.regs) : Keeps schedules m n :=
  keeps_schedules_iff.2 ⟨by simp [hs], fun r _ i => rd_of_regs hr r i⟩

theorem apart_of_passing {r x : Reg} (hr : r ∈ passingRegs) (hx : x ∈ scheduleRegs) : x.apart r = true := by
  have apart : ∀ r ∈ passingRegs, ∀ x ∈ scheduleRegs, x.apart r = true := by decide
  exact apart r hr x hx

theorem not_evt_of_schedule {r : Reg} (h : r ∈ scheduleRegs) : evtReg r = false := by
  revert r
  decide

theorem timeless_schedules : Timeless schedules where
  told h := keeps_schedules_iff.2 ⟨by simp [h.sch], fun r hr i => h.2 r i (not_evt_of_schedule hr)⟩
  wr m _ i w hr := keeps_schedules_iff.2 ⟨by simp, fun x hx j => rd_wr_ne m _ x i j w (apart_of_passing hr hx)⟩
  sch _ _ _ _ := rfl
  drm _ _ := rfl
  prt _ _ := rfl
  buf _ _ := rfl
  cl m c k := schedules_of_regs (setCl_sch m c k) (setCl_regs m c k)
  time _ _ := rfl

variable (h : Keeps schedules m n)
include h

theorem get_of_schedules {f : Fld} (i : Nat) (hf : f.reg ∈ scheduleRegs) : n.get f i = m.get f i :=
  congrArg f.of ((keeps_schedules_iff.1 h).2 f.reg hf i)

theorem flag_of_schedules {f : Fld} (i : Nat) (hf : f.reg ∈ scheduleRegs) : n.flag f i = m.flag f i :=
  congrArg (· == 1) (get_of_schedules h i hf)

theorem gates_of_schedules (p : Nat) : lookup n.sch.gates p = lookup m.sch.gates p := by
  obtain ⟨⟨-, hgates, -⟩, -⟩ := keeps_schedules_iff.1 h
  rw [hgates]

theorem launchQ_of_schedules (p c : Nat) : n.launchQ p c = m.launchQ p c := by
  obtain ⟨⟨-, -, hlaunch⟩, -⟩ := keeps_schedules_iff.1 h
  unfold Mod.launchQ
  rw [hlaunch]

theorem gateSt_of_schedules (p : Nat) : n.gateSt p = m.gateSt p := by
  unfold Mod.gateSt
  rw [flag_of_schedules h p (by decide), gates_of_schedules h]

theorem gateEntry_of_schedules (p b i : Nat) : n.gateEntry p b i = m.gateEntry p b i := by
  obtain ⟨⟨hentries, -⟩, -⟩ := keeps_schedules_iff.1 h
  unfold Mod.gateEntry
  rw [hentries]

theorem entryGates_of_schedules (p b i : Nat) : n.entryGates p b i = m.entryGates p b i := by
  unfold Mod.entryGates
  rw [gateEntry_of_schedules h]

theorem beginGrain_of_schedules (p b i : Nat) : n.beginGrain p b i = m.beginGrain p b i := by
  unfold Mod.beginGrain
  simp only [gateEntry_of_schedules h]

theorem bankLen_of_schedules (p b : Nat) : n.bankLen p b = m.bankLen p b := get_of_schedules h _ (by decide)

theorem cycleLen_of_schedules (p b : Nat) : n.cycleLen p b = m.cycleLen p b := by
  unfold Mod.cycleLen Mod.period
  rw [get_of_schedules h _ (f := SCH_GATE_BANK_CYCLE_TICKS) (by decide), get_of_schedules h _ (f := GLB_TICK_CFG_PERIOD) (by decide)]

end

end Sys2Proof.Machine
end

section
/-! SUPPORT. The launch queues (R193 to R195): the copy that moves into one, the copy that waits, and the time that comes. -/

namespace Sys2Proof.Machine

/-! ### Order -/

theorem launchInsert_perm (l : List Copy) (x : Copy) : (launchInsert l x).Perm (x :: l) := by
  induction l with
  | nil => exact .refl _
  | cons y t ih =>
    unfold launchInsert
    split
    · exact .refl _
    · exact (ih.cons y).trans (.swap x y t)

/-- A copy moves in before the first later one, so the order of T stands (R193). -/
theorem launchInsert_ordered (l : List Copy) (x : Copy) (h : (l.map fun c => c.launch.getD 0).Pairwise (· ≤ ·)) :
    ((launchInsert l x).map fun c => c.launch.getD 0).Pairwise (· ≤ ·) := by
  rw [List.pairwise_map] at h ⊢
  induction l with
  | nil => exact List.pairwise_singleton _ x
  | cons y t ih =>
    obtain ⟨hy, ht⟩ := List.pairwise_cons.1 h
    unfold launchInsert
    split
    case isTrue hlt =>
      refine List.pairwise_cons.2 ⟨fun z hz => ?_, h⟩
      obtain rfl | hz := List.mem_cons.1 hz
      · exact hlt.le
      · exact hlt.le.trans (hy z hz)
    case isFalse hge =>
      refine List.pairwise_cons.2 ⟨fun z hz => ?_, ih ht⟩
      obtain rfl | hz := List.mem_cons.1 ((launchInsert_perm t x).subset hz)
      · exact Nat.not_lt.1 hge
      · exact hy z hz

/-! ### Queues replaced -/

section
variable (m : Mod)

theorem voq_setVoq_self (k : Nat) (q : List Copy) : (m.setVoq k q).voq k = q := lookupD_storeUnless_self _ _ _ _

theorem voq_setVoq_ne {k j : Nat} (q : List Copy) (h : j ≠ k) : (m.setVoq k q).voq j = m.voq j := lookupD_storeUnless_ne _ _ _ _ h

theorem setLaunchQ_launch (p c : Nat) (q : List Copy) : (m.setLaunchQ p c q).sch.launch = storeUnless [] m.sch.launch (8 * p + c) q := by
  unfold Mod.setLaunchQ
  exact congrArg SchSt.launch (set_sch _ _ _ _)

theorem setLaunchQ_buf (p c : Nat) (q : List Copy) : (m.setLaunchQ p c q).buf = m.buf := by
  unfold Mod.setLaunchQ
  exact set_buf _ _ _ _

theorem setLaunchQ_time (p c : Nat) (q : List Copy) : (m.setLaunchQ p c q).time = m.time := by
  unfold Mod.setLaunchQ
  exact set_time _ _ _ _

theorem launchQ_setLaunchQ_self (p c : Nat) (q : List Copy) : (m.setLaunchQ p c q).launchQ p c = q := by
  unfold Mod.launchQ
  rw [setLaunchQ_launch]
  exact lookupD_storeUnless_self _ _ _ _

theorem launchQ_setLaunchQ_ne {p c r d : Nat} (q : List Copy) (hc : c < 8) (hd : d < 8) (h : (r, d) ≠ (p, c)) :
    (m.setLaunchQ p c q).launchQ r d = m.launchQ r d := by
  have hk : 8 * r + d ≠ 8 * p + c := fun e => h (by rw [Prod.mk.injEq]; omega)
  unfold Mod.launchQ
  rw [setLaunchQ_launch]
  exact lookupD_storeUnless_ne _ _ _ _ hk

end

/-! ### LAUNCH_QUEUE_ENTRY -/

section
variable {m : Mod} {s p c : Nat}

theorem launchEntry_empty (h : m.voq (voqKey s p c) = []) : m.launchEntry s p c = m := by
  simp only [Mod.launchEntry, h]

variable {x : Copy} {rest : List Copy} (h : m.voq (voqKey s p c) = x :: rest)
include h

theorem launchEntry_untimed (hx : x.launch = none) : m.launchEntry s p c = m := by
  simp only [Mod.launchEntry, h, if_pos hx]

variable (hx : x.launch.isSome = true)
include hx

theorem launchEntry_moves (hroom : m.get SCH_PORT_STATUS_LQ_FILL p < 4096) :
    m.launchEntry s p c = (m.setVoq (voqKey s p c) rest).setLaunchQ p c (launchInsert (m.launchQ p c) x) := by
  simp only [Mod.launchEntry, h, if_neg (Option.isSome_iff_ne_none.1 hx), if_pos hroom]

variable (hfull : 4096 ≤ m.get SCH_PORT_STATUS_LQ_FILL p)
include hfull

theorem launchEntry_waits (hw : x.waited = false) :
    m.launchEntry s p c = (m.bump (m.schCtr p 5)).setVoq (voqKey s p c) ({ x with waited := true } :: rest) := by
  simp only [Mod.launchEntry, h, if_neg (Option.isSome_iff_ne_none.1 hx), if_neg (Nat.not_lt.2 hfull), hw, Bool.false_eq_true, if_false]

/-- LQ_FULL counts a copy that waits once (R193). -/
theorem launchEntry_waiting (hw : x.waited = true) : m.launchEntry s p c = m := by
  simp only [Mod.launchEntry, h, if_neg (Option.isSome_iff_ne_none.1 hx), if_neg (Nat.not_lt.2 hfull), hw, if_true]

end

/-! ### LAUNCH_DUE -/

theorem launchDue_none {m : Mod} {p c : Nat} (h : m.launchQ p c = []) : m.launchDue p c = m := by
  simp only [Mod.launchDue, h]

theorem launchDue_head {m : Mod} {p c : Nat} {x : Copy} {rest : List Copy} (h : m.launchQ p c = x :: rest) :
    m.launchDue p c = m.advanceNet (x.launch.getD 0) := by
  simp only [Mod.launchDue, h]

/-- An instant, past or to come, has come after the wait for it (R200). -/
theorem advanceNet_comes {m : Mod} (hs : m.time.slew = 0) (target : Nat) : target ≤ (m.advanceNet target).time.net := by
  obtain h | h := Nat.le_total target m.time.net
  · rwa [advanceNet_past h]
  · obtain ⟨-, hcome, -⟩ := advanceNet_reaches hs h
    exact hcome

/-- Settles O34: the entry of a launch queue replaces the VOQ and the launch queue of its class alone, and the wait for a launch time leaves
the schedules; that an entry or a time out of its turn changes nothing is log 4. -/
theorem launchQueueFillsAndFalls : Obligations.LaunchQueueFillsAndFalls := by
  refine ⟨fun s src p c hrun hq => does_act (exec_launchQueueEntry src p c s) hrun (launchEntry_empty hq), fun s src p c x rest hrun hq => ?_,
    launchInsert_ordered, fun s p c hrun => ⟨fun hq => does_act (exec_launchDue p c s) hrun (launchDue_none hq), fun x rest hq hslew => ?_⟩⟩
  · have enters := exec_launchQueueEntry src p c s
    refine ⟨fun hx => does_act enters hrun (launchEntry_untimed hq hx), fun hx hroom => ?_, fun hx hfull hw => ?_,
      fun hx hfull hw => does_act enters hrun (launchEntry_waiting hq hx hfull hw)⟩
    · refine yields_of_does (does_act enters hrun (launchEntry_moves hq hx hroom)) ?_
      have hbuf := setLaunchQ_buf (s.m.setVoq (voqKey src p c) rest) p c (launchInsert (s.m.launchQ p c) x)
      have hvoq (k : Nat) := congrArg (fun b : BufSt => lookupD b.voqs k []) hbuf
      exact ⟨(hvoq _).trans (voq_setVoq_self _ _ _), launchQ_setLaunchQ_self _ _ _ _, fun k hk => (hvoq k).trans (voq_setVoq_ne _ _ hk),
        fun q d hne hd => launchQ_setLaunchQ_ne _ _ c.isLt hd hne, (congrArg BufSt.frames hbuf).trans rfl, setLaunchQ_time _ _ _ _⟩
    · exact yields_of_does (does_act enters hrun (launchEntry_waits hq hx hfull hw)) ⟨voq_setVoq_self _ _ _, bump_sch _ _ _⟩
  · refine yields_of_does (does_act (exec_launchDue p c s) hrun (launchDue_head hq)) ⟨advanceNet_comes hslew _, advanceNet_past, ?_,
      fun harr => advanceNet_buf harr _⟩
    exact (launchQ_of_schedules (timeless_schedules.advanceNet s.m _) _ _).trans hq

end Sys2Proof.Machine
end

section
/-! SUPPORT. Gate cycles and bank switches (R185 to R189): what a new cycle, an entry that begins and a switch show. -/

namespace Sys2Proof.Machine

/-! ### Gates set -/

/-- The module with the gates of front port p replaced. -/
def Mod.putGates (m : Mod) (p : Nat) (g : GateSt) : Mod := m.withSch { m.sch with gates := store m.sch.gates p g }

/-- What n shows of front port p, whose gates are now g with their entry: the gates and the registers they show in; the list stays on or
off, and the buffer is that of m. -/
structure GatesShown (m n : Mod) (p : Nat) (g : GateSt) (entry : Nat) : Prop where
  gates : lookup n.sch.gates p = some g
  shown : n.get SCH_PORT_STATUS_GATES p = g.gates % 2 ^ 8
  entry : n.get SCH_PORT_STATUS_CUR_ENTRY p = entry % 2 ^ 10
  enabled : n.flag SCH_PORT_CFG_GATE_EN p = m.flag SCH_PORT_CFG_GATE_EN p
  buf : n.buf = m.buf

/-- A frame that runs past its gate counts, and raises an event (R188): all but SCH_EVENT stays. -/
theorem queueShown_gateOverruns {r : Reg} (i : Nat) (m before : Mod) (p : Nat) (hr : portReg r = true) (ha : r.apart .SCH_EVENT = true) :
    Keeps (queueShown r i) m (m.gateOverruns before p) := by
  have told {a b : Mod} (h : Told a b) : Keeps (queueShown r i) a b := h.driftTold.queueShown i hr
  unfold Mod.gateOverruns
  split
  · extract_lets c
    exact .ite _ (((told (told_bump m _ 1)).trans (queueShown_sqc i _ 0 ha)).trans (told (told_eventRated _ _ _))) (.refl m)
  · exact .refl m

theorem setGates_putGates (m : Mod) (p x entry : Nat) (g : GateSt) :
    GatesShown m ((m.putGates p g).setGates p x entry) p { g with gates := x } entry := by
  have hput : lookup (m.putGates p g).sch.gates p = some g := lookup_store_self _ _ _
  unfold Mod.setGates
  simp only [hput]
  generalize hset : Mod.withSch (m.putGates p g) _ = n
  have hkept (r : Reg) (hr : portReg r = true) (ha : r.apart .SCH_EVENT = true) := keeps_queueShown_iff.1
    (queueShown_gateOverruns p ((n.set SCH_PORT_STATUS_GATES p x).set SCH_PORT_STATUS_CUR_ENTRY p entry) (m.putGates p g) p hr ha)
  obtain ⟨⟨-, hbuf, hsch, -⟩, hstatus⟩ := hkept .SCH_PORT_STATUS rfl rfl
  obtain ⟨-, hcfg⟩ := hkept .SCH_PORT_CFG rfl rfl
  refine ⟨?_, ?_, ?_, ?_, ?_⟩
  · rw [hsch, set_sch, set_sch, ← hset]
    exact lookup_store_self _ _ _
  · refine (congrArg SCH_PORT_STATUS_GATES.of hstatus).trans ?_
    exact (get_set_clear _ p entry (f := SCH_PORT_STATUS_CUR_ENTRY) (by decide)).trans (get_set _ _ _ _ (by decide))
  · exact (congrArg SCH_PORT_STATUS_CUR_ENTRY.of hstatus).trans (get_set _ _ _ _ (by decide))
  · refine congrArg (fun w => SCH_PORT_CFG_GATE_EN.of w == 1) (hcfg.trans ?_)
    rw [rd_set_ne _ _ _ _ _ _ rfl, rd_set_ne _ _ _ _ _ _ rfl, ← hset]
    rfl
  · rw [hbuf, set_buf, set_buf, ← hset]
    rfl

/-! ### Entries and cycles -/

theorem entryGates_mod (m : Mod) (p b i : Nat) : m.entryGates p b i % 2 ^ 8 = m.entryGates p b i := Nat.mod_mod _ _

theorem skipEmpty_full {m : Mod} {p b i : Nat} (h : m.beginGrain p b i < m.beginGrain p b (i + 1)) (n fuel : Nat) :
    m.skipEmpty p b n fuel i = i := by
  cases fuel with
  | zero => rfl
  | succ fuel => exact if_neg fun hempty => (Nat.not_le.2 h) hempty.2

section
variable {m : Mod} {p b : Nat} (hb : b = m.get SCH_PORT_STATUS_CUR_BANK p)
include hb

/-- An entry before a later one begins alone and takes its gates (R186). -/
theorem beginEntry_shows {g : GateSt} (h : m.beginGrain p b g.next < m.beginGrain p b (g.next + 1)) :
    GatesShown m (m.beginEntry p g) p { g with next := g.next + 1, gates := m.entryGates p b g.next } g.next := by
  have hentry : m.beginEntry p g = (m.putGates p { g with next := g.next + 1 }).setGates p (m.entryGates p b g.next) g.next := by
    simp only [Mod.beginEntry, ← hb, skipEmpty_full h, Nat.sub_self, List.range_zero, List.foldl_nil]
    rfl
  rw [hentry]
  exact setGates_putGates m p _ _ _

variable (start : Nat)

theorem newCycle_closed (h : m.beginGrain p b 0 ≠ 0) :
    GatesShown m (m.newCycle p start) p ⟨some start, start + m.cycleLen p b, 0, 0⟩ 0 := by
  subst hb
  unfold Mod.newCycle
  rw [if_neg fun h0 => h h0.1]
  exact setGates_putGates m p 0 0 _

theorem newCycle_opens (h0 : m.beginGrain p b 0 = 0) (hlen : 0 < m.bankLen p b) (h1 : 0 < m.beginGrain p b 1) :
    GatesShown m (m.newCycle p start) p ⟨some start, start + m.cycleLen p b, 1, m.entryGates p b 0⟩ 0 := by
  unfold Mod.newCycle
  simp only [← hb]
  rw [if_pos ⟨h0, hlen⟩]
  exact beginEntry_shows hb (h0.trans_lt h1)

end

/-! ### The end of a cycle, and a switch -/

section
variable {m : Mod} {p : Nat}

theorem gateSt_some {g : GateSt} (h : m.gateSt p = some g) : m.flag SCH_PORT_CFG_GATE_EN p = true ∧ lookup m.sch.gates p = some g := by
  unfold Mod.gateSt at h
  split at h
  case isTrue hen => exact ⟨hen, h⟩
  case isFalse => exact absurd h (Option.some_ne_none g).symm

/-- No cycle ends where none is in progress. -/
theorem endCycle_idle (h : ∀ g, m.gateSt p = some g → g.cycle = none) : m.endCycle p = m := by
  unfold Mod.endCycle
  split
  case h_1 hg => exact absurd (h _ hg) (Option.some_ne_none _)
  case h_2 => rfl

theorem endCycle_off (h : m.flag SCH_PORT_CFG_GATE_EN p = false) : m.endCycle p = m :=
  endCycle_idle fun _ hg => absurd (h.symm.trans (gateSt_some hg).1) Bool.false_ne_true

end

/-- The bank asked for is in force, nothing is pending, and SWITCHED tells it (R189). -/
theorem switchBank_shows (m : Mod) (p : Nat) (cut : Bool) :
    (m.switchBank p cut).get SCH_PORT_STATUS_CUR_BANK p = m.get SCH_GATE_CTL_REQ_BANK p ∧
    (m.switchBank p cut).flag SCH_PORT_STATUS_SWITCH_PEND p = false ∧ (m.switchBank p cut).flag SCH_EVENT_SWITCHED = true ∧
    (m.switchBank p cut).flag SCH_PORT_CFG_GATE_EN p = m.flag SCH_PORT_CFG_GATE_EN p := by
  unfold Mod.switchBank
  extract_lets b m1 m2 m3
  have h1 : Told m m1 := by
    unfold m1
    split
    · exact told_bump m _ 1
    · exact .refl m
  have hget {f : Fld} (hr : evtReg f.reg = false) (ha : f.reg.apart .SCH_EVENT = true) (e : Ev) : (m3.event e).get f p = m2.get f p :=
    ((told_event m3 e).get p hr).trans ((get_sqc_ne _ SCH_EVENT_SWITCHED f 0 p ha).trans ((told_bump m2 _ 1).get p hr))
  refine ⟨?_, flag_of_get (v := 0) ?_, ?_, congrArg (· == 1) ?_⟩
  · rw [hget rfl rfl]
    exact ((get_set_clear _ p 0 (by decide)).trans (get_set_bit _ _ _ rfl)).trans (of_mod _ _)
  · rw [hget rfl rfl]
    exact get_set_bit _ _ _ rfl
  · exact ((told_event m3 _).flag 0 rfl).trans (flag_sqc_bit _ 0 rfl)
  · rw [hget rfl rfl]
    exact ((get_set_ne _ _ _ _ _ _ rfl).trans (get_set_ne _ _ _ _ _ _ rfl)).trans (h1.get p rfl)

/-! ### CYCLE_START -/

section
variable {m : Mod} {p : Nat}

theorem cycleStart_idle (hen : m.flag SCH_PORT_CFG_GATE_EN p = false) (hpend : m.flag SCH_PORT_STATUS_SWITCH_PEND p = false) :
    m.cycleStart p = m := by
  simp [Mod.cycleStart, hen, hpend]

theorem cycleStart_elsewhere (hpend : m.flag SCH_PORT_STATUS_SWITCH_PEND p = false)
    (ht : m.cycleTick p (m.get SCH_PORT_STATUS_CUR_BANK p) (m.tick.boundary / (m.period * unitsPerNs)) = false) : m.cycleStart p = m := by
  simp [Mod.cycleStart, hpend, ht]

theorem cycleStart_begins (hen : m.flag SCH_PORT_CFG_GATE_EN p = true) (hpend : m.flag SCH_PORT_STATUS_SWITCH_PEND p = false)
    (hidle : ∀ g, lookup m.sch.gates p = some g → g.cycle = none)
    (ht : m.cycleTick p (m.get SCH_PORT_STATUS_CUR_BANK p) (m.tick.boundary / (m.period * unitsPerNs)) = true) :
    m.cycleStart p = (m.advanceNet m.tick.boundary).newCycle p m.tick.boundary := by
  have hbegun : ((lookup m.sch.gates p).any fun g => g.cycle == some m.tick.boundary) = false := by
    cases hg : lookup m.sch.gates p with
    | none => rfl
    | some g => simp [hidle g hg]
  have hend : (m.advanceNet m.tick.boundary).endCycle p = m.advanceNet m.tick.boundary := endCycle_idle fun g hg =>
    hidle g ((gates_of_schedules (timeless_schedules.advanceNet m _) p).symm.trans (gateSt_some hg).2)
  simp only [Mod.cycleStart, hen, hpend, ht, hbegun, hend, Bool.false_and, Bool.false_eq_true, if_false, and_self, if_true]

/-- A switch at a port whose gates are off begins no cycle (R189). -/
theorem cycleStart_switches (hen : m.flag SCH_PORT_CFG_GATE_EN p = false) (hpend : m.flag SCH_PORT_STATUS_SWITCH_PEND p = true)
    (hdue : (m.rd .SCH_GATE_SWITCH p).toNat ≤ m.tick.boundary / (m.period * unitsPerNs))
    (ht : m.cycleTick p (m.get SCH_GATE_CTL_REQ_BANK p) (m.tick.boundary / (m.period * unitsPerNs)) = true) :
    ∃ cut, m.cycleStart p = (m.advanceNet m.tick.boundary).switchBank p cut := by
  have hoff : (m.advanceNet m.tick.boundary).flag SCH_PORT_CFG_GATE_EN p = false :=
    (flag_of_schedules (timeless_schedules.advanceNet m _) p (by decide)).trans hen
  refine ⟨(m.advanceNet m.tick.boundary).cycleCut p (m.tick.boundary / (m.period * unitsPerNs)), ?_⟩
  obtain ⟨-, -, -, hstill⟩ := switchBank_shows (m.advanceNet m.tick.boundary) p
    ((m.advanceNet m.tick.boundary).cycleCut p (m.tick.boundary / (m.period * unitsPerNs)))
  simp only [Mod.cycleStart, hpend, decide_eq_true hdue, ht, Bool.and_self, if_true, endCycle_off hoff, ite_self, hstill.trans hoff,
    Bool.false_eq_true, if_false]

/-! ### GATE_ENTRY_BEGIN -/

theorem gateEntryBegin_off (h : m.gateSt p = none) : m.gateEntryBegin p = m := by
  simp only [Mod.gateEntryBegin, h]

variable {g : GateSt} {cs b at_ : Nat} (h : m.gateSt p = some g) (hcs : g.cycle = some cs) (hb : b = m.get SCH_PORT_STATUS_CUR_BANK p)
  (hat : at_ = cs + m.beginGrain p b g.next * grain)
include h hcs hb hat

theorem gateEntryBegin_over (hover : m.bankLen p b ≤ g.next ∨ g.cycleEnd ≤ at_) : m.gateEntryBegin p = m := by
  subst hb hat
  simp only [Mod.gateEntryBegin, h, hcs]
  exact if_neg (by omega)

theorem gateEntryBegin_due (hn : g.next < m.bankLen p b) (hend : at_ < g.cycleEnd) (hpast : at_ ≤ m.time.net) :
    m.gateEntryBegin p = m.beginEntry p g := by
  subst hb hat
  simp only [Mod.gateEntryBegin, h, hcs]
  rw [if_pos ⟨hn, hend⟩, advanceNet_past hpast]

end

end Sys2Proof.Machine
end

section
/-! SUPPORT. The gate window (R185, R189, R372): what its commands answer to a path with module-wide rights, and what the answer shows. -/

namespace Sys2Proof.Machine

/-- A window command that is not GRF_CMD and reaches its block leaves the block's answer, but for events and the drift from the image. -/
theorem yields_opened {c : Instr} {s : State} {p : Path} {v : Word} {win : WinId} {i op : Nat} {f : Fld} {n : Mod} {P : State → Prop}
    (hc : exec c s = s.put p f.reg 0 (withOp f v op) none) (ho : s.Opened p f.reg 0 i win (withOp f v op)) (hgrf : f.reg ≠ .GRF_CMD)
    (hw : s.m.winCommand p f.reg i (commandWord f (s.m.rd f.reg i) v op) true [] = n) (hP : ∀ t : State, DriftTold n t.m → P t) :
    Yields c s P := by
  subst hw
  exact ⟨_, hc.trans (put_opened s p _ 0 _ _ _ none ho hgrf), hP _ (driftTold_winDrift _ s.m p _ _)⟩

/-! ### The answer -/

/-- The module of a command of SCH_GATE_WIN_CMD that has been answered. -/
def Mod.gateAnswered (m : Mod) (p : Path) (w : Word) (status : Nat) (data : List (Reg × Nat × Word) := []) : Mod :=
  m.winAnswer p (.gate (pathNum p)) .SCH_GATE_WIN_CMD (pathNum p) SCH_GATE_WIN_CMD_BUSY SCH_GATE_WIN_CMD_STATUS w status (status != 0) data

/-- A command word names entry e of a bank of a port, by a path with module-wide rights. -/
structure GateNamed (p : Path) (w : Word) (port bank e : Nat) : Prop where
  wide : vfHedge p = none
  port : SCH_GATE_WIN_CMD_PORT.of w = port
  bank : SCH_GATE_WIN_CMD_BANK.of w = bank
  entry : SCH_GATE_WIN_CMD_ENTRY.of w = e

section
variable {m : Mod} {p : Path} {w : Word} {port bank e : Nat} (h : GateNamed p w port bank e)
include h

theorem gateWindow_write (hop : SCH_GATE_WIN_CMD_OP.of w = 1) (hidle : m.bankActive port bank = false) :
    m.gateWindow p w = (m.putGate port bank e (m.rd .SCH_GATE_WIN_DATA (pathNum p))).gateAnswered p w 0 := by
  obtain ⟨hp, rfl, rfl, rfl⟩ := h
  simp only [Mod.gateWindow, hp, hop, hidle, Option.any_none, Bool.and_false, Bool.false_eq_true, if_false, and_self, if_true,
    Nat.reduceEqDiff, and_false]
  rfl

/-- A bank in force, or about to be, is not written (R189). -/
theorem gateWindow_active (hop : SCH_GATE_WIN_CMD_OP.of w = 1) (hactive : m.bankActive port bank = true) :
    m.gateWindow p w = m.gateAnswered p w 2 := by
  obtain ⟨hp, rfl, rfl, rfl⟩ := h
  simp only [Mod.gateWindow, hp, hop, hactive, Option.any_none, beq_self_eq_true, Bool.and_self, Bool.false_eq_true, if_false, if_true,
    Nat.reduceEqDiff, false_and]
  unfold Mod.gateAnswered Mod.winAnswer
  exact (if_pos rfl).symm

theorem gateWindow_read (hop : SCH_GATE_WIN_CMD_OP.of w = 2) :
    m.gateWindow p w = m.gateAnswered p w 0 [(.SCH_GATE_WIN_DATA, pathNum p, m.gateEntry port bank e)] := by
  obtain ⟨hp, rfl, rfl, rfl⟩ := h
  simp only [Mod.gateWindow, hp, hop, Option.any_none, Nat.reduceBEq, Bool.false_and, Bool.false_eq_true, if_false, Nat.reduceEqDiff,
    and_false, and_self, if_true]
  rfl

end

/-- What t shows of a command of path n that the gate window has answered with the module m: its status and data, the scheduler and the
buffer of m, and REFUSED where it was refused. -/
structure GateReply (m t : Mod) (n status : Nat) (data : List (Reg × Nat × Word)) : Prop where
  replies : t.replies (.gate n) SCH_GATE_WIN_CMD_STATUS n status data = true
  sch : t.sch = m.sch
  buf : t.buf = m.buf
  refused : status ≠ 0 → t.flag SCH_EVENT_REFUSED = true

theorem gateAnswered_reply {m t : Mod} {p : Path} {w : Word} {status : Nat} {data : List (Reg × Nat × Word)} (hs : status < 8)
    (h : DriftTold (m.gateAnswered p w status data) t) : GateReply m t (pathNum p) status data := by
  obtain ⟨a, ha⟩ : ∃ a, a = m.winBegin (.gate (pathNum p)) .SCH_GATE_WIN_CMD (pathNum p) SCH_GATE_WIN_CMD_BUSY SCH_GATE_WIN_CMD_STATUS w
    status data := ⟨_, rfl⟩
  obtain ⟨e, he⟩ : ∃ e, m.gateAnswered p w status data = if (status != 0) = true then (a.sqc SCH_EVENT_REFUSED).event e else a := by
    rw [ha]
    exact ⟨_, rfl⟩
  rw [he] at h
  have hkept : Keeps (queueShown .SCH_GATE_WIN_CMD (pathNum p)) a t := by
    refine Keeps.trans (.ite _ ?_ (.refl a)) (h.queueShown _ rfl)
    exact (queueShown_sqc _ a 0 rfl).trans ((told_event _ e).driftTold.queueShown _ rfl)
  obtain ⟨⟨hwin, hbuf, hsch, -⟩, hreg⟩ := keeps_queueShown_iff.1 hkept
  refine ⟨replies_of_winBegin (busy := SCH_GATE_WIN_CMD_BUSY) (w := w) (by decide) hs (hwin.trans (by rw [ha])) (hreg.trans (by rw [ha])),
    ?_, ?_, fun h0 => ?_⟩
  · simp [hsch, ha, Mod.winBegin]
  · simp [hbuf, ha, Mod.winBegin]
  · rw [if_pos (bne_iff_ne.2 h0)] at h
    rw [h.flag 0 rfl, (told_event _ e).flag 0 rfl]
    exact flag_sqc_bit a 0 rfl

/-! ### The command -/

/-- The word of a command of SCH_GATE_WIN_CMD with its operation named, as its block takes it. -/
def Mod.gateWord (m : Mod) (p : Path) (v : Word) (op : Nat) : Word :=
  commandWord SCH_GATE_WIN_CMD_OP (m.rd .SCH_GATE_WIN_CMD (pathNum p)) v op

theorem op_gateWord (m : Mod) (p : Path) (v : Word) {op : Nat} (h : op < 4) : SCH_GATE_WIN_CMD_OP.of (m.gateWord p v op) = op :=
  op_commandWord _ v (by decide) (by decide) h

/-- A command's word names its entry to the block as the command gives it. -/
theorem gateNamed_gateWord (m : Mod) {p : Path} (hp : vfHedge p = none) (v : Word) (op : Nat) :
    GateNamed p (m.gateWord p v op) (SCH_GATE_WIN_CMD_PORT.of v) (SCH_GATE_WIN_CMD_BANK.of v) (SCH_GATE_WIN_CMD_ENTRY.of v) := by
  have named {g : Fld} (hg : settableField .SCH_GATE_WIN_CMD g = true) (h : 2 ≤ g.lo) : g.of (m.gateWord p v op) = g.of v :=
    of_commandWord _ v op hg (by decide) (.inl h)
  exact ⟨hp, named (by decide) (by decide), named (by decide) (by decide), named (by decide) (by decide)⟩

/-- A command of SCH_GATE_WIN_CMD that reaches its block shows the answer the block gives it. -/
theorem yields_gate {c : Instr} {s : State} {p : Path} {v w : Word} {op status : Nat} {m : Mod} {data : List (Reg × Nat × Word)}
    {P : State → Prop} (hc : exec c s = s.put p .SCH_GATE_WIN_CMD 0 (withOp SCH_GATE_WIN_CMD_OP v op) none)
    (ho : s.Opened p .SCH_GATE_WIN_CMD 0 (pathNum p) (.gate (pathNum p)) (withOp SCH_GATE_WIN_CMD_OP v op)) (hs : status < 8)
    (hw : s.m.gateWindow p (s.m.gateWord p v op) = m.gateAnswered p w status data)
    (hP : ∀ t : State, GateReply m t.m (pathNum p) status data → P t) : Yields c s P :=
  yields_opened (f := SCH_GATE_WIN_CMD_OP) hc ho (by decide) hw fun t ht => hP t (gateAnswered_reply hs ht)

/-- An entry put stands in the reply with its field bits, and every other one as before. -/
theorem GateReply.putGate {m t : Mod} {port bank e n status : Nat} {w : Word} {data : List (Reg × Nat × Word)}
    (h : GateReply (m.putGate port bank e w) t n status data) :
    t.gateEntry port bank e = BitVec.ofNat 64 (w.toNat &&& (0xFF * 2 ^ 56 + (2 ^ 31 - 1))) ∧
    (∀ k, k ≠ (2 * port + bank) * 1024 + e → lookup t.sch.gateEntries k = lookup m.sch.gateEntries k) ∧ t.sch.gates = m.sch.gates ∧
    t.buf = m.buf := by
  refine ⟨?_, fun k hk => ?_, ?_, h.buf⟩
  · exact (congrArg (fun x : SchSt => lookupD x.gateEntries _ 0) h.sch).trans (lookupD_storeUnless_self _ _ _ _)
  · rw [h.sch]
    exact lookup_storeUnless_ne _ _ _ hk
  · rw [h.sch]
    rfl

end Sys2Proof.Machine
end

section
/-! SUPPORT. The gate lists (R185 to R187, R189, R372): the obligation. -/

namespace Sys2Proof.Machine

/-- Gates that are shut let no class through. -/
theorem GatesShown.closed {m n : Mod} {p entry : Nat} {g : GateSt} (h : GatesShown m n p g entry)
    (hen : m.flag SCH_PORT_CFG_GATE_EN p = true) (hg : g.gates = 0) (c : Nat) : n.gateOpen p c = false := by
  have hst : n.gateSt p = some g := by
    unfold Mod.gateSt
    rw [if_pos (h.enabled.trans hen), h.gates]
  simp [Mod.gateOpen, hst, hg]

/-- Settles O33: a gate command's answer is the module with the entry put or nothing changed; at its instant, which time's passing brings with
the schedules as they were, a cycle, an entry or a switch sets the port's gates or its bank; that an event out of its turn changes nothing is
log 4. -/
theorem gateListsOpenAndClose : Obligations.GateListsOpenAndClose := by
  refine ⟨fun s p v n port bank e hp hn hport hbank he => ?_, fun s p hrun => ?_, fun s p hrun => ?_⟩
  · subst hn hport hbank he
    have named := gateNamed_gateWord s.m hp v
    have hop {op} (h : op < 4) := op_gateWord s.m p v h
    refine ⟨fun ho => ⟨fun hidle => ?_, fun hactive => ?_⟩, fun ho => ?_⟩
    · exact yields_gate (exec_gateEntryWrite p v s) ho (by decide) (gateWindow_write (named 1) (hop (by decide)) hidle) fun t ht =>
        ⟨ht.replies, ht.putGate⟩
    · exact yields_gate (exec_gateEntryWrite p v s) ho (by decide) (gateWindow_active (named 1) (hop (by decide)) hactive) fun t ht =>
        ⟨ht.replies, ht.sch, ht.refused (by decide)⟩
    · exact yields_gate (exec_gateEntryRead p v s) ho (by decide) (gateWindow_read (named 2) (hop (by decide))) fun t ht =>
        ⟨ht.replies, ht.sch⟩
  · have starts := exec_cycleStart p s
    have hkept := timeless_schedules.advanceNet s.m s.m.tick.boundary
    refine ⟨fun hen hpend => does_act starts hrun (cycleStart_idle hen hpend), fun hen hpend hidle n hn => ?_,
      fun hen hpend n hn hdue ht => ?_⟩
    · subst hn
      refine ⟨fun ht => does_act starts hrun (cycleStart_elsewhere hpend ht), fun b hb ht => ?_⟩
      have begins := does_act starts hrun (cycleStart_begins hen hpend hidle (hb ▸ ht))
      have hb' : b = (s.m.advanceNet s.m.tick.boundary).get SCH_PORT_STATUS_CUR_BANK p :=
        hb.trans (get_of_schedules hkept p (by decide)).symm
      have hen' := (flag_of_schedules hkept p (f := SCH_PORT_CFG_GATE_EN) (by decide)).trans hen
      refine ⟨fun h0 => yields_of_does begins ?_, fun h0 hlen h1 => yields_of_does begins ?_⟩
      · have h := newCycle_closed hb' s.m.tick.boundary ((beginGrain_of_schedules hkept p b 0).trans_ne h0)
        rw [cycleLen_of_schedules hkept] at h
        exact ⟨congrArg (Option.map _) h.gates, h.shown, h.closed hen' rfl, fun harr => h.buf.trans (advanceNet_buf harr _)⟩
      · have h := newCycle_opens hb' s.m.tick.boundary ((beginGrain_of_schedules hkept p b 0).trans h0)
          (hlen.trans_eq (bankLen_of_schedules hkept p b).symm) (h1.trans_eq (beginGrain_of_schedules hkept p b 1).symm)
        rw [cycleLen_of_schedules hkept, entryGates_of_schedules hkept] at h
        exact ⟨congrArg (Option.map _) h.gates, h.shown.trans (entryGates_mod _ _ _ _), fun harr => h.buf.trans (advanceNet_buf harr _)⟩
    · subst hn
      obtain ⟨cut, hswitch⟩ := cycleStart_switches hen hpend hdue ht
      obtain ⟨hbank, hdone, htold, -⟩ := switchBank_shows (s.m.advanceNet s.m.tick.boundary) p cut
      exact yields_of_does (does_act starts hrun hswitch) ⟨hbank.trans (get_of_schedules hkept p (by decide)), hdone, htold⟩
  · have begins := exec_gateEntryBegin p s
    refine ⟨fun h => does_act begins hrun (gateEntryBegin_off h), fun g cs b at_ hg hcs hb hat =>
      ⟨fun hover => does_act begins hrun (gateEntryBegin_over hg hcs hb hat hover), fun hn hend hpast hlater => ?_⟩⟩
    have h := beginEntry_shows hb hlater
    refine yields_of_does (does_act begins hrun (gateEntryBegin_due hg hcs hb hat hn hend hpast))
      ⟨(congrArg (Option.map _) h.gates).trans ?_, h.shown.trans (entryGates_mod _ _ _ _), h.entry, h.buf⟩
    simp [hcs]

end Sys2Proof.Machine
end

section
/-! SUPPORT. What a TIME cycle with no command waiting writes (R200, R297): the performance counters run on with it. -/

namespace Sys2Proof.Machine

/-- The module at reset, with counter 0 of its first engine selecting the ENG cycles that pass (R298). -/
def cyclesCounted : State := { State.reset with m := State.reset.m.set EPC_SEL_EVENT 0 1 }

/-- The ENG cycle in which the first TIME cycle passes is counted (R250, R297): EPC_CTR reads 0 before it and 1 after it. -/
theorem epcCtr_of_idle_cyclesCounted : cyclesCounted.m.rd .EPC_CTR = 0 ∧ cyclesCounted.idle.m.rd .EPC_CTR = 1 := by decide +kernel

/-- Refutes O2: a TIME cycle raises the performance counters that count cycles, and EPC_CTR is no register that an event writes. With counter 0
of engine 0 on ENG cycles it reads 0 before the step and 1 after it, and no frame is arriving. -/
theorem not_emptyQueueLetsTimePass : ¬ Obligations.EmptyQueueLetsTimePass := by
  intro h
  obtain ⟨-, hruns⟩ := h cyclesCounted rfl
  have hup : cyclesCounted.m.dieUp = true := by decide +kernel
  obtain ⟨t, hstep, -, -, -, -, -, hquiet⟩ := hruns hup
  obtain ⟨hrd, -⟩ := hquiet rfl
  have hidle : t = cyclesCounted.idle := by
    have hpass : step cyclesCounted = .next cyclesCounted.idle := rfl
    cases hstep.symm.trans hpass
    rfl
  obtain ⟨hbefore, hafter⟩ := epcCtr_of_idle_cyclesCounted
  have hsame : cyclesCounted.idle.m.rd .EPC_CTR = cyclesCounted.m.rd .EPC_CTR := hidle ▸ hrd .EPC_CTR 0 rfl
  rw [hbefore, hafter] at hsame
  exact absurd hsame (by decide)

end Sys2Proof.Machine
end

section
/-! SUPPORT. Time states, the selection of a reference and the PLL's input (R203, R209 to R211, R215, R216): what their changes leave of the
network time, of its steering and of the registers that are written. -/

namespace Sys2Proof.Machine

/-! ### What they leave -/

/-- The hidden time but for what time states, selections, the PLL's word and the monitor's judgements change. -/
def TimeSt.core (t : TimeSt) : TimeSt :=
  { t with pllWord := 0, switchAt := 0, holdAt := 0, holdSel := false, lockRun := 0, ppsOutEnd := none
           ref0 := { lastSeen := t.ref0.lastSeen }, ref1 := { lastSeen := t.ref1.lastSeen }, ref2 := {}, ref3 := {}
           ocxoA := { ovenReady := t.ocxoA.ovenReady }, ocxoB := { ovenReady := t.ocxoB.ovenReady } }

/-- The time registers that hold settings, measurements and labels. -/
def timeSettings : List Reg :=
  [.TIM_SERVO_CFG, .TIM_HOLD_CFG, .TIM_FREQ, .TIM_REF_PRIO, .TIM_MON_CFG, .TIM_PTP_MEAS, .TIM_PPS_CFG, .TIM_PPS_TOD, .TIM_PPS_ERR, .TIM_ISLAND]

/-- The fields in which time states, selections and the PLL's input show. -/
def timeStateFields : List Fld :=
  [TIM_STATUS_TSTATE, TIM_STATUS_USABLE, TIM_STATUS_SELECTED, TIM_STATUS_SEL_VALID, TIM_STATUS_PLL_INPUT, TIM_STATUS_HOLD_MIN, TIM_HOLD_FREQ_FREQ]

/-- From m to n references have been judged, and time states, selections and the PLL's input have followed: the time's core, the frames and
tables, the settings and a pending step stay, and so does an event of the references. -/
structure Judged (m n : Mod) : Prop where
  core : n.time.core = m.time.core
  buf : n.buf = m.buf
  fwd : n.fwd = m.fwd
  rd : ∀ r ∈ timeSettings, ∀ i, n.rd r i = m.rd r i
  pend : n.get TIM_STATUS_STEP_PEND = m.get TIM_STATUS_STEP_PEND
  raised : m.flag TIM_EVENT_REF = true → n.flag TIM_EVENT_REF = true

/-- From m to n only time states, selections and the PLL's input have changed: the references' states stay as well. -/
structure Steered (m n : Mod) : Prop extends Judged m n where
  refs : ∀ r, n.rd .TIM_REF_STATUS r = m.rd .TIM_REF_STATUS r

theorem Judged.refl (m : Mod) : Judged m m := ⟨rfl, rfl, rfl, fun _ _ _ => rfl, rfl, id⟩

theorem Judged.trans {a b c : Mod} (h : Judged a b) (k : Judged b c) : Judged a c :=
  ⟨k.core.trans h.core, k.buf.trans h.buf, k.fwd.trans h.fwd, fun r hr i => (k.rd r hr i).trans (h.rd r hr i), k.pend.trans h.pend,
    k.raised ∘ h.raised⟩

theorem Steered.refl (m : Mod) : Steered m m := ⟨.refl m, fun _ => rfl⟩

theorem Steered.trans {a b c : Mod} (h : Steered a b) (k : Steered b c) : Steered a c :=
  ⟨h.toJudged.trans k.toJudged, fun r => (k.refs r).trans (h.refs r)⟩

theorem Judged.net {m n : Mod} (h : Judged m n) : n.time.net = m.time.net := (congrArg TimeSt.net h.core :)

theorem Judged.now {m n : Mod} (h : Judged m n) : n.now = m.now := (congrArg TimeSt.cycles h.core :)

theorem Judged.monitorUp {m n : Mod} (h : Judged m n) : n.time.monitorUp = m.time.monitorUp := (congrArg TimeSt.monitorUp h.core :)

theorem Judged.get {m n : Mod} (h : Judged m n) {f : Fld} (hf : f.reg ∈ timeSettings) (i : Nat) : n.get f i = m.get f i :=
  congrArg f.of (h.rd f.reg hf i)

theorem Judged.flag {m n : Mod} (h : Judged m n) {f : Fld} (hf : f.reg ∈ timeSettings) (i : Nat) : n.flag f i = m.flag f i :=
  congrArg (· == 1) (h.get hf i)

theorem Steered.refState {m n : Mod} (h : Steered m n) (r : Nat) : n.get TIM_REF_STATUS_STATE r = m.get TIM_REF_STATUS_STATE r :=
  congrArg TIM_REF_STATUS_STATE.of (h.refs r)

theorem not_evt_of_timeSetting {r : Reg} (h : r ∈ timeSettings) : evtReg r = false := by
  revert r
  decide

/-- What leaves the registers, the frames and the tables needs only to leave the time's core. -/
theorem steered_of_regs {m n : Mod} (hr : n.regs = m.regs) (hc : n.time.core = m.time.core) (hb : n.buf = m.buf) (hf : n.fwd = m.fwd) :
    Steered m n :=
  ⟨⟨hc, hb, hf, fun r _ i => rd_of_regs hr r i, get_of_regs hr _ _, fun h => (congrArg (· == 1) (get_of_regs hr _ _)).trans h⟩,
    fun r => rd_of_regs hr _ r⟩

theorem steered_withTime (m : Mod) {x : TimeSt} (h : x.core = m.time.core) : Steered m (m.withTime x) := steered_of_regs rfl h rfl rfl

theorem Told.steered {m n : Mod} (h : Told m n) : Steered m n :=
  ⟨⟨congrArg TimeSt.core h.time, h.buf, h.fwd, fun r hr i => h.2 r i (not_evt_of_timeSetting hr), h.get 0 rfl,
    fun hm => (h.flag 0 rfl).trans hm⟩, fun r => h.2 _ r rfl⟩

theorem apart_of_timeStateField {f : Fld} (hf : f ∈ timeStateFields) : (∀ r ∈ timeSettings, r.apart f.reg = true) ∧
    f.clearOf TIM_STATUS_STEP_PEND = true ∧ f.clearOf TIM_EVENT_REF = true ∧ Reg.apart .TIM_REF_STATUS f.reg = true := by
  revert f
  decide

theorem steered_set (m : Mod) {f : Fld} (v : Nat) (hf : f ∈ timeStateFields) : Steered m (m.set f 0 v) := by
  obtain ⟨hset, hpend, hevent, hrefs⟩ := apart_of_timeStateField hf
  exact ⟨⟨by rw [set_time], set_buf m f 0 v, set_fwd m f 0 v, fun r hr i => rd_set_ne m f r 0 i v (hset r hr), get_set_clear m 0 v hpend,
    fun h => (flag_set_clear m 0 v hevent).trans h⟩, fun r => rd_set_ne m f _ 0 r v hrefs⟩

/-- Another event of time leaves that of the references. -/
theorem steered_sqc (m : Mod) {f : Fld} (hf : f ∈ [TIM_EVENT_TSTATE, TIM_EVENT_REF]) : Steered m (m.sqc f) := by
  have hreg : f.reg = .TIM_EVENT := by revert f; decide
  have hap : ∀ r ∈ .TIM_REF_STATUS :: timeSettings, r.apart .TIM_EVENT = true := by decide
  refine ⟨⟨by rw [sqc_time], sqc_buf m f 0, sqc_fwd m f 0, fun r hr i => rd_sqc_ne m f r 0 i (hreg ▸ hap r (.tail _ hr)), get_sqc_ne m f _ 0 0 (hreg ▸ rfl), fun h => ?_⟩,
    fun r => rd_sqc_ne m f _ 0 r (hreg ▸ hap _ (.head _))⟩
  obtain rfl | hf := List.mem_cons.1 hf
  · exact (flag_sqc_clear m 0 (by decide) (by decide) (by decide)).trans h
  · obtain rfl := List.mem_singleton.1 hf
    exact flag_sqc_bit m 0 (by decide)

/-! ### The gates and holds that follow USABLE -/

/-- From m to n only the scheduler's events and the holds for time have changed. -/
structure Held (m n : Mod) : Prop where
  time : n.time = m.time
  buf : n.buf = m.buf
  fwd : n.fwd = m.fwd
  rd : ∀ r, portReg r = true → r.apart .SCH_EVENT = true → r.apart .SCH_PORT_STATUS = true → ∀ i, n.rd r i = m.rd r i

theorem Held.refl (m : Mod) : Held m m := ⟨rfl, rfl, rfl, fun _ _ _ _ _ => rfl⟩

theorem Held.trans {a b c : Mod} (h : Held a b) (k : Held b c) : Held a c :=
  ⟨k.time.trans h.time, k.buf.trans h.buf, k.fwd.trans h.fwd, fun r hr he hs i => (k.rd r hr he hs i).trans (h.rd r hr he hs i)⟩

theorem Held.foldl {β : Type} (f : Mod → β → Mod) (h : ∀ m b, Held m (f m b)) (l : List β) (m : Mod) : Held m (l.foldl f m) := by
  induction l generalizing m with
  | nil => exact .refl m
  | cons b t ih => exact (h m b).trans (ih (f m b))

theorem Told.held {m n : Mod} (h : Told m n) : Held m n :=
  ⟨h.time, h.buf, h.fwd, fun _ hr _ _ i => h.driftTold.rd i hr⟩

theorem held_sqc (m : Mod) {f : Fld} (hf : f.reg = .SCH_EVENT) : Held m (m.sqc f) :=
  ⟨sqc_time m f 0, sqc_buf m f 0, sqc_fwd m f 0, fun r _ he _ i => rd_sqc_ne m f r 0 i (hf ▸ he)⟩

theorem held_withSch (m : Mod) (x : SchSt) : Held m (m.withSch x) := ⟨rfl, rfl, rfl, fun _ _ _ _ _ => rfl⟩

theorem held_gateOverruns (m before : Mod) (p : Nat) : Held m (m.gateOverruns before p) := by
  unfold Mod.gateOverruns
  split
  · extract_lets c
    exact rel_ite (((told_bump m _ _).held.trans (held_sqc _ rfl)).trans (told_eventRated _ _ _).held) (.refl m)
  · exact .refl m

theorem held_holdUpdate (m : Mod) (p : Nat) : Held m (m.holdUpdate p) := by
  unfold Mod.holdUpdate
  extract_lets want m1 _ m2
  have h1 : Held m m1 := ⟨set_time m _ p _, set_buf m _ p _, set_fwd m _ p _, fun r _ _ hs i => rd_set_ne m SCH_PORT_STATUS_TIME_HOLD r p i _ hs⟩
  have h2 : Held m1 m2 := rel_ite (held_withSch m1 _) (.refl m1)
  exact rel_ite (.refl m) (((h1.trans h2).trans (held_sqc m2 rfl)).trans (told_event _ _).held)

theorem Held.steered {m n : Mod} (h : Held m n) : Steered m n := by
  have hap : ∀ r ∈ .TIM_REF_STATUS :: .TIM_STATUS :: .TIM_EVENT :: timeSettings,
      portReg r = true ∧ r.apart .SCH_EVENT = true ∧ r.apart .SCH_PORT_STATUS = true := by decide
  have rd (r : Reg) (hr : r ∈ .TIM_REF_STATUS :: .TIM_STATUS :: .TIM_EVENT :: timeSettings) (i : Nat) : n.rd r i = m.rd r i := by
    obtain ⟨hp, he, hs⟩ := hap r hr
    exact h.rd r hp he hs i
  exact ⟨⟨congrArg TimeSt.core h.time, h.buf, h.fwd, fun r hr i => rd r (by simp [hr]) i, congrArg TIM_STATUS_STEP_PEND.of (rd .TIM_STATUS (by simp) 0),
    fun hm => (congrArg (fun w => TIM_EVENT_REF.of w == 1) (rd .TIM_EVENT (by simp) 0)).trans hm⟩, fun r => rd .TIM_REF_STATUS (by simp) r⟩

/-- Time can be used in LOCKED, and in HOLDOVER where HOLD_PERMIT says so (R209). -/
def Mod.usableNow (m : Mod) : Bool := m.tstate == 2 || (m.tstate == 3 && m.flag TIM_HOLD_CFG_HOLD_PERMIT)

/-- USABLE brought up to date shows in TIM_STATUS; what follows it are holds, and the end of a pulse (R209, R231). -/
theorem usableUpdate_held (m : Mod) : ∃ n, Held (m.set TIM_STATUS_USABLE 0 (b01 m.usableNow)) n ∧ m.usableUpdate = n.ppsGate := by
  refine ⟨_, ?_, rfl⟩
  exact (Held.foldl _ (fun m (e : Nat × Tx) => held_gateOverruns m _ e.1) _ _).trans (Held.foldl _ held_holdUpdate _ _)

theorem ppsGate_regs (m : Mod) : m.ppsGate.regs = m.regs := by
  unfold Mod.ppsGate
  extract_lets mode
  split <;> rfl

theorem steered_ppsGate (m : Mod) : Steered m m.ppsGate := by
  unfold Mod.ppsGate
  exact rel_ite (.refl m) (steered_withTime m rfl)

theorem steered_usableUpdate (m : Mod) : Steered m m.usableUpdate := by
  obtain ⟨n, hheld, heq⟩ := usableUpdate_held m
  rw [heq]
  exact ((steered_set m _ (by decide)).trans hheld.steered).trans (steered_ppsGate n)

/-! ### The PLL, time states and selections -/

theorem steered_setWord (m : Mod) (w : Int) : Steered m (m.setWord w) := steered_withTime m rfl

theorem steered_holdWord (m : Mod) (code : Nat) (word : Int) : Steered m (m.holdWord code word) :=
  (steered_setWord m _).trans (steered_set _ _ (by decide))

theorem steered_pllUpdate (m : Mod) : Steered m m.pllUpdate := by
  unfold Mod.pllUpdate
  extract_lets old new n word
  have hn : Steered m n := steered_set m _ (by decide)
  exact rel_ite (.refl m) (hn.trans (rel_ite (.refl n) (rel_ite (steered_holdWord n new word) (steered_setWord n word))))

/-- The module as it enters HOLDOVER (R211). -/
def Mod.holdsOver (m : Mod) : Mod :=
  let m := (m.bump (timCtr 2)).set TIM_STATUS_HOLD_MIN 0 0
  (m.withTime { m.time with holdAt := m.now, holdSel := false }).holdWord (m.get TIM_STATUS_PLL_INPUT) m.time.pllWord

/-- The module as it enters a time state, before what follows USABLE and the event (R210, R211). -/
def Mod.enters (m : Mod) (new : Nat) : Mod :=
  let m := m.set TIM_STATUS_TSTATE 0 new
  let m := m.withTime { m.time with lockRun := 0 }
  if new = 3 then m.holdsOver else m

theorem setTstate_enters {m : Mod} {new : Nat} (h : m.tstate ≠ new) :
    Told ((m.enters new).usableUpdate.sqc TIM_EVENT_TSTATE) (m.setTstate new) := by
  unfold Mod.setTstate
  rw [if_neg h]
  exact told_event _ _

theorem steered_holdsOver (m : Mod) : Steered m m.holdsOver := by
  unfold Mod.holdsOver
  extract_lets n
  have h1 : Steered m n := (told_bump m _ _).steered.trans (steered_set _ _ (by decide))
  have h2 : Steered n (n.withTime { n.time with holdAt := n.now, holdSel := false }) := steered_withTime n rfl
  exact (h1.trans h2).trans (steered_holdWord _ _ _)

theorem steered_enters (m : Mod) (new : Nat) : Steered m (m.enters new) := by
  unfold Mod.enters
  extract_lets n1 _ n
  have hn : Steered m n := (steered_set m _ (by decide)).trans (steered_withTime n1 rfl)
  exact hn.trans (rel_ite (steered_holdsOver n) (.refl n))

theorem steered_setTstate (m : Mod) (new : Nat) : Steered m (m.setTstate new) := by
  by_cases h : m.tstate = new
  · unfold Mod.setTstate
    rw [if_pos h]
    exact .refl m
  · exact (((steered_enters m new).trans (steered_usableUpdate _)).trans (steered_sqc _ (by decide))).trans (setTstate_enters h).steered

theorem steered_selectRef (m : Mod) (new : Nat) : Steered m (m.selectRef new) := by
  unfold Mod.selectRef
  extract_lets old m1 _ m2 m3 _ m4
  have h1 : Steered m m1 := (steered_set m _ (by decide)).trans (steered_set _ _ (by decide))
  have h2 : Steered m1 m2 := steered_withTime m1 rfl
  have h3 : Steered m2 m3 := rel_ite (steered_setWord m2 _) (.refl m2)
  have h4 : Steered m3 m4 := steered_withTime m3 rfl
  have hsaid : Steered m4 ((m4.bump (timCtr 1)).sqc TIM_EVENT_REF) := (told_bump m4 _ _).steered.trans (steered_sqc _ (by decide))
  exact rel_ite (.refl m) ((((h1.trans h2).trans h3).trans h4).trans (hsaid.trans (told_event _ _).steered))

theorem steered_lostReference (m : Mod) : Steered m m.lostReference := by
  unfold Mod.lostReference
  exact rel_ite (.refl m) (rel_ite (steered_setTstate m 0) (rel_ite (steered_setTstate m 3) (.refl m)))

theorem steered_reselect (m : Mod) : Steered m m.reselect := by
  unfold Mod.reselect
  exact rel_ite (((steered_selectRef m _).trans (steered_lostReference _)).trans (steered_pllUpdate _)) (.refl m)

/-! ### The state of a reference -/

theorem core_setRefSt (t : TimeSt) (r : Nat) {x : RefSt} (h : x.lastSeen = (t.refSt r).lastSeen) : (t.setRefSt r x).core = t.core := by
  unfold TimeSt.setRefSt
  unfold TimeSt.refSt at h
  split at h <;> simp [TimeSt.core, h]

/-- A field of a reference's status leaves all but the references. -/
theorem judged_set (m : Mod) {f : Fld} (r v : Nat) (hf : f.reg = .TIM_REF_STATUS) : Judged m (m.set f r v) := by
  have hap : ∀ r ∈ .TIM_STATUS :: .TIM_EVENT :: timeSettings, r.apart .TIM_REF_STATUS = true := by decide
  exact ⟨by rw [set_time], set_buf m f r v, set_fwd m f r v, fun x hx i => rd_set_ne m f x r i v (hf ▸ hap x (by simp [hx])),
    get_set_ne m f _ r 0 v (hf ▸ hap .TIM_STATUS (by simp)),
    fun h => (congrArg (· == 1) (get_set_ne m f TIM_EVENT_REF r 0 v (hf ▸ hap .TIM_EVENT (by simp)))).trans h⟩

/-- The module in which reference r takes a state, before its event (R215). -/
def Mod.refTakes (m : Mod) (r new : Nat) : Mod :=
  let m := (m.set TIM_REF_STATUS_STATE r new).set TIM_REF_STATUS_STATE_S r 0
  m.withTime (m.time.setRefSt r { m.time.refSt r with within := 0, beyond := 0, goodS := 0 })

theorem judged_refTakes (m : Mod) (r new : Nat) : Judged m (m.refTakes r new) := by
  unfold Mod.refTakes
  extract_lets n
  have hn : Judged m n := (judged_set m r _ rfl).trans (judged_set _ r _ rfl)
  have hcore : (n.time.setRefSt r { n.time.refSt r with within := 0, beyond := 0, goodS := 0 }).core = n.time.core := core_setRefSt _ r rfl
  exact hn.trans (steered_withTime n hcore).toJudged

theorem refTakes_regs (m : Mod) (r new : Nat) :
    (m.refTakes r new).regs = ((m.set TIM_REF_STATUS_STATE r new).set TIM_REF_STATUS_STATE_S r 0).regs := withTime_regs _ _

theorem setRefState_suspended {m : Mod} (h : m.time.monitorUp = false) (r new : Nat) : m.setRefState r new = m := if_pos (.inr h)

theorem setRefState_same {m : Mod} {r new : Nat} (h : m.get TIM_REF_STATUS_STATE r = new) : m.setRefState r new = m := if_pos (.inl h)

theorem setRefState_takes {m : Mod} {r new : Nat} (h : m.get TIM_REF_STATUS_STATE r ≠ new) (hup : m.time.monitorUp = true) :
    Told ((m.refTakes r new).sqc TIM_EVENT_REF) (m.setRefState r new) := by
  unfold Mod.setRefState
  rw [if_neg (by simp [h, hup])]
  exact told_event _ _

theorem judged_setRefState (m : Mod) (r new : Nat) : Judged m (m.setRefState r new) := by
  by_cases h : m.get TIM_REF_STATUS_STATE r = new
  · rw [setRefState_same h]
    exact .refl m
  · cases hup : m.time.monitorUp with
    | false =>
      rw [setRefState_suspended hup]
      exact .refl m
    | true =>
      exact ((judged_refTakes m r new).trans (steered_sqc _ (by decide)).toJudged).trans (setRefState_takes h hup).steered.toJudged

/-- A reference whose state changes shows the new state, and raises its event (R215). -/
theorem setRefState_shows {m : Mod} {r new : Nat} (h : m.get TIM_REF_STATUS_STATE r ≠ new) (hup : m.time.monitorUp = true) (hnew : new < 8) :
    (m.setRefState r new).get TIM_REF_STATUS_STATE r = new ∧ (m.setRefState r new).flag TIM_EVENT_REF = true ∧
    (m.setRefState r new).rd .TIM_STATUS = m.rd .TIM_STATUS := by
  have told := setRefState_takes h hup
  refine ⟨?_, (told.flag 0 rfl).trans (flag_sqc_bit _ 0 (by decide)), ?_⟩
  · rw [told.get r rfl, get_sqc_ne _ _ _ _ _ rfl]
    rw [get_of_regs (refTakes_regs m r new), get_set_clear _ r 0 (by decide), get_set _ _ _ _ (by decide)]
    exact Nat.mod_eq_of_lt hnew
  · rw [told.2 _ 0 rfl, rd_sqc_ne _ _ _ _ _ rfl, rd_of_regs (refTakes_regs m r new), rd_set_ne _ _ _ _ _ _ rfl, rd_set_ne _ _ _ _ _ _ rfl]

theorem judged_refPresent (m : Mod) (r : Nat) : Judged m (m.refPresent r) := by
  unfold Mod.refPresent
  exact rel_ite ((judged_setRefState m r 1).trans (steered_pllUpdate _).toJudged) (.refl m)

/-- An absent reference is present again while references are monitored (R16, R215). -/
theorem refPresent_state (m : Mod) (r : Nat) : (m.refPresent r).get TIM_REF_STATUS_STATE r =
    if m.get TIM_REF_STATUS_STATE r = 0 ∧ m.time.monitorUp = true then 1 else m.get TIM_REF_STATUS_STATE r := by
  unfold Mod.refPresent
  by_cases h : m.get TIM_REF_STATUS_STATE r = 0
  · rw [if_pos h, (steered_pllUpdate _).refState]
    cases hup : m.time.monitorUp with
    | false => rw [setRefState_suspended hup, if_neg (by simp)]
    | true =>
      obtain ⟨hstate, -⟩ := setRefState_shows (new := 1) (by rw [h]; decide) hup (by decide)
      rw [hstate, if_pos ⟨h, rfl⟩]
  · rw [if_neg h, if_neg (fun hc => h hc.1)]

end Sys2Proof.Machine
end

section
/-! SUPPORT. The steering of the network time (R204 to R206): what an adjustment taken and one refused leave, and the passing of a slew. -/

namespace Sys2Proof.Machine

/-! ### Adjustments taken and refused -/

/-- From m to n an adjustment has been taken (R204 to R206): what remains of a slew, and the step or set that waits for its commit. -/
structure Adjusted (m n : Mod) (slew : Int) (pend : Option AdjPend) : Prop where
  slew : n.time.slew = slew
  adj : n.time.adj = pend
  shown : n.get TIM_STATUS_STEP_PEND = b01 pend.isSome
  net : n.time.net = m.time.net
  at_ : n.time.adjAt = m.now
  buf : n.buf = m.buf

/-- From m to n an adjustment has been refused (R206): the time and its status stay. -/
structure AdjRefused (m n : Mod) : Prop where
  time : n.time = m.time
  told : n.flag TIM_EVENT_REFUSED = true
  status : n.rd .TIM_STATUS = m.rd .TIM_STATUS

theorem timRefused_told (m : Mod) (q : Nat) : Told ((m.bump (timCtr 4)).sqc TIM_EVENT_REFUSED) (m.timRefused q) := told_event _ _

theorem timRefused_rd (m : Mod) (q : Nat) {r : Reg} (i : Nat) (he : evtReg r = false) (ha : r.apart .TIM_EVENT = true) :
    (m.timRefused q).rd r i = m.rd r i :=
  ((timRefused_told m q).2 r i he).trans ((rd_sqc_ne _ _ r 0 i ha).trans (bump_rd m _ 1 r i he))

theorem timRefused_shows (m : Mod) (q : Nat) : AdjRefused m (m.timRefused q) := by
  have said := timRefused_told m q
  exact ⟨said.time.trans ((sqc_time _ _ _).trans (bump_time m _ 1)), (said.flag 0 rfl).trans (flag_sqc_bit _ 0 (by decide)),
    timRefused_rd m q 0 rfl rfl⟩

theorem adjAccepted_time (m : Mod) (pend : Option AdjPend) :
    (m.adjAccepted pend).time = { m.time with adj := pend, adjAt := m.now, adjWrites := m.time.adjWrites + 1 } := set_time _ _ _ _

theorem adjAccepted_buf (m : Mod) (pend : Option AdjPend) : (m.adjAccepted pend).buf = m.buf := set_buf _ _ _ _

theorem adjAccepted_shown (m : Mod) (pend : Option AdjPend) : (m.adjAccepted pend).get TIM_STATUS_STEP_PEND = b01 pend.isSome := by
  refine (get_set _ TIM_STATUS_STEP_PEND 0 _ (by decide)).trans ?_
  cases pend <;> rfl

/-- A step or set taken waits for its commit, and the slew runs on (R206). -/
theorem adjusted_accepted (m : Mod) (pend : Option AdjPend) : Adjusted m (m.adjAccepted pend) m.time.slew pend := by
  have htime := adjAccepted_time m pend
  exact ⟨by rw [htime], by rw [htime], adjAccepted_shown m pend, by rw [htime], by rw [htime], adjAccepted_buf m pend⟩

/-- What R210 makes of an OFFSET is a count and a time state. -/
theorem offsetWritten_steers (m : Mod) (off : Int) (slewed : Bool) :
    ∃ b, Steered (m.withTime { m.time with adjWithin := b }) (m.offsetWritten off slewed) :=
  ⟨_, rel_ite (steered_setTstate _ 1) (rel_ite (steered_setTstate _ _) (.refl _))⟩

theorem Adjusted.offsetWritten {m n : Mod} {slew : Int} {pend : Option AdjPend} (h : Adjusted m n slew pend) (off : Int) (slewed : Bool) :
    Adjusted m (n.offsetWritten off slewed) slew pend := by
  obtain ⟨b, hs⟩ := offsetWritten_steers n off slewed
  have kept {α : Type} (g : TimeSt → α) := congrArg g hs.core
  exact ⟨(kept TimeSt.slew).trans h.slew, (kept TimeSt.adj).trans h.adj, hs.pend.trans h.shown, (kept TimeSt.net).trans h.net,
    (kept TimeSt.adjAt).trans h.at_, hs.buf.trans h.buf⟩

/-- A slew replaces what remained of one, and a pending step (R205). -/
theorem adjusted_slewBy (m : Mod) (off : Int) : Adjusted m (m.slewBy off) (off * offsetUnits) none := by
  have h := adjusted_accepted m none
  have slewed : Adjusted m ((m.adjAccepted none).withTime { (m.adjAccepted none).time with slew := off * offsetUnits }) (off * offsetUnits) none :=
    ⟨rfl, h.adj, h.shown, h.net, h.at_, h.buf⟩
  exact slewed.offsetWritten off true

theorem adjusted_stepBy {m : Mod} {off : Int} (h : outOfRange (m.commitNet + off * offsetUnits) = false) :
    Adjusted m (m.stepBy off) m.time.slew (some (.step off)) := by
  unfold Mod.stepBy
  rw [if_neg (by simp [h])]
  exact (adjusted_accepted m _).offsetWritten off false

theorem stepBy_refused {m : Mod} {off : Int} (h : outOfRange (m.commitNet + off * offsetUnits) = true) : AdjRefused m (m.stepBy off) := by
  unfold Mod.stepBy
  rw [if_pos h]
  exact timRefused_shows m 2

/-- The time that TIM_SET names, in time units (R204). -/
def Mod.setTarget (m : Mod) : Nat := m.get TIM_SET_SEC_SEC * unitsPerS + m.get TIM_SET_NS_NS * unitsPerNs + m.get TIM_SET_NS_FRAC * 100000000

section
variable {m : Mod}

/-- A set in range waits for its commit with the time captured now (R204, R206). -/
theorem adjusted_setBy (h : m.get TIM_SET_NS_NS < 1000000000) (hin : outOfRange ((m.setTarget : Int) + (m.commitNet - m.time.net)) = false) :
    Adjusted m m.setBy m.time.slew (some (.set m.setTarget m.now)) := by
  have hset : m.setBy = m.adjAccepted (some (.set m.setTarget m.now)) := (if_neg (Nat.not_le.2 h)).trans (if_neg (Bool.eq_false_iff.1 hin))
  rw [hset]
  exact adjusted_accepted m _

theorem setBy_refused (h : m.get TIM_SET_NS_NS < 1000000000) (hout : outOfRange ((m.setTarget : Int) + (m.commitNet - m.time.net)) = true) :
    AdjRefused m m.setBy := by
  have hset : m.setBy = m.timRefused 2 := (if_neg (Nat.not_le.2 h)).trans (if_pos hout)
  rw [hset]
  exact timRefused_shows m 2

theorem setBy_bad (h : 1000000000 ≤ m.get TIM_SET_NS_NS) : AdjRefused m m.setBy := by
  unfold Mod.setBy
  rw [if_pos h]
  exact timRefused_shows m 1

end

/-! ### The write to TIM_ADJ -/

/-- A write to a register without a key guard that the image does not hold is its block's answer. -/
theorem does_put_unimaged {c : Instr} {s : State} {p : Path} {r : Reg} {i : Nat} {v : Word} {b : Bool} {n : Mod}
    (hc : exec c s = s.put p r i v none) (hg : s.Granted p r i i v) (hk : keyGroup r = none) (hi : imaged r = false)
    (hn : s.m.blockWrite s.locks (wholeWrite p r i v) none = (b, n)) : Does c s n := by
  have h := does_put_unguarded hc hg hk
  rw [took_unimaged hi, hn] at h
  exact h

/-- A write to TIM_ADJ that reaches the register steers the time as its word asks (R204). -/
theorem does_timAdj {c : Instr} {s : State} {p : Path} {w : Word} {n : Mod} (hc : exec c s = s.put p .TIM_ADJ 0 w none)
    (hg : s.Granted p .TIM_ADJ 0 0 w) (hn : s.m.timAdj w = n) : Does c s n :=
  does_put_unimaged hc hg rfl (by decide) (congrArg (Prod.mk true) hn)

theorem adjMode_withOp (v : Word) {mode : Nat} (h : mode < 4) : TIM_ADJ_MODE.of (withOp TIM_ADJ_MODE v mode) = mode :=
  (of_put _ _ _ (by decide)).trans (Nat.mod_eq_of_lt h)

theorem adjOffset_withOp (v : Word) (mode : Nat) : TIM_ADJ_OFFSET.of (withOp TIM_ADJ_MODE v mode) = TIM_ADJ_OFFSET.of v :=
  of_put_ne _ _ _ _ (by decide) (by decide)

section
variable (m : Mod) {v : Word} {off : Int} (hoff : off = signed 62 (TIM_ADJ_OFFSET.of v))

theorem timAdj_set (v : Word) : m.timAdj (withOp TIM_ADJ_MODE v 3) = m.setBy := by
  simp only [Mod.timAdj, adjMode_withOp v (show 3 < 4 by decide)]

include hoff

theorem timAdj_step : m.timAdj (withOp TIM_ADJ_MODE v 1) = m.stepBy off := by
  simp only [Mod.timAdj, adjMode_withOp v (show 1 < 4 by decide), adjOffset_withOp, hoff]

theorem timAdj_slew : m.timAdj (withOp TIM_ADJ_MODE v 2) = m.slewBy off := by
  simp only [Mod.timAdj, adjMode_withOp v (show 2 < 4 by decide), adjOffset_withOp, hoff]

/-- Automatic mode slews by a small OFFSET, and by any where steps are disabled; otherwise it steps (R204). -/
theorem timAdj_auto : m.timAdj (withOp TIM_ADJ_MODE v 0) =
    if m.flag TIM_SERVO_CFG_STEP_EN = false ∨ off.natAbs ≤ m.get TIM_SERVO_CFG_STEP_US * 1000 * 65536 then m.slewBy off else m.stepBy off := by
  simp only [Mod.timAdj, adjMode_withOp v (show 0 < 4 by decide), adjOffset_withOp, hoff]

end

/-! ### The passing of a slew -/

/-- The time's settings, which no passing of time writes. -/
def settingsOf (m : Mod) : { r : Reg // r ∈ timeSettings } → Nat → Word := fun r i => m.rd r i

theorem settings_of_regs {m n : Mod} (h : n.regs = m.regs) : Keeps settingsOf m n := funext fun r => funext fun i => rd_of_regs h r i

theorem timeless_settings : Timeless settingsOf where
  told h := funext fun r => funext fun i => h.2 r i (not_evt_of_timeSetting r.2)
  wr m r i w hr := by
    have hap : ∀ r ∈ passingRegs, ∀ x ∈ timeSettings, x.apart r = true := by decide
    exact funext fun x => funext fun j => rd_wr_ne m r x i j w (hap r hr x x.2)
  sch _ _ _ _ := rfl
  drm _ _ := rfl
  prt _ _ := rfl
  buf _ _ := rfl
  cl m c k := settings_of_regs (setCl_regs m c k)
  time _ _ := rfl

theorem get_of_settings {m n : Mod} (h : Keeps settingsOf m n) {f : Fld} (hf : f.reg ∈ timeSettings) (i : Nat) : n.get f i = m.get f i :=
  congrArg f.of (congrFun (congrFun h ⟨f.reg, hf⟩) i)

/-- The counter after n cycles, at the rate of a slew (R200, R205). -/
theorem advance_time (m : Mod) {n : Nat} (h : n ≠ 0) : (m.advance n).time = m.time.after m.slewRate n := by
  have hrate : (m.cyclesPass n).slewRate = m.slewRate := by
    have hkept := timeless_settings.advance m n
    rw [advance_pos m h] at hkept
    exact congrArg (· * 65536) (get_of_settings hkept (f := TIM_SERVO_CFG_SLEW_10PPB) (by decide) 0 :)
  rw [advance_pos m h, withTime_time, hrate, (steady_cyclesPass m n).time]

/-- The cycles that a slew needs apply all of it (R205). -/
theorem slewApplied_all (slew : Int) {rate : Nat} (h : rate ≠ 0) : slewApplied slew rate (ceilDiv slew.natAbs rate) = slew := by
  obtain ⟨hcovers, -⟩ := ceilDiv_covers slew.natAbs (Nat.pos_of_ne_zero h)
  have hmin : Nat.min (rate * ceilDiv slew.natAbs rate) slew.natAbs = slew.natAbs := Nat.min_eq_right (by rwa [Nat.mul_comm])
  unfold slewApplied
  rw [hmin]
  extract_lets d
  split <;> omega

theorem slewDone_time {m : Mod} (h : m.slewRate ≠ 0) : m.slewDone.time.slew = 0 ∧
    m.slewDone.time.net = (((m.time.net + m.slewCycles * unitsPerNs : Nat) : Int) + m.time.slew).toNat := by
  have hcycles : m.slewCycles = ceilDiv m.time.slew.natAbs m.slewRate := if_neg h
  have hall := slewApplied_all m.time.slew h
  rw [← hcycles] at hall
  unfold Mod.slewDone
  by_cases h0 : m.slewCycles = 0
  · have hslew : m.time.slew = 0 := by
      rw [h0] at hall
      simpa [slewApplied] using hall.symm
    simp [h0, advance_zero, hslew]
  · rw [advance_time m h0, TimeSt.after, hall]
    exact ⟨sub_self _, rfl⟩

/-! ### The obligation -/

/-- Settles O35: the mode of the word written names what is done, and a time state that follows leaves the steering; that the range is judged
at the commit to come is log 72. -/
theorem timeIsSteeredAsAsked : Obligations.TimeIsSteeredAsAsked := by
  refine ⟨fun s p v off hoff => ⟨fun hg => ?_, fun hg => ?_, fun hg => ?_, fun hg => ?_⟩, fun s hrun => ⟨fun hrate => ?_, fun hrate => ?_⟩⟩
  · have h := adjusted_slewBy s.m off
    exact yields_of_does (does_timAdj (exec_adjSlew p v s) hg (timAdj_slew s.m hoff)) ⟨h.slew, h.adj, h.shown, h.net, h.at_, h.buf⟩
  · have hdo := does_timAdj (exec_adjStep p v s) hg (timAdj_step s.m hoff)
    refine ⟨fun hin => ?_, fun hout => ?_⟩
    · have h := adjusted_stepBy hin
      exact yields_of_does hdo ⟨h.adj, h.slew, h.shown, h.net, h.buf⟩
    · have h := stepBy_refused hout
      exact yields_of_does hdo ⟨h.time, h.told, h.status⟩
  · have hauto := timAdj_auto s.m hoff
    refine ⟨fun hsmall => ?_, fun hen hbig hin => ?_⟩
    · have h := adjusted_slewBy s.m off
      exact yields_of_does (does_timAdj (exec_adjAuto p v s) hg (hauto.trans (if_pos hsmall))) ⟨h.slew, h.adj, h.net⟩
    · have h := adjusted_stepBy hin
      exact yields_of_does (does_timAdj (exec_adjAuto p v s) hg (hauto.trans (if_neg (by simp [hen, hbig])))) ⟨h.adj, h.slew, h.net⟩
  · have hdo := does_timAdj (exec_adjSet p v s) hg (timAdj_set s.m v)
    refine ⟨fun x hx hns => ?_, fun hbad => ?_⟩
    · obtain rfl : x = s.m.setTarget := hx
      refine ⟨fun hin => ?_, fun hout => ?_⟩
      · have h := adjusted_setBy hns hin
        exact yields_of_does hdo ⟨h.adj, h.slew, h.shown, h.net⟩
      · have h := setBy_refused hns hout
        exact yields_of_does hdo ⟨h.time, h.told⟩
    · have h := setBy_bad hbad
      exact yields_of_does hdo ⟨h.time, h.told⟩
  · obtain ⟨hslew, hnet⟩ := slewDone_time hrate
    exact yields_of_does (does_act (exec_slewDone s) hrun rfl) ⟨hslew, (advance_lasting s.m _).2.2.2.2, hnet, fun harr => advance_buf harr _⟩
  · have hnone : s.m.slewCycles = 0 := if_pos hrate
    refine does_act (exec_slewDone s) hrun ?_
    unfold Mod.slewDone
    rw [hnone, advance_zero]

end Sys2Proof.Machine
end

section
/-! SUPPORT. The registers of time (R203, R211, R213, R214, R218): what a write that reaches one of them makes of it. -/

namespace Sys2Proof.Machine

/-! ### What TIM_STATUS tells -/

theorem tstate_of_status {m n : Mod} (h : n.rd .TIM_STATUS = m.rd .TIM_STATUS) : n.tstate = m.tstate := congrArg TIM_STATUS_TSTATE.of h

theorem inHoldover_of_status {m n : Mod} (h : n.rd .TIM_STATUS = m.rd .TIM_STATUS) : n.inHoldover = m.inHoldover := by
  unfold Mod.inHoldover
  rw [tstate_of_status h]

/-! ### TIM_FREQ -/

/-- A write whose fields all take effect at once is stored whole (R5). -/
theorem regStore_unstaged {r : Reg} (hs : (settable r).isEmpty = false) (hd : ((settable r).filter fun f => f.acc != .rwt) = settable r)
    (hr : rwtFields r = []) (m : Mod) (p : Path) (j : Nat) (v : Word) :
    m.regStore (wholeWrite p r j v) = m.wr r j ((wholeWrite p r j v).onto (m.rd r j)) := by
  unfold Mod.regStore
  simp [wholeWrite, hd, hs, hr]

theorem blockWrite_freq (m : Mod) (l : BitVec 5) (p : Path) (v : Word) (x : Option Found) :
    m.blockWrite l (wholeWrite p .TIM_FREQ 0 v) x =
      (true, (m.wr .TIM_FREQ 0 ((wholeWrite p .TIM_FREQ 0 v).onto (m.rd .TIM_FREQ))).freqWritten) := by
  rw [← regStore_unstaged (by decide) (by decide) rfl]
  unfold Mod.blockWrite
  exact if_neg (show ¬ (settable .TIM_FREQ).isEmpty = true by decide)

theorem freqFrozen_wr_freq (m : Mod) (w : Word) : (m.wr .TIM_FREQ 0 w).freqFrozen = m.freqFrozen := by
  have hstatus : (m.wr .TIM_FREQ 0 w).rd .TIM_STATUS = m.rd .TIM_STATUS := rd_wr_ne m _ _ 0 0 w rfl
  have hmaster : (m.wr .TIM_FREQ 0 w).flag TIM_ISLAND_MASTER = m.flag TIM_ISLAND_MASTER := congrArg (· == 1) (get_wr_ne m _ _ 0 0 w rfl)
  unfold Mod.freqFrozen Mod.holdRate
  rw [inHoldover_of_status hstatus, tstate_of_status hstatus, hmaster, wr_time]

/-- The PLL applies the word stored, unless time runs at its holdover rate (R203, R211). -/
theorem freqWritten_word (m : Mod) (w : Word) : (m.wr .TIM_FREQ 0 w).freqWritten.time.pllWord =
    if m.freqFrozen then m.time.pllWord else signed 40 (TIM_FREQ_FREQ.of w) := by
  unfold Mod.freqWritten
  rw [freqFrozen_wr_freq]
  split
  · rw [wr_time]
  · exact congrArg (signed 40) (get_wr m TIM_FREQ_FREQ 0 w)

theorem steered_freqWritten (m : Mod) : Steered m m.freqWritten := by
  unfold Mod.freqWritten
  exact rel_ite (.refl m) (steered_setWord m _)

/-- The word is stored, the PLL follows it unless time runs at its holdover rate, and the network time stays. -/
theorem freqWritten_shows (m : Mod) (w : Word) : (m.wr .TIM_FREQ 0 w).freqWritten.rd .TIM_FREQ = w ∧
    (m.wr .TIM_FREQ 0 w).freqWritten.time.net = m.time.net ∧
    (m.freqFrozen = true → (m.wr .TIM_FREQ 0 w).freqWritten.time.pllWord = m.time.pllWord) ∧
    (m.freqFrozen = false → (m.wr .TIM_FREQ 0 w).freqWritten.time.pllWord = signed 40 (TIM_FREQ_FREQ.of w)) ∧
    (m.wr .TIM_FREQ 0 w).freqWritten.buf = m.buf := by
  have hs := steered_freqWritten (m.wr .TIM_FREQ 0 w)
  have hword := freqWritten_word m w
  exact ⟨(hs.rd _ (by decide) 0).trans (rd_wr m _ 0 w), hs.net.trans (congrArg TimeSt.net (wr_time m _ _ _)),
    fun h => hword.trans (if_pos h), fun h => hword.trans (if_neg (Bool.eq_false_iff.1 h)), hs.buf.trans (wr_buf m _ _ _)⟩

/-! ### TIM_REF_PRIO -/

theorem blockWrite_refPrio (m : Mod) (l : BitVec 5) (p : Path) (v : Word) (x : Option Found) :
    ∃ b, m.blockWrite l (wholeWrite p .TIM_REF_PRIO 0 v) x =
      (b, m.refPrioWrite ((wholeWrite p .TIM_REF_PRIO 0 v).onto (m.rd .TIM_REF_PRIO))) := by
  unfold Mod.blockWrite
  exact ⟨_, if_neg (show ¬ (settable .TIM_REF_PRIO).isEmpty = true by decide)⟩

/-- A write to TIM_REF_PRIO that reaches the register spends its arming, and does what its block makes of it, with the drift from the image
(R367, R402). -/
theorem does_refPrio {s : State} {p : Path} {v new : Word} (hg : s.Granted p .TIM_REF_PRIO 0 0 v)
    (hnew : new = (wholeWrite p .TIM_REF_PRIO 0 v).onto (s.m.rd .TIM_REF_PRIO)) :
    ∃ x n, Does (.refPrioWrite p v) s n ∧ DriftTold ((s.m.withArm x).refPrioWrite new) n := by
  obtain ⟨x, hx⟩ := spent_eq_withArm s.m p .TIM_REF_PRIO
  have hput := (exec_refPrioWrite p v s).trans (put_granted s p .TIM_REF_PRIO 0 0 v none hg)
  rw [hx] at hput
  obtain ⟨b, hb⟩ := blockWrite_refPrio (s.m.withArm x) s.locks p v none
  rw [hb] at hput
  exact ⟨x, _, hput, hnew ▸ driftTold_took _ .TIM_REF_PRIO 0 (b, _)⟩

theorem DriftTold.time {m n : Mod} (h : DriftTold m n) : n.time = m.time := h.part Mod.time

/-- An ORDER that names each reference once is stored, and the selection follows (R213, R216). -/
theorem refPrioWrite_good (m : Mod) {new : Word} (h : orderGood new = true) : (m.refPrioWrite new).rd .TIM_REF_PRIO = new ∧
    (m.refPrioWrite new).time.net = m.time.net ∧ (m.refPrioWrite new).buf = m.buf := by
  have hs := steered_reselect (m.wr .TIM_REF_PRIO 0 new)
  have hstored : m.refPrioWrite new = (m.wr .TIM_REF_PRIO 0 new).reselect := if_pos h
  rw [hstored]
  exact ⟨(hs.rd _ (by decide) 0).trans (rd_wr m _ 0 new), hs.net.trans (congrArg TimeSt.net (wr_time m _ _ _)), hs.buf.trans (wr_buf m _ _ _)⟩

/-! ### TIM_PTP_MEAS and TIM_PPS_TOD -/

theorem blockWrite_ptpMeas (m : Mod) (l : BitVec 5) (p : Path) (v : Word) (x : Option Found) :
    m.blockWrite l (wholeWrite p .TIM_PTP_MEAS 0 v) x =
      (true, (m.wr .TIM_PTP_MEAS 0 ((wholeWrite p .TIM_PTP_MEAS 0 v).onto (m.rd .TIM_PTP_MEAS))).ptpMeasured) := by
  rw [← regStore_unstaged (by decide) (by decide) rfl]
  unfold Mod.blockWrite
  exact if_neg (show ¬ (settable .TIM_PTP_MEAS).isEmpty = true by decide)

/-- Reference 0 seen now. -/
def Mod.ptpSeen (m : Mod) : Mod := m.withTime { m.time with ref0 := { m.time.ref0 with lastSeen := m.now } }

/-- The measurement is stored, and reference 0 is seen now, and present (R214, R215). -/
theorem ptpMeasured_shows (m : Mod) (w : Word) : (m.wr .TIM_PTP_MEAS 0 w).ptpMeasured.rd .TIM_PTP_MEAS = w ∧
    (m.wr .TIM_PTP_MEAS 0 w).ptpMeasured.time.ref0.lastSeen = m.now ∧
    (m.wr .TIM_PTP_MEAS 0 w).ptpMeasured.get TIM_REF_STATUS_STATE =
      (if m.get TIM_REF_STATUS_STATE = 0 ∧ m.time.monitorUp = true then 1 else m.get TIM_REF_STATUS_STATE) ∧
    (m.wr .TIM_PTP_MEAS 0 w).ptpMeasured.time.net = m.time.net ∧ (m.wr .TIM_PTP_MEAS 0 w).ptpMeasured.buf = m.buf := by
  have hstored : (m.wr .TIM_PTP_MEAS 0 w).rd .TIM_PTP_MEAS = w := rd_wr m _ 0 w
  have hstate : (m.wr .TIM_PTP_MEAS 0 w).get TIM_REF_STATUS_STATE = m.get TIM_REF_STATUS_STATE := get_wr_ne m _ _ 0 0 w rfl
  have htime := wr_time m .TIM_PTP_MEAS 0 w
  have hbuf := wr_buf m .TIM_PTP_MEAS 0 w
  generalize m.wr .TIM_PTP_MEAS 0 w = n at hstored hstate htime hbuf ⊢
  have hj : Judged n.ptpSeen n.ptpMeasured := judged_refPresent n.ptpSeen 0
  have hpresent : n.ptpMeasured.get TIM_REF_STATUS_STATE =
      if n.get TIM_REF_STATUS_STATE = 0 ∧ n.time.monitorUp = true then 1 else n.get TIM_REF_STATUS_STATE := refPresent_state n.ptpSeen 0
  refine ⟨(hj.rd _ (by decide) 0).trans hstored, ?_, ?_, hj.net.trans (congrArg TimeSt.net htime :), hj.buf.trans hbuf⟩
  · exact (congrArg (fun t : TimeSt => t.ref0.lastSeen) hj.core :).trans (congrArg TimeSt.cycles htime :)
  · rw [hpresent, hstate, htime]

/-! ### TIM_ISLAND -/

theorem blockWrite_island (m : Mod) (l : BitVec 5) (p : Path) (v : Word) (x : Option Found) :
    m.blockWrite l (wholeWrite p .TIM_ISLAND 0 v) x = (true, m.islandWrite ((wholeWrite p .TIM_ISLAND 0 v).onto (m.rd .TIM_ISLAND))) := by
  unfold Mod.blockWrite
  exact if_neg (show ¬ (settable .TIM_ISLAND).isEmpty = true by decide)

theorem islandWrite_same (m : Mod) : m.islandWrite (m.rd .TIM_ISLAND) = m := if_pos rfl

/-- Changed bits of TIM_ISLAND hold and raise their event; outside holdover the time state stays (R210, R218, R234). -/
theorem islandWrite_changes {m : Mod} {new : Word} (h : new ≠ m.rd .TIM_ISLAND) (hhold : m.inHoldover = false) :
    (m.islandWrite new).rd .TIM_ISLAND = new ∧ (m.islandWrite new).flag TIM_EVENT_ISLAND = true ∧
    (m.islandWrite new).tstate = m.tstate ∧ (m.islandWrite new).time.net = m.time.net ∧ (m.islandWrite new).buf = m.buf := by
  unfold Mod.islandWrite
  extract_lets old _ m1 m2
  have h1 : m1.regs = m.regs ∧ m1.time.net = m.time.net ∧ m1.buf = m.buf := by
    unfold m1
    split <;> exact ⟨rfl, rfl, rfl⟩
  obtain ⟨hregs, hnet, hbuf⟩ := h1
  have told : Told ((m1.wr .TIM_ISLAND 0 new).sqc TIM_EVENT_ISLAND) m2 := told_event _ _
  have hstatus : m2.rd .TIM_STATUS = m.rd .TIM_STATUS := by
    rw [told.2 _ 0 rfl, rd_sqc_ne _ _ _ 0 0 rfl, rd_wr_ne _ _ _ 0 0 _ rfl, rd_of_regs hregs]
  rw [if_neg (Ne.symm h), if_neg (by simp [inHoldover_of_status hstatus, hhold])]
  refine ⟨?_, (told.flag 0 rfl).trans (flag_sqc_bit _ 0 (by decide)), tstate_of_status hstatus, ?_, ?_⟩
  · rw [told.2 _ 0 rfl, rd_sqc_ne _ _ _ 0 0 rfl, rd_wr]
  · rw [told.time, sqc_time, wr_time, hnet]
  · rw [told.buf, sqc_buf, wr_buf, hbuf]

end Sys2Proof.Machine
end

section
/-! SUPPORT. PPS (R229 to R231): what an edge of PPS_IN leaves, and the pulse of PPS_OUT. -/

namespace Sys2Proof.Machine

/-! ### An edge of PPS_IN -/

/-- What the label of an edge leaves: the time but for a set that waits, the frames, the edge's error and the references. -/
def edgeShown (m : Mod) : TimeSt × BufSt × (Nat → Word) × (Nat → Word) :=
  ({ m.time with adj := none }, m.buf, fun i => m.rd .TIM_PPS_ERR i, fun i => m.rd .TIM_REF_STATUS i)

theorem keeps_edgeShown_iff {m n : Mod} : Keeps edgeShown m n ↔
    ({ n.time with adj := none } : TimeSt) = { m.time with adj := none } ∧ n.buf = m.buf ∧ (∀ i, n.rd .TIM_PPS_ERR i = m.rd .TIM_PPS_ERR i) ∧
      ∀ i, n.rd .TIM_REF_STATUS i = m.rd .TIM_REF_STATUS i := by
  simp only [Keeps, edgeShown, Prod.mk.injEq, funext_iff]

theorem edgeShown_told {m n : Mod} (h : Told m n) : Keeps edgeShown m n :=
  keeps_edgeShown_iff.2 ⟨by rw [h.time], h.buf, fun i => h.2 _ i rfl, fun i => h.2 _ i rfl⟩

theorem edgeShown_set (m : Mod) {f : Fld} (v : Nat) (h : f.reg ∈ [.TIM_PPS_TOD, .TIM_STATUS]) : Keeps edgeShown m (m.set f 0 v) := by
  have hap : ∀ r ∈ [Reg.TIM_PPS_TOD, .TIM_STATUS], Reg.apart .TIM_PPS_ERR r = true ∧ Reg.apart .TIM_REF_STATUS r = true := by decide
  obtain ⟨herr, hrefs⟩ := hap f.reg h
  exact keeps_edgeShown_iff.2 ⟨by rw [set_time], set_buf m f 0 v, fun i => rd_set_ne m f _ 0 i v herr, fun i => rd_set_ne m f _ 0 i v hrefs⟩

theorem edgeShown_adj (m : Mod) (x : Option AdjPend) : Keeps edgeShown m (m.withTime { m.time with adj := x }) := rfl

theorem edgeShown_sqc (m : Mod) {f : Fld} (h : f.reg = .TIM_EVENT) : Keeps edgeShown m (m.sqc f) :=
  keeps_edgeShown_iff.2 ⟨by rw [sqc_time], sqc_buf m f 0, fun i => rd_sqc_ne m f _ 0 i (h ▸ rfl), fun i => rd_sqc_ne m f _ 0 i (h ▸ rfl)⟩

theorem edgeShown_ppsLabel (m : Mod) (stamp : Int) : Keeps edgeShown m (m.ppsLabel stamp) := by
  unfold Mod.ppsLabel
  extract_lets sec m1 v
  have h1 : Keeps edgeShown m m1 := edgeShown_set m 0 (by decide)
  have hset : Keeps edgeShown m1 ((m1.withTime { m1.time with adj := some (.set v m1.now) }).set TIM_STATUS_STEP_PEND 0 1) :=
    (edgeShown_adj m1 _).trans (edgeShown_set _ 1 (by decide))
  have hsaid : Keeps edgeShown m1 ((m1.bump (timCtr 5)).sqc TIM_EVENT_PPS_TOD) := (edgeShown_told (told_bump m1 _ _)).trans (edgeShown_sqc _ rfl)
  exact .ite _ (h1.trans (.ite _ (.ite _ hset (.refl m1)) (.ite _ (hsaid.trans (edgeShown_told (told_event _ _))) (.refl m1)))) (.refl m)

/-- The error of an edge in TIM_PPS_ERR (R229). -/
def Mod.edgeErred (m : Mod) (err : Int) : Mod := (m.set TIM_PPS_ERR_ERR 0 (unsigned 32 (clampSigned 32 err))).set TIM_PPS_ERR_VALID 0 1

/-- The error of an edge noted, and the edge and REF10 seen now (R229). -/
def Mod.edgeNoted (m : Mod) (err : Int) : Mod :=
  (m.edgeErred err).withTime
    { (m.edgeErred err).time with ppsAt := some (m.edgeErred err).now, ref1 := { (m.edgeErred err).time.ref1 with lastSeen := (m.edgeErred err).now } }

/-- REF10 judged by an edge that is not the first (R215). -/
def Mod.refByEdge (m : Mod) (first ok : Bool) : Mod :=
  if first then m
  else if ok then m.refPresent 1
  else if m.get TIM_REF_STATUS_STATE 1 = 0 then m
  else (m.setRefState 1 0).reselect

theorem judged_refByEdge (m : Mod) (first ok : Bool) : Judged m (m.refByEdge first ok) :=
  rel_ite (.refl m) (rel_ite (judged_refPresent m 1) (rel_ite (.refl m) ((judged_setRefState m 1 0).trans (steered_reselect _).toJudged)))

theorem edgeErred_time (m : Mod) (err : Int) : (m.edgeErred err).time = m.time := (set_time _ _ _ _).trans (set_time _ _ _ _)

/-- An edge is noted, REF10 is judged by it unless it is the first, and its label follows (R215, R229, R230). -/
theorem ppsEdge_parts (m : Mod) (ago cycles : Nat) (ref10 : Bool) : ∃ err ok stamp,
    m.ppsEdge ago cycles ref10 = ((m.edgeNoted err).refByEdge m.time.ppsAt.isNone ok).ppsLabel stamp := by
  obtain ⟨err, ok, stamp, h⟩ : ∃ err ok stamp,
    m.ppsEdge ago cycles ref10 = ((m.edgeNoted err).refByEdge (m.edgeErred err).time.ppsAt.isNone ok).ppsLabel stamp := ⟨_, _, _, rfl⟩
  rw [edgeErred_time] at h
  exact ⟨err, ok, stamp, h⟩

theorem edgeNoted_time (m : Mod) (err : Int) :
    (m.edgeNoted err).time = { m.time with ppsAt := some m.now, ref1 := { m.time.ref1 with lastSeen := m.now } } := by
  have seen : ∀ t, t = m.time → ({ t with ppsAt := some t.cycles, ref1 := { t.ref1 with lastSeen := t.cycles } } : TimeSt) =
      { m.time with ppsAt := some m.now, ref1 := { m.time.ref1 with lastSeen := m.now } } := by
    rintro _ rfl
    rfl
  exact seen _ (edgeErred_time m err)

theorem edgeNoted_buf (m : Mod) (err : Int) : (m.edgeNoted err).buf = m.buf :=
  (withTime_buf _ _).trans ((set_buf _ _ _ _).trans (set_buf _ _ _ _))

theorem edgeNoted_regs (m : Mod) (err : Int) : (m.edgeNoted err).regs = (m.edgeErred err).regs := withTime_regs _ _

theorem edgeNoted_valid (m : Mod) (err : Int) : (m.edgeNoted err).flag TIM_PPS_ERR_VALID = true :=
  (congrArg (· == 1) (get_of_regs (edgeNoted_regs m err) _ 0)).trans (flag_set_bit _ 0 1 (by decide))

theorem edgeNoted_refs (m : Mod) (err : Int) (r : Nat) : (m.edgeNoted err).rd .TIM_REF_STATUS r = m.rd .TIM_REF_STATUS r := by
  rw [rd_of_regs (edgeNoted_regs m err), Mod.edgeErred, rd_set_ne _ _ _ _ _ _ rfl, rd_set_ne _ _ _ _ _ _ rfl]

/-- What an edge leaves (R229, R230). -/
theorem ppsEdge_shows (m : Mod) (ago cycles : Nat) (ref10 : Bool) :
    (m.ppsEdge ago cycles ref10).flag TIM_PPS_ERR_VALID = true ∧ (m.ppsEdge ago cycles ref10).time.ppsAt = some m.now ∧
    (m.ppsEdge ago cycles ref10).time.ref1.lastSeen = m.now ∧ (m.ppsEdge ago cycles ref10).time.net = m.time.net ∧
    (m.time.ppsAt = none → ∀ r, (m.ppsEdge ago cycles ref10).get TIM_REF_STATUS_STATE r = m.get TIM_REF_STATUS_STATE r) ∧
    (m.ppsEdge ago cycles ref10).buf = m.buf := by
  obtain ⟨err, ok, stamp, hparts⟩ := ppsEdge_parts m ago cycles ref10
  have hjudged := judged_refByEdge (m.edgeNoted err) m.time.ppsAt.isNone ok
  have hlabel := edgeShown_ppsLabel ((m.edgeNoted err).refByEdge m.time.ppsAt.isNone ok) stamp
  rw [← hparts] at hlabel
  obtain ⟨htime, hbuf, herr, hrefs⟩ := keeps_edgeShown_iff.1 hlabel
  have hnoted := edgeNoted_time m err
  refine ⟨?_, ?_, ?_, ?_, fun hfirst r => ?_, hbuf.trans (hjudged.buf.trans (edgeNoted_buf m err))⟩
  · exact (congrArg (fun w => TIM_PPS_ERR_VALID.of w == 1) (herr 0)).trans ((hjudged.flag (by decide) 0).trans (edgeNoted_valid m err))
  · exact (congrArg TimeSt.ppsAt htime :).trans ((congrArg TimeSt.ppsAt hjudged.core :).trans (congrArg TimeSt.ppsAt hnoted :))
  · exact (congrArg (fun t : TimeSt => t.ref1.lastSeen) htime :).trans ((congrArg (fun t : TimeSt => t.ref1.lastSeen) hjudged.core :).trans
      (congrArg (fun t : TimeSt => t.ref1.lastSeen) hnoted :))
  · exact (congrArg TimeSt.net htime :).trans (hjudged.net.trans (congrArg TimeSt.net hnoted :))
  · have hkept : (m.edgeNoted err).refByEdge m.time.ppsAt.isNone ok = m.edgeNoted err := if_pos (by rw [hfirst]; rfl)
    rw [hkept] at hrefs
    exact congrArg TIM_REF_STATUS_STATE.of ((hrefs r).trans (edgeNoted_refs m err r))

/-! ### The pulse of PPS_OUT -/

/-- OUT_OFFSET_NS in time units (R231). -/
def Mod.pulseOffset (m : Mod) : Int := signed 16 (m.get TIM_PPS_CFG_OUT_OFFSET_NS) * (unitsPerNs : Int)

/-- The next whole second plus OUT_OFFSET_NS (R231). -/
def Mod.pulseAt (m : Mod) : Nat := ((((m.time.net : Int) - m.pulseOffset) / (unitsPerS : Int) + 1) * (unitsPerS : Int) + m.pulseOffset).toNat

/-- The instant lies ahead, on the second after the one that runs. -/
theorem pulseAt_ahead (m : Mod) : m.time.net ≤ m.pulseAt ∧
    (m.pulseAt : Int) - m.pulseOffset = (((m.time.net : Int) - m.pulseOffset) / (unitsPerS : Int) + 1) * (unitsPerS : Int) := by
  have hpos : (0 : Int) < unitsPerS := by decide
  have hdiv := Int.mul_ediv_add_emod ((m.time.net : Int) - m.pulseOffset) unitsPerS
  have hmod := Int.emod_lt_of_pos ((m.time.net : Int) - m.pulseOffset) hpos
  rw [Int.mul_comm] at hdiv
  have hnext := Int.add_mul (((m.time.net : Int) - m.pulseOffset) / (unitsPerS : Int)) 1 unitsPerS
  unfold Mod.pulseAt
  constructor <;> omega

/-- An instant within a nanosecond past a whole second is in that second. -/
theorem second_of_pulse {x k : Int} (hlo : k * (unitsPerS : Int) ≤ x) (hhi : x < k * (unitsPerS : Int) + (unitsPerNs : Int)) :
    x / (unitsPerS : Int) = k ∧ x % (unitsPerS : Int) < (unitsPerNs : Int) := by
  have hlt : (unitsPerNs : Int) < unitsPerS := by decide
  have hdiv : x / (unitsPerS : Int) = k := by
    rw [Int.ediv_eq_iff_of_pos (by decide)]
    omega
  have hmod := Int.mul_ediv_add_emod x unitsPerS
  rw [hdiv, Int.mul_comm] at hmod
  exact ⟨hdiv, by omega⟩

/-- The wait for the pulse leaves all of the hidden time but the counter and the cycles. -/
theorem advanceNet_time {m : Mod} (h : m.time.slew = 0) (target : Nat) :
    ∃ n, (m.advanceNet target).time = { m.time with cycles := m.time.cycles + n, net := m.time.net + n * unitsPerNs } := by
  unfold Mod.advanceNet
  rw [if_pos h]
  split
  · exact ⟨0, by simp⟩
  · exact ⟨_, time_advance h _⟩

/-- The pulse that begins now with PPS_OUT's output on (R231). -/
def Mod.pulseBegins (m : Mod) : Mod :=
  if m.get TIM_PPS_CFG_OUT_MODE = 1 ∨ (m.get TIM_PPS_CFG_OUT_MODE = 2 ∧ m.flag TIM_STATUS_USABLE) then
    m.withTime { m.time with ppsOutEnd := some (m.now + m.get TIM_PPS_CFG_OUT_WIDTH_US * 1000) }
  else m

theorem ppsOutPulse_begins (m : Mod) : m.ppsOutPulse = (m.advanceNet m.pulseAt).pulseBegins := by
  unfold Mod.ppsOutPulse Mod.pulseBegins
  rfl

theorem pulseBegins_parts (m : Mod) : m.pulseBegins.buf = m.buf ∧ m.pulseBegins.time.net = m.time.net ∧ m.pulseBegins.now = m.now := by
  unfold Mod.pulseBegins
  split <;> exact ⟨rfl, rfl, rfl⟩

theorem ppsOutPulse_reaches {m : Mod} (h : m.time.slew = 0) :
    ((m.ppsOutPulse.time.net : Int) - m.pulseOffset) / (unitsPerS : Int) = ((m.time.net : Int) - m.pulseOffset) / (unitsPerS : Int) + 1 ∧
    ((m.ppsOutPulse.time.net : Int) - m.pulseOffset) % (unitsPerS : Int) < (unitsPerNs : Int) := by
  obtain ⟨hahead, hat⟩ := pulseAt_ahead m
  obtain ⟨-, hreach, hover, -⟩ := advanceNet_reaches h hahead
  rw [ppsOutPulse_begins, (pulseBegins_parts _).2.1]
  exact second_of_pulse (by omega) (by omega)

theorem ppsOutPulse_end {m : Mod} (h : m.time.slew = 0) :
    (m.get TIM_PPS_CFG_OUT_MODE = 1 → m.ppsOutPulse.time.ppsOutEnd = some (m.ppsOutPulse.now + m.get TIM_PPS_CFG_OUT_WIDTH_US * 1000)) ∧
    (m.get TIM_PPS_CFG_OUT_MODE = 0 → m.ppsOutPulse.time.ppsOutEnd = m.time.ppsOutEnd) := by
  have hkept := timeless_settings.advanceNet m m.pulseAt
  have hmode : (m.advanceNet m.pulseAt).get TIM_PPS_CFG_OUT_MODE = m.get TIM_PPS_CFG_OUT_MODE := get_of_settings hkept (by decide) 0
  have hwidth : (m.advanceNet m.pulseAt).get TIM_PPS_CFG_OUT_WIDTH_US = m.get TIM_PPS_CFG_OUT_WIDTH_US := get_of_settings hkept (by decide) 0
  rw [ppsOutPulse_begins, (pulseBegins_parts _).2.2]
  unfold Mod.pulseBegins
  rw [hmode, hwidth]
  refine ⟨fun hon => ?_, fun hoff => ?_⟩
  · rw [if_pos (.inl hon)]
    rfl
  · obtain ⟨n, htime⟩ := advanceNet_time h m.pulseAt
    rw [if_neg (by simp [hoff]), htime]

/-! ### The end of a pulse -/

theorem ppsOutEnd_none {m : Mod} (h : m.time.ppsOutEnd = none) : m.ppsOutEnd = m := by
  unfold Mod.ppsOutEnd
  rw [h]

theorem ppsOutEnd_some {m : Mod} {c : Nat} (h : m.time.ppsOutEnd = some c) :
    m.ppsOutEnd = (m.advanceTo c).withTime { (m.advanceTo c).time with ppsOutEnd := none } := by
  unfold Mod.ppsOutEnd
  rw [h]

/-! ### The obligation -/

/-- Settles O36: each register's write is stored and followed by its block's rule, and an edge, a pulse and its end leave what they do not
name. -/
theorem timeRegistersAndPps : Obligations.TimeRegistersAndPps := by
  refine ⟨⟨fun s p v hg => ?_, fun s p v new hg hnew => ?_, fun s p v hg => ?_, fun s p v hg => ?_, fun s p v new hg hnew => ?_⟩,
    fun s ago cycles ref10 hrun => ?_, fun s off hrun hslew hoff => ?_, fun s hrun => ⟨fun hnone => ?_, fun c hc => ?_⟩⟩
  · have hdo := does_put_unimaged (exec_freqWrite p v s) hg rfl (by decide) (blockWrite_freq s.m s.locks p v none)
    obtain ⟨hstored, hnet, hfrozen, hfree, hbuf⟩ := freqWritten_shows s.m ((wholeWrite p .TIM_FREQ 0 v).onto (s.m.rd .TIM_FREQ))
    rw [of_onto p 0 v _ (by decide)] at hfree
    exact yields_of_does hdo ⟨hstored, hnet, hfrozen, hfree, hbuf⟩
  · obtain ⟨x, n, hdo, hdrift⟩ := does_refPrio hg hnew
    refine ⟨fun hgood => yields_of_does hdo ?_, fun hbad => yields_of_does hdo ?_⟩
    · obtain ⟨hstored, hnet, hbuf⟩ := refPrioWrite_good (s.m.withArm x) hgood
      exact ⟨(hdrift.rd 0 (by decide)).trans hstored, (congrArg TimeSt.net hdrift.time).trans hnet, hdrift.buf.trans hbuf⟩
    · have hrefused : (s.m.withArm x).refPrioWrite new = (s.m.withArm x).timRefused 4 := if_neg (Bool.eq_false_iff.1 hbad)
      rw [hrefused] at hdrift
      have h := timRefused_shows (s.m.withArm x) 4
      exact ⟨(hdrift.rd 0 (by decide)).trans (timRefused_rd _ 4 0 rfl rfl), (hdrift.flag 0 (by decide)).trans h.told,
        hdrift.time.trans h.time⟩
  · exact yields_of_does (does_put_unimaged (exec_ptpMeasWrite p v s) hg rfl (by decide) (blockWrite_ptpMeas s.m s.locks p v none))
      (ptpMeasured_shows s.m _)
  · have hblock := blockWrite_of_holdsWritten (r := .TIM_PPS_TOD) (by decide) s.m s.locks p 0 v none
    rw [regStore_wholeWrite (by decide)] at hblock
    exact yields_of_does (does_put_unimaged (exec_ppsTodWrite p v s) hg rfl (by decide) hblock)
      ⟨rd_wr s.m _ 0 _, wr_time s.m _ _ _, wr_buf s.m _ _ _⟩
  · have hdo := does_put_unimaged (exec_island p v s) hg rfl (by decide) (blockWrite_island s.m s.locks p v none)
    rw [← hnew] at hdo
    refine ⟨fun hsame => ?_, fun hne hhold => ?_⟩
    · rw [hsame, islandWrite_same] at hdo
      exact yields_of_does hdo ⟨hsame.symm, rfl⟩
    · exact yields_of_does hdo (islandWrite_changes hne hhold)
  · exact yields_of_does (does_act (exec_ppsEdge ago cycles ref10 s) hrun rfl) (ppsEdge_shows s.m ago cycles ref10)
  · obtain rfl : off = s.m.pulseOffset := hoff
    obtain ⟨hsecond, hjust⟩ := ppsOutPulse_reaches hslew
    obtain ⟨hon, hoff⟩ := ppsOutPulse_end hslew
    refine yields_of_does (does_act (exec_ppsOutPulse s) hrun rfl) ⟨hsecond, hjust, hon, hoff, fun harr => ?_⟩
    exact (pulseBegins_parts _).1.trans (advanceNet_buf harr _)
  · exact does_act (exec_ppsOutEnd s) hrun (ppsOutEnd_none hnone)
  · exact yields_of_does (does_act (exec_ppsOutEnd s) hrun (ppsOutEnd_some hc))
      ⟨rfl, now_advanceTo s.m c, fun harr => advance_buf harr _⟩

end Sys2Proof.Machine
end

section
/-! SUPPORT. Time states and the selection (R209 to R211, R216): what TIM_STATUS shows after a change of them. -/

namespace Sys2Proof.Machine

/-! ### The selection and the PLL's input -/

theorem selRef_of_get {m n : Mod} (hv : n.get TIM_STATUS_SEL_VALID = m.get TIM_STATUS_SEL_VALID)
    (hs : n.get TIM_STATUS_SELECTED = m.get TIM_STATUS_SELECTED) : n.selRef = m.selRef := by
  unfold Mod.selRef Mod.flag
  rw [hv, hs]

theorem selRef_of_status {m n : Mod} (h : n.rd .TIM_STATUS = m.rd .TIM_STATUS) : n.selRef = m.selRef :=
  selRef_of_get (congrArg TIM_STATUS_SEL_VALID.of h) (congrArg TIM_STATUS_SELECTED.of h)

theorem holdWord_get (m : Mod) (code : Nat) (word : Int) {g : Fld} (h : TIM_HOLD_FREQ_FREQ.clearOf g = true) :
    (m.holdWord code word).get g = m.get g := (get_set_clear _ 0 _ h).trans (get_of_regs (withTime_regs m _) g 0)

/-- A change of the PLL's input shows in no other field of TIM_STATUS (R203). -/
theorem pllUpdate_get (m : Mod) {g : Fld} (hin : TIM_STATUS_PLL_INPUT.clearOf g = true) (hword : TIM_HOLD_FREQ_FREQ.clearOf g = true) :
    m.pllUpdate.get g = m.get g := by
  unfold Mod.pllUpdate
  extract_lets old new n word
  have hn : n.get g = m.get g := get_set_clear m 0 new hin
  split
  · rfl
  · split
    · exact hn
    · split
      · exact (holdWord_get n new word hword).trans hn
      · exact (get_of_regs (withTime_regs n _) g 0).trans hn

/-- Another selection shows in SEL_VALID and SELECTED alone (R216). -/
theorem selectRef_changes {m : Mod} {new : Nat} (h : m.selRef ≠ new) :
    (m.selectRef new).get TIM_STATUS_SEL_VALID = b01 (new != 4) ∧ (m.selectRef new).tstate = m.tstate := by
  unfold Mod.selectRef
  rw [if_neg h]
  extract_lets m1 _ m2 m3 _ m4
  have h4 : m4.rd .TIM_STATUS = m1.rd .TIM_STATUS := by
    have h3 : m3.regs = m2.regs := by
      unfold m3
      split <;> rfl
    exact (rd_of_regs h3 _ 0 :)
  have told : Told ((m4.bump (timCtr 1)).sqc TIM_EVENT_REF) _ := told_event _ { blk := 0x04, code := 0x03, detail := m.selRef * 256 + new }
  have hstatus : ∀ n, Told ((m4.bump (timCtr 1)).sqc TIM_EVENT_REF) n → n.rd .TIM_STATUS = m1.rd .TIM_STATUS := fun n hn => by
    rw [hn.2 _ 0 rfl, rd_sqc_ne _ _ _ 0 0 rfl, bump_rd _ _ _ _ 0 rfl, h4]
  refine ⟨(congrArg TIM_STATUS_SEL_VALID.of (hstatus _ told)).trans ?_, (tstate_of_status (hstatus _ told)).trans ?_⟩
  · refine (get_set_clear (m.set TIM_STATUS_SEL_VALID 0 (b01 (new != 4))) (f := TIM_STATUS_SELECTED) 0 _ (by decide)).trans ?_
    rw [get_set _ _ _ _ (by decide)]
    cases new != 4 <;> rfl
  · exact (get_set_clear (m.set TIM_STATUS_SEL_VALID 0 (b01 (new != 4))) (f := TIM_STATUS_SELECTED) 0 _ (by decide)).trans
      (get_set_clear m 0 _ (by decide))

/-- Nothing is selected (R216). -/
theorem selectRef_none {m : Mod} (h : m.selRef ≠ 4) : (m.selectRef 4).selRef = 4 ∧ (m.selectRef 4).tstate = m.tstate := by
  obtain ⟨hvalid, hstate⟩ := selectRef_changes h
  refine ⟨?_, hstate⟩
  unfold Mod.selRef Mod.flag
  rw [hvalid]
  rfl

/-! ### A time state entered -/

/-- HOLDOVER begins now; it shows in HOLD_MIN and the holdover word alone (R211). -/
theorem holdsOver_get (m : Mod) {g : Fld} (he : evtReg g.reg = false) (hmin : TIM_STATUS_HOLD_MIN.clearOf g = true)
    (hword : TIM_HOLD_FREQ_FREQ.clearOf g = true) : m.holdsOver.get g = m.get g := by
  unfold Mod.holdsOver
  extract_lets n
  have hn : n.get g = m.get g := (get_set_clear _ 0 0 hmin).trans (bump_get m _ 1 g 0 he)
  exact (holdWord_get _ _ _ hword).trans ((get_of_regs (withTime_regs n _) g 0).trans hn)

theorem holdWord_holdAt (m : Mod) (code : Nat) (word : Int) : (m.holdWord code word).time.holdAt = m.time.holdAt := by
  unfold Mod.holdWord
  extract_lets words w
  rw [set_time]
  rfl

theorem holdsOver_at (m : Mod) : m.holdsOver.time.holdAt = m.now := by
  unfold Mod.holdsOver
  extract_lets n
  have hn : n.time = m.time := (set_time _ _ _ _).trans (bump_time m _ 1)
  rw [holdWord_holdAt]
  exact congrArg TimeSt.cycles hn

theorem enters_get (m : Mod) (new : Nat) {g : Fld} (he : evtReg g.reg = false) (hstate : TIM_STATUS_TSTATE.clearOf g = true)
    (hmin : TIM_STATUS_HOLD_MIN.clearOf g = true) (hword : TIM_HOLD_FREQ_FREQ.clearOf g = true) : (m.enters new).get g = m.get g := by
  unfold Mod.enters
  extract_lets n1 _ n
  have hn : n.get g = m.get g := (get_of_regs (withTime_regs n1 _) g 0).trans (get_set_clear m 0 new hstate)
  split
  · exact (holdsOver_get n he hmin hword).trans hn
  · exact hn

theorem enters_tstate (m : Mod) {new : Nat} (h : new < 8) : (m.enters new).tstate = new := by
  unfold Mod.enters
  extract_lets n1 _ n
  have hn : n.tstate = new :=
    (get_of_regs (withTime_regs n1 _) TIM_STATUS_TSTATE 0).trans ((get_set m _ 0 new (by decide)).trans (Nat.mod_eq_of_lt h))
  split
  · exact (holdsOver_get n rfl (by decide) (by decide)).trans hn
  · exact hn

theorem enters_holdAt (m : Mod) : (m.enters 3).time.holdAt = m.now := by
  unfold Mod.enters
  extract_lets n1 _ n
  rw [if_pos rfl, holdsOver_at]
  exact (congrArg TimeSt.cycles (set_time m TIM_STATUS_TSTATE 0 3) :)

/-- USABLE shows what R209 says, and every other field of TIM_STATUS stays. -/
theorem usableUpdate_shows (m : Mod) : m.usableUpdate.get TIM_STATUS_USABLE = b01 m.usableNow ∧
    (∀ g : Fld, g.reg = .TIM_STATUS → TIM_STATUS_USABLE.clearOf g = true → m.usableUpdate.get g = m.get g) ∧
    m.usableUpdate.time.holdAt = m.time.holdAt := by
  obtain ⟨n, hheld, heq⟩ := usableUpdate_held m
  have hstatus : m.usableUpdate.rd .TIM_STATUS = (m.set TIM_STATUS_USABLE 0 (b01 m.usableNow)).rd .TIM_STATUS := by
    rw [heq, rd_of_regs (ppsGate_regs n), hheld.rd _ rfl rfl rfl 0]
  refine ⟨(congrArg TIM_STATUS_USABLE.of hstatus).trans ?_, fun g hg hclear => ?_, ?_⟩
  · refine (get_set m TIM_STATUS_USABLE 0 _ (by decide)).trans ?_
    cases m.usableNow <;> rfl
  · refine Eq.trans ?_ (get_set_clear m 0 (b01 m.usableNow) hclear)
    unfold Mod.get
    rw [hg, hstatus]
  · have hgate : n.ppsGate.time.holdAt = n.time.holdAt := by
      unfold Mod.ppsGate
      extract_lets mode
      split <;> rfl
    rw [heq, hgate, hheld.time, set_time]

/-- A time state that differs is entered, with its event and what R209 makes of USABLE; the selection stays (R209 to R211). -/
theorem setTstate_shows {m : Mod} {new : Nat} (h : m.tstate ≠ new) (hnew : new < 8) :
    (m.setTstate new).tstate = new ∧ (m.setTstate new).selRef = m.selRef ∧ (m.setTstate new).flag TIM_EVENT_TSTATE = true ∧
    (m.setTstate new).flag TIM_STATUS_USABLE = (new == 2 || (new == 3 && m.flag TIM_HOLD_CFG_HOLD_PERMIT)) ∧
    (new = 3 → (m.setTstate new).time.holdAt = m.now) := by
  have told := setTstate_enters h
  obtain ⟨husable, hfields, hholdAt⟩ := usableUpdate_shows (m.enters new)
  have hget (g : Fld) (hg : g.reg = .TIM_STATUS) : (m.setTstate new).get g = (m.enters new).usableUpdate.get g :=
    (told.get 0 (hg ▸ rfl)).trans (get_sqc_ne _ _ g 0 0 (hg ▸ rfl))
  have hnow : (m.enters new).usableNow = (new == 2 || (new == 3 && m.flag TIM_HOLD_CFG_HOLD_PERMIT)) := by
    unfold Mod.usableNow
    rw [enters_tstate m hnew, (steered_enters m new).flag (by decide) 0]
  refine ⟨?_, selRef_of_get ?_ ?_, (told.flag 0 rfl).trans (flag_sqc_bit _ 0 (by decide)), ?_, fun h3 => ?_⟩
  · exact (hget TIM_STATUS_TSTATE rfl).trans ((hfields _ rfl (by decide)).trans (enters_tstate m hnew))
  · exact (hget _ rfl).trans ((hfields _ rfl (by decide)).trans (enters_get m new rfl (by decide) (by decide) (by decide)))
  · exact (hget _ rfl).trans ((hfields _ rfl (by decide)).trans (enters_get m new rfl (by decide) (by decide) (by decide)))
  · rw [flag_of_get ((hget TIM_STATUS_USABLE rfl).trans husable), hnow]
    cases (new == 2 || (new == 3 && m.flag TIM_HOLD_CFG_HOLD_PERMIT)) <;> rfl
  · subst h3
    rw [told.time, sqc_time, hholdAt, enters_holdAt]

end Sys2Proof.Machine
end

section
/-! SUPPORT. The loss of a reference (R210, R215, R216): the state it takes, the references left, and holdover where none bears time. -/

namespace Sys2Proof.Machine

/-! ### The references left -/

theorem refStatus_addr_ne : ∀ x < 4, ∀ r < 4, x ≠ r → Reg.TIM_REF_STATUS.addr x ≠ Reg.TIM_REF_STATUS.addr r := by decide

/-- The state of another reference stays. -/
theorem setRefState_other (m : Mod) {x r : Nat} (new : Nat) (hx : x < 4) (hr : r < 4) (h : x ≠ r) :
    (m.setRefState r new).get TIM_REF_STATUS_STATE x = m.get TIM_REF_STATUS_STATE x := by
  by_cases hsame : m.get TIM_REF_STATUS_STATE r = new
  · rw [setRefState_same hsame]
  · cases hup : m.time.monitorUp with
    | false => rw [setRefState_suspended hup]
    | true =>
      have hne := refStatus_addr_ne x hx r hr h
      rw [(setRefState_takes hsame hup).get x rfl, get_sqc_ne _ _ _ 0 x rfl, get_of_regs (refTakes_regs m r new)]
      exact congrArg TIM_REF_STATUS_STATE.of ((rd_wr_addr _ _ .TIM_REF_STATUS r x _ hne).trans (rd_wr_addr m _ .TIM_REF_STATUS r x _ hne))

theorem mem_goodRefs {m : Mod} {x : Nat} : x ∈ m.goodRefs ↔ (∃ k < 4, m.get TIM_REF_PRIO_ORDER / 4 ^ k % 4 = x) ∧
    (m.get TIM_REF_PRIO_EN).testBit x = true ∧ m.get TIM_REF_STATUS_STATE x = 2 := by
  simp [Mod.goodRefs]

/-- Where no other reference is GOOD, none is left (R216). -/
theorem goodRefs_lost {m : Mod} {r : Nat} (hr : r < 4) (hst : m.get TIM_REF_STATUS_STATE r ≠ 0) (hup : m.time.monitorUp = true)
    (h : ∀ x ∈ m.goodRefs, x = r) : (m.setRefState r 0).goodRefs = [] := by
  obtain ⟨hstate, -⟩ := setRefState_shows hst hup (by decide)
  have hj := judged_setRefState m r 0
  refine List.eq_nil_iff_forall_not_mem.2 fun x hx => ?_
  obtain ⟨⟨k, hk, horder⟩, hen, hgood⟩ := mem_goodRefs.1 hx
  have hx4 : x < 4 := horder ▸ Nat.mod_lt _ (by decide)
  by_cases hxr : x = r
  · rw [hxr, hstate] at hgood
    exact absurd hgood (by decide)
  · rw [hj.get (by decide) 0] at horder hen
    rw [setRefState_other m 0 hx4 hr hxr] at hgood
    exact hxr (h x (mem_goodRefs.2 ⟨⟨k, hk, horder⟩, hen, hgood⟩))

/-! ### The selection and the time state that follow -/

/-- With the selected reference absent and none GOOD, nothing is selected (R216). -/
theorem nextRef_none {m : Mod} (hst : m.get TIM_REF_STATUS_STATE m.selRef = 0) (hgood : m.goodRefs = []) : m.nextRef = 4 := by
  unfold Mod.nextRef
  simp [hst, hgood]

/-- LOCKED without a selected reference that bears time goes into HOLDOVER, but as an island's master (R210). -/
theorem lostReference_locked {m : Mod} (hsel : m.selRef = 4) (hlocked : m.tstate = 2) (hmaster : m.flag TIM_ISLAND_MASTER = false) :
    m.lostReference = m.setTstate 3 := by
  unfold Mod.lostReference Mod.timeBearing
  rw [hsel, hlocked, if_neg (by decide), if_neg (by simp), if_pos ⟨rfl, hmaster⟩]

/-- The loss of the only GOOD reference that bears time in LOCKED (R209, R210, R216). -/
theorem reselect_holdover {m : Mod} (hup : m.time.monitorUp = true) (hsel : m.selRef ≠ 4) (hst : m.get TIM_REF_STATUS_STATE m.selRef = 0)
    (hgood : m.goodRefs = []) (hlocked : m.tstate = 2) (hmaster : m.flag TIM_ISLAND_MASTER = false) :
    m.reselect.tstate = 3 ∧ m.reselect.selRef = 4 ∧ m.reselect.flag TIM_STATUS_USABLE = m.flag TIM_HOLD_CFG_HOLD_PERMIT := by
  have hs := steered_selectRef m 4
  obtain ⟨hnone, hstate⟩ := selectRef_none hsel
  obtain ⟨htstate, hselRef, -, husable, -⟩ := setTstate_shows (m := m.selectRef 4) (new := 3) (by omega) (by decide)
  have heq : m.reselect = ((m.selectRef 4).setTstate 3).pllUpdate := by
    unfold Mod.reselect
    rw [if_pos hup, nextRef_none hst hgood,
      lostReference_locked hnone (hstate.trans hlocked) ((hs.flag (by decide) 0).trans hmaster)]
  have hpll {g : Fld} (hin : TIM_STATUS_PLL_INPUT.clearOf g = true) (hword : TIM_HOLD_FREQ_FREQ.clearOf g = true) :
      m.reselect.get g = ((m.selectRef 4).setTstate 3).get g := by
    rw [heq, pllUpdate_get _ hin hword]
  refine ⟨(hpll (by decide) (by decide)).trans htstate, ?_, ?_⟩
  · exact (selRef_of_get (hpll (by decide) (by decide)) (hpll (by decide) (by decide))).trans (hselRef.trans hnone)
  · exact (congrArg (· == 1) (hpll (g := TIM_STATUS_USABLE) (by decide) (by decide))).trans (husable.trans (hs.flag (by decide) 0))

/-! ### REFERENCE_LOSS -/

theorem referenceLoss_absent {m : Mod} {r : Nat} (h : m.get TIM_REF_STATUS_STATE r = 0) : m.referenceLoss r = m := if_pos h

/-- A reference that is silent for its limit is absent, and the selection follows (R215, R216). -/
theorem referenceLoss_due {m : Mod} {r : Nat} (h : m.get TIM_REF_STATUS_STATE r ≠ 0) (hdue : r = 0 → m.time.ref0.lastSeen + 3 * oneSecond ≤ m.now) :
    m.referenceLoss r = (m.setRefState r 0).reselect := by
  unfold Mod.referenceLoss
  rw [if_neg h]
  by_cases hr : r = 0
  · simp only [hr, if_true, advanceTo_past (hdue hr)]
  · simp only [hr, if_false]

/-- While references are not monitored, none is lost (R16). -/
theorem referenceLoss_suspended {m : Mod} {r : Nat} (hdue : r = 0 → m.time.ref0.lastSeen + 3 * oneSecond ≤ m.now)
    (hdown : m.time.monitorUp = false) : m.referenceLoss r = m := by
  by_cases h : m.get TIM_REF_STATUS_STATE r = 0
  · exact referenceLoss_absent h
  · rw [referenceLoss_due h hdue, setRefState_suspended hdown]
    exact if_neg (by simp [hdown])

end Sys2Proof.Machine
end

section
/-! SUPPORT. The reference monitor's window and the time limits (R210, R211, R214, R215), and the obligation about time states. -/

namespace Sys2Proof.Machine

/-! ### An oven ready -/

theorem ovenReady_setOcxo (t : TimeSt) (x : Nat) (o : OcxoSt) : ((t.setOcxo x o).ocxo x) = o := by
  unfold TimeSt.setOcxo TimeSt.ocxo
  split <;> rfl

theorem ocxoReady_of_core {t u : TimeSt} (h : u.core = t.core) (x : Nat) : (u.ocxo x).ovenReady = (t.ocxo x).ovenReady := by
  unfold TimeSt.ocxo
  split
  · exact (congrArg (fun t : TimeSt => t.ocxoA.ovenReady) h :)
  · exact (congrArg (fun t : TimeSt => t.ocxoB.ovenReady) h :)

theorem setOcxo_parts (t : TimeSt) (x : Nat) (o : OcxoSt) : (t.setOcxo x o).net = t.net ∧ (t.setOcxo x o).monitorUp = t.monitorUp := by
  unfold TimeSt.setOcxo
  split <;> exact ⟨rfl, rfl⟩

/-- The oven is ready, and an absent oscillator is present while references are monitored (R215). -/
theorem ovenReady_shows (m : Mod) (x : Nat) : ((m.ovenReady x).time.ocxo x).ovenReady = true ∧ (m.ovenReady x).time.net = m.time.net ∧
    (m.ovenReady x).get TIM_REF_STATUS_STATE x =
      if m.get TIM_REF_STATUS_STATE x = 0 ∧ m.time.monitorUp = true then 1 else m.get TIM_REF_STATUS_STATE x := by
  obtain ⟨t, ht⟩ : ∃ t, t = m.time.setOcxo x { m.time.ocxo x with ovenReady := true } := ⟨_, rfl⟩
  have hready : (t.ocxo x).ovenReady = true := by rw [ht, ovenReady_setOcxo]
  obtain ⟨hnet, hup⟩ := setOcxo_parts m.time x { m.time.ocxo x with ovenReady := true }
  rw [← ht] at hnet hup
  have heq : m.ovenReady x = (m.withTime t).refPresent x := by rw [ht]; rfl
  have hj := judged_refPresent (m.withTime t) x
  have hstate := refPresent_state (m.withTime t) x
  rw [heq]
  refine ⟨(ocxoReady_of_core hj.core x).trans hready, hj.net.trans hnet, hstate.trans ?_⟩
  rw [withTime_time, hup]
  rfl

/-! ### A window of the monitor -/

theorem core_setOcxo (t : TimeSt) (x : Nat) {o : OcxoSt} (h : o.ovenReady = (t.ocxo x).ovenReady) : (t.setOcxo x o).core = t.core := by
  unfold TimeSt.setOcxo
  unfold TimeSt.ocxo at h
  split <;> simp_all [TimeSt.core]

theorem judged_satAdd (m : Mod) {f : Fld} (r n : Nat) (hf : f.reg = .TIM_REF_STATUS) : Judged m (m.satAdd f r n) := by
  unfold Mod.satAdd
  exact judged_set m r _ hf

theorem judged_withRef (m : Mod) (r : Nat) {x : RefSt} (h : x.lastSeen = (m.time.refSt r).lastSeen) :
    Judged m (m.withTime (m.time.setRefSt r x)) := (steered_withTime m (core_setRefSt m.time r h)).toJudged

theorem judged_judgeRef (m : Mod) (x : MonMeas) (all : List RefFreq) (r : RefFreq) : Judged m (m.judgeRef x all r) := by
  unfold Mod.judgeRef
  extract_lets others dev ps st mag in_ hard s within beyond m1 m2 m3
  have h1 : Judged m m1 := judged_withRef m r.id rfl
  have h2 : Judged m1 m2 := judged_set m1 r.id _ rfl
  have h3 : Judged m2 m3 := (judged_set m2 r.id _ rfl).trans (judged_satAdd _ r.id 1 rfl)
  exact ((h1.trans h2).trans h3).trans (judged_setRefState m3 r.id _)

theorem judged_unmeasured (m : Mod) (r : Nat) : Judged m (m.unmeasured r) := by
  unfold Mod.unmeasured
  have h1 : Judged m (m.withTime (m.time.setRefSt r { m.time.refSt r with lastPhase := none })) := judged_withRef m r rfl
  exact h1.trans (judged_satAdd _ r 1 rfl)

theorem judged_learnOcxo (m : Mod) (x : Nat) (f : Option Int) (selF inputF : Int) : Judged m (m.learnOcxo x f selF inputF) := by
  unfold Mod.learnOcxo
  split
  · exact .refl m
  · refine (steered_withTime m (core_setOcxo m.time x ?_)).toJudged
    rfl

theorem judged_learnWindow (m : Mod) (x : MonMeas) : Judged m (m.learnWindow x) := by
  unfold Mod.learnWindow
  refine rel_ite ?_ (.refl m)
  split
  · exact (judged_learnOcxo m 2 _ _ _).trans (judged_learnOcxo _ 3 _ _ _)
  · exact .refl m

theorem judged_ocxoReturns (m : Mod) (x : Nat) (edges : Bool) : Judged m (m.ocxoReturns x edges) := by
  unfold Mod.ocxoReturns
  exact rel_ite (judged_refPresent m x) (.refl m)

theorem Judged.foldl {β : Type} (f : Mod → β → Mod) (h : ∀ m b, Judged m (f m b)) (l : List β) (m : Mod) : Judged m (l.foldl f m) := by
  induction l generalizing m with
  | nil => exact .refl m
  | cons b t ih => exact (h m b).trans (ih (f m b))

/-- The end of a window begins a new count of servo writes, and a time state may follow (R210). -/
theorem lockWindow_counts (m : Mod) :
    ∃ run, Steered (m.withTime { m.time with lockRun := run, adjWrites := 0, adjWithin := true }) m.lockWindow :=
  ⟨_, rel_ite (steered_setTstate _ 2) (.refl _)⟩

/-- What a window measured, its references judged by it, and the servo's new count (R210, R214). -/
theorem monitorWindow_parts {m : Mod} (hup : m.time.monitorUp = true) (x : MonMeas) : ∃ n run,
    Judged (m.withTime { m.time with measA := x.ocxoA.getD m.time.measA, measB := x.ocxoB.getD m.time.measB,
                                     meas10 := x.ref10.getD m.time.meas10 }) n ∧
    Steered (n.withTime { n.time with lockRun := run, adjWrites := 0, adjWithin := true }) (m.monitorWindow x) := by
  unfold Mod.monitorWindow
  rw [if_neg (by simp [hup])]
  extract_lets _ m1 all m2 m3 m4 m5 m6
  have h2 : Judged m1 m2 := .foldl _ (fun m r => judged_judgeRef m x all r) _ m1
  have h3 : Judged m2 m3 := .foldl _ judged_unmeasured _ m2
  have h4 : Judged m3 m4 := (steered_reselect m3).toJudged.trans (judged_learnWindow _ x)
  have h5 : Judged m4 m5 := (judged_ocxoReturns m4 2 _).trans (judged_ocxoReturns _ 3 _)
  obtain ⟨run, h6⟩ := lockWindow_counts m5
  exact ⟨m5, run, ((h2.trans h3).trans h4).trans h5,
    h6.trans (rel_ite ((told_bump m6 _ 1).steered.trans (steered_set _ _ (by decide))) (.refl m6))⟩

/-- What a window leaves (R210, R214). -/
theorem monitorWindow_shows {m : Mod} (hup : m.time.monitorUp = true) (x : MonMeas) :
    (m.monitorWindow x).time.measA = x.ocxoA.getD m.time.measA ∧ (m.monitorWindow x).time.measB = x.ocxoB.getD m.time.measB ∧
    (m.monitorWindow x).time.meas10 = x.ref10.getD m.time.meas10 ∧ (m.monitorWindow x).time.adjWrites = 0 ∧
    (m.monitorWindow x).time.adjWithin = true ∧ (m.monitorWindow x).time.net = m.time.net ∧ (m.monitorWindow x).buf = m.buf ∧
    (m.monitorWindow x).fwd = m.fwd := by
  obtain ⟨n, run, hj, hs⟩ := monitorWindow_parts hup x
  refine ⟨?_, ?_, ?_, (congrArg TimeSt.adjWrites hs.core :), (congrArg TimeSt.adjWithin hs.core :), hs.net.trans hj.net,
    hs.buf.trans hj.buf, hs.fwd.trans hj.fwd⟩
  · exact (congrArg TimeSt.measA hs.core :).trans (congrArg TimeSt.measA hj.core :)
  · exact (congrArg TimeSt.measB hs.core :).trans (congrArg TimeSt.measB hj.core :)
  · exact (congrArg TimeSt.meas10 hs.core :).trans (congrArg TimeSt.meas10 hj.core :)

/-! ### The servo's silence and the end of holdover -/

theorem servoTimeout_idle {m : Mod} (h : m.tstate ≠ 2 ∨ m.flag TIM_ISLAND_MASTER = true) : m.servoTimeout = m := by
  refine if_neg fun ⟨hlocked, hmaster⟩ => ?_
  exact h.elim (· hlocked) fun hm => Bool.false_ne_true (hmaster.symm.trans hm)

theorem servoTimeout_due {m : Mod} (hlocked : m.tstate = 2) (hmaster : m.flag TIM_ISLAND_MASTER = false)
    (hdue : m.time.adjAt + m.get TIM_SERVO_CFG_SERVO_TO_S * oneSecond ≤ m.now) : m.servoTimeout = m.setTstate 3 := by
  unfold Mod.servoTimeout
  rw [if_pos ⟨hlocked, hmaster⟩, advanceTo_past hdue]

theorem holdoverExpiry_due {m : Mod} (hhold : m.tstate = 3)
    (hdue : m.time.holdAt + m.get TIM_HOLD_CFG_HOLD_MAX_MIN * 60 * oneSecond ≤ m.now) : m.holdoverExpiry = m.setTstate 4 := by
  unfold Mod.holdoverExpiry
  rw [if_pos hhold, advanceTo_past hdue]

/-! ### The obligation -/

/-- Settles O37: the state that a reference takes and the time state that follows show in TIM_STATUS, and steer no time; that an event that
cannot happen changes nothing is log 4. -/
theorem timeStatesFollowTheReferences : Obligations.TimeStatesFollowTheReferences := by
  refine ⟨fun s r hrun => ⟨fun habsent => ?_, fun hdue hdown => ?_, fun hst hdue hup => ?_⟩, fun s b hrun => ?_,
    fun s hrun => ⟨fun hidle => ?_, fun hlocked hmaster hdue => ?_, fun hother => ?_, fun hhold hdue => ?_⟩,
    fun s x hrun => ⟨fun hdown => ?_, fun hup => ?_⟩⟩
  · exact does_act (exec_referenceLoss r s) hrun (referenceLoss_absent habsent)
  · exact does_act (exec_referenceLoss r s) hrun (referenceLoss_suspended hdue hdown)
  · obtain ⟨hstate, hevent, hstatus⟩ := setRefState_shows hst hup (by decide)
    have hj := judged_setRefState s.m r 0
    have hs := steered_reselect (s.m.setRefState r 0)
    refine yields_of_does (does_act (exec_referenceLoss r s) hrun (referenceLoss_due hst hdue))
      ⟨(hs.refState r).trans hstate, hs.raised hevent, hs.net.trans hj.net, fun hsel hbears hgood hlocked hmaster => ?_, hs.buf.trans hj.buf⟩
    have hsel' : (s.m.setRefState r 0).selRef = r := (selRef_of_status hstatus).trans hsel
    obtain ⟨htstate, hnone, husable⟩ := reselect_holdover (hj.monitorUp.trans hup) (by omega) (hsel'.symm ▸ hstate)
      (goodRefs_lost r.isLt hst hup hgood) ((tstate_of_status hstatus).trans hlocked) ((hj.flag (by decide) 0).trans hmaster)
    exact ⟨htstate, hnone, husable.trans (hj.flag (by decide) 0)⟩
  · exact yields_of_does (does_act (exec_ovenReady b s) hrun rfl) (ovenReady_shows s.m _)
  · exact does_act (exec_servoTimeout s) hrun (servoTimeout_idle hidle)
  · obtain ⟨htstate, -, hevent, husable, hholdAt⟩ := setTstate_shows (m := s.m) (new := 3) (by omega) (by decide)
    exact yields_of_does (does_act (exec_servoTimeout s) hrun (servoTimeout_due hlocked hmaster hdue))
      ⟨htstate, hholdAt rfl, hevent, (steered_setTstate s.m 3).net, husable⟩
  · exact does_act (exec_holdoverExpiry s) hrun (if_neg hother)
  · obtain ⟨htstate, -, -, husable, -⟩ := setTstate_shows (m := s.m) (new := 4) (by omega) (by decide)
    exact yields_of_does (does_act (exec_holdoverExpiry s) hrun (holdoverExpiry_due hhold hdue))
      ⟨htstate, husable, (steered_setTstate s.m 4).net⟩
  · exact does_act (exec_monitorWindow x s) hrun (if_pos hdown)
  · exact yields_of_does (does_act (exec_monitorWindow x s) hrun rfl) (monitorWindow_shows hup x)

end Sys2Proof.Machine
end

section
/-! SUPPORT. Octets stored in SDRAM (R320): what a store leaves in the memory, and what its write-queue entries leave of it. -/

namespace Sys2Proof.Machine

/-! ### Octets read back -/

theorem length_toBytes (n v : Nat) : (toBytes n v).length = n := by
  induction n with
  | zero => rfl
  | succ n ih => rw [toBytes, List.length_cons, ih]

theorem memRead_eq {l : List (Nat × Byte)} {a : Nat} {bs : List Byte} (h : ∀ k < bs.length, memByte l (a + k) = bs.getD k 0) :
    memRead l a bs.length = bs := by
  induction bs generalizing a with
  | nil => rfl
  | cons b t ih =>
    have hhead : memByte l a = b := h 0 (by simp)
    have htail : memRead l (a + 1) t.length = t := ih fun k hk => by
      rw [Nat.add_assoc, Nat.add_comm 1 k]
      exact h (k + 1) (by simpa using hk)
    rw [List.length_cons, memRead, hhead, htail]

/-- Octets written read back. -/
theorem memRead_memWrite (l : List (Nat × Byte)) (a : Nat) (bs : List Byte) : memRead (memWrite l a bs) a bs.length = bs :=
  memRead_eq fun k hk => memByte_memWrite_in l a bs k hk

/-! ### The write queue -/

/-- The octets that SDRAM holds. -/
def dramOctets (m : Mod) : List (Nat × Byte) := m.drm.mem

theorem dramOctets_vjoin (m : Mod) (ch h : Nat) : Keeps dramOctets m (m.vjoin ch h) := by
  unfold Mod.vjoin
  exact .ite _ (.refl m) rfl

theorem dramOctets_writeModes (m : Mod) (ch : Nat) : Keeps dramOctets m (m.writeModes ch) := by
  unfold Mod.writeModes
  refine .foldl _ (fun m s => ?_) _ m
  extract_lets
  exact .ite _ (.refl m) rfl

theorem dramOctets_drmQueue (m : Mod) (who : Requester) (h a : Nat) (w : Bool) (ch : Nat) :
    Keeps dramOctets m (m.drmQueue who h a w ch) := by
  unfold Mod.drmQueue
  extract_lets g r n
  have hn : Keeps dramOctets m n := .ite _ (.refl m) (dramOctets_vjoin m ch h)
  exact .ite _ (.refl m) (hn.trans (Keeps.trans (b := n.withDrm _) rfl (dramOctets_writeModes _ ch)))

/-- A store writes its octets, and its write-queue entries none (R319, R320). -/
theorem drmPost_mem (m : Mod) (who : Requester) (h a : Nat) (bs : List Byte) :
    (m.drmPost who h a bs).drm.mem = memWrite m.drm.mem a bs := by
  unfold Mod.drmPost
  exact Keeps.foldl (g := dramOctets) _ (fun m k => .foldl _ (fun m ch => dramOctets_drmQueue m _ _ _ _ ch) _ m) _ _

end Sys2Proof.Machine
end

section
/-! SUPPORT. The Clippings rings (R240 to R245): what the writers' levels, fence markers that enter and the block's events leave of a ring's
place, its indices and its records. -/

namespace Sys2Proof.Machine

/-! ### Places and indices -/

/-- The frames' buffer, and the place, PROD and CONS of every ring. -/
def ringShown (m : Mod) : BufSt × (Nat → Word) × (Nat → Word) × (Nat → Word) :=
  (m.buf, fun h => m.rd .CLP_RING_CFG h, fun h => m.rd .CLP_RING_PROD h, fun h => m.rd .CLP_RING_CONS h)

theorem keeps_ringShown_iff {m n : Mod} : Keeps ringShown m n ↔
    n.buf = m.buf ∧ (∀ h, n.rd .CLP_RING_CFG h = m.rd .CLP_RING_CFG h) ∧ (∀ h, n.rd .CLP_RING_PROD h = m.rd .CLP_RING_PROD h) ∧
    ∀ h, n.rd .CLP_RING_CONS h = m.rd .CLP_RING_CONS h := by
  simp [Keeps, ringShown, funext_iff]

theorem ringShown_of_regs {m n : Mod} (hbuf : n.buf = m.buf) (h : n.regs = m.regs) : Keeps ringShown m n :=
  keeps_ringShown_iff.2 ⟨hbuf, rd_of_regs h _, rd_of_regs h _, rd_of_regs h _⟩

theorem minor_ringShown : Minor (Keeps ringShown) := Overlooks.minor {
  told := fun h => keeps_ringShown_iff.2 ⟨h.buf, fun i => h.2 _ i rfl, fun i => h.2 _ i rfl, fun i => h.2 _ i rfl⟩
  wr := fun m _ i w hr => keeps_ringShown_iff.2 ⟨wr_buf m _ i w, fun h => rd_wr_minor m i h w (by decide) hr,
    fun h => rd_wr_minor m i h w (by decide) hr, fun h => rd_wr_minor m i h w (by decide) hr⟩
  clp := fun m x => ringShown_of_regs (withClp_buf m x) rfl
  sch := fun m x => ringShown_of_regs (withSch_buf m x) rfl
  drm := fun m x => ringShown_of_regs (withDrm_buf m x) rfl
  prt := fun m _ _ _ => ringShown_of_regs (withPrt_buf m _) rfl
  cl := fun m c k => ringShown_of_regs (setCl_buf m c k) (setCl_regs m c k)
  free := fun m => ringShown_of_regs (freshNat_buf m) (freshNat_regs m) }

section
variable {m n : Mod} (h : Keeps ringShown m n)
include h

theorem ringShown_buf : n.buf = m.buf := (keeps_ringShown_iff.1 h).1

theorem ringShown_cfg (i : Nat) : n.rd .CLP_RING_CFG i = m.rd .CLP_RING_CFG i := (keeps_ringShown_iff.1 h).2.1 i

theorem ringShown_prod (i : Nat) : n.get CLP_RING_PROD_PROD i = m.get CLP_RING_PROD_PROD i :=
  congrArg CLP_RING_PROD_PROD.of ((keeps_ringShown_iff.1 h).2.2.1 i)

theorem ringShown_cons (i : Nat) : n.get CLP_RING_CONS_CONS i = m.get CLP_RING_CONS_CONS i :=
  congrArg CLP_RING_CONS_CONS.of ((keeps_ringShown_iff.1 h).2.2.2 i)

theorem clipFill_eq (i : Nat) : n.clipFill i = m.clipFill i := by
  unfold Mod.clipFill
  rw [ringShown_prod h, ringShown_cons h]

variable (hlost : n.clp.lost = m.clp.lost)
include hlost

theorem clipCapacity_eq (i : Nat) : n.clipCapacity i = m.clipCapacity i := by
  have hsize : n.get CLP_RING_CFG_SIZE i = m.get CLP_RING_CFG_SIZE i := congrArg CLP_RING_CFG_SIZE.of (ringShown_cfg h i)
  unfold Mod.clipCapacity
  rw [hsize, hlost]

theorem clipFull_eq (i : Nat) : n.clipFull i = m.clipFull i := by
  unfold Mod.clipFull
  rw [clipCapacity_eq h hlost, clipFill_eq h]

theorem clipAddr_eq (i k : Nat) : n.clipAddr i k = m.clipAddr i k := by
  have hbase : n.get CLP_RING_CFG_BASE i = m.get CLP_RING_CFG_BASE i := congrArg CLP_RING_CFG_BASE.of (ringShown_cfg h i)
  unfold Mod.clipAddr
  rw [clipCapacity_eq h hlost, hbase, hlost]

end

/-! ### Fence markers that enter -/

section
variable {R : Mod → Mod → Prop} (hR : Minor R)
include hR

theorem Minor.fenceEnter (m : Mod) (h word : Nat) : R m (m.fenceEnter h word) := hR.trans (hR.clp m _) (hR.writerLevels _)

theorem Minor.clipSettle (m : Mod) : R m m.clipSettle := by
  unfold Mod.clipSettle
  exact hR.foldl _ (fun m mk => rel_ite (hR.refl m) (hR.trans (hR.clp m _) (hR.fenceEnter _ _ _))) _ m

end

/-- With no fence marker waiting none enters (R244). -/
theorem clipSettle_unmarked {m : Mod} (h : m.clp.markers = []) : m.clipSettle = m := by
  unfold Mod.clipSettle
  rw [h, List.foldl_nil]

/-! ### The writers' levels -/

/-- What a write to a register leaves for the writers: their state, SDRAM and the tables. -/
def clipHeld (m : Mod) : ClpSt × DrmSt × FwdSt := (m.clp, m.drm, m.fwd)

theorem keeps_clipHeld_iff {m n : Mod} : Keeps clipHeld m n ↔ n.clp = m.clp ∧ n.drm = m.drm ∧ n.fwd = m.fwd := by
  simp [Keeps, clipHeld]

theorem clipHeld_set (m : Mod) (f : Fld) (i v : Nat) : Keeps clipHeld m (m.set f i v) :=
  keeps_clipHeld_iff.2 ⟨set_clp m f i v, set_drm m f i v, set_fwd m f i v⟩

theorem clipHeld_writerLevels (m : Mod) : Keeps clipHeld m m.writerLevels := by
  unfold Mod.writerLevels
  extract_lets level
  have hlevel (m : Mod) (fill panic : Fld) (c : Nat) : Keeps clipHeld m (level m fill panic c) :=
    (clipHeld_set m fill 0 _).trans (.ite _ (clipHeld_set _ panic 0 1) (.ite _ (clipHeld_set _ panic 0 0) (.refl _)))
  exact (hlevel _ _ _ _).trans (hlevel _ _ _ _)

theorem writerLevels_clp (m : Mod) : m.writerLevels.clp = m.clp := (keeps_clipHeld_iff.1 (clipHeld_writerLevels m)).1

end Sys2Proof.Machine
end

section
/-! SUPPORT. RECORD_WRITE and CLIPPINGS_FLUSH (R241, R245): the record that a writer stores, and the one that the flush delivers to a host. -/

namespace Sys2Proof.Machine

/-! ### A record stored -/

/-- The record r taken from its writer's buffer, whose levels follow (R242). -/
def Mod.recordOff (m : Mod) (r : ClipRec) : Mod := (m.withClp { m.clp with recs := m.clp.recs.erase r }).writerLevels

theorem recordOff_clp (m : Mod) (r : ClipRec) : (m.recordOff r).clp = { m.clp with recs := m.clp.recs.erase r } := writerLevels_clp _

theorem recordOff_held (m : Mod) (r : ClipRec) : (m.recordOff r).drm = m.drm ∧ (m.recordOff r).fwd = m.fwd :=
  (keeps_clipHeld_iff.1 (clipHeld_writerLevels (m.withClp { m.clp with recs := m.clp.recs.erase r }))).2

theorem ringShown_recordOff (m : Mod) (r : ClipRec) : Keeps ringShown m (m.recordOff r) :=
  (minor_ringShown.clp m _).trans (minor_ringShown.writerLevels _)

/-- The octets bs of the ordinary record r stored at address a, with PROD after index i, before its counter (R241). -/
def Mod.recordPlaced (m : Mod) (r : ClipRec) (i a : Nat) (bs : List Byte) : Mod :=
  let n := (m.drmPost .clippings r.hedge a bs).set CLP_RING_PROD_PROD r.hedge (i + 1)
  n.withClp { n.clp with dropped := remove n.clp.dropped r.hedge }

section
variable (m : Mod) (r : ClipRec) (i a : Nat) (bs : List Byte)

theorem recordPlaced_mem : (m.recordPlaced r i a bs).drm.mem = memWrite m.drm.mem a bs :=
  (congrArg DrmSt.mem (set_drm _ CLP_RING_PROD_PROD r.hedge (i + 1))).trans (drmPost_mem m .clippings r.hedge a bs)

theorem recordPlaced_prod : (m.recordPlaced r i a bs).get CLP_RING_PROD_PROD r.hedge = (i + 1) % 2 ^ 32 :=
  get_set (m.drmPost .clippings r.hedge a bs) CLP_RING_PROD_PROD r.hedge (i + 1) (by decide)

theorem recordPlaced_clp : (m.recordPlaced r i a bs).clp = { m.clp with dropped := remove m.clp.dropped r.hedge } := by
  have hclp := (set_clp _ CLP_RING_PROD_PROD r.hedge (i + 1)).trans (told_drmPost m .clippings r.hedge a bs).clp
  unfold Mod.recordPlaced
  rw [withClp_clp, hclp]

theorem recordPlaced_kept : (m.recordPlaced r i a bs).buf = m.buf ∧ (m.recordPlaced r i a bs).fwd = m.fwd := by
  have htold := told_drmPost m .clippings r.hedge a bs
  exact ⟨(set_buf _ CLP_RING_PROD_PROD r.hedge (i + 1)).trans htold.buf, (set_fwd _ CLP_RING_PROD_PROD r.hedge (i + 1)).trans htold.fwd⟩

/-- The record's octets, and no others, are stored; PROD advances; the record leaves its writer's buffer (R241). -/
theorem recordPlaced_shows {n : Mod} (hn : n = (m.recordOff r).recordPlaced r i a bs) :
    memRead n.drm.mem a bs.length = bs ∧ (∀ b, b < a ∨ a + bs.length ≤ b → memByte n.drm.mem b = memByte m.drm.mem b) ∧
    n.get CLP_RING_PROD_PROD r.hedge = (i + 1) % 2 ^ 32 ∧ n.clp.recs = m.clp.recs.erase r ∧ lookup n.clp.dropped r.hedge = none ∧
    n.buf = m.buf ∧ n.fwd = m.fwd := by
  subst hn
  obtain ⟨hdrm, hfwd⟩ := recordOff_held m r
  obtain ⟨hbuf', hfwd'⟩ := recordPlaced_kept (m.recordOff r) r i a bs
  refine ⟨?_, fun b hb => ?_, recordPlaced_prod _ r i a bs, ?_, ?_, hbuf'.trans (ringShown_buf (ringShown_recordOff m r)), hfwd'.trans hfwd⟩
  · rw [recordPlaced_mem]
    exact memRead_memWrite _ a bs
  · rw [recordPlaced_mem, hdrm]
    exact memByte_memWrite_out _ a bs b hb
  · rw [recordPlaced_clp, recordOff_clp]
  · rw [recordPlaced_clp, lookup_remove, if_pos rfl]

end

theorem recordStored_ordinary (m : Mod) {r : ClipRec} (h : r.fence = false) :
    m.recordStored r = (m.recordPlaced r (m.get CLP_RING_PROD_PROD r.hedge) (m.clipAddr r.hedge (m.get CLP_RING_PROD_PROD r.hedge))
      (toBytes 256 (withDropped r.word (lookupD m.clp.dropped r.hedge 0)))).bump (clpCtr r.hedge 0) := by
  simp only [Mod.recordStored, Mod.recordPlaced, Mod.withClp, h, Bool.false_eq_true, if_false]

theorem recordTaken_room {m : Mod} {r : ClipRec} (h : m.clipFull r.hedge = false) : m.recordTaken r = m.recordStored r := if_pos h

/-! ### RECORD_WRITE -/

theorem recordWrite_idle {m : Mod} {c : Nat} (h : m.writerBlocked c = true ∨ m.nextRecord c = none ∨ 2 ≤ m.clp.lost.length) :
    m.recordWrite c = m := by
  unfold Mod.recordWrite
  obtain hblocked | hnone | hlost := h
  · simp [hblocked]
  · simp [hnone]
  · simp [hlost]

theorem recordWrite_next {m : Mod} {c : Nat} {r : ClipRec} (hroom : m.writerBlocked c = false) (hlost : m.clp.lost.length < 2)
    (hnext : m.nextRecord c = some r) : m.recordWrite c = ((m.recordOff r).recordTaken r).clipSettle := by
  have hopen : ¬ (m.writerBlocked c || decide (2 ≤ m.clp.lost.length)) = true := by simp [hroom, hlost]
  unfold Mod.recordWrite
  rw [if_neg hopen, hnext]
  rfl

/-- An ordinary record whose ring has room is stored at the ring's next place (R241). -/
theorem recordWrite_stores {m : Mod} {c i a w : Nat} {r : ClipRec} (hroom : m.writerBlocked c = false) (hlost : m.clp.lost.length < 2)
    (hmarkers : m.clp.markers = []) (hnext : m.nextRecord c = some r) (hfence : r.fence = false) (hfull : m.clipFull r.hedge = false)
    (hi : i = m.get CLP_RING_PROD_PROD r.hedge) (ha : a = m.clipAddr r.hedge i) (hw : w = withDropped r.word (lookupD m.clp.dropped r.hedge 0)) :
    m.recordWrite c = ((m.recordOff r).recordPlaced r i a (toBytes 256 w)).bump (clpCtr r.hedge 0) := by
  have hshown := ringShown_recordOff m r
  have hclp := recordOff_clp m r
  have hlost' : (m.recordOff r).clp.lost = m.clp.lost := by rw [hclp]
  have hdropped : (m.recordOff r).clp.dropped = m.clp.dropped := by rw [hclp]
  have htaken := (recordTaken_room ((clipFull_eq hshown hlost' r.hedge).trans hfull)).trans (recordStored_ordinary _ hfence)
  rw [ringShown_prod hshown, clipAddr_eq hshown hlost', hdropped, ← hw, ← hi, ← ha] at htaken
  rw [recordWrite_next hroom hlost hnext, htaken]
  refine clipSettle_unmarked ?_
  rw [bump_clp, recordPlaced_clp, hclp]
  exact hmarkers

/-! ### CLIPPINGS_FLUSH -/

/-- The oldest record of ring h written to its host ring at index prod, of size places, and taken from its ring, before its counter (R245). -/
def Mod.hostPlaced (m : Mod) (h size prod : Nat) : Mod :=
  ((m.emit (.hostWrite (h + 1) (m.get CLP_HOST_BASE_ADDR h * 4096 + prod % size * 256) (m.clipRecord h (m.get CLP_RING_CONS_CONS h)))).set
    CLP_HOST_IDX_PROD h (prod + 1)).set CLP_RING_CONS_CONS h (m.get CLP_RING_CONS_CONS h + 1)

theorem hostPlaced_cons (m : Mod) (h size prod : Nat) :
    (m.hostPlaced h size prod).get CLP_RING_CONS_CONS h = (m.get CLP_RING_CONS_CONS h + 1) % 2 ^ 32 :=
  get_set _ CLP_RING_CONS_CONS h _ (by decide)

theorem hostPlaced_prod (m : Mod) (h size prod : Nat) : (m.hostPlaced h size prod).get CLP_HOST_IDX_PROD h = (prod + 1) % 2 ^ 32 :=
  (get_set_ne _ CLP_RING_CONS_CONS CLP_HOST_IDX_PROD h h _ rfl).trans (get_set _ CLP_HOST_IDX_PROD h _ (by decide))

theorem hostPlaced_buf (m : Mod) (h size prod : Nat) : (m.hostPlaced h size prod).buf = m.buf :=
  (set_buf _ _ _ _).trans ((set_buf _ _ _ _).trans (emit_buf m _))

theorem hostPlaced_clp (m : Mod) (h size prod : Nat) : (m.hostPlaced h size prod).clp = m.clp :=
  (set_clp _ _ _ _).trans ((set_clp _ _ _ _).trans (emit_clp m _))

theorem mem_hostPlaced (m : Mod) (h size prod : Nat) :
    .hostWrite (h + 1) (m.get CLP_HOST_BASE_ADDR h * 4096 + prod % size * 256) (m.clipRecord h (m.get CLP_RING_CONS_CONS h)) ∈
      (m.hostPlaced h size prod).evt.out :=
  ((outlasts_set _ CLP_HOST_IDX_PROD h _).trans (outlasts_set _ CLP_RING_CONS_CONS h _)) _ (mem_emit m _)

theorem foldl_range_min_one {α : Type} (f : α → Nat → α) (a : α) {k : Nat} (hk : 0 < k) : (List.range (Nat.min 1 k)).foldl f a = f a 0 := by
  rw [show Nat.min 1 k = 1 from Nat.min_eq_left hk]
  rfl

section
variable {m : Mod} {h : Nat}

/-- A record taken from its ring while no fence marker waits: CONS after it. -/
theorem clipTaken_unmarked (hmarkers : m.clp.markers = []) (n : Nat) :
    m.clipTaken h n = m.set CLP_RING_CONS_CONS h (m.get CLP_RING_CONS_CONS h + n) :=
  clipSettle_unmarked ((congrArg ClpSt.markers (set_clp m _ h _)).trans hmarkers)

theorem clippingsFlush_off {c n : Nat} (hoff : 4 ≤ m.get GLB_TICK_CFG_SHED_LEVEL ∨ m.flag CLP_HEDGE_CFG_EN h = false ∨
    m.get ENG_CLUSTER_STATUS_STATE c ≠ 0 ∨ (m.cl c).lost = true) : m.clippingsFlush h c n = m := by
  unfold Mod.clippingsFlush
  exact if_pos hoff

variable (hfill : 0 < m.clipFill h)
include hfill

theorem flushRecords_one (c : Nat) (hdeliver : m.get CLP_HEDGE_CFG_DELIVER h = 1) : m.flushRecords h c 1 = m.clipToHost h := by
  have hhost : m.flushRecords h c 1 = (List.range (Nat.min 1 (m.clipFill h))).foldl (fun m _ => m.clipToHost h) m := by
    unfold Mod.flushRecords
    rw [hdeliver]
    rfl
  exact hhost.trans (foldl_range_min_one _ m hfill)

/-- A flush of one record within the tick's budget is the record's delivery, and the tick's count of records (R33, R245). -/
theorem clippingsFlush_one {c : Nat} (hshed : m.get GLB_TICK_CFG_SHED_LEVEL < 4) (hen : m.flag CLP_HEDGE_CFG_EN h = true)
    (hdeliver : m.get CLP_HEDGE_CFG_DELIVER h = 1) (hstate : m.get ENG_CLUSTER_STATUS_STATE c = 0) (hlost : (m.cl c).lost = false)
    (hbudget : m.flushedNow c < m.flushBudget) : ∃ n x, n = m.clipToHost h ∧ m.clippingsFlush h c 1 = n.withClp x := by
  have hopen : ¬ (4 ≤ m.get GLB_TICK_CFG_SHED_LEVEL ∨ m.flag CLP_HEDGE_CFG_EN h = false ∨ m.get ENG_CLUSTER_STATUS_STATE c ≠ 0 ∨
      (m.cl c).lost = true) := by
    simp [hshed, hen, hstate, hlost]
  have hone : Nat.min 1 (m.flushBudget - m.flushedNow c) = 1 := Nat.min_eq_left (Nat.sub_pos_of_lt hbudget)
  unfold Mod.clippingsFlush
  rw [if_neg hopen]
  simp only [hone, flushRecords_one hfill c hdeliver]
  exact ⟨_, _, rfl, rfl⟩

variable {size prod : Nat} (hsize : size = 2 ^ m.get CLP_HOST_BASE_LOG2_SIZE h) (hprod : prod = m.get CLP_HOST_IDX_PROD h)
  (hroom : (prod + 2 ^ 32 - m.get CLP_HOST_IDX_CONS h) % 2 ^ 32 < size) (hmaster : m.hdg.busMaster.contains (h + 1) = true)
  (hmarkers : m.clp.markers = [])
include hsize hprod hroom hmaster hmarkers

/-- A record goes to the host ring while the ring has one, the host ring has room, and the function has bus mastering (R245). -/
theorem clipToHost_delivers : m.clipToHost h = ((m.hostPlaced h size prod).bump (clpCtr h 8)).hedgeCause h 2 := by
  have hopen : ¬ (m.clipFill h = 0 ∨ size ≤ (prod + 2 ^ 32 - m.get CLP_HOST_IDX_CONS h) % 2 ^ 32 ∨
      ¬ m.hdg.busMaster.contains (h + 1) = true) := by
    simp only [hmaster, not_true_eq_false, or_false]
    omega
  have htaken (o : Output) : ((m.emit o).set CLP_HOST_IDX_PROD h (prod + 1)).clipTaken h 1 =
      ((m.emit o).set CLP_HOST_IDX_PROD h (prod + 1)).set CLP_RING_CONS_CONS h (m.get CLP_RING_CONS_CONS h + 1) := by
    have hcons : ((m.emit o).set CLP_HOST_IDX_PROD h (prod + 1)).get CLP_RING_CONS_CONS h = m.get CLP_RING_CONS_CONS h :=
      (get_set_ne _ _ _ h h _ rfl).trans (get_of_regs (emit_regs m o) _ h)
    rw [clipTaken_unmarked (by rw [set_clp, emit_clp, hmarkers]), hcons]
  subst hsize hprod
  unfold Mod.clipToHost
  rw [if_neg hopen]
  simp only [htaken]
  rfl

/-- What a delivery to the host ring shows (R245). -/
theorem clipToHost_shows {n : Mod} (hn : n = m.clipToHost h) :
    Output.hostWrite (h + 1) (m.get CLP_HOST_BASE_ADDR h * 4096 + prod % size * 256) (m.clipRecord h (m.get CLP_RING_CONS_CONS h)) ∈ n.evt.out ∧
    n.get CLP_RING_CONS_CONS h = (m.get CLP_RING_CONS_CONS h + 1) % 2 ^ 32 ∧ n.get CLP_HOST_IDX_PROD h = (prod + 1) % 2 ^ 32 ∧
    n.buf = m.buf := by
  rw [clipToHost_delivers hfill hsize hprod hroom hmaster hmarkers] at hn
  subst hn
  have htold := (told_bump (m.hostPlaced h size prod) (clpCtr h 8) 1).trans (told_hedgeCause _ h 2)
  have hout := (outlasts_bump (m.hostPlaced h size prod) (clpCtr h 8) 1).trans (outlasts_hedgeCause _ h 2)
  exact ⟨hout _ (mem_hostPlaced m h size prod), (htold.get h rfl).trans (hostPlaced_cons m h size prod),
    (htold.get h rfl).trans (hostPlaced_prod m h size prod), htold.buf.trans (hostPlaced_buf m h size prod)⟩

end

end Sys2Proof.Machine
end

section
/-! SUPPORT. The writes to CLP_RING_CFG, CLP_RING_CONS and CLP_HOST_BASE (R240, R241, R245), and the obligation about Clippings rings. -/

namespace Sys2Proof.Machine

/-! ### A write in its block -/

/-- A granted write spends its arming, and does what its block makes of it, with the drift from the image (R367, R402). -/
theorem does_put_spent {c : Instr} {s : State} {p : Path} {r : Reg} {j : Nat} {v : Word} (hc : exec c s = s.put p r j v none)
    (hg : s.Granted p r j j v) : ∃ x n, Does c s n ∧ DriftTold ((s.m.withArm x).blockWrite s.locks (wholeWrite p r j v) none).2 n := by
  obtain ⟨x, hx⟩ := spent_eq_withArm s.m p r
  have hput := hc.trans (put_granted s p r j j v none hg)
  rw [hx] at hput
  exact ⟨x, _, hput, driftTold_took _ r j _⟩

theorem DriftTold.clp {m n : Mod} (h : DriftTold m n) : n.clp = m.clp := h.part Mod.clp

theorem blockWrite_clipRing (m : Mod) (l : BitVec 5) (p : Path) (h : Nat) (v : Word) (x : Option Found) :
    m.blockWrite l (wholeWrite p .CLP_RING_CFG h v) x = m.clipRingWrite (wholeWrite p .CLP_RING_CFG h v) := by
  unfold Mod.blockWrite
  exact if_neg (show ¬ (settable .CLP_RING_CFG).isEmpty = true by decide)

theorem blockWrite_clipCons (m : Mod) (l : BitVec 5) (p : Path) (h : Nat) (v : Word) (x : Option Found) :
    m.blockWrite l (wholeWrite p .CLP_RING_CONS h v) x = m.clipCons (isCluster p) h (CLP_RING_CONS_CONS.of v) := by
  unfold Mod.blockWrite
  exact if_neg (show ¬ (settable .CLP_RING_CONS).isEmpty = true by decide)

theorem blockWrite_clipHost (m : Mod) (l : BitVec 5) (p : Path) (h : Nat) (v : Word) (x : Option Found) :
    m.blockWrite l (wholeWrite p .CLP_HOST_BASE h v) x = (true, m.clipHostWrite (wholeWrite p .CLP_HOST_BASE h v)) := by
  unfold Mod.blockWrite
  exact if_neg (show ¬ (settable .CLP_HOST_BASE).isEmpty = true by decide)

/-! ### CLP_RING_CFG -/

theorem clpRefused_told (m : Mod) (h high q : Nat) : Told (m.sqc CLP_EVENT_REFUSED) (m.clpRefused h high q) := told_event _ _

/-- A refused write shows in CLP_EVENT, and leaves the rings (R248). -/
theorem clpRefused_shows (m : Mod) (h high q : Nat) : Keeps ringShown m (m.clpRefused h high q) ∧ (m.clpRefused h high q).clp = m.clp ∧
    (m.clpRefused h high q).flag CLP_EVENT_REFUSED = true := by
  have htold := clpRefused_told m h high q
  exact ⟨(minor_ringShown.sqc m 0 (by decide)).trans (minor_ringShown.event _ _), htold.clp.trans (sqc_clp m _ 0),
    (htold.flag 0 rfl).trans (flag_sqc_bit m 0 (by decide))⟩

/-- The records of ring h that wait have gone, its fence markers too when it is off, and are counted (R240, R244). -/
def Mod.ringEmptied (m : Mod) (h : Nat) (off : Bool) : Mod :=
  let goes (r : ClipRec) : Bool := r.hedge == h && (off || !r.fence)
  let gone := (m.clp.recs.filter goes).length + (m.clp.markers.filter fun x => off && x.1 == h).length
  let n := m.withClp { m.clp with recs := m.clp.recs.filter fun r => !(goes r), markers := m.clp.markers.filter fun x => !(off && x.1 == h),
                                  dropped := countUp m.clp.dropped h gone }
  if gone = 0 then n else n.bump (clpCtr h 2) gone

theorem ringEmptied_clp (m : Mod) (h : Nat) (off : Bool) :
    (m.ringEmptied h off).clp.recs = (m.clp.recs.filter fun r => !(r.hedge == h && (off || !r.fence))) ∧
    (m.ringEmptied h off).clp.markers = m.clp.markers.filter fun x => !(off && x.1 == h) := by
  unfold Mod.ringEmptied
  extract_lets goes gone old n
  have hclp : (if gone = 0 then n else n.bump (clpCtr h 2) gone).clp = n.clp := by
    split
    · rfl
    · exact bump_clp n _ _
  rw [hclp]
  exact ⟨rfl, rfl⟩

theorem ringShown_ringEmptied (m : Mod) (h : Nat) (off : Bool) : Keeps ringShown m (m.ringEmptied h off) := by
  unfold Mod.ringEmptied
  extract_lets goes gone old n
  have hn : Keeps ringShown m n := minor_ringShown.clp m _
  exact hn.trans (.ite _ (.refl n) (minor_ringShown.bump n _ _))

/-- Ring h placed as its word says, with its indices at zero (R240). -/
def Mod.ringBegun (m : Mod) (h : Nat) (w : Word) : Mod :=
  ((m.wr .CLP_RING_CFG h w).set CLP_RING_PROD_PROD h 0).set CLP_RING_CONS_CONS h 0

theorem ringBegun_shows (m : Mod) (h : Nat) (w : Word) : (m.ringBegun h w).rd .CLP_RING_CFG h = w ∧
    (m.ringBegun h w).get CLP_RING_PROD_PROD h = 0 ∧ (m.ringBegun h w).get CLP_RING_CONS_CONS h = 0 := by
  refine ⟨?_, ?_, get_set _ CLP_RING_CONS_CONS h 0 (by decide)⟩
  · exact (rd_set_ne _ _ _ h h 0 rfl).trans ((rd_set_ne _ _ _ h h 0 rfl).trans (rd_wr m _ h w))
  · exact (get_set_ne _ _ _ h h 0 rfl).trans (get_set _ CLP_RING_PROD_PROD h 0 (by decide))

theorem ringBegun_parts (m : Mod) (h : Nat) (w : Word) : (m.ringBegun h w).clp = m.clp ∧ (m.ringBegun h w).buf = m.buf :=
  ⟨(set_clp _ _ _ _).trans ((set_clp _ _ _ _).trans (wr_clp m _ h w)), (set_buf _ _ _ _).trans ((set_buf _ _ _ _).trans (wr_buf m _ h w))⟩

section
variable {m : Mod} {p : Path} {h : Nat} {v new : Word} (hnew : new = (wholeWrite p .CLP_RING_CFG h v).onto (m.rd .CLP_RING_CFG h))
include hnew

theorem clipRingWrite_refused (hmeets : m.clipOverlap h new = true) :
    (m.clipRingWrite (wholeWrite p .CLP_RING_CFG h v)).2 = m.clpRefused h h 1 := by
  subst hnew
  exact congrArg Prod.snd (if_pos hmeets)

theorem clipRingWrite_accepted (hfree : m.clipOverlap h new = false) : (m.clipRingWrite (wholeWrite p .CLP_RING_CFG h v)).2 =
    ((m.ringEmptied h (CLP_RING_CFG_SIZE.of new == 0)).ringBegun h new).writerLevels.clipSettle := by
  have hstored (n : Mod) (hn : Keeps ringShown m n) :
      n.regStore (wholeWrite p .CLP_RING_CFG h v) = n.wr .CLP_RING_CFG h new := by
    rw [regStore_unstaged (by decide) (by decide) rfl, ringShown_cfg hn, hnew]
  have hbegun : (m.clipRingWrite (wholeWrite p .CLP_RING_CFG h v)).2 =
      ((((m.ringEmptied h (CLP_RING_CFG_SIZE.of new == 0)).regStore (wholeWrite p .CLP_RING_CFG h v)).set CLP_RING_PROD_PROD h 0).set
        CLP_RING_CONS_CONS h 0).writerLevels.clipSettle := by
    subst hnew
    exact congrArg Prod.snd (if_neg (Bool.eq_false_iff.1 hfree))
  rw [hbegun, hstored _ (ringShown_ringEmptied m h _)]
  rfl

/-- A place accepted holds, with its indices at zero and without the records that waited (R240, R244). -/
theorem clipRingWrite_shows (hfree : m.clipOverlap h new = false) {n : Mod} (hn : n = (m.clipRingWrite (wholeWrite p .CLP_RING_CFG h v)).2) :
    n.rd .CLP_RING_CFG h = new ∧ n.get CLP_RING_PROD_PROD h = 0 ∧ n.get CLP_RING_CONS_CONS h = 0 ∧
    (m.clp.markers = [] → n.clp.markers = [] ∧
      n.clp.recs = (m.clp.recs.filter fun r => r.hedge != h || (r.fence && CLP_RING_CFG_SIZE.of new != 0))) ∧ n.buf = m.buf := by
  rw [clipRingWrite_accepted hnew hfree] at hn
  subst hn
  generalize hoff : (CLP_RING_CFG_SIZE.of new == 0) = off
  have hkept := (minor_ringShown.writerLevels ((m.ringEmptied h off).ringBegun h new)).trans (minor_ringShown.clipSettle _)
  obtain ⟨hcfg, hprod, hcons⟩ := ringBegun_shows (m.ringEmptied h off) h new
  obtain ⟨hclp, hbuf⟩ := ringBegun_parts (m.ringEmptied h off) h new
  obtain ⟨hrecs, hmarkers⟩ := ringEmptied_clp m h off
  refine ⟨(ringShown_cfg hkept h).trans hcfg, (ringShown_prod hkept h).trans hprod, (ringShown_cons hkept h).trans hcons, fun hnone => ?_,
    (ringShown_buf hkept).trans (hbuf.trans (ringShown_buf (ringShown_ringEmptied m h off)))⟩
  have hlevels := (writerLevels_clp ((m.ringEmptied h off).ringBegun h new)).trans hclp
  have hempty : ((m.ringEmptied h off).ringBegun h new).writerLevels.clp.markers = [] := by
    rw [hlevels, hmarkers, hnone, List.filter_nil]
  rw [clipSettle_unmarked hempty]
  refine ⟨hempty, ?_⟩
  rw [hlevels, hrecs]
  refine List.filter_congr fun r _ => ?_
  rw [← hoff, Bool.not_and, Bool.not_or, Bool.not_not, Bool.and_comm (!_)]
  rfl

end

/-! ### CLP_RING_CONS -/

/-- An accepted CONS holds, and fence markers that enter for its room leave it (R241, R244). -/
theorem clipCons_accepted {m : Mod} {consumer : Bool} {h v : Nat} (hv : v < 2 ^ 32)
    (hmine : m.get CLP_HEDGE_CFG_DELIVER h = 0 ∨ consumer = true)
    (hin : consAccepts (m.get CLP_RING_PROD_PROD h) (m.get CLP_RING_CONS_CONS h) v = true) :
    (m.clipCons consumer h v).2.get CLP_RING_CONS_CONS h = v ∧
    (m.clipCons consumer h v).2.rd .CLP_RING_PROD h = m.rd .CLP_RING_PROD h ∧ (m.clipCons consumer h v).2.buf = m.buf := by
  have htaken : (m.clipCons consumer h v).2 = (m.set CLP_RING_CONS_CONS h v).clipSettle := by
    unfold Mod.clipCons
    rw [if_pos (by simpa [hin] using hmine)]
  obtain ⟨hbuf, -, hprod, hcons⟩ := keeps_ringShown_iff.1 (minor_ringShown.clipSettle (m.set CLP_RING_CONS_CONS h v))
  rw [htaken]
  refine ⟨(congrArg CLP_RING_CONS_CONS.of (hcons h)).trans ?_, (hprod h).trans (rd_set_ne m _ _ h h v rfl), hbuf.trans (set_buf m _ h v)⟩
  exact (get_set m CLP_RING_CONS_CONS h v (by decide)).trans (Nat.mod_eq_of_lt hv)

/-- A refused CONS leaves the ring as it was, and shows in CLP_EVENT (R241, R245). -/
theorem clipCons_refused {m : Mod} {consumer : Bool} {h v : Nat}
    (hbar : consAccepts (m.get CLP_RING_PROD_PROD h) (m.get CLP_RING_CONS_CONS h) v = false ∨
      (m.get CLP_HEDGE_CFG_DELIVER h ≠ 0 ∧ consumer = false)) :
    (m.clipCons consumer h v).2.get CLP_RING_CONS_CONS h = m.get CLP_RING_CONS_CONS h ∧
    (m.clipCons consumer h v).2.flag CLP_EVENT_DROP = true ∧ (m.clipCons consumer h v).2.clp = m.clp := by
  have hdropped : ∃ k e, (m.clipCons consumer h v).2 = ((m.bump (clpCtr h 6)).sqc CLP_EVENT_DROP).eventRated k e := by
    unfold Mod.clipCons
    rw [if_neg]
    · exact ⟨_, _, rfl⟩
    · obtain hout | ⟨hdeliver, hhost⟩ := hbar
      · simp [hout]
      · simp [hdeliver, hhost]
  obtain ⟨k, e, hdropped⟩ := hdropped
  have htold := told_eventRated ((m.bump (clpCtr h 6)).sqc CLP_EVENT_DROP) k e
  rw [hdropped]
  refine ⟨?_, (htold.flag 0 rfl).trans (flag_sqc_bit _ 0 (by decide)), htold.clp.trans ((sqc_clp _ _ 0).trans (bump_clp m _ 1))⟩
  exact (htold.get h rfl).trans ((get_sqc_ne _ _ _ 0 h rfl).trans (bump_get m _ 1 _ h rfl))

/-! ### CLP_HOST_BASE -/

/-- The host ring's base holds, and both its indices are zero (R245). -/
theorem clipHostWrite_shows (m : Mod) (p : Path) (h : Nat) (v : Word) {n : Mod} (hn : n = m.clipHostWrite (wholeWrite p .CLP_HOST_BASE h v)) :
    n.rd .CLP_HOST_BASE h = (wholeWrite p .CLP_HOST_BASE h v).onto (m.rd .CLP_HOST_BASE h) ∧
    n.get CLP_HOST_IDX_PROD h = 0 ∧ n.get CLP_HOST_IDX_CONS h = 0 ∧ n.clp = m.clp ∧ n.buf = m.buf := by
  have hstored := regStore_unstaged (r := .CLP_HOST_BASE) (by decide) (by decide) rfl m p h v
  generalize (wholeWrite p .CLP_HOST_BASE h v).onto (m.rd .CLP_HOST_BASE h) = w at hstored ⊢
  obtain rfl : n = ((m.wr .CLP_HOST_BASE h w).set CLP_HOST_IDX_PROD h 0).set CLP_HOST_IDX_CONS h 0 := by
    rw [hn, ← hstored]
    rfl
  refine ⟨?_, ?_, get_set _ CLP_HOST_IDX_CONS h 0 (by decide), ?_, ?_⟩
  · exact (rd_set_ne _ _ _ h h 0 rfl).trans ((rd_set_ne _ _ _ h h 0 rfl).trans (rd_wr m _ h w))
  · exact (get_set_clear _ h 0 (by decide)).trans (get_set _ CLP_HOST_IDX_PROD h 0 (by decide))
  · exact (set_clp _ _ _ _).trans ((set_clp _ _ _ _).trans (wr_clp m _ h w))
  · exact (set_buf _ _ _ _).trans ((set_buf _ _ _ _).trans (wr_buf m _ h w))

/-! ### The obligation -/

/-- Settles O38: a record is one store and one step of PROD, a delivery one host write and one step of both rings, and each write to a ring's
registers is its block's answer with the drift from the image beside it; that a flush or a writer with nothing to do changes nothing is
log 4. -/
theorem clippingsRings : Obligations.ClippingsRings := by
  refine ⟨⟨fun s c hrun => ⟨fun hidle => ?_, ?_⟩, fun s h c n hrun => ⟨fun hoff => ?_, ?_⟩⟩,
    fun s p h v hg new hnew => ?_, fun s p h cons hg => ?_, fun s p h v hg => ?_⟩
  · exact does_act (exec_recordWrite c s) hrun (recordWrite_idle hidle)
  · intro r i a w hroom hlost hmarkers hnext hfence hfull hi ha hw
    have hshows := recordPlaced_shows s.m r i a (toBytes 256 w) rfl
    rw [length_toBytes] at hshows
    exact yields_of_does (does_act (exec_recordWrite c s) hrun (recordWrite_stores hroom hlost hmarkers hnext hfence hfull hi ha hw))
      ⟨_, rfl, hshows⟩
  · exact does_act (exec_clippingsFlush h c n s) hrun (clippingsFlush_off hoff)
  · intro hshed hen hdeliver hfill hmaster hmarkers hstate hlost hbudget size prod hsize hprod hroom
    obtain ⟨n, x, hn, hflush⟩ := clippingsFlush_one hfill hshed hen hdeliver hstate hlost hbudget
    have hshows := clipToHost_shows hfill hsize hprod hroom hmaster hmarkers hn
    exact yields_of_does (does_act (exec_clippingsFlush h c 1 s) hrun hflush) hshows
  · obtain ⟨x, n, hdo, hdrift⟩ := does_put_spent (exec_ringCfgWrite p h v s) hg
    rw [blockWrite_clipRing] at hdrift
    refine ⟨fun hmeets => yields_of_does hdo ?_, fun hfree => yields_of_does hdo ?_⟩
    · rw [clipRingWrite_refused (m := s.m.withArm x) hnew hmeets] at hdrift
      obtain ⟨hshown, hclp, htold⟩ := clpRefused_shows (s.m.withArm x) h h 1
      obtain ⟨-, hcfg, hprod, -⟩ := keeps_ringShown_iff.1 hshown
      exact ⟨(hdrift.rd h (by decide)).trans (hcfg h), hdrift.clp.trans hclp, (hdrift.flag 0 (by decide)).trans htold,
        (hdrift.rd h (by decide)).trans (hprod h)⟩
    · obtain ⟨hcfg, hprod, hcons, hrecs, hbuf⟩ := clipRingWrite_shows (m := s.m.withArm x) hnew hfree rfl
      rw [← hdrift.clp] at hrecs
      exact ⟨(hdrift.rd h (by decide)).trans hcfg, (hdrift.get h (by decide)).trans hprod, (hdrift.get h (by decide)).trans hcons, hrecs,
        hdrift.buf.trans hbuf⟩
  · have hdo := does_put_unimaged (exec_consWrite p h cons s) hg rfl (by decide) (blockWrite_clipCons s.m s.locks p h _ none)
    have hword : CLP_RING_CONS_CONS.of (CLP_RING_CONS_CONS.put 0 cons.toNat) = cons.toNat :=
      (of_put _ _ _ (by decide)).trans (Nat.mod_eq_of_lt cons.isLt)
    rw [hword] at hdo
    exact ⟨fun hmine hin => yields_of_does hdo (clipCons_accepted cons.isLt hmine hin), fun hbar => yields_of_does hdo (clipCons_refused hbar)⟩
  · exact yields_of_does (does_put_unimaged (exec_hostBaseWrite p h v s) hg rfl (by decide) (blockWrite_clipHost s.m s.locks p h v none))
      (clipHostWrite_shows s.m p h v rfl)

end Sys2Proof.Machine
end

section
/-! SUPPORT. A part of a microword (R251, R253): what a thread that issues it leaves of the module, and that a thread which does not issue
it leaves all. -/

namespace Sys2Proof.Machine

/-! ### Free values drawn -/

/-- From m to n at most free values have been drawn. -/
def Drew (m n : Mod) : Prop := n = { m with free := n.free }

theorem Drew.refl (m : Mod) : Drew m m := rfl

theorem Drew.trans {a b c : Mod} (h : Drew a b) (k : Drew b c) : Drew a c := by
  unfold Drew at *
  rw [k, h]

theorem Drew.eng {m n : Mod} (h : Drew m n) : n.eng = m.eng := (congrArg Mod.eng h :)

theorem Drew.regs {m n : Mod} (h : Drew m n) : n.regs = m.regs := (congrArg Mod.regs h :)

theorem Drew.steady {m n : Mod} (h : Drew m n) : Keeps Machine.steady m n := (congrArg Machine.steady h :)

theorem drew_fresh (m : Mod) : Drew m m.fresh.2 := rfl

theorem drew_source (m : Mod) (key : Nat) (t : Thread) (imm : BitVec 16) (code : Nat) : Drew m (m.source key t imm code).2 := by
  unfold Mod.source
  split
  · exact .refl m
  · split
    · exact .refl m
    · split
      · exact drew_fresh m
      · exact .refl m

theorem drew_of_source {m n : Mod} {key : Nat} {t : Thread} {imm : BitVec 16} {code : Nat} {w : Word}
    (h : m.source key t imm code = (w, n)) : Drew m n := by
  have hd := drew_source m key t imm code
  rwa [h] at hd

theorem drew_resultOf (m : Mod) (r : Option AluRes) : Drew m (m.resultOf r).2 := by
  unfold Mod.resultOf
  split
  · split
    · exact .refl m
    · exact drew_fresh m
  · exact drew_fresh m

theorem drew_of_resultOf {m n : Mod} {r : Option AluRes} {w : Word} (h : m.resultOf r = (w, n)) : Drew m n := by
  have hd := drew_resultOf m r
  rwa [h] at hd

/-! ### A thread replaced -/

theorem thread_setThread (m : Mod) (key k : Nat) (t : Thread) :
    (m.setThread key t).thread k = if k = key then some t else m.thread k := lookup_store _ _ _ _

/-- A thread put in the place of its key is that thread afterwards, and the others are as they were. -/
theorem threadIs_of_threads {s u : State} {key : Nat} {t : Thread} (h : u.m.eng.threads = store s.m.eng.threads key t) :
    s.ThreadIs u key t := by
  unfold State.ThreadIs
  rw [h]
  exact ⟨lookup_store_self _ _ _, fun _ hk => lookup_store_ne _ _ hk⟩

theorem threadIs_setThread {s u : State} {n : Mod} {key : Nat} {t : Thread} (hu : u.m = n.setThread key t)
    (h : n.eng.threads = s.m.eng.threads) : s.ThreadIs u key t :=
  threadIs_of_threads (by rw [hu, ← h]; rfl)

/-! ### A part -/

section
variable {s : State} {c : Instr} {r : ThreadRef} {f : Mod → Thread → Mod} (hexec : exec c s = s.act fun m => m.issue c (f m)) (hs : s.Running)
  (hc : PartAt c r)
include hexec hs hc

theorem part_issued {t : Thread} (h : s.m.issuing c = some t) : Does c s (f s.m t) := does_act hexec hs (issue_issuing hc h _)

/-- A part that its thread does not issue: a job fault where the microword holds a reserved encoding, and otherwise nothing. -/
theorem part_not_issued : (s.m.issuing c = none → s.m.badWord c = none → Does c s s.m) ∧
    ((s.m.badWord c).isSome = true → Does c s (s.m.jobFault (threadKey r) 4)) :=
  ⟨fun h hb => does_act hexec hs (issue_none h hb _), fun hb => does_act hexec hs (issue_bad hc hb _)⟩

end

end Sys2Proof.Machine
end

section
/-! SUPPORT. The ALU rows (R256, R257): the operands they take, and the result that the microword's completion will write. -/

namespace Sys2Proof.Machine

/-! ### The row -/

/-- The C and the V that an ALU takes in are those of its own flags. -/
def ownFlags (u : AluUnit) (t : Thread) : BitVec 4 := if u = .a then t.flagsA else t.flagsB

/-- What an ALU part of thread t reads, with the sources a and b. -/
def Mod.aluIn (m : Mod) (x : AluArgs) (t : Thread) (a b : Word) : AluIn :=
  { a := a, b := b, carry := (ownFlags x.unit t).getLsbD 2, cond := condHolds (m.flagsBefore t) x.cnd.val }

/-- The result of an ALU part, with the free bits of a word where its flags are open. -/
def aluNoted (x : AluArgs) (o : AluOut) (free : Word) : AluRes :=
  { value := o.value, write := o.write, dest := x.dest.val, flags := aluFlags o free }

/-- The thread with an ALU's result noted. -/
def Thread.noted (t : Thread) (u : AluUnit) (r : Option AluRes) : Thread := { t with mw := t.mw.result u r }

section
variable {m : Mod} {c : Instr} {x : AluArgs} {op : AluIn → AluOut} {t : Thread}

/-- An ALU part that computes notes its result, and draws a free value where its flags are open. -/
theorem alu_issuing (hc : PartAt c x.t) (h : m.issuing c = some t) {wa wb : Word} {m1 m2 : Mod}
    (ha : m.source (threadKey x.t) t x.imm x.srcA.val = (wa, m1)) (hb : m1.source (threadKey x.t) t x.imm x.srcB.val = (wb, m2)) :
    ∃ n free, Drew m n ∧ m.alu c x op = n.setThread (threadKey x.t) (t.noted x.unit (some (aluNoted x (op (m.aluIn x t wa wb)) free))) := by
  unfold Mod.alu
  extract_lets key
  rw [issue_issuing hc h]
  extract_lets a b own o f
  have hA : a = (wa, m1) := ha
  have hB : b = (wb, m2) := by rw [← hb, ← show a.2 = m1 from congrArg Prod.snd hA]
  have hown : own = ownFlags x.unit t := by
    unfold own ownFlags
    cases x.unit <;> rfl
  have ho : o = op (m.aluIn x t wa wb) := by
    unfold o Mod.aluIn
    rw [hA, hB, hown]
  have hf : Drew m2 f.2 := by
    unfold f
    rw [hB]
    split
    · exact .refl m2
    · exact drew_fresh m2
  refine ⟨f.2, f.1, ((drew_of_source ha).trans (drew_of_source hb)).trans hf, ?_⟩
  rw [← ho]
  rfl

/-- No source that a failing word could be: the row computes. -/
theorem aluRow_of_good (h : x.bad = false ∨ ((x.srcA.val < 32 ∨ 48 ≤ x.srcA.val) ∧ (x.srcB.val < 32 ∨ 48 ≤ x.srcB.val))) :
    m.aluRow c x op = m.alu c x op := by
  unfold Mod.aluRow
  refine if_neg ?_
  obtain hbad | ⟨ha, hb⟩ := h
  · simp [hbad]
  · simp
    omega

/-- A row that no thread issues is not one of a failing header word. -/
theorem aluRow_idle (h : m.issuing c = none) : m.aluRow c x op = m.alu c x op := by
  unfold Mod.aluRow
  rw [h]
  exact if_neg (by simp)

/-- A source that is a header word which fails its check restarts the job (R440). -/
theorem aluRow_restarts (h : (m.issuing c).isSome = true) (hbad : x.bad = true)
    (hn : (32 ≤ x.srcA.val ∧ x.srcA.val < 48) ∨ (32 ≤ x.srcB.val ∧ x.srcB.val < 48)) :
    m.aluRow c x op = m.engineRestarts x.t.cluster.val x.t.engine.val (· == threadKey x.t) := by
  unfold Mod.aluRow
  refine if_pos ?_
  simp only [hbad, h, Bool.true_and, Bool.and_true, Bool.or_eq_true, Bool.and_eq_true, decide_eq_true_eq]
  exact hn

end

section
variable {s : State} {c : Instr} {x : AluArgs} {op : AluIn → AluOut} (hexec : exec c s = s.act (·.aluRow c x op)) (hs : s.Running)
  (hc : PartAt c x.t)
include hexec hs hc

/-- An ALU row that its thread issues, without a failing header word: the result is noted, and nothing else changes. -/
theorem aluRow_notes {t : Thread} {wa wb : Word} {m1 m2 : Mod} (h : s.m.issuing c = some t)
    (hgood : x.bad = false ∨ ((x.srcA.val < 32 ∨ 48 ≤ x.srcA.val) ∧ (x.srcB.val < 32 ∨ 48 ≤ x.srcB.val)))
    (ha : s.m.source (threadKey x.t) t x.imm x.srcA.val = (wa, m1)) (hb : m1.source (threadKey x.t) t x.imm x.srcB.val = (wb, m2)) :
    Yields c s fun u => ∃ free, s.ThreadIs u (threadKey x.t) (t.noted x.unit (some (aluNoted x (op (s.m.aluIn x t wa wb)) free))) ∧
      u.locks = s.locks ∧ u.m = { s.m with eng := { s.m.eng with threads := u.m.eng.threads }, free := u.m.free } := by
  obtain ⟨n, free, hn, hrow⟩ := alu_issuing (op := op) hc h ha hb
  refine yields_of_does (does_act hexec hs ((aluRow_of_good hgood).trans hrow)) ⟨free, threadIs_setThread rfl ?_, rfl, ?_⟩
  · rw [hn.eng]
  · show n.setThread _ _ = _
    rw [hn]
    rfl

/-- An ALU row that its thread does not issue. -/
theorem aluRow_not_issued : (s.m.issuing c = none → s.m.badWord c = none → Does c s s.m) ∧
    ((s.m.badWord c).isSome = true → Does c s (s.m.jobFault (threadKey x.t) 4)) :=
  ⟨fun h hb => does_act hexec hs ((aluRow_idle h).trans (issue_none h hb _)),
    fun hb => does_act hexec hs ((aluRow_idle (issuing_of_badWord hc hb)).trans (issue_bad hc hb _))⟩

end

/-! ### Flags -/

section
variable (o : AluOut) (free : Word)

theorem aluFlags_getLsbD : (aluFlags o free).getLsbD 0 = decide (o.value = 0) ∧ (aluFlags o free).getLsbD 1 = o.value.msb ∧
    (aluFlags o free).getLsbD 2 = o.c.getD (free.getLsbD 0) ∧ (aluFlags o free).getLsbD 3 = o.v.getD (free.getLsbD 1) := by
  unfold aluFlags
  generalize decide (o.value = 0) = z, o.value.msb = n, o.c.getD (free.getLsbD 0) = c, o.v.getD (free.getLsbD 1) = v
  revert z n c v
  decide

end

end Sys2Proof.Machine
end

section
/-! SUPPORT. The ALU operations (R256) as numbers: what each computes of the values of its sources. -/

namespace Sys2Proof.Machine

/-! ### Values -/

theorem ofNat_toNat_of_lt {v : Nat} (h : v < 2 ^ 64) : (BitVec.ofNat 64 v).toNat = v :=
  (BitVec.toNat_ofNat v 64).trans (Nat.mod_eq_of_lt h)

section
variable (x : AluIn)

theorem opAdd_toNat : (opAdd x).value.toNat = (x.a.toNat + x.b.toNat) % 2 ^ 64 := by
  simp [opAdd, aluSum]

theorem opAddc_toNat : (opAddc x).value.toNat = (x.a.toNat + x.b.toNat + x.carry.toNat) % 2 ^ 64 := by
  simp [opAddc, aluSum, BitVec.toNat_add]

theorem opSub_toNat : (opSub x).value.toNat = (x.a.toNat + 2 ^ 64 - x.b.toNat) % 2 ^ 64 := by
  have := x.b.isLt
  simp only [opSub, aluDiff, BitVec.toNat_sub]
  congr 1
  omega

theorem opAndn_toNat : (opAndn x).value.toNat = x.a.toNat &&& (2 ^ 64 - 1 - x.b.toNat) := by
  simp [opAndn, BitVec.toNat_not]

theorem opShl_toNat : (opShl x).value.toNat = x.a.toNat * 2 ^ (x.b.toNat % 64) % 2 ^ 64 := by
  simp [opShl, Nat.shiftLeft_eq]

theorem opShr_toNat : (opShr x).value.toNat = x.a.toNat / 2 ^ (x.b.toNat % 64) := by
  simp [opShr, Nat.shiftRight_eq_div_pow]

theorem opSar_toNat : (opSar x).value.toNat = (x.a.toInt / 2 ^ (x.b.toNat % 64) % 2 ^ 64).toNat := by
  have h : (opSar x).value = BitVec.ofInt 64 (x.a.toInt / 2 ^ (x.b.toNat % 64)) := by
    simp [opSar, BitVec.sshiftRight, Int.shiftRight_eq_div_pow]
  rw [h, BitVec.toNat_ofInt]
  rfl

/-- A rotation right by k moves the k lowest bits above the others. -/
theorem rotateRight_toNat (a : Word) {k : Nat} (h : k < 64) : (a.rotateRight k).toNat = (a.toNat / 2 ^ k + a.toNat * 2 ^ (64 - k)) % 2 ^ 64 := by
  have hpow : (2 : Nat) ^ 64 = 2 ^ k * 2 ^ (64 - k) := by rw [← pow_add, Nat.add_sub_cancel' h.le]
  have hlow : a.toNat / 2 ^ k < 2 ^ (64 - k) := Nat.div_lt_of_lt_mul (hpow ▸ a.isLt)
  have hmod : a.toNat * 2 ^ (64 - k) % 2 ^ 64 = a.toNat % 2 ^ k * 2 ^ (64 - k) := by rw [hpow, Nat.mul_mod_mul_right]
  have hor : a.toNat % 2 ^ k * 2 ^ (64 - k) ||| a.toNat / 2 ^ k = a.toNat % 2 ^ k * 2 ^ (64 - k) + a.toNat / 2 ^ k := by
    rw [← Nat.shiftLeft_eq, Nat.shiftLeft_add_eq_or_of_lt hlow]
  have hlt : a.toNat / 2 ^ k + a.toNat % 2 ^ k * 2 ^ (64 - k) < 2 ^ 64 := by
    have hk : a.toNat % 2 ^ k + 1 ≤ 2 ^ k := Nat.mod_lt _ (by positivity)
    calc _ < 2 ^ (64 - k) + a.toNat % 2 ^ k * 2 ^ (64 - k) := by omega
      _ = (a.toNat % 2 ^ k + 1) * 2 ^ (64 - k) := by ring
      _ ≤ 2 ^ k * 2 ^ (64 - k) := Nat.mul_le_mul_right _ hk
      _ = 2 ^ 64 := hpow.symm
  rw [BitVec.toNat_rotateRight, Nat.mod_eq_of_lt h, Nat.shiftRight_eq_div_pow, Nat.shiftLeft_eq, hmod, Nat.lor_comm, hor, Nat.add_mod, hmod,
    Nat.mod_eq_of_lt (hlow.trans_le (Nat.pow_le_pow_right (by decide) (Nat.sub_le _ _))), Nat.mod_eq_of_lt hlt, Nat.add_comm]

theorem opRor_toNat : (opRor x).value.toNat =
    (x.a.toNat / 2 ^ (x.b.toNat % 64) + x.a.toNat * 2 ^ (64 - x.b.toNat % 64)) % 2 ^ 64 :=
  rotateRight_toNat x.a (Nat.mod_lt _ (by decide))

theorem opExt_toNat : (opExt x).value.toNat =
    x.a.toNat / 2 ^ (x.b.toNat % 64) % 2 ^ (if x.b.toNat / 256 % 64 = 0 then 64 else x.b.toNat / 256 % 64) :=
  ofNat_toNat_of_lt (((Nat.mod_le _ _).trans (Nat.div_le_self _ _)).trans_lt x.a.isLt)

theorem opMin_toNat : (opMin x).value.toNat = min x.a.toNat x.b.toNat := by
  unfold opMin
  simp only
  split <;> omega

theorem opMax_toNat : (opMax x).value.toNat = max x.a.toNat x.b.toNat := by
  unfold opMax
  simp only
  split <;> omega

theorem opBswap_toNat : (opBswap x).value.toNat =
    (List.range 8).foldl (fun v i => v + x.a.toNat / 2 ^ (8 * i) % 256 * 2 ^ (8 * (7 - i))) 0 := by
  simp only [opBswap, bswap, toBytes, List.reverse_cons, List.reverse_nil, List.nil_append, List.cons_append, beNat, List.foldl_cons,
    List.foldl_nil, List.range_succ, List.range_zero, BitVec.toNat_ofNat]
  norm_num only
  omega

theorem foldl_count (p : Nat → Bool) (l : List Nat) (n : Nat) : l.foldl (fun n i => n + (p i).toNat) n = n + (l.filter p).length := by
  induction l generalizing n with
  | nil => rfl
  | cons i l ih =>
    rw [List.foldl_cons, ih]
    cases h : p i
    · simp [h]
    · simp [h]
      omega

theorem opPopcnt_toNat : (opPopcnt x).value.toNat = ((List.range 64).filter x.a.toNat.testBit).length := by
  have hcount : onesCount x.a = ((List.range 64).filter x.a.toNat.testBit).length := (foldl_count x.a.getLsbD _ 0).trans (Nat.zero_add _)
  have hle := List.length_filter_le x.a.toNat.testBit (List.range 64)
  rw [List.length_range] at hle
  exact (congrArg (fun n => (BitVec.ofNat 64 n).toNat) hcount).trans (ofNat_toNat_of_lt (by omega))

/-- The zeros above the highest one of the w lowest bits. -/
theorem leadingZeros_eq (a : Word) (w : Nat) :
    leadingZeros a w = if a.toNat % 2 ^ w = 0 then w else w - 1 - Nat.log2 (a.toNat % 2 ^ w) := by
  induction w with
  | zero => simp [leadingZeros, Nat.mod_one]
  | succ w ih =>
    have hlow : a.toNat % 2 ^ w < 2 ^ w := Nat.mod_lt _ (by positivity)
    unfold leadingZeros
    rw [ih, Nat.mod_pow_succ, ← Nat.toNat_testBit, ← BitVec.testBit_toNat]
    cases a.toNat.testBit w
    · by_cases h0 : a.toNat % 2 ^ w = 0
      · simp [h0]
        omega
      · have hlog : Nat.log2 (a.toNat % 2 ^ w) < w := (Nat.log2_lt h0).2 hlow
        simp [h0]
        omega
    · have hlog : Nat.log2 (a.toNat % 2 ^ w + 2 ^ w) = w :=
        (Nat.log2_eq_iff (by positivity)).2 ⟨Nat.le_add_left _ _, by rw [pow_succ]; omega⟩
      simp [hlog]

theorem opClz_toNat : (opClz x).value.toNat = if x.a.toNat = 0 then 64 else 63 - Nat.log2 x.a.toNat := by
  have hz : leadingZeros x.a 64 = if x.a.toNat = 0 then 64 else 63 - Nat.log2 x.a.toNat := by
    rw [leadingZeros_eq, Nat.mod_eq_of_lt x.a.isLt]
  refine (congrArg (fun n => (BitVec.ofNat 64 n).toNat) hz).trans (ofNat_toNat_of_lt ?_)
  split <;> omega

theorem opMul_toNat : (opMul x).value.toNat = x.a.toNat % 2 ^ 32 * (x.b.toNat % 2 ^ 32) := by
  refine ofNat_toNat_of_lt ?_
  have ha : x.a.toNat % 2 ^ 32 < 2 ^ 32 := Nat.mod_lt _ (by decide)
  have hb : x.b.toNat % 2 ^ 32 < 2 ^ 32 := Nat.mod_lt _ (by decide)
  calc _ < 2 ^ 32 * 2 ^ 32 := Nat.mul_lt_mul'' ha hb
    _ = 2 ^ 64 := by decide

/-- A sum of a few parts of 16 bits, folded, is the ones'-complement one. -/
theorem fold16_eq {n : Nat} (h : n < 2 ^ 22) : fold16 n = if n = 0 then 0 else (n - 1) % 65535 + 1 := by
  unfold fold16
  simp only
  split <;> omega

theorem opCsum_toNat {S : Nat} (h : S = x.a.toNat % 65536 + x.a.toNat / 2 ^ 16 % 65536 + x.a.toNat / 2 ^ 32 % 65536 + x.a.toNat / 2 ^ 48 +
    x.b.toNat % 65536) : (opCsum x).value.toNat = if S = 0 then 0 else (S - 1) % 65535 + 1 := by
  have ha := x.a.isLt
  have hS : S < 2 ^ 22 := by omega
  unfold opCsum
  simp only [← h, fold16_eq hS]
  refine ofNat_toNat_of_lt ?_
  split <;> omega

theorem opSel_toNat : (opSel x).value.toNat = if x.cond then x.a.toNat else x.b.toNat := by
  unfold opSel
  simp only
  split <;> rfl

end

/-! ### Overflow -/

/-- A sum overflows where its sources have one sign and the sum the other. -/
theorem sum_overflows (a b : Word) (c : Bool) : (a.msb == b.msb && (a + b + BitVec.ofNat 64 c.toNat).msb != a.msb) =
    decide (a.toInt + b.toInt + c.toNat ≠ (a + b + BitVec.ofNat 64 c.toNat).toInt) := by
  have hr : (a + b + BitVec.ofNat 64 c.toNat).toNat = (a.toNat + b.toNat + c.toNat) % 2 ^ 64 := by simp [BitVec.toNat_add]
  generalize a + b + BitVec.ofNat 64 c.toNat = r at hr ⊢
  have ha := a.isLt
  have hb := b.isLt
  have hc : c.toNat ≤ 1 := Bool.toNat_le c
  rw [Bool.eq_iff_iff]
  simp only [BitVec.msb_eq_decide, BitVec.toInt_eq_toNat_cond, Bool.and_eq_true, beq_iff_eq, bne_iff_ne, ne_eq, decide_eq_true_eq,
    decide_eq_decide]
  omega

/-- A difference overflows where its sources have different signs, and it the sign of the second. -/
theorem diff_overflows (a b : Word) : (a.msb != b.msb && (a - b).msb != a.msb) = decide (a.toInt - b.toInt ≠ (a - b).toInt) := by
  have hr : (a - b).toNat = (2 ^ 64 - b.toNat + a.toNat) % 2 ^ 64 := BitVec.toNat_sub a b
  generalize a - b = r at hr ⊢
  have ha := a.isLt
  have hb := b.isLt
  rw [Bool.eq_iff_iff]
  simp only [BitVec.msb_eq_decide, BitVec.toInt_eq_toNat_cond, Bool.and_eq_true, bne_iff_ne, ne_eq, decide_eq_true_eq, decide_eq_decide]
  omega

end Sys2Proof.Machine
end

section
/-! SUPPORT. The ALU rows (R251 to R258, R262, R440): the obligations about their results, their flags and their reserved forms. -/

namespace Sys2Proof.Machine

theorem getLsbD_two (v : BitVec 4) : v.toNat / 4 % 2 = (v.getLsbD 2).toNat := (Nat.toNat_testBit v.toNat 2).symm

/-- From s to u thread t of an ALU part notes for its completion a result of value v for DEST, and nothing changes but that and free values. -/
def State.Notes (s u : State) (x : AluArgs) (t : Thread) (v : Nat) : Prop :=
  ∃ r : AluRes, r.value.toNat = v ∧ r.write = true ∧ r.dest = x.dest.val ∧ r.flags.getLsbD 0 = decide (v = 0) ∧
    r.flags.getLsbD 1 = v.testBit 63 ∧ s.ThreadIs u (threadKey x.t) { t with mw := t.mw.result x.unit (some r) } ∧ u.locks = s.locks ∧
    u.m = { s.m with eng := { s.m.eng with threads := u.m.eng.threads }, free := u.m.free }

/-- From s to u thread t of an ALU part notes flags, C and V where they are given, and whether it writes a register. -/
def State.NotesFlags (s u : State) (x : AluArgs) (t : Thread) (write z : Bool) (c v : Option Bool) : Prop :=
  ∃ r : AluRes, r.write = write ∧ r.flags.getLsbD 0 = z ∧ (∀ f, c = some f → r.flags.getLsbD 2 = f) ∧
    (∀ f, v = some f → r.flags.getLsbD 3 = f) ∧ s.ThreadIs u (threadKey x.t) { t with mw := t.mw.result x.unit (some r) } ∧
    u.m = { s.m with eng := { s.m.eng with threads := u.m.eng.threads }, free := u.m.free }

section
variable {s : State} {x : AluArgs} {t : Thread} {wa wb : Word} {m1 m2 : Mod} (hs : s.Running)
  (hgood : x.bad = false ∨ ((x.srcA.val < 32 ∨ 48 ≤ x.srcA.val) ∧ (x.srcB.val < 32 ∨ 48 ≤ x.srcB.val)))
  (ha : s.m.source (threadKey x.t) t x.imm x.srcA.val = (wa, m1)) (hb : m1.source (threadKey x.t) t x.imm x.srcB.val = (wb, m2))
include hs hgood ha hb

theorem yields_notes {c : Instr} {op : AluIn → AluOut} {v : Nat} (hexec : exec c s = s.act (·.aluRow c x op)) (hc : PartAt c x.t)
    (hv : (op (s.m.aluIn x t wa wb)).value.toNat = v) (hw : (op (s.m.aluIn x t wa wb)).write = true) (h : s.m.issuing c = some t) :
    Yields c s fun u => s.Notes u x t v := by
  obtain ⟨u, hu, free, hthread, hlocks, hm⟩ := aluRow_notes hexec hs hc h hgood ha hb
  obtain ⟨hz, hn, -, -⟩ := aluFlags_getLsbD (op (s.m.aluIn x t wa wb)) free
  refine ⟨u, hu, _, hv, hw, rfl, hz.trans ?_, hn.trans ?_, hthread, hlocks, hm⟩
  · rw [← hv]
    exact decide_eq_decide.2 BitVec.toNat_eq
  · rw [← hv, BitVec.msb_eq_getLsbD_last, BitVec.testBit_toNat]

theorem yields_notesFlags {c : Instr} {op : AluIn → AluOut} {write z : Bool} {cf vf : Option Bool}
    (hexec : exec c s = s.act (·.aluRow c x op)) (hc : PartAt c x.t) (hw : (op (s.m.aluIn x t wa wb)).write = write)
    (hz : decide ((op (s.m.aluIn x t wa wb)).value = 0) = z) (hcf : ∀ f, cf = some f → (op (s.m.aluIn x t wa wb)).c = some f)
    (hvf : ∀ f, vf = some f → (op (s.m.aluIn x t wa wb)).v = some f) (h : s.m.issuing c = some t) :
    Yields c s fun u => s.NotesFlags u x t write z cf vf := by
  obtain ⟨u, hu, free, hthread, -, hm⟩ := aluRow_notes hexec hs hc h hgood ha hb
  obtain ⟨hz', -, hc', hv'⟩ := aluFlags_getLsbD (op (s.m.aluIn x t wa wb)) free
  refine ⟨u, hu, aluNoted x (op (s.m.aluIn x t wa wb)) free, hw, hz'.trans hz, fun f hf => hc'.trans ?_, fun f hf => hv'.trans ?_, hthread, hm⟩
  · rw [hcf f hf, Option.getD_some]
  · rw [hvf f hf, Option.getD_some]

end

/-- Settles O42: each row notes what its operation gives of its sources, which is the stated number. -/
theorem aluResults : Obligations.AluResults := by
  intro s x t a b k n S own flags wa wb m1 m2 hs hgood ha hb haN hbN hk hn hS hown hflags
  subst haN hbN hk hn hown hflags
  have row {c : AluArgs → Instr} {op : AluIn → AluOut} {v : Nat} (hexec : exec (c x) s = s.act (·.aluRow (c x) x op))
      (hc : PartAt (c x) x.t) (hv : (op (s.m.aluIn x t wa wb)).value.toNat = v) (hw : (op (s.m.aluIn x t wa wb)).write = true) :=
    yields_notes hs hgood ha hb hexec hc hv hw
  have hcarry := opAddc_toNat (s.m.aluIn x t wa wb)
  rw [show (s.m.aluIn x t wa wb).carry.toNat = (ownFlags x.unit t).toNat / 4 % 2 from (getLsbD_two _).symm] at hcarry
  simp only [List.forall_mem_cons]
  refine ⟨row (exec_aluPass x s) ⟨_, rfl, rfl⟩ rfl rfl,
    row (exec_aluAdd x s) ⟨_, rfl, rfl⟩ (opAdd_toNat _) rfl,
    row (exec_aluSub x s) ⟨_, rfl, rfl⟩ (opSub_toNat _) rfl,
    row (exec_aluAnd x s) ⟨_, rfl, rfl⟩ (BitVec.toNat_and wa wb) rfl,
    row (exec_aluOr x s) ⟨_, rfl, rfl⟩ (BitVec.toNat_or wa wb) rfl,
    row (exec_aluXor x s) ⟨_, rfl, rfl⟩ (BitVec.toNat_xor wa wb) rfl,
    row (exec_aluAndn x s) ⟨_, rfl, rfl⟩ (opAndn_toNat _) rfl,
    row (exec_aluShl x s) ⟨_, rfl, rfl⟩ (opShl_toNat _) rfl,
    row (exec_aluShr x s) ⟨_, rfl, rfl⟩ (opShr_toNat _) rfl,
    row (exec_aluSar x s) ⟨_, rfl, rfl⟩ (opSar_toNat _) rfl,
    row (exec_aluRor x s) ⟨_, rfl, rfl⟩ (opRor_toNat _) rfl,
    row (exec_aluExt x s) ⟨_, rfl, rfl⟩ (opExt_toNat _) rfl,
    row (exec_aluMin x s) ⟨_, rfl, rfl⟩ (opMin_toNat _) rfl,
    row (exec_aluMax x s) ⟨_, rfl, rfl⟩ (opMax_toNat _) rfl,
    row (exec_aluAddc x s) ⟨_, rfl, rfl⟩ hcarry rfl,
    row (exec_aluBswap x s) ⟨_, rfl, rfl⟩ (opBswap_toNat _) rfl,
    row (exec_aluPopcnt x s) ⟨_, rfl, rfl⟩ (opPopcnt_toNat _) rfl,
    row (exec_aluClz x s) ⟨_, rfl, rfl⟩ (opClz_toNat _) rfl,
    row (exec_aluMul x s) ⟨_, rfl, rfl⟩ (opMul_toNat _) rfl,
    row (exec_aluCsum x s) ⟨_, rfl, rfl⟩ (opCsum_toNat (s.m.aluIn x t wa wb) hS) rfl,
    row (exec_aluCrc32 x s) ⟨_, rfl, rfl⟩ (BitVec.toNat_ofNat _ 64) rfl,
    row (exec_aluSel x s) ⟨_, rfl, rfl⟩ (opSel_toNat _) rfl,
    List.forall_mem_nil _⟩

/-- The difference is zero where the sources are equal. -/
theorem opSub_zero (i : AluIn) : decide ((opSub i).value = 0) = decide (i.a = i.b) :=
  decide_eq_decide.2 (sub_eq_zero (a := i.a) (b := i.b))

/-- C and V of a sum: the carry out of bit 63, and the signed overflow. -/
theorem aluSum_flags (a b : Word) (c : Bool) :
    decide ((aluSum a b c).value = 0) = decide ((a.toNat + b.toNat + c.toNat) % 2 ^ 64 = 0) ∧
    (aluSum a b c).c = some (decide (2 ^ 64 ≤ a.toNat + b.toNat + c.toNat)) ∧
    (aluSum a b c).v = some (decide (a.toInt + b.toInt + c.toNat ≠ (a + b + BitVec.ofNat 64 c.toNat).toInt)) := by
  refine ⟨decide_eq_decide.2 (BitVec.toNat_eq.trans ?_), rfl, congrArg some (sum_overflows a b c)⟩
  simp [aluSum, BitVec.toNat_add]

theorem some_of_eq {α : Type} {a : α} {o : Option α} (h : o = some a) (f : α) (hf : some a = some f) : o = some f := h.trans hf

/-- Settles O43: CMP, TEST, ADD, ADDC and SUB note their flags, NOP notes no result, and the rows that no thread issues, or whose source is a
failing header word, do as R253, R262 and R440 say. -/
theorem aluFlagsAndReservedForms : Obligations.AluFlagsAndReservedForms := by
  refine ⟨fun s x t wa wb m1 m2 hs hbad ha hb c hc => ?_, fun s x t hs h => ?_, fun s x hs => ?_⟩
  · have row {i : AluArgs → Instr} {op : AluIn → AluOut} {write z : Bool} {cf vf : Option Bool}
        (hexec : exec (i x) s = s.act (·.aluRow (i x) x op)) (hp : PartAt (i x) x.t) (hw : (op (s.m.aluIn x t wa wb)).write = write)
        (hz : decide ((op (s.m.aluIn x t wa wb)).value = 0) = z) (hcf : ∀ f, cf = some f → (op (s.m.aluIn x t wa wb)).c = some f)
        (hvf : ∀ f, vf = some f → (op (s.m.aluIn x t wa wb)).v = some f) :=
      yields_notesFlags hs (.inl hbad) ha hb hexec hp hw hz hcf hvf
    have none_given (o : Option Bool) : ∀ f, none = some f → o = some f := fun _ hf => nomatch hf
    obtain ⟨hz, hcf, hvf⟩ := aluSum_flags wa wb false
    obtain ⟨hzc, hcfc, hvfc⟩ := aluSum_flags wa wb ((ownFlags x.unit t).getLsbD 2)
    have hdiff := congrArg some (diff_overflows wa wb)
    rw [show ((ownFlags x.unit t).getLsbD 2).toNat = c from hc.symm] at hzc hcfc hvfc
    simp only [Bool.toNat_false, Nat.add_zero, Nat.cast_zero, Int.add_zero, BitVec.ofNat_eq_ofNat, BitVec.add_zero] at hz hcf hvf
    simp only [List.forall_mem_cons]
    exact ⟨row (exec_aluCmp x s) ⟨_, rfl, rfl⟩ rfl (opSub_zero _) (none_given _) (some_of_eq hdiff),
      row (exec_aluTest x s) ⟨_, rfl, rfl⟩ rfl rfl (none_given _) (none_given _),
      row (exec_aluAdd x s) ⟨_, rfl, rfl⟩ rfl hz (some_of_eq hcf) (some_of_eq hvf),
      row (exec_aluAddc x s) ⟨_, rfl, rfl⟩ rfl hzc (some_of_eq hcfc) (some_of_eq hvfc),
      row (exec_aluSub x s) ⟨_, rfl, rfl⟩ rfl (opSub_zero _) (none_given _) (some_of_eq hdiff), List.forall_mem_nil _⟩
  · exact yields_of_does (part_issued (f := fun m t => m.setMicro (threadKey x.t) t (t.mw.result x.unit none)) (exec_aluNop x s) hs
      ⟨_, rfl, rfl⟩ h) ⟨threadIs_setThread rfl rfl, rfl⟩
  · have row {i : AluArgs → Instr} {op : AluIn → AluOut} (hexec : exec (i x) s = s.act (·.aluRow (i x) x op)) (hp : PartAt (i x) x.t) :
        (s.m.issuing (i x) = none → s.m.badWord (i x) = none → Does (i x) s s.m) ∧
        ((s.m.badWord (i x)).isSome = true → Does (i x) s (s.m.jobFault (threadKey x.t) 4)) ∧
        ((s.m.issuing (i x)).isSome = true → x.bad = true → i x ≠ .aluNop x →
          ((32 ≤ x.srcA.val ∧ x.srcA.val < 48) ∨ (32 ≤ x.srcB.val ∧ x.srcB.val < 48)) →
          Does (i x) s (s.m.engineRestarts x.t.cluster.val x.t.engine.val (· == threadKey x.t))) := by
      obtain ⟨hidle, hbad⟩ := aluRow_not_issued hexec hs hp
      exact ⟨hidle, hbad, fun h hb _ hn => does_act hexec hs (aluRow_restarts h hb hn)⟩
    obtain ⟨hidle, hbad⟩ := part_not_issued (f := fun m t => m.setMicro (threadKey x.t) t (t.mw.result x.unit none)) (exec_aluNop x s) hs
      (r := x.t) ⟨_, rfl, rfl⟩
    simp only [List.forall_mem_cons]
    exact ⟨⟨hidle, hbad, fun _ _ hne => absurd rfl hne⟩,
      row (exec_aluPass x s) ⟨_, rfl, rfl⟩, row (exec_aluAdd x s) ⟨_, rfl, rfl⟩, row (exec_aluSub x s) ⟨_, rfl, rfl⟩,
      row (exec_aluAnd x s) ⟨_, rfl, rfl⟩, row (exec_aluOr x s) ⟨_, rfl, rfl⟩, row (exec_aluXor x s) ⟨_, rfl, rfl⟩,
      row (exec_aluAndn x s) ⟨_, rfl, rfl⟩, row (exec_aluShl x s) ⟨_, rfl, rfl⟩, row (exec_aluShr x s) ⟨_, rfl, rfl⟩,
      row (exec_aluSar x s) ⟨_, rfl, rfl⟩, row (exec_aluRor x s) ⟨_, rfl, rfl⟩, row (exec_aluExt x s) ⟨_, rfl, rfl⟩,
      row (exec_aluMin x s) ⟨_, rfl, rfl⟩, row (exec_aluMax x s) ⟨_, rfl, rfl⟩, row (exec_aluCmp x s) ⟨_, rfl, rfl⟩,
      row (exec_aluTest x s) ⟨_, rfl, rfl⟩, row (exec_aluAddc x s) ⟨_, rfl, rfl⟩, row (exec_aluBswap x s) ⟨_, rfl, rfl⟩,
      row (exec_aluPopcnt x s) ⟨_, rfl, rfl⟩, row (exec_aluClz x s) ⟨_, rfl, rfl⟩, row (exec_aluMul x s) ⟨_, rfl, rfl⟩,
      row (exec_aluCsum x s) ⟨_, rfl, rfl⟩, row (exec_aluCrc32 x s) ⟨_, rfl, rfl⟩, row (exec_aluSel x s) ⟨_, rfl, rfl⟩, List.forall_mem_nil _⟩

end Sys2Proof.Machine
end

section
/-! SUPPORT. END (R259 to R261): its microword completes, its section is released, and its job ends as its fence is satisfied; and the parts
that only mark a microword. -/

namespace Sys2Proof.Machine

/-! ### A part that may set LOCK bits -/

section
variable {s : State} {c : Instr} {r : ThreadRef} {f : BitVec 5 → Mod → Thread → BitVec 5 × Mod}
  (hexec : exec c s = s.actLocks fun l m => m.issueLocks l c (f l m)) (hs : s.Running) (hc : PartAt c r)
include hexec hs hc

theorem locksPart_issued {t : Thread} (h : s.m.issuing c = some t) {l : BitVec 5} {n : Mod} (hf : f s.locks s.m t = (l, n)) :
    exec c s = .next { s with locks := l, m := n } := by
  have hissue : s.m.issueLocks s.locks c (f s.locks s.m) = (l, n) := by
    unfold Mod.issueLocks
    rw [badWord_of_issuing hc h, h]
    exact hf
  rw [hexec, actLocks_next s _ hs, hissue]

theorem locksPart_not_issued : (s.m.issuing c = none → s.m.badWord c = none → Does c s s.m) ∧
    ((s.m.badWord c).isSome = true → Does c s (s.m.jobFault (threadKey r) 4)) := by
  refine ⟨fun h hb => ?_, fun hb => ?_⟩
  · have hissue : s.m.issueLocks s.locks c (f s.locks s.m) = (s.locks, s.m) := by
      unfold Mod.issueLocks
      rw [hb, h]
    exact hexec.trans ((actLocks_next s _ hs).trans (by rw [hissue]))
  · obtain ⟨k, hk⟩ := Option.isSome_iff_exists.1 hb
    have hissue : s.m.issueLocks s.locks c (f s.locks s.m) = (s.locks, s.m.jobFault (threadKey r) 4) := by
      unfold Mod.issueLocks
      rw [hk, (badWord_issuer hc hk).1]
    exact hexec.trans ((actLocks_next s _ hs).trans (by rw [hissue]))

end

/-! ### A thread that ends -/

theorem thread_setThread_self (m : Mod) (key : Nat) (t : Thread) : (m.setThread key t).thread key = some t := lookup_store_self _ _ _


theorem thread_jobEnds (m : Mod) (key : Nat) : (m.jobEnds key).thread key = none := by
  unfold Mod.jobEnds
  split
  · assumption
  · rename_i t _
    have h := ((steady_orphan (m.freeThread key) (key / 768) t.job).trans (steady_bump _ (engCtr (key / 768) 1) 1)).trans
      (steady_epcThread _ key t 12 1)
    rw [thread_of_steady h, thread_freeThread, if_pos rfl]

/-- A thread whose END has issued ends its job as its fence is satisfied (R259, R260). -/
theorem settleThread_ending {m : Mod} {key k : Nat} {t : Thread} (h : m.thread key = some t) (he : t.ending = some k) :
    m.settleThread key = if m.fenceMet key k = true then m.jobEnds key else m := by
  unfold Mod.settleThread
  rw [h]
  simp only [he]

/-- From m to n the ending thread t of a key has stayed as it is, or, where done, has left. -/
def EndsAs (m : Mod) (key : Nat) (t : Thread) (done : Bool) (n : Mod) : Prop :=
  Settles m n ∧ n.thread key = if done then none else some t

section
variable {m : Mod} {key k : Nat} {t : Thread} (ht : m.thread key = some t) (he : t.ending = some k)

theorem endsAs_settleThread_ne {n : Mod} {done : Bool} {j : Nat} (hj : key ≠ j) (h : EndsAs m key t done n) :
    EndsAs m key t done (n.settleThread j) := by
  obtain ⟨hs, hu⟩ := h
  obtain ⟨hleaves, hother⟩ := settleThread_leaves n j
  exact ⟨hs.trans hleaves, (hother key hj).trans hu⟩

include ht he

theorem endsAs_settleThread {n : Mod} {done : Bool} (h : EndsAs m key t done n) :
    EndsAs m key t (done || m.fenceMet key k) (n.settleThread key) := by
  obtain ⟨hs, hu⟩ := h
  refine ⟨hs.trans (settleThread_leaves n key).1, ?_⟩
  cases done with
  | true => rw [settleThread_none hu]; exact hu
  | false =>
    rw [settleThread_ending hu he, fenceMet_congr hs.calm ht hu rfl k, Bool.false_or]
    cases m.fenceMet key k with
    | true => exact thread_jobEnds n key
    | false => exact hu

theorem endsAs_settleThreads (l : List Nat) {n : Mod} {done : Bool} (h : EndsAs m key t done n) :
    EndsAs m key t (done || decide (key ∈ l) && m.fenceMet key k) (l.foldl Mod.settleThread n) := by
  induction l generalizing n done with
  | nil => simpa using h
  | cons j l ih =>
    by_cases hj : key = j
    · subst hj
      have hrest := ih (endsAs_settleThread ht he h)
      rwa [Bool.or_assoc, show (m.fenceMet key k || decide (key ∈ l) && m.fenceMet key k) = m.fenceMet key k by
        cases m.fenceMet key k <;> simp, show m.fenceMet key k = (decide (key ∈ key :: l) && m.fenceMet key k) by simp] at hrest
    · have hrest := ih (endsAs_settleThread_ne hj h)
      rwa [show decide (key ∈ l) = decide (key ∈ j :: l) by simp [hj]] at hrest

/-- A thread whose END has issued has left once its fence is satisfied, and otherwise stays as it is. -/
theorem endsAs_settleEnds : EndsAs m key t (m.fenceMet key k) m.settleEnds := by
  have h := endsAs_settleThreads ht he (m.eng.threads.map (·.1)) (n := m) (done := false) ⟨.refl m, ht⟩
  rwa [decide_eq_true (mem_keys_of_lookup ht), Bool.true_and, Bool.false_or] at h

end

/-! ### END -/

/-- The thread of a microword with END, completed: its section is closed, and it leaves as the fence fen is satisfied. -/
def Thread.ends (u : Thread) (fen : Nat) : Thread := { u with held := [], inCommit := false, ending := some fen }


section
variable {s : State} {x : SeqArgs} {t : Thread} (hs : s.Running) (h : s.m.issuing (.seqEnd x) = some t)
include hs h

theorem end_waits (hroom : s.m.releasable t = false) : Does (.seqEnd x) s s.m :=
  locksPart_issued (exec_seqEnd x s) hs ⟨_, rfl, rfl⟩ h (if_pos hroom)

/-- END with room for its section: the microword completes, what the section holds takes effect in its order, and fences settle. -/
theorem end_releases (hroom : s.m.releasable t = true) {t2 : Thread} {m2 : Mod} {d : BitVec 5 × Mod}
    (h2 : s.m.completed (threadKey x.t) t = (t2, m2))
    (hd : d = t.held.foldl (fun z o => Mod.release z (threadKey x.t) t.job.hedge o)
      (s.locks, m2.setThread (threadKey x.t) (t2.ends x.fen.val))) :
    exec (.seqEnd x) s = .next { s with locks := d.1, m := d.2.settleEnds } := by
  refine locksPart_issued (exec_seqEnd x s) hs ⟨_, rfl, rfl⟩ h ((if_neg (by simp [hroom])).trans ?_)
  simp only [h2, hd, Thread.ends]

/-- END with nothing held: the thread, completed and marked with its fence, leaves at once where that is satisfied. -/
theorem end_settles (hheld : t.held = []) : Yields (.seqEnd x) s fun u => ∃ t2 : Thread, t2.ending = some x.fen.val ∧ t2.job = t.job ∧
    t2.w = ((t.put t.mw.resA).put t.mw.resB).w ∧ EndsAs s.m (threadKey x.t) t2 (s.m.fenceMet (threadKey x.t) x.fen.val) u.m ∧
    u.locks = s.locks := by
  obtain ⟨-, v, hv, hw⟩ := issuing_thread (c := .seqEnd x) ⟨_, rfl, rfl⟩ h
  obtain ⟨ht, hm⟩ := completed_completes s.m (threadKey x.t) t
  obtain ⟨u, n, h2⟩ : ∃ u n, s.m.completed (threadKey x.t) t = (u, n) := ⟨_, _, rfl⟩
  rw [h2] at ht hm
  have hroom : s.m.releasable t = true := by simp [Mod.releasable, hheld]
  have hexec := end_releases hs h hroom h2 (by rw [hheld, List.foldl_nil])
  have hto : Settles s.m (n.setThread (threadKey x.t) (u.ends x.fen.val)) :=
    hm.settles.trans ⟨rfl, rfl, le_rfl⟩
  have hnothing : v.withholds = false := hw ▸ by simp [Thread.withholds, hheld]
  obtain ⟨hsettles, hlast⟩ := endsAs_settleEnds (thread_setThread_self n (threadKey x.t) (u.ends x.fen.val)) rfl
  rw [fenceMet_congr hto.calm hv (thread_setThread_self _ _ _) hnothing.symm x.fen.val] at hlast
  exact ⟨_, hexec, u.ends x.fen.val, rfl, ht.job, ht.w, ⟨hto.trans hsettles, hlast⟩, rfl⟩

theorem end_leaves (hheld : t.held = []) (hmet : s.m.fenceMet (threadKey x.t) x.fen.val = true) : Yields (.seqEnd x) s fun u =>
    lookup u.m.eng.threads (threadKey x.t) = none ∧ u.locks = s.locks ∧ u.m.cls = s.m.cls ∧ u.m.fwd = s.m.fwd ∧ u.m.time = s.m.time := by
  obtain ⟨u, hexec, t2, -, -, -, ⟨hsettles, hlast⟩, hlocks⟩ := end_settles hs h hheld
  obtain ⟨-, ⟨-, -, hcls, hfwd, -⟩, -⟩ := keeps_calm_iff.1 hsettles.calm
  exact ⟨u, hexec, hlast.trans (if_pos hmet), hlocks, hcls, hfwd, hsettles.time⟩

theorem end_stays (hheld : t.held = []) (hmet : s.m.fenceMet (threadKey x.t) x.fen.val = false) : Yields (.seqEnd x) s fun u =>
    ∃ t2, lookup u.m.eng.threads (threadKey x.t) = some t2 ∧ t2.ending = some x.fen.val ∧ t2.job = t.job ∧
      t2.w = ((t.put t.mw.resA).put t.mw.resB).w := by
  obtain ⟨u, hexec, t2, hend, hjob, hw, ⟨-, hlast⟩, -⟩ := end_settles hs h hheld
  exact ⟨u, hexec, t2, hlast.trans (if_neg (by simp [hmet])), hend, hjob, hw⟩

end

/-! ### Marks -/

section
variable {s : State} {c : Instr} {r : ThreadRef} {g : Thread → Thread}

/-- A part that only changes its thread. -/
theorem mark_shows (hexec : exec c s = s.act fun m => m.issue c fun t => m.setThread (threadKey r) (g t)) (hs : s.Running) (hc : PartAt c r)
    {t : Thread} (h : s.m.issuing c = some t) : Yields c s fun u => s.ThreadIs u (threadKey r) (g t) ∧ u.locks = s.locks ∧
      u.m = { s.m with eng := { s.m.eng with threads := u.m.eng.threads } } :=
  yields_of_does (part_issued (f := fun m t => m.setThread (threadKey r) (g t)) hexec hs hc h) ⟨threadIs_setThread rfl rfl, rfl, rfl⟩

theorem mark_not_issued (hexec : exec c s = s.act fun m => m.issue c fun t => m.setThread (threadKey r) (g t)) (hs : s.Running)
    (hc : PartAt c r) : (s.m.issuing c = none → s.m.badWord c = none → Does c s s.m) ∧
      ((s.m.badWord c).isSome = true → Does c s (s.m.jobFault (threadKey r) 4)) :=
  part_not_issued (f := fun m t => m.setThread (threadKey r) (g t)) hexec hs hc

end

/-- Settles O45: END completes, releases and settles as above, and each mark changes its thread alone. That END waits for room in the write
queue is log 24's choice, and that a part which its thread does not issue is without effect log 7's. -/
theorem jobsEndAndMarkersAreNoted : Obligations.JobsEndAndMarkersAreNoted := by
  refine ⟨fun s x t key fen hs hkey h hfen => ?_, fun s x hs => locksPart_not_issued (exec_seqEnd x s) hs ⟨_, rfl, rfl⟩,
    fun s r t hs => ?_, fun s r hs => ?_⟩
  · subst hkey hfen
    refine ⟨end_waits hs h, fun hroom t2 m2 d h2 hd => ⟨end_releases hs h hroom h2 hd, ?_⟩, end_leaves hs h, end_stays hs h⟩
    have hw := (completed_completes s.m (threadKey x.t) t).1.w
    rwa [h2] at hw
  · have mark {c : Instr} {g : Thread → Thread} (hexec : exec c s = s.act fun m => m.issue c fun t => m.setThread (threadKey r) (g t))
        (hc : PartAt c r) := fun h => mark_shows hexec hs hc (t := t) h
    simp only [List.forall_mem_cons]
    exact ⟨mark (exec_memoryFence r s) ⟨_, rfl, rfl⟩, mark (exec_queueFence r s) ⟨_, rfl, rfl⟩, mark (exec_globalFence r s) ⟨_, rfl, rfl⟩,
      mark (exec_wait r s) ⟨_, rfl, rfl⟩, mark (exec_beginCommit r s) ⟨_, rfl, rfl⟩, mark (exec_start0 r s) ⟨_, rfl, rfl⟩,
      mark (exec_stop0 r s) ⟨_, rfl, rfl⟩, mark (exec_start1 r s) ⟨_, rfl, rfl⟩, mark (exec_stop1 r s) ⟨_, rfl, rfl⟩,
      mark (exec_count r s) ⟨_, rfl, rfl⟩, List.forall_mem_nil _⟩
  · have idle {c : Instr} {g : Thread → Thread} (hexec : exec c s = s.act fun m => m.issue c fun t => m.setThread (threadKey r) (g t))
        (hc : PartAt c r) := mark_not_issued hexec hs hc
    simp only [List.forall_mem_cons]
    exact ⟨idle (exec_memoryFence r s) ⟨_, rfl, rfl⟩, idle (exec_queueFence r s) ⟨_, rfl, rfl⟩, idle (exec_globalFence r s) ⟨_, rfl, rfl⟩,
      idle (exec_wait r s) ⟨_, rfl, rfl⟩, idle (exec_beginCommit r s) ⟨_, rfl, rfl⟩, idle (exec_start0 r s) ⟨_, rfl, rfl⟩,
      idle (exec_stop0 r s) ⟨_, rfl, rfl⟩, idle (exec_start1 r s) ⟨_, rfl, rfl⟩, idle (exec_stop1 r s) ⟨_, rfl, rfl⟩,
      idle (exec_count r s) ⟨_, rfl, rfl⟩, List.forall_mem_nil _⟩

end Sys2Proof.Machine
end

section
/-! SUPPORT. What counting events and drawing free values leave of the threads and the clusters, and what a cluster's own parts then read. -/

namespace Sys2Proof.Machine

/-! ### Events counted -/

/-- The registers in which performance counters show. -/
def meterRegs : List Reg := [.EPC_CTR, .EPC_STATUS, .EPC_EVENT]

/-- A register is none of these, nor one that events write. -/
def unmetered (r : Reg) : Bool := !evtReg r && meterRegs.all fun x => r.apart x

/-- From m to n events have been counted and free values drawn: every other part and register stays, and of the engines all but their event
queues. -/
structure Metered (m n : Mod) : Prop where
  quiet : { n.quiet with free := m.free } = m.quiet
  rd : ∀ r i, unmetered r = true → n.rd r i = m.rd r i
  held : Keeps engHeld m n

theorem Metered.refl (m : Mod) : Metered m m := ⟨rfl, fun _ _ _ => rfl, .refl m⟩

theorem Metered.trans {a b c : Mod} (h : Metered a b) (k : Metered b c) : Metered a c where
  quiet := by
    have hb := congrArg (fun m : Mod => { m with free := a.free }) k.quiet
    exact Eq.trans hb h.quiet
  rd r i hr := (k.rd r i hr).trans (h.rd r i hr)
  held := h.held.trans k.held

theorem Metered.ite {m a b : Mod} (c : Prop) [Decidable c] (ha : Metered m a) (hb : Metered m b) : Metered m (if c then a else b) := by
  split
  · exact ha
  · exact hb

theorem Metered.foldl {β : Type} (f : Mod → β → Mod) (h : ∀ m b, Metered m (f m b)) (l : List β) (m : Mod) : Metered m (l.foldl f m) := by
  induction l generalizing m with
  | nil => exact .refl m
  | cons b l ih => exact (h m b).trans (ih (f m b))

theorem Metered.get {m n : Mod} (h : Metered m n) {f : Fld} (i : Nat) (hf : unmetered f.reg = true) : n.get f i = m.get f i :=
  congrArg f.of (h.rd f.reg i hf)

theorem Metered.flag {m n : Mod} (h : Metered m n) {f : Fld} (i : Nat) (hf : unmetered f.reg = true) : n.flag f i = m.flag f i :=
  congrArg (· == 1) (h.get i hf)

theorem Metered.buf {m n : Mod} (h : Metered m n) : n.buf = m.buf := (congrArg Mod.buf h.quiet :)

theorem unmetered_of_steady {r : Reg} (h : r ∈ steadyRegs) : unmetered r = true := by
  revert r
  decide

/-- What the steady part shows is none of it. -/
theorem Metered.steady {m n : Mod} (h : Metered m n) : Keeps Machine.steady m n := by
  have part {α : Type} (g : Mod → α) := congrArg g h.quiet
  exact keeps_steady_iff.2 ⟨keeps_calm_iff.2 ⟨congrArg (fun x : TickSt => { x with overrun := false }) (part Mod.tick),
    ⟨part Mod.win, part Mod.hdg, part Mod.cls, part Mod.fwd, part Mod.upd⟩, congrArg BufSt.inject h.buf, quiesce_of_engHeld h.held,
    fun r i hr => h.rd r i (unmetered_of_steady hr)⟩, part Mod.time, (congrArg EngSt.threads h.held :), (congrArg EngSt.turn h.held :)⟩

theorem Drew.metered {m n : Mod} (h : Drew m n) : Metered m n := by
  refine ⟨?_, fun r i _ => rd_of_regs h.regs r i, engHeld_of_eng h.eng⟩
  rw [h]
  rfl

theorem Announced.metered {m n : Mod} (h : Announced m n) : Metered m n where
  quiet := by
    have hfree := congrArg (fun x : Mod => { x with free := m.free }) h.1.1
    exact hfree
  rd r i hr := h.1.2 r i (by simpa using (Bool.and_eq_true_iff.1 hr).1)
  held := h.2

theorem metered_bump (m : Mod) (c : Ctr) (n : Nat) : Metered m (m.bump c n) := (announced_bump m c n).metered

theorem metered_wr (m : Mod) {r : Reg} (i : Nat) (w : Word) (h : r ∈ meterRegs) : Metered m (m.wr r i w) :=
  ⟨rfl, fun x j hx => rd_wr_ne m r x i j w (List.all_eq_true.1 (Bool.and_eq_true_iff.1 hx).2 r h), engHeld_of_eng rfl⟩

theorem metered_set (m : Mod) {f : Fld} (i v : Nat) (h : f.reg ∈ meterRegs) : Metered m (m.set f i v) := metered_wr m i _ h

theorem metered_sqcBit (m : Mod) {f : Fld} (k i : Nat) (h : f.reg ∈ meterRegs) : Metered m (m.sqcBit f k i) := by
  unfold Mod.sqcBit
  exact metered_wr m i _ h

theorem metered_epcRaise (m : Mod) (c phys code q : Nat) : Metered m (m.epcRaise c phys code q) :=
  (metered_sqcBit m (f := EPC_EVENT_EVENTS) _ c (by decide)).trans (announced_eventRated _ _ _).metered

theorem metered_epcAdd (m : Mod) (c phys n k : Nat) : Metered m (m.epcAdd c phys n k) := by
  unfold Mod.epcAdd
  extract_lets i v m1
  have h1 : Metered m m1 := metered_set m i _ (by decide)
  exact .ite _ (metered_set m i v (by decide))
    (h1.trans (.ite _ (.refl m1) ((metered_sqcBit m1 (f := EPC_STATUS_SAT) _ _ (by decide)).trans (metered_epcRaise _ c phys _ _))))

theorem metered_epcThread (m : Mod) (key : Nat) (t : Thread) (ev k : Nat) : Metered m (m.epcThread key t ev k) := by
  unfold Mod.epcThread Mod.epcCount
  exact .ite _ (.refl m) (.foldl _ (fun m n => .ite _ (metered_epcAdd m _ _ n k) (.refl m)) _ m)

/-! ### A cluster -/

theorem cl_of_engHeld {m n : Mod} (h : Keeps engHeld m n) (c : Nat) : { n.cl c with ev := [] } = { m.cl c with ev := [] } := by
  have hc := congrArg (fun e : EngSt => e.cl c) h
  simpa only [engHeld_cl] using hc

section
variable {m n : Mod} (h : Keeps engHeld m n) (c : Nat)
include h

theorem shared_of_engHeld : (n.cl c).shared = (m.cl c).shared := (congrArg Cluster.shared (cl_of_engHeld h c) :)

theorem store_of_engHeld : (n.cl c).store = (m.cl c).store := (congrArg Cluster.store (cl_of_engHeld h c) :)

theorem timers_of_engHeld : (n.cl c).timers = (m.cl c).timers := (congrArg Cluster.timers (cl_of_engHeld h c) :)

theorem poisonedAt_of_engHeld (addr k : Nat) : (n.cl c).poisonedAt addr k = (m.cl c).poisonedAt addr k :=
  (congrArg (fun x : Cluster => x.poisonedAt addr k) (cl_of_engHeld h c) :)

theorem holds_of_engHeld (key : Nat) (t : Thread) : n.holds key t = m.holds key t := by
  unfold Mod.holds Mod.microword
  rw [store_of_engHeld h]

end

/-! ### Octets -/

theorem lookup_storeAt (l : List (Nat × Byte)) (a i k : Nat) (bs : List Byte) :
    lookup ((bs.zipIdx i).foldl (fun l e => store l (a + e.2) e.1) l) k =
      if a + i ≤ k ∧ k < a + i + bs.length then some (bs.getD (k - (a + i)) 0) else lookup l k := by
  induction bs generalizing l i with
  | nil => simp
  | cons b bs ih =>
    rw [List.zipIdx_cons, List.foldl_cons, ih, lookup_store]
    simp only [List.length_cons]
    by_cases hk : k = a + i
    · subst hk
      simp
    · by_cases hin : a + (i + 1) ≤ k ∧ k < a + (i + 1) + bs.length
      · rw [if_pos hin, if_pos (by omega), show k - (a + i) = k - (a + (i + 1)) + 1 by omega, List.getD_cons_succ]
      · rw [if_neg hin, if_neg hk, if_neg (by omega)]

/-- An octet of LOCAL memory after a store: the stored one within it, and any other as before. -/
theorem localByte_localWrite (t : Thread) (a k : Nat) (bs : List Byte) :
    (t.localWrite a bs).localByte k = if a ≤ k ∧ k < a + bs.length then bs.getD (k - a) 0 else t.localByte k := by
  have h := lookup_storeAt t.mem a 0 k bs
  unfold Thread.localByte Thread.localWrite
  simp only [Nat.add_zero] at h
  rw [h]
  split <;> rfl

/-- An octet of SHARED memory after a store. -/
theorem memByte_memWrite (l : List (Nat × Byte)) (a k : Nat) (bs : List Byte) :
    memByte (memWrite l a bs) k = if a ≤ k ∧ k < a + bs.length then bs.getD (k - a) 0 else memByte l k := by
  split
  · rename_i h
    obtain ⟨d, rfl⟩ := Nat.exists_eq_add_of_le h.1
    rw [memByte_memWrite_in l a bs d (by omega), Nat.add_sub_cancel_left]
  · exact memByte_memWrite_out l a bs k (by omega)

end Sys2Proof.Machine
end

section
/-! SUPPORT. The memory part of a microword (R263, R264): the operation that it comes to, and the ways in which one ends for its thread. -/

namespace Sys2Proof.Machine

/-! ### The operation that a part comes to -/

/-- The operation of a memory part at its address, with what the ALUs give. -/
def Mod.memAt (m : Mod) (l : BitVec 5) (key : Nat) (t : Thread) (x : MemArgs) (op addr a b : Nat) : BitVec 5 × Mod :=
  match x.msp.val with
  | 0 => (l, m.localOp key t x op addr a b)
  | 1 => (l, m.sharedOp key t x op addr a b)
  | 2 => (l, m.tableOp key t x op addr)
  | 3 => (l, m.sdramOp key t x op addr a b)
  | 4 => m.regOp l key t x op addr b
  | _ => (l, m.queueOp key t x op addr a b)

/-- The sources of a memory part: its address, and the results of ALU B and ALU A that its operation takes. -/
structure MemSources (m : Mod) (x : MemArgs) (t : Thread) (ad : Nat) (a b : Word) (m1 m2 m3 : Mod) : Prop where
  address : ∃ w, m.source (threadKey x.t) t x.imm x.mad.val = (w, m1) ∧ ad = w.toNat
  resultB : m1.resultOf t.mw.resB = (b, m2)
  resultA : m2.resultOf t.mw.resA = (a, m3)

/-- The module with what the sources of an operation have drawn. -/
def drawnBy (op : Nat) (m1 m2 m3 : Mod) : Mod := if op = 10 ∨ op = 13 then m3 else if op < 6 then m1 else m2

section
variable {m m1 m2 m3 : Mod} {c : Instr} {x : MemArgs} {op ad : Nat} {t : Thread} {a b : Word} (hc : PartAt c x.t) (h : m.issuing c = some t)

theorem MemSources.metered (hsrc : MemSources m x t ad a b m1 m2 m3) (ev : Nat) :
    Metered m ((drawnBy op m1 m2 m3).epcThread (threadKey x.t) t ev) := by
  obtain ⟨⟨w, hw, -⟩, hb, ha⟩ := hsrc
  have h1 := drew_of_source hw
  have h2 := h1.trans (drew_of_resultOf hb)
  have h3 := h2.trans (drew_of_resultOf ha)
  refine Metered.trans (b := drawnBy op m1 m2 m3) ?_ (metered_epcThread _ _ t ev 1)
  unfold drawnBy
  exact .ite _ h3.metered (.ite _ h1.metered h2.metered)

include hc h

theorem memPart_misaligned (l : BitVec 5) (had : (m.source (threadKey x.t) t x.imm x.mad.val).1.toNat % memWidth op ≠ 0) :
    m.memPart l c x op = (l, (m.source (threadKey x.t) t x.imm x.mad.val).2.jobFault (threadKey x.t) 3) := by
  unfold Mod.memPart Mod.issueLocks
  rw [badWord_of_issuing hc h, h]
  exact if_pos had

/-- A part with an aligned address comes to its operation. -/
theorem memPart_aligned (hsrc : MemSources m x t ad a b m1 m2 m3) (had : ad % memWidth op = 0) (l : BitVec 5) :
    m.memPart l c x op = ((drawnBy op m1 m2 m3).epcThread (threadKey x.t) t (16 + x.msp.val)).memAt l (threadKey x.t) t x op ad
      (if op = 10 ∨ op = 13 then a.toNat else 0) (if op < 6 then 0 else b.toNat) := by
  obtain ⟨⟨w, hw, rfl⟩, hb, ha⟩ := hsrc
  unfold Mod.memPart Mod.issueLocks
  rw [badWord_of_issuing hc h, h]
  extract_lets key
  simp only [key, hw]
  rw [if_neg (not_not.2 had)]
  unfold drawnBy
  by_cases hA : op = 10 ∨ op = 13
  · have hB : ¬op < 6 := by omega
    simp only [hA, hB, if_true, if_false, hb, ha]
    rfl
  · by_cases hB : op < 6
    · simp only [hA, hB, if_true, if_false]
      rfl
    · simp only [hA, hB, if_false, hb]
      rfl

end

section
variable {s : State} {c : Instr} {x : MemArgs} {op : Nat} (hexec : exec c s = s.actLocks fun l m => m.memPart l c x op) (hs : s.Running)
  (hc : PartAt c x.t)
include hexec hs hc

theorem memRow_not_issued : (s.m.issuing c = none → s.m.badWord c = none → Does c s s.m) ∧
    ((s.m.badWord c).isSome = true → Does c s (s.m.jobFault (threadKey x.t) 4)) := locksPart_not_issued hexec hs hc

theorem memRow_misaligned {t : Thread} (h : s.m.issuing c = some t)
    (had : (s.m.source (threadKey x.t) t x.imm x.mad.val).1.toNat % memWidth op ≠ 0) :
    Does c s ((s.m.source (threadKey x.t) t x.imm x.mad.val).2.jobFault (threadKey x.t) 3) := by
  have hpart := memPart_misaligned (m := s.m) hc h s.locks had
  exact hexec.trans ((actLocks_next s _ hs).trans (by rw [hpart]))

/-- An aligned memory part does what its operation does of the module n with its sources drawn and its event counted. -/
theorem memRow_reaches {t : Thread} {ad : Nat} {a b : Word} {m1 m2 m3 : Mod} (h : s.m.issuing c = some t)
    (hsrc : MemSources s.m x t ad a b m1 m2 m3) (had : ad % memWidth op = 0) :
    ∃ n, n = (drawnBy op m1 m2 m3).epcThread (threadKey x.t) t (16 + x.msp.val) ∧ Metered s.m n ∧ ∀ l k,
      n.memAt s.locks (threadKey x.t) t x op ad (if op = 10 ∨ op = 13 then a.toNat else 0) (if op < 6 then 0 else b.toNat) = (l, k) →
        exec c s = .next { s with locks := l, m := k } := by
  have hpart := memPart_aligned (m := s.m) hc h hsrc had s.locks
  refine ⟨_, rfl, hsrc.metered _, fun l k hk => ?_⟩
  rw [hexec, actLocks_next s _ hs, hpart.trans hk]

end

/-! ### The ways in which an operation ends -/

/-- A failed operation is counted (R296). -/
theorem metered_failed (n : Mod) (key : Nat) (t : Thread) : Metered n ((n.bump (engCtr (key / 768) 14)).epcThread key t 22) :=
  (metered_bump n _ 1).trans (metered_epcThread _ key t 22 1)

section
variable {s u : State} {n : Mod} {key : Nat} {t : Thread} (x : MemArgs) {op : Nat} (hn : n.eng.threads = s.m.eng.threads)
include hn

theorem memData_shows {v : Nat} (hu : u.m = n.memData key t x op v) :
    ∃ t2, s.ThreadIs u key t2 ∧ t2.Reads (memWidth op) v ∧ t2.mem = t.mem ∧ t2.localSeed = t.localSeed ∧ t2.w = t.w :=
  ⟨_, threadIs_setThread hu hn, ⟨rfl, rfl, _, rfl, rfl, rfl, rfl⟩, rfl, rfl, rfl⟩

theorem memDone_shows (hu : u.m = n.memDone key t x op) :
    ∃ t2, s.ThreadIs u key t2 ∧ t2.mw.memErr = some false ∧ t2.held = t.held ∧ t2.mem = t.mem ∧ t2.localSeed = t.localSeed :=
  ⟨_, threadIs_setThread hu hn, rfl, rfl, rfl, rfl⟩

theorem memFails_shows (hop : isStore op = false) (hu : u.m = n.memFails key t x op) :
    ∃ t2, s.ThreadIs u key t2 ∧ t2.ReadFails (memWidth op) ∧ t2.mem = t.mem := by
  have hthreads := (metered_failed n key t).steady.threads.trans hn
  unfold Mod.memFails at hu
  rw [hop] at hu
  exact ⟨_, threadIs_setThread hu hthreads, ⟨rfl, rfl, _, rfl, rfl, rfl, rfl⟩, rfl⟩

theorem hold_shows {o : HeldOp} {y : Micro} (hroom : t.held.length < 16) (hu : u.m = n.hold key t o y) :
    s.ThreadIs u key { t with held := t.held ++ [o], mw := y } := by
  unfold Mod.hold at hu
  rw [if_neg (Nat.not_le.2 hroom)] at hu
  refine threadIs_of_threads ?_
  rw [hu, (metered_epcThread _ key _ 24 1).steady.threads, ← hn]
  rfl

end

theorem shared_memFails (n : Mod) (key : Nat) (t : Thread) (x : MemArgs) (op c : Nat) :
    ((n.memFails key t x op).cl c).shared = (n.cl c).shared := shared_of_engHeld (metered_failed n key t).held c

theorem shared_hold (n : Mod) (key : Nat) (t : Thread) (o : HeldOp) (y : Micro) (hroom : t.held.length < 16) (c : Nat) :
    ((n.hold key t o y).cl c).shared = (n.cl c).shared := by
  unfold Mod.hold
  rw [if_neg (Nat.not_le.2 hroom)]
  exact shared_of_engHeld (metered_epcThread (n.setThread key _) key _ 24 1).held c

end Sys2Proof.Machine
end

section
/-! SUPPORT. Operations in LOCAL and SHARED memory (R264, R265, R437, R440), case by case. -/

namespace Sys2Proof.Machine

/-! ### LOCAL -/

section
variable (n : Mod) (key : Nat) (t : Thread) {x : MemArgs} {op addr : Nat} (a b : Nat)

theorem localOp_reads (hst : isStore op = false) (hat : isAtomic op = false) (hin : addr + memWidth op ≤ 1024) (hbad : x.bad = false) :
    n.localOp key t x op addr a b = n.memData key t x op (t.localRead addr (memWidth op)) := by
  simp [Mod.localOp, Nat.not_lt.2 hin, hst, hat, hbad]

theorem localOp_fails (hst : isStore op = false) (h : 1024 < addr + memWidth op ∨ x.bad = true) :
    n.localOp key t x op addr a b = n.memFails key t x op := by
  unfold Mod.localOp
  by_cases hin : 1024 < addr + memWidth op
  · exact if_pos hin
  · simp [hin, hst, h.resolve_left hin]

theorem localOp_stores (hst : isStore op = true) (hin : addr + memWidth op ≤ 1024) :
    n.localOp key t x op addr a b = n.memDone key (t.localWrite addr (toBytes (memWidth op) (a * 2 ^ 64 + b))) x op := by
  simp [Mod.localOp, Nat.not_lt.2 hin, hst]

theorem localOp_swaps (hst : isStore op = false) (hat : isAtomic op = true) (hin : addr + memWidth op ≤ 1024) (hbad : x.bad = false) :
    n.localOp key t x op addr a b = n.memData key
      (t.localWrite addr (toBytes 8 (atomicNew op (t.localRead addr (memWidth op)) a b))) x op (t.localRead addr (memWidth op)) := by
  simp [Mod.localOp, Nat.not_lt.2 hin, hst, hat, hbad]

/-! ### SHARED -/

theorem sharedOp_reads (hst : isStore op = false) (hat : isAtomic op = false) (hin : addr + memWidth op ≤ 0x400000)
    (hp : (n.cl (key / 768)).poisonedAt addr (memWidth op) = false) :
    n.sharedOp key t x op addr a b = n.memData key t x op (beNat (memRead (n.cl (key / 768)).shared addr (memWidth op))) := by
  simp [Mod.sharedOp, Nat.not_lt.2 hin, hst, hat, hp]

theorem sharedOp_fails (hst : isStore op = false) (hat : isAtomic op = false)
    (h : 0x400000 < addr + memWidth op ∨ (n.cl (key / 768)).poisonedAt addr (memWidth op) = true) :
    n.sharedOp key t x op addr a b = n.memFails key t x op := by
  unfold Mod.sharedOp
  by_cases hin : 0x400000 < addr + memWidth op
  · exact if_pos hin
  · simp [hin, hst, hat, h.resolve_left hin]

theorem sharedOp_stores (hst : isStore op = true) (hin : addr + memWidth op ≤ 0x400000) (hh : n.holds key t = false) :
    n.sharedOp key t x op addr a b = (n.sharedDo (key / 768) op addr a b).memDone key t x op := by
  simp [Mod.sharedOp, Nat.not_lt.2 hin, hst, hh]

theorem sharedOp_holds (hst : isStore op = true) (hin : addr + memWidth op ≤ 0x400000) (hh : n.holds key t = true) :
    n.sharedOp key t x op addr a b = n.hold key t (.store 1 addr (memWidth op) (a * 2 ^ 64 + b))
      { t.mw with mem := some (op, 1), memErr := some false } := by
  simp [Mod.sharedOp, Nat.not_lt.2 hin, hst, hh]

theorem sharedOp_swaps (hst : isStore op = false) (hat : isAtomic op = true) (hin : addr + memWidth op ≤ 0x400000)
    (hh : n.holds key t = false) (hp : (n.cl (key / 768)).poisonedAt addr (memWidth op) = false) :
    n.sharedOp key t x op addr a b =
      (n.sharedDo (key / 768) op addr a b).memData key t x op (beNat (memRead (n.cl (key / 768)).shared addr (memWidth op))) := by
  simp [Mod.sharedOp, Nat.not_lt.2 hin, hst, hat, hh, hp]

end

/-- What a store or an atomic leaves in SHARED memory. -/
def sharedNew (op old a b : Nat) : Nat := if isStore op then a * 2 ^ 64 + b else atomicNew op old a b

theorem localByte_congr {t u : Thread} (hmem : u.mem = t.mem) (hseed : u.localSeed = t.localSeed) (k : Nat) :
    u.localByte k = t.localByte k := by
  unfold Thread.localByte
  rw [hmem, hseed]

/-- An octet of SHARED memory after a store or an atomic. -/
theorem memByte_sharedDo (n : Mod) (c op addr a b k : Nat) :
    memByte ((n.sharedDo c op addr a b).cl c).shared k = if addr ≤ k ∧ k < addr + memWidth op then
      (toBytes (memWidth op) (sharedNew op (beNat (memRead (n.cl c).shared addr (memWidth op))) a b)).getD (k - addr) 0
    else memByte (n.cl c).shared k := by
  unfold Mod.sharedDo sharedNew
  simp only [cl_setCl_self, Cluster.sharedWrite]
  rw [memByte_memWrite, length_toBytes]

/-! ### The rows -/

section
variable {s : State} {c : Instr} {x : MemArgs} {op : Nat} (hexec : exec c s = s.actLocks fun l m => m.memPart l c x op) (hs : s.Running)
  (hc : PartAt c x.t) {t : Thread} {ad : Nat} {a b : Word} {m1 m2 m3 : Mod} (h : s.m.issuing c = some t)
  (hsrc : MemSources s.m x t ad a b m1 m2 m3) (had : ad % memWidth op = 0)
include hexec hs hc h hsrc had

/-- An aligned part in LOCAL memory does its operation there. -/
theorem localRow (hsp : x.msp.val = 0) : ∃ n, Metered s.m n ∧ Does c s (n.localOp (threadKey x.t) t x op ad
    (if op = 10 ∨ op = 13 then a.toNat else 0) (if op < 6 then 0 else b.toNat)) := by
  obtain ⟨n, -, hn, hdo⟩ := memRow_reaches hexec hs hc h hsrc had
  refine ⟨n, hn, hdo _ _ ?_⟩
  unfold Mod.memAt
  rw [hsp]
  rfl

theorem sharedRow (hsp : x.msp.val = 1) : ∃ n, Metered s.m n ∧ Does c s (n.sharedOp (threadKey x.t) t x op ad
    (if op = 10 ∨ op = 13 then a.toNat else 0) (if op < 6 then 0 else b.toNat)) := by
  obtain ⟨n, -, hn, hdo⟩ := memRow_reaches hexec hs hc h hsrc had
  refine ⟨n, hn, hdo _ _ ?_⟩
  unfold Mod.memAt
  rw [hsp]
  rfl

/-! ### Reads -/

section
variable (hst : isStore op = false)
include hst

theorem localRow_fails (hsp : x.msp.val = 0) (hout : 1024 < ad + memWidth op ∨ x.bad = true) :
    Yields c s fun u => ∃ t2, s.ThreadIs u (threadKey x.t) t2 ∧ t2.ReadFails (memWidth op) ∧ t2.mem = t.mem := by
  obtain ⟨n, hn, hdo⟩ := localRow hexec hs hc h hsrc had hsp
  rw [localOp_fails n _ t _ _ hst hout] at hdo
  exact yields_of_does hdo (memFails_shows x hn.steady.threads hst rfl)

variable (hat : isAtomic op = false)
include hat

theorem localRow_reads (hsp : x.msp.val = 0) (hin : ad + memWidth op ≤ 1024) (hbad : x.bad = false) :
    Yields c s fun u => ∃ t2, s.ThreadIs u (threadKey x.t) t2 ∧ t2.Reads (memWidth op) (t.localRead ad (memWidth op)) ∧ t2.mem = t.mem ∧
      t2.w = t.w := by
  obtain ⟨n, hn, hdo⟩ := localRow hexec hs hc h hsrc had hsp
  rw [localOp_reads n _ t _ _ hst hat hin hbad] at hdo
  obtain ⟨t2, ht, hread, hmem, -, hw⟩ := memData_shows (u := { s with m := n.memData _ t x op _ }) x hn.steady.threads rfl
  exact yields_of_does hdo ⟨t2, ht, hread, hmem, hw⟩

theorem sharedRow_reads (hsp : x.msp.val = 1) (hin : ad + memWidth op ≤ 0x400000)
    (hp : (s.m.cl (threadKey x.t / 768)).poisonedAt ad (memWidth op) = false) :
    Yields c s fun u => (∃ t2, s.ThreadIs u (threadKey x.t) t2 ∧
        t2.Reads (memWidth op) (beNat (memRead (s.m.cl (threadKey x.t / 768)).shared ad (memWidth op)))) ∧
      (u.m.cl (threadKey x.t / 768)).shared = (s.m.cl (threadKey x.t / 768)).shared := by
  obtain ⟨n, hn, hdo⟩ := sharedRow hexec hs hc h hsrc had hsp
  rw [sharedOp_reads n _ t _ _ hst hat hin ((poisonedAt_of_engHeld hn.held _ _ _).trans hp), shared_of_engHeld hn.held] at hdo
  obtain ⟨t2, ht, hread, -⟩ := memData_shows (u := { s with m := n.memData _ t x op _ }) x hn.steady.threads rfl
  exact yields_of_does hdo ⟨⟨t2, ht, hread⟩, shared_of_engHeld hn.held _⟩

theorem sharedRow_fails (hsp : x.msp.val = 1) (hout : 0x400000 < ad + memWidth op ∨
      (s.m.cl (threadKey x.t / 768)).poisonedAt ad (memWidth op) = true) :
    Yields c s fun u => (∃ t2, s.ThreadIs u (threadKey x.t) t2 ∧ t2.ReadFails (memWidth op)) ∧
      (u.m.cl (threadKey x.t / 768)).shared = (s.m.cl (threadKey x.t / 768)).shared := by
  obtain ⟨n, hn, hdo⟩ := sharedRow hexec hs hc h hsrc had hsp
  rw [sharedOp_fails n _ t _ _ hst hat (hout.imp_right (poisonedAt_of_engHeld hn.held _ _ _).trans)] at hdo
  obtain ⟨t2, ht, hread, -⟩ := memFails_shows (u := { s with m := n.memFails _ t x op }) x hn.steady.threads hst rfl
  exact yields_of_does hdo ⟨⟨t2, ht, hread⟩, (shared_memFails n _ t x op _).trans (shared_of_engHeld hn.held _)⟩

end

/-! ### Stores -/

section
variable (hst : isStore op = true)
include hst

theorem localRow_stores (hsp : x.msp.val = 0) (hin : ad + memWidth op ≤ 1024) {v : Nat}
    (hv : (if op = 10 ∨ op = 13 then a.toNat else 0) * 2 ^ 64 + (if op < 6 then 0 else b.toNat) = v) :
    Yields c s fun u => ∃ t2, s.ThreadIs u (threadKey x.t) t2 ∧ t2.mw.memErr = some false ∧ ∀ k, t2.localByte k =
      if ad ≤ k ∧ k < ad + memWidth op then (toBytes (memWidth op) v).getD (k - ad) 0 else t.localByte k := by
  obtain ⟨n, hn, hdo⟩ := localRow hexec hs hc h hsrc had hsp
  rw [localOp_stores n _ t _ _ hst hin, hv] at hdo
  obtain ⟨t2, ht, herr, -, hmem, hseed⟩ := memDone_shows (u := { s with m := n.memDone _ (t.localWrite ad _) x op }) x hn.steady.threads rfl
  refine yields_of_does hdo ⟨t2, ht, herr, fun k => ?_⟩
  rw [localByte_congr hmem hseed, localByte_localWrite, length_toBytes]

theorem sharedRow_stores (hsp : x.msp.val = 1) (hin : ad + memWidth op ≤ 0x400000) (hh : s.m.holds (threadKey x.t) t = false) {v : Nat}
    (hv : (if op = 10 ∨ op = 13 then a.toNat else 0) * 2 ^ 64 + (if op < 6 then 0 else b.toNat) = v) :
    Yields c s fun u => (∃ t2, s.ThreadIs u (threadKey x.t) t2 ∧ t2.mw.memErr = some false ∧ t2.held = t.held) ∧
      ∀ k, memByte (u.m.cl (threadKey x.t / 768)).shared k = if ad ≤ k ∧ k < ad + memWidth op then
        (toBytes (memWidth op) v).getD (k - ad) 0 else memByte (s.m.cl (threadKey x.t / 768)).shared k := by
  obtain ⟨n, hn, hdo⟩ := sharedRow hexec hs hc h hsrc had hsp
  rw [sharedOp_stores n _ t _ _ hst hin ((holds_of_engHeld hn.held _ t).trans hh)] at hdo
  obtain ⟨t2, ht, herr, hheld, -⟩ := memDone_shows (u := { s with m := Mod.memDone _ (threadKey x.t) t x op }) x
    ((threads_setCl n _ _).1.trans hn.steady.threads) rfl
  refine yields_of_does hdo ⟨⟨t2, ht, herr, hheld⟩, fun k => (memByte_sharedDo n _ op ad _ _ k).trans ?_⟩
  rw [sharedNew, hst, if_pos rfl, hv, shared_of_engHeld hn.held]

theorem sharedRow_holds (hsp : x.msp.val = 1) (hin : ad + memWidth op ≤ 0x400000) (hh : s.m.holds (threadKey x.t) t = true)
    (hroom : t.held.length < 16) :
    Yields c s fun u => (∃ t2, s.ThreadIs u (threadKey x.t) t2 ∧ t2.held.length = t.held.length + 1 ∧ t2.held.take t.held.length = t.held) ∧
      (u.m.cl (threadKey x.t / 768)).shared = (s.m.cl (threadKey x.t / 768)).shared := by
  obtain ⟨n, hn, hdo⟩ := sharedRow hexec hs hc h hsrc had hsp
  rw [sharedOp_holds n _ t _ _ hst hin ((holds_of_engHeld hn.held _ t).trans hh)] at hdo
  exact yields_of_does hdo ⟨⟨_, hold_shows hn.steady.threads hroom rfl, List.length_append, List.take_left⟩,
    (shared_hold n _ t _ _ hroom _).trans (shared_of_engHeld hn.held _)⟩

end

/-! ### Atomics -/

section
variable (hst : isStore op = false) (hat : isAtomic op = true) (hop : memWidth op = 8) {old v : Nat}
  (hv : atomicNew op old (if op = 10 ∨ op = 13 then a.toNat else 0) (if op < 6 then 0 else b.toNat) = v)
include hst hat hop hv

theorem localRow_swaps (hsp : x.msp.val = 0) (hin : ad + 8 ≤ 1024) (hbad : x.bad = false) (hold : old = t.localRead ad 8) :
    Yields c s fun u => ∃ t2, s.ThreadIs u (threadKey x.t) t2 ∧ t2.Reads 8 old ∧ ∀ k, t2.localByte k =
      if ad ≤ k ∧ k < ad + 8 then (toBytes 8 v).getD (k - ad) 0 else t.localByte k := by
  obtain ⟨n, hn, hdo⟩ := localRow hexec hs hc h hsrc had hsp
  rw [localOp_swaps n _ t _ _ hst hat (hop.symm ▸ hin) hbad, hop, ← hold, hv] at hdo
  obtain ⟨t2, ht, hread, hmem, hseed, -⟩ := memData_shows (u := { s with m := n.memData _ (t.localWrite ad _) x op old }) x
    hn.steady.threads rfl
  refine yields_of_does hdo ⟨t2, ht, hop ▸ hread, fun k => ?_⟩
  rw [localByte_congr hmem hseed, localByte_localWrite, length_toBytes]

theorem sharedRow_swaps (hsp : x.msp.val = 1) (hin : ad + 8 ≤ 0x400000) (hp : (s.m.cl (threadKey x.t / 768)).poisonedAt ad 8 = false)
    (hh : s.m.holds (threadKey x.t) t = false) (hold : old = beNat (memRead (s.m.cl (threadKey x.t / 768)).shared ad 8)) :
    Yields c s fun u => (∃ t2, s.ThreadIs u (threadKey x.t) t2 ∧ t2.Reads 8 old) ∧
      ∀ k, memByte (u.m.cl (threadKey x.t / 768)).shared k = if ad ≤ k ∧ k < ad + 8 then
        (toBytes 8 v).getD (k - ad) 0 else memByte (s.m.cl (threadKey x.t / 768)).shared k := by
  obtain ⟨n, hn, hdo⟩ := sharedRow hexec hs hc h hsrc had hsp
  have hshared := shared_of_engHeld hn.held (threadKey x.t / 768)
  rw [sharedOp_swaps n _ t _ _ hst hat (hop.symm ▸ hin) ((holds_of_engHeld hn.held _ t).trans hh)
    ((poisonedAt_of_engHeld hn.held _ _ _).trans (hop.symm ▸ hp)), hshared, hop, ← hold] at hdo
  obtain ⟨t2, ht, hread, -⟩ := memData_shows (u := { s with m := Mod.memData _ (threadKey x.t) t x op old }) x
    ((threads_setCl n _ _).1.trans hn.steady.threads) rfl
  refine yields_of_does hdo ⟨⟨t2, ht, hop ▸ hread⟩, fun k => (memByte_sharedDo n _ op ad _ _ k).trans ?_⟩
  rw [sharedNew, hst, if_neg Bool.false_ne_true, hop, hshared, ← hold, hv]

end

end

/-! ### The obligation -/

section
variable {s : State} {c : Instr} {x : MemArgs} {op : Nat} (hexec : exec c s = s.actLocks fun l m => m.memPart l c x op) (hs : s.Running)
  (hc : PartAt c x.t) {t : Thread} {ad : Nat} {a b : Word} {m1 m2 m3 : Mod} (hsrc : MemSources s.m x t ad a b m1 m2 m3)
include hexec hs hc hsrc

/-- A read in LOCAL and SHARED memory. -/
theorem readRow {w : Nat} (hw : memWidth op = w) (hst : isStore op = false) (hat : isAtomic op = false) (h : s.m.issuing c = some t)
    (had : ad % w = 0) :
    (x.msp.val = 0 → ad + w ≤ 1024 → x.bad = false →
      Yields c s fun u => ∃ t2, s.ThreadIs u (threadKey x.t) t2 ∧ t2.Reads w (t.localRead ad w) ∧ t2.mem = t.mem ∧ t2.w = t.w) ∧
    (x.msp.val = 0 → (1024 < ad + w ∨ x.bad = true) →
      Yields c s fun u => ∃ t2, s.ThreadIs u (threadKey x.t) t2 ∧ t2.ReadFails w ∧ t2.mem = t.mem) ∧
    (x.msp.val = 1 → ad + w ≤ 0x400000 → (s.m.cl (threadKey x.t / 768)).poisonedAt ad w = false →
      Yields c s fun u => (∃ t2, s.ThreadIs u (threadKey x.t) t2 ∧ t2.Reads w (beNat (memRead (s.m.cl (threadKey x.t / 768)).shared ad w))) ∧
        (u.m.cl (threadKey x.t / 768)).shared = (s.m.cl (threadKey x.t / 768)).shared) ∧
    (x.msp.val = 1 → (0x400000 < ad + w ∨ (s.m.cl (threadKey x.t / 768)).poisonedAt ad w = true) →
      Yields c s fun u => (∃ t2, s.ThreadIs u (threadKey x.t) t2 ∧ t2.ReadFails w) ∧
        (u.m.cl (threadKey x.t / 768)).shared = (s.m.cl (threadKey x.t / 768)).shared) := by
  subst hw
  exact ⟨localRow_reads hexec hs hc h hsrc had hst hat, localRow_fails hexec hs hc h hsrc had hst,
    sharedRow_reads hexec hs hc h hsrc had hst hat, sharedRow_fails hexec hs hc h hsrc had hst hat⟩

/-- A store in LOCAL and SHARED memory. -/
theorem storeRow {w v : Nat} (hw : memWidth op = w) (hst : isStore op = true)
    (hv : (if op = 10 ∨ op = 13 then a.toNat else 0) * 2 ^ 64 + (if op < 6 then 0 else b.toNat) = v) (h : s.m.issuing c = some t)
    (had : ad % w = 0) :
    (x.msp.val = 0 → ad + w ≤ 1024 →
      Yields c s fun u => ∃ t2, s.ThreadIs u (threadKey x.t) t2 ∧ t2.mw.memErr = some false ∧
        (∀ k, t2.localByte k = if ad ≤ k ∧ k < ad + w then (toBytes w v).getD (k - ad) 0 else t.localByte k)) ∧
    (x.msp.val = 1 → ad + w ≤ 0x400000 → s.m.holds (threadKey x.t) t = false →
      Yields c s fun u => (∃ t2, s.ThreadIs u (threadKey x.t) t2 ∧ t2.mw.memErr = some false ∧ t2.held = t.held) ∧
        (∀ k, memByte (u.m.cl (threadKey x.t / 768)).shared k = if ad ≤ k ∧ k < ad + w then (toBytes w v).getD (k - ad) 0
          else memByte (s.m.cl (threadKey x.t / 768)).shared k)) ∧
    (x.msp.val = 1 → ad + w ≤ 0x400000 → s.m.holds (threadKey x.t) t = true → t.held.length < 16 →
      Yields c s fun u => (∃ t2, s.ThreadIs u (threadKey x.t) t2 ∧ t2.held.length = t.held.length + 1 ∧
          t2.held.take t.held.length = t.held) ∧
        (u.m.cl (threadKey x.t / 768)).shared = (s.m.cl (threadKey x.t / 768)).shared) := by
  subst hw
  exact ⟨fun hsp hin => localRow_stores hexec hs hc h hsrc had hst hsp hin hv,
    fun hsp hin hh => sharedRow_stores hexec hs hc h hsrc had hst hsp hin hh hv, sharedRow_holds hexec hs hc h hsrc had hst⟩

/-- An atomic in LOCAL and SHARED memory. -/
theorem atomicRow {old v : Nat} (hw : memWidth op = 8) (hst : isStore op = false) (hat : isAtomic op = true)
    (hv : atomicNew op old (if op = 10 ∨ op = 13 then a.toNat else 0) (if op < 6 then 0 else b.toNat) = v) (h : s.m.issuing c = some t)
    (had : ad % 8 = 0) :
    (x.msp.val = 0 → ad + 8 ≤ 1024 → x.bad = false → old = t.localRead ad 8 →
      Yields c s fun u => ∃ t2, s.ThreadIs u (threadKey x.t) t2 ∧ t2.Reads 8 old ∧
        (∀ k, t2.localByte k = if ad ≤ k ∧ k < ad + 8 then (toBytes 8 v).getD (k - ad) 0 else t.localByte k)) ∧
    (x.msp.val = 1 → ad + 8 ≤ 0x400000 → (s.m.cl (threadKey x.t / 768)).poisonedAt ad 8 = false → s.m.holds (threadKey x.t) t = false →
      old = beNat (memRead (s.m.cl (threadKey x.t / 768)).shared ad 8) →
      Yields c s fun u => (∃ t2, s.ThreadIs u (threadKey x.t) t2 ∧ t2.Reads 8 old) ∧
        (∀ k, memByte (u.m.cl (threadKey x.t / 768)).shared k = if ad ≤ k ∧ k < ad + 8 then (toBytes 8 v).getD (k - ad) 0
          else memByte (s.m.cl (threadKey x.t / 768)).shared k)) := by
  have had' : ad % memWidth op = 0 := hw.symm ▸ had
  exact ⟨localRow_swaps hexec hs hc h hsrc had' hst hat hw hv, sharedRow_swaps hexec hs hc h hsrc had' hst hat hw hv⟩

end

/-- A memory row that its thread does not issue, that holds a reserved encoding, or whose address is not aligned. -/
theorem memRow_refused {s : State} {c : Instr} {x : MemArgs} {op w : Nat} (hexec : exec c s = s.actLocks fun l m => m.memPart l c x op)
    (hs : s.Running) (hc : PartAt c x.t) (hw : memWidth op = w) :
    (s.m.issuing c = none → s.m.badWord c = none → Does c s s.m) ∧
      ((s.m.badWord c).isSome = true → Does c s (s.m.jobFault (threadKey x.t) 4)) ∧
      (∀ t, s.m.issuing c = some t → (s.m.source (threadKey x.t) t x.imm x.mad.val).1.toNat % w ≠ 0 →
        Does c s ((s.m.source (threadKey x.t) t x.imm x.mad.val).2.jobFault (threadKey x.t) 3)) := by
  subst hw
  obtain ⟨hidle, hbad⟩ := memRow_not_issued hexec hs hc
  exact ⟨hidle, hbad, fun t h had => memRow_misaligned hexec hs hc h had⟩

/-- Settles O46: each row comes to its operation at its address, in LOCAL or in SHARED memory. That a part which its thread does not issue is
without effect is log 7's choice. -/
theorem memoryRowsAccessLocalAndShared : Obligations.MemoryRowsAccessLocalAndShared := by
  refine ⟨fun s x t key c ad wad a b m1 m2 m3 hs hkey hcl hm1 had hm2 hm3 => ?_, fun s x hs => ?_⟩
  · subst hkey hcl
    have hsrc : MemSources s.m x t ad a b m1 m2 m3 := ⟨⟨wad, hm1, had⟩, hm2, hm3⟩
    refine ⟨?_, ?_, fun old => ?_⟩
    · simp only [List.forall_mem_cons]
      exact ⟨readRow (exec_rd8 x s) hs ⟨_, rfl, rfl⟩ hsrc rfl rfl rfl, readRow (exec_rd16 x s) hs ⟨_, rfl, rfl⟩ hsrc rfl rfl rfl,
        readRow (exec_rd32 x s) hs ⟨_, rfl, rfl⟩ hsrc rfl rfl rfl, readRow (exec_rd64 x s) hs ⟨_, rfl, rfl⟩ hsrc rfl rfl rfl,
        readRow (exec_rd128 x s) hs ⟨_, rfl, rfl⟩ hsrc rfl rfl rfl, List.forall_mem_nil _⟩
    · have low {v : Nat} : 0 * 2 ^ 64 + v = v := by omega
      simp only [List.forall_mem_cons]
      exact ⟨storeRow (exec_wr8 x s) hs ⟨_, rfl, rfl⟩ hsrc rfl rfl low, storeRow (exec_wr16 x s) hs ⟨_, rfl, rfl⟩ hsrc rfl rfl low,
        storeRow (exec_wr32 x s) hs ⟨_, rfl, rfl⟩ hsrc rfl rfl low, storeRow (exec_wr64 x s) hs ⟨_, rfl, rfl⟩ hsrc rfl rfl low,
        storeRow (exec_wr128 x s) hs ⟨_, rfl, rfl⟩ hsrc rfl rfl rfl, List.forall_mem_nil _⟩
    · simp only [List.forall_mem_cons]
      exact ⟨atomicRow (exec_aadd64 x s) hs ⟨_, rfl, rfl⟩ hsrc rfl rfl rfl rfl, atomicRow (exec_aor64 x s) hs ⟨_, rfl, rfl⟩ hsrc rfl rfl rfl rfl,
        atomicRow (exec_swap64 x s) hs ⟨_, rfl, rfl⟩ hsrc rfl rfl rfl rfl, atomicRow (exec_cas64 x s) hs ⟨_, rfl, rfl⟩ hsrc rfl rfl rfl rfl,
        List.forall_mem_nil _⟩
  · simp only [List.forall_mem_cons]
    exact ⟨memRow_refused (exec_rd8 x s) hs ⟨_, rfl, rfl⟩ rfl, memRow_refused (exec_rd16 x s) hs ⟨_, rfl, rfl⟩ rfl,
      memRow_refused (exec_rd32 x s) hs ⟨_, rfl, rfl⟩ rfl, memRow_refused (exec_rd64 x s) hs ⟨_, rfl, rfl⟩ rfl,
      memRow_refused (exec_rd128 x s) hs ⟨_, rfl, rfl⟩ rfl, memRow_refused (exec_wr8 x s) hs ⟨_, rfl, rfl⟩ rfl,
      memRow_refused (exec_wr16 x s) hs ⟨_, rfl, rfl⟩ rfl, memRow_refused (exec_wr32 x s) hs ⟨_, rfl, rfl⟩ rfl,
      memRow_refused (exec_wr64 x s) hs ⟨_, rfl, rfl⟩ rfl, memRow_refused (exec_wr128 x s) hs ⟨_, rfl, rfl⟩ rfl,
      memRow_refused (exec_aadd64 x s) hs ⟨_, rfl, rfl⟩ rfl, memRow_refused (exec_aor64 x s) hs ⟨_, rfl, rfl⟩ rfl,
      memRow_refused (exec_cas64 x s) hs ⟨_, rfl, rfl⟩ rfl, memRow_refused (exec_swap64 x s) hs ⟨_, rfl, rfl⟩ rfl, List.forall_mem_nil _⟩

end Sys2Proof.Machine
end

section
/-! SUPPORT. Memory operations in tables, registers, queues and SDRAM (R264 to R266, R283, R314), and the return of a read (R265). -/

namespace Sys2Proof.Machine

/-! ### TABLE -/

theorem tableEntry_of_fwd {m n : Mod} (h : n.fwd = m.fwd) (addr : Nat) : n.tableEntry addr = m.tableEntry addr := by
  unfold Mod.tableEntry Mod.tbl
  rw [h]

theorem Metered.fwd {m n : Mod} (h : Metered m n) : n.fwd = m.fwd := (congrArg Mod.fwd h.quiet :)

section
variable (n : Mod) (key : Nat) (t : Thread) (x : MemArgs) {addr : Nat}

/-- RD64 of a word that its entry has. -/
theorem tableOp_reads {e words : Nat} (he : n.tableEntry addr = some (e, words)) (hw : addr / 8 % 8 < words) :
    n.tableOp key t x 4 addr = n.memData key t x 4 (e / 2 ^ (64 * (addr / 8 % 8)) % 2 ^ 64) := by
  unfold Mod.tableOp
  rw [he]
  exact if_pos ⟨.inl rfl, hw⟩

theorem tableOp_fails (he : n.tableEntry addr = none) : n.tableOp key t x 4 addr = n.memFails key t x 4 := by
  unfold Mod.tableOp
  rw [he]

end

/-! ### REG -/

/-- A bad access is counted and told (R360). -/
theorem steady_badAccess (m : Mod) (p : Path) (q : Nat) : Keeps steady m (m.badAccess p q) :=
  ((steady_satAdd m GLB_GUARD_STATUS_BAD_ACCESSES 0 1 rfl).trans (steady_sqc _ GLB_EVENT_ACCESS 0 rfl)).trans (steady_event _ _)

theorem steady_fabricRead (m : Mod) (l : BitVec 5) (p : Path) (off : Nat) : Keeps steady m (m.fabricRead l p off).2 := by
  unfold Mod.fabricRead
  split
  · exact .refl m
  · split
    · exact steady_badAccess m p 2
    · split <;> exact .refl m

theorem readHeld_of_win {m n : Mod} (h : n.win = m.win) (p : Path) (off : Nat) : n.readHeld p off = m.readHeld p off := by
  unfold Mod.readHeld Mod.winBusy
  rw [h]

theorem Metered.win {m n : Mod} (h : Metered m n) : n.win = m.win := (congrArg Mod.win h.quiet :)

section
variable (n : Mod) (l : BitVec 5) (key : Nat) (t : Thread) (x : MemArgs) {addr b : Nat} (haddr : addr < 0x2000000)
include haddr

theorem regOp_reads (hh : n.readHeld (clusterPath key) addr = false) : n.regOp l key t x 4 addr b =
    (l, (n.fabricRead l (clusterPath key) addr).2.memData key t x 4 (n.fabricRead l (clusterPath key) addr).1.toNat) := by
  simp [Mod.regOp, Nat.not_le.2 haddr, hh]

/-- A write by the path of the cluster (R266): done, or refused. -/
theorem regOp_writes (hh : n.holds key t = false) : n.regOp l key t x 9 addr b =
    ((n.threadWrite l key addr (BitVec.ofNat 64 b)).1,
      if (n.threadWrite l key addr (BitVec.ofNat 64 b)).2.2 then (n.threadWrite l key addr (BitVec.ofNat 64 b)).2.1.memFails key t x 9
      else (n.threadWrite l key addr (BitVec.ofNat 64 b)).2.1.memDone key t x 9) := by
  simp [Mod.regOp, Nat.not_le.2 haddr, hh]

end

/-! ### QUEUE -/

theorem queueOp_reads (n : Mod) (key : Nat) (t : Thread) (x : MemArgs) {addr : Nat} (a b : Nat) (h8 : addr % 8 = 0) (hlo : 0x100 ≤ addr)
    (hhi : addr < 0x120) :
    n.queueOp key t x 4 addr a b = n.memData key t x 4 ((n.cl (key / 768)).queue ((addr - 0x100) / 8)).length := by
  simp [Mod.queueOp, h8, hlo, hhi]

/-- A thread with its push noted: whether there was room (R283). -/
def Thread.pushed (t : Thread) (ok : Bool) : Thread :=
  { t with mw := { t.mw with mem := some (10, 5), memErr := some false, qOk := some ok } }

theorem queueOp_pushes (n : Mod) (key : Nat) (t : Thread) (x : MemArgs) {addr : Nat} (a b : Nat) (h16 : addr % 16 = 0) (hhi : addr < 0x40)
    (hh : n.holds key t = false) :
    n.queueOp key t x 10 addr a b = (n.pushJob (addr / 16) t.job.hedge (BitVec.ofNat 128 (a * 2 ^ 64 + b))).2.setThread key
      (t.pushed (n.pushJob (addr / 16) t.job.hedge (BitVec.ofNat 128 (a * 2 ^ 64 + b))).1) := by
  simp [Mod.queueOp, h16, hhi, hh, Mod.setMicro, Thread.pushed]

theorem pushJob_taken {n : Mod} {c : Nat} (h : (n.cl c).queueFull 2 = false) (hedge : Nat) (desc : BitVec 128) :
    n.pushJob c hedge desc = (true, n.setCl c ((n.cl c).push 2 { desc := desc, hedge := hedge, kind := .push })) := by
  unfold Mod.pushJob
  simp [h]

theorem pushJob_full {n : Mod} {c : Nat} (h : (n.cl c).queueFull 2 = true) (hedge : Nat) (desc : BitVec 128) :
    n.pushJob c hedge desc = (false, n.bump (engCtr c 8)) := by
  unfold Mod.pushJob
  simp [h]

/-! ### SDRAM -/

/-- Registers on which rights in SDRAM and the channels in service rest (R311, R314, R328). -/
theorem drmMay_congr {m n : Mod} (h : Metered m n) (who : DrmRole) (write : Bool) (addr len : Nat) :
    n.drmMay who write addr len = m.drmMay who write addr len := by
  have hwindow : n.hedgeWindow = m.hedgeWindow := by
    funext i
    unfold Mod.hedgeWindow
    rw [h.get i rfl, h.get i rfl, h.flag 0 rfl]
  have hring (i a k : Nat) : n.inOwnRing i a k = m.inOwnRing i a k := by
    unfold Mod.inOwnRing
    rw [h.get i rfl, h.get i rfl]
  have hfold : n.foldServes addr len = m.foldServes addr len := by
    unfold Mod.foldServes
    rw [h.flag 0 rfl, hwindow]
  unfold Mod.drmMay
  simp only [hwindow, hring, hfold]

theorem drmServed_congr {m n : Mod} (h : Metered m n) (addr : Nat) : n.drmServed addr = m.drmServed addr := by
  have hstate (c : Nat) : n.get DRM_CH_STATUS_STATE c = m.get DRM_CH_STATUS_STATE c := h.get c rfl
  have serving (k : Mod) : k.servingOf addr = ([0, 1].filter fun c => k.get DRM_CH_STATUS_STATE c == 0).filter fun c =>
      !(interleaved addr && !(k.flag DRM_STATUS_FOLDED)) || c == addr / 256 % 2 := by
    unfold Mod.servingOf Mod.channelsOf
    generalize (interleaved addr && !(k.flag DRM_STATUS_FOLDED)) = one
    extract_lets up
    have hopen (b x y : Bool) : (b && (y && (b || x))) = (y && b) := by revert b x y; decide
    cases one with
    | true =>
      rw [if_pos rfl]
      simp only [up, List.filter_filter]
      refine List.filter_congr fun c _ => ?_
      exact hopen _ _ _
    | false =>
      rw [if_neg Bool.false_ne_true]
      simp only [up, List.filter_filter]
      refine List.filter_congr fun c _ => ?_
      exact hopen _ _ true
  unfold Mod.drmServed
  rw [serving, serving, h.flag 0 rfl]
  simp only [hstate]

theorem sdramOp_fails (n : Mod) (key : Nat) (t : Thread) (x : MemArgs) {addr : Nat} (a b : Nat)
    (h : n.drmMay (.job t.job.hedge) false addr 8 = false ∨ n.drmServed addr = false) :
    n.sdramOp key t x 4 addr a b = n.memFails key t x 4 := by
  unfold Mod.sdramOp
  exact if_pos (.inr h)

end Sys2Proof.Machine
end

section
/-! SUPPORT. The rows in tables, registers, queues and SDRAM (R264 to R266, R283, R314), and READ_RETURN (R265). -/

namespace Sys2Proof.Machine

/-! ### The operation of a space -/

section
variable (n : Mod) (l : BitVec 5) (key : Nat) (t : Thread) {x : MemArgs} (op addr a b : Nat)

theorem memAt_table (h : x.msp.val = 2) : n.memAt l key t x op addr a b = (l, n.tableOp key t x op addr) := by
  unfold Mod.memAt
  rw [h]
  rfl

theorem memAt_sdram (h : x.msp.val = 3) : n.memAt l key t x op addr a b = (l, n.sdramOp key t x op addr a b) := by
  unfold Mod.memAt
  rw [h]
  rfl

theorem memAt_reg (h : x.msp.val = 4) : n.memAt l key t x op addr a b = n.regOp l key t x op addr b := by
  unfold Mod.memAt
  rw [h]
  rfl

theorem memAt_queue (h : x.msp.val = 5) : n.memAt l key t x op addr a b = (l, n.queueOp key t x op addr a b) := by
  unfold Mod.memAt
  rw [h]
  rfl

end

/-! ### RD64 -/

section
variable {s : State} {x : MemArgs} {t : Thread} {ad : Nat} {a b : Word} {m1 m2 m3 : Mod} (hs : s.Running)
  (hsrc : MemSources s.m x t ad a b m1 m2 m3) (h : s.m.issuing (.rd64 x) = some t) (had : ad % 8 = 0)
include hs hsrc h had

/-- RD64 comes to its operation, of the module with its address drawn and its event counted. -/
theorem rd64_reaches : ∃ n, n = m1.epcThread (threadKey x.t) t (16 + x.msp.val) ∧ Metered s.m n ∧ ∀ l k,
    n.memAt s.locks (threadKey x.t) t x 4 ad 0 0 = (l, k) → exec (.rd64 x) s = .next { s with locks := l, m := k } :=
  memRow_reaches (exec_rd64 x s) hs ⟨_, rfl, rfl⟩ h hsrc had

theorem tableRow_reads (hsp : x.msp.val = 2) {e words : Nat} (he : s.m.tableEntry ad = some (e, words)) (hw : ad / 8 % 8 < words) :
    Yields (.rd64 x) s fun u => (∃ t2, s.ThreadIs u (threadKey x.t) t2 ∧ t2.Reads 8 (e / 2 ^ (64 * (ad / 8 % 8)) % 2 ^ 64)) ∧
      u.m.fwd = s.m.fwd := by
  obtain ⟨n, -, hn, hdo⟩ := rd64_reaches hs hsrc h had
  have hop := tableOp_reads n (threadKey x.t) t x ((tableEntry_of_fwd hn.fwd ad).trans he) hw
  obtain ⟨t2, ht, hread, -⟩ := memData_shows (u := { s with m := n.memData _ t x 4 _ }) x hn.steady.threads rfl
  exact ⟨_, hdo _ _ ((memAt_table n _ _ t _ _ _ _ hsp).trans (congrArg (s.locks, ·) hop)), ⟨t2, ht, hread⟩, hn.fwd⟩

theorem tableRow_fails (hsp : x.msp.val = 2) (he : s.m.tableEntry ad = none) :
    Yields (.rd64 x) s fun u => (∃ t2, s.ThreadIs u (threadKey x.t) t2 ∧ t2.ReadFails 8) ∧ u.m.fwd = s.m.fwd := by
  obtain ⟨n, -, hn, hdo⟩ := rd64_reaches hs hsrc h had
  have hop := tableOp_fails n (threadKey x.t) t x ((tableEntry_of_fwd hn.fwd ad).trans he)
  obtain ⟨t2, ht, hread, -⟩ := memFails_shows (u := { s with m := n.memFails _ t x 4 }) x hn.steady.threads rfl rfl
  exact ⟨_, hdo _ _ ((memAt_table n _ _ t _ _ _ _ hsp).trans (congrArg (s.locks, ·) hop)), ⟨t2, ht, hread⟩,
    (metered_failed n _ t).fwd.trans hn.fwd⟩

theorem sdramRow_fails (hsp : x.msp.val = 3) (hout : s.m.drmMay (.job t.job.hedge) false ad 8 = false ∨ s.m.drmServed ad = false) :
    Yields (.rd64 x) s fun u => ∃ t2, s.ThreadIs u (threadKey x.t) t2 ∧ t2.ReadFails 8 := by
  obtain ⟨n, -, hn, hdo⟩ := rd64_reaches hs hsrc h had
  have hop := sdramOp_fails n (threadKey x.t) t x 0 0 (hout.imp (drmMay_congr hn _ _ _ _).trans (drmServed_congr hn _).trans)
  obtain ⟨t2, ht, hread, -⟩ := memFails_shows (u := { s with m := n.memFails _ t x 4 }) x hn.steady.threads rfl rfl
  exact ⟨_, hdo _ _ ((memAt_sdram n _ _ t _ _ _ _ hsp).trans (congrArg (s.locks, ·) hop)), t2, ht, hread⟩

theorem regRow_reads (hsp : x.msp.val = 4) (haddr : ad < 0x2000000) (hh : s.m.readHeld (clusterPath (threadKey x.t)) ad = false) :
    Yields (.rd64 x) s fun u => (∃ t2, s.ThreadIs u (threadKey x.t) t2 ∧ t2.Reads 8
      ((m1.epcThread (threadKey x.t) t 20).fabricRead s.locks (clusterPath (threadKey x.t)) ad).1.toNat) ∧ u.locks = s.locks := by
  obtain ⟨n, hm1, hn, hdo⟩ := rd64_reaches hs hsrc h had
  rw [hsp] at hm1
  rw [← hm1]
  have hop := regOp_reads n s.locks (threadKey x.t) t x (b := 0) haddr ((readHeld_of_win hn.win _ _).trans hh)
  obtain ⟨t2, ht, hread, -⟩ := memData_shows (u := { s with m := Mod.memData _ (threadKey x.t) t x 4 _ }) x
    ((steady_fabricRead n s.locks (clusterPath (threadKey x.t)) ad).threads.trans hn.steady.threads) rfl
  exact ⟨_, hdo _ _ ((memAt_reg n _ _ t _ _ _ _ hsp).trans hop), ⟨t2, ht, hread⟩, rfl⟩

theorem queueRow_reads (hsp : x.msp.val = 5) (hlo : 0x100 ≤ ad) (hhi : ad < 0x120) :
    Yields (.rd64 x) s fun u => ∃ t2, s.ThreadIs u (threadKey x.t) t2 ∧
      t2.Reads 8 (((m1.epcThread (threadKey x.t) t 21).cl (threadKey x.t / 768)).queue ((ad - 0x100) / 8)).length := by
  obtain ⟨n, hm1, hn, hdo⟩ := rd64_reaches hs hsrc h had
  rw [hsp] at hm1
  rw [← hm1]
  have hop := queueOp_reads n (threadKey x.t) t x 0 0 had hlo hhi
  obtain ⟨t2, ht, hread, -⟩ := memData_shows (u := { s with m := n.memData _ t x 4 _ }) x hn.steady.threads rfl
  exact ⟨_, hdo _ _ ((memAt_queue n _ _ t _ _ _ _ hsp).trans (congrArg (s.locks, ·) hop)), t2, ht, hread⟩

end

/-! ### WR64 and WR128 -/

section
variable {s : State} {x : MemArgs} {t : Thread} {ad : Nat} {a b : Word} {m1 m2 m3 : Mod} (hs : s.Running)
  (hsrc : MemSources s.m x t ad a b m1 m2 m3) (hh : s.m.holds (threadKey x.t) t = false)
include hs hsrc hh

/-- WR64 in REG is a write by the cluster's path: done, or refused. -/
theorem regRow_writes (h : s.m.issuing (.wr64 x) = some t) (had : ad % 8 = 0) (hsp : x.msp.val = 4) (haddr : ad < 0x2000000)
    {w : BitVec 5 × Mod × Bool} (hw : w = (m2.epcThread (threadKey x.t) t 20).threadWrite s.locks (threadKey x.t) ad b) :
    exec (.wr64 x) s = .next { s with
      locks := w.1, m := if w.2.2 then w.2.1.memFails (threadKey x.t) t x 9 else w.2.1.memDone (threadKey x.t) t x 9 } := by
  obtain ⟨n, hm2, hn, hdo⟩ := memRow_reaches (exec_wr64 x s) hs ⟨_, rfl, rfl⟩ h hsrc had
  have hn2 : n = m2.epcThread (threadKey x.t) t 20 := by
    rw [hm2, hsp]
    rfl
  have hop := regOp_writes n s.locks (threadKey x.t) t x (b := b.toNat) haddr ((holds_of_engHeld hn.held _ t).trans hh)
  rw [BitVec.ofNat_toNat, BitVec.setWidth_eq, hn2, ← hw, ← hn2] at hop
  exact hdo _ _ ((memAt_reg n _ _ t _ _ _ _ hsp).trans hop)

/-- WR128 in QUEUE pushes a job of the thread's Hedge to the cluster that its address names. -/
theorem queueRow_pushes (h : s.m.issuing (.wr128 x) = some t) (had : ad % 16 = 0) (hsp : x.msp.val = 5) (haddr : ad < 0x40) :
    ∃ n, Metered s.m n ∧ Does (.wr128 x) s
      ((n.pushJob (ad / 16) t.job.hedge (BitVec.ofNat 128 (a.toNat * 2 ^ 64 + b.toNat))).2.setThread (threadKey x.t)
        (t.pushed (n.pushJob (ad / 16) t.job.hedge (BitVec.ofNat 128 (a.toNat * 2 ^ 64 + b.toNat))).1)) := by
  obtain ⟨n, -, hn, hdo⟩ := memRow_reaches (exec_wr128 x s) hs ⟨_, rfl, rfl⟩ h hsrc had
  have hop := queueOp_pushes n (threadKey x.t) t x a.toNat b.toNat had haddr ((holds_of_engHeld hn.held _ t).trans hh)
  exact ⟨n, hn, hdo _ _ ((memAt_queue n _ _ t _ _ _ _ hsp).trans (congrArg (s.locks, ·) hop))⟩

theorem queueRow_taken (h : s.m.issuing (.wr128 x) = some t) (had : ad % 16 = 0) (hsp : x.msp.val = 5) (haddr : ad < 0x40)
    (hroom : (s.m.cl (ad / 16)).queueFull 2 = false) : Yields (.wr128 x) s fun u =>
      (u.m.cl (ad / 16)).ij = (s.m.cl (ad / 16)).ij ++
        [{ desc := BitVec.ofNat 128 (a.toNat * 2 ^ 64 + b.toNat), hedge := t.job.hedge, kind := .push }] ∧
      (∃ t2, s.ThreadIs u (threadKey x.t) t2 ∧ t2.mw.qOk = some true) := by
  obtain ⟨n, hn, hdo⟩ := queueRow_pushes hs hsrc hh h had hsp haddr
  rw [pushJob_taken ((queueFull_of_engHeld hn.held _ (by decide)).trans hroom)] at hdo
  have hij : (n.cl (ad / 16)).ij = (s.m.cl (ad / 16)).ij := queue_of_engHeld hn.held _ (j := 2) (by decide)
  refine yields_of_does hdo ⟨?_, _, threadIs_setThread rfl ((threads_setCl n _ _).1.trans hn.steady.threads), rfl⟩
  rw [← hij]
  exact congrArg Cluster.ij (cl_setCl_self n (ad / 16) _)

theorem queueRow_full (h : s.m.issuing (.wr128 x) = some t) (had : ad % 16 = 0) (hsp : x.msp.val = 5) (haddr : ad < 0x40)
    (hfull : (s.m.cl (ad / 16)).queueFull 2 = true) : Yields (.wr128 x) s fun u =>
      (∀ k, (u.m.cl k).ij = (s.m.cl k).ij) ∧ (∃ t2, s.ThreadIs u (threadKey x.t) t2 ∧ t2.mw.qOk = some false) := by
  obtain ⟨n, hn, hdo⟩ := queueRow_pushes hs hsrc hh h had hsp haddr
  rw [pushJob_full ((queueFull_of_engHeld hn.held _ (by decide)).trans hfull)] at hdo
  have hbump := hn.trans (metered_bump n (engCtr (ad / 16) 8) 1)
  exact yields_of_does hdo ⟨fun k => queue_of_engHeld hbump.held k (j := 2) (by decide),
    _, threadIs_setThread rfl hbump.steady.threads, rfl⟩

end

/-! ### READ_RETURN -/

/-- The thread with the data v of its read q in its pair (R265). -/
def Thread.returned (t : Thread) (q : ReadOut) (v : Nat) : Thread :=
  { t with rd0 := BitVec.ofNat 64 v, rd1 := if q.width = 16 then BitVec.ofNat 64 (v / 2 ^ 64) else 0, rdReady := true,
           memErr := t.memErr || q.failed, read := none, waiting := false }

section
variable {m : Mod} {key : Nat} {t : Thread} (ht : m.thread key = some t)
include ht

/-- Without data, or in the microword that reads, nothing returns. -/
theorem readReturn_idle (h : t.read = none ∨ t.mw.reads = true ∨ ∃ q, t.read = some q ∧ q.data = none) : m.readReturn key = m := by
  unfold Mod.readReturn
  rw [ht]
  obtain hr | hr | ⟨q, hr, hd⟩ := h
  · simp only [hr]
  · simp only [hr, if_true]
    split
    · split <;> rfl
    · rfl
  · simp only [hr, hd]

/-- The data return, and a thread that was blocked is ready behind the others. -/
theorem readReturn_returns {q : ReadOut} {v : Nat} (hr : t.read = some q) (hd : q.data = some v) (hm : t.mw.reads = false) :
    m.readReturn key = m.joinReady key (t.returned q v) ∨ m.readReturn key = m.setThread key (t.returned q v) := by
  unfold Mod.readReturn
  rw [ht]
  simp only [hr, hd, hm]
  rw [if_neg Bool.false_ne_true]
  by_cases hb : (t.waiting || !(m.ready key t)) = true
  · exact .inl (if_pos hb)
  · exact .inr (if_neg hb)

/-- The thread that a return leaves, of some turn. -/
theorem thread_readReturn {q : ReadOut} {v : Nat} (hr : t.read = some q) (hd : q.data = some v) (hm : t.mw.reads = false) :
    ∃ k, (m.readReturn key).thread key = some { t.returned q v with turn := k } := by
  obtain h | h := readReturn_returns ht hr hd hm
  · exact ⟨m.eng.turn, by rw [h, thread_joinReady, if_pos rfl]⟩
  · exact ⟨t.turn, by rw [h, thread_setThread, if_pos rfl]; rfl⟩

end

/-- Settles O47: each row comes to its operation in its space, and READ_RETURN to the thread's pair, with the fences settled behind it. -/
theorem tablesRegistersAndQueuesFromMicrocode : Obligations.TablesRegistersAndQueuesFromMicrocode := by
  refine ⟨fun s x t key c ad wad a b m1 m2 m3 hs hkey hcl hm1 had hm2 hm3 => ?_, fun s r t hs ht => ⟨fun h => ?_, fun q v hr hd hm he => ?_⟩⟩
  · subst hkey hcl
    have hsrc : MemSources s.m x t ad a b m1 m2 m3 := ⟨⟨wad, hm1, had⟩, hm2, hm3⟩
    refine ⟨fun hsp h8 h => ⟨fun e n he hw => tableRow_reads hs hsrc h h8 hsp he hw, tableRow_fails hs hsrc h h8 hsp⟩,
      fun hsp h8 haddr => ⟨fun h hh => regRow_reads hs hsrc h h8 hsp haddr hh, fun h hh w hw => ⟨fun hok => ?_, fun hbad => ?_⟩⟩,
      fun hsp => ⟨fun h h8 hlo hhi => queueRow_reads hs hsrc h h8 hsp hlo hhi, fun h h16 haddr hh =>
        ⟨queueRow_taken hs hsrc hh h h16 hsp haddr, queueRow_full hs hsrc hh h h16 hsp haddr⟩⟩,
      fun hsp h8 h hout => sdramRow_fails hs hsrc h h8 hsp hout⟩
    · have hdo := regRow_writes hs hsrc hh h h8 hsp haddr hw
      rwa [hok, if_neg Bool.false_ne_true] at hdo
    · have hdo := regRow_writes hs hsrc hh h h8 hsp haddr hw
      rwa [hbad, if_pos rfl] at hdo
  · exact does_act (exec_readReturn r s) hs (congrArg Mod.settleEnds (readReturn_idle ht h))
  · obtain ⟨k, hk⟩ := thread_readReturn ht hr hd hm
    obtain ⟨-, j, -, hlast⟩ := stands_settleEnds hk he (Nat.zero_le _) (Nat.zero_le _)
    refine yields_of_does (does_act (exec_readReturn r s) hs rfl) ⟨_, hlast, BitVec.toNat_ofNat v 64, ?_, rfl, rfl, rfl, rfl, rfl, rfl⟩
    show BitVec.toNat (if q.width = 16 then BitVec.ofNat 64 (v / 2 ^ 64) else 0) = _
    split
    · exact BitVec.toNat_ofNat _ 64
    · rfl

end Sys2Proof.Machine
end

section
/-! SUPPORT. What counters, events, records, discards and admissions leave of the engines: events join the event queues (R281), and no more. -/

namespace Sys2Proof.Machine

/-! ### The relation -/

/-- From m to n events may have joined event queues; the engines are otherwise as they were. -/
structure EvGrows (m n : Mod) : Prop where
  held : Keeps engHeld m n
  ev : ∀ c, ∃ q, (n.cl c).ev = (m.cl c).ev ++ q

theorem EvGrows.same {m n : Mod} (h : n.eng = m.eng) : EvGrows m n := by
  refine ⟨engHeld_of_eng h, fun c => ⟨[], ?_⟩⟩
  unfold Mod.cl
  rw [h, List.append_nil]

theorem EvGrows.refl (m : Mod) : EvGrows m m := .same rfl

theorem EvGrows.trans {a b c : Mod} (h : EvGrows a b) (k : EvGrows b c) : EvGrows a c := by
  refine ⟨h.held.trans k.held, fun d => ?_⟩
  obtain ⟨p, hp⟩ := h.ev d
  obtain ⟨q, hq⟩ := k.ev d
  exact ⟨p ++ q, by rw [hq, hp, List.append_assoc]⟩

theorem EvGrows.ite {m a b : Mod} {c : Prop} [Decidable c] (ha : EvGrows m a) (hb : EvGrows m b) : EvGrows m (if c then a else b) := by
  split
  · exact ha
  · exact hb

theorem EvGrows.foldl {β : Type} (f : Mod → β → Mod) (h : ∀ m b, EvGrows m (f m b)) (l : List β) (m : Mod) : EvGrows m (l.foldl f m) := by
  induction l generalizing m with
  | nil => exact .refl m
  | cons b l ih => exact (h m b).trans (ih (f m b))

section
variable {m n : Mod} (h : EvGrows m n)
include h

theorem EvGrows.threads : n.eng.threads = m.eng.threads := (congrArg EngSt.threads h.held :)

/-- A queue keeps its jobs, and only the event queue takes more. -/
theorem EvGrows.queue (c k : Nat) : ∃ q, (n.cl c).queue k = (m.cl c).queue k ++ q := by
  by_cases hk : k = 1
  · subst hk
    exact h.ev c
  · exact ⟨[], by rw [queue_of_engHeld h.held c hk, List.append_nil]⟩

end

/-! ### Counters and events -/

theorem evGrows_pushEvent (m : Mod) (c : Nat) (j : Job) : EvGrows m (m.setCl c ((m.cl c).push 1 j)) := by
  refine ⟨engHeld_pushEvent m c j, fun d => ?_⟩
  obtain ⟨hk, hd⟩ | hd := cl_setCl_cases m c d ((m.cl c).push 1 j)
  · exact ⟨[j], by rw [hk, hd]; rfl⟩
  · exact ⟨[], by rw [hd, List.append_nil]⟩

theorem evGrows_eventVia (n : Nat) (m : Mod) (e : Ev) : EvGrows m (Mod.eventVia n m e) := by
  induction n generalizing m e with
  | zero => exact .refl m
  | succ n ih =>
    unfold Mod.eventVia
    split
    · exact .refl m
    · extract_lets c
      refine .ite ?_ (evGrows_pushEvent m c _)
      unfold Mod.evDrop
      extract_lets k v m1
      have h1 : EvGrows m m1 := .same (setCtr_eng m _ _)
      exact .ite (h1.trans ((EvGrows.same (eng_eventRings m1 _)).trans (ih _ _))) h1

theorem evGrows_event (m : Mod) (e : Ev) : EvGrows m (m.event e) := (EvGrows.same (eng_eventRings m e)).trans (evGrows_eventVia 5 _ e)

theorem evGrows_bump (m : Mod) (c : Ctr) (n : Nat) : EvGrows m (m.bump c n) := by
  unfold Mod.bump
  extract_lets v m1
  have h1 : EvGrows m m1 := .same (setCtr_eng m _ _)
  have half : EvGrows m1 (m1.halfBit c) := by
    unfold Mod.halfBit
    exact .ite (.same (sqcBit_eng m1 _ _ _)) (.ite (.same (sqcBit_eng m1 _ _ _)) (.ite (.same (sqcBit_eng m1 _ _ _)) (.refl m1)))
  exact .ite (h1.trans (half.trans (evGrows_event _ _))) h1

theorem evGrows_eventRated (m : Mod) (k : Nat) (e : Ev) : EvGrows m (m.eventRated k e) := by
  unfold Mod.eventRated
  extract_lets g
  have hg : EvGrows m g.2 := by
    unfold g Mod.rateGate
    split
    · split <;> exact .same rfl
    · exact .same rfl
  exact .ite (hg.trans (evGrows_event g.2 e)) (.refl m)

theorem evGrows_set (m : Mod) (f : Fld) (i v : Nat) : EvGrows m (m.set f i v) := .same (set_eng m f i v)

theorem evGrows_withPrt (m : Mod) (x : PrtSt) : EvGrows m (m.withPrt x) := .same rfl

theorem evGrows_withSch (m : Mod) (x : SchSt) : EvGrows m (m.withSch x) := .same rfl

theorem evGrows_sqc (m : Mod) (f : Fld) (i : Nat) : EvGrows m (m.sqc f i) := .same (sqcBit_eng m f 0 i)

theorem evGrows_epcAdd (m : Mod) (c phys n k : Nat) : EvGrows m (m.epcAdd c phys n k) := by
  unfold Mod.epcAdd
  extract_lets i v m1
  have h1 : EvGrows m m1 := evGrows_set m _ _ _
  have raised (m : Mod) : EvGrows m (m.epcRaise c phys 1 n) := (EvGrows.same (sqcBit_eng m _ _ c)).trans (evGrows_eventRated _ _ _)
  exact .ite (evGrows_set m _ i v) (h1.trans (.ite (.refl m1) ((EvGrows.same (sqcBit_eng m1 _ _ _)).trans (raised _))))

theorem evGrows_epcThread (m : Mod) (key : Nat) (t : Thread) (ev k : Nat) : EvGrows m (m.epcThread key t ev k) := by
  unfold Mod.epcThread Mod.epcCount
  exact .ite (.refl m) (.foldl _ (fun m n => .ite (evGrows_epcAdd m _ _ n k) (.refl m)) _ m)

theorem evGrows_engEvent (m : Mod) (c code q : Nat) : EvGrows m (m.engEvent c code q) := (evGrows_sqc m _ c).trans (evGrows_event _ _)

theorem evGrows_setClusterState (m : Mod) (c st : Nat) : EvGrows m (m.setClusterState c st) :=
  (evGrows_set m _ c st).trans (evGrows_engEvent _ c 6 st)

/-! ### Cells and references -/

theorem evGrows_xoffRelease (m : Mod) (key : Nat) : EvGrows m (m.xoffRelease key) := by
  unfold Mod.xoffRelease
  extract_lets p n x m1
  have h1 : EvGrows m m1 := .same rfl
  exact h1.trans (.ite ((evGrows_set m1 _ p _).trans (evGrows_withPrt _ _)) (.refl m1))

theorem evGrows_xoffAssert (m : Mod) (key : Nat) : EvGrows m (m.xoffAssert key) := by
  unfold Mod.xoffAssert
  extract_lets p n x m1
  have h1 : EvGrows m m1 := by
    refine EvGrows.trans ?_ (evGrows_bump _ _ _)
    exact .same rfl
  exact h1.trans (.ite ((evGrows_set m1 _ p _).trans (evGrows_withPrt _ _)) (.refl m1))

theorem evGrows_xoffUpdate (m : Mod) : EvGrows m m.xoffUpdate := by
  unfold Mod.xoffUpdate
  refine .foldl _ (fun m key => ?_) _ m
  unfold Mod.xoffOne
  extract_lets p used low
  exact .ite (.ite (evGrows_xoffRelease m key) (.refl m)) (.ite (evGrows_xoffAssert m key) (.refl m))

theorem evGrows_account (m : Mod) (f : Frame) (on : Bool) : EvGrows m (m.account f on) := by
  unfold Mod.account
  extract_lets mv tb key m1 m2 m3 m4 m5
  have hmv (m : Mod) (fl : Fld) (i n : Nat) : EvGrows m (mv m fl i n) := .ite (.refl m) (.ite (evGrows_set m fl i _) (evGrows_set m fl i _))
  have h4 : EvGrows m m4 := (((hmv m _ _ _).trans (hmv m1 _ _ _)).trans (hmv m2 _ _ _)).trans (hmv m3 _ _ _)
  have h5 : EvGrows m4 m5 := by
    unfold m5
    split
    · exact hmv m4 _ _ _
    · exact .refl m4
  exact (h4.trans h5).trans (.same rfl)

theorem evGrows_deref (m : Mod) (id : Nat) : EvGrows m (m.deref id) := by
  unfold Mod.deref
  split
  · exact .refl m
  · refine .ite ?_ (.same rfl)
    extract_lets _ n
    have hn : EvGrows m n := .same rfl
    exact ((hn.trans (evGrows_set n _ _ _)).trans (evGrows_account _ _ false)).trans (evGrows_xoffUpdate _)

theorem evGrows_orphan (m : Mod) (c : Nat) (j : Job) : EvGrows m (m.orphan c j) := by
  unfold Mod.orphan
  split
  · exact (evGrows_bump m _ _).trans (evGrows_deref _ _)
  · exact .refl m

/-! ### Records -/

theorem evGrows_clipDrop (m : Mod) (h ctr : Nat) : EvGrows m (m.clipDrop h ctr) := (evGrows_bump m (clpCtr h ctr) 1).trans (.same rfl)

theorem evGrows_writerLevels (m : Mod) : EvGrows m m.writerLevels := by
  unfold Mod.writerLevels
  extract_lets level
  have hlevel (m : Mod) (fill panic : Fld) (c : Nat) : EvGrows m (level m fill panic c) :=
    (evGrows_set m fill 0 _).trans (.ite (evGrows_set _ panic 0 1) (.ite (evGrows_set _ panic 0 0) (.refl _)))
  exact (hlevel _ _ _ _).trans (hlevel _ _ _ _)

theorem evGrows_clipOffer (m : Mod) (h w : Nat) : EvGrows m (m.clipOffer h w) := by
  unfold Mod.clipOffer
  extract_lets t t' n c
  have hn : EvGrows m n := .same rfl
  refine .ite (.refl m) (.ite (evGrows_clipDrop m h 5) (.ite (evGrows_clipDrop m h 2) (.ite (evGrows_clipDrop m h 1) (hn.trans (.ite ?_ ?_)))))
  · exact ((evGrows_clipDrop n h 2).trans (evGrows_sqc _ _ 0)).trans (evGrows_eventRated _ _ _)
  · refine EvGrows.trans ?_ (evGrows_writerLevels _)
    exact .same rfl

theorem evGrows_clipCopyDiscard (m : Mod) (f : Frame) (d n carry : Nat) : EvGrows m (m.clipCopyDiscard f d n carry) := by
  unfold Mod.clipCopyDiscard
  exact .ite (.refl m) (evGrows_clipOffer m _ _)

theorem evGrows_sampleIn (m : Mod) (p : Nat) (drawn : Option Bool) : EvGrows m (m.sampleIn p drawn).2 := by
  have counted (m : Mod) (taken : Bool) : EvGrows m (m.countIn p taken) := by
    unfold Mod.countIn
    extract_lets n
    have hn : EvGrows m n := evGrows_bump m _ 1
    exact .ite (.refl m) (hn.trans (.ite (evGrows_bump n _ 1) (.refl n)))
  unfold Mod.sampleIn
  split
  · exact counted m _
  · refine EvGrows.trans ?_ (counted _ _)
    unfold Mod.drawIn Mod.sampleDraw
    split
    · exact .refl m
    · split <;> exact .same rfl

theorem evGrows_clipIngress (m : Mod) (h : Nat) (f : Frame) (disc : Option (Nat × Nat)) (dest : Nat) :
    EvGrows m (m.clipIngress h f disc dest) := by
  unfold Mod.clipIngress
  extract_lets d _ s n trunc classifier
  have hn : EvGrows m n := by
    unfold n s
    split
    · exact .refl m
    · exact evGrows_sampleIn m _ _
  refine .ite (.refl m) (.ite (.same rfl) (hn.trans ?_))
  split
  · exact .refl n
  · exact evGrows_clipOffer n _ _

/-! ### Copies discarded -/

theorem evGrows_dropCopy (m : Mod) (d : Nat) (c : Copy) (code carry : Nat) : EvGrows m (m.dropCopy d c code carry) := by
  unfold Mod.dropCopy
  split
  · exact .refl m
  · rename_i f _
    extract_lets n
    have hn : EvGrows m n := (evGrows_bump m _ _).trans (evGrows_bump _ _ _)
    have unqueued (m : Mod) : EvGrows m (m.unqueue d f) := .same rfl
    exact ((hn.trans (evGrows_clipCopyDiscard n f d code carry)).trans (unqueued _)).trans (evGrows_deref _ c.frame)

theorem evGrows_flushQueued (m : Mod) (d code : Nat) (which : Frame → Bool) : EvGrows m (m.flushQueued d code which) := by
  have drops (l : List Copy) (m : Mod) : EvGrows m (l.foldl (fun m' c => m'.dropCopy d c code 3) m) :=
    .foldl _ (fun m c => evGrows_dropCopy m d c code 3) l m
  have requeued (m : Mod) (k : Nat) (q : List Copy) : EvGrows m (m.setVoq k q) := .same rfl
  have relaunched (m : Mod) (k : Nat) (q : List Copy) : EvGrows m (m.setLaunchQ d k q) :=
    (evGrows_withSch m _).trans (evGrows_set _ _ d _)
  unfold Mod.flushQueued
  extract_lets pick m1
  have h1 : EvGrows m m1 := .foldl _ (fun m k => (requeued m k _).trans (drops _ _)) _ m
  refine h1.trans (.ite (.refl m1) (.foldl _ (fun m c => ?_) _ m1))
  exact .ite (.refl m) ((relaunched m c _).trans (drops _ _))

/-! ### Admission -/

theorem evGrows_discardFrame (m : Mod) (f : Frame) (code : Nat) : EvGrows m (m.discardFrame f code) := by
  unfold Mod.discardFrame
  extract_lets h m1 m2 m3
  have h1 : EvGrows m m1 := evGrows_bump m _ 1
  have h2 : EvGrows m1 m2 := by
    unfold m2
    split
    · refine .ite (evGrows_bump m1 _ 1) (.ite ?_ (.refl m1))
      exact ((evGrows_bump m1 _ 1).trans (evGrows_sqc _ _ _)).trans (evGrows_eventRated _ _ _)
    · exact .refl m1
  have h3 : EvGrows m2 m3 := .ite (((evGrows_bump m2 _ 1).trans (evGrows_sqc _ _ 0)).trans (evGrows_eventRated _ _ _)) (.refl m2)
  exact ((h1.trans h2).trans h3).trans (evGrows_clipIngress m3 _ f _ _)

theorem evGrows_refuseCopy (m : Mod) (f : Frame) (d code : Nat) : EvGrows m (m.refuseCopy f d code) :=
  ((evGrows_bump m _ 1).trans (evGrows_bump _ _ 1)).trans (evGrows_clipCopyDiscard _ f d code 3)

theorem evGrows_writeCells (m : Mod) (f : Frame) (n : Nat) : EvGrows m (m.writeCells f n).2.2 := by
  unfold Mod.writeCells
  extract_lets ch part f1
  refine .ite (.refl m) (EvGrows.trans ?_ (evGrows_xoffUpdate _))
  refine (evGrows_account m part true).trans ?_
  unfold Mod.sharedExhausted
  exact .ite ((evGrows_sqc _ _ 0).trans (evGrows_eventRated _ _ _)) (.refl _)

/-- A fold over targets, each of which may be refused or counted. -/
theorem evGrows_targets (f : List (Nat × Option Nat) × Mod → Nat × Option Nat → List (Nat × Option Nat) × Mod)
    (h : ∀ a t, EvGrows a.2 (f a t).2) (l : List (Nat × Option Nat)) (a : List (Nat × Option Nat) × Mod) : EvGrows a.2 (l.foldl f a).2 := by
  induction l generalizing a with
  | nil => exact .refl a.2
  | cons t l ih => exact (h a t).trans (ih (f a t))

theorem evGrows_liveTargets (m : Mod) (f : Frame) (group : Bool) (l : List (Nat × Option Nat)) : EvGrows m (m.liveTargets f group l).2 := by
  unfold Mod.liveTargets
  refine evGrows_targets _ (fun a t => ?_) l ([], m)
  extract_lets n p
  split
  · exact .refl _
  · split
    · split
      · exact .refl _
      · exact evGrows_bump _ _ 1
    · split
      · exact evGrows_refuseCopy _ f _ _
      · split
        · exact .refl _
        · exact evGrows_refuseCopy _ f _ _

theorem evGrows_passCopies (m : Mod) (f : Frame) (n ns : Nat) (l : List (Nat × Option Nat)) : EvGrows m (m.passCopies f n ns l).2 := by
  unfold Mod.passCopies
  refine evGrows_targets _ (fun a t => ?_) l ([], m)
  extract_lets code
  split
  · exact .refl _
  · exact evGrows_refuseCopy _ f _ _

theorem evGrows_recordCopies (m : Mod) (f : Frame) (l : List (Nat × Option Nat)) : EvGrows m (m.recordCopies f l).2 := by
  unfold Mod.recordCopies
  refine evGrows_targets _ (fun a t => ?_) l ([], m)
  extract_lets n used
  split
  · exact .refl _
  · split
    · exact .refl _
    · exact evGrows_refuseCopy _ f _ _

theorem evGrows_linkCopy (m : Mod) (id : Nat) (f : Frame) (t : Nat × Option Nat) : EvGrows m (m.linkCopy id f t) := by
  unfold Mod.linkCopy
  extract_lets k m1 m2 _ m3
  have h1 : EvGrows m m1 := .same rfl
  have h3 : EvGrows m2 m3 := .same rfl
  exact ((h1.trans (evGrows_set m1 _ _ _)).trans h3).trans (evGrows_bump m3 _ 1)

theorem evGrows_linkFrame (m : Mod) (f : Frame) (l : List (Nat × Option Nat)) : EvGrows m (m.linkFrame f l).2 := by
  unfold Mod.linkFrame
  extract_lets extra id f1 _ m1 m2
  have h1 : EvGrows m m1 := .same rfl
  have h2 : EvGrows m1 m2 := (evGrows_set m1 _ _ _).trans (evGrows_bump _ _ 1)
  exact (h1.trans h2).trans (.foldl _ (fun m t => evGrows_linkCopy m id f1 t) l m2)

theorem evGrows_freeCharge (m : Mod) (f : Frame) : EvGrows m (m.freeCharge f) := (evGrows_account m f false).trans (evGrows_xoffUpdate _)

theorem evGrows_letIn (m : Mod) (f : Frame) (group : Bool) (l : List (Nat × Option Nat)) (fail : Nat) :
    EvGrows m (m.letIn f group l fail) := by
  unfold Mod.letIn
  have discarded (m : Mod) (f : Frame) (code : Nat) : EvGrows m ((m.discardFrame f code).freeCharge f) :=
    (evGrows_discardFrame m f code).trans (evGrows_freeCharge _ f)
  extract_lets w f1 m1 free live m2 lossless code pass rec_ m3
  have h1 : EvGrows m m1 := by
    unfold m1 w
    split
    · exact .refl m
    · exact evGrows_writeCells m f _
  have h2 : EvGrows m1 m2 := evGrows_liveTargets m1 f1 group l
  have h3 : EvGrows m2 m3 := by
    have hpass : EvGrows m2 pass.2 := by
      unfold pass
      split
      · exact .refl m2
      · exact evGrows_passCopies m2 f1 _ _ _
    exact (hpass.trans (evGrows_recordCopies _ f1 _)).trans (evGrows_clipIngress _ _ f1 _ _)
  refine .ite (discarded m f 11) (h1.trans (.ite (discarded m1 f1 _) (h2.trans (.ite ?_ (.ite (discarded m2 f1 _) (h3.trans (.ite ?_ ?_)))))))
  · exact EvGrows.trans (.ite (evGrows_discardFrame m2 f1 9) (evGrows_clipIngress m2 _ f1 _ _)) (evGrows_freeCharge _ f1)
  · exact evGrows_freeCharge m3 f1
  · exact (evGrows_linkFrame m3 f1 _).trans (evGrows_xoffUpdate _)

/-! ### The exception path -/

theorem evGrows_excTake (m : Mod) (h r : Nat) : EvGrows m (m.excTake h r).2 := by
  unfold Mod.excTake
  extract_lets k have_ _ m1 quiet _ m2
  have h2 : EvGrows m m2 := (evGrows_bump m _ 1).trans (.same rfl)
  split
  · exact .same rfl
  · exact h2.trans (.ite ((evGrows_sqc _ _ 0).trans (evGrows_event _ _)) (.refl m2))

theorem evGrows_toException (m : Mod) (f : Frame) (r stop : Nat) : EvGrows m (m.toException f r stop).2 := by
  unfold Mod.toException
  extract_lets h t m1 dest
  have ht : EvGrows m t.2 := evGrows_excTake m h r
  split
  · exact (evGrows_bump m _ 1).trans (evGrows_clipIngress _ h f _ _)
  · split
    · exact ht.trans (evGrows_bump _ _ 1)
    · exact ht.trans (evGrows_clipIngress _ h f _ _)

theorem evGrows_admitted (r : Option Decision × Mod) : EvGrows r.2 (admitted r) := by
  unfold admitted
  split
  · exact evGrows_letIn r.2 _ _ _ 0
  · exact .refl r.2

end Sys2Proof.Machine
end

section
/-! SUPPORT. Header parts (R268) and timer parts (R278, R280) of a microword. -/

namespace Sys2Proof.Machine

/-! ### The header window -/

section
variable {s : State} {c : Instr} {r : ThreadRef} {f : Micro → Micro} (hexec : exec c s = s.act (·.hdrPart c r f)) (hs : s.Running)
  (hc : PartAt c r)
include hexec hs hc

/-- A part that acts on the header window: it marks the microword of a thread that holds a frame. -/
theorem hdrPart_row : (s.m.issuing c = none → s.m.badWord c = none → Does c s s.m) ∧
    ((s.m.badWord c).isSome = true → Does c s (s.m.jobFault (threadKey r) 4)) ∧
    (∀ t, s.m.issuing c = some t →
      (t.job.frame = none → Does c s (s.m.jobFault (threadKey r) 6)) ∧
      (t.job.frame.isSome = true → Yields c s fun u => s.ThreadIs u (threadKey r) { t with mw := f t.mw } ∧
        u.m = { s.m with eng := { s.m.eng with threads := u.m.eng.threads } })) := by
  obtain ⟨hidle, hbad⟩ := part_not_issued (f := fun m t => if t.job.frame.isNone then m.jobFault (threadKey r) 6
    else m.setMicro (threadKey r) t (f t.mw)) hexec hs hc
  refine ⟨hidle, hbad, fun t h => ?_⟩
  have hdo := part_issued (f := fun m t => if t.job.frame.isNone then m.jobFault (threadKey r) 6
    else m.setMicro (threadKey r) t (f t.mw)) hexec hs hc h
  refine ⟨fun hn => ?_, fun hf => ?_⟩
  · rwa [if_pos (by rw [hn]; rfl)] at hdo
  · rw [if_neg (by cases hj : t.job.frame <;> simp_all)] at hdo
    exact yields_of_does hdo ⟨threadIs_setThread rfl rfl, rfl⟩

end

/-! ### A timer -/

theorem Drew.cl {m n : Mod} (h : Drew m n) (c : Nat) : n.cl c = m.cl c := congrArg (EngSt.cl · c) h.eng

theorem lookup_setTimer (m : Mod) (c i : Nat) (x : Option Timer) (j : Nat) :
    lookup ((m.setTimer c i x).cl c).timers j = if j = i then x else lookup (m.cl c).timers j := by
  unfold Mod.setTimer
  rw [cl_setCl_self]
  cases x with
  | none => exact lookup_remove _ _ _
  | some x => exact lookup_store _ _ _ _

theorem threads_setTimer (m : Mod) (c i : Nat) (x : Option Timer) : (m.setTimer c i x).eng.threads = m.eng.threads :=
  (threads_setCl m c _).1

theorem allocTimer_drew {m n : Mod} (h : Drew m n) (c k : Nat) : n.allocTimer c k = m.allocTimer c k := by
  rw [h]
  rfl

/-- The timer that an ALLOC takes is one of the cluster's, and not taken (R278). -/
theorem allocTimer_free {m : Mod} {c h k : Nat} {pool : Bool} (ha : m.allocTimer c h = some (k, pool)) :
    lookup (m.cl c).timers k = none ∧ k < 4096 := by
  have hfree : (m.cl c).freeTimer = some k := by
    unfold Mod.allocTimer at ha
    extract_lets x at ha
    split at ha
    · cases hx : x.freeTimer <;> simp_all
    · split at ha
      · cases hx : x.freeTimer <;> simp_all
      · cases ha
  unfold Cluster.freeTimer at hfree
  have hnone := List.find?_some hfree
  exact ⟨Option.isNone_iff_eq_none.1 hnone, List.mem_range.1 (List.mem_of_find?_eq_some hfree)⟩

theorem onTimer_own {m : Mod} {c h i : Nat} {tm : Timer} (htm : lookup (m.cl c).timers i = some tm) (hh : tm.hedge = h)
    (f : Timer → TimerOut) : m.onTimer c h i f = f tm := by
  unfold Mod.onTimer Mod.ownTimer
  rw [htm]
  simp [Option.filter, hh]

theorem onTimer_other {m : Mod} {c h i : Nat} (hno : ∀ tm, lookup (m.cl c).timers i = some tm → tm.hedge ≠ h) (f : Timer → TimerOut) :
    m.onTimer c h i f = ((false, none), m) := by
  have hown : m.ownTimer c h i = none := by
    unfold Mod.ownTimer
    cases htm : lookup (m.cl c).timers i with
    | none => rfl
    | some tm => simp [Option.filter, hno tm htm]
  unfold Mod.onTimer
  rw [hown]

/-! ### A timer part -/

/-- The thread with what its timer operation answers. -/
def Thread.timed (t : Thread) (ok : Bool) (v : Option Word) : Thread :=
  { t with mw := { t.mw with tmrOk := some ok, tmrv := v <|> t.mw.tmrv } }

section
variable {s : State} {c : Instr} {r : ThreadRef} {op : Mod → Nat → Nat → Word → Word → TimerOut} (hexec : exec c s = s.act (·.tmrPart c r op))
  (hs : s.Running) (hc : PartAt c r) {t : Thread} {a b : Word} {m1 m2 : Mod} (ha : s.m.resultOf t.mw.resA = (a, m1))
  (hb : m1.resultOf t.mw.resB = (b, m2)) (h : s.m.issuing c = some t)
include hexec hs hc ha hb h

/-- A timer part that its thread issues acts with the results of the ALUs, and notes what it answers. -/
theorem tmrPart_issued {ok : Bool} {v : Option Word} {n : Mod} (hop : op m2 (threadKey r / 768) t.job.hedge a b = ((ok, v), n)) :
    Does c s (n.setThread (threadKey r) (t.timed ok v)) := by
  refine does_act hexec hs ?_
  unfold Mod.tmrPart
  extract_lets key
  rw [issue_issuing hc h, ha]
  simp only [hb, key, hop]
  rfl

/-- One that replaces or frees timer i. -/
theorem tmrPart_sets {ok : Bool} {v : Option Word} {i : Nat} {x : Option Timer}
    (hop : op m2 (threadKey r / 768) t.job.hedge a b = ((ok, v), m2.setTimer (threadKey r / 768) i x)) :
    Yields c s fun u => lookup (u.m.cl (threadKey r / 768)).timers i = x ∧
      (∀ j, j ≠ i → lookup (u.m.cl (threadKey r / 768)).timers j = lookup (s.m.cl (threadKey r / 768)).timers j) ∧
      s.ThreadIs u (threadKey r) (t.timed ok v) := by
  have hdrew := (drew_of_resultOf ha).trans (drew_of_resultOf hb)
  have hlookup (j : Nat) := lookup_setTimer m2 (threadKey r / 768) i x j
  refine yields_of_does (tmrPart_issued hexec hs hc ha hb h hop) ⟨(hlookup i).trans (if_pos rfl), fun j hj => ?_,
    threadIs_setThread rfl ((threads_setTimer m2 _ i x).trans (congrArg EngSt.threads hdrew.eng))⟩
  exact (hlookup j).trans ((if_neg hj).trans (by rw [hdrew.cl]))

/-- One that leaves the timers as they are. -/
theorem tmrPart_keeps {ok : Bool} {v : Option Word} {n : Mod} (hop : op m2 (threadKey r / 768) t.job.hedge a b = ((ok, v), n))
    (hn : Metered m2 n) : Yields c s fun u => (u.m.cl (threadKey r / 768)).timers = (s.m.cl (threadKey r / 768)).timers ∧
      s.ThreadIs u (threadKey r) (t.timed ok v) := by
  have hm := (((drew_of_resultOf ha).trans (drew_of_resultOf hb)).metered).trans hn
  exact yields_of_does (tmrPart_issued hexec hs hc ha hb h hop)
    ⟨timers_of_engHeld hm.held _, threadIs_setThread rfl hm.steady.threads⟩

end

end Sys2Proof.Machine
end

section
/-! SUPPORT. Queue operations (R269, R270) on the frame that a thread holds. -/

namespace Sys2Proof.Machine

/-! ### The part -/

/-- The thread with a queue operation in its microword. -/
def Thread.queues (t : Thread) : Thread := { t with mw := { t.mw with qop := true, qOk := some true, qstat := some 0 } }

section
variable {s : State} {c : Instr} {r : ThreadRef} {mad op : Nat} {imm : BitVec 16} (hexec : exec c s = s.act (·.qopPart c r mad imm op))
  (hs : s.Running) (hc : PartAt c r)
include hexec hs hc

theorem qopRow_not_issued : (s.m.issuing c = none → s.m.badWord c = none → Does c s s.m) ∧
    ((s.m.badWord c).isSome = true → Does c s (s.m.jobFault (threadKey r) 4)) :=
  ⟨fun h hb => does_act hexec hs (issue_none h hb _), fun hb => does_act hexec hs (issue_bad hc hb _)⟩

section
variable {t : Thread} (h : s.m.issuing c = some t)
include h

/-- Without a frame it is a job fault (R262). -/
theorem qopRow_frameless (hf : t.job.frame.bind s.m.frame = none) : Does c s (s.m.jobFault (threadKey r) 6) := by
  refine does_act hexec hs ?_
  unfold Mod.qopPart
  extract_lets key
  rw [issue_issuing hc h, hf]

variable {id : Nat} {f : Frame} {w : Word} {m1 : Mod} (hid : t.job.frame = some id) (hf : s.m.frame id = some f)
  (hw : s.m.source (threadKey r) t imm mad = (w, m1))
include hid hf hw

theorem qopRow_tooLong (hop : op = 1 ∨ op = 2 ∨ op = 6) (hlen : 15996 < assembledLength f w.toNat) :
    Does c s (m1.jobFault (threadKey r) 7) := by
  refine does_act hexec hs ?_
  unfold Mod.qopPart
  extract_lets key
  rw [issue_issuing hc h, hid, Option.bind_some, hf]
  simp only [key, hw]
  exact if_pos ⟨hop, hlen⟩

/-- With a frame of a length that may go, the operation is held in a commit section, and is else done. -/
theorem qopRow_acts (hlen : op = 3 ∨ op = 4 ∨ op = 5 ∨ assembledLength f w.toNat ≤ 15996) : ∃ n, Metered s.m n ∧
    Does c s (if n.holds (threadKey r) t then n.hold (threadKey r) t (.qop op w) t.queues.mw
      else (n.setThread (threadKey r) t.queues).qopDo (threadKey r) op w) := by
  refine ⟨if qopEvent op = 0 then m1 else m1.epcThread (threadKey r) t (qopEvent op), ?_, does_act hexec hs ?_⟩
  · have h1 := (drew_of_source hw).metered
    exact .ite _ h1 (h1.trans (metered_epcThread m1 _ t _ 1))
  · unfold Mod.qopPart
    extract_lets key
    rw [issue_issuing hc h, hid, Option.bind_some, hf]
    simp only [key, hw]
    rw [if_neg (by omega)]
    rfl

theorem qopRow_holds (hlen : op = 3 ∨ op = 4 ∨ op = 5 ∨ assembledLength f w.toNat ≤ 15996) (hh : s.m.holds (threadKey r) t = true)
    (hroom : t.held.length < 16) : Yields c s fun u => ∃ t2, s.ThreadIs u (threadKey r) t2 ∧ t2.held = t.held ++ [.qop op w] ∧
      t2.job = t.job ∧ u.m.buf = s.m.buf := by
  obtain ⟨n, hn, hdo⟩ := qopRow_acts hexec hs hc h hid hf hw hlen
  rw [if_pos ((holds_of_engHeld hn.held _ t).trans hh)] at hdo
  refine yields_of_does hdo ⟨_, hold_shows hn.steady.threads hroom rfl, rfl, rfl, ?_⟩
  unfold Mod.hold
  rw [if_neg (Nat.not_le.2 hroom)]
  exact (metered_epcThread (n.setThread (threadKey r) _) (threadKey r) _ 24 1).buf.trans hn.buf

/-- Out of a commit section, the operation is done on the thread with its microword noted. -/
theorem qopRow_does (hlen : op = 3 ∨ op = 4 ∨ op = 5 ∨ assembledLength f w.toNat ≤ 15996) (hh : s.m.holds (threadKey r) t = false) :
    ∃ n : Mod, n.buf = s.m.buf ∧ n.eng.threads = store s.m.eng.threads (threadKey r) t.queues ∧ Does c s (n.qopDo (threadKey r) op w) := by
  obtain ⟨n, hn, hdo⟩ := qopRow_acts hexec hs hc h hid hf hw hlen
  rw [if_neg (by rw [holds_of_engHeld hn.held, hh]; exact Bool.false_ne_true)] at hdo
  exact ⟨n.setThread (threadKey r) t.queues, hn.buf, congrArg (store · (threadKey r) t.queues) hn.steady.threads, hdo⟩

end

end

/-! ### What an operation does -/

/-- A thread replaced again is the later one, and the others are as they were. -/
theorem threadIs_again {s u : State} {l : List (Nat × Thread)} {key : Nat} {t t2 : Thread} (hl : l = store s.m.eng.threads key t)
    (hu : u.m.eng.threads = store l key t2) : s.ThreadIs u key t2 := by
  unfold State.ThreadIs
  rw [hu]
  exact ⟨lookup_store_self _ _ _, fun k hk => by rw [lookup_store_ne _ _ hk, hl, lookup_store_ne _ _ hk]⟩

theorem evGrows_reenter (m : Mod) (key : Nat) (t : Thread) (f : Frame) (p : Nat) (named : Bool) : EvGrows m (m.reenter key t f p named) := by
  unfold Mod.reenter
  exact .ite (evGrows_bump m _ 1) (.same rfl)

/-- No header octet beyond the buffer is drawn. -/
theorem assemble_within {p : Nat} (h : bits p 8 0 ≤ 256) (m : Mod) (t : Thread) (f : Frame) :
    (m.assemble t f p).1 = t.hdr.take (bits p 8 0) ++ (if f.trunc then f.octets else f.octets.take (f.octets.length - 4)).drop (bits p 22 9) ∧
      (m.assemble t f p).2.buf = m.buf := by
  have hnone : bits p 8 0 - 256 = 0 := Nat.sub_eq_zero_of_le h
  unfold Mod.assemble Mod.freeOctets
  simp only [hnone, List.take_zero, List.append_nil, true_and]

/-- A frame whose carry check is right waits to re-enter, with one more pass (R270). -/
theorem reenter_queues {f : Frame} {p : Nat} (hhdr : bits p 8 0 ≤ 256) (hp : f.poison = false) (hcarry : carryOf f f.octets = f.carry)
    (m : Mod) (key : Nat) (t : Thread) (named : Bool) :
    ∃ i, (m.reenter key t f p named).buf.inject = m.buf.inject ++ [(130 + key / 768, i)] ∧ i.thread = key ∧ i.frame.hedge = f.hedge ∧
      i.frame.passes = f.passes + 1 ∧ i.named = (if named then some (bits p 30 23) else none) ∧
      i.frame.octets = sealFrame false (padTo60 (t.hdr.take (bits p 8 0) ++
        (if f.trunc then f.octets else f.octets.take (f.octets.length - 4)).drop (bits p 22 9))) := by
  obtain ⟨hoctets, hbuf⟩ := assemble_within hhdr m t f
  unfold Mod.reenter
  extract_lets c a n g keep g1 i
  refine ⟨i, ?_, rfl, rfl, rfl, rfl, ?_⟩
  · rw [if_neg (by simp [hp, hcarry])]
    exact congrArg (fun b : BufSt => b.inject ++ [(130 + c, i)]) hbuf
  · exact congrArg (fun o => sealFrame false (padTo60 o)) hoctets

section
variable {m : Mod} {key id : Nat} {t : Thread} {f : Frame} (ht : m.thread key = some t) (hid : t.job.frame = some id)
  (hf : m.frame id = some f) (p : Word)
include ht hid hf

/-- ENQUEUE and REINJECT queue the frame and give it up. -/
theorem qopDo_reenters {op : Nat} (hop : op = 1 ∨ op = 2) :
    m.qopDo key op p = (m.reenter key t f p.toNat (decide (op ≠ 2))).releaseFrame key t id := by
  unfold Mod.qopDo
  rw [ht]
  simp only [hid, hf]
  obtain rfl | rfl := hop <;> rfl

theorem qopDo_clips : m.qopDo key 5 p = m.setThread key { t with clip := true } := by
  unfold Mod.qopDo
  rw [ht]
  simp only [hid, hf]

theorem qopDo_copies : m.qopDo key 6 p = (m.reenter key t f p.toNat true).setThread key { t with clip := false } := by
  unfold Mod.qopDo
  rw [ht]
  simp only [hid, hf]

/-- All but COPY and CLIP give the frame up. -/
theorem qopDo_releases {op : Nat} (hop : op = 1 ∨ op = 2 ∨ op = 3 ∨ op = 4) :
    ∃ k, EvGrows m k ∧ m.qopDo key op p = k.releaseFrame key t id := by
  obtain h | h | h | h := hop
  · exact ⟨_, evGrows_reenter m key t f _ _, qopDo_reenters ht hid hf p (.inl h)⟩
  · exact ⟨_, evGrows_reenter m key t f _ _, qopDo_reenters ht hid hf p (.inr h)⟩
  · subst h
    refine ⟨_, evGrows_bump m (engDiscardCtr f.hedge) 1, ?_⟩
    unfold Mod.qopDo
    rw [ht]
    simp only [hid, hf]
  · subst h
    have hdrawn : EvGrows m m.freshNat.2 := .same rfl
    refine ⟨_, (hdrawn.trans (evGrows_toException _ f.unheld (p.toNat % 8) (m.freshNat.1 % 256))).trans (evGrows_admitted _), ?_⟩
    unfold Mod.qopDo
    rw [ht]
    simp only [hid, hf]

end

/-! ### The rows -/

section
variable {s : State} {c : Instr} {r : ThreadRef} {mad op : Nat} {imm : BitVec 16} (hexec : exec c s = s.act (·.qopPart c r mad imm op))
  (hs : s.Running) (hc : PartAt c r) {t : Thread} (h : s.m.issuing c = some t) {id : Nat} {f : Frame} {w : Word} {m1 : Mod}
  (hid : t.job.frame = some id) (hf : s.m.frame id = some f) (hw : s.m.source (threadKey r) t imm mad = (w, m1))
  (hlen : op = 3 ∨ op = 4 ∨ op = 5 ∨ assembledLength f w.toNat ≤ 15996) (hh : s.m.holds (threadKey r) t = false)
include hexec hs hc h hid hf hw hlen hh

/-- The operation is done of a module whose thread, frame and waiting frames are those before. -/
theorem qopRow_finds : ∃ n : Mod, n.buf = s.m.buf ∧ n.eng.threads = store s.m.eng.threads (threadKey r) t.queues ∧
    n.thread (threadKey r) = some t.queues ∧ n.frame id = some f ∧ Does c s (n.qopDo (threadKey r) op w) := by
  obtain ⟨n, hbuf, hthreads, hdo⟩ := qopRow_does hexec hs hc h hid hf hw hlen hh
  refine ⟨n, hbuf, hthreads, ?_, ?_, hdo⟩
  · unfold Mod.thread
    rw [hthreads, lookup_store_self]
  · unfold Mod.frame at hf ⊢
    rw [hbuf, hf]

theorem qopRow_releases (hop : op = 1 ∨ op = 2 ∨ op = 3 ∨ op = 4) : Yields c s fun u =>
    ∃ t2, s.ThreadIs u (threadKey r) t2 ∧ t2.job.frame = none ∧ t2.clip = false ∧ t2.mw.qOk = some true ∧ t2.w = t.w := by
  obtain ⟨n, -, hthreads, ht, hfr, hdo⟩ := qopRow_finds hexec hs hc h hid hf hw hlen hh
  obtain ⟨k, hk, hdoes⟩ := qopDo_releases ht hid hfr w hop
  rw [hdoes] at hdo
  refine yields_of_does hdo ⟨{ t.queues with job := { t.queues.job with frame := none }, clip := false }, threadIs_again hthreads ?_, rfl,
    rfl, rfl, rfl⟩
  exact congrArg (store · (threadKey r) _) ((hk.trans (evGrows_deref k id)).threads)

theorem qopRow_clips (hop : op = 5) : Yields c s fun u =>
    ∃ t2, s.ThreadIs u (threadKey r) t2 ∧ t2.clip = true ∧ t2.job = t.job ∧ u.m.buf = s.m.buf := by
  obtain ⟨n, hbuf, hthreads, ht, hfr, hdo⟩ := qopRow_finds hexec hs hc h hid hf hw hlen hh
  subst hop
  rw [qopDo_clips ht hid hfr w] at hdo
  exact yields_of_does hdo ⟨_, threadIs_again hthreads rfl, rfl, rfl, hbuf⟩

theorem qopRow_queues (hop : op = 1 ∨ op = 2 ∨ op = 6) (hhdr : bits w.toNat 8 0 ≤ 256) (hp : f.poison = false)
    (hcarry : carryOf f f.octets = f.carry) : Yields c s fun u =>
    ∃ i, u.m.buf.inject = s.m.buf.inject ++ [(130 + threadKey r / 768, i)] ∧ i.thread = threadKey r ∧ i.frame.hedge = f.hedge ∧
      i.frame.passes = f.passes + 1 ∧ i.named = (if op = 2 then none else some (bits w.toNat 30 23)) ∧
      i.frame.octets = sealFrame false (padTo60 (t.hdr.take (bits w.toNat 8 0) ++
        (if f.trunc then f.octets else f.octets.take (f.octets.length - 4)).drop (bits w.toNat 22 9))) := by
  obtain ⟨n, hbuf, -, ht, hfr, hdo⟩ := qopRow_finds hexec hs hc h hid hf hw hlen hh
  obtain ⟨i, hinject, hthread, hhedge, hpasses, hnamed, hoctets⟩ :=
    reenter_queues hhdr hp hcarry n (threadKey r) t.queues (decide (op ≠ 2))
  have hnamed' : i.named = if op = 2 then none else some (bits w.toNat 30 23) := by
    by_cases h2 : op = 2 <;> simpa [h2] using hnamed
  rw [hbuf] at hinject
  by_cases h6 : op = 6
  · subst h6
    rw [qopDo_copies ht hid hfr w] at hdo
    exact yields_of_does hdo ⟨i, hinject, hthread, hhedge, hpasses, hnamed', hoctets⟩
  · rw [qopDo_reenters ht hid hfr w (by omega)] at hdo
    obtain ⟨-, -, hkept, -⟩ := keeps_calm_iff.1 (steady_deref (n.reenter (threadKey r) t.queues f w.toNat (decide (op ≠ 2))) id).calm
    exact yields_of_does hdo ⟨i, Eq.trans hkept hinject, hthread, hhedge, hpasses, hnamed', hoctets⟩

end

/-- Settles O48: header parts mark a microword that has a frame, queue operations act on the frame, and timer parts on the timer that their
operand names. That a part which its thread does not issue is without effect is log 7's choice. -/
theorem framePartsAndTimerParts : Obligations.FramePartsAndTimerParts := by
  refine ⟨fun s r key hs hkey => ?_, fun s r key c mad imm hs hkey hcl => ?_, fun s r t key c h i a b m1 m2 hs hkey hcl ha hb hh hi => ?_⟩
  · subst hkey
    simp only [List.forall_mem_cons]
    exact ⟨fun w => hdrPart_row (exec_hdrView r _ s) hs ⟨_, rfl, rfl⟩, fun w => hdrPart_row (exec_hdrWriteA r _ s) hs ⟨_, rfl, rfl⟩,
      fun w => hdrPart_row (exec_hdrWriteB r _ s) hs ⟨_, rfl, rfl⟩, List.forall_mem_nil _⟩
  · subst hkey hcl
    have row {c : Instr} {op : Nat} (hexec : exec c s = s.act (·.qopPart c r mad.val imm op)) (hc : PartAt c r) :
        (s.m.issuing c = none → s.m.badWord c = none → Does c s s.m) ∧
        ((s.m.badWord c).isSome = true → Does c s (s.m.jobFault (threadKey r) 4)) ∧
        (∀ t, s.m.issuing c = some t →
          (t.job.frame.bind s.m.frame = none → Does c s (s.m.jobFault (threadKey r) 6)) ∧
          (∀ id f w m1 p, t.job.frame = some id → s.m.frame id = some f → s.m.source (threadKey r) t imm mad.val = (w, m1) → p = w.toNat →
            ((op = 1 ∨ op = 2 ∨ op = 6) → 15996 < assembledLength f p → Does c s (m1.jobFault (threadKey r) 7)) ∧
            ((op = 3 ∨ op = 4 ∨ op = 5 ∨ assembledLength f p ≤ 15996) → s.m.holds (threadKey r) t = true → t.held.length < 16 →
              Yields c s fun u => ∃ t2, s.ThreadIs u (threadKey r) t2 ∧ t2.held = t.held ++ [.qop op w] ∧ t2.job = t.job ∧
                u.m.buf = s.m.buf) ∧
            ((op = 3 ∨ op = 4 ∨ op = 5 ∨ assembledLength f p ≤ 15996) → s.m.holds (threadKey r) t = false →
              ((op = 1 ∨ op = 2 ∨ op = 3 ∨ op = 4) → Yields c s fun u =>
                ∃ t2, s.ThreadIs u (threadKey r) t2 ∧ t2.job.frame = none ∧ t2.clip = false ∧ t2.mw.qOk = some true ∧ t2.w = t.w) ∧
              (op = 5 → Yields c s fun u => ∃ t2, s.ThreadIs u (threadKey r) t2 ∧ t2.clip = true ∧ t2.job = t.job ∧ u.m.buf = s.m.buf) ∧
              ((op = 1 ∨ op = 2 ∨ op = 6) → bits p 8 0 ≤ 256 → f.poison = false → carryOf f f.octets = f.carry → Yields c s fun u =>
                ∃ i, u.m.buf.inject = s.m.buf.inject ++ [(130 + threadKey r / 768, i)] ∧ i.thread = threadKey r ∧ i.frame.hedge = f.hedge ∧
                  i.frame.passes = f.passes + 1 ∧ i.named = (if op = 2 then none else some (bits p 30 23)) ∧
                  i.frame.octets = sealFrame false (padTo60 (t.hdr.take (bits p 8 0) ++
                    (if f.trunc then f.octets else f.octets.take (f.octets.length - 4)).drop (bits p 22 9))))))) := by
      obtain ⟨hidle, hbad⟩ := qopRow_not_issued hexec hs hc
      refine ⟨hidle, hbad, fun t h => ⟨qopRow_frameless hexec hs hc h, fun id f w m1 p hid hf hw hp => ?_⟩⟩
      subst hp
      exact ⟨qopRow_tooLong hexec hs hc h hid hf hw, qopRow_holds hexec hs hc h hid hf hw, fun hlen hh =>
        ⟨qopRow_releases hexec hs hc h hid hf hw hlen hh, qopRow_clips hexec hs hc h hid hf hw hlen hh,
          qopRow_queues hexec hs hc h hid hf hw hlen hh⟩⟩
    intro e he
    fin_cases he
    · exact row (exec_qopEnqueue r mad imm s) ⟨_, rfl, rfl⟩
    · exact row (exec_qopReinject r mad imm s) ⟨_, rfl, rfl⟩
    · exact row (exec_qopDiscard r mad imm s) ⟨_, rfl, rfl⟩
    · exact row (exec_qopException r mad imm s) ⟨_, rfl, rfl⟩
    · exact row (exec_qopClip r mad imm s) ⟨_, rfl, rfl⟩
    · exact row (exec_qopCopy r mad imm s) ⟨_, rfl, rfl⟩
  · subst hkey hcl hh hi
    have hdrew := (drew_of_resultOf ha).trans (drew_of_resultOf hb)
    have htimers := congrArg Cluster.timers (hdrew.cl (threadKey r / 768))
    have hcommits : m2.commits = s.m.commits := congrArg BitVec.toNat (rd_of_regs hdrew.regs _ _)
    refine ⟨fun h hnone => ?_, fun k pool h hsome => ?_, fun tm htm hown => ⟨fun h => ?_, fun h => ?_, fun h => ?_, fun h => ?_⟩,
      fun hother => ?_⟩
    · have hop : m2.timerAlloc (threadKey r / 768) t.job.hedge = ((false, some (BitVec.allOnes 64)), m2.bump (engCtr (threadKey r / 768) 13)) := by
        unfold Mod.timerAlloc
        rw [allocTimer_drew hdrew, hnone]
      exact tmrPart_keeps (exec_tmrAlloc r s) hs ⟨_, rfl, rfl⟩ ha hb h hop (metered_bump m2 _ 1)
    · obtain ⟨hfree, hk⟩ := allocTimer_free hsome
      have hop : m2.timerAlloc (threadKey r / 768) t.job.hedge = ((true, some (BitVec.ofNat 64 k)),
          m2.setTimer (threadKey r / 768) k (some { hedge := t.job.hedge, fromPool := pool })) := by
        unfold Mod.timerAlloc
        rw [allocTimer_drew hdrew, hsome]
      obtain ⟨u, hu, hset, hkept, hthread⟩ := tmrPart_sets (exec_tmrAlloc r s) hs ⟨_, rfl, rfl⟩ ha hb h hop
      exact ⟨u, hu, hset, hfree, hk, hkept, hthread⟩
    · rw [← hcommits]
      exact tmrPart_sets (exec_tmrArm r s) hs ⟨_, rfl, rfl⟩ ha hb h (onTimer_own (htimers ▸ htm) hown _)
    · exact tmrPart_sets (exec_timerCancel r s) hs ⟨_, rfl, rfl⟩ ha hb h (onTimer_own (htimers ▸ htm) hown _)
    · rw [← hcommits]
      exact tmrPart_keeps (exec_timerRead r s) hs ⟨_, rfl, rfl⟩ ha hb h (onTimer_own (htimers ▸ htm) hown _) (.refl m2)
    · exact tmrPart_sets (exec_tmrFree r s) hs ⟨_, rfl, rfl⟩ ha hb h (onTimer_own (htimers ▸ htm) hown _)
    · have hno : ∀ tm, lookup (m2.cl (threadKey r / 768)).timers (a.toNat % 4096) = some tm → tm.hedge ≠ t.job.hedge :=
        htimers ▸ hother
      simp only [List.forall_mem_cons]
      exact ⟨fun h => tmrPart_keeps (exec_tmrArm r s) hs ⟨_, rfl, rfl⟩ ha hb h (onTimer_other hno _) (.refl m2),
        fun h => tmrPart_keeps (exec_timerCancel r s) hs ⟨_, rfl, rfl⟩ ha hb h (onTimer_other hno _) (.refl m2),
        fun h => tmrPart_keeps (exec_timerRead r s) hs ⟨_, rfl, rfl⟩ ha hb h (onTimer_other hno _) (.refl m2),
        fun h => tmrPart_keeps (exec_tmrFree r s) hs ⟨_, rfl, rfl⟩ ha hb h (onTimer_other hno _) (.refl m2), List.forall_mem_nil _⟩

end Sys2Proof.Machine
end

section
/-! SUPPORT. The start of a job (R252, R272, R273, R277). -/

namespace Sys2Proof.Machine

/-! ### The head of a queue -/

/-- The jobs behind the head move up, and a marker that waited may take the place that came free (R284). -/
theorem queue_popQueue {m : Mod} {c k : Nat} {j : Job} {l : List Job} (h : (m.cl c).queue k = j :: l) :
    ∃ q, ((m.popQueue c k).cl c).queue k = l ++ q := by
  have hself (x : Cluster) (q : List Job) : (x.setQueue k q).queue k = q := queue_setQueue_self x k q
  unfold Mod.popQueue
  rw [cl_setCl_self, h, List.drop_one, List.tail_cons]
  unfold Cluster.settleMarkers
  split
  · split
    · rename_i token _ _
      have hpush : (((m.cl c).setQueue k l).push k (fenceJob k token)).queue k = _ := hself _ _
      rw [hself] at hpush
      exact ⟨[fenceJob k token], hpush⟩
    · exact ⟨[], by rw [hself, List.append_nil]⟩
  · exact ⟨[], by rw [hself, List.append_nil]⟩

/-- Taking a head changes clusters alone. -/
theorem popQueue_leaves (m : Mod) (c k : Nat) : (m.popQueue c k).regs = m.regs ∧ (m.popQueue c k).int = m.int ∧
    (m.popQueue c k).eng.threads = m.eng.threads ∧ (m.popQueue c k).eng.turn = m.eng.turn :=
  ⟨rfl, rfl, threads_setCl m c _⟩

/-! ### The thread -/

/-- Where a job starts (R252) rests on the registers, the grafts and the threads. -/
theorem placeThread_congr {m n : Mod} (hregs : n.regs = m.regs) (hint : n.int = m.int) (ht : n.eng.threads = m.eng.threads) (c : Nat) :
    n.placeThread c = m.placeThread c := by
  have hphys (e : Nat) : n.physOf c e = m.physOf c e := by
    unfold Mod.physOf
    rw [get_of_regs hregs]
  have hworks (e : Nat) : n.works c e = m.works c e := by
    unfold Mod.works Mod.retired
    rw [hphys, get_of_regs hregs]
  have hgraft (e : Nat) : n.grafting c e = m.grafting c e := by
    unfold Mod.grafting
    rw [hphys, hint]
  have hfree (e : Nat) : n.freeOf c e = m.freeOf c e := by
    unfold Mod.freeOf
    rw [ht]
  have hengine : n.placeEngine c = m.placeEngine c := by
    unfold Mod.placeEngine
    simp only [hworks, hfree, hgraft]
  have hthread (key : Nat) : n.thread key = m.thread key := by
    unfold Mod.thread
    rw [ht]
  unfold Mod.placeThread
  rw [hengine]
  simp only [hthread]

/-- Where a job's first microword is (R272, R277). -/
def Mod.startPc (m : Mod) (c : Nat) (j : Job) : Nat :=
  match j.kind with
  | .tick i => if m.flag ENG_TICKJOB1_RESUME_VALID i = true ∧ j.restart = false then m.get ENG_TICKJOB1_RESUME i
      else m.get ENG_DISPATCH_ADDR (256 * c + j.desc.toNat % 256)
  | _ => m.get ENG_DISPATCH_ADDR (256 * c + j.desc.toNat % 256)

theorem startsAt_eq (m : Mod) (c : Nat) (j : Job) : (m.startsAt c j).1 = m.startPc c j ∧ EvGrows m (m.startsAt c j).2 ∧
    (m.startsAt c j).2.eng = m.eng := by
  unfold Mod.startsAt Mod.startPc
  extract_lets entry
  cases j.kind with
  | tick i =>
    simp only
    split
    · exact ⟨rfl, evGrows_set m _ _ _, set_eng m _ _ _⟩
    · exact ⟨rfl, .refl m, rfl⟩
  | _ => exact ⟨rfl, .refl m, rfl⟩

theorem evGrows_countStart (m : Mod) (key : Nat) (t : Thread) : EvGrows m (m.countStart key t) := by
  unfold Mod.countStart
  extract_lets c m1
  have h1 : EvGrows m m1 := (evGrows_bump m _ 1).trans (evGrows_epcThread _ key t 11 1)
  refine .ite ((evGrows_bump m _ 1).trans (evGrows_epcThread _ key t 13 1)) (h1.trans ?_)
  split
  · exact evGrows_epcThread m1 key t 28 1
  · exact .refl m1

theorem cl_joinReady (m : Mod) (key c : Nat) (t : Thread) : (m.joinReady key t).cl c = m.cl c := rfl

/-! ### The job -/

/-- A new thread of job j that starts at a microaddress. -/
structure Starts (t : Thread) (j : Job) (pc : Nat) : Prop where
  job : t.job = j
  mw : t.mw = {}
  held : t.held = []
  issued : t.issued = 0
  pc : t.pc = pc

section
variable {m : Mod} {c : Nat} {j : Job}

/-- A job whose opcode has a valid dispatch entry is placed on a thread, behind those that are ready (R252, R272). -/
theorem startJob_runs {key : Nat} (hop : j.desc.toNat % 256 ≠ 0) (hv : m.flag ENG_DISPATCH_VALID (256 * c + j.desc.toNat % 256) = true)
    (hp : m.placeThread c = some key) : ∃ (n : Mod) (t : Thread), n.eng = m.eng ∧ Starts t j (m.startPc c j) ∧
      m.startJob c j = (n.joinReady key t).countStart key t := by
  obtain ⟨hpc, -, heng⟩ := startsAt_eq m c j
  unfold Mod.startJob
  extract_lets op at_ m1 k loaded t m2 upd m3
  rw [if_neg (by simp [op, hop, hv]), hp]
  refine ⟨m3, t, ?_, ⟨rfl, rfl, rfl, rfl, hpc⟩, rfl⟩
  have h3 : m3.eng = m2.eng := by
    unfold m3
    split <;> rfl
  exact h3.trans heng

/-- A job without a valid dispatch entry is counted and dropped (R272). -/
theorem startJob_drops (h : j.desc.toNat % 256 = 0 ∨ m.flag ENG_DISPATCH_VALID (256 * c + j.desc.toNat % 256) = false) :
    EvGrows m (m.startJob c j) := by
  have hrated (m : Mod) (q : Nat) : EvGrows m (m.engRated c 2 q) := (evGrows_sqc m _ c).trans (evGrows_eventRated _ _ _)
  unfold Mod.startJob
  extract_lets op
  rw [if_pos h]
  unfold Mod.unknownOpcode
  extract_lets m1
  have h1 : EvGrows m m1 := (evGrows_bump m _ 1).trans (hrated _ _)
  split
  · exact h1.trans (evGrows_deref m1 _)
  · exact h1

end

/-! ### JOB_START -/

section
variable {m : Mod} {c : Nat}

theorem jobStart_idle (h : m.startsJobs c = false) : m.jobStart c = m := if_pos h

section
variable (h : m.startsJobs c = true) (hr : ((m.cl c).restarts.find? fun j => m.mayStart c j.hedge) = none)
include h hr

theorem jobStart_nothing
    (hq : ([0, 1, 2, 3].find? fun k => (((m.cl c).queue k).head?).any fun j => m.mayStart c j.hedge) = none)
    (hi : m.intakeHead c = none) : m.jobStart c = m := by
  unfold Mod.jobStart
  rw [if_neg (by simp [h]), hr]
  simp only [hq, hi]

/-- The first queue whose head may start gives its job (R273). -/
theorem jobStart_takes {k : Nat} {j : Job} {l : List Job}
    (hq : ([0, 1, 2, 3].find? fun k => (((m.cl c).queue k).head?).any fun j => m.mayStart c j.hedge) = some k)
    (hk : (m.cl c).queue k = j :: l) : m.jobStart c = (m.popQueue c k).startJob c j := by
  unfold Mod.jobStart
  rw [if_neg (by simp [h]), hr]
  simp only [hq, hk]

end

end

section
variable {s : State} {c : Fin 4} {k : Nat} {j : Job} {l : List Job} (hs : s.Running) (h : s.m.startsJobs c.val = true)
  (hr : ((s.m.cl c.val).restarts.find? fun j => s.m.mayStart c.val j.hedge) = none)
  (hq : ([0, 1, 2, 3].find? fun k => (((s.m.cl c.val).queue k).head?).any fun j => s.m.mayStart c.val j.hedge) = some k)
  (hk : (s.m.cl c.val).queue k = j :: l)
include hs h hr hq hk

theorem jobStart_runs {key : Nat} (hp : s.m.placeThread c.val = some key) (hop : j.desc.toNat % 256 ≠ 0)
    (hv : s.m.flag ENG_DISPATCH_VALID (256 * c.val + j.desc.toNat % 256) = true) :
    Yields (.jobStart c) s fun u => (∃ t, s.ThreadIs u key t ∧ t.job = j ∧ t.mw = {} ∧ t.held = [] ∧ t.issued = 0 ∧
      t.turn = s.m.eng.turn ∧ t.pc = s.m.startPc c.val j) ∧ ∃ q, (u.m.cl c.val).queue k = l ++ q := by
  obtain ⟨hregs, hint, hthreads, hturn⟩ := popQueue_leaves s.m c.val k
  obtain ⟨q, hqueue⟩ := queue_popQueue hk
  have hpc : (s.m.popQueue c.val k).startPc c.val j = s.m.startPc c.val j := by
    unfold Mod.startPc Mod.flag
    simp only [get_of_regs hregs]
  have hv' : (s.m.popQueue c.val k).flag ENG_DISPATCH_VALID (256 * c.val + j.desc.toNat % 256) = true := by
    unfold Mod.flag at hv ⊢
    rwa [get_of_regs hregs]
  obtain ⟨n, t, heng, ht, hstart⟩ := startJob_runs hop hv' ((placeThread_congr hregs hint hthreads c.val).trans hp)
  have hgrows := evGrows_countStart (n.joinReady key t) key t
  obtain ⟨p, hgrown⟩ := hgrows.queue c.val k
  refine yields_of_does (does_act (exec_jobStart c s) hs ((jobStart_takes h hr hq hk).trans hstart))
    ⟨⟨{ t with turn := n.eng.turn }, threadIs_of_threads ?_, ht.job, ht.mw, ht.held, ht.issued, ?_, ht.pc.trans hpc⟩, q ++ p, ?_⟩
  · rw [hgrows.threads, ← hthreads, ← heng]
    rfl
  · exact (congrArg EngSt.turn heng).trans hturn
  · have hjoined : (n.joinReady key t).cl c.val = (s.m.popQueue c.val k).cl c.val :=
      (cl_joinReady n key c.val t).trans (congrArg (EngSt.cl · c.val) heng)
    rw [hgrown, hjoined, hqueue, List.append_assoc]

theorem jobStart_drops (hop : j.desc.toNat % 256 = 0 ∨ s.m.flag ENG_DISPATCH_VALID (256 * c.val + j.desc.toNat % 256) = false) :
    Yields (.jobStart c) s fun u => u.m.eng.threads = s.m.eng.threads ∧ ∃ q, (u.m.cl c.val).queue k = l ++ q := by
  obtain ⟨hregs, -, hthreads, -⟩ := popQueue_leaves s.m c.val k
  obtain ⟨q, hqueue⟩ := queue_popQueue hk
  have hgrows : EvGrows (s.m.popQueue c.val k) ((s.m.popQueue c.val k).startJob c.val j) := by
    refine startJob_drops ?_
    unfold Mod.flag at hop ⊢
    rwa [get_of_regs hregs]
  obtain ⟨p, hgrown⟩ := hgrows.queue c.val k
  exact yields_of_does (does_act (exec_jobStart c s) hs (jobStart_takes h hr hq hk))
    ⟨hgrows.threads.trans hthreads, q ++ p, by rw [hgrown, hqueue, List.append_assoc]⟩

end

end Sys2Proof.Machine
end

section
/-! SUPPORT. The tick jobs and the timers of a commit (R276, R279). -/

namespace Sys2Proof.Machine

/-- A fold over which one element alone acts, and after which no other one acts, is that element's step. -/
theorem foldl_acts_once {α β : Type} [DecidableEq α] {f : β → α → β} {m : β} {l : List α} {i : α} (hi : i ∈ l)
    (hother : ∀ k ∈ l, k ≠ i → f m k = m) (hafter : ∀ k ∈ l.erase i, f (f m i) k = f m i) : l.foldl f m = f m i := by
  induction l with
  | nil => cases hi
  | cons a l ih =>
    by_cases ha : a = i
    · subst ha
      rw [List.erase_cons_head] at hafter
      rw [List.foldl_cons]
      clear ih hother hi
      induction l with
      | nil => rfl
      | cons b l ih =>
        rw [List.foldl_cons, hafter b List.mem_cons_self]
        exact ih fun k hk => hafter k (List.mem_cons_of_mem b hk)
    · rw [List.erase_cons_tail (by simpa using ha)] at hafter
      rw [List.foldl_cons, hother a List.mem_cons_self ha]
      exact ih (List.mem_of_ne_of_mem (Ne.symm ha) hi) (fun k hk => hother k (List.mem_cons_of_mem a hk))
        fun k hk => hafter k (List.mem_cons_of_mem a hk)

/-! ### A tick entry -/

section
variable {m : Mod} {c i : Nat}

theorem tickEntry_invalid (h : m.flag ENG_TICKJOB0_VALID i = false) : m.tickEntry i = m := if_pos h

variable (hi : i / 256 = c) (hv : m.flag ENG_TICKJOB0_VALID i = true) (hdue : (m.dueAt i m.tickNum || m.dueSkipped i) = true)
  (hshed : m.get ENG_TICKJOB0_SHED i = 0 ∨ m.get GLB_TICK_CFG_SHED_LEVEL < m.get ENG_TICKJOB0_SHED i)
include hi hv hdue hshed

/-- A due entry queues its job, or is skipped while its last one lives (R276). -/
theorem tickEntry_due : m.tickEntry i = if (m.cl c).queueFull 0 || m.tickJobLives i then m.bump (engCtr c 5)
    else m.setCl c ((m.cl c).push 0 (m.tickJob i)) := by
  unfold Mod.tickEntry
  subst hi
  extract_lets c shed
  rw [if_neg (by simp [hv]), if_neg (by simp only [shed]; omega), if_pos hdue]

theorem tickEntry_queues (hroom : (m.cl c).queueFull 0 = false) (hlives : m.tickJobLives i = false) :
    m.tickEntry i = m.setCl c ((m.cl c).push 0 (m.tickJob i)) := by
  rw [tickEntry_due hi hv hdue hshed, hroom, hlives]
  rfl

theorem tickEntry_skips (hlives : m.tickJobLives i = true) : m.tickEntry i = m.bump (engCtr c 5) := by
  rw [tickEntry_due hi hv hdue hshed, hlives, Bool.or_true]
  rfl

end

/-! ### TICK_JOB_DUE -/

theorem tickJobDue_idle {m : Mod} {c : Nat} (h : m.tick.jobsDue.contains c = false) : m.tickJobDue c = m :=
  if_neg (by rw [h]; exact Bool.false_ne_true)

/-- The module with no cluster's tick jobs due any more. -/
def Mod.tickJobsTaken (m : Mod) : Mod := m.withTick { m.tick with jobsDue := [] }

theorem tickJobsDue_none {m : Mod} (h : m.tick.jobsDue = []) : m.tickJobsDue = m := by
  have hidle (c : Nat) : m.tickJobDue c = m := tickJobDue_idle (by rw [h]; rfl)
  unfold Mod.tickJobsDue
  exact List.foldl_fixed' hidle _

/-- Where one cluster's jobs are due and one of its entries is valid, that entry alone acts. -/
theorem tickJobsDue_one {m : Mod} {c i : Nat} (hc : c < 4) (hjobs : m.tick.jobsDue = [c]) (hi : i / 256 = c)
    (hother : ∀ k, k / 256 = c → k ≠ i → m.flag ENG_TICKJOB0_VALID k = false)
    (hflag : ∀ k, (m.tickJobsTaken.tickEntry i).flag ENG_TICKJOB0_VALID k = m.flag ENG_TICKJOB0_VALID k)
    (htick : (m.tickJobsTaken.tickEntry i).tick = m.tickJobsTaken.tick) : m.tickJobsDue = m.tickJobsTaken.tickEntry i := by
  have hsplit : 256 * c + i % 256 = i := by omega
  have hlast : (m.tickJobsTaken.tickEntry i).tick.jobsDue = [] := by
    rw [htick]
    rfl
  have hcluster : m.tickJobDue c = m.tickJobsTaken.tickEntry i := by
    have htaken : m.withTick { m.tick with jobsDue := eraseNat m.tick.jobsDue c } = m.tickJobsTaken := by
      simp [Mod.tickJobsTaken, hjobs, eraseNat]
    unfold Mod.tickJobDue
    rw [if_pos (by simp [hjobs]), htaken]
    have hact : m.tickJobsTaken.tickEntry (256 * c + i % 256) = m.tickJobsTaken.tickEntry i := by rw [hsplit]
    refine (foldl_acts_once (i := i % 256) (List.mem_range.2 (Nat.mod_lt i (by decide))) (fun k hk hne => ?_) fun k hk => ?_).trans hact
    · have hk := List.mem_range.1 hk
      exact tickEntry_invalid (hother (256 * c + k) (by omega) (by omega))
    · obtain ⟨hne, hk⟩ := (List.nodup_range.mem_erase_iff).1 hk
      have hk := List.mem_range.1 hk
      rw [hact]
      exact tickEntry_invalid ((hflag _).trans (hother (256 * c + k) (by omega) (by omega)))
  unfold Mod.tickJobsDue
  refine (foldl_acts_once (List.mem_range.2 hc) (fun k _ hne => tickJobDue_idle (by simpa [hjobs] using hne)) fun k _ => ?_).trans hcluster
  rw [hcluster]
  exact tickJobDue_idle (by rw [hlast]; rfl)

section
variable {s : State} {c : Fin 4} {i : Nat} (hs : s.Running) (hjobs : s.m.tick.jobsDue = [c.val]) (hi : i / 256 = c.val)
  (hother : ∀ k, k / 256 = c.val → k ≠ i → s.m.flag ENG_TICKJOB0_VALID k = false)
  (hv : s.m.flag ENG_TICKJOB0_VALID i = true) (hdue : (s.m.dueAt i s.m.tickNum || s.m.dueSkipped i) = true)
  (hshed : s.m.get ENG_TICKJOB0_SHED i = 0 ∨ s.m.get GLB_TICK_CFG_SHED_LEVEL < s.m.get ENG_TICKJOB0_SHED i)
include hs hjobs hi hother hv hdue hshed

theorem tickJobDue_queues (hroom : (s.m.cl c.val).queueFull 0 = false) (hlives : s.m.tickJobLives i = false) :
    Yields .tickJobDue s fun u => (u.m.cl c.val).tt = (s.m.cl c.val).tt ++ [s.m.tickJob i] ∧ u.m.tick.jobsDue = [] ∧ u.m.buf = s.m.buf := by
  have hact : s.m.tickJobsTaken.tickEntry i = s.m.tickJobsTaken.setCl c.val ((s.m.cl c.val).push 0 (s.m.tickJob i)) :=
    tickEntry_queues (m := s.m.tickJobsTaken) hi hv hdue hshed hroom hlives
  have hstep := tickJobsDue_one c.isLt hjobs hi hother (by rw [hact]; exact fun k => rfl) (by rw [hact]; rfl)
  refine yields_of_does (does_act (exec_tickJobDue s) hs (hstep.trans hact)) ⟨?_, rfl, rfl⟩
  rw [cl_setCl_self]
  rfl

theorem tickJobDue_skips (hlives : s.m.tickJobLives i = true) :
    Yields .tickJobDue s fun u => (u.m.cl c.val).tt = (s.m.cl c.val).tt ∧ u.m.tick.jobsDue = [] := by
  have hact : s.m.tickJobsTaken.tickEntry i = s.m.tickJobsTaken.bump (engCtr c.val 5) :=
    tickEntry_skips (m := s.m.tickJobsTaken) hi hv hdue hshed hlives
  have htold := told_bump s.m.tickJobsTaken (engCtr c.val 5) 1
  have hstep := tickJobsDue_one c.isLt hjobs hi hother (by rw [hact]; exact fun k => htold.flag k rfl) (by rw [hact]; exact htold.tick)
  refine yields_of_does (does_act (exec_tickJobDue s) hs (hstep.trans hact)) ⟨?_, (congrArg TickSt.jobsDue htold.tick :)⟩
  exact queue_of_engHeld (evGrows_bump s.m.tickJobsTaken (engCtr c.val 5) 1).held c.val (j := 0) (by decide)

end

/-! ### TIMER_EXPIRY -/

theorem timerExpiry_idle {m : Mod} {c : Nat} (h : m.tick.timersDue.contains c = false) : m.timerExpiry c = m :=
  if_neg (by rw [h]; exact Bool.false_ne_true)

/-- A timer that is not armed does not fire. -/
theorem fireTimer_unarmed {m : Mod} {c i : Nat} (h : ∀ x, lookup (m.cl c).timers i = some x → x.armed = none) : m.fireTimer c i = m := by
  unfold Mod.fireTimer
  cases htm : lookup (m.cl c).timers i with
  | none => rfl
  | some x => simp only [h x htm]

/-- A cluster in which timer i has fired. -/
def Cluster.fired (k : Cluster) (i : Nat) (tm : Timer) (j : Job) : Cluster :=
  Cluster.push { k with timers := Machine.store k.timers i { tm with armed := none, late := none } } 0 j

/-- An armed timer whose commit has come fires (R279). -/
theorem fireTimer_fires {m : Mod} {c i due op arg : Nat} {tm : Timer} (htm : lookup (m.cl c).timers i = some tm)
    (ha : tm.armed = some (due, op, arg)) (hdue : due ≤ m.commits) (hroom : (m.cl c).queueFull 0 = false) :
    ∃ n : Mod, m.fireTimer c i = n.setCl c ((m.cl c).fired i tm (expiryJob i tm.hedge (tm.late.getD 0) op arg)) := by
  unfold Mod.fireTimer
  rw [htm]
  simp only [ha]
  rw [if_neg (by omega), if_neg (by simp [hroom])]
  exact ⟨_, by unfold Mod.setTimer; rw [cl_setCl_self]; rfl⟩

theorem timerExpiry_fires {s : State} {c : Fin 4} (hs : s.Running) {i due op arg : Nat} {tm : Timer}
    (hc : s.m.tick.timersDue.contains c.val = true) (htm : lookup (s.m.cl c.val).timers i = some tm) (ha : tm.armed = some (due, op, arg))
    (hdue : due ≤ s.m.commits) (hroom : (s.m.cl c.val).queueFull 0 = false)
    (hother : ∀ k x, k ≠ i → lookup (s.m.cl c.val).timers k = some x → x.armed = none) :
    Yields (.timerExpiry c) s fun u => (u.m.cl c.val).tt = (s.m.cl c.val).tt ++ [expiryJob i tm.hedge (tm.late.getD 0) op arg] ∧
      lookup (u.m.cl c.val).timers i = some { tm with armed := none, late := none } := by
  have hstart (m : Mod) (hm : m.eng = s.m.eng) (hcommits : m.commits = s.m.commits) :
      ∃ n : Mod, ((s.m.cl c.val).timers.map (·.1)).foldl (fun m i => m.fireTimer c.val i) m =
        n.setCl c.val ((s.m.cl c.val).fired i tm (expiryJob i tm.hedge (tm.late.getD 0) op arg)) := by
    have hcl : m.cl c.val = s.m.cl c.val := congrArg (EngSt.cl · c.val) hm
    rw [← hcl] at htm hother hroom ⊢
    obtain ⟨n, hn⟩ := fireTimer_fires htm ha (hcommits ▸ hdue) hroom
    refine ⟨n, (foldl_acts_once (mem_keys_of_lookup htm) (fun k _ hk => fireTimer_unarmed fun x => hother k x hk) fun k _ => ?_).trans hn⟩
    rw [hn]
    refine fireTimer_unarmed fun x hx => ?_
    rw [cl_setCl_self] at hx
    change lookup (store (m.cl c.val).timers i _) k = some x at hx
    by_cases hk : k = i
    · rw [hk, lookup_store_self] at hx
      exact (Option.some.inj hx) ▸ rfl
    · exact hother k x hk ((lookup_store_ne _ _ hk).symm.trans hx)
  obtain ⟨n, hn⟩ := hstart (s.m.withTick { s.m.tick with timersDue := eraseNat s.m.tick.timersDue c.val }) rfl rfl
  have hstep : s.m.timerExpiry c.val = _ := (if_pos hc).trans hn
  refine yields_of_does (does_act (exec_timerExpiry c s) hs hstep) ?_
  rw [cl_setCl_self]
  exact ⟨rfl, lookup_store_self _ _ _⟩

end Sys2Proof.Machine
end

section
/-! SUPPORT. Doorbells, the watchdog and the sample records (R262, R282, R303, R304). -/

namespace Sys2Proof.Machine

/-! ### DOORBELL -/

/-- A virtual function that rings an opcode below 0xC0, and a doorbell without room in DB, are refused (R282). -/
theorem doorbell_refused {m : Mod} {p : Path} {c : Nat} {v : Word}
    (h : ((vfHedge p).isSome = true ∧ v.toNat % 256 < 0xC0) ∨ (m.cl c).queueFull 3 = true) :
    ∃ q, m.doorbell p c v = m.doorRefused c q := by
  unfold Mod.doorbell
  extract_lets op vf hedge
  split
  · exact ⟨2, rfl⟩
  · rename_i hvf
    rw [if_pos]
    · exact ⟨1, rfl⟩
    · refine h.resolve_left fun hno => hvf ?_
      cases p <;> simp_all [vfHedge, vf, op]

/-- The job of a doorbell (R282). -/
def doorbellJob (p : Path) (v : Word) : Job :=
  { desc := BitVec.ofNat 128 (v.toNat % 256 + pathHedge p * 2 ^ 8 + doorPath p * 2 ^ 12 + v.toNat / 2 ^ 8 * 2 ^ 16), hedge := pathHedge p,
    kind := .doorbell }

theorem doorbell_rings {m : Mod} {p : Path} {c : Nat} {v : Word} (h : vfHedge p = none ∨ 0xC0 ≤ v.toNat % 256)
    (hroom : (m.cl c).queueFull 3 = false) : m.doorbell p c v = m.setCl c ((m.cl c).push 3 (doorbellJob p v)) := by
  unfold Mod.doorbell
  extract_lets op vf hedge
  rw [if_neg, if_neg (by rw [hroom]; exact Bool.false_ne_true)]
  · rfl
  · cases p <;> simp_all [vfHedge, vf, op]

theorem toNat_doorbellJob (p : Path) (v : Word) :
    (doorbellJob p v).desc.toNat = v.toNat % 256 + pathHedge p * 2 ^ 8 + doorPath p * 2 ^ 12 + v.toNat / 2 ^ 8 * 2 ^ 16 := by
  have hv := v.isLt
  have hh : pathHedge p < 16 := by
    cases p with
    | vf h => exact h.isLt
    | _ => exact Nat.zero_lt_succ _
  have hp : doorPath p ≤ 4 := by cases p <;> simp [doorPath]
  unfold doorbellJob
  rw [BitVec.toNat_ofNat, Nat.mod_eq_of_lt]
  omega

section
variable {s : State} {p : Path} {c : Fin 4} {v : Word} (hg : s.Granted p .ENG_DOORBELL c.val c.val v)
include hg

theorem does_doorbell {n : Mod} (hn : s.m.doorbell p c.val v = n) : Does (.doorbell p c v) s n := by
  refine does_put_unimaged (exec_doorbell p c v s) hg rfl (by decide) (b := true) ?_
  unfold Mod.blockWrite
  rw [← hn]
  exact if_neg (show ¬ (settable .ENG_DOORBELL).isEmpty = true by decide)

/-- A refused doorbell shows in ENG_EVENT, and leaves DB. -/
theorem doorbell_refusal (h : ((vfHedge p).isSome = true ∧ v.toNat % 256 < 0xC0) ∨ (s.m.cl c.val).queueFull 3 = true) :
    Yields (.doorbell p c v) s fun u => (u.m.cl c.val).db = (s.m.cl c.val).db ∧ u.m.flag ENG_EVENT_QUEUE c.val = true := by
  obtain ⟨q, hq⟩ := doorbell_refused h
  have hgrows : EvGrows s.m (s.m.doorRefused c.val q) :=
    (evGrows_bump s.m (engCtr c.val 9) 1).trans ((evGrows_sqc _ _ c.val).trans (evGrows_eventRated _ _ _))
  refine yields_of_does (does_doorbell hg hq) ⟨queue_of_engHeld hgrows.held c.val (j := 3) (by decide), ?_⟩
  exact ((told_eventRated _ _ _).flag c.val rfl).trans (flag_sqc_bit _ c.val rfl)

theorem doorbell_job (h : vfHedge p = none ∨ 0xC0 ≤ v.toNat % 256) (hroom : (s.m.cl c.val).queueFull 3 = false) :
    Yields (.doorbell p c v) s fun u => ∃ j, (u.m.cl c.val).db = (s.m.cl c.val).db ++ [j] ∧ j.hedge = pathHedge p ∧
      j.desc.toNat = v.toNat % 256 + pathHedge p * 2 ^ 8 + doorPath p * 2 ^ 12 + v.toNat / 2 ^ 8 * 2 ^ 16 := by
  refine yields_of_does (does_doorbell hg (doorbell_rings h hroom)) ⟨doorbellJob p v, ?_, rfl, toNat_doorbellJob p v⟩
  rw [cl_setCl_self]
  rfl

end

/-! ### A sample record -/

/-- The module with a sample record at PROD of cluster c, and PROD advanced. -/
def Mod.recorded (m : Mod) (c v : Nat) : Mod :=
  (m.setCl c { m.cl c with samples := store (m.cl c).samples ((m.cl c).prod % 1024) v, prod := ((m.cl c).prod + 1) % 2 ^ 32 }).sampleIdx c

theorem recorded_eng (m : Mod) (c v : Nat) : (m.recorded c v).eng = (m.setCl c { m.cl c with
    samples := store (m.cl c).samples ((m.cl c).prod % 1024) v, prod := ((m.cl c).prod + 1) % 2 ^ 32 }).eng :=
  (set_eng _ _ _ _).trans (set_eng _ _ _ _)

theorem cl_recorded (m : Mod) (c v : Nat) : (m.recorded c v).cl c =
    { m.cl c with samples := store (m.cl c).samples ((m.cl c).prod % 1024) v, prod := ((m.cl c).prod + 1) % 2 ^ 32 } :=
  (congrArg (EngSt.cl · c) (recorded_eng m c v)).trans (cl_setCl_self m c _)

theorem sampleStore_open {m : Mod} {key : Nat} (x : Sample) (h : m.flag EPC_SAMPLE_CFG_STOP_FULL (key / 768) = false) :
    ∃ v, m.sampleStore key x = m.recorded (key / 768) v :=
  ⟨_, if_neg fun hf => Bool.false_ne_true (h.symm.trans hf.1)⟩

/-! ### WATCHDOG -/

/-- A job fault frees its thread and shows in ENG_EVENT (R262). -/
theorem jobFault_ends {m : Mod} {key : Nat} {t : Thread} (ht : m.thread key = some t) (kind : Nat) :
    (m.jobFault key kind).flag ENG_EVENT_FAULT (key / 768) = true ∧
      (m.jobFault key kind).eng.threads = (m.freeThread key).eng.threads := by
  obtain ⟨n, e, hn, hfault⟩ : ∃ (n : Mod) (e : Ev), EvGrows (m.freeThread key) n ∧
      m.jobFault key kind = (n.sqc ENG_EVENT_FAULT (key / 768)).event e := by
    unfold Mod.jobFault
    rw [ht]
    refine ⟨_, _, ?_, rfl⟩
    exact ((evGrows_orphan _ _ _).trans (evGrows_bump _ _ 1)).trans (.ite (.same rfl) (.refl _))
  rw [hfault]
  exact ⟨((told_event _ e).flag (key / 768) rfl).trans (flag_sqc_bit n (key / 768) rfl),
    (hn.trans ((evGrows_sqc n _ (key / 768)).trans (evGrows_event _ e))).threads⟩

section
variable {s : State} {r : ThreadRef} (hs : s.Running)
include hs

theorem watchdog_leaves (h : s.m.thread (threadKey r) = none ∨ s.m.get ENG_JOB_LIMIT_MAX_CYCLES (threadKey r / 768) = 0) :
    Does (.watchdog r) s s.m := by
  refine does_act (exec_watchdog r s) hs ?_
  unfold Mod.watchdog
  cases ht : s.m.thread (threadKey r) with
  | none => rfl
  | some t => exact if_pos (h.resolve_left (by simp [ht]))

/-- The job of a thread that has run its limit ends with a fault. -/
theorem watchdog_faults {t : Thread} (ht : s.m.thread (threadKey r) = some t)
    (hlimit : s.m.get ENG_JOB_LIMIT_MAX_CYCLES (threadKey r / 768) ≠ 0)
    (hover : t.since + ceilDiv (2 * s.m.get ENG_JOB_LIMIT_MAX_CYCLES (threadKey r / 768)) 3 ≤ s.m.now) :
    Yields (.watchdog r) s fun u => lookup u.m.eng.threads (threadKey r) = none ∧ u.m.flag ENG_EVENT_FAULT (threadKey r / 768) = true ∧
      (∀ k, k ≠ threadKey r → lookup u.m.eng.threads k = lookup s.m.eng.threads k) := by
  have hstep : s.m.watchdog (threadKey r) = s.m.jobFault (threadKey r) 5 := by
    unfold Mod.watchdog
    rw [ht]
    exact (if_neg hlimit).trans (congrArg (Mod.jobFault · (threadKey r) 5) (advanceTo_past hover))
  obtain ⟨hflag, hthreads⟩ := jobFault_ends ht 5
  have hlookup (k : Nat) : lookup (s.m.jobFault (threadKey r) 5).eng.threads k =
      if k = threadKey r then none else lookup s.m.eng.threads k :=
    (congrArg (lookup · k) hthreads).trans (thread_freeThread s.m (threadKey r) k)
  exact yields_of_does (does_act (exec_watchdog r s) hs hstep) ⟨(hlookup _).trans (if_pos rfl), hflag, fun k hk => (hlookup k).trans (if_neg hk)⟩

/-! ### SAMPLE_RECORD -/

theorem sampleRecord_leaves (h : ∀ t, s.m.thread (threadKey r) = some t → t.tagged = none ∨ t.read.isSome = true) :
    Does (.sampleRecord r) s s.m := by
  refine does_act (exec_sampleRecord r s) hs ?_
  unfold Mod.sampleRecord
  split
  · rfl
  · rename_i t ht
    split
    · rename_i htag hread
      rcases h t ht with hno | hpending
      · rw [htag] at hno; cases hno
      · rw [hread] at hpending; cases hpending
    · rfl

/-- A completed tagged microword's record stands at PROD, which advances (R303, R304). -/
theorem sampleRecord_stores {t : Thread} {x : Nat × Nat × Nat × Nat} (ht : s.m.thread (threadKey r) = some t) (htag : t.tagged = some x)
    (hread : t.read = none) (hstop : s.m.flag EPC_SAMPLE_CFG_STOP_FULL (threadKey r / 768) = false) :
    Yields (.sampleRecord r) s fun u => s.ThreadIs u (threadKey r) { t with tagged := none } ∧
      (u.m.cl (threadKey r / 768)).prod = ((s.m.cl (threadKey r / 768)).prod + 1) % 2 ^ 32 ∧
      (lookup (u.m.cl (threadKey r / 768)).samples ((s.m.cl (threadKey r / 768)).prod % 1024)).isSome = true ∧
      (∀ k, k ≠ (s.m.cl (threadKey r / 768)).prod % 1024 →
        lookup (u.m.cl (threadKey r / 768)).samples k = lookup (s.m.cl (threadKey r / 768)).samples k) := by
  obtain ⟨uaddr, issue, mem, msp⟩ := x
  obtain ⟨v, hstep⟩ : ∃ v, s.m.sampleRecord (threadKey r) =
      (s.m.setThread (threadKey r) { t with tagged := none }).recorded (threadKey r / 768) v := by
    unfold Mod.sampleRecord
    rw [ht]
    simp only [htag, hread]
    exact sampleStore_open _ hstop
  have hcl := cl_recorded (s.m.setThread (threadKey r) { t with tagged := none }) (threadKey r / 768) v
  refine yields_of_does (does_act (exec_sampleRecord r s) hs hstep) ⟨threadIs_of_threads ?_, ?_, ?_, fun k hk => ?_⟩
  · exact (congrArg EngSt.threads (recorded_eng _ _ v)).trans (threads_setCl _ _ _).1
  · rw [hcl]
    rfl
  · rw [hcl]
    exact (congrArg Option.isSome (lookup_store_self _ _ v) :)
  · rw [hcl]
    exact lookup_store_ne _ _ hk

end

/-- Settles O49: each event of the scheduler by its own rule; a queue's head leaves it before its thread starts, so the queue keeps the
rest whatever the start reports. -/
theorem jobsStartAndFallDue : Obligations.JobsStartAndFallDue := by
  unfold Obligations.JobsStartAndFallDue
  refine ⟨fun s c hs => ⟨fun h => ?_, fun h hr hq hi => ?_, fun k j l h hr hq hk => ⟨fun key hp hop hv => ?_, fun hop => ?_⟩⟩,
    fun s hs => ⟨fun h => does_act (exec_tickJobDue s) hs (tickJobsDue_none h),
      fun c i hjobs hi hother hv hdue hshed => ⟨tickJobDue_queues hs hjobs hi hother hv hdue hshed,
        tickJobDue_skips hs hjobs hi hother hv hdue hshed⟩⟩,
    fun s c hs => ⟨fun h => does_act (exec_timerExpiry c s) hs (timerExpiry_idle h),
      fun i tm due op arg hc htm ha hdue hroom hother => timerExpiry_fires hs hc htm ha hdue hroom hother⟩,
    fun s p c v hg => ⟨fun hvf hop => doorbell_refusal hg (.inl ⟨hvf, hop⟩), fun _ hfull => doorbell_refusal hg (.inr hfull),
      fun h hroom => doorbell_job hg h hroom⟩,
    fun s r key c hs hkey hc => ?_⟩
  · exact does_act (exec_jobStart c s) hs (jobStart_idle h)
  · exact does_act (exec_jobStart c s) hs (jobStart_nothing h hr hq hi)
  · exact jobStart_runs hs h hr hq hk hp hop hv
  · exact jobStart_drops hs h hr hq hk hop
  · subst hkey hc
    exact ⟨watchdog_leaves hs, fun t ht hlimit hover => watchdog_faults hs ht hlimit hover, sampleRecord_leaves hs,
      fun t x ht htag hread hstop => sampleRecord_stores hs ht htag hread hstop⟩

end Sys2Proof.Machine
end

section
/-! SUPPORT. The writes to a cluster's exchange, counters and samples (R289, R295, R304, R305). -/

namespace Sys2Proof.Machine

/-! ### A staged exchange request -/

/-- A value staged in a set stands in it, and costs no more than itself. -/
theorem mem_stagedWith (l : List Staged) (x : Staged) : x ∈ stagedWith l x := List.mem_append_right _ List.mem_cons_self

theorem mem_stagedWith_of_mem {l : List Staged} {x y : Staged} (h : y ∈ l) (hk : y.key ≠ x.key) : y ∈ stagedWith l x :=
  List.mem_append_left _ (List.mem_filter.2 ⟨h, by simpa using hk⟩)

theorem stagedSize_eq_sum (l : List Staged) : stagedSize l = (l.map fun x => stageCost x.key).sum := by
  have general (l : List Staged) (a : Nat) : l.foldl (fun a x => a + stageCost x.key) a = a + (l.map fun x => stageCost x.key).sum := by
    induction l generalizing a with
    | nil => rfl
    | cons x l ih => rw [List.foldl_cons, ih, List.map_cons, List.sum_cons, Nat.add_assoc]
  exact (general l 0).trans (Nat.zero_add _)

theorem stagedSize_stagedWith (l : List Staged) (x : Staged) : stagedSize (stagedWith l x) ≤ stagedSize l + stageCost x.key := by
  simp only [stagedSize_eq_sum, stagedWith, List.map_append, List.sum_append, List.map_cons, List.map_nil, List.sum_singleton]
  exact Nat.add_le_add_right ((List.filter_sublist.map _).sum_le_sum fun _ _ => Nat.zero_le _) _

theorem blockWrite_exchange (m : Mod) (l : BitVec 5) (p : Path) (c : Nat) (w : Word) (x : Option Found) :
    m.blockWrite l (wholeWrite p .ENG_XCHG_CTL c w) x = (true, m.regStore (wholeWrite p .ENG_XCHG_CTL c w)) := by
  unfold Mod.blockWrite
  exact if_neg (show ¬ (settable .ENG_XCHG_CTL).isEmpty = true by decide)

/-- The fields of ENG_XCHG_CTL are staged by their write (R289). -/
theorem regStore_exchange {m : Mod} {p : Path} {c base req : Nat} {w : Word}
    (habsent : (m.flag GLB_STATUS_HEADLESS && isCluster p) = false) (hbase : ENG_XCHG_CTL_IMG_BASE.of w = base)
    (hreq : ENG_XCHG_CTL_REQ.of w = req) : m.regStore (wholeWrite p .ENG_XCHG_CTL c w) =
      (m.stage (.field .ENG_XCHG_CTL c 28 36) base).stage (.field .ENG_XCHG_CTL c 0 1) req := by
  have hbase' : ENG_XCHG_CTL_IMG_BASE.of (m.asWritten (wholeWrite p .ENG_XCHG_CTL c w)) = base := (of_onto p c w _ (by decide)).trans hbase
  have hreq' : ENG_XCHG_CTL_REQ.of (m.asWritten (wholeWrite p .ENG_XCHG_CTL c w)) = req := (of_onto p c w _ (by decide)).trans hreq
  subst hbase' hreq'
  exact if_neg (habsent ▸ Bool.false_ne_true)

section
variable {s : State} {p : Path} {c : Fin 4} {v : Word} (hg : s.Granted p .ENG_XCHG_CTL c.val c.val (withOp ENG_XCHG_CTL_REQ v 1))
include hg

/-- A granted request stages its base and REQ. -/
theorem does_exchangeRequest : Does (.exchangeRequest p c v) s
    ((s.m.stage (.field .ENG_XCHG_CTL c.val 28 36) (v.toNat / 2 ^ 28)).stage (.field .ENG_XCHG_CTL c.val 0 1) 1) := by
  refine does_put_unimaged (exec_exchangeRequest p c v s) hg rfl (by decide) (b := true) ?_
  have habsent : (s.m.flag GLB_STATUS_HEADLESS && isCluster p) = false := by
    rcases hg.present with h | h
    · rw [h, Bool.and_false]
    · rw [show s.m.flag GLB_STATUS_HEADLESS = false from h, Bool.false_and]
  have hbase : ENG_XCHG_CTL_IMG_BASE.of (withOp ENG_XCHG_CTL_REQ v 1) = v.toNat / 2 ^ 28 := by
    refine (of_put_ne ENG_XCHG_CTL_REQ ENG_XCHG_CTL_IMG_BASE v 1 (by decide) (by decide)).trans (Nat.mod_eq_of_lt ?_)
    have := v.isLt
    simp only [ENG_XCHG_CTL_IMG_BASE]
    omega
  have hreq : ENG_XCHG_CTL_REQ.of (withOp ENG_XCHG_CTL_REQ v 1) = 1 := of_put ENG_XCHG_CTL_REQ v 1 (by decide)
  exact (blockWrite_exchange s.m _ p _ _ none).trans (congrArg (Prod.mk true) (regStore_exchange habsent hbase hreq))

theorem exchangeRequest_stages (hopen : s.m.stageClosed = false) (hkept : s.m.tick.nowLost = false)
    (hroom : stagedSize s.m.tick.now + 2 ≤ stageDepth) : Yields (.exchangeRequest p c v) s fun u =>
      ⟨.field .ENG_XCHG_CTL c.val 0 1, 1⟩ ∈ u.m.tick.now ∧ ⟨.field .ENG_XCHG_CTL c.val 28 36, v.toNat / 2 ^ 28⟩ ∈ u.m.tick.now ∧
        u.m.eng = s.m.eng := by
  have hbase := stagedSize_stagedWith s.m.tick.now ⟨.field .ENG_XCHG_CTL c.val 28 36, v.toNat / 2 ^ 28⟩
  have hreq := stagedSize_stagedWith (stagedWith s.m.tick.now ⟨.field .ENG_XCHG_CTL c.val 28 36, v.toNat / 2 ^ 28⟩)
    ⟨.field .ENG_XCHG_CTL c.val 0 1, 1⟩
  have hcost (a b : Nat) : stageCost (.field .ENG_XCHG_CTL c.val a b) = 1 := rfl
  rw [hcost] at hbase hreq
  have hfirst := stage_open hopen hkept (hbase.trans (by omega))
  have hsecond := stage_open (m := s.m.withTick { s.m.tick with now := stagedWith s.m.tick.now _ }) hopen hkept (hreq.trans (by omega))
  have hdoes := does_exchangeRequest hg
  rw [hfirst, hsecond] at hdoes
  exact yields_of_does hdoes ⟨mem_stagedWith _ _, mem_stagedWith_of_mem (mem_stagedWith _ _) (by simp), rfl⟩

end

/-! ### Counters and selectors -/

/-- A granted write of a register that holds what is written, and that no image holds. -/
theorem does_put_stores {i : Instr} {s : State} {p : Path} {r : Reg} {j : Nat} {v : Word} (hc : exec i s = s.put p r j v none)
    (hg : s.Granted p r j j v) (hk : keyGroup r = none) (hi : imaged r = false) (hh : holdsWritten r = true) :
    Does i s (s.m.wr r j ((wholeWrite p r j v).onto (s.m.rd r j))) := by
  refine does_put_unimaged hc hg hk hi (b := true) ?_
  rw [blockWrite_of_holdsWritten hh, regStore_wholeWrite hh]

/-- A field of such a register reads what was written. -/
theorem get_written (m : Mod) (p : Path) {f : Fld} (j : Nat) (v : Word) (hf : settableField f.reg f = true) :
    (m.wr f.reg j ((wholeWrite p f.reg j v).onto (m.rd f.reg j))).get f j = f.of v := by
  unfold Mod.get
  rw [rd_wr]
  exact of_onto p j v _ hf

/-! ### FREEZE -/

/-- Each engine of a cluster copies its cycle counter as it freezes (R305). -/
def Mod.cyclesCopied (m : Mod) (c n : Nat) : Mod :=
  (List.range n).foldl (fun m e => m.set EPC_FREEZE_CYCLE_CYCLE (engineIdx c e) (m.engineCycle c e)) m

theorem cyclesCopied_succ (m : Mod) (c n : Nat) : m.cyclesCopied c (n + 1) =
    (m.cyclesCopied c n).set EPC_FREEZE_CYCLE_CYCLE (engineIdx c n) ((m.cyclesCopied c n).engineCycle c n) := by
  unfold Mod.cyclesCopied
  rw [List.range_succ, List.foldl_append]
  rfl

theorem engineCycle_set (m : Mod) (f : Fld) (i v c e : Nat) : (m.set f i v).engineCycle c e = m.engineCycle c e := rfl

theorem engineCycle_cyclesCopied (m : Mod) (c n e : Nat) : (m.cyclesCopied c n).engineCycle c e = m.engineCycle c e := by
  induction n with
  | zero => rfl
  | succ n ih => rw [cyclesCopied_succ, engineCycle_set, ih]

theorem get_cyclesCopied_ne (m : Mod) (c n : Nat) {g : Fld} (i : Nat) (h : g.reg.apart .EPC_FREEZE_CYCLE = true) :
    (m.cyclesCopied c n).get g i = m.get g i := by
  induction n with
  | zero => rfl
  | succ n ih => rw [cyclesCopied_succ, get_set_ne _ EPC_FREEZE_CYCLE_CYCLE g _ _ _ h, ih]

theorem freezeCycle_addr_ne : ∀ c < 4, ∀ a < 17, ∀ b < 17, a ≠ b →
    Reg.EPC_FREEZE_CYCLE.addr (engineIdx c a) ≠ Reg.EPC_FREEZE_CYCLE.addr (engineIdx c b) := by
  decide

theorem get_cyclesCopied (m : Mod) {c n e : Nat} (hc : c < 4) (hn : n ≤ 17) (he : e < n) :
    (m.cyclesCopied c n).get EPC_FREEZE_CYCLE_CYCLE (engineIdx c e) = m.engineCycle c e % 2 ^ 64 := by
  induction n with
  | zero => exact absurd he (Nat.not_lt_zero e)
  | succ n ih =>
    rw [cyclesCopied_succ]
    by_cases h : e = n
    · subst h
      rw [get_set _ _ _ _ (by decide), engineCycle_cyclesCopied]
      rfl
    · refine Eq.trans ?_ (ih (by omega) (by omega))
      exact congrArg EPC_FREEZE_CYCLE_CYCLE.of (rd_wr_addr _ _ _ _ _ _ (freezeCycle_addr_ne c hc e (by omega) n (by omega) h))

section
variable {m : Mod} {c : Nat}

theorem flag_frozenSet (m : Mod) (c : Nat) (b : Bool) : (m.set EPC_CTL_FROZEN c (b01 b)).flag EPC_CTL_FROZEN c = b := by
  refine (flag_of_get (get_set m EPC_CTL_FROZEN c (b01 b) (by decide))).trans ?_
  cases b <;> rfl

/-- A cluster's freeze follows FREEZE and FREEZE_ALL (R305). -/
theorem freezeUpdate_frozen : (m.freezeUpdate c).flag EPC_CTL_FROZEN c = (m.flag EPC_CTL_FREEZE c || m.flag EPC_GLB_CTL_FREEZE_ALL) := by
  unfold Mod.freezeUpdate
  extract_lets want m1
  have h1 : m1.flag EPC_CTL_FROZEN c = want := flag_frozenSet m c want
  split
  · rename_i h
    exact h.symm
  · split
    · exact (congrArg (· == 1) (get_cyclesCopied_ne m1 c 17 c rfl)).trans h1
    · exact h1

/-- A cluster that freezes shows the cycle counter of each of its engines. -/
theorem freezeUpdate_copies (hc : c < 4) (hwant : m.flag EPC_CTL_FREEZE c = true) (hthawed : m.flag EPC_CTL_FROZEN c = false) {e : Nat}
    (he : e < 17) : (m.freezeUpdate c).get EPC_FREEZE_CYCLE_CYCLE (engineIdx c e) = m.engineCycle c e % 2 ^ 64 := by
  have hfreezes : m.freezeUpdate c = (m.set EPC_CTL_FROZEN c (b01 true)).cyclesCopied c 17 := by
    unfold Mod.freezeUpdate Mod.frozen
    rw [hwant, hthawed]
    rfl
  rw [hfreezes, get_cyclesCopied _ hc le_rfl he, engineCycle_set]

end

section
variable {s : State} {p : Path} {c : Fin 4} {on : Bool} (hg : s.Granted p .EPC_CTL c.val c.val (EPC_CTL_FREEZE.put 0 (if on then 1 else 0)))
include hg

theorem freeze_shows : Yields (.freeze p c on) s fun u => u.m.flag EPC_CTL_FROZEN c.val = (on || s.m.flag EPC_GLB_CTL_FREEZE_ALL) ∧
    (s.m.flag EPC_CTL_FROZEN c.val = false → on = true → ∀ e, e < 17 →
      u.m.get EPC_FREEZE_CYCLE_CYCLE (engineIdx c.val e) = s.m.engineCycle c.val e % 2 ^ 64) := by
  let v : Word := EPC_CTL_FREEZE.put 0 (if on then 1 else 0)
  let new : Word := (wholeWrite p .EPC_CTL c.val v).onto (s.m.rd .EPC_CTL c.val)
  have hdoes : Does (.freeze p c on) s ((s.m.wr .EPC_CTL c.val new).freezeUpdate c.val) := by
    refine does_put_unimaged (exec_freeze p c on s) hg rfl (by decide) (b := true) ?_
    have hstore := regStore_unstaged (r := .EPC_CTL) (by decide) (by decide) (by decide) s.m p c.val v
    unfold Mod.blockWrite
    rw [← hstore]
    exact if_neg (show ¬ (settable .EPC_CTL).isEmpty = true by decide)
  have hfreeze : (s.m.wr .EPC_CTL c.val new).flag EPC_CTL_FREEZE c.val = on := by
    have hof : EPC_CTL_FREEZE.of v = b01 on := by cases on <;> decide
    have hget : (s.m.wr .EPC_CTL c.val new).get EPC_CTL_FREEZE c.val = b01 on := (get_written s.m p c.val v (by decide)).trans hof
    rw [flag_of_get hget]
    cases on <;> rfl
  have hfrozen : (s.m.wr .EPC_CTL c.val new).flag EPC_CTL_FROZEN c.val = s.m.flag EPC_CTL_FROZEN c.val := by
    refine congrArg (· == 1) ((congrArg EPC_CTL_FROZEN.of (rd_wr s.m .EPC_CTL c.val new)).trans ?_)
    exact of_put_ne EPC_CTL_FREEZE EPC_CTL_FROZEN _ _ (by decide) (by decide)
  have hall : (s.m.wr .EPC_CTL c.val new).flag EPC_GLB_CTL_FREEZE_ALL = s.m.flag EPC_GLB_CTL_FREEZE_ALL :=
    congrArg (EPC_GLB_CTL_FREEZE_ALL.of · == 1) (rd_wr_ne s.m .EPC_CTL .EPC_GLB_CTL c.val 0 new rfl)
  refine yields_of_does hdoes ⟨?_, fun hthawed hon e he => ?_⟩
  · rw [freezeUpdate_frozen, hfreeze, hall]
  · exact freezeUpdate_copies c.isLt (hfreeze.trans hon) (hfrozen.trans hthawed) he

end

/-! ### The sample indices -/

/-- CONS moves forward, and not past PROD (R304). -/
theorem cons_sampleCons (m : Mod) (c v : Nat) : ((m.sampleCons c v).cl c).cons =
    if (v + 2 ^ 16 - (m.cl c).cons % 2 ^ 16) % 2 ^ 16 ≤ ((m.cl c).prod + 2 ^ 32 - (m.cl c).cons) % 2 ^ 32 then
      ((m.cl c).cons + (v + 2 ^ 16 - (m.cl c).cons % 2 ^ 16) % 2 ^ 16) % 2 ^ 32 else (m.cl c).cons := by
  have hidx (n : Mod) : (n.sampleIdx c).cl c = n.cl c := rfl
  unfold Mod.sampleCons
  extract_lets k step
  split
  · rw [hidx, cl_setCl_self]
  · rw [hidx]

theorem does_sampleConsWrite {s : State} {p : Path} {c : Fin 4} {v : Word} (hg : s.Granted p .EPC_SAMPLE_IDX c.val c.val v) :
    Does (.sampleConsWrite p c v) s (s.m.sampleCons c.val (v.toNat / 2 ^ 16 % 2 ^ 16)) := by
  refine does_put_unimaged (exec_sampleConsWrite p c v s) hg rfl (by decide) (b := true) ?_
  unfold Mod.blockWrite
  exact if_neg (show ¬ (settable .EPC_SAMPLE_IDX).isEmpty = true by decide)

end Sys2Proof.Machine
end

section
/-! SUPPORT. The windows of a cluster (R287, R295, R304): its control store and its samples. -/

namespace Sys2Proof.Machine

/-! ### A window's answer -/

/-- A reply that shows some data shows each part of it. -/
theorem replies_of_subset {m : Mod} {win : WinId} {st : Fld} {i status : Nat} {data part : List (Reg × Nat × Word)} (h : part ⊆ data)
    (hr : m.replies win st i status data = true) : m.replies win st i status part = true := by
  unfold Mod.replies at hr ⊢
  split at hr
  · simp only [Bool.and_eq_true, List.all_eq_true] at hr ⊢
    exact ⟨hr.1, fun d hd => hr.2 d (h hd)⟩
  · exact absurd hr Bool.false_ne_true

/-- A window command that writes no table of the image, on its way to its block. -/
theorem does_opened {c : Instr} {s : State} {p : Path} {r : Reg} {i j : Nat} {w : WinId} {v : Word} (hc : exec c s = s.put p r i v none)
    (h : s.Opened p r i j w v) (hgrf : r ≠ .GRF_CMD) (hentry : s.m.winEntry p r v = none) :
    Does c s (s.m.winCommand p r j (writable r (s.m.rd r j) v) true []) := by
  have hdrift (m : Mod) : m.winDrift s.m p r v = m := by
    unfold Mod.winDrift
    rw [hentry]
  have hput := put_opened s p r i j w v none h hgrf
  rw [hdrift] at hput
  exact hc.trans hput

theorem eng_winBegin (m : Mod) (win : WinId) (r : Reg) (i : Nat) (busy st : Fld) (w : Word) (status : Nat) (extra : List (Reg × Nat × Word)) :
    (m.winBegin win r i busy st w status extra).eng = m.eng := rfl

theorem cl_winBegin (m : Mod) (win : WinId) (r : Reg) (i : Nat) (busy st : Fld) (w : Word) (status : Nat) (extra : List (Reg × Nat × Word))
    (c : Nat) : (m.winBegin win r i busy st w status extra).cl c = m.cl c := rfl

/-- A command accepted without an event: its reply. -/
theorem replies_winBegin (m : Mod) (win : WinId) {r : Reg} (i : Nat) {busy st : Fld} (w : Word) {status : Nat} (data : List (Reg × Nat × Word))
    (hf : answerFields r busy st = true) (hs : status < 2 ^ st.width) :
    (m.winBegin win r i busy st w status data).replies win st i status data = true :=
  replies_of_winBegin hf hs rfl rfl

/-! ### ENG_CS_WIN_CMD -/

section
variable {m : Mod} {p : Path} {c : Nat} {w : Word}

/-- The data of a control-store read: the word's two halves and its check bits. -/
def storeData (c v : Nat) : List (Reg × Nat × Word) :=
  [(.ENG_CS_WIN_DATA0, c, BitVec.ofNat 64 v), (.ENG_CS_WIN_DATA1, c, BitVec.ofNat 64 (v / 2 ^ 64)),
   (.ENG_CS_WIN_DATA2, c, (Config.checkBits (BitVec.ofNat 128 v)).setWidth 64)]

theorem storeWindow_read (h : ENG_CS_WIN_CMD_OP.of w = 1) : m.storeWindow p c w =
    m.winBegin (.cs c) .ENG_CS_WIN_CMD c ENG_CS_WIN_CMD_BUSY ENG_CS_WIN_CMD_STATUS w 0
      (storeData c (lookupD (m.cl c).store (ENG_CS_WIN_CMD_ADDR.of w) 0)) := by
  simp [Mod.storeWindow, Mod.winAnswer, storeData, h]

/-- The cluster with a word of its control store replaced (R287). -/
def Mod.storePut (m : Mod) (c a v : Nat) : Mod := m.setCl c { m.cl c with store := storeUnless 0 (m.cl c).store a v }

theorem storeWindow_write (h : ENG_CS_WIN_CMD_OP.of w = 2) (hoff : m.get ENG_CLUSTER_STATUS_STATE c = 3) : m.storeWindow p c w =
    (m.storePut c (ENG_CS_WIN_CMD_ADDR.of w) ((m.rd .ENG_CS_WIN_DATA0 c).toNat + (m.rd .ENG_CS_WIN_DATA1 c).toNat * 2 ^ 64)).winBegin
      (.cs c) .ENG_CS_WIN_CMD c ENG_CS_WIN_CMD_BUSY ENG_CS_WIN_CMD_STATUS w 0 [] := by
  simp [Mod.storeWindow, Mod.winAnswer, Mod.storePut, h, hoff]

theorem storeWindow_refused (h : ENG_CS_WIN_CMD_OP.of w = 2) (hoff : m.get ENG_CLUSTER_STATUS_STATE c ≠ 3) : m.storeWindow p c w =
    (m.winBegin (.cs c) .ENG_CS_WIN_CMD c ENG_CS_WIN_CMD_BUSY ENG_CS_WIN_CMD_STATUS w 3 []).winRefused p (.cs c) w 3 := by
  simp [Mod.storeWindow, Mod.winAnswer, h, hoff]

end

section
variable {s : State} {p : Path} {c : Fin 4} {v : Word}

/-- The word of a control-store command as its block takes it. -/
theorem addr_storeWord (old : Word) (op : Nat) : ENG_CS_WIN_CMD_ADDR.of (commandWord ENG_CS_WIN_CMD_OP old v op) = ENG_CS_WIN_CMD_ADDR.of v :=
  of_commandWord old v op (by decide) (by decide) (by decide)

theorem op_storeWord (old : Word) {op : Nat} (h : op < 4) : ENG_CS_WIN_CMD_OP.of (commandWord ENG_CS_WIN_CMD_OP old v op) = op :=
  op_commandWord old v (by decide) (by decide) h

theorem does_storeWindow {i : Instr} {op : Nat} {n : Mod} (hc : exec i s = s.put p .ENG_CS_WIN_CMD c.val (withOp ENG_CS_WIN_CMD_OP v op) none)
    (ho : s.Opened p .ENG_CS_WIN_CMD c.val c.val (.cs c.val) (withOp ENG_CS_WIN_CMD_OP v op))
    (hn : s.m.storeWindow p c.val (commandWord ENG_CS_WIN_CMD_OP (s.m.rd .ENG_CS_WIN_CMD c.val) v op) = n) : Does i s n := by
  subst hn
  exact does_opened hc ho (by decide) rfl

theorem replies_store (m : Mod) (w : Word) {status : Nat} (hs : status < 8) (data : List (Reg × Nat × Word)) :
    (m.winBegin (.cs c.val) .ENG_CS_WIN_CMD c.val ENG_CS_WIN_CMD_BUSY ENG_CS_WIN_CMD_STATUS w status data).replies (.cs c.val)
      ENG_CS_WIN_CMD_STATUS c.val status data = true := replies_winBegin m _ _ w data (by decide) hs

theorem controlStoreRead_replies (ho : s.Opened p .ENG_CS_WIN_CMD c.val c.val (.cs c.val) (withOp ENG_CS_WIN_CMD_OP v 1)) :
    Yields (.controlStoreRead p c v) s fun u => u.m.replies (.cs c.val) ENG_CS_WIN_CMD_STATUS c.val 0
      [(.ENG_CS_WIN_DATA0, c.val, BitVec.ofNat 64 (lookupD (s.m.cl c.val).store (ENG_CS_WIN_CMD_ADDR.of v) 0)),
       (.ENG_CS_WIN_DATA1, c.val, BitVec.ofNat 64 (lookupD (s.m.cl c.val).store (ENG_CS_WIN_CMD_ADDR.of v) 0 / 2 ^ 64))] = true ∧
      u.m.eng = s.m.eng := by
  have hw := storeWindow_read (m := s.m) (p := p) (c := c.val) (op_storeWord (v := v) (s.m.rd .ENG_CS_WIN_CMD c.val) (op := 1) (by decide))
  rw [addr_storeWord] at hw
  refine yields_of_does (does_storeWindow (exec_controlStoreRead p c v s) ho hw)
    ⟨replies_of_subset ?_ (replies_store s.m _ (by decide) _), eng_winBegin s.m _ _ _ _ _ _ _ _⟩
  exact fun d hd => by
    rcases List.mem_cons.1 hd with rfl | hd
    · exact List.mem_cons_self
    · exact List.mem_cons_of_mem _ ((List.mem_singleton.1 hd) ▸ List.mem_cons_self)

section
variable (ho : s.Opened p .ENG_CS_WIN_CMD c.val c.val (.cs c.val) (withOp ENG_CS_WIN_CMD_OP v 2))
include ho

theorem controlStoreWrite_stores (hoff : s.m.get ENG_CLUSTER_STATUS_STATE c.val = 3) : Yields (.controlStoreWrite p c v) s fun u =>
    u.m.replies (.cs c.val) ENG_CS_WIN_CMD_STATUS c.val 0 [] = true ∧
      lookupD (u.m.cl c.val).store (ENG_CS_WIN_CMD_ADDR.of v) 0 =
        (s.m.rd .ENG_CS_WIN_DATA0 c.val).toNat + (s.m.rd .ENG_CS_WIN_DATA1 c.val).toNat * 2 ^ 64 ∧
      (∀ k, k ≠ ENG_CS_WIN_CMD_ADDR.of v → lookupD (u.m.cl c.val).store k 0 = lookupD (s.m.cl c.val).store k 0) := by
  have hw := storeWindow_write (p := p) (op_storeWord (v := v) (s.m.rd .ENG_CS_WIN_CMD c.val) (op := 2) (by decide)) hoff
  rw [addr_storeWord] at hw
  have hstore (k x : Nat) : lookupD ((s.m.storePut c.val (ENG_CS_WIN_CMD_ADDR.of v) x).cl c.val).store k 0 =
      if k = ENG_CS_WIN_CMD_ADDR.of v then x else lookupD (s.m.cl c.val).store k 0 := by
    unfold Mod.storePut
    rw [cl_setCl_self]
    exact lookupD_storeUnless _ _ _ _ _
  refine yields_of_does (does_storeWindow (exec_controlStoreWrite p c v s) ho hw)
    ⟨replies_store _ _ (by decide) [], ?_, fun k hk => ?_⟩
  · rw [cl_winBegin, hstore, if_pos rfl]
  · rw [cl_winBegin, hstore, if_neg hk]

theorem controlStoreWrite_refused (hoff : s.m.get ENG_CLUSTER_STATUS_STATE c.val ≠ 3) : Yields (.controlStoreWrite p c v) s fun u =>
    u.m.replies (.cs c.val) ENG_CS_WIN_CMD_STATUS c.val 3 [] = true ∧ (u.m.cl c.val).store = (s.m.cl c.val).store := by
  have hw := storeWindow_refused (p := p) (op_storeWord (v := v) (s.m.rd .ENG_CS_WIN_CMD c.val) (op := 2) (by decide)) hoff
  have hgrows (n : Mod) (w : Word) : EvGrows n (n.winRefused p (.cs c.val) w 3) := (evGrows_sqc n _ c.val).trans (evGrows_event _ _)
  have htold (n : Mod) (w : Word) : Told (n.sqc ENG_EVENT_REFUSED c.val) (n.winRefused p (.cs c.val) w 3) := told_event _ _
  have hanswer : answerFields .ENG_CS_WIN_CMD ENG_CS_WIN_CMD_BUSY ENG_CS_WIN_CMD_STATUS = true := by decide
  refine yields_of_does (does_storeWindow (exec_controlStoreWrite p c v s) ho hw) ⟨replies_of_winBegin hanswer (by decide)
    ((htold _ _).win.trans (sqc_win _ ENG_EVENT_REFUSED c.val)) ?_, ?_⟩
  · exact ((htold _ _).2 .ENG_CS_WIN_CMD c.val rfl).trans (rd_sqc_ne _ ENG_EVENT_REFUSED _ _ _ rfl)
  · exact (store_of_engHeld (hgrows _ _).held c.val).trans (congrArg Cluster.store (cl_winBegin s.m _ _ _ _ _ _ _ _ _))

end

/-! ### EPC_SAMPLE_CMD -/

theorem sampleWindow_reads {m : Mod} {c i : Nat} {w : Word} (h : EPC_SAMPLE_CMD_INDEX.of w = i) : m.sampleWindow p c w =
    m.winBegin (.sample c) .EPC_SAMPLE_CMD c EPC_SAMPLE_CMD_BUSY ⟨.EPC_SAMPLE_CMD, 63, 1⟩ w 0 (m.sampleData c i) := by
  simp [Mod.sampleWindow, Mod.winAnswer, h]

theorem does_sampleWindow {i : Instr} {w : Word} {n : Mod} (hc : exec i s = s.put p .EPC_SAMPLE_CMD c.val w none)
    (ho : s.Opened p .EPC_SAMPLE_CMD c.val c.val (.sample c.val) w)
    (hn : s.m.sampleWindow p c.val (writable .EPC_SAMPLE_CMD (s.m.rd .EPC_SAMPLE_CMD c.val) w) = n) : Does i s n := by
  have hdoes := does_opened hc ho (by decide) rfl
  unfold Mod.winCommand at hdoes
  rw [← hn]
  exact hdoes

theorem sampleRead_replies {i : Fin 1024} (ho : s.Opened p .EPC_SAMPLE_CMD c.val c.val (.sample c.val) (EPC_SAMPLE_CMD_INDEX.put 0 i.val)) :
    Yields (.sampleRead p c i) s fun u => u.m.replies (.sample c.val) ⟨.EPC_SAMPLE_CMD, 63, 1⟩ c.val 0
      [(.EPC_SAMPLE_DATA0, c.val, BitVec.ofNat 64 (lookupD (s.m.cl c.val).samples i.val 0)),
       (.EPC_SAMPLE_DATA1, c.val, BitVec.ofNat 64 (lookupD (s.m.cl c.val).samples i.val 0 / 2 ^ 64))] = true ∧ u.m.eng = s.m.eng := by
  have hindex : EPC_SAMPLE_CMD_INDEX.of (writable .EPC_SAMPLE_CMD (s.m.rd .EPC_SAMPLE_CMD c.val) (EPC_SAMPLE_CMD_INDEX.put 0 i.val)) = i.val :=
    (of_writable _ _ (by decide)).trans ((of_put _ _ _ (by decide)).trans (Nat.mod_eq_of_lt i.isLt))
  have hdoes := does_sampleWindow (exec_sampleRead p c i s) ho (sampleWindow_reads hindex)
  have hanswer : answerFields .EPC_SAMPLE_CMD EPC_SAMPLE_CMD_BUSY ⟨.EPC_SAMPLE_CMD, 63, 1⟩ = true := by decide
  have hreplies := replies_winBegin s.m (.sample c.val) c.val
    (writable .EPC_SAMPLE_CMD (s.m.rd .EPC_SAMPLE_CMD c.val) (EPC_SAMPLE_CMD_INDEX.put 0 i.val)) (s.m.sampleData c.val i.val) hanswer
    (status := 0) (by decide)
  exact yields_of_does hdoes ⟨hreplies, eng_winBegin s.m _ _ _ _ _ _ _ _⟩

end

end Sys2Proof.Machine
end

section
/-! SUPPORT. A cluster that goes offline, returns or is lost (R285, R291). -/

namespace Sys2Proof.Machine

/-! ### The drift from the image, and a path's windows -/

theorem evGrows_drifted (m : Mod) (hedge : Option Nat) : EvGrows m (m.drifted hedge) := by
  unfold Mod.drifted
  extract_lets b f rings
  exact .ite (.refl m) ((evGrows_set m f 0 1).trans ((evGrows_sqc _ _ 0).trans (evGrows_event _ _)))

theorem evGrows_took (m : Mod) (r : Reg) (j : Nat) (d : Bool × Mod) : EvGrows d.2 (m.took r j d) :=
  .ite (evGrows_drifted d.2 _) (.refl d.2)

/-- The clearing of a path leaves the registers below its window sets. -/
theorem rd_pathCleared (m : Mod) {n : Nat} {r : Reg} {i : Nat} (h : r.addr i < n * 0x2000000) : (m.pathCleared n).rd r i = m.rd r i := by
  have hown (x : Reg) : ¬ x.spec.base + n * 0x2000000 ≤ r.addr i := by omega
  unfold Mod.pathCleared
  extract_lets own m1 m2
  have hkeep : own (r.addr i) = false := by simp [own, hown]
  have hlookup : lookup (m.regs.filter fun e => !(own e.1)) (r.addr i) = lookup m.regs (r.addr i) := by
    rw [lookup_filter_key (fun a => !(own a)), hkeep]
    rfl
  exact congrArg (fun o : Option Word => o.getD (r.boot i)) hlookup

theorem evGrows_pathCleared (m : Mod) (n : Nat) : EvGrows m (m.pathCleared n) := .same rfl

/-! ### What a cluster's state leaves -/

/-- A cluster's state and its event leave the other registers that no event writes. -/
theorem rd_setClusterState (m : Mod) (c st : Nat) {r : Reg} (i : Nat) (hs : r.apart .ENG_CLUSTER_STATUS = true)
    (he : r.apart .ENG_EVENT = true) (hevt : evtReg r = false) : (m.setClusterState c st).rd r i = m.rd r i :=
  ((told_event _ _).2 r i hevt).trans ((rd_sqc_ne _ ENG_EVENT_STATE r c i he).trans (rd_set_ne m ENG_CLUSTER_STATUS_STATE r c i st hs))

/-- An event of a cluster leaves the registers that no event writes, but for ENG_EVENT. -/
theorem rd_engEvent (m : Mod) (c code q : Nat) {r : Reg} (i : Nat) (he : r.apart (engBit code).reg = true) (hevt : evtReg r = false) :
    (m.engEvent c code q).rd r i = m.rd r i :=
  ((told_event _ _).2 r i hevt).trans (rd_sqc_ne m (engBit code) r c i he)

theorem flag_engEvent (m : Mod) (c q : Nat) {code : Nat} (hb : (engBit code).isBit = true) (hevt : evtReg (engBit code).reg = false) :
    (m.engEvent c code q).flag (engBit code) c = true :=
  ((told_event _ _).flag c hevt).trans (flag_sqc_bit m c hb)

/-! ### ENG_CLUSTER_CTL -/

section
variable {i : Instr} {s : State} {p : Path} {c : Nat} {v : Word} {n : Mod}

theorem does_clusterCtl (hc : exec i s = s.put p .ENG_CLUSTER_CTL c v none) (hg : s.Granted p .ENG_CLUSTER_CTL c c v)
    (hn : s.m.clusterCtlWrite c ((wholeWrite p .ENG_CLUSTER_CTL c v).onto (s.m.rd .ENG_CLUSTER_CTL c)) = n) :
    ∃ t, Does i s t ∧ DriftTold n t ∧ EvGrows n t := by
  have hwrite : (s.m.blockWrite s.locks (wholeWrite p .ENG_CLUSTER_CTL c v) none).2 = n := by
    unfold Mod.blockWrite
    rw [← hn]
    exact congrArg Prod.snd (if_neg (show ¬ (settable .ENG_CLUSTER_CTL).isEmpty = true by decide))
  refine ⟨_, does_put_unguarded hc hg rfl, ?_, ?_⟩
  · exact hwrite ▸ driftTold_took s.m _ c _
  · exact hwrite ▸ evGrows_took s.m _ c _

end

section
variable {m : Mod} {c : Nat} {w : Word}

theorem clusterCtlWrite_refused (h : ENG_CLUSTER_CTL_REHOME.of w = c ∨ m.get ENG_CLUSTER_STATUS_STATE (ENG_CLUSTER_CTL_REHOME.of w) ≠ 0) :
    m.clusterCtlWrite c w = m.engEvent c 0x09 3 := if_pos h

variable (hdest : ENG_CLUSTER_CTL_REHOME.of w ≠ c) (hrun : m.get ENG_CLUSTER_STATUS_STATE (ENG_CLUSTER_CTL_REHOME.of w) = 0)
include hdest hrun

/-- STATE_REQ = 1 quiesces a cluster in RUN (R291). -/
theorem clusterCtlWrite_offline (hreq : ENG_CLUSTER_CTL_STATE_REQ.of w = 1) (hstate : m.get ENG_CLUSTER_STATUS_STATE c = 0)
    (hq : (m.cl c).quiesce = none) : m.clusterCtlWrite c w =
      (((m.wr .ENG_CLUSTER_CTL c w).setCl c { m.cl c with quiesce := some .offline, quiesceCommits := 0 }).setClusterState c
        1).pathCleared (19 + c) := by
  have hstate' : (m.wr .ENG_CLUSTER_CTL c w).get ENG_CLUSTER_STATUS_STATE c = 0 :=
    (congrArg ENG_CLUSTER_STATUS_STATE.of (rd_wr_ne m .ENG_CLUSTER_CTL .ENG_CLUSTER_STATUS c c w rfl)).trans hstate
  unfold Mod.clusterCtlWrite
  extract_lets dest m1
  rw [if_neg (by simp only [dest, hrun]; tauto), if_pos hreq]
  exact if_neg (by rw [show m1.get ENG_CLUSTER_STATUS_STATE c = 0 from hstate', show (m1.cl c).quiesce = none from hq]; simp)

/-- STATE_REQ = 0 returns an OFFLINE cluster to RUN (R291). -/
theorem clusterCtlWrite_run (hreq : ENG_CLUSTER_CTL_STATE_REQ.of w ≠ 1) (hstate : m.get ENG_CLUSTER_STATUS_STATE c = 3) : m.clusterCtlWrite c w =
    ((m.wr .ENG_CLUSTER_CTL c w).setCl c { m.cl c with
      tt := [], ev := [], ij := [], db := [], restarts := [], markers := [], timers := [], entriesMoved := false }).setClusterState c 0 := by
  have hstate' : (m.wr .ENG_CLUSTER_CTL c w).get ENG_CLUSTER_STATUS_STATE c = 3 :=
    (congrArg ENG_CLUSTER_STATUS_STATE.of (rd_wr_ne m .ENG_CLUSTER_CTL .ENG_CLUSTER_STATUS c c w rfl)).trans hstate
  unfold Mod.clusterCtlWrite
  extract_lets dest m1
  rw [if_neg (by simp only [dest, hrun]; tauto), if_neg hreq]
  exact if_neg (not_not.2 hstate')

end

end Sys2Proof.Machine
end

section
/-! SUPPORT. CLUSTER_OFFLINE, CLUSTER_RUN and CLUSTER_LOST (R291). -/

namespace Sys2Proof.Machine

/-! ### CLUSTER_OFFLINE and CLUSTER_RUN -/

section
variable {s : State} {p : Path} {c d : Fin 4}

/-- What CLUSTER_OFFLINE asks: STATE_REQ = 1, and the cluster it names. -/
theorem of_offlineWord (old : Word) : ENG_CLUSTER_CTL_REHOME.of ((wholeWrite p .ENG_CLUSTER_CTL c.val
      (ENG_CLUSTER_CTL_REHOME.put (s.revised ENG_CLUSTER_CTL_STATE_REQ c.val 1) d.val)).onto old) = d.val ∧
    ENG_CLUSTER_CTL_STATE_REQ.of ((wholeWrite p .ENG_CLUSTER_CTL c.val
      (ENG_CLUSTER_CTL_REHOME.put (s.revised ENG_CLUSTER_CTL_STATE_REQ c.val 1) d.val)).onto old) = 1 := by
  refine ⟨(of_onto p _ _ old (by decide)).trans ((of_put _ _ _ (by decide)).trans (Nat.mod_eq_of_lt d.isLt)),
    (of_onto p _ _ old (by decide)).trans ((of_put_ne ENG_CLUSTER_CTL_REHOME ENG_CLUSTER_CTL_STATE_REQ _ _ (by decide) (by decide)).trans ?_)⟩
  exact of_put ENG_CLUSTER_CTL_STATE_REQ _ 1 (by decide)

/-- What CLUSTER_RUN asks: STATE_REQ = 0, with REHOME as it stands. -/
theorem of_runWord (old : Word) : ENG_CLUSTER_CTL_REHOME.of ((wholeWrite p .ENG_CLUSTER_CTL c.val
      (s.revised ENG_CLUSTER_CTL_STATE_REQ c.val 0)).onto old) = s.m.get ENG_CLUSTER_CTL_REHOME c.val ∧
    ENG_CLUSTER_CTL_STATE_REQ.of ((wholeWrite p .ENG_CLUSTER_CTL c.val (s.revised ENG_CLUSTER_CTL_STATE_REQ c.val 0)).onto old) = 0 :=
  ⟨(of_onto p _ _ old (by decide)).trans (of_put_ne ENG_CLUSTER_CTL_STATE_REQ ENG_CLUSTER_CTL_REHOME _ _ (by decide) (by decide)),
    (of_onto p _ _ old (by decide)).trans (of_put ENG_CLUSTER_CTL_STATE_REQ _ 0 (by decide))⟩

section
variable (hg : s.Granted p .ENG_CLUSTER_CTL c.val c.val (ENG_CLUSTER_CTL_REHOME.put (s.revised ENG_CLUSTER_CTL_STATE_REQ c.val 1) d.val))
include hg

/-- One that names the cluster itself, or one out of service, is refused. -/
theorem clusterOffline_refused (h : d = c ∨ s.m.get ENG_CLUSTER_STATUS_STATE d.val ≠ 0) : Yields (.clusterOffline p c d) s fun u =>
    u.m.get ENG_CLUSTER_STATUS_STATE c.val = s.m.get ENG_CLUSTER_STATUS_STATE c.val ∧ (u.m.cl c.val).quiesce = (s.m.cl c.val).quiesce ∧
      u.m.flag ENG_EVENT_REFUSED c.val = true := by
  obtain ⟨hdest, -⟩ := of_offlineWord (s := s) (p := p) (c := c) (d := d) (s.m.rd .ENG_CLUSTER_CTL c.val)
  have hrefused := clusterCtlWrite_refused (m := s.m) (c := c.val) (by rw [hdest]; exact h.imp_left (congrArg Fin.val))
  obtain ⟨n, hdoes, hdrift, hgrows⟩ := does_clusterCtl (exec_clusterOffline p c d s) hg hrefused
  refine yields_of_does hdoes ⟨?_, ?_, ?_⟩
  · refine (hdrift.get c.val rfl).trans (congrArg ENG_CLUSTER_STATUS_STATE.of ?_)
    exact rd_engEvent s.m c.val 0x09 3 c.val rfl rfl
  · exact (quiesce_of_engHeld hgrows.held c.val).trans (quiesce_of_engHeld (evGrows_engEvent s.m c.val 0x09 3).held c.val)
  · exact (hdrift.flag c.val rfl).trans (flag_engEvent s.m c.val 3 (code := 0x09) rfl rfl)

/-- One that names another cluster in RUN quiesces a running cluster. -/
theorem clusterOffline_quiesces (hne : d ≠ c) (hrun : s.m.get ENG_CLUSTER_STATUS_STATE d.val = 0)
    (hstate : s.m.get ENG_CLUSTER_STATUS_STATE c.val = 0) (hq : (s.m.cl c.val).quiesce = none) :
    Yields (.clusterOffline p c d) s fun u => u.m.get ENG_CLUSTER_STATUS_STATE c.val = 1 ∧ (u.m.cl c.val).quiesce = some .offline ∧
      u.m.get ENG_CLUSTER_CTL_REHOME c.val = d.val ∧ u.m.startsJobs c.val = false ∧ u.m.eng.threads = s.m.eng.threads := by
  obtain ⟨hdest, hreq⟩ := of_offlineWord (s := s) (p := p) (c := c) (d := d) (s.m.rd .ENG_CLUSTER_CTL c.val)
  have hwrite := clusterCtlWrite_offline (m := s.m) (c := c.val) (by rw [hdest]; exact fun h => hne (Fin.ext h)) (by rw [hdest]; exact hrun)
    hreq hstate hq
  obtain ⟨n, hdoes, hdrift, hgrows⟩ := does_clusterCtl (exec_clusterOffline p c d s) hg hwrite
  have haddr : ∀ c : Fin 4, Reg.ENG_CLUSTER_STATUS.addr c.val < (19 + c.val) * 0x2000000 ∧
      Reg.ENG_CLUSTER_CTL.addr c.val < (19 + c.val) * 0x2000000 := by decide
  set m1 := s.m.wr .ENG_CLUSTER_CTL c.val _ with hm1
  set m2 := m1.setCl c.val { s.m.cl c.val with quiesce := some .offline, quiesceCommits := 0 } with hm2
  have hkept : EvGrows m2 n := ((evGrows_setClusterState m2 c.val 1).trans (evGrows_pathCleared _ _)).trans hgrows
  have hrd {r : Reg} (ha : r.addr c.val < (19 + c.val) * 0x2000000) (hr : portReg r = true) :
      n.rd r c.val = (m2.setClusterState c.val 1).rd r c.val := (hdrift.rd c.val hr).trans (rd_pathCleared _ ha)
  have hstate1 : n.get ENG_CLUSTER_STATUS_STATE c.val = 1 :=
    (congrArg ENG_CLUSTER_STATUS_STATE.of (hrd (haddr c).1 rfl)).trans (setClusterState_state m2 c.val (by decide))
  have hcl : (n.cl c.val).quiesce = some .offline := by
    rw [quiesce_of_engHeld hkept.held c.val, hm2, cl_setCl_self]
  refine yields_of_does hdoes ⟨hstate1, hcl, ?_, ?_, ?_⟩
  · have hctl : n.rd .ENG_CLUSTER_CTL c.val = m1.rd .ENG_CLUSTER_CTL c.val :=
      (hrd (haddr c).2 rfl).trans (rd_setClusterState m2 c.val 1 c.val rfl rfl rfl)
    refine (congrArg ENG_CLUSTER_CTL_REHOME.of (hctl.trans ?_)).trans hdest
    rw [hm1, rd_wr]
  · show n.startsJobs c.val = false
    unfold Mod.startsJobs
    rw [hstate1]
    rfl
  · exact hkept.threads.trans (threads_setCl m1 c.val _).1

end

/-- An OFFLINE cluster that returns has empty queues and no timers. -/
theorem clusterRun_returns (hg : s.Granted p .ENG_CLUSTER_CTL c.val c.val (s.revised ENG_CLUSTER_CTL_STATE_REQ c.val 0))
    (hne : s.m.get ENG_CLUSTER_CTL_REHOME c.val ≠ c.val) (hrun : s.m.get ENG_CLUSTER_STATUS_STATE (s.m.get ENG_CLUSTER_CTL_REHOME c.val) = 0)
    (hstate : s.m.get ENG_CLUSTER_STATUS_STATE c.val = 3) : Yields (.clusterRun p c) s fun u =>
      u.m.get ENG_CLUSTER_STATUS_STATE c.val = 0 ∧ (u.m.cl c.val).tt = [] ∧ (u.m.cl c.val).ij = [] ∧ (u.m.cl c.val).db = [] ∧
        (u.m.cl c.val).timers = [] ∧ (∀ d, d < 4 → d ≠ c.val → (u.m.cl d).ij = (s.m.cl d).ij) := by
  obtain ⟨hdest, hreq⟩ := of_runWord (s := s) (p := p) (c := c) (s.m.rd .ENG_CLUSTER_CTL c.val)
  have hwrite := clusterCtlWrite_run (m := s.m) (c := c.val) (hdest ▸ hne) (hdest.symm ▸ hrun) (by rw [hreq]; decide) hstate
  obtain ⟨n, hdoes, hdrift, hgrows⟩ := does_clusterCtl (exec_clusterRun p c s) hg hwrite
  set m1 := s.m.wr .ENG_CLUSTER_CTL c.val _
  set m2 := m1.setCl c.val _ with hm2
  have hkept : EvGrows m2 n := (evGrows_setClusterState m2 c.val 0).trans hgrows
  have hqueue {k : Nat} (hk : k ≠ 1) := queue_of_engHeld hkept.held c.val hk
  have hself := cl_setCl_self m1 c.val { s.m.cl c.val with
      tt := [], ev := [], ij := [], db := [], restarts := [], markers := [], timers := [], entriesMoved := false }
  refine yields_of_does hdoes ⟨(hdrift.get c.val rfl).trans (setClusterState_state m2 c.val (by decide)),
    (hqueue (k := 0) (by decide)).trans (congrArg Cluster.tt hself), (hqueue (k := 2) (by decide)).trans (congrArg Cluster.ij hself),
    (hqueue (k := 3) (by decide)).trans (congrArg Cluster.db hself), (timers_of_engHeld hkept.held c.val).trans (congrArg Cluster.timers hself),
    fun d hd hne => ?_⟩
  exact (queue_of_engHeld hkept.held d (j := 2) (by decide)).trans (congrArg Cluster.ij (cl_setCl_ne m1 _ c.isLt hd hne))

end

/-! ### CLUSTER_LOST -/

theorem key_of_mem_remove {α : Type} {l : List (Nat × α)} {x : Nat} {e : Nat × α} (h : e ∈ remove l x) : e.1 ≠ x := by
  induction l with
  | nil => cases h
  | cons b t ih =>
    obtain ⟨k, v⟩ := b
    unfold remove at h
    split at h
    · exact ih h
    · rename_i hk
      rcases List.mem_cons.1 h with rfl | h
      · exact hk
      · exact ih h

/-- The threads of a list of entries are freed, and no cluster changes. -/
theorem freeThreads_leaves (l : List (Nat × Thread)) (m : Mod) :
    (∀ e ∈ (l.foldl (fun m e => m.freeThread e.1) m).eng.threads, e ∈ m.eng.threads ∧ ∀ x ∈ l, e.1 ≠ x.1) ∧
      ∀ c, (l.foldl (fun m e => m.freeThread e.1) m).cl c = m.cl c := by
  induction l generalizing m with
  | nil => exact ⟨fun e he => ⟨he, fun x hx => absurd hx (List.not_mem_nil)⟩, fun c => rfl⟩
  | cons x l ih =>
    obtain ⟨hthreads, hcl⟩ := ih (m.freeThread x.1)
    refine ⟨fun e he => ?_, fun c => (hcl c).trans rfl⟩
    obtain ⟨hmem, hkeys⟩ := hthreads e he
    have hmem : e ∈ remove m.eng.threads x.1 := hmem
    exact ⟨mem_remove hmem, fun y hy => (List.mem_cons.1 hy).elim (fun h => h ▸ key_of_mem_remove hmem) (hkeys y)⟩

/-- The cluster after the loss of its ENG domain, before its jobs and timers go. -/
def Mod.domainLost (m : Mod) (c : Nat) : Mod :=
  m.setCl c { m.cl c with stopped := (List.range 17).map fun e => (e, m.engineCycle c e), lost := true, quiesce := none }

/-- Its running jobs wait in another cluster to restart (R285). -/
def Mod.jobsRehomed (m : Mod) (c dest : Nat) : Mod :=
  (m.abortRunning c).2.setCl dest { (m.abortRunning c).2.cl dest with
    restarts := ((m.abortRunning c).2.cl dest).restarts ++ (m.abortRunning c).1 }

theorem clusterLost_eq {m : Mod} {c : Nat} (h : (m.cl c).lost = false) : m.clusterLost c =
    ((((m.domainLost c).jobsRehomed c (m.get ENG_CLUSTER_CTL_REHOME c)).intakeFlush c).timersLost c).setClusterState c 4 :=
  if_neg (by rw [h]; exact Bool.false_ne_true)

end Sys2Proof.Machine
end

section
/-! SUPPORT. A lost cluster, and the loads of a control store (R289, R290, R291, R437). -/

namespace Sys2Proof.Machine

/-! ### A part of a cluster -/

/-- What announcements leave of a cluster, but for its event queue. -/
theorem part_of_engHeld {α : Type} (f : Cluster → α) (hf : ∀ k x, f { k with ev := x } = f k) {m n : Mod} (h : Keeps engHeld m n) (c : Nat) :
    f (n.cl c) = f (m.cl c) := by
  exact (hf _ []).symm.trans ((congrArg f (cl_of_engHeld h c)).trans (hf _ []))

/-- What a cluster's replacement leaves of each cluster. -/
theorem part_setCl {α : Type} (f : Cluster → α) {m : Mod} {c d : Nat} {k : Cluster} (hk : f k = f (m.cl c)) :
    f ((m.setCl c k).cl d) = f (m.cl d) := by
  rcases cl_setCl_cases m c d k with ⟨hnew, hold⟩ | hold
  · rw [hnew, hk, hold]
  · rw [hold]

/-! ### CLUSTER_LOST -/

section
variable {m : Mod} {c : Nat}

theorem clusterThreads_domainLost : (m.domainLost c).clusterThreads c = m.clusterThreads c := by
  unfold Mod.clusterThreads Mod.domainLost
  rw [(threads_setCl m c _).1]

/-- The jobs that ran on a lost cluster, as they wait to restart. -/
theorem abortRunning_jobs : ((m.domainLost c).abortRunning c).1 = (m.clusterThreads c).map fun e => { e.2.job with restart := true } := by
  unfold Mod.abortRunning
  rw [clusterThreads_domainLost]
  rfl

theorem cl_abortRunning (m : Mod) (c d : Nat) : (m.abortRunning c).2.cl d = m.cl d := (freeThreads_leaves _ m).2 d

theorem threads_abortRunning (m : Mod) (c : Nat) : ∀ e ∈ (m.abortRunning c).2.eng.threads, e.1 / 768 ≠ c := by
  intro e he hc
  obtain ⟨hmem, hkeys⟩ := (freeThreads_leaves (m.clusterThreads c) m).1 e he
  exact hkeys e (List.mem_filter.2 ⟨hmem, by simpa using hc⟩) rfl

theorem restarts_jobsRehomed (m : Mod) (c dest : Nat) :
    ((m.jobsRehomed c dest).cl dest).restarts = (m.cl dest).restarts ++ (m.abortRunning c).1 := by
  unfold Mod.jobsRehomed
  rw [cl_setCl_self, cl_abortRunning]

/-- What the loss of a cluster leaves of a cluster once its domain has gone and its jobs have moved: all but its events and timers. -/
theorem part_lost {α : Type} (f : Cluster → α) (hev : ∀ k x, f { k with ev := x } = f k)
    (htimers : ∀ k x, f { k with timers := x } = f k) (d : Nat) :
    f ((((m.intakeFlush c).timersLost c).setClusterState c 4).cl d) = f (m.cl d) := by
  have hflush := part_of_engHeld f hev (evGrows_flushQueued m (130 + c) 9 fun _ => true).held d
  have hevents (n : Mod) := part_of_engHeld f hev ((evGrows_engEvent n c 0x07 0).trans (evGrows_setClusterState _ c 4)).held d
  exact (hevents _).trans ((part_setCl f (htimers _ _)).trans hflush)

theorem timers_lost : ((((m.intakeFlush c).timersLost c).setClusterState c 4).cl c).timers = [] := by
  have hevents (n : Mod) := timers_of_engHeld ((evGrows_engEvent n c 0x07 0).trans (evGrows_setClusterState _ c 4)).held c
  exact (hevents _).trans (congrArg Cluster.timers (cl_setCl_self (m.intakeFlush c) c _))

theorem threads_lost : (((m.intakeFlush c).timersLost c).setClusterState c 4).eng.threads = m.eng.threads := by
  have hevents (n : Mod) := ((evGrows_engEvent n c 0x07 0).trans (evGrows_setClusterState _ c 4)).threads
  exact (hevents _).trans ((threads_setCl _ c _).1.trans (evGrows_flushQueued m (130 + c) 9 fun _ => true).threads)

/-- What rehoming leaves of a cluster: all but the jobs that wait to restart. -/
theorem part_rehomed {α : Type} (f : Cluster → α) (hf : ∀ k x, f { k with restarts := x } = f k) (dest : Nat) :
    f (((m.domainLost c).jobsRehomed c dest).cl c) = f ((m.domainLost c).cl c) :=
  (part_setCl f (hf _ _)).trans (congrArg f (cl_abortRunning _ c c))

end

section
variable {s : State} {c : Fin 4} (hs : s.Running) (h : (s.m.cl c.val).lost = false)
include hs h

theorem clusterLost_shows : Yields (.clusterLost c) s fun u => (u.m.cl c.val).lost = true ∧ u.m.get ENG_CLUSTER_STATUS_STATE c.val = 4 ∧
    (∀ e ∈ u.m.eng.threads, e.1 / 768 ≠ c.val) ∧ (u.m.cl c.val).timers = [] ∧ (u.m.cl c.val).tt = (s.m.cl c.val).tt ∧
    (u.m.cl c.val).ij = (s.m.cl c.val).ij ∧ (u.m.cl c.val).db = (s.m.cl c.val).db ∧
    (∀ d, d = s.m.get ENG_CLUSTER_CTL_REHOME c.val →
      (u.m.cl d).restarts = (s.m.cl d).restarts ++ (s.m.clusterThreads c.val).map fun e => { e.2.job with restart := true }) := by
  have hpart {α : Type} (f : Cluster → α) (hev : ∀ k x, f { k with ev := x } = f k) (htimers : ∀ k x, f { k with timers := x } = f k)
      (hres : ∀ k x, f { k with restarts := x } = f k) :=
    (part_lost (c := c.val) f hev htimers c.val).trans ((part_rehomed f hres (s.m.get ENG_CLUSTER_CTL_REHOME c.val)).trans
      (congrArg f (cl_setCl_self s.m c.val _)))
  refine yields_of_does (does_act (exec_clusterLost c s) hs (clusterLost_eq h)) ⟨
    hpart Cluster.lost (fun _ _ => rfl) (fun _ _ => rfl) fun _ _ => rfl,
    setClusterState_state _ c.val (by decide), fun e he => ?_, timers_lost, hpart Cluster.tt (fun _ _ => rfl) (fun _ _ => rfl) fun _ _ => rfl,
    hpart Cluster.ij (fun _ _ => rfl) (fun _ _ => rfl) fun _ _ => rfl, hpart Cluster.db (fun _ _ => rfl) (fun _ _ => rfl) fun _ _ => rfl,
    fun d hd => ?_⟩
  · refine threads_abortRunning (s.m.domainLost c.val) c.val e ?_
    rw [← (threads_setCl ((s.m.domainLost c.val).abortRunning c.val).2 _ _).1]
    exact (threads_lost (m := (s.m.domainLost c.val).jobsRehomed c.val _)) ▸ he
  · subst hd
    refine (part_lost Cluster.restarts (fun _ _ => rfl) (fun _ _ => rfl) _).trans ?_
    rw [restarts_jobsRehomed, abortRunning_jobs]
    exact congrArg (· ++ _) (part_setCl Cluster.restarts rfl)

end

/-! ### EXCHANGE_LOAD_DONE -/

/-- The RESULT of a load is at most 4. -/
theorem loadResult_lt (m : Mod) (b : Nat) (w : Option (Fin 4)) : m.loadResult b (w.map Fin.val) < 2 ^ 8 := by
  have hfault (l : List Byte) : emFault l < 2 ^ 8 := by
    unfold emFault
    split_ifs <;> decide
  unfold Mod.loadResult
  extract_lets comp
  split
  · exact hfault comp
  · split
    · decide
    · cases w with
      | none => decide
      | some k => exact Nat.lt_of_lt_of_le (Nat.succ_lt_succ k.isLt) (by decide)

/-- What the checks of a component find comes first. -/
theorem loadResult_fault {m : Mod} {b : Nat} {why : Option Nat} (h : emFault (m.emAt b) ≠ 0) : m.loadResult b why = emFault (m.emAt b) := by
  unfold Mod.loadResult
  extract_lets comp
  rw [if_pos h]

theorem lookupD_table (f : Nat → Nat) {n a : Nat} (h : a < n) : lookupD ((List.range n).map fun a => (a, f a)) a 0 = f a := by
  have hlookup (l : List Nat) (ha : a ∈ l) : lookup (l.map fun a => (a, f a)) a = some (f a) := by
    induction l with
    | nil => cases ha
    | cons b l ih =>
      by_cases hb : b = a
      · subst hb
        exact if_pos rfl
      · exact (if_neg hb).trans (ih ((List.mem_cons.1 ha).resolve_left (Ne.symm hb)))
  exact congrArg (fun o : Option Nat => o.getD 0) (hlookup _ (List.mem_range.2 h))

section
variable (k : Cluster) (comp : List Byte) (good : Bool)

theorem loaded_loadedFrom : (k.loadedFrom comp good).loaded = some good := by
  simp only [Cluster.loadedFrom]

theorem quiesce_loadedFrom : (k.loadedFrom comp good).quiesce = k.quiesce := by
  simp only [Cluster.loadedFrom]

theorem store_loadedFrom {a : Nat} (ha : a < 32768) : lookupD (k.loadedFrom comp good).store a 0 = (Config.emWord comp a).toNat := by
  simp only [Cluster.loadedFrom]
  exact lookupD_table (fun a => (Config.emWord comp a).toNat) ha

end

section
variable {m : Mod} {c b : Nat} {why : Option Nat}

theorem exchangeLoadDone_idle
    (h : (∀ b, (m.cl c).quiesce ≠ some (.exchange b)) ∨ m.get ENG_XCHG_STATUS_PHASE c ≠ 2 ∨ (m.cl c).loaded.isSome = true) :
    m.exchangeLoadDone c why = m := by
  unfold Mod.exchangeLoadDone
  split
  · rename_i b hq
    exact if_pos (h.resolve_left fun hno => hno b hq)
  · rfl

variable (hq : (m.cl c).quiesce = some (.exchange b)) (hphase : m.get ENG_XCHG_STATUS_PHASE c = 2) (hl : (m.cl c).loaded = none)
include hq hphase hl

/-- A load that passes its checks stands in the cluster. -/
theorem exchangeLoadDone_good (h : m.loadResult b why = 0) : m.exchangeLoadDone c why =
    (m.setCl c ((m.cl c).loadedFrom (m.emAt b) true)).set ENG_XCHG_STATUS_RESULT c 0 := by
  unfold Mod.exchangeLoadDone
  rw [hq]
  simp only [hphase, hl, h, Option.isSome_none, ne_eq, not_true_eq_false, Bool.false_eq_true, or_self, if_false, if_true]

/-- A load that fails them leaves the image in use, with its RESULT. -/
theorem exchangeLoadDone_bad (h : m.loadResult b why ≠ 0) : m.exchangeLoadDone c why =
    ((m.setCl c ((m.cl c).loadedFrom (m.emAt (m.get ENG_XCHG_STATUS_CUR_BASE c)) false)).set ENG_XCHG_STATUS_RESULT c (m.loadResult b why)).engEvent c
      0x05 (m.loadResult b why) := by
  unfold Mod.exchangeLoadDone
  rw [hq]
  simp only [hphase, hl, h, Option.isSome_none, ne_eq, not_true_eq_false, Bool.false_eq_true, or_self, if_false]

end

section
variable {s : State} {c : Fin 4} {w : Option (Fin 4)} {b : Nat} (hs : s.Running) (hq : (s.m.cl c.val).quiesce = some (.exchange b))
  (hphase : s.m.get ENG_XCHG_STATUS_PHASE c.val = 2) (hl : (s.m.cl c.val).loaded = none)
include hs hq hphase hl

theorem exchangeLoadDone_shows {k : Nat} (hk : k = s.m.loadResult b (w.map Fin.val)) : Yields (.exchangeLoadDone c w) s fun u =>
    (u.m.cl c.val).loaded = some (decide (k = 0)) ∧ (u.m.cl c.val).quiesce = some (.exchange b) ∧
      u.m.get ENG_XCHG_STATUS_RESULT c.val = k ∧ u.m.eng.threads = s.m.eng.threads ∧ (k ≠ 0 → u.m.flag ENG_EVENT_XCHG c.val = true) ∧
      (k = 0 → ∀ a, a < 32768 → lookupD (u.m.cl c.val).store a 0 = (Config.emWord (s.m.emAt b) a).toNat) ∧
      (emFault (s.m.emAt b) ≠ 0 → k = emFault (s.m.emAt b)) := by
  have hlt : k < 2 ^ 8 := hk ▸ loadResult_lt s.m b w
  have hfault : emFault (s.m.emAt b) ≠ 0 → k = emFault (s.m.emAt b) := fun h => hk.trans (loadResult_fault h)
  have hresult (n : Mod) : (n.set ENG_XCHG_STATUS_RESULT c.val k).get ENG_XCHG_STATUS_RESULT c.val = k :=
    (get_set n ENG_XCHG_STATUS_RESULT c.val k (by decide)).trans (Nat.mod_eq_of_lt hlt)
  have hcl (n : Mod) (x : Cluster) : ((n.setCl c.val x).set ENG_XCHG_STATUS_RESULT c.val k).cl c.val = x := cl_setCl_self n c.val x
  by_cases h0 : k = 0
  · have hstep := exchangeLoadDone_good hq hphase hl (hk.symm.trans h0)
    rw [← h0] at hstep
    have hnew := hcl s.m ((s.m.cl c.val).loadedFrom (s.m.emAt b) true)
    refine yields_of_does (does_act (exec_exchangeLoadDone c w s) hs hstep) ⟨?_, ?_, hresult _, (threads_setCl _ _ _).1, fun h => absurd h0 h,
      fun _ a ha => ?_, hfault⟩
    · exact (congrArg Cluster.loaded hnew).trans ((loaded_loadedFrom _ _ true).trans (congrArg some (decide_eq_true h0).symm))
    · exact (congrArg Cluster.quiesce hnew).trans ((quiesce_loadedFrom _ _ true).trans hq)
    · exact (congrArg (fun x : Cluster => lookupD x.store a 0) hnew).trans (store_loadedFrom _ _ true ha)
  · have hstep := exchangeLoadDone_bad hq hphase hl (hk ▸ h0)
    rw [← hk] at hstep
    set new := (s.m.cl c.val).loadedFrom (s.m.emAt (s.m.get ENG_XCHG_STATUS_CUR_BASE c.val)) false
    set n := (s.m.setCl c.val new).set ENG_XCHG_STATUS_RESULT c.val k
    have hgrows := evGrows_engEvent n c.val 0x05 k
    have hpart {α : Type} (f : Cluster → α) (hf : ∀ k x, f { k with ev := x } = f k) :=
      (part_of_engHeld f hf hgrows.held c.val).trans (congrArg f (hcl s.m new))
    refine yields_of_does (does_act (exec_exchangeLoadDone c w s) hs hstep) ⟨?_, ?_, ?_, ?_, fun _ => ?_, fun h => absurd h h0, hfault⟩
    · rw [decide_eq_false h0]
      exact (hpart Cluster.loaded fun _ _ => rfl).trans (loaded_loadedFrom _ _ false)
    · exact (hpart Cluster.quiesce fun _ _ => rfl).trans ((quiesce_loadedFrom _ _ false).trans hq)
    · exact (congrArg ENG_XCHG_STATUS_RESULT.of (rd_engEvent n c.val 0x05 k c.val rfl rfl)).trans (hresult _)
    · exact hgrows.threads.trans (threads_setCl _ _ _).1
    · exact flag_engEvent n c.val k (code := 0x05) rfl rfl

end

end Sys2Proof.Machine
end

section
/-! SUPPORT. The reload of a row group (R290, R437), and how clusters change hands. -/

namespace Sys2Proof.Machine

/-! ### CONTROL_STORE_RELOAD_DONE -/

theorem mem_eraseNat {l : List Nat} {x k : Nat} : k ∈ eraseNat l x ↔ k ∈ l ∧ k ≠ x := by
  simp [eraseNat]

/-- A block of words stored one by one: each reads its word, and the others as before. -/
theorem lookupD_storeBlock (f : Nat → Nat) (l : List (Nat × Nat)) (base n a : Nat) :
    lookupD (((List.range n).map fun i => (base + i, f (base + i))).foldl (fun l e => store l e.1 e.2) l) a 0 =
      if base ≤ a ∧ a < base + n then f a else lookupD l a 0 := by
  induction n with
  | zero => exact (if_neg (by omega)).symm
  | succ n ih =>
    rw [List.range_succ, List.map_append, List.foldl_append]
    refine (lookupD_store _ (base + n) (f (base + n)) 0 a).trans ?_
    rw [ih]
    by_cases h : a = base + n
    · subst h
      rw [if_pos rfl, if_pos (by omega)]
    · rw [if_neg h]
      exact if_congr (by omega) rfl rfl

/-- The cluster with a row group that waits no longer. -/
def Mod.groupTaken (m : Mod) (c g : Nat) : Mod := m.setCl c { m.cl c with reloading := eraseNat (m.cl c).reloading g }

/-- The first n entries of a dispatch table written (R287). -/
def Mod.dispatchLoaded (m : Mod) (c : Nat) (f : Nat → Word) (n : Nat) : Mod :=
  (List.range n).foldl (fun m i => m.wr .ENG_DISPATCH (256 * c + i) (f i)) m

theorem dispatchLoaded_succ (m : Mod) (c : Nat) (f : Nat → Word) (n : Nat) :
    m.dispatchLoaded c f (n + 1) = (m.dispatchLoaded c f n).wr .ENG_DISPATCH (256 * c + n) (f n) := by
  unfold Mod.dispatchLoaded
  rw [List.range_succ, List.foldl_append]
  rfl

theorem eng_dispatchLoaded (m : Mod) (c : Nat) (f : Nat → Word) (n : Nat) : (m.dispatchLoaded c f n).eng = m.eng := by
  induction n with
  | zero => rfl
  | succ n ih => rw [dispatchLoaded_succ]; exact ih

theorem dispatch_addr {c i : Nat} (hc : c < 4) (hi : i < 256) : Reg.ENG_DISPATCH.addr (256 * c + i) = 0x110800 + c * 0x4000 + i * 8 := by
  have hdims : Reg.ENG_DISPATCH.addr (256 * c + i) = 0x110800 + (0 + (256 * c + i) % 256 * 8 + (256 * c + i) / 256 % 4 * 0x4000) := by
    simp [Reg.addr, Reg.spec, dimsOffset]
  omega

theorem rd_dispatchLoaded (m : Mod) {c n i : Nat} (f : Nat → Word) (hc : c < 4) (hn : n ≤ 256) (hi : i < n) :
    (m.dispatchLoaded c f n).rd .ENG_DISPATCH (256 * c + i) = f i := by
  induction n with
  | zero => exact absurd hi (Nat.not_lt_zero i)
  | succ n ih =>
    rw [dispatchLoaded_succ]
    by_cases h : i = n
    · rw [h, rd_wr]
    · rw [rd_wr_addr _ _ _ _ _ _ (by rw [dispatch_addr hc (by omega), dispatch_addr hc (by omega)]; omega)]
      exact ih (by omega) (by omega)

section
variable {m : Mod} {c g : Nat}

theorem storeReloaded_idle (h : g ∉ (m.cl c).reloading) : m.storeReloaded c g = m := if_pos (by simpa using h)

variable (h : g ∈ (m.cl c).reloading)
include h

theorem storeReloaded_words (hg : g < 128) : m.storeReloaded c g = (m.groupTaken c g).groupLoaded c g := by
  unfold Mod.storeReloaded
  rw [if_neg (by simpa using h)]
  simp only [hg, if_true]
  exact if_pos (by omega)

theorem storeReloaded_dispatch (hg : g = 128) : m.storeReloaded c g =
    (m.groupTaken c g).dispatchLoaded c (Config.emDispatch (m.emAt (m.get ENG_XCHG_STATUS_CUR_BASE c))) 256 := by
  subst hg
  unfold Mod.storeReloaded
  rw [if_neg (by simpa using h)]
  simp only [lt_irrefl, if_false, ne_eq, not_true_eq_false]
  rfl

theorem storeReloaded_other (hg : 128 < g) : m.storeReloaded c g = m.groupTaken c g := by
  unfold Mod.storeReloaded
  rw [if_neg (by simpa using h)]
  simp only [Nat.not_lt.2 hg.le, if_false]
  exact if_pos (by omega)

end

theorem cl_groupTaken (m : Mod) (c g : Nat) : (m.groupTaken c g).cl c = { m.cl c with reloading := eraseNat (m.cl c).reloading g } :=
  cl_setCl_self m c _

/-- A row group loaded from CUR_BASE: its words in the store, and nothing else. -/
theorem groupLoaded_leaves (m : Mod) (c g : Nat) : (m.groupLoaded c g).regs = m.regs ∧ (m.groupLoaded c g).eng.threads = m.eng.threads ∧
    ((m.groupLoaded c g).cl c).reloading = (m.cl c).reloading ∧ ∀ a, lookupD ((m.groupLoaded c g).cl c).store a 0 =
      if 256 * g ≤ a ∧ a < 256 * g + 256 then (Config.emWord (m.emAt (m.get ENG_XCHG_STATUS_CUR_BASE c)) a).toNat
      else lookupD (m.cl c).store a 0 := by
  unfold Mod.groupLoaded
  dsimp only
  refine ⟨rfl, (threads_setCl m c _).1, by rw [cl_setCl_self], fun a => ?_⟩
  rw [cl_setCl_self]
  dsimp only
  rw [lookupD_storeBlock (fun a => (Config.emWord (m.emAt (m.get ENG_XCHG_STATUS_CUR_BASE c)) a).toNat)]

section
variable {s : State} {c : Fin 4} {g : Fin 132} (hs : s.Running) (h : g.val ∈ (s.m.cl c.val).reloading)
include hs h

theorem controlStoreReloadDone_loads : Yields (.controlStoreReloadDone c g) s fun u =>
    (∀ k, k ∈ (u.m.cl c.val).reloading ↔ k ∈ (s.m.cl c.val).reloading ∧ k ≠ g.val) ∧ u.m.eng.threads = s.m.eng.threads ∧
      (g.val < 128 → u.m.regs = s.m.regs ∧ ∀ a, lookupD (u.m.cl c.val).store a 0 =
        if 256 * g.val ≤ a ∧ a < 256 * g.val + 256 then (Config.emWord (s.m.emAt (s.m.get ENG_XCHG_STATUS_CUR_BASE c.val)) a).toNat
        else lookupD (s.m.cl c.val).store a 0) ∧
      (g.val = 128 → (u.m.cl c.val).store = (s.m.cl c.val).store ∧
        ∀ i, i < 256 → u.m.rd .ENG_DISPATCH (256 * c.val + i) = Config.emDispatch (s.m.emAt (s.m.get ENG_XCHG_STATUS_CUR_BASE c.val)) i) := by
  have htaken := cl_groupTaken s.m c.val g.val
  have hthreads : (s.m.groupTaken c.val g.val).eng.threads = s.m.eng.threads := (threads_setCl s.m c.val _).1
  have hreloading {n : Mod} (hn : (n.cl c.val).reloading = ((s.m.groupTaken c.val g.val).cl c.val).reloading) (k : Nat) :
      k ∈ (n.cl c.val).reloading ↔ k ∈ (s.m.cl c.val).reloading ∧ k ≠ g.val := by
    rw [hn, htaken]
    exact mem_eraseNat
  have hdoes {n : Mod} (hn : s.m.storeReloaded c.val g.val = n) := does_act (exec_controlStoreReloadDone c g s) hs hn
  rcases lt_trichotomy g.val 128 with hlt | heq | hgt
  · obtain ⟨hregs, hloaded, hkept, hwords⟩ := groupLoaded_leaves (s.m.groupTaken c.val g.val) c.val g.val
    refine yields_of_does (hdoes (storeReloaded_words h hlt)) ⟨hreloading hkept, hloaded.trans hthreads, fun _ => ⟨hregs, fun a => ?_⟩,
      fun h128 => absurd hlt (by omega)⟩
    exact (hwords a).trans (by rw [htaken]; rfl)
  · have heng := eng_dispatchLoaded (s.m.groupTaken c.val g.val) c.val
      (Config.emDispatch (s.m.emAt (s.m.get ENG_XCHG_STATUS_CUR_BASE c.val))) 256
    have hcl := (congrArg (EngSt.cl · c.val) heng).trans htaken
    refine yields_of_does (hdoes (storeReloaded_dispatch h heq)) ⟨hreloading (congrArg (fun e : EngSt => (e.cl c.val).reloading) heng),
      (congrArg EngSt.threads heng).trans hthreads, fun h128 => absurd heq (by omega), fun _ => ⟨?_, fun i hi => ?_⟩⟩
    · exact (congrArg Cluster.store hcl :)
    · dsimp only
      rw [rd_dispatchLoaded _ _ c.isLt le_rfl hi]
  · exact yields_of_does (hdoes (storeReloaded_other h hgt)) ⟨hreloading rfl, hthreads, fun h128 => absurd hgt (by omega),
      fun h128 => absurd hgt (by omega)⟩

end

/-- Settles O50: each event of a cluster by its own rule; what it announces and the drift it causes touch event queues alone. -/
theorem clustersChangeHands : Obligations.ClustersChangeHands := by
  unfold Obligations.ClustersChangeHands
  refine ⟨fun s p c v hg hopen hkept hroom => exchangeRequest_stages hg hopen hkept hroom,
    fun s c w hs => ⟨fun h => does_act (exec_exchangeLoadDone c w s) hs (exchangeLoadDone_idle h),
      fun b k hq hphase hl hk => exchangeLoadDone_shows hs hq hphase hl hk⟩,
    fun s p c d hg => ⟨clusterOffline_refused hg, clusterOffline_quiesces hg⟩,
    fun s p c hg hne hrun hstate => clusterRun_returns hg hne hrun hstate,
    fun s c hs => ⟨fun h => does_act (exec_clusterLost c s) hs (if_pos h), clusterLost_shows hs⟩,
    fun s p c v a ha => ?_, fun s c g l hs hl => ?_, fun s p c ph n v i hi => ?_, fun s p c on hg => freeze_shows hg,
    fun s p c i x ho hx => ?_, fun s p c v d hg hd => ?_⟩
  · subst ha
    exact ⟨controlStoreRead_replies, fun ho => ⟨controlStoreWrite_stores ho, controlStoreWrite_refused ho⟩⟩
  · subst hl
    exact ⟨fun h => does_act (exec_controlStoreReloadDone c g s) hs (storeReloaded_idle h), controlStoreReloadDone_loads hs⟩
  · subst hi
    exact ⟨fun hg => yields_of_does (does_put_stores (exec_epcCtrWrite p c ph n v s) hg rfl (by decide) (by decide))
        ((get_written s.m p (f := EPC_CTR_COUNT) _ v (by decide)).trans (congrArg (· % 2 ^ 48) (Nat.div_one _))),
      fun hg => yields_of_does (does_put_stores (exec_epcSelWrite p c ph n v s) hg rfl (by decide) (by decide))
        ((get_written s.m p (f := EPC_SEL_EVENT) _ v (by decide)).trans (congrArg (· % 2 ^ 8) (Nat.div_one _)))⟩
  · subst hx
    exact sampleRead_replies ho
  · subst hd
    have hcons := cons_sampleCons s.m c.val (v.toNat / 2 ^ 16 % 2 ^ 16)
    exact ⟨fun h => yields_of_does (does_sampleConsWrite hg) (hcons.trans (if_pos h)),
      fun h => yields_of_does (does_sampleConsWrite hg) (hcons.trans (if_neg (Nat.not_le.2 h)))⟩

end Sys2Proof.Machine
end
